-- ==== Sys2Proof/Word.lean ====
section
/-!
DEFINITION. The plain types of the part: a register word, a byte and a bit field.
-/
namespace Sys2Proof

/-- Every register is 32 bits wide (R8). -/
abbrev Word := BitVec 32

/-- One byte. -/
abbrev Byte := BitVec 8

/-- A field of a register: its lowest bit and its width in bits (Table 0-3). -/
structure Fld where
  lo : Nat
  width : Nat
  deriving DecidableEq, Repr

end Sys2Proof
end

