-- ==== Sys2Proof/Syntax.lean ====
section
/-!
DEFINITION. The commands of the part, one constructor for each row of the opcode table, and the types of their operands.  The numbers of tiles,
paths, processors and the like are bounded by their types; what a command's operands must meet besides stands in WellFormed.lean.
-/
namespace Sys2Proof

/-- What a DRAM command slot is used for (R365 to R369): the request the arbiter picks, with what the random source of R368 shows should it need an activate;
or the refresh of a bank. -/
inductive DramSlot where
  | request (random : Nat)
  | refreshBank (bank : Nat)
  deriving DecidableEq, Repr

/-- A tone of a calibration measurement (R200, R205): its number, its phase without break from tone to tone in 1/65,536 turn, its power, its signal-to-noise
ratio in dB. -/
structure CalTone where
  k : Int
  phase : Int
  power : Nat
  snr : Nat
  deriving DecidableEq, Repr

/-- What a calibration burst measured on one path in one direction (R205), the device's own internal delays removed: the tones that stand above the noise,
and the amplitude at the RF centre in 1/16 dB relative to the signal level. -/
structure CalMeas where
  path : Fin 16
  tones : List CalTone
  amp : Int
  deriving DecidableEq, Repr

/-- Names a section-symbol: direction (true uplink), carrier, section ID, and the symbol counted from timebase 0. -/
structure SecKey where
  ul : Bool
  car : Nat
  id : Nat
  sym : Nat
  deriving DecidableEq, Repr

/-- What an uncorrectable or parity error in the beam engine strikes (R155, R314): the work on a section-symbol (pipeline, page or
combiner state), a beam entry, a stored description, or stored layer data of a carrier, layer, symbol and resource block. -/
inductive SoftErr where
  | work (key : SecKey)
  | entry (e : Nat)
  | description (key : SecKey)
  | layerData (car layer sym rb : Nat)
  deriving DecidableEq, Repr

/-- An error of an on-die store's word (R359): corrected, or uncorrectable, with what of the beam engine the word held, if anything. -/
inductive StoreErr where
  | corrected
  | uncorrectable (held : Option SoftErr)
  deriving DecidableEq, Repr

/-- How a fetched program word, or a stored word, was found by its error code (R43, R359, R379). -/
inductive Ecc where
  | clean | corrected | fatal
  deriving DecidableEq, Repr

/-- What a bit error of a die-to-die word struck (R16): a single bit, corrected; or, uncorrectable, a downlink sample word or an uplink one
(symbol, carrier, path in the tile, subcarrier), a command bundle on its way to the tile, a register read, the read of a GET of GLIDE_H, a
register write, or the next write that the hub sends to the tile, as a SET of GLIDE_H or a copy of a write through TILE_ALL. -/
inductive D2dHit where
  | corrected
  | txSample (sym : Nat) (car : Fin 4) (path : Fin 16) (sc : Fin 4096)
  | rxSample (sym : Nat) (car : Fin 4) (path : Fin 16)
  | bundle
  | read
  | get
  | write
  | nextWrite
  deriving DecidableEq, Repr

/-- The commands, in the order of the opcode table. -/
inductive Instr where
  /-- REGISTER_WRITE (R11): A write to a register that has no step of its own sets its fields under its access codes and any mode
  restriction. -/
  | registerWrite (a : BitVec 28) (w : Word) (bytes : BitVec 4) (lat : Fin 4) (ofs : Int) (raced : Word)
  /-- UNOCCUPIED_READ (R9): A read of an unoccupied offset, a powered-down block or a block blocked in Boot returns zero and raises
  REG_ACCESS_ERROR. -/
  | unoccupiedRead (a : BitVec 28)
  /-- TILE_ALL_READ (R10): A read through the broadcast die code returns zero and raises REG_ACCESS_ERROR. -/
  | tileAllRead (ofs : BitVec 24)
  /-- BROADCAST_WRITE (R27): A write through TILE_ALL reaches the same offset in all four tiles within 64 ns. -/
  | broadcastWrite (ofs : BitVec 24) (w : Word)
  /-- D2D_WORD_ERROR (R16): A die-to-die word arrives with a bit error; a single-bit error is corrected and counted, and an uncorrectable
  error is handled by traffic kind. -/
  | d2dWordError (t : Fin 4) (hit : D2dHit)
  /-- HUB_LINK_TIMEOUT (R18): A tile has received nothing from the hub for more than 2,048 Tc, so it mutes its DACs, lowers its PAEN pins
  and runs the shutdown orders. -/
  | hubLinkTimeout (t : Fin 4)
  /-- POR_N_ASSERT (R32): Assertion of POR_N takes the outputs to their unpowered states, clears the start counters and cuts short any
  transition. -/
  | porNAssert
  /-- POR_N_RELEASE (R32): Release of POR_N with the supplies valid samples the straps and begins a cold start. -/
  | porNRelease (gpio : BitVec 2)
  /-- WARM_N_PULSE (R32): A WARM_N pulse of at least 1 µs places the DRAM in self-refresh and begins a warm start. -/
  | warmNPulse
  /-- MODE_TRANSITION_DONE (R36): A mode transition in progress ends; the new mode is recorded and any pending request is judged against
  it. -/
  | modeTransitionDone (after : Nat)
  /-- QUIET_RESUME_BOUNDARY (R35): The first subframe boundary at least 2,048 Tc after an accepted On-air request from Quiet ends the
  mute. -/
  | quietResumeBoundary
  /-- AT (R48): Opens a bundle at an absolute time; the bundle is queued locally or pushed to the tile FIFOs when its last member issues.
  -/
  | glideAt (p : Fin 5) (ecc : Ecc) (eccs : List Ecc)
  /-- AT_REL (R48): Opens a bundle at BT plus an unsigned offset. -/
  | glideAtRel (p : Fin 5) (ecc : Ecc) (eccs : List Ecc)
  /-- AT_QUEUE_STALL_RELEASE (R52): A processor stalled at an AT resumes when its dispatch queue or the named FIFOs have room. -/
  | atQueueStallRelease (p : Fin 5)
  /-- BUNDLE_DISPATCH (R53): A bundle reaches the head of its dispatcher and is applied on time, applied at once when late with L = 1, or
  skipped. -/
  | bundleDispatch (remote : Bool) (n : Fin 5)
  /-- ALIGN (R68): Arms an alignment of the sample clocks of this tile or of the tiles in TMASK. -/
  | glideAlign (p : Fin 5) (ecc : Ecc)
  /-- WAITEV (R64): Waits for a routed Hive source pending flag. -/
  | glideWaitev (p : Fin 5) (ecc : Ecc)
  /-- WAITEV_COMPLETE (R64): A waited-for event arrives; the edge flag is cleared and RD is set to 0. -/
  | waitevComplete (p : Fin 5)
  /-- WAITLOCK (R65): Waits for a selected synthesiser to be locked, after the earlier SETs have completed. -/
  | glideWaitlock (p : Fin 5) (ecc : Ecc)
  /-- WAITLOCK_COMPLETE (R65): The synthesiser declares lock and RD is set to 0. -/
  | waitlockComplete (p : Fin 5)
  /-- GLIDE_WAIT_TIMEOUT (R65): The TMO of a WAITEV or WAITLOCK expires and RD is set to 1. -/
  | glideWaitTimeout (p : Fin 5)
  /-- TXON (R84): At its effect instant opens transmit carrier gates, unless the SPLL is unlocked. -/
  | radioTxon (t : Fin 4)
  /-- TXOFF (R84): At its effect instant closes transmit carrier gates with the tile ramp. -/
  | radioTxoff (t : Fin 4)
  /-- RXON (R113): At its effect instant opens receive carrier gates. -/
  | radioRxon (t : Fin 4)
  /-- RXOFF (R113): At its effect instant closes receive carrier gates. -/
  | radioRxoff (t : Fin 4)
  /-- GAIN (R117): At its effect instant sets the transmit gain trim, or changes the step-attenuator code now or arms it for a symbol
  boundary. -/
  | radioGain (t : Fin 4)
  /-- NCO (R80): At its effect instant sets a carrier tuning word phase-continuously and marks an invalid run of 12. -/
  | radioNco (t : Fin 4)
  /-- FILT (R78): At its effect instant sets the carrier response and ratio and optionally the Nyquist zone. -/
  | radioFilt (t : Fin 4)
  /-- BEAMSET (R55): Sets the timeline beam of a direction and layer, superseding speculative results that used the old value. -/
  | radioBeamset
  /-- PAEN (R216): Sets recorded PAEN bits, or issues a power-up or shutdown request to quads. -/
  | radioPaen (t : Fin 4)
  /-- CAPT (R125): At its effect instant starts, replaces or ends a capture on a descriptor, or rejects it. -/
  | radioCapt (t : Fin 4)
  /-- CALB (R201): At its effect instant starts a calibration burst of the chosen kind, or refuses it. -/
  | radioCalb (t : Fin 4)
  /-- SET (R67): Posts a register write from a Glide processor. -/
  | glideSet (p : Fin 5) (ecc : Ecc)
  /-- GET (R67): Issues a register read after earlier SETs have completed and stalls. -/
  | glideGet (p : Fin 5) (ecc : Ecc)
  /-- GET_RETURN (R67): The data of a GET returns to its destination register and the processor resumes. -/
  | getReturn (p : Fin 5) (after : Fin 1025)
  /-- SIG (R48): Stores CODE in SIG_CODE and raises GLIDE_SIG. -/
  | glideSig (p : Fin 5) (ecc : Ecc)
  /-- LOOP (R48): Starts a loop or skips it when the count is zero. -/
  | glideLoop (p : Fin 5) (ecc : Ecc)
  /-- ENDL (R48): Decrements the innermost loop count and jumps back or pops. -/
  | glideEndl (p : Fin 5) (ecc : Ecc)
  /-- JMP (R48): Jumps to an immediate or register target. -/
  | glideJmp (p : Fin 5) (ecc : Ecc)
  /-- CALL (R48): Pushes the return index and jumps. -/
  | glideCall (p : Fin 5) (ecc : Ecc)
  /-- RET (R48): Pops the program counter from the call stack. -/
  | glideRet (p : Fin 5) (ecc : Ecc)
  /-- HALT (R45): Stops the processor. -/
  | glideHalt (p : Fin 5) (ecc : Ecc)
  /-- MOV (R48): Moves an immediate, a register, a high half or the timebase into a register. -/
  | glideMov (p : Fin 5) (ecc : Ecc)
  /-- ADD (R48): Adds modulo 2^64. -/
  | glideAdd (p : Fin 5) (ecc : Ecc)
  /-- SUB (R48): Subtracts modulo 2^64. -/
  | glideSub (p : Fin 5) (ecc : Ecc)
  /-- AND (R48): Bitwise AND. -/
  | glideAnd (p : Fin 5) (ecc : Ecc)
  /-- OR (R48): Bitwise OR. -/
  | glideOr (p : Fin 5) (ecc : Ecc)
  /-- SHL (R48): Logical shift left. -/
  | glideShl (p : Fin 5) (ecc : Ecc)
  /-- SHR (R48): Logical shift right. -/
  | glideShr (p : Fin 5) (ecc : Ecc)
  /-- CMP (R48): Compares and sets Z, LT and LTU. -/
  | glideCmp (p : Fin 5) (ecc : Ecc)
  /-- BR (R48): Branches when the condition holds on the flags. -/
  | glideBr (p : Fin 5) (ecc : Ecc)
  /-- FENCE (R66): Waits for the selected queue, SET and FIFO conditions. -/
  | glideFence (p : Fin 5) (ecc : Ecc)
  /-- FENCE_RELEASE (R66): All conditions of a FENCE hold and the processor resumes in the next cycle. -/
  | fenceRelease (p : Fin 5)
  /-- GLIDE_GO (R45): A write of CTRL.GO restarts a halted or faulted processor at START_PC. -/
  | glideGo (p : Fin 5) (w : Word)
  /-- GLIDE_IMEM_DATA_HI_WRITE (R44): Stores a whole instruction word at IMEM_ADDR and increments the address. -/
  | glideImemDataHiWrite (p : Fin 5) (w : Word)
  /-- GLIDE_IMEM_DATA_LO_READ (R44): Fetches the word at IMEM_ADDR into both data registers. -/
  | glideImemDataLoRead (p : Fin 5)
  /-- GLIDE_IMEM_DATA_HI_READ (R44): Returns the high half and increments IMEM_ADDR. -/
  | glideImemDataHiRead (p : Fin 5)
  /-- GLIDE_GREG_LO_READ (R70): Returns the low half of the selected register and captures the high half. -/
  | glideGregLoRead (p : Fin 5)
  /-- GLIDE_BT_LO_READ (R70): Returns the low half of BT and captures the high half. -/
  | glideBtLoRead (p : Fin 5)
  /-- TILE_EN_WRITE (R63): Selects the tiles that receive remote bundles; clearing a bit discards that FIFO. -/
  | tileEnWrite (w : Word)
  /-- TX_RF_HI_WRITE (R79): Commits the transmit RF word in Configure and may clear the transmit calibration validity. -/
  | txRfHiWrite (t : Fin 4) (w : Word)
  /-- TX_CAR_NCO_HI_WRITE (R80): Applies a whole transmit tuning word to the selected carrier and path, untimed. -/
  | txCarNcoHiWrite (t : Fin 4) (w : Word)
  /-- TX_CAR_FILT_WRITE (R78): Applies a transmit response and ratio to the selected carrier and path, untimed. -/
  | txCarFiltWrite (t : Fin 4) (w : Word)
  /-- TX_TRIM_ARM_WRITE (R88): Arms the transmit delay and phase shadows of the masked paths. -/
  | txTrimArmWrite (t : Fin 4) (pmask : BitVec 16)
  /-- TX_GAIN_TRIM_WRITE (R89): Sets a path gain trim within 512 Tc. -/
  | txGainTrimWrite (t : Fin 4) (i : Fin 16) (w : Word)
  /-- TRIM_APPLY (R88): At the subframe boundary armed transmit or receive trims take effect and may mark an invalid run. -/
  | trimApply (t : Fin 4) (rx : Bool)
  /-- TX_SYMBOL_DEADLINE (R76): At the start of the preceding symbol the tile checks that a symbol's data is complete, and substitutes
  zeros for any missing word. -/
  | txSymbolDeadline (t : Fin 4) (c : Fin 4)
  /-- DAC_GATE_IDLE (R85): A path has been idle for 2,048 Tc with DAC gating on, so its DAC stops. -/
  | dacGateIdle (t : Fin 4) (i : Fin 16)
  /-- RX_RF_HI_WRITE (R104): Commits the receive RF word in Configure. -/
  | rxRfHiWrite (t : Fin 4) (w : Word)
  /-- RX_CAR_NCO_HI_WRITE (R109): Applies a receive tuning word, untimed. -/
  | rxCarNcoHiWrite (t : Fin 4) (w : Word)
  /-- RX_CAR_FILT_WRITE (R110): Applies a receive response and ratio, untimed. -/
  | rxCarFiltWrite (t : Fin 4) (w : Word)
  /-- RX_ZONE_WRITE (R105): Changes the Nyquist zones of paths within 512 Tc. -/
  | rxZoneWrite (t : Fin 4) (w : Word)
  /-- RX_TRIM_ARM_WRITE (R103): Arms the receive delay and phase shadows. -/
  | rxTrimArmWrite (t : Fin 4) (pmask : BitVec 16)
  /-- GAIN_BOUNDARY_APPLY (R118): At boundary B an S = 1 gain step starts, with compensation following after STEP_SETTLE. -/
  | gainBoundaryApply (t : Fin 4) (i : Fin 16)
  /-- AGC_DECISION (R119): At a reference symbol boundary gain control may raise or lower the code. -/
  | agcDecision (t : Fin 4) (i : Fin 16)
  /-- POWER_BLOCK_RESULT (R121): A power-measurement or wideband block completes and updates the rank filter, the averager and the result.
  -/
  | powerBlockResult (t : Fin 4) (i : Fin 16) (wide : Bool)
  /-- PM_CFG_WRITE (R121): A write of a measurement configuration resets that measurement. -/
  | pmCfgWrite (t : Fin 4) (wide : Bool) (w : Word)
  /-- RX_SYMBOL_DELIVER (R114): A receive symbol's last word reaches the hub with its mark. -/
  | rxSymbolDeliver (t : Fin 4) (i : Fin 16) (c : Fin 4) (sym : Nat)
  /-- CAPTURE_GRANULE (R128): A capture granule completes and is written, ending the capture at LEN, at a full region or on overrun. -/
  | captureGranule (t : Fin 4) (d : Fin 16)
  /-- SLALOM_ITEM_START (R146): A work item whose compute window is open enters the pipeline and takes pages. -/
  | slalomItemStart
  /-- SLALOM_ITEM_COMPLETE (R146): A work item completes with a speculative result. -/
  | slalomItemComplete
  /-- COMMIT_HORIZON (R149): At H(s) section-symbols commit their results or fall back, and downlink dispatch begins. -/
  | commitHorizon (ul : Bool) (c : Fin 4)
  /-- DL_DISPATCH_DONE (R145): The last word of a downlink symbol leaves the hub, freeing committed pages and retiring entries. -/
  | dlDispatchDone (c : Fin 4) (after : Nat)
  /-- UL_HANDOVER (R138): An uplink section-symbol's output is handed to compression or to the Burog link, and its frames are built and
  journalled. -/
  | ulHandover (c : Fin 4) (layer : Fin 32) (after : Nat)
  /-- ENGINE_SOFT_ERROR (R155): An uncorrectable or parity error in the beam engine triggers a replay or the loss of an entry. -/
  | engineSoftError (hit : SoftErr)
  /-- BEAM_DEFINE (R143): BEAM_CMD OP 1 defines an ID unpinned from BEAM_DATA. -/
  | beamDefine (id : BitVec 15)
  /-- BEAM_DEFINE_PINNED (R141): BEAM_CMD OP 2 defines a pinned ID. -/
  | beamDefinePinned (id : BitVec 15)
  /-- BEAM_DELETE (R143): BEAM_CMD OP 3 deletes an ID. -/
  | beamDelete (id : BitVec 15)
  /-- BEAM_READ (R143): BEAM_CMD OP 4 copies a definition into BEAM_DATA. -/
  | beamRead (id : BitVec 15)
  /-- BEAM_CMD_DONE (R143): A host beam command completes at its acceptance instant and supersedes affected work. -/
  | beamCmdDone (after : Fin 1025)
  /-- PSUM_WAIT_EXPIRY (R161): The upstream partial-sum wait ends without a record; the part continues with its own sum and marks it. -/
  | psumWaitExpiry
  /-- DPD_SWAP_ARM_WRITE (R169): Arms a bank swap for the masked paths. -/
  | dpdSwapArmWrite (t : Fin 4) (pmask : BitVec 16)
  /-- DPD_SWAP_APPLY (R169): At the swap boundary active and shadow banks exchange and the ENABLE bit is copied. -/
  | dpdSwapApply (t : Fin 4)
  /-- DPD_TBL_DATA_WRITE (R167): Writes a table word to a shadow bank and advances the address. -/
  | dpdTblDataWrite (t : Fin 4) (w : Word)
  /-- DPD_TBL_DATA_READ (R167): Reads a table word and advances the address. -/
  | dpdTblDataRead (t : Fin 4)
  /-- TRAINING_BUFFER_READY (R179): A training acquisition is resampled, aligned, paired and judged 4,096 Tc after its capture ends. -/
  | trainingBufferReady (t : Fin 4) (r : Fin 2)
  /-- DPD_ACCUMULATION_DONE (R185): An acquisition has been accumulated into its job; a full job starts its solve. -/
  | dpdAccumulationDone
  /-- DPD_SOLVE_DONE (R186): A job's solve ends with an outcome; a written outcome starts the table write. -/
  | dpdSolveDone
  /-- DPD_TABLE_WRITE_DONE (R186): Solver tables are written to the shadow bank and the swap is armed, or an update is reported. -/
  | dpdTableWriteDone
  /-- COEF_IDENTITY (R189): COEF_CMD OP 1 sets the identity coefficients and tables of a path. -/
  | coefIdentity (path : Fin 64)
  /-- COEF_TABLES_FROM_COEF (R189): COEF_CMD OP 2 writes the tables of a path from its coefficients. -/
  | coefTablesFromCoef (path : Fin 64)
  /-- COEF_CMD_DONE (R189): A coefficient command finishes its table write and clears CMD_BUSY. -/
  | coefCmdDone
  /-- COEF_DATA_ACCESS (R189): A coefficient word is read or written and the address advances. -/
  | coefDataAccess (write : Option Word)
  /-- DFLY_CTRL_WRITE (R172): Applies TRAIN_EN, and changes SIDE only in Configure. -/
  | dflyCtrlWrite (t : Fin 4) (w : Word)
  /-- IMAGE_CAL_END (R176): An image calibration occupation ends and its correction is applied or kept. -/
  | imageCalEnd (t : Fin 4) (r : Fin 2) (rej : BitVec 8) (taps : List (Int × Int))
  /-- CAL_CMD_ARRAY_TX (R201): CAL_CMD GO with KIND 0 schedules an array transmit burst. -/
  | calCmdArrayTx (t : Fin 4) (pmask : BitVec 16)
  /-- CAL_CMD_ARRAY_RX (R201): CAL_CMD GO with KIND 1 schedules an array receive burst. -/
  | calCmdArrayRx (t : Fin 4) (pmask : BitVec 16)
  /-- CAL_CMD_RECIPROCITY (R201): CAL_CMD GO with KIND 2 schedules a reciprocity burst. -/
  | calCmdReciprocity (t : Fin 4) (pmask : BitVec 16)
  /-- CAL_CMD_IMAGE (R201): CAL_CMD GO with KIND 3 schedules a Dragonfly image burst. -/
  | calCmdImage (t : Fin 4) (pmask : BitVec 16)
  /-- CAL_BURST_START (R201): A CAL_CMD burst reaches its effect instant and starts or is refused. -/
  | calBurstStart (t : Fin 4)
  /-- CAL_BURST_RESULTS (R205): A burst's results are computed and recorded, trims are written and armed, and stamps are taken. -/
  | calBurstResults (t : Fin 4) (after : Fin 16385) (tx : List CalMeas) (rx : List CalMeas)
  /-- ADC_CAL_UPDATE (R195): Every 1,024 Tc the background ADC calibration updates its corrections. -/
  | adcCalUpdate (t : Fin 4) (i : Fin 16) (corrections : List Int) (converged : Bool)
  /-- DAC_CELL_CAL_DONE (R197): All DAC cells of a path have been measured and DAC_OK is set. -/
  | dacCellCalDone (t : Fin 4) (i : Fin 16)
  /-- SEQ_POWER_UP (R215): SEQ.CMD OP 1 issues a power-up request to quads. -/
  | seqPowerUp (t : Fin 4) (qmask : BitVec 4)
  /-- SEQ_SHUTDOWN (R215): SEQ.CMD OP 2 issues a shutdown request to quads. -/
  | seqShutdown (t : Fin 4) (qmask : BitVec 4)
  /-- SEQ_CLEAR_FAULT (R215): SEQ.CMD OP 3 is a shutdown request to a quad in FAULT. -/
  | seqClearFault (t : Fin 4) (qmask : BitVec 4)
  /-- GATEOK_CHANGE (R213): A GATEOK change is seen 32 Tc after the pin, altering whether gate bias is present.  It was at the pin
  `ago` Tc ago; `brief`: the level lasts less than 32 Tc. -/
  | gateokChange (t : Fin 4) (q : Fin 4) (level : Bool) (ago : Fin 33) (brief : Bool)
  /-- SEQ_GATE_SETTLE_END (R214): T_GATE ends with bias present, so DRAINEN rises. -/
  | seqGateSettleEnd (t : Fin 4) (q : Fin 4)
  /-- SEQ_DRAIN_SETTLE_END (R214): T_DRAIN ends and the quad becomes READY. -/
  | seqDrainSettleEnd (t : Fin 4) (q : Fin 4)
  /-- SEQ_PAOFF_END (R214): T_PAOFF ends and DRAINEN falls. -/
  | seqPaoffEnd (t : Fin 4) (q : Fin 4)
  /-- SEQ_DRAINOFF_END (R219): T_DRAINOFF ends; the gate outputs are handled and the quad goes OFF. -/
  | seqDrainoffEnd (t : Fin 4) (q : Fin 4)
  /-- SEQ_GOK_TIMEOUT (R214): Gate bias is not present within GOK_TMO. -/
  | seqGokTimeout (t : Fin 4) (q : Fin 4)
  /-- SEQ_FAULT_ENTRY (R218): 64 Tc after a cause is seen the quad enters FAULT, dropping its PAEN pins and DRAINEN. -/
  | seqFaultEntry (t : Fin 4) (q : Fin 4)
  /-- BIAS_CFG_WRITE (R221): Enables or disables a bias output or changes its range, subject to locking. -/
  | biasCfgWrite (t : Fin 4) (i : Fin 16) (w : Word)
  /-- BIAS_RANGE_CHANGE_END (R221): 25 µs after the latest range write the output returns to DRIVE at its safe code. -/
  | biasRangeChangeEnd (t : Fin 4) (i : Fin 16)
  /-- BIAS_CODE_WRITE (R223): Appends a code to an output's queue. -/
  | biasCodeWrite (t : Fin 4) (i : Fin 16) (w : Word)
  /-- BIAS_UPDATE_TICK (R223): An update tick moves a queued code or a sine value into force. -/
  | biasUpdateTick (t : Fin 4) (i : Fin 16)
  /-- BIAS_READBACK (R226): Every 64 µs an output in DRIVE is read back and compared. -/
  | biasReadback (t : Fin 4) (i : Fin 16) (reading : BitVec 12)
  /-- RFFE_REGISTER0_WRITE (R228): Queues a Register 0 Write. -/
  | rffeRegister0Write (t : Fin 4) (q : Fin 4) (usid : BitVec 4) (addr : BitVec 16) (data : Byte)
  /-- RFFE_REGISTER_WRITE (R228): Queues a Register Write. -/
  | rffeRegisterWrite (t : Fin 4) (q : Fin 4) (usid : BitVec 4) (addr : BitVec 16) (data : Byte)
  /-- RFFE_REGISTER_READ (R228): Queues a Register Read. -/
  | rffeRegisterRead (t : Fin 4) (q : Fin 4) (usid : BitVec 4) (addr : BitVec 16) (data : Byte)
  /-- RFFE_EXT_REGISTER_WRITE (R228): Queues an Extended Register Write. -/
  | rffeExtRegisterWrite (t : Fin 4) (q : Fin 4) (usid : BitVec 4) (addr : BitVec 16) (data : Byte)
  /-- RFFE_EXT_REGISTER_READ (R228): Queues an Extended Register Read. -/
  | rffeExtRegisterRead (t : Fin 4) (q : Fin 4) (usid : BitVec 4) (addr : BitVec 16) (data : Byte)
  /-- RFFE_EXT_LONG_WRITE (R228): Queues an Extended Register Write Long. -/
  | rffeExtLongWrite (t : Fin 4) (q : Fin 4) (usid : BitVec 4) (addr : BitVec 16) (data : Byte)
  /-- RFFE_EXT_LONG_READ (R228): Queues an Extended Register Read Long. -/
  | rffeExtLongRead (t : Fin 4) (q : Fin 4) (usid : BitVec 4) (addr : BitVec 16) (data : Byte)
  /-- RFFE_FRAME_DONE (R228): A frame on the bus completes; a read result enters the FIFO and the next frame may start. -/
  | rffeFrameDone (t : Fin 4) (q : Fin 4) (data : Byte) (bad : Bool)
  /-- RFFE_TIMED_FRAME_START (R229): A step-attenuator frame starts at its instant or as soon as the bus frees. -/
  | rffeTimedFrameStart (t : Fin 4) (q : Fin 4)
  /-- RFFE_RD_READ (R228): A read of RD_q returns and removes the oldest result. -/
  | rffeRdRead (t : Fin 4) (q : Fin 4)
  /-- LANE_REQ_WRITE (R248): A write of LCTRL requests a lane power state and sets loops and patterns. -/
  | laneReqWrite (l : Fin 16) (w : Word)
  /-- LANE_FULL_ADAPT (R249): FULL_ADAPT discards coefficients and adapts anew. -/
  | laneFullAdapt (l : Fin 16) (w : Word)
  /-- LANE_EPOCH (R242): A 1 ms adaptation epoch ends and yields a FOM; a resuming lane may become ACTIVE. -/
  | laneEpoch (l : Fin 16) (fom : BitVec 8) (signal : Bool) (cdr : Bool) (errors : Nat)
  /-- LANE_RESUME_TIMEOUT (R249): Resuming has not reached FOM_MIN in 2 ms, so the lane falls back to adapting. -/
  | laneResumeTimeout (l : Fin 16)
  /-- LANE_ADAPT_DONE (R249): Full adaptation completes and the lane becomes ACTIVE. -/
  | laneAdaptDone (l : Fin 16)
  /-- LANEQ_PLL_LOCK_CHANGE (R250): A lane-quad PLL gains or loses lock, moving its lanes. -/
  | laneqPllLockChange (n : Fin 4) (locked : Bool)
  /-- EYE_SCAN_GO (R244): Starts measuring one eye point, or rejects it. -/
  | eyeScanGo (w : Word)
  /-- EYE_SCAN_DONE (R244): An eye point completes or aborts and its result is recorded. -/
  | eyeScanDone (errors : Nat)
  /-- MAC_LINK_CHANGE (R238): A port link goes up or down.  `skew`: between its lanes at the pins, in ns (R237). -/
  | macLinkChange (p : Fin 8) (aligned : Bool) (localFault : Bool) (remoteFault : Bool) (skew : Nat)
  /-- ETH_FRAME_RECEIVE (R239): A received Ethernet frame is classified and passed on or discarded.  Its first bit came
  `ago` Tc ago (R238). -/
  | ethFrameReceive (p : Fin 8) (bytes : List Byte) (fcsError : Bool) (ago : Nat)
  /-- FH_DATA_MESSAGE (R263): A type 0 fronthaul message is checked, windowed by SEQ_ID and timed, and its layer data is stored. -/
  | fhDataMessage
  /-- FH_CONTROL_MESSAGE (R265): A type 2 message is checked and parsed whole, and its commands act in order at its acceptance instant. -/
  | fhControlMessage
  /-- SECTION_CMD (R266): Describes a section for its symbols and is judged by version. -/
  | sectionCmd
  /-- CANCEL_CMD (R268): Removes a section from symbols at a newer version. -/
  | cancelCmd
  /-- BEAM_DEF_CMD (R269): Defines or redefines a beam ID from the baseband. -/
  | beamDefCmd
  /-- BEAM_DEL_CMD (R269): Deletes a beam ID from the baseband. -/
  | beamDelCmd
  /-- RESEND_CMD (R277): Requests replay of journalled uplink frames, or is rejected. -/
  | resendCmd
  /-- RESEND_SERVE (R278): An accepted resend is served, replaying frames and sending GONE for runs that cannot be replayed. -/
  | resendServe
  /-- DL_STATUS_SEND (R274): At A(s − 1) a DL_STATUS lists the marked downlink section-symbols. -/
  | dlStatusSend (c : Fin 4)
  /-- ECPRI_DELAY_REQUEST (R281): A Request or Request with Follow_Up is answered with a Response. -/
  | ecpriDelayRequest
  /-- ECPRI_DELAY_REMOTE_REQUEST (R281): A Remote Request causes the device to send a Request, with or without Follow_Up. -/
  | ecpriDelayRemoteRequest
  /-- ECPRI_DELAY_RESPONSE (R281): A received Response is passed to Rilyn. -/
  | ecpriDelayResponse
  /-- ECPRI_DELAY_FOLLOW_UP (R281): A received Follow_Up is discarded. -/
  | ecpriDelayFollowUp
  /-- BUROG_FLIT_RECEIVE (R287): A flit is received; a passing DATA flit is accepted and a failed flit enters recovery with a NAK.
  It came on lane `lane` of the port. -/
  | burogFlitReceive (k : Fin 2) (lane : Fin 4) (header : Word) (payload : BitVec 256) (crc : Word)
  /-- BUROG_NAK_REPEAT (R290): The NAK is repeated every NAK_TMO while in recovery. -/
  | burogNakRepeat (k : Fin 2)
  /-- BUROG_NAK (R291): A received NAK acknowledges earlier flits and starts a replay. -/
  | burogNak (k : Fin 2) (n : BitVec 12)
  /-- BUROG_RETRY_TIMEOUT (R291): The ACK has not advanced for RETRY_TMO, so the sender replays; after RETRY_MAX replays the port goes
  DOWN. -/
  | burogRetryTimeout (k : Fin 2)
  /-- BUROG_TRAIN_COMPLETE (R297): 64 TRAIN flits pass and the port enters RUN or REFUSED, settling IDs.  `skew`: between the
  lanes, in ns. -/
  | burogTrainComplete (k : Fin 2) (skew : Nat)
  /-- PSUM_MESSAGE (R295): A partial-sum record is used for its section-symbol or discarded. -/
  | psumMessage
  /-- GROUP_MESSAGE (R298): A GROUP message latches and forwards the group size, or conflicts. -/
  | groupMessage
  /-- TIME_MESSAGE (R333): A received TIME message yields an offset sample and caps the quality. -/
  | timeMessage (ago : Nat)
  /-- TIME_MESSAGE_SEND (R333): Every 1 ms a TIME message is sent on the UP port. -/
  | timeMessageSend
  /-- MPLANE_RELAY_MESSAGE (R436): A relayed management request, reply or trailer crosses the Burog link. -/
  | mplaneRelayMessage (k : Fin 2) (msg : BitVec 4)
  /-- BUROG_RETRAIN (R297): CMD.RETRAIN sends both ports DOWN to train again. -/
  | burogRetrain
  /-- BUROG_CLEAR_IDS (R298): CMD.CLEAR_IDS clears ID_VALID and K_VALID in Configure. -/
  | burogClearIds
  /-- CU_START (R303): CMD OP 1 resets run to INIT and optionally folds the prefix. -/
  | cuStart (u : Fin 16)
  /-- CU_FOLD_PREFIX (R303): CMD OP 2 folds the prefix without reset. -/
  | cuFoldPrefix (u : Fin 16)
  /-- CU_DATA_W_WRITE (R304): Folds four bytes. -/
  | cuDataWWrite (u : Fin 16) (w : Word)
  /-- CU_DATA_B_WRITE (R304): Folds one byte. -/
  | cuDataBWrite (u : Fin 16) (w : Word)
  /-- CU_RUN_HI_WRITE (R305): Commits a whole running value. -/
  | cuRunHiWrite (u : Fin 16) (w : Word)
  /-- CU_RUN_LO_READ (R305): Returns run bits [31:0] and captures the high half. -/
  | cuRunLoRead (u : Fin 16)
  /-- CU_RESULT_LO_READ (R305): Returns result bits [31:0] and captures the high half. -/
  | cuResultLoRead (u : Fin 16)
  /-- PTP_OFFSET_SAMPLE (R323): An offset sample is judged and discarded, used to step, refused, or accepted to update the rate. -/
  | ptpOffsetSample (theta : Int) (age : Nat) (gm : BitVec 64)
  /-- OFS_IN_HI_WRITE (R321): Delivers a host offset sample when SRC = 3. -/
  | ofsInHiWrite (w : Word)
  /-- TIME_NEW_EPOCH (R322): CMD.NEW_EPOCH begins an acquisition epoch. -/
  | timeNewEpoch
  /-- TIME_CTRL_WRITE (R322): A CTRL write that changes SRC or COMPAT begins an epoch. -/
  | timeCtrlWrite (w : Word)
  /-- TIME_SOURCE_LOSS (R321): The sample source is lost on its timeout. -/
  | timeSourceLoss
  /-- PPS_IN_EDGE (R331): A PPS_IN edge is timestamped and may yield a sample. -/
  | ppsInEdge
  /-- TSYNC_IN_EDGE (R332): A TSYNC_IN edge is timestamped and may trigger armed divider changes and alignments. -/
  | tsyncInEdge (delay : Nat)
  /-- PPS_OUT_PULSE (R331): PPS_OUT rises at each second plus offset. -/
  | ppsOutPulse
  /-- TSYNC_OUT_PULSE (R332): TSYNC_OUT pulses at chosen frame boundaries. -/
  | tsyncOutPulse
  /-- TB_LO_READ (R316): Returns timebase bits [31:0] and captures bits [63:32]. -/
  | tbLoRead
  /-- KEEPER_RATIO_WINDOW (R328): A 65,536-tick ratio window completes and updates the keeper ratio. -/
  | keeperRatioWindow (tc : Nat)
  /-- KEEPER_EXIT (R329): On exit from sleep the timebase is restored from the keeper or left unrestored, and an epoch begins. -/
  | keeperExit (count : Nat) (stopped : Bool)
  /-- REF_LOSS (R337): The selected reference has no edge for 4,096 Tc; HPLL switches input or coasts. -/
  | refLoss (b : Fin 2) (ofs : Int)
  /-- REF_PRESENT (R352): A reference is present again after REF_QUAL; HPLL acquires with build-out or slew. -/
  | refPresent (b : Fin 2) (ofs : Int)
  /-- REF_SELECT_WRITE (R337): A write that changes HPLL.CTRL.SEL switches the input. -/
  | refSelectWrite (w : Word) (ofs : Int)
  /-- LOCK_WINDOW (R341): A lock detector window ends, leading to lock declared, lock lost or a return from coast. -/
  | lockWindow (k : Fin 14) (err : Nat) (ofs : Int)
  /-- PLL_LOCK_FAIL_TIMEOUT (R342): An SPLL or LPLL has not locked within twice its lock time and calibrates again. -/
  | pllLockFailTimeout (k : Fin 13)
  /-- BAND_CAL_DONE (R335): Band calibration ends and the synthesiser acquires. -/
  | bandCalDone (k : Fin 13)
  /-- COAST_LIMIT (R351): A coast outlasts its limit, muting a tile or taking the part to Quiet. -/
  | coastLimit (k : Fin 5)
  /-- PLL_ARM_WRITE (R344): An HPLL or LPLL ARM write arms the shadows for an event. -/
  | pllArmWrite (target : Fin 5) (w : Word)
  /-- DIVIDER_APPLY (R344): At the armed event the divider shadows take effect and the synthesisers reacquire. -/
  | dividerApply (target : Fin 5)
  /-- SPLL_RECAL (R340): A write of SPLL.CMD.RECAL starts a band calibration and an unlocked interval. -/
  | spllRecal (t : Fin 4)
  /-- TA_LO_READ (R347): Returns t_A bits [31:0] and captures the high half. -/
  | taLoRead (t : Fin 4)
  /-- ALIGN_REFERENCE (R348): At t_A an armed alignment re-phases the tile or fails, and HPLL removes BO_OFS. -/
  | alignReference
  /-- ALIGN_COMPLETE (R348): At t_A + 8,192 Tc the alignment ends. -/
  | alignComplete (t : Fin 4)
  /-- WIN_DATA_READ (R361): Returns a store or DRAM word and advances the window address. -/
  | winDataRead
  /-- WIN_DATA_WRITE (R361): Writes a capture SRAM or DRAM word and advances the address. -/
  | winDataWrite (w : Word)
  /-- DRAM_VERIFY (R372): CMD OP 1 verifies the masked channels. -/
  | dramVerify (mask : BitVec 2)
  /-- DRAM_SWEEP (R372): CMD OP 2 sweeps the masked channels. -/
  | dramSweep (mask : BitVec 2)
  /-- DRAM_TRAINING_END (R373): A verify or sweep ends with ACTIVE, a follow-on sweep, or FAILED.  `read`, `write`: for each byte lane,
lane 0 first, bit d: the test passes at delay d; `pick` chooses among equally wide windows; `after`: Tc since it began, at most its limit. -/
  | dramTrainingEnd (c : Fin 2) (read : List (BitVec 256)) (write : List (BitVec 256)) (pick : Nat) (after : Nat)
  /-- DRAM_PORT_REQUEST (R365): A request arrives at a DRAM port and is buffered, arbitrated or refused for address. -/
  | dramPortRequest (p : Fin 4) (write : Bool) (a : BitVec 40) (bytes : List Byte)
  /-- REFRESH_INTERVAL (R369): At the end of each tREFI the refresh debt rises and may force an all-bank refresh. -/
  | refreshInterval (c : Fin 2)
  /-- PAGE_IDLE_CLOSE (R367): A bank idle for IDLE ns is precharged. -/
  | pageIdleClose (c : Fin 2) (bank : Nat)
  /-- STORE_ECC_ERROR (R359): An on-die store word has an error that is corrected and counted, or is uncorrectable and recorded. -/
  | storeEccError (store : Fin 3) (found : StoreErr) (word : Nat)
  /-- SCARAB_STOP (R393): STOP parks the channel, appending a record when C = 1. -/
  | scarabStop (n : Fin 16) (ecc : List Ecc)
  /-- SCARAB_MOVE (R384): Checks the operands and starts a linear copy. -/
  | scarabMove (n : Fin 16) (ecc : List Ecc)
  /-- SCARAB_MOVEX (R386): Starts a transpose, pack or unpack. -/
  | scarabMovex (n : Fin 16) (ecc : List Ecc)
  /-- SCARAB_SWAP (R384): Starts a byte-order-reversing copy. -/
  | scarabSwap (n : Fin 16) (ecc : List Ecc)
  /-- SCARAB_LOOP (R384): Pushes a loop or skips it. -/
  | scarabLoop (n : Fin 16) (ecc : List Ecc)
  /-- SCARAB_ENDL (R384): Advances the loop index and jumps back or pops. -/
  | scarabEndl (n : Fin 16) (ecc : List Ecc)
  /-- SCARAB_WAIT (R387): Waits on a Hive source or a request line. -/
  | scarabWait (n : Fin 16) (ecc : List Ecc)
  /-- SCARAB_WAIT_DONE (R387): The waited condition holds and the channel continues, clearing the status bit when X = 1. -/
  | scarabWaitDone (n : Fin 16)
  /-- SCARAB_WAIT_TIMEOUT (R387): A WAIT times out and the channel stops with error code 6. -/
  | scarabWaitTimeout (n : Fin 16)
  /-- SCARAB_SIGNAL_INSTR (R384): SIGNAL appends a record with CODE. -/
  | scarabSignal (n : Fin 16) (ecc : List Ecc)
  /-- SCARAB_JUMP (R384): Continues at a target word. -/
  | scarabJump (n : Fin 16) (ecc : List Ecc)
  /-- SCARAB_BURST_START (R388): A request line is asserted and the next burst of a MOVE begins. -/
  | scarabBurstStart (n : Fin 16) (eccBad : Bool)
  /-- SCARAB_REQ_WITHDRAW (R389): A peripheral withdraws its request during a burst. -/
  | scarabReqWithdraw (n : Fin 16) (kept : Nat)
  /-- SCARAB_TRANSFER_DONE (R390): A MOVE, MOVEX or SWAP completes, appending a record if due. -/
  | scarabTransferDone (n : Fin 16) (eccBad : Bool)
  /-- SCARAB_ENABLE (R382): EN changing from 0 to 1 starts a channel at START_PC. -/
  | scarabEnable (n : Fin 16) (w : Word)
  /-- SCARAB_DISABLE (R392): EN changing from 1 to 0 disables a channel at once. -/
  | scarabDisable (n : Fin 16) (w : Word)
  /-- SCARAB_DOORBELL (R393): Makes parked channels re-read their parked word. -/
  | scarabDoorbell (w : Word)
  /-- SCARAB_CONS_IDX_WRITE (R391): Releases records and resumes a ring-stalled channel. -/
  | scarabConsIdxWrite (n : Fin 16) (w : Word)
  /-- SCARAB_PMEM_DATA_HI_WRITE (R380): Stores a program word and advances the address. -/
  | scarabPmemDataHiWrite (w : Word)
  /-- SCARAB_PMEM_DATA_LO_READ (R380): Fetches a program word into both data registers. -/
  | scarabPmemDataLoRead
  /-- SCARAB_PMEM_DATA_HI_READ (R380): Returns the high half and advances the address. -/
  | scarabPmemDataHiRead
  /-- DOMAIN_REQUEST (R404): A DOM_d.REQ write is judged and starts a transition or the wake window, or is refused. -/
  | domainRequest (d : Fin 54) (w : Word) (lat : Fin 4)
  /-- DOMAIN_WINDOW_END (R409): The four-cycle wake window ends and the transition out of ON begins, unless it was aborted. -/
  | domainWindowEnd (d : Fin 54)
  /-- DOMAIN_TRANSITION_END (R405): A domain transition ends and any waiting request is judged. -/
  | domainTransitionEnd (d : Fin 54) (after : Nat)
  /-- WAKE_PIN_EVENT (R408): A wake pin event wakes domains, aborts an entry or is lost in a window. -/
  | wakePinEvent (n : Fin 4) (level : Bool)
  /-- WAKE_TIMER_EXPIRY (R408): The always-on timer expires, reloads, and wakes domains or sets FLAG. -/
  | wakeTimerExpiry
  /-- TIMER_CFG_WRITE (R408): A write of EN = 1 restarts the timer count. -/
  | timerCfgWrite (w : Word)
  /-- SUPPLY_DIP_BEGIN (R412): A main rail has been below warning for 100 ns, so flash and predistortion freeze and the part may mute. -/
  | supplyDipBegin (rails : BitVec 7)
  /-- SUPPLY_DIP_END (R413): The rails have been above warning for 100 ns and the dip is recorded. -/
  | supplyDipEnd (below : Bool)
  /-- WARN_FREEZE_END (R413): 1 ms after the last dip the flash and predistortion freeze ends. -/
  | warnFreezeEnd
  /-- RAIL_RESET_TIMEOUT (R399): A main rail has been below reset for more than 2 µs, so the device enters Standby. -/
  | railResetTimeout
  /-- RAILS_VALID (R399): Every main rail has been in range for 1 ms with POR_N high, so a cold start begins. -/
  | railsValid
  /-- AON_BROWNOUT_DETECT (R402): The always-on supply has been low for more than 10 µs and the domain restarts from reset. -/
  | aonBrownoutDetect
  /-- AON_POWER_UP (R428): VDD_AON rises and the always-on registers take their reset values. -/
  | aonPowerUp
  /-- COLD_START (R416): Runs the start steps building all state from fuses. -/
  | coldStart
  /-- WARM_START (R419): Runs the start steps reusing retained state. -/
  | warmStart
  /-- START_COMPLETE (R416): Step 6 ends; the counters clear, the part enters Configure, and lanes and start calibration begin. -/
  | startComplete (after : Nat)
  /-- START_FAILURE (R418): A start fails with a code, is counted, and the next start or Recovery begins. -/
  | startFailure (code : Fin 8) (step : Fin 16)
  /-- START_WATCHDOG (R418): The start watchdog expires with failure code 6. -/
  | startWatchdog (step : Fin 16)
  /-- START_CAL_PERMIT_TIMEOUT (R425): Calibrate is not permitted within 10 s, so START_CAL_DONE is raised without calibration. -/
  | startCalPermitTimeout
  /-- RECOVERY_POLL (R424): Every second in Recovery Rilyn checks chip select 1 for a valid image. -/
  | recoveryPoll (img : Option (Word × Fin 64))
  /-- GET_ID (R434): Returns the identity and image versions. -/
  | getId
  /-- SET_MODE (R32): Requests a mode transition, judged against Table 1-9. -/
  | setMode
  /-- RESTART (R434): Requests a warm or cold start 1 ms after the response. -/
  | restart
  /-- REC_WRITE (R434): Writes the start record as the newer copy. -/
  | recWrite (ok : Bool)
  /-- REC_READ (R434): Returns the start record. -/
  | recRead
  /-- IMG_BEGIN (R442): Erases the slot that does not hold A to start an update. -/
  | imgBegin (ok : Bool)
  /-- IMG_CHUNK (R442): Writes image data and reads it back. -/
  | imgChunk (ok : Bool)
  /-- IMG_END (R442): Verifies the new image and switches the slot table. -/
  | imgEnd (img : Option (Word × Fin 64))
  /-- IMG_ABORT (R442): Abandons an update. -/
  | imgAbort
  /-- ARB_COMMIT (R443): Raises the fused anti-rollback level. -/
  | arbCommit
  /-- LOG_INFO (R434): Returns the log's number range. -/
  | logInfo
  /-- LOG_READ (R439): Returns log records that pass their check. -/
  | logRead
  /-- SENSOR_READ (R448): Returns a housekeeping value with its validity and age. -/
  | sensorRead
  /-- PTP_GET (R434): Returns a PTP dataset member. -/
  | ptpGet
  /-- PTP_SET (R434): Sets a PTP dataset member. -/
  | ptpSet
  /-- DLY_RESULT (R434): Returns a one-way delay measurement. -/
  | dlyResult
  /-- QSPI_STREAM (R444): Starts a flash stream through the Scarab ports. -/
  | qspiStream
  /-- BUF_DATA_ACCESS (R433): Reads or writes a buffer word and advances BUF_ADDR. -/
  | bufDataAccess (write : Option Word)
  /-- MPLANE_FRAME (R435): An M-plane frame is queued, relayed, answered again, or dropped. -/
  | mplaneFrame
  /-- LOCKSTEP_MISMATCH (R430): The Rilyn cores disagree, causing a start failure or an uncounted warm start. -/
  | lockstepMismatch (step : Fin 16)
  /-- LOG_RECORD_WRITE (R440): A queued log record is written to flash when writes are permitted, erasing a sector if needed. -/
  | logRecordWrite
  /-- HKADC_RESULT (R447): A housekeeping conversion or average completes and is placed in RES. -/
  | hkadcResult (die : Fin 5) (ch : Fin 64) (conv : BitVec 16)
  /-- HKADC_CHCFG_WRITE (R449): A channel configuration write restarts its average. -/
  | hkadcChcfgWrite (die : Fin 5) (ch : Fin 64) (w : Word)
  /-- THERMAL_UPDATE (R451): Every 64 µs a die reading is updated and thresholds, shutdown level and due triggers are judged. -/
  | thermalUpdate (d : Fin 5) (conv : BitVec 16)
  /-- RATE_RECORD (R454): Every 100 ms a reading is recorded and the rate condition judged. -/
  | rateRecord (d : Fin 5)
  /-- XCHECK_EVAL (R456): Every 100 ms die powers are estimated and diodes are marked or cleared as suspect. -/
  | xcheckEval (powers : List (BitVec 16))
  /-- SHUTDOWN_POWER_DOWN (R458): When the page program ends and the quads are off, or at 5 ms, every domain but always-on goes off and
  the part enters Standby. -/
  | shutdownPowerDown (after : Nat)
  /-- CRITICAL_TRIP (R459): The 130 °C comparator trips and the part mutes and powers down within 10 µs. -/
  | criticalTrip (d : Fin 5) (after : Nat)
  /-- CICADA_READ (R461): Every 10 minutes Rilyn reads every ageing monitor. -/
  | cicadaRead (readings : List (List Word))
  /-- STRESS_RATE_RECORD (R462): Every second a stress factor is recorded. -/
  | stressRateRecord (factors : List Nat)
  /-- LIFE_PREDICTION (R462): Every hour remaining life is predicted for each die and the part. -/
  | lifePrediction
  /-- HIVE_SRC_CFG_WRITE (R470): Changes a source's mode and routes and re-judges delivery. -/
  | hiveSrcCfgWrite (src : Fin 256) (w : Word)
  /-- HIVE_STATUS_WRITE (R469): Clears status bits and resends MSI for vectors left pending. -/
  | hiveStatusWrite (k : Fin 8) (w raced : Word)
  /-- COUNTER_FLAG_CLEAR (R471): A write of 1 to a counter flag clears it and zeroes the counter. -/
  | counterFlagClear (a : BitVec 28) (w raced : Word)
  /-- UART_RX_BYTE (R484): A byte received on the debug UART enters the FIFO or is discarded. -/
  | uartRxByte (b : Byte) (stop : Bool)
  /-- TAP_BYPASS (R486): Executes the BYPASS instruction. -/
  | tapBypass
  /-- TAP_SAMPLE_PRELOAD (R486): Executes SAMPLE/PRELOAD. -/
  | tapSamplePreload (cells : List Bool)
  /-- TAP_EXTEST (R487): Drives outputs from the boundary register in Configure or Recovery; otherwise it acts as BYPASS. -/
  | tapExtest
  /-- TAP_IDCODE (R486): Selects the IDCODE register. -/
  | tapIdcode
  /-- MSI_CAPABILITY_WRITE (R469): The host enables MSI or changes the granted vector count in the PCIe MSI capability, and a vector
  already pending is sent then. -/
  | msiCapabilityWrite (on : Bool) (log2 : Fin 6)
  /-- BUROG_FLIT_SEND (R289): At each flit boundary a Burog transmitter sends a pending CTRL flit, a replay, a new DATA flit within its
  credits, or a FILLER, with a filler stripe in place of every 1,024th stripe. -/
  | burogFlitSend (k : Fin 2)
  /-- ETH_FRAME_TRANSMIT (R240): A MAC port finishes sending a frame and takes the next from its eight PCP queues in strict priority,
  taking the egress timestamp of a PTP or type 5 frame. -/
  | ethFrameTransmit (p : Fin 8)
  /-- DRAM_COMMAND_SLOT (R365): At each command slot of a channel the controller serves a port by panic and weighted round robin, drains
  buffers, and a real-time port leaves panic when its level falls to LO. -/
  | dramCommandSlot (c : Fin 2) (use : DramSlot)
  /-- DRAM_INIT_DONE (R374): A channel's JESD209-5 initialisation, after a cold start or after the DRAM PLL relocks, ends and the
  controller begins the verify of the channel. -/
  | dramInitDone (c : Fin 2)
  /-- PTP_SYNC_SEND (R320): A port in master state sends Sync one-step, writing originTimestamp and correctionField at egress, or two-step
  followed by Follow_Up. -/
  | ptpSyncSend (p : Fin 8) (header : List Byte)
  /-- PCIE_PERST_N_RELEASE (R479): Release of PCIE_PERST_N lets the PCIe transmitter leave electrical idle and the endpoint operate under
  the base specification. -/
  | pciePerstNRelease
  /-- TAP_TEST_LOGIC_RESET (R486): TRST_N low, or the TMS reset sequence, puts the TAP in Test-Logic-Reset, which leaves EXTEST and
  returns outputs to their owned states within 1 µs. -/
  | tapTestLogicReset
  deriving DecidableEq, Repr

end Sys2Proof
end

