-- ==== Sys2Proof/Decode.lean ====
section
/-!
DEFINITION. The decoding of a table word.  The opcode table gives no row any bits: its rows are the events and accesses of a block, and none is
spelt by a word.  (The words of Glide and Scarab programs are data in the part's own memories; Glide.lean and Scarab.lean read them.)
-/
namespace Sys2Proof

/-- The command a word spells: none, since no row of the table has bits. -/
def decodeTableWord (_nbits _w : Nat) : Option Instr := none

end Sys2Proof
end

