-- ==== Sys2Proof/Config.lean ====
section
/-!
DEFINITION. What one part fixes and the spec leaves to it: the fuses and the free values.  None has a body a proof can
see: a theorem holds whatever they are.
-/
namespace Sys2Proof.Config

/-- True on stepping A1, false on B0 (Table 0-1). -/
opaque steppingA1 : Bool

/-- Serial number fuses (RILYN.SERIAL_LO, SERIAL_HI; Table 19-11). -/
opaque serial : BitVec 64

/-- Thermal resistance fuses, die d (THERM.THETA_d; Table 20-7). -/
opaque fuseTheta : Nat → BitVec 16

/-- Test-time value of ageing monitor i of die d (CICADA.MON_REF; R461). -/
opaque monRef : Nat → Nat → BitVec 32

/-- Whether a value of a signal chain between two integers, numerator over denominator, is rounded up; the rounding is not stated
(Tables 3-1 and 4-1). -/
opaque roundSample : Int → Int → Bool

/-- Whether a figure in decibels between two steps is rounded up, by the lower step; the rounding is not stated (R121, R186, R190). -/
opaque roundDb : Int → Bool

/-- Whether a magnitude of the gain compensation between two integers is rounded up, by the exponent and the value; the rounding is not stated (R116). -/
opaque roundGain : Nat → Int → Bool

/-- Whether an entry of the sine table of the bias outputs that is no integer is rounded up; the table is not printed (R224). -/
opaque roundSine : Nat → Bool

/-! ### ROM contents of the signal chains, which the spec does not print.  Those of the responses and of the compensator count only where they meet the
tables (Machine/Responses.lean), and are in units of 2^-40; the others are in units of 2^-20 -/

/-- Transmit response r at ratio m: its value at a distance in fifths of a Tc; every response is linear-phase (R78). -/
opaque txTap : BitVec 4 → Nat → Nat → Int
/-- Receive response r at ratio R: its value at a distance in combining-rate samples (R110). -/
opaque rxTap : BitVec 4 → Nat → Nat → Int
/-- Fractional delay of f / 64 sample, f from 1 to 63: coefficient k of 32 (R86). -/
opaque delayTap : Nat → Nat → Int
/-- Path interpolator, phase 0 or 1: coefficient k of 5 (R90, R96). -/
opaque upTap : Nat → Nat → Int
/-- Stage 14 interpolator, phase 0 to 5: coefficient k of 16 (R91). -/
opaque dacTap : Nat → Nat → Int
/-- Inverse-sinc compensator: coefficient at a distance of k DAC samples, k from 0 to 32 (R91). -/
opaque sincTap : Nat → Int
/-- Path decimator of the receive chain: coefficient k of 96 ADC samples (Table 4-1). -/
opaque pathTap : Nat → Int
/-- Resampler of the training acquisitions, by the parity of the observation sample: coefficient k of 24 (R179). -/
opaque resampleTap : Nat → Nat → Int
/-- Filter to the training band, by its edges in kHz from the transmit centre: coefficient k of 65, I and Q (R182). -/
opaque bandTap : Int → Int → Nat → Int × Int
/-- Phase of tone k of the calibration signal, 2^48 to the turn: a fixed ROM sequence (R200). -/
opaque calTone : Int → BitVec 48
/-- Sample of the pattern generator, as parts of its amplitude in units of 2^-15, from the 15 bits of the PRBS register: how bits become samples is not
stated (R94). -/
opaque prbsSample : BitVec 15 → BitVec 16 × BitVec 16

/-! ### The outside: signals at the pins, by model time in fifteenths of a Tc -/

/-- FREE VALUE: the ADC sample of a part-wide path (log entry 87). -/
opaque adcInput : Nat → Nat → BitVec 14
/-- FREE VALUE: I and Q of the converters of Dragonfly receiver 2 t + r, which stand for what its input switch selects (log entry 87). -/
opaque dflyInput : Nat → Nat → BitVec 12 × BitVec 12

/-! ### Fused trims and what calibrations find -/

/-- Fused converter trims of a part-wide path: offset, gain and skew of each of the eight sub-converters (R195). -/
opaque adcTrim : Nat → List Int
/-- Fused offset and gain trims of housekeeping ADC d, the gain in units of 2^-16 (R198). -/
opaque hkTrim : Nat → Int × Int
/-- Rounding of the solver's single-precision arithmetic: what it adds to word w of an exported coefficient of a path at solve n (R184). -/
opaque solverError : Nat → Nat → Nat → Int
/-- The factorisation of a path's job fails in single precision at solve n (outcome 3 of Table 6-3; log entry 14). -/
opaque solverFails : Nat → Nat → Bool

/-- Transmitter coefficients, in 1/64 of full swing, that training number n settles with the partner (R237; log entry 96). -/
opaque trainedTaps : Nat → Int × Int × Int

/-- FREE VALUE number n: a value the spec leaves open (log entry 3). -/
opaque freeValue : Nat → BitVec 64

/-- What the best master clock algorithm of the profile makes of a port after so many events: 0 master, 1 slave, else passive; and the message that the profile's
state machine answers a received one with, if any.  Both are of the standards that R320 cites, not of the spec (log entry 119). -/
opaque ptpState : Nat → Nat → Nat
opaque ptpAnswer : Nat → Option (List (BitVec 8))

/-- Bank and row of a DRAM channel address; banks of a channel; the last row of a bank: the map to the devices is not stated (R367 to R369; log entry 117). -/
opaque dramPlace : Nat → Nat × Nat
opaque dramBanks : Nat
opaque dramLastRow : Nat

/-- Whether the centre of a passing window of even width is taken one step up, by its first step and width; the rounding is not stated (R372). -/
opaque roundCentre : Nat → Nat → Bool

/-- FREE VALUE: 32-bit word at byte address a of the symbol store after n writes to it: where it keeps data is not stated (R361; log entry 76). -/
opaque symWord : Nat → Nat → BitVec 32

/-- FREE VALUE: byte a of a DRAM channel whose contents have been lost n times, as long as nothing writes it (log entry 5). -/
opaque dramByte : Nat → Nat → Nat → BitVec 8

/-- Whether a value between two steps of 1/16 dB is rounded up; the rounding is not stated (R191). -/
opaque roundUp : Int → Bool

/-- Whether a voltage between two microvolts is rounded up; the rounding is not stated (R448). -/
opaque roundMicro : Int → Bool

/-- FREE VALUE: the voltage in µV that SENSOR_READ gives for a code of an internal channel; its scale is not stated (R448). -/
opaque nodeMicro : Nat → Int → Int

/-- Whether a quotient of temperatures that is no multiple of 1/16 degree is rounded up; the rounding is not stated (R451, R454). -/
opaque roundTemp : Int → Nat → Bool

/-- The fused failure criterion fail(m) of a mechanism on a die, signed as the reading moves with wear, and the exponent n(m) as a quotient (R462). -/
opaque wearFail : Nat → Nat → Int
opaque wearPower : Nat → Nat → Nat × Nat

/-- Which cell of the boundary register drives ball n of a group of outputs, by the group's number in Machine.scanGroup; the order is not stated (R486). -/
opaque scanCell : Nat → Nat → Nat

/-- What Rilyn's boot ROM writes on the debug UART at start n; the messages are not stated (R483, R484). -/
opaque bootMessage : Nat → List (BitVec 8)

end Sys2Proof.Config
end

