-- ==== Sys2Proof/Machine/Bits.lean ====
section
/-!
DEFINITION. Bit fields of a word, and the sparse stores that hold registers and memories.
-/
namespace Sys2Proof.Machine

/-- The value of a field. -/
def getF (w : Word) (f : Fld) : Nat := (w.toNat / 2 ^ f.lo) % 2 ^ f.width

/-- The bits of a field, as a mask. -/
def maskF (f : Fld) : Word := BitVec.ofNat 32 ((2 ^ f.width - 1) * 2 ^ f.lo)

/-- The word with one field replaced by v (modulo the field's width). -/
def putF (w : Word) (f : Fld) (v : Nat) : Word :=
  (w &&& ~~~ maskF f) ||| BitVec.ofNat 32 ((v % 2 ^ f.width) * 2 ^ f.lo)

/-- One bit of a word as a Bool. -/
def bitF (w : Word) (f : Fld) : Bool := getF w f != 0

/-- A Bool as the value of a one-bit field. -/
def b2n (b : Bool) : Nat := if b then 1 else 0

/-- The signed reading of an n-bit field value. -/
def signed (n v : Nat) : Int := if v % 2 ^ n < 2 ^ (n - 1) then (v % 2 ^ n : Nat) else (v % 2 ^ n : Nat) - (2 ^ n : Nat)

/-- The n-bit two's complement field value of an integer. -/
def unsigned (n : Nat) (v : Int) : Nat := (v % (2 ^ n : Nat)).toNat

/-- v held within lo to hi. -/
def clampN (lo hi v : Nat) : Nat := max lo (min hi v)
def clampI (lo hi v : Int) : Int := max lo (min hi v)

/-- The ones of a mask, lowest first, up to bit n. -/
def onesOf (n mask : Nat) : List Nat := (List.range n).filter (fun i => mask.testBit i)

/-! ### Sparse stores: lists of (key, value) with keys strictly rising and no entry equal to its default -/

variable {α : Type}

/-- The value at a key: the listed one, else the default. -/
def sget (d : Nat → α) : List (Nat × α) → Nat → α
  | [], a => d a
  | (k, v) :: m, a => if k = a then v else sget d m a

/-- Removal of a key, of every entry that holds it. -/
def sdel : List (Nat × α) → Nat → List (Nat × α)
  | [], _ => []
  | (k, v) :: m, a => if k = a then sdel m a else (k, v) :: sdel m a

/-- Insertion of a key in its place. -/
def sins : List (Nat × α) → Nat → α → List (Nat × α)
  | [], a, x => [(a, x)]
  | (k, v) :: m, a, x =>
    if k = a then (a, x) :: m else if a < k then (a, x) :: (k, v) :: m else (k, v) :: sins m a x

/-- A write: the default value is not listed. -/
def sset [DecidableEq α] (d : Nat → α) (m : List (Nat × α)) (a : Nat) (x : α) : List (Nat × α) :=
  if x = d a then sdel m a else sins m a x

/-- The canonical form: keys strictly rise and no entry holds its default. -/
def swf [DecidableEq α] (d : Nat → α) : List (Nat × α) → Bool
  | [] => true
  | [(k, v)] => decide (v ≠ d k)
  | (k, v) :: (k', v') :: m => decide (k < k') && decide (v ≠ d k) && swf d ((k', v') :: m)

/-- A change of one element of a vector. -/
def vmod {n : Nat} (v : Vector α n) (i : Fin n) (f : α → α) : Vector α n := v.set i (f v[i])

/-! ### Settings that samples taken earlier still need -/

/-- What was in force at an instant: `past` says what stood until an instant, newest first; after the last of them `cur` stands. -/
def pastAt (past : List (Nat × α)) (cur : α) (at_ : Int) : α :=
  ((past.reverse.find? fun x => decide (at_ < (x.1 : Int))).map Prod.snd).getD cur

/-- What stood until now is kept; what no sample needs any more is dropped. -/
def keepPast (past : List (Nat × α)) (now : Nat) (old : α) : List (Nat × α) := (now, old) :: past.filter fun x => decide (now < x.1 + 2 ^ 28)

end Sys2Proof.Machine
end

