-- ==== Sys2Proof/Machine/Dsp.lean ====
section
/-!
DEFINITION. The arithmetic of the signal chains: complex integers, narrowing, sines and cosines, decibels, the discrete Fourier
transforms.  Irrational numbers are held to 60 binary places; where the spec states no rounding, Config.roundDb decides (log entry 86).
-/
namespace Sys2Proof.Machine

/-- A complex sample: I, Q. -/
abbrev Cx := Int × Int

def Cx.add (a b : Cx) : Cx := (a.1 + b.1, a.2 + b.2)
def Cx.mul (a b : Cx) : Cx := (a.1 * b.1 - a.2 * b.2, a.1 * b.2 + a.2 * b.1)
def Cx.conj (a : Cx) : Cx := (a.1, -a.2)
def Cx.scale (n : Int) (a : Cx) : Cx := (n * a.1, n * a.2)
def Cx.norm2 (a : Cx) : Nat := (a.1 ^ 2 + a.2 ^ 2).toNat
def Cx.sum (l : List Cx) : Cx := l.foldl Cx.add (0, 0)

/-- I is the low half of a word and Q the high half. -/
def iPart (w : Word) : Int := (w.setWidth 16).toInt
def qPart (w : Word) : Int := ((w >>> 16).setWidth 16 : BitVec 16).toInt
def iqWord (i q : Int) : Word := BitVec.ofInt 16 q ++ BitVec.ofInt 16 i
def Cx.ofWord (w : Word) : Cx := (iPart w, qPart w)
def Cx.toWord (a : Cx) : Word := iqWord a.1 a.2

/-- The nearest integer to n / d, halves towards +∞. -/
def roundDiv (n d : Int) : Int := (2 * n + d) / (2 * d)

/-- n / d narrowed to an integer where the spec does not say how: one of the two neighbours (log entry 86). -/
def narrow (n d : Int) : Int := n / d + (if n % d ≠ 0 ∧ Config.roundSample n d then 1 else 0)
def Cx.narrow (d : Int) (a : Cx) : Cx := (Machine.narrow a.1 d, Machine.narrow a.2 d)

/-- A value held within b bits, signed; a complex sample so held; whether it was changed. -/
def satTo (b : Nat) (v : Int) : Int := clampI (-(2 ^ (b - 1))) (2 ^ (b - 1) - 1) v
def Cx.sat (b : Nat) (a : Cx) : Cx := (satTo b a.1, satTo b a.2)
def Cx.clips (b : Nat) (a : Cx) : Bool := a.sat b != a

/-! ### Sines, in units of 2^-60; a phase counts 2^48 to the turn -/

/-- The Taylor series of the sine from a term on: x² and the term in units of 2^-60. -/
def sinSeries (x2 : Int) : Nat → Nat → Int → Int
  | 0, _, _ => 0
  | n + 1, k, term => term + sinSeries x2 n (k + 2) (-(term * x2 / 2 ^ 60) / ((k + 1) * (k + 2)))

/-- sin of a quarter turn's part r / 2^46 (π / 2 in units of 2^-60 is 1811004864519280710). -/
def sinQuarter (r : Nat) : Int :=
  let x : Int := r * 1811004864519280710 / 2 ^ 46
  if r = 2 ^ 46 then 2 ^ 60 else sinSeries (x * x / 2 ^ 60) 12 1 x

def sinFix (p : Nat) : Int :=
  let r := p % 2 ^ 46
  match p / 2 ^ 46 % 4 with
  | 0 => sinQuarter r
  | 1 => sinQuarter (2 ^ 46 - r)
  | 2 => -(sinQuarter r)
  | _ => -(sinQuarter (2 ^ 46 - r))

def cosFix (p : Nat) : Int := sinFix (p + 2 ^ 46)

/-- e^(2πi p / 2^48), in units of 2^-60; and of a signed phase. -/
def turn (p : Nat) : Cx := (cosFix p, sinFix p)
def turnI (p : Int) : Cx := turn (p % 2 ^ 48).toNat

/-- A sinusoid of b bits. -/
def Cx.sinusoid (b : Nat) (p : Nat) : Cx := ((turn p).narrow (2 ^ (61 - b))).sat b

/-! ### Roots and decibels -/

/-- The largest x below 2^b that meets a condition true up to some x. -/
def largest (ok : Nat → Bool) : Nat → Nat → Nat
  | 0, x => x
  | b + 1, x => if ok (x + 2 ^ b) then largest ok b (x + 2 ^ b) else largest ok b x

/-- floor of the k-th root of n, for roots below 2^64. -/
def rootFloor (k n : Nat) : Nat := largest (fun x => x ^ k ≤ n) 64 0

/-- 10^n ≤ (a / b)^e. -/
def pow10le (n : Int) (a b e : Nat) : Bool :=
  if 0 ≤ n then 10 ^ n.toNat * b ^ e ≤ a ^ e else b ^ e ≤ a ^ e * 10 ^ (-n).toNat

/-- 10 log10 (a / b) in units of 1 / u dB, from -2^15 to 2^15 - 1; between two of them Config.roundDb decides (log entry 86). -/
def decibels (u a b : Nat) : Int :=
  if a = 0 then -32768
  else
    let n : Int := largest (fun x => pow10le ((x : Int) - 32768) a b (10 * u)) 16 0 - 32768
    let exact := if 0 ≤ n then 10 ^ n.toNat * b ^ (10 * u) == a ^ (10 * u) else b ^ (10 * u) == a ^ (10 * u) * 10 ^ (-n).toNat
    if exact || !Config.roundDb n then n else min 32767 (n + 1)

/-- v x 10^(e / 1,280) (R116), of which the spec states no rounding: exact where it is an integer, else one of its neighbours by Config.roundGain
(log entry 86). -/
def scale10 (e : Nat) (v : Int) : Int :=
  let y : Nat := largest (fun y => y ^ 1280 ≤ v.natAbs ^ 1280 * 10 ^ e) 20 0
  let z : Nat := if y ^ 1280 = v.natAbs ^ 1280 * 10 ^ e || !Config.roundGain e v then y else y + 1
  if v < 0 then -(z : Int) else z

/-! ### Fourier transforms (R75, R77, R112) -/

/-- Useful sample `idx` of the inverse transform of a symbol's words (R75, R77): subcarrier k in bin k - half, the rest zero, turned back by
`phase`; divided by 2^shift; before saturation.  It is summed exactly and narrowed once: the internal widths of Tables 3-1 and 4-1 come without an overflow
or a rounding inside a stage (DESIGN CHOICE, log entry 86). -/
def inverseFft (words : List Word) (half nfft shift idx : Nat) (phase : Int) : Cx :=
  (Cx.sum (words.zipIdx.map fun x =>
    (Cx.ofWord x.1).mul (turnI (((x.2 : Int) - half) * idx * 2 ^ (48 - nfft) - phase)))).narrow (2 ^ (60 + shift))

/-- Bin k - half of the transform of a window (R112), turned by `phase`, divided by 2^shift; before saturation. -/
def forwardFft (window : List Cx) (half nfft shift k : Nat) (phase : Int) : Cx :=
  (Cx.sum (window.zipIdx.map fun x =>
    x.1.mul (turnI (-(((k : Int) - half) * x.2 * 2 ^ (48 - nfft)) + phase)))).narrow (2 ^ (60 + shift))

end Sys2Proof.Machine
end

