-- ==== Sys2Proof/Machine/Regs.lean ====
section
/-!
DEFINITION. The register map: the device address of every register the spec gives (R7, R25, the register tables
of every block chapter), the fields of each, its access masks (R11) and its reset value (R13).
A device address is 28 bits: die in [27:24], block in [23:16], byte offset in [15:0].  Written out from the tables of spec/.
-/
namespace Sys2Proof.Machine

/-! Addresses. The first argument of a tile register is the tile number t, of a register that hub and tiles have the
die code d (0 the hub, 1 + t tile t), the last one the instance. -/
namespace Reg
/-- 02 R70, Table 2-10. -/
@[reducible] def GLIDE_CTRL (d : Nat) : Nat := 0x10000 + 0x1000000 * d
/-- 02 R70, Table 2-11. -/
@[reducible] def GLIDE_STATUS (d : Nat) : Nat := 0x10004 + 0x1000000 * d
/-- 02 R70, Table 2-12. -/
@[reducible] def GLIDE_LATE_COUNT (d : Nat) : Nat := 0x10008 + 0x1000000 * d
/-- 02 R70, Table 2-12. -/
@[reducible] def GLIDE_IMEM_CORRECTED (d : Nat) : Nat := 0x1002C + 0x1000000 * d
/-- 02 R70, Table 2-13. -/
@[reducible] def GLIDE_LATE_TIME_LO (d : Nat) : Nat := 0x1000C + 0x1000000 * d
/-- 02 R70, Table 2-13. -/
@[reducible] def GLIDE_LATE_TIME_HI (d : Nat) : Nat := 0x10010 + 0x1000000 * d
/-- 02 R70, Table 2-14. -/
@[reducible] def GLIDE_LATE_INFO (d : Nat) : Nat := 0x10014 + 0x1000000 * d
/-- 02 R70, Table 2-15. -/
@[reducible] def GLIDE_CNT_FLAGS (d : Nat) : Nat := 0x10018 + 0x1000000 * d
/-- 02 R70, Table 2-16. -/
@[reducible] def GLIDE_SIG_CODE (d : Nat) : Nat := 0x1001C + 0x1000000 * d
/-- 02 R70, Table 2-17. -/
@[reducible] def GLIDE_IMEM_ADDR (d : Nat) : Nat := 0x10020 + 0x1000000 * d
/-- 02 R70, Table 2-18. -/
@[reducible] def GLIDE_IMEM_DATA_LO (d : Nat) : Nat := 0x10024 + 0x1000000 * d
/-- 02 R70, Table 2-18. -/
@[reducible] def GLIDE_IMEM_DATA_HI (d : Nat) : Nat := 0x10028 + 0x1000000 * d
/-- 02 R70, Table 2-19. -/
@[reducible] def GLIDE_GREG_SEL (d : Nat) : Nat := 0x10030 + 0x1000000 * d
/-- 02 R70, Table 2-20. -/
@[reducible] def GLIDE_GREG_LO (d : Nat) : Nat := 0x10034 + 0x1000000 * d
/-- 02 R70, Table 2-20. -/
@[reducible] def GLIDE_GREG_HI (d : Nat) : Nat := 0x10038 + 0x1000000 * d
/-- 02 R70, Table 2-21. -/
@[reducible] def GLIDE_BT_LO (d : Nat) : Nat := 0x10040 + 0x1000000 * d
/-- 02 R70, Table 2-21. -/
@[reducible] def GLIDE_BT_HI (d : Nat) : Nat := 0x10044 + 0x1000000 * d
/-- 02 R70, Table 2-22. -/
@[reducible] def GLIDE_TILE_EN : Nat := 0x10080
/-- 02 R70, Table 2-23. -/
@[reducible] def GLIDE_FIFO_LEVEL (i : Nat) : Nat := 0x10090 + 0x4 * i
/-- 02 R70, Table 2-24. -/
@[reducible] def GLIDE_PARAM (d i : Nat) : Nat := 0x10100 + 0x1000000 * d + 0x4 * i
/-- 03 R99, Table 3-7. -/
@[reducible] def TXCH_CTRL (t : Nat) : Nat := 0x1180000 + 0x1000000 * t
/-- 03 R99, Table 3-8. -/
@[reducible] def TXCH_STATUS (t : Nat) : Nat := 0x1180004 + 0x1000000 * t
/-- 03 R99, Table 3-9. -/
@[reducible] def TXCH_RF_LO (t : Nat) : Nat := 0x1180008 + 0x1000000 * t
/-- 03 R99, Table 3-9. -/
@[reducible] def TXCH_RF_HI (t : Nat) : Nat := 0x118000C + 0x1000000 * t
/-- 03 R99, Table 3-10. -/
@[reducible] def TXCH_CARCFG (t i : Nat) : Nat := 0x1180010 + 0x1000000 * t + 0x4 * i
/-- 03 R99, Table 3-11. -/
@[reducible] def TXCH_TRIM_ARM (t : Nat) : Nat := 0x1180020 + 0x1000000 * t
/-- 03 R99, Table 3-12. -/
@[reducible] def TXCH_PATGEN (t : Nat) : Nat := 0x1180024 + 0x1000000 * t
/-- 03 R99, Table 3-13. -/
@[reducible] def TXCH_PATGEN_FREQ (t : Nat) : Nat := 0x1180028 + 0x1000000 * t
/-- 03 R99, Table 3-14. -/
@[reducible] def TXCH_CARSEL (t : Nat) : Nat := 0x118002C + 0x1000000 * t
/-- 03 R99, Table 3-15. -/
@[reducible] def TXCH_CAR_NCO_LO (t : Nat) : Nat := 0x1180030 + 0x1000000 * t
/-- 03 R99, Table 3-15. -/
@[reducible] def TXCH_CAR_NCO_HI (t : Nat) : Nat := 0x1180034 + 0x1000000 * t
/-- 03 R99, Table 3-16. -/
@[reducible] def TXCH_CAR_FILT (t : Nat) : Nat := 0x1180038 + 0x1000000 * t
/-- 03 R99, Table 3-17. -/
@[reducible] def TXCH_REFUSED_COUNT (t : Nat) : Nat := 0x118003C + 0x1000000 * t
/-- 03 R99, Table 3-17. -/
@[reducible] def TXCH_LATE_DATA_COUNT (t : Nat) : Nat := 0x1180040 + 0x1000000 * t
/-- 03 R99, Table 3-18. -/
@[reducible] def TXCH_CNT_FLAGS (t : Nat) : Nat := 0x1180044 + 0x1000000 * t
/-- 03 R99, Table 3-19. -/
@[reducible] def TXCH_DELAY (t i : Nat) : Nat := 0x1180100 + 0x1000000 * t + 0x4 * i
/-- 03 R99, Table 3-20. -/
@[reducible] def TXCH_PHASE (t i : Nat) : Nat := 0x1180140 + 0x1000000 * t + 0x4 * i
/-- 03 R99, Table 3-21. -/
@[reducible] def TXCH_GAIN (t i : Nat) : Nat := 0x1180180 + 0x1000000 * t + 0x4 * i
/-- 03 R99, Table 3-22. -/
@[reducible] def TXCH_CLIP_COUNT (t i : Nat) : Nat := 0x11801C0 + 0x1000000 * t + 0x4 * i
/-- 04 R130, Table 4-9. -/
@[reducible] def RXCH_CTRL (t : Nat) : Nat := 0x1190000 + 0x1000000 * t
/-- 04 R130, Table 4-10. -/
@[reducible] def RXCH_STATUS (t : Nat) : Nat := 0x1190004 + 0x1000000 * t
/-- 04 R130, Table 4-11. -/
@[reducible] def RXCH_RF_LO (t : Nat) : Nat := 0x1190008 + 0x1000000 * t
/-- 04 R130, Table 4-11. -/
@[reducible] def RXCH_RF_HI (t : Nat) : Nat := 0x119000C + 0x1000000 * t
/-- 04 R130, Table 4-12. -/
@[reducible] def RXCH_CARCFG (t i : Nat) : Nat := 0x1190010 + 0x1000000 * t + 0x4 * i
/-- 04 R130, Table 4-13. -/
@[reducible] def RXCH_CARWIN (t i : Nat) : Nat := 0x1190020 + 0x1000000 * t + 0x4 * i
/-- 04 R130, Table 4-14. -/
@[reducible] def RXCH_TRIM_ARM (t : Nat) : Nat := 0x1190030 + 0x1000000 * t
/-- 04 R130, Table 4-15. -/
@[reducible] def RXCH_UL_OFFSET (t : Nat) : Nat := 0x1190034 + 0x1000000 * t
/-- 04 R130, Table 4-16. -/
@[reducible] def RXCH_CARSEL (t : Nat) : Nat := 0x1190038 + 0x1000000 * t
/-- 04 R130, Table 4-17. -/
@[reducible] def RXCH_CAR_NCO_LO (t : Nat) : Nat := 0x119003C + 0x1000000 * t
/-- 04 R130, Table 4-17. -/
@[reducible] def RXCH_CAR_NCO_HI (t : Nat) : Nat := 0x1190040 + 0x1000000 * t
/-- 04 R130, Table 4-18. -/
@[reducible] def RXCH_CAR_FILT (t : Nat) : Nat := 0x1190044 + 0x1000000 * t
/-- 04 R130, Table 4-19. -/
@[reducible] def RXCH_GAINCFG (t : Nat) : Nat := 0x1190048 + 0x1000000 * t
/-- 04 R130, Table 4-20. -/
@[reducible] def RXCH_AGC_CFG (t : Nat) : Nat := 0x119004C + 0x1000000 * t
/-- 04 R130, Table 4-21. -/
@[reducible] def RXCH_AGC_EN (t : Nat) : Nat := 0x1190050 + 0x1000000 * t
/-- 04 R130, Table 4-22. -/
@[reducible] def RXCH_PM_CFG (t : Nat) : Nat := 0x1190054 + 0x1000000 * t
/-- 04 R130, Table 4-22. -/
@[reducible] def RXCH_WPD_CFG (t : Nat) : Nat := 0x1190058 + 0x1000000 * t
/-- 04 R130, Table 4-23. -/
@[reducible] def RXCH_WPD_THRESH (t : Nat) : Nat := 0x119005C + 0x1000000 * t
/-- 04 R130, Table 4-24. -/
@[reducible] def RXCH_ZONE (t : Nat) : Nat := 0x1190060 + 0x1000000 * t
/-- 04 R130, Table 4-25. -/
@[reducible] def RXCH_CNT_FLAGS (t : Nat) : Nat := 0x1190064 + 0x1000000 * t
/-- 04 R130, Table 4-26. -/
@[reducible] def RXCH_DELAY (t i : Nat) : Nat := 0x1190100 + 0x1000000 * t + 0x4 * i
/-- 04 R130, Table 4-26. -/
@[reducible] def RXCH_PHASE (t i : Nat) : Nat := 0x1190140 + 0x1000000 * t + 0x4 * i
/-- 04 R130, Table 4-27. -/
@[reducible] def RXCH_STEP_CFG (t i : Nat) : Nat := 0x1190180 + 0x1000000 * t + 0x4 * i
/-- 04 R130, Table 4-28. -/
@[reducible] def RXCH_CLIP_COUNT (t i : Nat) : Nat := 0x11901C0 + 0x1000000 * t + 0x4 * i
/-- 04 R130, Table 4-29. -/
@[reducible] def RXCH_PM_RESULT (t i : Nat) : Nat := 0x1190200 + 0x1000000 * t + 0x4 * i
/-- 04 R130, Table 4-29. -/
@[reducible] def RXCH_WPD_RESULT (t i : Nat) : Nat := 0x1190240 + 0x1000000 * t + 0x4 * i
/-- 04 R130, Table 4-30. -/
@[reducible] def RXCH_CAP_CFG (t i : Nat) : Nat := 0x1190400 + 0x1000000 * t + 0x20 * i
/-- 04 R130, Table 4-31. -/
@[reducible] def RXCH_CAP_BASE_LO (t i : Nat) : Nat := 0x1190404 + 0x1000000 * t + 0x20 * i
/-- 04 R130, Table 4-31. -/
@[reducible] def RXCH_CAP_BASE_HI (t i : Nat) : Nat := 0x1190408 + 0x1000000 * t + 0x20 * i
/-- 04 R130, Table 4-31. -/
@[reducible] def RXCH_CAP_SIZE (t i : Nat) : Nat := 0x119040C + 0x1000000 * t + 0x20 * i
/-- 04 R130, Table 4-32. -/
@[reducible] def RXCH_CAP_STAT (t i : Nat) : Nat := 0x1190410 + 0x1000000 * t + 0x20 * i
/-- 05 R162, Table 5-8. -/
@[reducible] def SLALOM_CTRL : Nat := 0x20000
/-- 05 R162, Table 5-9. -/
@[reducible] def SLALOM_STATUS : Nat := 0x20004
/-- 05 R162, Table 5-10. -/
@[reducible] def SLALOM_FALLBACK : Nat := 0x20008
/-- 05 R162, Table 5-11. -/
@[reducible] def SLALOM_CASC_CFG : Nat := 0x2000C
/-- 05 R162, Table 5-12. -/
@[reducible] def SLALOM_BEAM_CMD : Nat := 0x20010
/-- 05 R162, Table 5-13. -/
@[reducible] def SLALOM_BEAM_STAT : Nat := 0x20014
/-- 05 R162, Table 5-14. -/
@[reducible] def SLALOM_TL_SEL : Nat := 0x20018
/-- 05 R162, Table 5-15. -/
@[reducible] def SLALOM_TL_BEAM : Nat := 0x2001C
/-- 05 R162, Table 5-16. -/
@[reducible] def SLALOM_FALLBACK_COUNT : Nat := 0x20040
/-- 05 R162, Table 5-16. -/
@[reducible] def SLALOM_BEAM_TABLE_FULL : Nat := 0x20044
/-- 05 R162, Table 5-16. -/
@[reducible] def SLALOM_LATE_CTRL_COUNT : Nat := 0x20048
/-- 05 R162, Table 5-16. -/
@[reducible] def SLALOM_STALE_COUNT : Nat := 0x2004C
/-- 05 R162, Table 5-16. -/
@[reducible] def SLALOM_UNKNOWN_BEAM_COUNT : Nat := 0x20050
/-- 05 R162, Table 5-16. -/
@[reducible] def SLALOM_REJECT_COUNT : Nat := 0x20054
/-- 05 R162, Table 5-16. -/
@[reducible] def SLALOM_REPLAY_COUNT : Nat := 0x20058
/-- 05 R162, Table 5-16. -/
@[reducible] def SLALOM_ECC_CORRECTED : Nat := 0x2005C
/-- 05 R162, Table 5-16. -/
@[reducible] def SLALOM_DISPATCH_LATE_COUNT : Nat := 0x20060
/-- 05 R162, Table 5-16. -/
@[reducible] def SLALOM_MISSING_DATA_COUNT : Nat := 0x20064
/-- 05 R162, Table 5-16. -/
@[reducible] def SLALOM_PSUM_LATE_COUNT : Nat := 0x20068
/-- 05 R162, Table 5-16. -/
@[reducible] def SLALOM_DL_SAT_COUNT : Nat := 0x2006C
/-- 05 R162, Table 5-16. -/
@[reducible] def SLALOM_UL_SAT_COUNT : Nat := 0x20070
/-- 05 R162, Table 5-17. -/
@[reducible] def SLALOM_CNT_FLAGS : Nat := 0x20074
/-- 05 R162, Table 5-18. -/
@[reducible] def SLALOM_BEAM_DATA (i : Nat) : Nat := 0x20400 + 0x4 * i
/-- 06 R194, Table 6-7. -/
@[reducible] def TDPD_CTRL (t : Nat) : Nat := 0x11A0000 + 0x1000000 * t
/-- 06 R194, Table 6-8. -/
@[reducible] def TDPD_ENABLE (t : Nat) : Nat := 0x11A0004 + 0x1000000 * t
/-- 06 R194, Table 6-9. -/
@[reducible] def TDPD_SWAP_ARM (t : Nat) : Nat := 0x11A0008 + 0x1000000 * t
/-- 06 R194, Table 6-9. -/
@[reducible] def TDPD_SWAP_STAT (t : Nat) : Nat := 0x11A000C + 0x1000000 * t
/-- 06 R194, Table 6-10. -/
@[reducible] def TDPD_TBL_ADDR (t : Nat) : Nat := 0x11A0010 + 0x1000000 * t
/-- 06 R194, Table 6-11. -/
@[reducible] def TDPD_TBL_DATA (t : Nat) : Nat := 0x11A0014 + 0x1000000 * t
/-- 06 R194, Table 6-12. -/
@[reducible] def TDPD_BRANCH (t i : Nat) : Nat := 0x11A0020 + 0x1000000 * t + 0x4 * i
/-- 06 R194, Table 6-14. -/
@[reducible] def HDPD_CTRL : Nat := 0x1A0000
/-- 06 R194, Table 6-15. -/
@[reducible] def HDPD_STATUS : Nat := 0x1A0004
/-- 06 R194, Table 6-16. -/
@[reducible] def HDPD_COEF_CMD : Nat := 0x1A0008
/-- 06 R194, Table 6-17. -/
@[reducible] def HDPD_COEF_ADDR : Nat := 0x1A000C
/-- 06 R194, Table 6-17. -/
@[reducible] def HDPD_COEF_DATA : Nat := 0x1A0010
/-- 06 R194, Table 6-18. -/
@[reducible] def HDPD_RESULT (i : Nat) : Nat := 0x1A0100 + 0x4 * i
/-- 06 R194, Table 6-19. -/
@[reducible] def HDPD_JOB_COUNT : Nat := 0x1A0014
/-- 06 R194, Table 6-19. -/
@[reducible] def HDPD_JOB_REJECT_COUNT : Nat := 0x1A0018
/-- 06 R194, Table 6-19. -/
@[reducible] def HDPD_CNT_FLAGS : Nat := 0x1A001C
/-- 06 R194, Table 6-21. -/
@[reducible] def DFLY_CTRL (t : Nat) : Nat := 0x11B0000 + 0x1000000 * t
/-- 06 R194, Table 6-22. -/
@[reducible] def DFLY_STATUS (t : Nat) : Nat := 0x11B0004 + 0x1000000 * t
/-- 06 R194, Table 6-23. -/
@[reducible] def DFLY_INPUT (t i : Nat) : Nat := 0x11B0008 + 0x1000000 * t + 0x4 * i
/-- 06 R194, Table 6-24. -/
@[reducible] def DFLY_IMG_CFG (t : Nat) : Nat := 0x11B0010 + 0x1000000 * t
/-- 06 R194, Table 6-25. -/
@[reducible] def DFLY_MM_CFG (t : Nat) : Nat := 0x11B0014 + 0x1000000 * t
/-- 06 R194, Table 6-25. -/
@[reducible] def DFLY_ALIGN_CFG (t : Nat) : Nat := 0x11B0018 + 0x1000000 * t
/-- 06 R194, Table 6-26. -/
@[reducible] def DFLY_ACQ_STAT (t i : Nat) : Nat := 0x11B0020 + 0x1000000 * t + 0x4 * i
/-- 06 R194, Table 6-26. -/
@[reducible] def DFLY_ACQ_DLY (t i : Nat) : Nat := 0x11B0028 + 0x1000000 * t + 0x4 * i
/-- 06 R194, Table 6-27. -/
@[reducible] def DFLY_IMG_STAT (t i : Nat) : Nat := 0x11B0030 + 0x1000000 * t + 0x4 * i
/-- 06 R194, Table 6-27. -/
@[reducible] def DFLY_PWR (t i : Nat) : Nat := 0x11B0038 + 0x1000000 * t + 0x4 * i
/-- 06 R194, Table 6-28. -/
@[reducible] def DFLY_ACQ_REJECT_COUNT (t : Nat) : Nat := 0x11B0040 + 0x1000000 * t
/-- 06 R194, Table 6-28. -/
@[reducible] def DFLY_CONFLICT_COUNT (t : Nat) : Nat := 0x11B0044 + 0x1000000 * t
/-- 06 R194, Table 6-28. -/
@[reducible] def DFLY_CNT_FLAGS (t : Nat) : Nat := 0x11B0048 + 0x1000000 * t
/-- 06 R194, Table 6-29. -/
@[reducible] def DFLY_LOOPDLY (t i : Nat) : Nat := 0x11B0100 + 0x1000000 * t + 0x4 * i
/-- 06 R194, Table 6-29. -/
@[reducible] def DFLY_CPL_OFS (t i : Nat) : Nat := 0x11B0140 + 0x1000000 * t + 0x4 * i
/-- 06 R194, Table 6-30. -/
@[reducible] def DFLY_RL (t i : Nat) : Nat := 0x11B0180 + 0x1000000 * t + 0x4 * i
/-- 07 R212, Table 7-7. -/
@[reducible] def DFLY_CAL_CTRL (t : Nat) : Nat := 0x11B0200 + 0x1000000 * t
/-- 07 R212, Table 7-8. -/
@[reducible] def DFLY_CAL_CMD (t : Nat) : Nat := 0x11B0204 + 0x1000000 * t
/-- 07 R212, Table 7-8. -/
@[reducible] def DFLY_CAL_DUR (t : Nat) : Nat := 0x11B0208 + 0x1000000 * t
/-- 07 R212, Table 7-9. -/
@[reducible] def DFLY_CAL_STAT (t : Nat) : Nat := 0x11B020C + 0x1000000 * t
/-- 07 R212, Table 7-10. -/
@[reducible] def DFLY_CAL_TRIG (t : Nat) : Nat := 0x11B0210 + 0x1000000 * t
/-- 07 R212, Table 7-10. -/
@[reducible] def DFLY_TARGET_DLY (t : Nat) : Nat := 0x11B0214 + 0x1000000 * t
/-- 07 R212, Table 7-10. -/
@[reducible] def DFLY_TARGET_PH (t : Nat) : Nat := 0x11B0218 + 0x1000000 * t
/-- 07 R212, Table 7-11. -/
@[reducible] def DFLY_FAIL_COUNT (t : Nat) : Nat := 0x11B021C + 0x1000000 * t
/-- 07 R212, Table 7-11. -/
@[reducible] def DFLY_CAL_CNT_FLAGS (t : Nat) : Nat := 0x11B0220 + 0x1000000 * t
/-- 07 R212, Table 7-11. -/
@[reducible] def DFLY_CONV_CTRL (t : Nat) : Nat := 0x11B0224 + 0x1000000 * t
/-- 07 R212, Table 7-11. -/
@[reducible] def DFLY_CONV_STAT (t : Nat) : Nat := 0x11B0228 + 0x1000000 * t
/-- 07 R212, Table 7-12. -/
@[reducible] def DFLY_STAMP (t i : Nat) : Nat := 0x11B0230 + 0x1000000 * t + 0x4 * i
/-- 07 R212, Table 7-12. -/
@[reducible] def DFLY_STIME (t i : Nat) : Nat := 0x11B0240 + 0x1000000 * t + 0x4 * i
/-- 07 R212, Table 7-13. -/
@[reducible] def DFLY_NET_TX (t i : Nat) : Nat := 0x11B0280 + 0x1000000 * t + 0x4 * i
/-- 07 R212, Table 7-13. -/
@[reducible] def DFLY_NET_RX (t i : Nat) : Nat := 0x11B02C0 + 0x1000000 * t + 0x4 * i
/-- 07 R212, Table 7-14. -/
@[reducible] def DFLY_TXR (t i : Nat) : Nat := 0x11B0300 + 0x1000000 * t + 0x4 * i
/-- 07 R212, Table 7-14. -/
@[reducible] def DFLY_RXR (t i : Nat) : Nat := 0x11B0380 + 0x1000000 * t + 0x4 * i
/-- 07 R212, Table 7-14. -/
@[reducible] def DFLY_RCP (t i : Nat) : Nat := 0x11B0400 + 0x1000000 * t + 0x4 * i
/-- 07 R212, Table 7-15. -/
@[reducible] def DFLY_TXD (t i : Nat) : Nat := 0x11B0340 + 0x1000000 * t + 0x4 * i
/-- 07 R212, Table 7-15. -/
@[reducible] def DFLY_RXD (t i : Nat) : Nat := 0x11B03C0 + 0x1000000 * t + 0x4 * i
/-- 07 R212, Table 7-15. -/
@[reducible] def DFLY_RCPD (t i : Nat) : Nat := 0x11B0440 + 0x1000000 * t + 0x4 * i
/-- 08 R231, Table 8-8. -/
@[reducible] def SEQ_CMD (t : Nat) : Nat := 0x11C0000 + 0x1000000 * t
/-- 08 R231, Table 8-8. -/
@[reducible] def SEQ_REFUSED_COUNT (t : Nat) : Nat := 0x11C0004 + 0x1000000 * t
/-- 08 R231, Table 8-8. -/
@[reducible] def SEQ_CNT_FLAGS (t : Nat) : Nat := 0x11C0008 + 0x1000000 * t
/-- 08 R231, Table 8-9. -/
@[reducible] def SEQ_CFG (t i : Nat) : Nat := 0x11C0010 + 0x1000000 * t + 0x10 * i
/-- 08 R231, Table 8-10. -/
@[reducible] def SEQ_DLY_A (t i : Nat) : Nat := 0x11C0014 + 0x1000000 * t + 0x10 * i
/-- 08 R231, Table 8-10. -/
@[reducible] def SEQ_DLY_B (t i : Nat) : Nat := 0x11C0018 + 0x1000000 * t + 0x10 * i
/-- 08 R231, Table 8-11. -/
@[reducible] def SEQ_STAT (t i : Nat) : Nat := 0x11C001C + 0x1000000 * t + 0x10 * i
/-- 08 R231, Table 8-13. -/
@[reducible] def BIASOUT_RB_CFG (t : Nat) : Nat := 0x11D0000 + 0x1000000 * t
/-- 08 R231, Table 8-14. -/
@[reducible] def BIASOUT_CFG (t i : Nat) : Nat := 0x11D0100 + 0x1000000 * t + 0x4 * i
/-- 08 R231, Table 8-15. -/
@[reducible] def BIASOUT_SAFE (t i : Nat) : Nat := 0x11D0140 + 0x1000000 * t + 0x4 * i
/-- 08 R231, Table 8-15. -/
@[reducible] def BIASOUT_CODE (t i : Nat) : Nat := 0x11D0180 + 0x1000000 * t + 0x4 * i
/-- 08 R231, Table 8-15. -/
@[reducible] def BIASOUT_STAT (t i : Nat) : Nat := 0x11D01C0 + 0x1000000 * t + 0x4 * i
/-- 08 R231, Table 8-16. -/
@[reducible] def BIASOUT_SINE_INC (t i : Nat) : Nat := 0x11D0200 + 0x1000000 * t + 0x4 * i
/-- 08 R231, Table 8-16. -/
@[reducible] def BIASOUT_SINE_AO (t i : Nat) : Nat := 0x11D0240 + 0x1000000 * t + 0x4 * i
/-- 08 R231, Table 8-18. -/
@[reducible] def RFFE_CFG (t i : Nat) : Nat := 0x11E0000 + 0x1000000 * t + 0x10 * i
/-- 08 R231, Table 8-18. -/
@[reducible] def RFFE_CMD (t i : Nat) : Nat := 0x11E0004 + 0x1000000 * t + 0x10 * i
/-- 08 R231, Table 8-19. -/
@[reducible] def RFFE_STAT (t i : Nat) : Nat := 0x11E0008 + 0x1000000 * t + 0x10 * i
/-- 08 R231, Table 8-19. -/
@[reducible] def RFFE_RD (t i : Nat) : Nat := 0x11E000C + 0x1000000 * t + 0x10 * i
/-- 09 R251, Table 9-8. -/
@[reducible] def LANEQ_QCFG (i : Nat) : Nat := 0x40000 + 0x4 * i
/-- 09 R251, Table 9-8. -/
@[reducible] def LANEQ_QSTAT (i : Nat) : Nat := 0x40010 + 0x4 * i
/-- 09 R251, Table 9-9. -/
@[reducible] def LANEQ_ADAPT_CFG : Nat := 0x40080
/-- 09 R251, Table 9-9. -/
@[reducible] def LANEQ_CNT_FLAGS : Nat := 0x40090
/-- 09 R251, Table 9-10. -/
@[reducible] def LANEQ_EYE_CTRL : Nat := 0x40084
/-- 09 R251, Table 9-10. -/
@[reducible] def LANEQ_EYE_STAT : Nat := 0x40088
/-- 09 R251, Table 9-10. -/
@[reducible] def LANEQ_EYE_ERR : Nat := 0x4008C
/-- 09 R251, Table 9-11. -/
@[reducible] def LANEQ_LCTRL (i : Nat) : Nat := 0x40100 + 0x10 * i
/-- 09 R251, Table 9-11. -/
@[reducible] def LANEQ_LSTAT (i : Nat) : Nat := 0x40104 + 0x10 * i
/-- 09 R251, Table 9-12. -/
@[reducible] def LANEQ_PRBS_ERR (i : Nat) : Nat := 0x40108 + 0x10 * i
/-- 09 R251, Table 9-12. -/
@[reducible] def LANEQ_TXEQ (i : Nat) : Nat := 0x4010C + 0x10 * i
/-- 09 R251, Table 9-14. -/
@[reducible] def MAC_PCFG (i : Nat) : Nat := 0x30100 + 0x40 * i
/-- 09 R251, Table 9-14. -/
@[reducible] def MAC_PSTAT (i : Nat) : Nat := 0x30104 + 0x40 * i
/-- 09 R251, Table 9-15. -/
@[reducible] def MAC_ADDR_LO (i : Nat) : Nat := 0x30108 + 0x40 * i
/-- 09 R251, Table 9-15. -/
@[reducible] def MAC_ADDR_HI (i : Nat) : Nat := 0x3010C + 0x40 * i
/-- 09 R251, Table 9-15. -/
@[reducible] def MAC_VLAN (i : Nat) : Nat := 0x30110 + 0x40 * i
/-- 09 R251, Table 9-15. -/
@[reducible] def MAC_PRIO (i : Nat) : Nat := 0x30114 + 0x40 * i
/-- 09 R251, Table 9-16. -/
@[reducible] def MAC_RX_FRAMES (i : Nat) : Nat := 0x30120 + 0x40 * i
/-- 09 R251, Table 9-16. -/
@[reducible] def MAC_TX_FRAMES (i : Nat) : Nat := 0x30124 + 0x40 * i
/-- 09 R251, Table 9-16. -/
@[reducible] def MAC_RX_FCS_ERR (i : Nat) : Nat := 0x30128 + 0x40 * i
/-- 09 R251, Table 9-16. -/
@[reducible] def MAC_RX_DISCARD (i : Nat) : Nat := 0x3012C + 0x40 * i
/-- 09 R251, Table 9-16. -/
@[reducible] def MAC_TX_DISCARD (i : Nat) : Nat := 0x30130 + 0x40 * i
/-- 09 R251, Table 9-16. -/
@[reducible] def MAC_FEC_UNCORR (i : Nat) : Nat := 0x30134 + 0x40 * i
/-- 09 R251, Table 9-16. -/
@[reducible] def MAC_FEC_CORR (i : Nat) : Nat := 0x30138 + 0x40 * i
/-- 09 R251, Table 9-16. -/
@[reducible] def MAC_CNT_FLAGS (i : Nat) : Nat := 0x3013C + 0x40 * i
/-- 10 R282, Table 10-11. -/
@[reducible] def MAC_FH_CFG : Nat := 0x31000
/-- 10 R282, Table 10-11. -/
@[reducible] def MAC_FH_WIN : Nat := 0x31004
/-- 10 R282, Table 10-12. -/
@[reducible] def MAC_FH_JRN_CFG : Nat := 0x31008
/-- 10 R282, Table 10-12. -/
@[reducible] def MAC_FH_JRN_STAT : Nat := 0x3100C
/-- 10 R282, Table 10-13. -/
@[reducible] def MAC_FH_JRN_NEXT_LO : Nat := 0x31010
/-- 10 R282, Table 10-13. -/
@[reducible] def MAC_FH_JRN_NEXT_HI : Nat := 0x31014
/-- 10 R282, Table 10-13. -/
@[reducible] def MAC_FH_DLY_COMP : Nat := 0x31018
/-- 10 R282, Table 10-14. -/
@[reducible] def MAC_FH_CAR_CFG (i : Nat) : Nat := 0x31020 + 0x4 * i
/-- 10 R282, Table 10-14. -/
@[reducible] def MAC_FH_PEER_LO (i : Nat) : Nat := 0x31040 + 0x8 * i
/-- 10 R282, Table 10-14. -/
@[reducible] def MAC_FH_PEER_HI (i : Nat) : Nat := 0x31044 + 0x8 * i
/-- 10 R282, Table 10-15. -/
@[reducible] def MAC_FH_MODE_DISCARD : Nat := 0x31100
/-- 10 R282, Table 10-15. -/
@[reducible] def MAC_FH_MALFORMED : Nat := 0x31104
/-- 10 R282, Table 10-15. -/
@[reducible] def MAC_FH_FLOW_UNKNOWN : Nat := 0x31108
/-- 10 R282, Table 10-15. -/
@[reducible] def MAC_FH_DUP : Nat := 0x3110C
/-- 10 R282, Table 10-15. -/
@[reducible] def MAC_FH_LOST : Nat := 0x31110
/-- 10 R282, Table 10-15. -/
@[reducible] def MAC_FH_DL_EARLY : Nat := 0x31114
/-- 10 R282, Table 10-15. -/
@[reducible] def MAC_FH_DL_LATE : Nat := 0x31118
/-- 10 R282, Table 10-15. -/
@[reducible] def MAC_FH_STORE_FULL : Nat := 0x3111C
/-- 10 R282, Table 10-15. -/
@[reducible] def MAC_FH_CMD_REJECT : Nat := 0x31120
/-- 10 R282, Table 10-15. -/
@[reducible] def MAC_FH_RESEND_FRAMES : Nat := 0x31124
/-- 10 R282, Table 10-15. -/
@[reducible] def MAC_FH_GONE : Nat := 0x31128
/-- 10 R282, Table 10-15. -/
@[reducible] def MAC_FH_JRN_DROP : Nat := 0x3112C
/-- 10 R282, Table 10-15. -/
@[reducible] def MAC_FH_CNT_FLAGS : Nat := 0x31130
/-- 11 R300, Table 11-8. -/
@[reducible] def BUROG_CFG : Nat := 0x50000
/-- 11 R300, Table 11-8. -/
@[reducible] def BUROG_CMD : Nat := 0x50004
/-- 11 R300, Table 11-8. -/
@[reducible] def BUROG_STATUS : Nat := 0x50008
/-- 11 R300, Table 11-9. -/
@[reducible] def BUROG_TMO : Nat := 0x5000C
/-- 11 R300, Table 11-10. -/
@[reducible] def BUROG_PSTAT (i : Nat) : Nat := 0x50010 + 0x20 * i
/-- 11 R300, Table 11-10. -/
@[reducible] def BUROG_LINK_DLY (i : Nat) : Nat := 0x50014 + 0x20 * i
/-- 11 R300, Table 11-11. -/
@[reducible] def BUROG_CRC_ERR (i : Nat) : Nat := 0x50018 + 0x20 * i
/-- 11 R300, Table 11-11. -/
@[reducible] def BUROG_RETRY_COUNT (i : Nat) : Nat := 0x5001C + 0x20 * i
/-- 11 R300, Table 11-11. -/
@[reducible] def BUROG_PSUM_DISCARD : Nat := 0x50050
/-- 11 R300, Table 11-11. -/
@[reducible] def BUROG_CNT_FLAGS : Nat := 0x50054
/-- 12 R315, Table 12-7. -/
@[reducible] def CU_CHK_MISMATCH : Nat := 0x60000
/-- 12 R315, Table 12-7. -/
@[reducible] def CU_CNT_FLAGS : Nat := 0x60004
/-- 12 R315, Table 12-8. -/
@[reducible] def CU_CFG (i : Nat) : Nat := 0x60100 + 0x80 * i
/-- 12 R315, Table 12-8. -/
@[reducible] def CU_CMD (i : Nat) : Nat := 0x60104 + 0x80 * i
/-- 12 R315, Table 12-9. -/
@[reducible] def CU_POLY_LO (i : Nat) : Nat := 0x60108 + 0x80 * i
/-- 12 R315, Table 12-9. -/
@[reducible] def CU_POLY_HI (i : Nat) : Nat := 0x6010C + 0x80 * i
/-- 12 R315, Table 12-9. -/
@[reducible] def CU_INIT_LO (i : Nat) : Nat := 0x60110 + 0x80 * i
/-- 12 R315, Table 12-9. -/
@[reducible] def CU_INIT_HI (i : Nat) : Nat := 0x60114 + 0x80 * i
/-- 12 R315, Table 12-9. -/
@[reducible] def CU_PREFIX (i : Nat) : Nat := 0x60118 + 0x80 * i
/-- 12 R315, Table 12-10. -/
@[reducible] def CU_DATA_W (i : Nat) : Nat := 0x6011C + 0x80 * i
/-- 12 R315, Table 12-10. -/
@[reducible] def CU_DATA_B (i : Nat) : Nat := 0x60120 + 0x80 * i
/-- 12 R315, Table 12-11. -/
@[reducible] def CU_RUN_LO (i : Nat) : Nat := 0x60124 + 0x80 * i
/-- 12 R315, Table 12-11. -/
@[reducible] def CU_RUN_HI (i : Nat) : Nat := 0x60128 + 0x80 * i
/-- 12 R315, Table 12-11. -/
@[reducible] def CU_RESULT_LO (i : Nat) : Nat := 0x6012C + 0x80 * i
/-- 12 R315, Table 12-11. -/
@[reducible] def CU_RESULT_HI (i : Nat) : Nat := 0x60130 + 0x80 * i
/-- 12 R315, Table 12-12. -/
@[reducible] def CU_STAT (i : Nat) : Nat := 0x60134 + 0x80 * i
/-- 12 R315, Table 12-13. -/
@[reducible] def CU_MM_CALC (i : Nat) : Nat := 0x60138 + 0x80 * i
/-- 12 R315, Table 12-13. -/
@[reducible] def CU_MM_RCVD (i : Nat) : Nat := 0x6013C + 0x80 * i
/-- 12 R315, Table 12-13. -/
@[reducible] def CU_MM_PREFIX (i : Nat) : Nat := 0x60140 + 0x80 * i
/-- 12 R315, Table 12-13. -/
@[reducible] def CU_MISMATCH (i : Nat) : Nat := 0x60144 + 0x80 * i
/-- 13 R334, Table 13-2. -/
@[reducible] def TIME_CTRL : Nat := 0x70000
/-- 13 R334, Table 13-2. -/
@[reducible] def TIME_STATUS : Nat := 0x70004
/-- 13 R334, Table 13-2. -/
@[reducible] def TIME_CMD : Nat := 0x70008
/-- 13 R334, Table 13-3. -/
@[reducible] def TIME_TB_LO : Nat := 0x7000C
/-- 13 R334, Table 13-3. -/
@[reducible] def TIME_TB_HI : Nat := 0x70010
/-- 13 R334, Table 13-3. -/
@[reducible] def TIME_FREQ : Nat := 0x70014
/-- 13 R334, Table 13-3. -/
@[reducible] def TIME_UNC : Nat := 0x70024
/-- 13 R334, Table 13-3. -/
@[reducible] def TIME_OFS_LAST : Nat := 0x70040
/-- 13 R334, Table 13-4. -/
@[reducible] def TIME_SERVO : Nat := 0x70018
/-- 13 R334, Table 13-4. -/
@[reducible] def TIME_SFN_OFS : Nat := 0x7001C
/-- 13 R334, Table 13-4. -/
@[reducible] def TIME_KEEP_CFG : Nat := 0x70020
/-- 13 R334, Table 13-5. -/
@[reducible] def TIME_PPS_CFG : Nat := 0x70028
/-- 13 R334, Table 13-5. -/
@[reducible] def TIME_TSYNC_CFG : Nat := 0x7002C
/-- 13 R334, Table 13-5. -/
@[reducible] def TIME_PPS_IN_TS_LO : Nat := 0x70030
/-- 13 R334, Table 13-5. -/
@[reducible] def TIME_PPS_IN_TS_HI : Nat := 0x70034
/-- 13 R334, Table 13-5. -/
@[reducible] def TIME_TSYNC_IN_TS_LO : Nat := 0x70038
/-- 13 R334, Table 13-5. -/
@[reducible] def TIME_TSYNC_IN_TS_HI : Nat := 0x7003C
/-- 13 R334, Table 13-6. -/
@[reducible] def TIME_OFS_IN_LO : Nat := 0x70044
/-- 13 R334, Table 13-6. -/
@[reducible] def TIME_OFS_IN_HI : Nat := 0x70048
/-- 13 R334, Table 13-6. -/
@[reducible] def TIME_REFUSED_COUNT : Nat := 0x7004C
/-- 13 R334, Table 13-6. -/
@[reducible] def TIME_CNT_FLAGS : Nat := 0x70050
/-- 13 R334, Table 13-6. -/
@[reducible] def TIME_CORR (i : Nat) : Nat := 0x70100 + 0x4 * i
/-- 14 R357, Table 14-9. -/
@[reducible] def HPLL_CTRL : Nat := 0x80000
/-- 14 R357, Table 14-10. -/
@[reducible] def HPLL_STATUS : Nat := 0x80004
/-- 14 R357, Table 14-10. -/
@[reducible] def HPLL_BO_OFS : Nat := 0x8001C
/-- 14 R357, Table 14-10. -/
@[reducible] def HPLL_COAST_CFG : Nat := 0x80018
/-- 14 R357, Table 14-11. -/
@[reducible] def HPLL_REFA_DIV : Nat := 0x80008
/-- 14 R357, Table 14-11. -/
@[reducible] def HPLL_REFB_DIV : Nat := 0x8000C
/-- 14 R357, Table 14-11. -/
@[reducible] def HPLL_ARM : Nat := 0x80010
/-- 14 R357, Table 14-12. -/
@[reducible] def HPLL_LOCK_CFG : Nat := 0x80014
/-- 14 R357, Table 14-12. -/
@[reducible] def SPLL_LOCK_CFG (t : Nat) : Nat := 0x11F000C + 0x1000000 * t
/-- 14 R357, Table 14-12. -/
@[reducible] def LPLL_LOCK_CFG (t : Nat) : Nat := 0x1200024 + 0x1000000 * t
/-- 14 R357, Table 14-14. -/
@[reducible] def SPLL_CFG (t : Nat) : Nat := 0x11F0000 + 0x1000000 * t
/-- 14 R357, Table 14-14. -/
@[reducible] def SPLL_CMD (t : Nat) : Nat := 0x11F0004 + 0x1000000 * t
/-- 14 R357, Table 14-14. -/
@[reducible] def SPLL_STATUS (t : Nat) : Nat := 0x11F0008 + 0x1000000 * t
/-- 14 R357, Table 14-14. -/
@[reducible] def SPLL_TA_LO (t : Nat) : Nat := 0x11F0010 + 0x1000000 * t
/-- 14 R357, Table 14-14. -/
@[reducible] def SPLL_TA_HI (t : Nat) : Nat := 0x11F0014 + 0x1000000 * t
/-- 14 R357, Table 14-16. -/
@[reducible] def LPLL_INT (t i : Nat) : Nat := 0x1200000 + 0x1000000 * t + 0x10 * i
/-- 14 R357, Table 14-16. -/
@[reducible] def LPLL_FRAC (t i : Nat) : Nat := 0x1200004 + 0x1000000 * t + 0x10 * i
/-- 14 R357, Table 14-16. -/
@[reducible] def LPLL_STATUS (t i : Nat) : Nat := 0x1200008 + 0x1000000 * t + 0x10 * i
/-- 14 R357, Table 14-16. -/
@[reducible] def LPLL_ARM (t : Nat) : Nat := 0x1200020 + 0x1000000 * t
/-- 15 R378, Table 15-6. -/
@[reducible] def DRAMC_CFG : Nat := 0x90000
/-- 15 R378, Table 15-6. -/
@[reducible] def DRAMC_STATUS : Nat := 0x90004
/-- 15 R378, Table 15-6. -/
@[reducible] def DRAMC_CMD : Nat := 0x90008
/-- 15 R378, Table 15-7. -/
@[reducible] def DRAMC_PAGE_CFG : Nat := 0x9000C
/-- 15 R378, Table 15-7. -/
@[reducible] def DRAMC_RH_CFG : Nat := 0x90010
/-- 15 R378, Table 15-7. -/
@[reducible] def DRAMC_PANIC_CFG : Nat := 0x90014
/-- 15 R378, Table 15-7. -/
@[reducible] def DRAMC_ARB_CFG : Nat := 0x90018
/-- 15 R378, Table 15-8. -/
@[reducible] def DRAMC_PORT_STAT : Nat := 0x9001C
/-- 15 R378, Table 15-8. -/
@[reducible] def DRAMC_WIN_CTRL : Nat := 0x90020
/-- 15 R378, Table 15-8. -/
@[reducible] def DRAMC_WIN_ADDR_LO : Nat := 0x90024
/-- 15 R378, Table 15-8. -/
@[reducible] def DRAMC_WIN_ADDR_HI : Nat := 0x90028
/-- 15 R378, Table 15-8. -/
@[reducible] def DRAMC_WIN_DATA : Nat := 0x9002C
/-- 15 R378, Table 15-9. -/
@[reducible] def DRAMC_CAP_FB : Nat := 0x90030
/-- 15 R378, Table 15-9. -/
@[reducible] def DRAMC_ECC_STAT : Nat := 0x90034
/-- 15 R378, Table 15-9. -/
@[reducible] def DRAMC_STORE_STAT : Nat := 0x90038
/-- 15 R378, Table 15-10. -/
@[reducible] def DRAMC_NREF_COUNT : Nat := 0x90040
/-- 15 R378, Table 15-10. -/
@[reducible] def DRAMC_FORCED_REF_COUNT : Nat := 0x90044
/-- 15 R378, Table 15-10. -/
@[reducible] def DRAMC_PANIC_COUNT : Nat := 0x90048
/-- 15 R378, Table 15-10. -/
@[reducible] def DRAMC_STORE_CORR : Nat := 0x9004C
/-- 15 R378, Table 15-10. -/
@[reducible] def DRAMC_STORE_UNCORR : Nat := 0x90050
/-- 15 R378, Table 15-10. -/
@[reducible] def DRAMC_CAP_REDIRECT : Nat := 0x90054
/-- 15 R378, Table 15-10. -/
@[reducible] def DRAMC_ACCESS_ERR_COUNT : Nat := 0x90058
/-- 15 R378, Table 15-10. -/
@[reducible] def DRAMC_CNT_FLAGS : Nat := 0x9005C
/-- 15 R378, Table 15-11. -/
@[reducible] def DRAMC_RDLY_LO (i : Nat) : Nat := 0x90100 + 0x40 * i
/-- 15 R378, Table 15-11. -/
@[reducible] def DRAMC_RDLY_HI (i : Nat) : Nat := 0x90104 + 0x40 * i
/-- 15 R378, Table 15-11. -/
@[reducible] def DRAMC_WDLY_LO (i : Nat) : Nat := 0x90108 + 0x40 * i
/-- 15 R378, Table 15-11. -/
@[reducible] def DRAMC_WDLY_HI (i : Nat) : Nat := 0x9010C + 0x40 * i
/-- 15 R378, Table 15-11. -/
@[reducible] def DRAMC_CADLY (i : Nat) : Nat := 0x90110 + 0x40 * i
/-- 15 R378, Table 15-11. -/
@[reducible] def DRAMC_WINW_LO (i : Nat) : Nat := 0x90114 + 0x40 * i
/-- 15 R378, Table 15-11. -/
@[reducible] def DRAMC_WINW_HI (i : Nat) : Nat := 0x90118 + 0x40 * i
/-- 16 R396, Table 16-11. -/
@[reducible] def SCARAB_DOORBELL : Nat := 0xA0000
/-- 16 R396, Table 16-11. -/
@[reducible] def SCARAB_PMEM_ADDR : Nat := 0xA0004
/-- 16 R396, Table 16-11. -/
@[reducible] def SCARAB_PMEM_DATA_LO : Nat := 0xA0008
/-- 16 R396, Table 16-11. -/
@[reducible] def SCARAB_PMEM_DATA_HI : Nat := 0xA000C
/-- 16 R396, Table 16-12. -/
@[reducible] def SCARAB_PMEM_CORRECTED : Nat := 0xA0010
/-- 16 R396, Table 16-12. -/
@[reducible] def SCARAB_WITHDRAWN_COUNT : Nat := 0xA0014
/-- 16 R396, Table 16-12. -/
@[reducible] def SCARAB_ERROR_COUNT : Nat := 0xA0018
/-- 16 R396, Table 16-12. -/
@[reducible] def SCARAB_RING_LOST : Nat := 0xA001C
/-- 16 R396, Table 16-12. -/
@[reducible] def SCARAB_CNT_FLAGS : Nat := 0xA0020
/-- 16 R396, Table 16-13. -/
@[reducible] def SCARAB_CH_CTRL (i : Nat) : Nat := 0xA0100 + 0x20 * i
/-- 16 R396, Table 16-13. -/
@[reducible] def SCARAB_CH_STAT (i : Nat) : Nat := 0xA0104 + 0x20 * i
/-- 16 R396, Table 16-14. -/
@[reducible] def SCARAB_RING_LO (i : Nat) : Nat := 0xA0108 + 0x20 * i
/-- 16 R396, Table 16-14. -/
@[reducible] def SCARAB_RING_HI (i : Nat) : Nat := 0xA010C + 0x20 * i
/-- 16 R396, Table 16-14. -/
@[reducible] def SCARAB_PROD_IDX (i : Nat) : Nat := 0xA0110 + 0x20 * i
/-- 16 R396, Table 16-14. -/
@[reducible] def SCARAB_CONS_IDX (i : Nat) : Nat := 0xA0114 + 0x20 * i
/-- 17 R415, Table 17-10. -/
@[reducible] def PMU_STATUS : Nat := 0xC0000
/-- 17 R415, Table 17-10. -/
@[reducible] def PMU_WARN_CFG : Nat := 0xC0004
/-- 17 R415, Table 17-10. -/
@[reducible] def PMU_WARN_STAT : Nat := 0xC0008
/-- 17 R415, Table 17-11. -/
@[reducible] def PMU_WAKE_CFG : Nat := 0xC000C
/-- 17 R415, Table 17-11. -/
@[reducible] def PMU_WAKE_STAT : Nat := 0xC0010
/-- 17 R415, Table 17-12. -/
@[reducible] def PMU_TIMER_CFG : Nat := 0xC0014
/-- 17 R415, Table 17-12. -/
@[reducible] def PMU_TIMER_LOAD : Nat := 0xC0018
/-- 17 R415, Table 17-12. -/
@[reducible] def PMU_TIMER_STAT : Nat := 0xC001C
/-- 17 R415, Table 17-13. -/
@[reducible] def PMU_WARN_COUNT : Nat := 0xC0020
/-- 17 R415, Table 17-13. -/
@[reducible] def PMU_WAKE_LOST_COUNT : Nat := 0xC0024
/-- 17 R415, Table 17-13. -/
@[reducible] def PMU_REFUSED_COUNT : Nat := 0xC0028
/-- 17 R415, Table 17-13. -/
@[reducible] def PMU_CNT_FLAGS : Nat := 0xC002C
/-- 17 R415, Table 17-13. -/
@[reducible] def PMU_DOM (i : Nat) : Nat := 0xC0100 + 0x4 * i
/-- 18 R428, Table 18-7. -/
@[reducible] def PMU_BOOT_STAT : Nat := 0xC0200
/-- 18 R428, Table 18-7. -/
@[reducible] def PMU_BOOT_CFG : Nat := 0xC0204
/-- 19 R450, Table 19-11. -/
@[reducible] def RILYN_IDENT : Nat := 0xD0000
/-- 19 R450, Table 19-11. -/
@[reducible] def RILYN_SERIAL_LO : Nat := 0xD0004
/-- 19 R450, Table 19-11. -/
@[reducible] def RILYN_SERIAL_HI : Nat := 0xD0008
/-- 19 R450, Table 19-11. -/
@[reducible] def RILYN_MODE : Nat := 0xD000C
/-- 19 R450, Table 19-11. -/
@[reducible] def RILYN_STATUS : Nat := 0xD0010
/-- 19 R450, Table 19-12. -/
@[reducible] def RILYN_MBX_CTRL : Nat := 0xD0014
/-- 19 R450, Table 19-12. -/
@[reducible] def RILYN_MBX_STAT : Nat := 0xD0018
/-- 19 R450, Table 19-12. -/
@[reducible] def RILYN_BUF_ADDR : Nat := 0xD001C
/-- 19 R450, Table 19-12. -/
@[reducible] def RILYN_BUF_DATA : Nat := 0xD0020
/-- 19 R450, Table 19-12. -/
@[reducible] def RILYN_MBX_REQ (i : Nat) : Nat := 0xD0100 + 0x4 * i
/-- 19 R450, Table 19-12. -/
@[reducible] def RILYN_MBX_RSP (i : Nat) : Nat := 0xD0200 + 0x4 * i
/-- 19 R450, Table 19-12. -/
@[reducible] def RILYN_MPLANE_CFG : Nat := 0xD0024
/-- 19 R450, Table 19-13. -/
@[reducible] def RILYN_LOG_STAT : Nat := 0xD0028
/-- 19 R450, Table 19-13. -/
@[reducible] def RILYN_LOG_EN (i : Nat) : Nat := 0xD0080 + 0x4 * i
/-- 19 R450, Table 19-13. -/
@[reducible] def RILYN_MPLANE_DISCARD : Nat := 0xD0030
/-- 19 R450, Table 19-13. -/
@[reducible] def RILYN_MPLANE_DROP : Nat := 0xD0034
/-- 19 R450, Table 19-13. -/
@[reducible] def RILYN_LOG_BAD : Nat := 0xD0038
/-- 19 R450, Table 19-13. -/
@[reducible] def RILYN_LOG_DROP : Nat := 0xD003C
/-- 19 R450, Table 19-13. -/
@[reducible] def RILYN_CNT_FLAGS : Nat := 0xD0040
/-- 19 R450, Table 19-15. -/
@[reducible] def HKADC_SCAN_EN_LO (d : Nat) : Nat := 0x100000 + 0x1000000 * d
/-- 19 R450, Table 19-15. -/
@[reducible] def HKADC_SCAN_EN_HI (d : Nat) : Nat := 0x100004 + 0x1000000 * d
/-- 19 R450, Table 19-15. -/
@[reducible] def HKADC_CHCFG (d i : Nat) : Nat := 0x100100 + 0x1000000 * d + 0x4 * i
/-- 19 R450, Table 19-15. -/
@[reducible] def HKADC_RES (d i : Nat) : Nat := 0x100200 + 0x1000000 * d + 0x4 * i
/-- 20 R464, Table 20-4. -/
@[reducible] def THERM_READING (d : Nat) : Nat := 0xE0000 + 0x1000000 * d
/-- 20 R464, Table 20-4. -/
@[reducible] def THERM_RAW (d : Nat) : Nat := 0xE0004 + 0x1000000 * d
/-- 20 R464, Table 20-4. -/
@[reducible] def THERM_RATE_CFG (d : Nat) : Nat := 0xE0008 + 0x1000000 * d
/-- 20 R464, Table 20-4. -/
@[reducible] def THERM_RATE_STAT (d : Nat) : Nat := 0xE000C + 0x1000000 * d
/-- 20 R464, Table 20-5. -/
@[reducible] def THERM_THR (d i : Nat) : Nat := 0xE0010 + 0x1000000 * d + 0x4 * i
/-- 20 R464, Table 20-6. -/
@[reducible] def THERM_XCHK_CFG : Nat := 0xE0040
/-- 20 R464, Table 20-6. -/
@[reducible] def THERM_XCHK_STAT : Nat := 0xE0044
/-- 20 R464, Table 20-6. -/
@[reducible] def THERM_SHUT_CFG : Nat := 0xE0048
/-- 20 R464, Table 20-6. -/
@[reducible] def THERM_EVT_SRC : Nat := 0xE0050
/-- 20 R464, Table 20-7. -/
@[reducible] def THERM_SHUT_REC : Nat := 0xE004C
/-- 20 R464, Table 20-7. -/
@[reducible] def THERM_PWR (i : Nat) : Nat := 0xE0060 + 0x4 * i
/-- 20 R464, Table 20-7. -/
@[reducible] def THERM_THETA (i : Nat) : Nat := 0xE0080 + 0x4 * i
/-- 20 R464, Table 20-9. -/
@[reducible] def CICADA_MON_SEL (d : Nat) : Nat := 0xF0000 + 0x1000000 * d
/-- 20 R464, Table 20-9. -/
@[reducible] def CICADA_MON_DATA (d : Nat) : Nat := 0xF0004 + 0x1000000 * d
/-- 20 R464, Table 20-9. -/
@[reducible] def CICADA_MON_REF (d : Nat) : Nat := 0xF0008 + 0x1000000 * d
/-- 20 R464, Table 20-9. -/
@[reducible] def CICADA_LIFE (d : Nat) : Nat := 0xF000C + 0x1000000 * d
/-- 20 R464, Table 20-9. -/
@[reducible] def CICADA_PART_LIFE : Nat := 0xF0010
/-- 20 R464, Table 20-10. -/
@[reducible] def CICADA_LIFE_THR : Nat := 0xF0014
/-- 20 R464, Table 20-10. -/
@[reducible] def CICADA_LIFE_STAT : Nat := 0xF0018
/-- 21 R474, Table 21-8. -/
@[reducible] def HIVE_STATUS (i : Nat) : Nat := 0xB0000 + 0x4 * i
/-- 21 R474, Table 21-8. -/
@[reducible] def HIVE_RAW (i : Nat) : Nat := 0xB0020 + 0x4 * i
/-- 21 R474, Table 21-8. -/
@[reducible] def HIVE_INT_STAT : Nat := 0xB0040
/-- 21 R474, Table 21-8. -/
@[reducible] def HIVE_MSI_PEND : Nat := 0xB0044
/-- 21 R474, Table 21-9. -/
@[reducible] def HIVE_SRC_CFG (i : Nat) : Nat := 0xB0400 + 0x4 * i
/-- 21 R474, Table 21-10. -/
@[reducible] def HIVE_D2D_CORRECTED (i : Nat) : Nat := 0xB0050 + 0x4 * i
/-- 21 R474, Table 21-10. -/
@[reducible] def HIVE_CNT_FLAGS : Nat := 0xB0060
end Reg

/-! Fields: lowest bit and width. -/
namespace F
@[reducible] def GLIDE_CTRL_GO : Fld := ⟨17, 1⟩
@[reducible] def GLIDE_CTRL_ENABLE : Fld := ⟨16, 1⟩
@[reducible] def GLIDE_CTRL_START_PC : Fld := ⟨0, 13⟩
@[reducible] def GLIDE_STATUS_STATE : Fld := ⟨28, 4⟩
@[reducible] def GLIDE_STATUS_FAULT : Fld := ⟨24, 4⟩
@[reducible] def GLIDE_STATUS_QDEPTH : Fld := ⟨20, 4⟩
@[reducible] def GLIDE_STATUS_PC : Fld := ⟨0, 13⟩
@[reducible] def GLIDE_LATE_COUNT_COUNT : Fld := ⟨0, 32⟩
@[reducible] def GLIDE_IMEM_CORRECTED_COUNT : Fld := ⟨0, 32⟩
@[reducible] def GLIDE_LATE_TIME_LO_TIME : Fld := ⟨0, 32⟩
@[reducible] def GLIDE_LATE_TIME_HI_TIME : Fld := ⟨0, 32⟩
@[reducible] def GLIDE_LATE_INFO_SRC : Fld := ⟨31, 1⟩
@[reducible] def GLIDE_LATE_INFO_ACTION : Fld := ⟨30, 1⟩
@[reducible] def GLIDE_LATE_INFO_PC : Fld := ⟨0, 13⟩
@[reducible] def GLIDE_CNT_FLAGS_ECC_OVF : Fld := ⟨1, 1⟩
@[reducible] def GLIDE_CNT_FLAGS_LATE_OVF : Fld := ⟨0, 1⟩
@[reducible] def GLIDE_SIG_CODE_CODE : Fld := ⟨0, 8⟩
@[reducible] def GLIDE_IMEM_ADDR_ADDR : Fld := ⟨0, 13⟩
@[reducible] def GLIDE_IMEM_DATA_LO_DATA : Fld := ⟨0, 32⟩
@[reducible] def GLIDE_IMEM_DATA_HI_DATA : Fld := ⟨0, 32⟩
@[reducible] def GLIDE_GREG_SEL_SEL : Fld := ⟨0, 4⟩
@[reducible] def GLIDE_GREG_LO_VALUE : Fld := ⟨0, 32⟩
@[reducible] def GLIDE_GREG_HI_VALUE : Fld := ⟨0, 32⟩
@[reducible] def GLIDE_BT_LO_VALUE : Fld := ⟨0, 32⟩
@[reducible] def GLIDE_BT_HI_VALUE : Fld := ⟨0, 32⟩
@[reducible] def GLIDE_TILE_EN_EN : Fld := ⟨0, 4⟩
@[reducible] def GLIDE_FIFO_LEVEL_LEVEL : Fld := ⟨0, 9⟩
@[reducible] def GLIDE_PARAM_VALUE : Fld := ⟨0, 32⟩
@[reducible] def TXCH_CTRL_DAC_GATE : Fld := ⟨7, 1⟩
@[reducible] def TXCH_CTRL_INV_SINC : Fld := ⟨6, 1⟩
@[reducible] def TXCH_CTRL_RAMP : Fld := ⟨4, 2⟩
@[reducible] def TXCH_STATUS_TRIM_PENDING : Fld := ⟨7, 1⟩
@[reducible] def TXCH_STATUS_MUTE_LINK : Fld := ⟨6, 1⟩
@[reducible] def TXCH_STATUS_MUTE_COAST : Fld := ⟨5, 1⟩
@[reducible] def TXCH_STATUS_UNLOCK_HOLD : Fld := ⟨4, 1⟩
@[reducible] def TXCH_STATUS_CAR_INVALID : Fld := ⟨0, 4⟩
@[reducible] def TXCH_RF_LO_WORD : Fld := ⟨0, 32⟩
@[reducible] def TXCH_RF_HI_WORD : Fld := ⟨0, 16⟩
@[reducible] def TXCH_CARCFG_EN : Fld := ⟨31, 1⟩
@[reducible] def TXCH_CARCFG_SYMPH : Fld := ⟨30, 1⟩
@[reducible] def TXCH_CARCFG_NRB : Fld := ⟨16, 9⟩
@[reducible] def TXCH_CARCFG_SHIFT : Fld := ⟨12, 4⟩
@[reducible] def TXCH_CARCFG_NFFT_LOG2 : Fld := ⟨8, 4⟩
@[reducible] def TXCH_CARCFG_ECP : Fld := ⟨4, 1⟩
@[reducible] def TXCH_CARCFG_MU : Fld := ⟨0, 3⟩
@[reducible] def TXCH_TRIM_ARM_PMASK : Fld := ⟨0, 16⟩
@[reducible] def TXCH_PATGEN_PMASK : Fld := ⟨16, 16⟩
@[reducible] def TXCH_PATGEN_AMPL : Fld := ⟨8, 8⟩
@[reducible] def TXCH_PATGEN_POINT : Fld := ⟨3, 1⟩
@[reducible] def TXCH_PATGEN_SRC : Fld := ⟨0, 3⟩
@[reducible] def TXCH_PATGEN_FREQ_FREQ : Fld := ⟨0, 32⟩
@[reducible] def TXCH_CARSEL_CAR : Fld := ⟨4, 2⟩
@[reducible] def TXCH_CARSEL_PIDX : Fld := ⟨0, 4⟩
@[reducible] def TXCH_CAR_NCO_LO_TW : Fld := ⟨0, 32⟩
@[reducible] def TXCH_CAR_NCO_HI_TW : Fld := ⟨0, 16⟩
@[reducible] def TXCH_CAR_FILT_RESP : Fld := ⟨28, 4⟩
@[reducible] def TXCH_CAR_FILT_GATE : Fld := ⟨16, 1⟩
@[reducible] def TXCH_CAR_FILT_RATIO : Fld := ⟨0, 12⟩
@[reducible] def TXCH_REFUSED_COUNT_COUNT : Fld := ⟨0, 32⟩
@[reducible] def TXCH_LATE_DATA_COUNT_COUNT : Fld := ⟨0, 32⟩
@[reducible] def TXCH_CNT_FLAGS_LATE_OVF : Fld := ⟨17, 1⟩
@[reducible] def TXCH_CNT_FLAGS_REFUSED_OVF : Fld := ⟨16, 1⟩
@[reducible] def TXCH_CNT_FLAGS_CLIP_OVF : Fld := ⟨0, 16⟩
@[reducible] def TXCH_DELAY_DELAY : Fld := ⟨0, 13⟩
@[reducible] def TXCH_PHASE_PHASE : Fld := ⟨0, 16⟩
@[reducible] def TXCH_GAIN_GAIN : Fld := ⟨0, 16⟩
@[reducible] def TXCH_CLIP_COUNT_COUNT : Fld := ⟨0, 32⟩
@[reducible] def RXCH_CTRL_LOOP : Fld := ⟨0, 1⟩
@[reducible] def RXCH_STATUS_REF_VALID : Fld := ⟨7, 1⟩
@[reducible] def RXCH_STATUS_REF_CAR : Fld := ⟨5, 2⟩
@[reducible] def RXCH_STATUS_UNLOCK : Fld := ⟨4, 1⟩
@[reducible] def RXCH_STATUS_CAR_INVALID : Fld := ⟨0, 4⟩
@[reducible] def RXCH_RF_LO_WORD : Fld := ⟨0, 32⟩
@[reducible] def RXCH_RF_HI_WORD : Fld := ⟨0, 16⟩
@[reducible] def RXCH_CARCFG_EN : Fld := ⟨31, 1⟩
@[reducible] def RXCH_CARCFG_SYMPH : Fld := ⟨30, 1⟩
@[reducible] def RXCH_CARCFG_MODE : Fld := ⟨29, 1⟩
@[reducible] def RXCH_CARCFG_NRB : Fld := ⟨16, 9⟩
@[reducible] def RXCH_CARCFG_SHIFT : Fld := ⟨12, 4⟩
@[reducible] def RXCH_CARCFG_NFFT_LOG2 : Fld := ⟨8, 4⟩
@[reducible] def RXCH_CARCFG_ECP : Fld := ⟨4, 1⟩
@[reducible] def RXCH_CARCFG_MU : Fld := ⟨0, 3⟩
@[reducible] def RXCH_CARWIN_WIN_ADV : Fld := ⟨0, 10⟩
@[reducible] def RXCH_TRIM_ARM_PMASK : Fld := ⟨0, 16⟩
@[reducible] def RXCH_UL_OFFSET_OFFSET : Fld := ⟨0, 16⟩
@[reducible] def RXCH_CARSEL_CAR : Fld := ⟨4, 2⟩
@[reducible] def RXCH_CARSEL_PIDX : Fld := ⟨0, 4⟩
@[reducible] def RXCH_CAR_NCO_LO_TW : Fld := ⟨0, 32⟩
@[reducible] def RXCH_CAR_NCO_HI_TW : Fld := ⟨0, 16⟩
@[reducible] def RXCH_CAR_FILT_RESP : Fld := ⟨28, 4⟩
@[reducible] def RXCH_CAR_FILT_GATE : Fld := ⟨16, 1⟩
@[reducible] def RXCH_CAR_FILT_RATIO : Fld := ⟨0, 12⟩
@[reducible] def RXCH_GAINCFG_COMP : Fld := ⟨31, 1⟩
@[reducible] def RXCH_GAINCFG_STEP_SETTLE : Fld := ⟨8, 16⟩
@[reducible] def RXCH_GAINCFG_LSB : Fld := ⟨0, 8⟩
@[reducible] def RXCH_AGC_CFG_HIGH : Fld := ⟨25, 7⟩
@[reducible] def RXCH_AGC_CFG_LOW : Fld := ⟨18, 7⟩
@[reducible] def RXCH_AGC_CFG_STEP : Fld := ⟨14, 4⟩
@[reducible] def RXCH_AGC_CFG_HOLD : Fld := ⟨8, 6⟩
@[reducible] def RXCH_AGC_EN_PMASK : Fld := ⟨0, 16⟩
@[reducible] def RXCH_PM_CFG_SRC : Fld := ⟨16, 3⟩
@[reducible] def RXCH_PM_CFG_BLK_LOG2 : Fld := ⟨12, 4⟩
@[reducible] def RXCH_PM_CFG_AVG_LOG2 : Fld := ⟨8, 4⟩
@[reducible] def RXCH_PM_CFG_WIN : Fld := ⟨5, 3⟩
@[reducible] def RXCH_PM_CFG_RANK : Fld := ⟨0, 4⟩
@[reducible] def RXCH_WPD_CFG_BLK_LOG2 : Fld := ⟨12, 4⟩
@[reducible] def RXCH_WPD_CFG_AVG_LOG2 : Fld := ⟨8, 4⟩
@[reducible] def RXCH_WPD_CFG_WIN : Fld := ⟨5, 3⟩
@[reducible] def RXCH_WPD_CFG_RANK : Fld := ⟨0, 4⟩
@[reducible] def RXCH_WPD_THRESH_THRESH : Fld := ⟨0, 13⟩
@[reducible] def RXCH_ZONE_Z : Fld := ⟨0, 16⟩
@[reducible] def RXCH_CNT_FLAGS_CAP_OVF : Fld := ⟨16, 16⟩
@[reducible] def RXCH_CNT_FLAGS_CLIP_OVF : Fld := ⟨0, 16⟩
@[reducible] def RXCH_DELAY_DELAY : Fld := ⟨0, 13⟩
@[reducible] def RXCH_PHASE_PHASE : Fld := ⟨0, 16⟩
@[reducible] def RXCH_STEP_CFG_ROUTE : Fld := ⟨31, 1⟩
@[reducible] def RXCH_STEP_CFG_GPIO_BASE : Fld := ⟨24, 5⟩
@[reducible] def RXCH_STEP_CFG_USID : Fld := ⟨16, 4⟩
@[reducible] def RXCH_STEP_CFG_REGADDR : Fld := ⟨8, 8⟩
@[reducible] def RXCH_STEP_CFG_CODE : Fld := ⟨0, 6⟩
@[reducible] def RXCH_CLIP_COUNT_COUNT : Fld := ⟨0, 32⟩
@[reducible] def RXCH_PM_RESULT_VALID : Fld := ⟨31, 1⟩
@[reducible] def RXCH_PM_RESULT_FRESH : Fld := ⟨30, 1⟩
@[reducible] def RXCH_PM_RESULT_POWER : Fld := ⟨0, 16⟩
@[reducible] def RXCH_WPD_RESULT_VALID : Fld := ⟨31, 1⟩
@[reducible] def RXCH_WPD_RESULT_FRESH : Fld := ⟨30, 1⟩
@[reducible] def RXCH_WPD_RESULT_PEAK : Fld := ⟨16, 13⟩
@[reducible] def RXCH_WPD_RESULT_POWER : Fld := ⟨0, 16⟩
@[reducible] def RXCH_CAP_CFG_DEST : Fld := ⟨31, 1⟩
@[reducible] def RXCH_CAP_CFG_RING : Fld := ⟨30, 1⟩
@[reducible] def RXCH_CAP_CFG_ALIGN : Fld := ⟨29, 1⟩
@[reducible] def RXCH_CAP_CFG_HDR : Fld := ⟨28, 1⟩
@[reducible] def RXCH_CAP_CFG_CAR : Fld := ⟨26, 2⟩
@[reducible] def RXCH_CAP_BASE_LO_BASE : Fld := ⟨6, 26⟩
@[reducible] def RXCH_CAP_BASE_HI_BASE : Fld := ⟨0, 4⟩
@[reducible] def RXCH_CAP_SIZE_SIZE : Fld := ⟨6, 26⟩
@[reducible] def RXCH_CAP_STAT_STATE : Fld := ⟨30, 2⟩
@[reducible] def RXCH_CAP_STAT_END : Fld := ⟨27, 3⟩
@[reducible] def RXCH_CAP_STAT_GRANULES : Fld := ⟨0, 27⟩
@[reducible] def SLALOM_CTRL_UL_SHIFT : Fld := ⟨8, 4⟩
@[reducible] def SLALOM_CTRL_DL_SHIFT : Fld := ⟨5, 3⟩
@[reducible] def SLALOM_CTRL_PSUM_W : Fld := ⟨4, 1⟩
@[reducible] def SLALOM_CTRL_SHORT : Fld := ⟨0, 1⟩
@[reducible] def SLALOM_STATUS_POOL_FREE : Fld := ⟨16, 12⟩
@[reducible] def SLALOM_STATUS_ENTRIES_USED : Fld := ⟨0, 14⟩
@[reducible] def SLALOM_FALLBACK_MODE : Fld := ⟨16, 1⟩
@[reducible] def SLALOM_FALLBACK_BEAM : Fld := ⟨0, 15⟩
@[reducible] def SLALOM_CASC_CFG_PARTS_M1 : Fld := ⟨22, 2⟩
@[reducible] def SLALOM_CASC_CFG_PART_ID : Fld := ⟨20, 2⟩
@[reducible] def SLALOM_CASC_CFG_WAIT : Fld := ⟨0, 16⟩
@[reducible] def SLALOM_BEAM_CMD_OP : Fld := ⟨28, 4⟩
@[reducible] def SLALOM_BEAM_CMD_ID : Fld := ⟨0, 15⟩
@[reducible] def SLALOM_BEAM_STAT_BUSY : Fld := ⟨31, 1⟩
@[reducible] def SLALOM_BEAM_STAT_RESULT : Fld := ⟨28, 3⟩
@[reducible] def SLALOM_BEAM_STAT_ENTRY : Fld := ⟨0, 13⟩
@[reducible] def SLALOM_TL_SEL_D : Fld := ⟨5, 1⟩
@[reducible] def SLALOM_TL_SEL_LAYER : Fld := ⟨0, 5⟩
@[reducible] def SLALOM_TL_BEAM_BEAM : Fld := ⟨0, 15⟩
@[reducible] def SLALOM_FALLBACK_COUNT_COUNT : Fld := ⟨0, 32⟩
@[reducible] def SLALOM_BEAM_TABLE_FULL_COUNT : Fld := ⟨0, 32⟩
@[reducible] def SLALOM_LATE_CTRL_COUNT_COUNT : Fld := ⟨0, 32⟩
@[reducible] def SLALOM_STALE_COUNT_COUNT : Fld := ⟨0, 32⟩
@[reducible] def SLALOM_UNKNOWN_BEAM_COUNT_COUNT : Fld := ⟨0, 32⟩
@[reducible] def SLALOM_REJECT_COUNT_COUNT : Fld := ⟨0, 32⟩
@[reducible] def SLALOM_REPLAY_COUNT_COUNT : Fld := ⟨0, 32⟩
@[reducible] def SLALOM_ECC_CORRECTED_COUNT : Fld := ⟨0, 32⟩
@[reducible] def SLALOM_DISPATCH_LATE_COUNT_COUNT : Fld := ⟨0, 32⟩
@[reducible] def SLALOM_MISSING_DATA_COUNT_COUNT : Fld := ⟨0, 32⟩
@[reducible] def SLALOM_PSUM_LATE_COUNT_COUNT : Fld := ⟨0, 32⟩
@[reducible] def SLALOM_DL_SAT_COUNT_COUNT : Fld := ⟨0, 32⟩
@[reducible] def SLALOM_UL_SAT_COUNT_COUNT : Fld := ⟨0, 32⟩
@[reducible] def SLALOM_CNT_FLAGS_UL_SAT_OVF : Fld := ⟨12, 1⟩
@[reducible] def SLALOM_CNT_FLAGS_DL_SAT_OVF : Fld := ⟨11, 1⟩
@[reducible] def SLALOM_CNT_FLAGS_PSUM_LATE_OVF : Fld := ⟨10, 1⟩
@[reducible] def SLALOM_CNT_FLAGS_MISSING_OVF : Fld := ⟨9, 1⟩
@[reducible] def SLALOM_CNT_FLAGS_DISPATCH_OVF : Fld := ⟨8, 1⟩
@[reducible] def SLALOM_CNT_FLAGS_ECC_OVF : Fld := ⟨7, 1⟩
@[reducible] def SLALOM_CNT_FLAGS_REPLAY_OVF : Fld := ⟨6, 1⟩
@[reducible] def SLALOM_CNT_FLAGS_REJECT_OVF : Fld := ⟨5, 1⟩
@[reducible] def SLALOM_CNT_FLAGS_UNKNOWN_OVF : Fld := ⟨4, 1⟩
@[reducible] def SLALOM_CNT_FLAGS_STALE_OVF : Fld := ⟨3, 1⟩
@[reducible] def SLALOM_CNT_FLAGS_LATE_CTRL_OVF : Fld := ⟨2, 1⟩
@[reducible] def SLALOM_CNT_FLAGS_TABLE_FULL_OVF : Fld := ⟨1, 1⟩
@[reducible] def SLALOM_CNT_FLAGS_FALLBACK_OVF : Fld := ⟨0, 1⟩
@[reducible] def SLALOM_BEAM_DATA_Q : Fld := ⟨16, 16⟩
@[reducible] def SLALOM_BEAM_DATA_I : Fld := ⟨0, 16⟩
@[reducible] def TDPD_CTRL_XTAPS : Fld := ⟨4, 2⟩
@[reducible] def TDPD_CTRL_SWAP_CAR : Fld := ⟨0, 2⟩
@[reducible] def TDPD_ENABLE_ACTIVE : Fld := ⟨16, 16⟩
@[reducible] def TDPD_ENABLE_SHADOW : Fld := ⟨0, 16⟩
@[reducible] def TDPD_SWAP_ARM_PMASK : Fld := ⟨0, 16⟩
@[reducible] def TDPD_SWAP_STAT_PENDING : Fld := ⟨16, 16⟩
@[reducible] def TDPD_SWAP_STAT_LOCK : Fld := ⟨0, 16⟩
@[reducible] def TDPD_TBL_ADDR_BANK : Fld := ⟨31, 1⟩
@[reducible] def TDPD_TBL_ADDR_PIDX : Fld := ⟨11, 4⟩
@[reducible] def TDPD_TBL_ADDR_WORD : Fld := ⟨0, 11⟩
@[reducible] def TDPD_TBL_DATA_Q : Fld := ⟨16, 16⟩
@[reducible] def TDPD_TBL_DATA_I : Fld := ⟨0, 16⟩
@[reducible] def TDPD_BRANCH_EN : Fld := ⟨31, 1⟩
@[reducible] def TDPD_BRANCH_TAPS : Fld := ⟨8, 2⟩
@[reducible] def TDPD_BRANCH_SDLY : Fld := ⟨4, 3⟩
@[reducible] def TDPD_BRANCH_EDLY : Fld := ⟨0, 3⟩
@[reducible] def HDPD_CTRL_AUTO : Fld := ⟨31, 1⟩
@[reducible] def HDPD_CTRL_AUTO_SWAP : Fld := ⟨30, 1⟩
@[reducible] def HDPD_CTRL_NACQ : Fld := ⟨26, 4⟩
@[reducible] def HDPD_CTRL_STEP : Fld := ⟨22, 4⟩
@[reducible] def HDPD_CTRL_K : Fld := ⟨19, 3⟩
@[reducible] def HDPD_CTRL_LAMBDA : Fld := ⟨14, 5⟩
@[reducible] def HDPD_CTRL_CONV : Fld := ⟨6, 8⟩
@[reducible] def HDPD_CTRL_MIN_VALID : Fld := ⟨0, 6⟩
@[reducible] def HDPD_STATUS_BUSY : Fld := ⟨31, 1⟩
@[reducible] def HDPD_STATUS_CMD_BUSY : Fld := ⟨30, 1⟩
@[reducible] def HDPD_STATUS_OPEN : Fld := ⟨27, 3⟩
@[reducible] def HDPD_STATUS_PATH : Fld := ⟨16, 6⟩
@[reducible] def HDPD_STATUS_WAITING : Fld := ⟨0, 5⟩
@[reducible] def HDPD_COEF_CMD_OP : Fld := ⟨28, 4⟩
@[reducible] def HDPD_COEF_CMD_PATH : Fld := ⟨0, 6⟩
@[reducible] def HDPD_COEF_ADDR_PATH : Fld := ⟨16, 6⟩
@[reducible] def HDPD_COEF_ADDR_WORD : Fld := ⟨0, 9⟩
@[reducible] def HDPD_COEF_DATA_VALUE : Fld := ⟨0, 32⟩
@[reducible] def HDPD_RESULT_OUTCOME : Fld := ⟨28, 4⟩
@[reducible] def HDPD_RESULT_NACQ : Fld := ⟨23, 5⟩
@[reducible] def HDPD_RESULT_NMSE : Fld := ⟨0, 16⟩
@[reducible] def HDPD_JOB_COUNT_COUNT : Fld := ⟨0, 32⟩
@[reducible] def HDPD_JOB_REJECT_COUNT_COUNT : Fld := ⟨0, 32⟩
@[reducible] def HDPD_CNT_FLAGS_REJ_OVF : Fld := ⟨1, 1⟩
@[reducible] def HDPD_CNT_FLAGS_JOB_OVF : Fld := ⟨0, 1⟩
@[reducible] def DFLY_CTRL_TRAIN_EN_1 : Fld := ⟨3, 1⟩
@[reducible] def DFLY_CTRL_TRAIN_EN_0 : Fld := ⟨2, 1⟩
@[reducible] def DFLY_CTRL_SIDE_1 : Fld := ⟨1, 1⟩
@[reducible] def DFLY_CTRL_SIDE_0 : Fld := ⟨0, 1⟩
@[reducible] def DFLY_STATUS_IMG_DUE : Fld := ⟨8, 2⟩
@[reducible] def DFLY_STATUS_BUSY : Fld := ⟨6, 2⟩
@[reducible] def DFLY_STATUS_TRBUF : Fld := ⟨4, 2⟩
@[reducible] def DFLY_STATUS_STALE : Fld := ⟨2, 2⟩
@[reducible] def DFLY_STATUS_IMG_VALID : Fld := ⟨0, 2⟩
@[reducible] def DFLY_INPUT_SEL : Fld := ⟨0, 2⟩
@[reducible] def DFLY_IMG_CFG_INTERVAL : Fld := ⟨16, 10⟩
@[reducible] def DFLY_IMG_CFG_IMG_MIN : Fld := ⟨8, 8⟩
@[reducible] def DFLY_IMG_CFG_TEMP : Fld := ⟨0, 8⟩
@[reducible] def DFLY_MM_CFG_AGE : Fld := ⟨24, 8⟩
@[reducible] def DFLY_MM_CFG_COUNT : Fld := ⟨20, 4⟩
@[reducible] def DFLY_MM_CFG_THRESH : Fld := ⟨0, 12⟩
@[reducible] def DFLY_ALIGN_CFG_RANGE : Fld := ⟨0, 8⟩
@[reducible] def DFLY_ACQ_STAT_REASON : Fld := ⟨28, 4⟩
@[reducible] def DFLY_ACQ_STAT_PIDX : Fld := ⟨24, 4⟩
@[reducible] def DFLY_ACQ_STAT_VALID : Fld := ⟨0, 14⟩
@[reducible] def DFLY_ACQ_DLY_DELAY : Fld := ⟨0, 16⟩
@[reducible] def DFLY_IMG_STAT_REJ : Fld := ⟨24, 8⟩
@[reducible] def DFLY_IMG_STAT_TEMP : Fld := ⟨12, 12⟩
@[reducible] def DFLY_PWR_VALID : Fld := ⟨31, 1⟩
@[reducible] def DFLY_PWR_FRESH : Fld := ⟨30, 1⟩
@[reducible] def DFLY_PWR_POWER : Fld := ⟨0, 16⟩
@[reducible] def DFLY_ACQ_REJECT_COUNT_COUNT : Fld := ⟨0, 32⟩
@[reducible] def DFLY_CONFLICT_COUNT_COUNT : Fld := ⟨0, 32⟩
@[reducible] def DFLY_CNT_FLAGS_CONFLICT_OVF : Fld := ⟨1, 1⟩
@[reducible] def DFLY_CNT_FLAGS_ACQ_REJ_OVF : Fld := ⟨0, 1⟩
@[reducible] def DFLY_LOOPDLY_DELAY : Fld := ⟨0, 12⟩
@[reducible] def DFLY_CPL_OFS_OFS : Fld := ⟨0, 16⟩
@[reducible] def DFLY_RL_VALID : Fld := ⟨31, 1⟩
@[reducible] def DFLY_RL_FRESH : Fld := ⟨30, 1⟩
@[reducible] def DFLY_RL_SIM : Fld := ⟨29, 1⟩
@[reducible] def DFLY_RL_MM : Fld := ⟨28, 1⟩
@[reducible] def DFLY_RL_RL : Fld := ⟨0, 12⟩
@[reducible] def DFLY_CAL_CTRL_APPLY_TX : Fld := ⟨31, 1⟩
@[reducible] def DFLY_CAL_CTRL_APPLY_RX : Fld := ⟨30, 1⟩
@[reducible] def DFLY_CAL_CTRL_ABS : Fld := ⟨29, 1⟩
@[reducible] def DFLY_CAL_CTRL_BAND : Fld := ⟨28, 1⟩
@[reducible] def DFLY_CAL_CTRL_REF : Fld := ⟨24, 4⟩
@[reducible] def DFLY_CAL_CTRL_LEVEL : Fld := ⟨16, 8⟩
@[reducible] def DFLY_CAL_CTRL_MAX_RES : Fld := ⟨8, 8⟩
@[reducible] def DFLY_CAL_CTRL_MIN_SNR : Fld := ⟨0, 8⟩
@[reducible] def DFLY_CAL_CMD_GO : Fld := ⟨31, 1⟩
@[reducible] def DFLY_CAL_CMD_KIND : Fld := ⟨16, 4⟩
@[reducible] def DFLY_CAL_CMD_PMASK : Fld := ⟨0, 16⟩
@[reducible] def DFLY_CAL_DUR_DUR : Fld := ⟨0, 32⟩
@[reducible] def DFLY_CAL_STAT_BUSY : Fld := ⟨31, 1⟩
@[reducible] def DFLY_CAL_STAT_KIND : Fld := ⟨28, 3⟩
@[reducible] def DFLY_CAL_STAT_TX_VALID : Fld := ⟨27, 1⟩
@[reducible] def DFLY_CAL_STAT_RX_VALID : Fld := ⟨26, 1⟩
@[reducible] def DFLY_CAL_STAT_RCP_VALID : Fld := ⟨25, 1⟩
@[reducible] def DFLY_CAL_STAT_DUE : Fld := ⟨22, 3⟩
@[reducible] def DFLY_CAL_STAT_FAIL : Fld := ⟨0, 16⟩
@[reducible] def DFLY_CAL_TRIG_INTERVAL : Fld := ⟨16, 10⟩
@[reducible] def DFLY_CAL_TRIG_TEMP : Fld := ⟨0, 8⟩
@[reducible] def DFLY_TARGET_DLY_DELAY : Fld := ⟨0, 20⟩
@[reducible] def DFLY_TARGET_PH_PHASE : Fld := ⟨0, 16⟩
@[reducible] def DFLY_FAIL_COUNT_COUNT : Fld := ⟨0, 32⟩
@[reducible] def DFLY_CAL_CNT_FLAGS_FAIL_OVF : Fld := ⟨0, 1⟩
@[reducible] def DFLY_CONV_CTRL_FREEZE : Fld := ⟨0, 16⟩
@[reducible] def DFLY_CONV_STAT_DAC_OK : Fld := ⟨16, 16⟩
@[reducible] def DFLY_CONV_STAT_ADC_CONV : Fld := ⟨0, 16⟩
@[reducible] def DFLY_STAMP_TEMP : Fld := ⟨20, 12⟩
@[reducible] def DFLY_STIME_TIME : Fld := ⟨0, 32⟩
@[reducible] def DFLY_NET_TX_DELAY : Fld := ⟨16, 16⟩
@[reducible] def DFLY_NET_TX_PHASE : Fld := ⟨0, 16⟩
@[reducible] def DFLY_NET_RX_DELAY : Fld := ⟨16, 16⟩
@[reducible] def DFLY_NET_RX_PHASE : Fld := ⟨0, 16⟩
@[reducible] def DFLY_TXR_CODE : Fld := ⟨28, 4⟩
@[reducible] def DFLY_TXR_AMP : Fld := ⟨16, 12⟩
@[reducible] def DFLY_TXR_PHASE : Fld := ⟨0, 16⟩
@[reducible] def DFLY_RXR_CODE : Fld := ⟨28, 4⟩
@[reducible] def DFLY_RXR_AMP : Fld := ⟨16, 12⟩
@[reducible] def DFLY_RXR_PHASE : Fld := ⟨0, 16⟩
@[reducible] def DFLY_RCP_CODE : Fld := ⟨28, 4⟩
@[reducible] def DFLY_RCP_AMP : Fld := ⟨16, 12⟩
@[reducible] def DFLY_RCP_PHASE : Fld := ⟨0, 16⟩
@[reducible] def DFLY_TXD_DELAY : Fld := ⟨0, 20⟩
@[reducible] def DFLY_RXD_DELAY : Fld := ⟨0, 20⟩
@[reducible] def DFLY_RCPD_DELAY : Fld := ⟨0, 20⟩
@[reducible] def SEQ_CMD_OP : Fld := ⟨28, 4⟩
@[reducible] def SEQ_CMD_QMASK : Fld := ⟨0, 4⟩
@[reducible] def SEQ_REFUSED_COUNT_COUNT : Fld := ⟨0, 32⟩
@[reducible] def SEQ_CNT_FLAGS_REFUSED_OVF : Fld := ⟨0, 1⟩
@[reducible] def SEQ_CFG_GATE_MASK : Fld := ⟨16, 16⟩
@[reducible] def SEQ_CFG_GATE_KEEP : Fld := ⟨15, 1⟩
@[reducible] def SEQ_CFG_MM_TRIP : Fld := ⟨14, 1⟩
@[reducible] def SEQ_CFG_GOK_TMO : Fld := ⟨0, 14⟩
@[reducible] def SEQ_DLY_A_T_GATE : Fld := ⟨16, 12⟩
@[reducible] def SEQ_DLY_A_T_DRAIN : Fld := ⟨0, 12⟩
@[reducible] def SEQ_DLY_B_T_PAOFF : Fld := ⟨16, 12⟩
@[reducible] def SEQ_DLY_B_T_DRAINOFF : Fld := ⟨0, 12⟩
@[reducible] def SEQ_STAT_STATE : Fld := ⟨28, 4⟩
@[reducible] def SEQ_STAT_CAUSE : Fld := ⟨24, 4⟩
@[reducible] def SEQ_STAT_PAEN_PIN : Fld := ⟨20, 4⟩
@[reducible] def SEQ_STAT_PAEN_REC : Fld := ⟨16, 4⟩
@[reducible] def SEQ_STAT_GATEOK : Fld := ⟨1, 1⟩
@[reducible] def SEQ_STAT_DRAINEN : Fld := ⟨0, 1⟩
@[reducible] def BIASOUT_RB_CFG_SETTLE : Fld := ⟨16, 8⟩
@[reducible] def BIASOUT_RB_CFG_CNT : Fld := ⟨12, 4⟩
@[reducible] def BIASOUT_RB_CFG_TOL : Fld := ⟨0, 12⟩
@[reducible] def BIASOUT_CFG_EN : Fld := ⟨31, 1⟩
@[reducible] def BIASOUT_CFG_RANGE : Fld := ⟨30, 1⟩
@[reducible] def BIASOUT_CFG_SINE : Fld := ⟨29, 1⟩
@[reducible] def BIASOUT_CFG_DIV : Fld := ⟨0, 16⟩
@[reducible] def BIASOUT_SAFE_CODE : Fld := ⟨0, 16⟩
@[reducible] def BIASOUT_CODE_CODE : Fld := ⟨0, 16⟩
@[reducible] def BIASOUT_STAT_STATE : Fld := ⟨30, 2⟩
@[reducible] def BIASOUT_STAT_MM : Fld := ⟨29, 1⟩
@[reducible] def BIASOUT_STAT_QFULL : Fld := ⟨28, 1⟩
@[reducible] def BIASOUT_STAT_LEVEL : Fld := ⟨16, 5⟩
@[reducible] def BIASOUT_STAT_PIN_CODE : Fld := ⟨0, 16⟩
@[reducible] def BIASOUT_SINE_INC_INC : Fld := ⟨0, 32⟩
@[reducible] def BIASOUT_SINE_AO_AMP : Fld := ⟨16, 16⟩
@[reducible] def BIASOUT_SINE_AO_OFFSET : Fld := ⟨0, 16⟩
@[reducible] def RFFE_CFG_GUARD : Fld := ⟨16, 16⟩
@[reducible] def RFFE_CFG_HALF_READ : Fld := ⟨8, 1⟩
@[reducible] def RFFE_CFG_DIV : Fld := ⟨0, 8⟩
@[reducible] def RFFE_CMD_OP : Fld := ⟨28, 4⟩
@[reducible] def RFFE_CMD_USID : Fld := ⟨24, 4⟩
@[reducible] def RFFE_CMD_ADDR : Fld := ⟨8, 16⟩
@[reducible] def RFFE_CMD_DATA : Fld := ⟨0, 8⟩
@[reducible] def RFFE_STAT_BUSY : Fld := ⟨31, 1⟩
@[reducible] def RFFE_STAT_RD_LEVEL : Fld := ⟨20, 4⟩
@[reducible] def RFFE_STAT_QLEVEL : Fld := ⟨8, 6⟩
@[reducible] def RFFE_STAT_QFULL : Fld := ⟨1, 1⟩
@[reducible] def RFFE_STAT_PARERR : Fld := ⟨0, 1⟩
@[reducible] def RFFE_RD_VALID : Fld := ⟨31, 1⟩
@[reducible] def RFFE_RD_PAR : Fld := ⟨30, 1⟩
@[reducible] def RFFE_RD_USID : Fld := ⟨24, 4⟩
@[reducible] def RFFE_RD_ADDR : Fld := ⟨8, 16⟩
@[reducible] def RFFE_RD_DATA : Fld := ⟨0, 8⟩
@[reducible] def LANEQ_QCFG_USE : Fld := ⟨30, 2⟩
@[reducible] def LANEQ_QCFG_RATE : Fld := ⟨28, 2⟩
@[reducible] def LANEQ_QSTAT_PLL_ON : Fld := ⟨31, 1⟩
@[reducible] def LANEQ_QSTAT_PLL_LOCK : Fld := ⟨30, 1⟩
@[reducible] def LANEQ_ADAPT_CFG_FOM_MIN : Fld := ⟨24, 8⟩
@[reducible] def LANEQ_ADAPT_CFG_FOM_CNT : Fld := ⟨20, 4⟩
@[reducible] def LANEQ_CNT_FLAGS_EYE_OVF : Fld := ⟨16, 1⟩
@[reducible] def LANEQ_CNT_FLAGS_PRBS_OVF : Fld := ⟨0, 16⟩
@[reducible] def LANEQ_EYE_CTRL_GO : Fld := ⟨31, 1⟩
@[reducible] def LANEQ_EYE_CTRL_LANE : Fld := ⟨26, 4⟩
@[reducible] def LANEQ_EYE_CTRL_EYE : Fld := ⟨24, 2⟩
@[reducible] def LANEQ_EYE_CTRL_DWELL_LOG2 : Fld := ⟨16, 6⟩
@[reducible] def LANEQ_EYE_CTRL_PHASE : Fld := ⟨8, 8⟩
@[reducible] def LANEQ_EYE_CTRL_OFFSET : Fld := ⟨0, 8⟩
@[reducible] def LANEQ_EYE_STAT_BUSY : Fld := ⟨31, 1⟩
@[reducible] def LANEQ_EYE_STAT_DONE : Fld := ⟨30, 1⟩
@[reducible] def LANEQ_EYE_STAT_RESULT : Fld := ⟨28, 2⟩
@[reducible] def LANEQ_EYE_ERR_COUNT : Fld := ⟨0, 32⟩
@[reducible] def LANEQ_LCTRL_REQ : Fld := ⟨30, 2⟩
@[reducible] def LANEQ_LCTRL_FULL_ADAPT : Fld := ⟨29, 1⟩
@[reducible] def LANEQ_LCTRL_NES_IDLE : Fld := ⟨28, 1⟩
@[reducible] def LANEQ_LCTRL_LOOP : Fld := ⟨26, 2⟩
@[reducible] def LANEQ_LCTRL_PAT_TX : Fld := ⟨24, 2⟩
@[reducible] def LANEQ_LCTRL_PAT_RX : Fld := ⟨22, 2⟩
@[reducible] def LANEQ_LCTRL_TX_INV : Fld := ⟨21, 1⟩
@[reducible] def LANEQ_LCTRL_RX_INV : Fld := ⟨20, 1⟩
@[reducible] def LANEQ_LSTAT_STATE : Fld := ⟨29, 3⟩
@[reducible] def LANEQ_LSTAT_ADAPTED : Fld := ⟨28, 1⟩
@[reducible] def LANEQ_LSTAT_FOM_STALE : Fld := ⟨27, 1⟩
@[reducible] def LANEQ_LSTAT_SIGNAL : Fld := ⟨26, 1⟩
@[reducible] def LANEQ_LSTAT_CDR_LOCK : Fld := ⟨25, 1⟩
@[reducible] def LANEQ_LSTAT_FOM_LOW : Fld := ⟨24, 1⟩
@[reducible] def LANEQ_LSTAT_FOM : Fld := ⟨0, 8⟩
@[reducible] def LANEQ_PRBS_ERR_COUNT : Fld := ⟨0, 32⟩
@[reducible] def LANEQ_TXEQ_PRE : Fld := ⟨16, 8⟩
@[reducible] def LANEQ_TXEQ_MAIN : Fld := ⟨8, 8⟩
@[reducible] def LANEQ_TXEQ_POST : Fld := ⟨0, 8⟩
@[reducible] def MAC_PCFG_EN : Fld := ⟨31, 1⟩
@[reducible] def MAC_PCFG_TYPE : Fld := ⟨28, 3⟩
@[reducible] def MAC_PCFG_LANE : Fld := ⟨24, 4⟩
@[reducible] def MAC_PCFG_TRAIN : Fld := ⟨23, 1⟩
@[reducible] def MAC_PCFG_MGMT_EN : Fld := ⟨22, 1⟩
@[reducible] def MAC_PCFG_MAX_FRAME : Fld := ⟨0, 14⟩
@[reducible] def MAC_PSTAT_LINK : Fld := ⟨31, 1⟩
@[reducible] def MAC_PSTAT_INVALID : Fld := ⟨30, 1⟩
@[reducible] def MAC_PSTAT_ALIGNED : Fld := ⟨29, 1⟩
@[reducible] def MAC_PSTAT_LOCAL_FAULT : Fld := ⟨28, 1⟩
@[reducible] def MAC_PSTAT_REMOTE_FAULT : Fld := ⟨27, 1⟩
@[reducible] def MAC_ADDR_LO_ADDR : Fld := ⟨0, 32⟩
@[reducible] def MAC_ADDR_HI_ADDR : Fld := ⟨0, 16⟩
@[reducible] def MAC_VLAN_FH_TAG : Fld := ⟨31, 1⟩
@[reducible] def MAC_VLAN_FH_VID : Fld := ⟨0, 12⟩
@[reducible] def MAC_PRIO_PCP_MGMT : Fld := ⟨12, 3⟩
@[reducible] def MAC_PRIO_PCP_PTP : Fld := ⟨9, 3⟩
@[reducible] def MAC_PRIO_PCP_DLY : Fld := ⟨6, 3⟩
@[reducible] def MAC_PRIO_PCP_RT : Fld := ⟨3, 3⟩
@[reducible] def MAC_PRIO_PCP_UL : Fld := ⟨0, 3⟩
@[reducible] def MAC_RX_FRAMES_COUNT : Fld := ⟨0, 32⟩
@[reducible] def MAC_TX_FRAMES_COUNT : Fld := ⟨0, 32⟩
@[reducible] def MAC_RX_FCS_ERR_COUNT : Fld := ⟨0, 32⟩
@[reducible] def MAC_RX_DISCARD_COUNT : Fld := ⟨0, 32⟩
@[reducible] def MAC_TX_DISCARD_COUNT : Fld := ⟨0, 32⟩
@[reducible] def MAC_FEC_UNCORR_COUNT : Fld := ⟨0, 32⟩
@[reducible] def MAC_FEC_CORR_COUNT : Fld := ⟨0, 32⟩
@[reducible] def MAC_CNT_FLAGS_OVF : Fld := ⟨0, 7⟩
@[reducible] def MAC_FH_CFG_DLST_EN : Fld := ⟨31, 1⟩
@[reducible] def MAC_FH_CFG_RU_TAG : Fld := ⟨24, 7⟩
@[reducible] def MAC_FH_WIN_DL_EARLY : Fld := ⟨16, 16⟩
@[reducible] def MAC_FH_WIN_CTRL_EARLY : Fld := ⟨0, 16⟩
@[reducible] def MAC_FH_JRN_CFG_EN : Fld := ⟨31, 1⟩
@[reducible] def MAC_FH_JRN_CFG_BASE : Fld := ⟨0, 15⟩
@[reducible] def MAC_FH_JRN_STAT_ACTIVE : Fld := ⟨31, 1⟩
@[reducible] def MAC_FH_JRN_STAT_CAUSE : Fld := ⟨28, 3⟩
@[reducible] def MAC_FH_JRN_NEXT_LO_NEXT : Fld := ⟨0, 32⟩
@[reducible] def MAC_FH_JRN_NEXT_HI_NEXT : Fld := ⟨0, 8⟩
@[reducible] def MAC_FH_DLY_COMP_COMP : Fld := ⟨0, 32⟩
@[reducible] def MAC_FH_CAR_CFG_PORT : Fld := ⟨0, 3⟩
@[reducible] def MAC_FH_PEER_LO_ADDR : Fld := ⟨0, 32⟩
@[reducible] def MAC_FH_PEER_HI_ADDR : Fld := ⟨0, 16⟩
@[reducible] def MAC_FH_MODE_DISCARD_COUNT : Fld := ⟨0, 32⟩
@[reducible] def MAC_FH_MALFORMED_COUNT : Fld := ⟨0, 32⟩
@[reducible] def MAC_FH_FLOW_UNKNOWN_COUNT : Fld := ⟨0, 32⟩
@[reducible] def MAC_FH_DUP_COUNT : Fld := ⟨0, 32⟩
@[reducible] def MAC_FH_LOST_COUNT : Fld := ⟨0, 32⟩
@[reducible] def MAC_FH_DL_EARLY_COUNT : Fld := ⟨0, 32⟩
@[reducible] def MAC_FH_DL_LATE_COUNT : Fld := ⟨0, 32⟩
@[reducible] def MAC_FH_STORE_FULL_COUNT : Fld := ⟨0, 32⟩
@[reducible] def MAC_FH_CMD_REJECT_COUNT : Fld := ⟨0, 32⟩
@[reducible] def MAC_FH_RESEND_FRAMES_COUNT : Fld := ⟨0, 32⟩
@[reducible] def MAC_FH_GONE_COUNT : Fld := ⟨0, 32⟩
@[reducible] def MAC_FH_JRN_DROP_COUNT : Fld := ⟨0, 32⟩
@[reducible] def MAC_FH_CNT_FLAGS_OVF : Fld := ⟨0, 12⟩
@[reducible] def BUROG_CFG_DN_FIRST : Fld := ⟨28, 4⟩
@[reducible] def BUROG_CFG_DN_NUM : Fld := ⟨25, 3⟩
@[reducible] def BUROG_CFG_UP_FIRST : Fld := ⟨20, 4⟩
@[reducible] def BUROG_CFG_UP_NUM : Fld := ⟨17, 3⟩
@[reducible] def BUROG_CMD_RETRAIN : Fld := ⟨31, 1⟩
@[reducible] def BUROG_CMD_CLEAR_IDS : Fld := ⟨30, 1⟩
@[reducible] def BUROG_STATUS_ID_VALID : Fld := ⟨31, 1⟩
@[reducible] def BUROG_STATUS_K_VALID : Fld := ⟨30, 1⟩
@[reducible] def BUROG_STATUS_CFG_INVALID : Fld := ⟨29, 1⟩
@[reducible] def BUROG_TMO_RETRY_MAX : Fld := ⟨24, 8⟩
@[reducible] def BUROG_TMO_RETRY_TMO : Fld := ⟨12, 12⟩
@[reducible] def BUROG_TMO_NAK_TMO : Fld := ⟨0, 12⟩
@[reducible] def BUROG_PSTAT_STATE : Fld := ⟨30, 2⟩
@[reducible] def BUROG_PSTAT_REASON : Fld := ⟨27, 3⟩
@[reducible] def BUROG_PSTAT_RECOVERY : Fld := ⟨26, 1⟩
@[reducible] def BUROG_LINK_DLY_DELAY : Fld := ⟨0, 16⟩
@[reducible] def BUROG_CRC_ERR_COUNT : Fld := ⟨0, 32⟩
@[reducible] def BUROG_RETRY_COUNT_COUNT : Fld := ⟨0, 32⟩
@[reducible] def BUROG_PSUM_DISCARD_COUNT : Fld := ⟨0, 32⟩
@[reducible] def BUROG_CNT_FLAGS_PSUM_OVF : Fld := ⟨4, 1⟩
@[reducible] def BUROG_CNT_FLAGS_RETRY_OVF_1 : Fld := ⟨3, 1⟩
@[reducible] def BUROG_CNT_FLAGS_CRC_OVF_1 : Fld := ⟨2, 1⟩
@[reducible] def BUROG_CNT_FLAGS_RETRY_OVF_0 : Fld := ⟨1, 1⟩
@[reducible] def BUROG_CNT_FLAGS_CRC_OVF_0 : Fld := ⟨0, 1⟩
@[reducible] def CU_CHK_MISMATCH_COUNT : Fld := ⟨0, 32⟩
@[reducible] def CU_CNT_FLAGS_CHK_OVF : Fld := ⟨16, 1⟩
@[reducible] def CU_CNT_FLAGS_MM_OVF : Fld := ⟨0, 16⟩
@[reducible] def CU_CFG_REFIN : Fld := ⟨31, 1⟩
@[reducible] def CU_CFG_REFOUT : Fld := ⟨30, 1⟩
@[reducible] def CU_CFG_INV : Fld := ⟨29, 1⟩
@[reducible] def CU_CFG_PREFIX_EN : Fld := ⟨28, 1⟩
@[reducible] def CU_CFG_SRC : Fld := ⟨27, 1⟩
@[reducible] def CU_CFG_CHAN : Fld := ⟨23, 4⟩
@[reducible] def CU_CFG_WIDTH : Fld := ⟨0, 7⟩
@[reducible] def CU_CMD_OP : Fld := ⟨28, 4⟩
@[reducible] def CU_POLY_LO_POLY : Fld := ⟨0, 32⟩
@[reducible] def CU_POLY_HI_POLY : Fld := ⟨0, 32⟩
@[reducible] def CU_INIT_LO_INIT : Fld := ⟨0, 32⟩
@[reducible] def CU_INIT_HI_INIT : Fld := ⟨0, 32⟩
@[reducible] def CU_PREFIX_PREFIX : Fld := ⟨0, 32⟩
@[reducible] def CU_DATA_W_DATA : Fld := ⟨0, 32⟩
@[reducible] def CU_DATA_B_DATA : Fld := ⟨0, 8⟩
@[reducible] def CU_RUN_LO_RUN : Fld := ⟨0, 32⟩
@[reducible] def CU_RUN_HI_RUN : Fld := ⟨0, 32⟩
@[reducible] def CU_RESULT_LO_RESULT : Fld := ⟨0, 32⟩
@[reducible] def CU_RESULT_HI_RESULT : Fld := ⟨0, 32⟩
@[reducible] def CU_STAT_BOUND : Fld := ⟨31, 1⟩
@[reducible] def CU_STAT_OWNER : Fld := ⟨28, 3⟩
@[reducible] def CU_STAT_FEED : Fld := ⟨27, 1⟩
@[reducible] def CU_STAT_MM : Fld := ⟨0, 1⟩
@[reducible] def CU_MM_CALC_CALC : Fld := ⟨0, 32⟩
@[reducible] def CU_MM_RCVD_RCVD : Fld := ⟨0, 32⟩
@[reducible] def CU_MM_PREFIX_PREFIX : Fld := ⟨0, 32⟩
@[reducible] def CU_MISMATCH_COUNT : Fld := ⟨0, 32⟩
@[reducible] def TIME_CTRL_SRC : Fld := ⟨30, 2⟩
@[reducible] def TIME_CTRL_COMPAT : Fld := ⟨29, 1⟩
@[reducible] def TIME_CTRL_ONE_STEP : Fld := ⟨16, 8⟩
@[reducible] def TIME_CTRL_JUMP_THRESH : Fld := ⟨0, 16⟩
@[reducible] def TIME_STATUS_QUAL : Fld := ⟨30, 2⟩
@[reducible] def TIME_STATUS_STATE : Fld := ⟨28, 2⟩
@[reducible] def TIME_STATUS_STEP_USED : Fld := ⟨27, 1⟩
@[reducible] def TIME_STATUS_REFUSING : Fld := ⟨26, 1⟩
@[reducible] def TIME_STATUS_SRC_LOST : Fld := ⟨25, 1⟩
@[reducible] def TIME_STATUS_MASTER_HELD : Fld := ⟨24, 1⟩
@[reducible] def TIME_CMD_NEW_EPOCH : Fld := ⟨31, 1⟩
@[reducible] def TIME_TB_LO_TB : Fld := ⟨0, 32⟩
@[reducible] def TIME_TB_HI_TB : Fld := ⟨0, 32⟩
@[reducible] def TIME_FREQ_FREQ : Fld := ⟨0, 32⟩
@[reducible] def TIME_UNC_UNC : Fld := ⟨0, 32⟩
@[reducible] def TIME_OFS_LAST_THETA : Fld := ⟨0, 32⟩
@[reducible] def TIME_SERVO_KP : Fld := ⟨28, 4⟩
@[reducible] def TIME_SERVO_KI : Fld := ⟨24, 4⟩
@[reducible] def TIME_SERVO_LOCK_THR : Fld := ⟨16, 8⟩
@[reducible] def TIME_SERVO_INT : Fld := ⟨12, 4⟩
@[reducible] def TIME_SFN_OFS_OFS : Fld := ⟨0, 10⟩
@[reducible] def TIME_KEEP_CFG_STBY : Fld := ⟨31, 1⟩
@[reducible] def TIME_KEEP_CFG_CLK : Fld := ⟨30, 1⟩
@[reducible] def TIME_KEEP_CFG_TOL : Fld := ⟨0, 16⟩
@[reducible] def TIME_PPS_CFG_GATE : Fld := ⟨31, 1⟩
@[reducible] def TIME_PPS_CFG_WIDTH : Fld := ⟨16, 15⟩
@[reducible] def TIME_PPS_CFG_OFS : Fld := ⟨0, 16⟩
@[reducible] def TIME_TSYNC_CFG_PER : Fld := ⟨22, 10⟩
@[reducible] def TIME_TSYNC_CFG_OFS : Fld := ⟨0, 16⟩
@[reducible] def TIME_PPS_IN_TS_LO_TS : Fld := ⟨0, 32⟩
@[reducible] def TIME_PPS_IN_TS_HI_TS : Fld := ⟨0, 32⟩
@[reducible] def TIME_TSYNC_IN_TS_LO_TS : Fld := ⟨0, 32⟩
@[reducible] def TIME_TSYNC_IN_TS_HI_TS : Fld := ⟨0, 32⟩
@[reducible] def TIME_OFS_IN_LO_THETA : Fld := ⟨0, 32⟩
@[reducible] def TIME_OFS_IN_HI_THETA : Fld := ⟨0, 32⟩
@[reducible] def TIME_REFUSED_COUNT_COUNT : Fld := ⟨0, 32⟩
@[reducible] def TIME_CNT_FLAGS_REFUSED_OVF : Fld := ⟨0, 1⟩
@[reducible] def TIME_CORR_ING_CORR : Fld := ⟨16, 16⟩
@[reducible] def TIME_CORR_EGR_CORR : Fld := ⟨0, 16⟩
@[reducible] def HPLL_CTRL_DCO : Fld := ⟨31, 1⟩
@[reducible] def HPLL_CTRL_BUILDOUT : Fld := ⟨30, 1⟩
@[reducible] def HPLL_CTRL_AUTO : Fld := ⟨29, 1⟩
@[reducible] def HPLL_CTRL_SEL : Fld := ⟨28, 1⟩
@[reducible] def HPLL_CTRL_BW : Fld := ⟨26, 2⟩
@[reducible] def HPLL_CTRL_BO_TOL : Fld := ⟨8, 8⟩
@[reducible] def HPLL_CTRL_REF_QUAL : Fld := ⟨0, 8⟩
@[reducible] def HPLL_STATUS_STATE : Fld := ⟨29, 3⟩
@[reducible] def HPLL_STATUS_ACTIVE_REF : Fld := ⟨28, 1⟩
@[reducible] def HPLL_STATUS_REFA_OK : Fld := ⟨27, 1⟩
@[reducible] def HPLL_STATUS_REFB_OK : Fld := ⟨26, 1⟩
@[reducible] def HPLL_STATUS_DET : Fld := ⟨25, 1⟩
@[reducible] def HPLL_STATUS_COAST_LIM : Fld := ⟨24, 1⟩
@[reducible] def HPLL_BO_OFS_OFS : Fld := ⟨0, 32⟩
@[reducible] def HPLL_COAST_CFG_LIMIT : Fld := ⟨16, 10⟩
@[reducible] def HPLL_REFA_DIV_R : Fld := ⟨16, 10⟩
@[reducible] def HPLL_REFA_DIV_N : Fld := ⟨0, 16⟩
@[reducible] def HPLL_REFB_DIV_R : Fld := ⟨16, 10⟩
@[reducible] def HPLL_REFB_DIV_N : Fld := ⟨0, 16⟩
@[reducible] def HPLL_ARM_GO : Fld := ⟨31, 1⟩
@[reducible] def HPLL_ARM_EVT : Fld := ⟨29, 2⟩
@[reducible] def HPLL_ARM_PENDING : Fld := ⟨28, 1⟩
@[reducible] def HPLL_LOCK_CFG_CNT : Fld := ⟨28, 4⟩
@[reducible] def HPLL_LOCK_CFG_TOL : Fld := ⟨16, 12⟩
@[reducible] def HPLL_LOCK_CFG_WIN : Fld := ⟨0, 16⟩
@[reducible] def SPLL_LOCK_CFG_CNT : Fld := ⟨28, 4⟩
@[reducible] def SPLL_LOCK_CFG_TOL : Fld := ⟨16, 12⟩
@[reducible] def SPLL_LOCK_CFG_WIN : Fld := ⟨0, 16⟩
@[reducible] def LPLL_LOCK_CFG_CNT : Fld := ⟨28, 4⟩
@[reducible] def LPLL_LOCK_CFG_TOL : Fld := ⟨16, 12⟩
@[reducible] def LPLL_LOCK_CFG_WIN : Fld := ⟨0, 16⟩
@[reducible] def SPLL_CFG_COAST_LIM : Fld := ⟨16, 10⟩
@[reducible] def SPLL_CFG_RECAL_TEMP : Fld := ⟨8, 8⟩
@[reducible] def SPLL_CMD_RECAL : Fld := ⟨31, 1⟩
@[reducible] def SPLL_STATUS_STATE : Fld := ⟨29, 3⟩
@[reducible] def SPLL_STATUS_DET : Fld := ⟨28, 1⟩
@[reducible] def SPLL_STATUS_COAST_LIM : Fld := ⟨27, 1⟩
@[reducible] def SPLL_STATUS_ALIGN_PEND : Fld := ⟨26, 1⟩
@[reducible] def SPLL_STATUS_RECAL_DUE : Fld := ⟨25, 1⟩
@[reducible] def SPLL_TA_LO_TA : Fld := ⟨0, 32⟩
@[reducible] def SPLL_TA_HI_TA : Fld := ⟨0, 32⟩
@[reducible] def LPLL_INT_INT : Fld := ⟨0, 8⟩
@[reducible] def LPLL_FRAC_FRAC : Fld := ⟨0, 24⟩
@[reducible] def LPLL_STATUS_STATE : Fld := ⟨29, 3⟩
@[reducible] def LPLL_ARM_GO : Fld := ⟨31, 1⟩
@[reducible] def LPLL_ARM_EVT : Fld := ⟨29, 2⟩
@[reducible] def LPLL_ARM_PENDING : Fld := ⟨28, 1⟩
@[reducible] def DRAMC_CFG_CH : Fld := ⟨30, 2⟩
@[reducible] def DRAMC_CFG_DENSITY : Fld := ⟨28, 2⟩
@[reducible] def DRAMC_CFG_RATE : Fld := ⟨24, 4⟩
@[reducible] def DRAMC_CFG_RETRAIN_TEMP : Fld := ⟨8, 8⟩
@[reducible] def DRAMC_STATUS_AVAIL : Fld := ⟨31, 1⟩
@[reducible] def DRAMC_STATUS_STATE_0 : Fld := ⟨28, 3⟩
@[reducible] def DRAMC_STATUS_STATE_1 : Fld := ⟨25, 3⟩
@[reducible] def DRAMC_STATUS_RETRAIN_DUE : Fld := ⟨24, 1⟩
@[reducible] def DRAMC_STATUS_DEBT_0 : Fld := ⟨20, 4⟩
@[reducible] def DRAMC_STATUS_DEBT_1 : Fld := ⟨16, 4⟩
@[reducible] def DRAMC_STATUS_VFAIL_1 : Fld := ⟨15, 1⟩
@[reducible] def DRAMC_STATUS_VFAIL_0 : Fld := ⟨14, 1⟩
@[reducible] def DRAMC_CMD_OP : Fld := ⟨28, 4⟩
@[reducible] def DRAMC_CMD_CHMASK : Fld := ⟨26, 2⟩
@[reducible] def DRAMC_PAGE_CFG_IDLE : Fld := ⟨0, 16⟩
@[reducible] def DRAMC_RH_CFG_EN : Fld := ⟨31, 1⟩
@[reducible] def DRAMC_RH_CFG_K : Fld := ⟨0, 5⟩
@[reducible] def DRAMC_PANIC_CFG_HI : Fld := ⟨24, 8⟩
@[reducible] def DRAMC_PANIC_CFG_LO : Fld := ⟨16, 8⟩
@[reducible] def DRAMC_ARB_CFG_W_RT0 : Fld := ⟨12, 4⟩
@[reducible] def DRAMC_ARB_CFG_W_RT1 : Fld := ⟨8, 4⟩
@[reducible] def DRAMC_ARB_CFG_W_BULK0 : Fld := ⟨4, 4⟩
@[reducible] def DRAMC_ARB_CFG_W_BULK1 : Fld := ⟨0, 4⟩
@[reducible] def DRAMC_PORT_STAT_PANIC_0 : Fld := ⟨31, 1⟩
@[reducible] def DRAMC_PORT_STAT_PANIC_1 : Fld := ⟨30, 1⟩
@[reducible] def DRAMC_PORT_STAT_LEVEL_0 : Fld := ⟨16, 11⟩
@[reducible] def DRAMC_PORT_STAT_LEVEL_1 : Fld := ⟨0, 11⟩
@[reducible] def DRAMC_WIN_CTRL_TGT : Fld := ⟨30, 2⟩
@[reducible] def DRAMC_WIN_ADDR_LO_ADDR : Fld := ⟨2, 30⟩
@[reducible] def DRAMC_WIN_ADDR_HI_ADDR : Fld := ⟨0, 4⟩
@[reducible] def DRAMC_WIN_DATA_DATA : Fld := ⟨0, 32⟩
@[reducible] def DRAMC_CAP_FB_BASE : Fld := ⟨16, 13⟩
@[reducible] def DRAMC_CAP_FB_SIZE : Fld := ⟨0, 13⟩
@[reducible] def DRAMC_ECC_STAT_STORE : Fld := ⟨30, 2⟩
@[reducible] def DRAMC_ECC_STAT_UNCORR : Fld := ⟨29, 1⟩
@[reducible] def DRAMC_ECC_STAT_WORD : Fld := ⟨0, 23⟩
@[reducible] def DRAMC_STORE_STAT_SYM_FREE : Fld := ⟨0, 20⟩
@[reducible] def DRAMC_NREF_COUNT_COUNT : Fld := ⟨0, 32⟩
@[reducible] def DRAMC_FORCED_REF_COUNT_COUNT : Fld := ⟨0, 32⟩
@[reducible] def DRAMC_PANIC_COUNT_COUNT : Fld := ⟨0, 32⟩
@[reducible] def DRAMC_STORE_CORR_COUNT : Fld := ⟨0, 32⟩
@[reducible] def DRAMC_STORE_UNCORR_COUNT : Fld := ⟨0, 32⟩
@[reducible] def DRAMC_CAP_REDIRECT_COUNT : Fld := ⟨0, 32⟩
@[reducible] def DRAMC_ACCESS_ERR_COUNT_COUNT : Fld := ⟨0, 32⟩
@[reducible] def DRAMC_CNT_FLAGS_OVF : Fld := ⟨0, 7⟩
@[reducible] def DRAMC_RDLY_LO_DLY : Fld := ⟨0, 32⟩
@[reducible] def DRAMC_RDLY_HI_DLY : Fld := ⟨0, 32⟩
@[reducible] def DRAMC_WDLY_LO_DLY : Fld := ⟨0, 32⟩
@[reducible] def DRAMC_WDLY_HI_DLY : Fld := ⟨0, 32⟩
@[reducible] def DRAMC_CADLY_CS : Fld := ⟨8, 8⟩
@[reducible] def DRAMC_CADLY_CA : Fld := ⟨0, 8⟩
@[reducible] def DRAMC_WINW_LO_WIDTH : Fld := ⟨0, 32⟩
@[reducible] def DRAMC_WINW_HI_WIDTH : Fld := ⟨0, 32⟩
@[reducible] def SCARAB_DOORBELL_CH : Fld := ⟨0, 16⟩
@[reducible] def SCARAB_PMEM_ADDR_ADDR : Fld := ⟨0, 13⟩
@[reducible] def SCARAB_PMEM_DATA_LO_DATA : Fld := ⟨0, 32⟩
@[reducible] def SCARAB_PMEM_DATA_HI_DATA : Fld := ⟨0, 32⟩
@[reducible] def SCARAB_PMEM_CORRECTED_COUNT : Fld := ⟨0, 32⟩
@[reducible] def SCARAB_WITHDRAWN_COUNT_COUNT : Fld := ⟨0, 32⟩
@[reducible] def SCARAB_ERROR_COUNT_COUNT : Fld := ⟨0, 32⟩
@[reducible] def SCARAB_RING_LOST_COUNT : Fld := ⟨0, 32⟩
@[reducible] def SCARAB_CNT_FLAGS_OVF : Fld := ⟨0, 4⟩
@[reducible] def SCARAB_CH_CTRL_EN : Fld := ⟨31, 1⟩
@[reducible] def SCARAB_CH_CTRL_PRI : Fld := ⟨30, 1⟩
@[reducible] def SCARAB_CH_CTRL_START_PC : Fld := ⟨0, 13⟩
@[reducible] def SCARAB_CH_STAT_STATE : Fld := ⟨29, 3⟩
@[reducible] def SCARAB_CH_STAT_PC : Fld := ⟨13, 13⟩
@[reducible] def SCARAB_RING_LO_ADDR : Fld := ⟨5, 27⟩
@[reducible] def SCARAB_RING_HI_SPACE : Fld := ⟨31, 1⟩
@[reducible] def SCARAB_RING_HI_RLOG : Fld := ⟨8, 4⟩
@[reducible] def SCARAB_RING_HI_ADDR : Fld := ⟨0, 4⟩
@[reducible] def SCARAB_PROD_IDX_IDX : Fld := ⟨0, 16⟩
@[reducible] def SCARAB_CONS_IDX_IDX : Fld := ⟨0, 16⟩
@[reducible] def PMU_STATUS_AON_BOR : Fld := ⟨31, 1⟩
@[reducible] def PMU_STATUS_REG_LP : Fld := ⟨30, 1⟩
@[reducible] def PMU_WARN_CFG_TX_MUTE_ON_WARN : Fld := ⟨31, 1⟩
@[reducible] def PMU_WARN_STAT_FROZEN : Fld := ⟨31, 1⟩
@[reducible] def PMU_WARN_STAT_RAIL : Fld := ⟨24, 7⟩
@[reducible] def PMU_WARN_STAT_BELOW_RESET : Fld := ⟨23, 1⟩
@[reducible] def PMU_WARN_STAT_DURATION : Fld := ⟨0, 16⟩
@[reducible] def PMU_WAKE_CFG_PULL_3 : Fld := ⟨26, 1⟩
@[reducible] def PMU_WAKE_CFG_PULL_2 : Fld := ⟨18, 1⟩
@[reducible] def PMU_WAKE_CFG_PULL_1 : Fld := ⟨10, 1⟩
@[reducible] def PMU_WAKE_CFG_PULL_0 : Fld := ⟨2, 1⟩
@[reducible] def PMU_WAKE_CFG_POL_3 : Fld := ⟨25, 1⟩
@[reducible] def PMU_WAKE_CFG_POL_2 : Fld := ⟨17, 1⟩
@[reducible] def PMU_WAKE_CFG_POL_1 : Fld := ⟨9, 1⟩
@[reducible] def PMU_WAKE_CFG_POL_0 : Fld := ⟨1, 1⟩
@[reducible] def PMU_WAKE_CFG_MODE_3 : Fld := ⟨24, 1⟩
@[reducible] def PMU_WAKE_CFG_MODE_2 : Fld := ⟨16, 1⟩
@[reducible] def PMU_WAKE_CFG_MODE_1 : Fld := ⟨8, 1⟩
@[reducible] def PMU_WAKE_CFG_MODE_0 : Fld := ⟨0, 1⟩
@[reducible] def PMU_WAKE_STAT_LOST : Fld := ⟨8, 5⟩
@[reducible] def PMU_WAKE_STAT_LAST : Fld := ⟨0, 3⟩
@[reducible] def PMU_TIMER_CFG_EN : Fld := ⟨31, 1⟩
@[reducible] def PMU_TIMER_CFG_MODE : Fld := ⟨30, 1⟩
@[reducible] def PMU_TIMER_LOAD_LOAD : Fld := ⟨0, 32⟩
@[reducible] def PMU_TIMER_STAT_FLAG : Fld := ⟨31, 1⟩
@[reducible] def PMU_WARN_COUNT_COUNT : Fld := ⟨0, 32⟩
@[reducible] def PMU_WAKE_LOST_COUNT_COUNT : Fld := ⟨0, 32⟩
@[reducible] def PMU_REFUSED_COUNT_COUNT : Fld := ⟨0, 32⟩
@[reducible] def PMU_CNT_FLAGS_OVF : Fld := ⟨0, 3⟩
@[reducible] def PMU_DOM_STATE : Fld := ⟨30, 2⟩
@[reducible] def PMU_DOM_REQ : Fld := ⟨28, 2⟩
@[reducible] def PMU_DOM_REFUSED : Fld := ⟨27, 1⟩
@[reducible] def PMU_DOM_WAKE_EN : Fld := ⟨20, 5⟩
@[reducible] def PMU_BOOT_STAT_KIND : Fld := ⟨30, 2⟩
@[reducible] def PMU_BOOT_STAT_WARM_FAILS : Fld := ⟨28, 2⟩
@[reducible] def PMU_BOOT_STAT_COLD_FAILS : Fld := ⟨26, 2⟩
@[reducible] def PMU_BOOT_STAT_IMAGE : Fld := ⟨25, 1⟩
@[reducible] def PMU_BOOT_STAT_RETAIN_OK : Fld := ⟨24, 1⟩
@[reducible] def PMU_BOOT_STAT_REC_BAD : Fld := ⟨23, 1⟩
@[reducible] def PMU_BOOT_STAT_FALLBACK : Fld := ⟨22, 1⟩
@[reducible] def PMU_BOOT_STAT_FAIL : Fld := ⟨19, 3⟩
@[reducible] def PMU_BOOT_STAT_STEP : Fld := ⟨15, 4⟩
@[reducible] def PMU_BOOT_CFG_AUTOCAL : Fld := ⟨31, 1⟩
@[reducible] def PMU_BOOT_CFG_TMO : Fld := ⟨0, 16⟩
@[reducible] def RILYN_IDENT_DEVICE : Fld := ⟨16, 16⟩
@[reducible] def RILYN_IDENT_STEPPING : Fld := ⟨8, 8⟩
@[reducible] def RILYN_SERIAL_LO_SERIAL : Fld := ⟨0, 32⟩
@[reducible] def RILYN_SERIAL_HI_SERIAL : Fld := ⟨0, 32⟩
@[reducible] def RILYN_MODE_MODE : Fld := ⟨0, 3⟩
@[reducible] def RILYN_STATUS_LOCKSTEP : Fld := ⟨31, 1⟩
@[reducible] def RILYN_STATUS_FIRMWARE : Fld := ⟨30, 1⟩
@[reducible] def RILYN_STATUS_UPDATE : Fld := ⟨29, 1⟩
@[reducible] def RILYN_MBX_CTRL_GO : Fld := ⟨31, 1⟩
@[reducible] def RILYN_MBX_STAT_BUSY : Fld := ⟨31, 1⟩
@[reducible] def RILYN_MBX_STAT_DONE : Fld := ⟨30, 1⟩
@[reducible] def RILYN_BUF_ADDR_ADDR : Fld := ⟨2, 14⟩
@[reducible] def RILYN_BUF_DATA_DATA : Fld := ⟨0, 32⟩
@[reducible] def RILYN_MBX_REQ_WORD : Fld := ⟨0, 32⟩
@[reducible] def RILYN_MBX_RSP_WORD : Fld := ⟨0, 32⟩
@[reducible] def RILYN_MPLANE_CFG_FULL : Fld := ⟨31, 1⟩
@[reducible] def RILYN_MPLANE_CFG_ETYPE : Fld := ⟨0, 16⟩
@[reducible] def RILYN_LOG_STAT_NEWEST : Fld := ⟨0, 32⟩
@[reducible] def RILYN_LOG_EN_EN : Fld := ⟨0, 32⟩
@[reducible] def RILYN_MPLANE_DISCARD_COUNT : Fld := ⟨0, 32⟩
@[reducible] def RILYN_MPLANE_DROP_COUNT : Fld := ⟨0, 32⟩
@[reducible] def RILYN_LOG_BAD_COUNT : Fld := ⟨0, 32⟩
@[reducible] def RILYN_LOG_DROP_COUNT : Fld := ⟨0, 32⟩
@[reducible] def RILYN_CNT_FLAGS_OVF : Fld := ⟨0, 4⟩
@[reducible] def HKADC_SCAN_EN_LO_EN : Fld := ⟨0, 32⟩
@[reducible] def HKADC_SCAN_EN_HI_EN : Fld := ⟨0, 32⟩
@[reducible] def HKADC_CHCFG_DIFF : Fld := ⟨4, 1⟩
@[reducible] def HKADC_CHCFG_AVG_LOG2 : Fld := ⟨0, 4⟩
@[reducible] def HKADC_RES_VALID : Fld := ⟨31, 1⟩
@[reducible] def HKADC_RES_FRESH : Fld := ⟨30, 1⟩
@[reducible] def HKADC_RES_VALUE : Fld := ⟨0, 16⟩
@[reducible] def THERM_READING_VALID : Fld := ⟨31, 1⟩
@[reducible] def THERM_READING_SUSPECT : Fld := ⟨30, 1⟩
@[reducible] def THERM_READING_TEMP : Fld := ⟨0, 16⟩
@[reducible] def THERM_RAW_RAW : Fld := ⟨0, 16⟩
@[reducible] def THERM_RATE_CFG_EN : Fld := ⟨31, 1⟩
@[reducible] def THERM_RATE_CFG_WIN : Fld := ⟨16, 8⟩
@[reducible] def THERM_RATE_CFG_LIMIT : Fld := ⟨0, 16⟩
@[reducible] def THERM_RATE_STAT_ABOVE : Fld := ⟨31, 1⟩
@[reducible] def THERM_RATE_STAT_RATE : Fld := ⟨0, 16⟩
@[reducible] def THERM_THR_EN : Fld := ⟨31, 1⟩
@[reducible] def THERM_THR_STATE : Fld := ⟨30, 1⟩
@[reducible] def THERM_THR_PERSIST : Fld := ⟨20, 8⟩
@[reducible] def THERM_THR_HYST : Fld := ⟨16, 4⟩
@[reducible] def THERM_THR_LEVEL : Fld := ⟨0, 9⟩
@[reducible] def THERM_XCHK_CFG_EN : Fld := ⟨31, 1⟩
@[reducible] def THERM_XCHK_CFG_TOL : Fld := ⟨16, 8⟩
@[reducible] def THERM_XCHK_CFG_TIME : Fld := ⟨8, 8⟩
@[reducible] def THERM_XCHK_CFG_MARGIN : Fld := ⟨0, 8⟩
@[reducible] def THERM_XCHK_STAT_DISAGREE : Fld := ⟨8, 5⟩
@[reducible] def THERM_XCHK_STAT_SUSPECT : Fld := ⟨0, 5⟩
@[reducible] def THERM_SHUT_CFG_LEVEL : Fld := ⟨0, 8⟩
@[reducible] def THERM_EVT_SRC_DIE : Fld := ⟨8, 3⟩
@[reducible] def THERM_EVT_SRC_THR : Fld := ⟨0, 2⟩
@[reducible] def THERM_SHUT_REC_VALID : Fld := ⟨31, 1⟩
@[reducible] def THERM_SHUT_REC_CRIT : Fld := ⟨30, 1⟩
@[reducible] def THERM_SHUT_REC_DIE : Fld := ⟨27, 3⟩
@[reducible] def THERM_SHUT_REC_TEMP : Fld := ⟨0, 16⟩
@[reducible] def THERM_PWR_PWR : Fld := ⟨0, 16⟩
@[reducible] def THERM_THETA_THETA : Fld := ⟨0, 16⟩
@[reducible] def CICADA_MON_SEL_INDEX : Fld := ⟨0, 5⟩
@[reducible] def CICADA_MON_DATA_DATA : Fld := ⟨0, 32⟩
@[reducible] def CICADA_MON_REF_REF : Fld := ⟨0, 32⟩
@[reducible] def CICADA_LIFE_VALID : Fld := ⟨31, 1⟩
@[reducible] def CICADA_LIFE_PROVISIONAL : Fld := ⟨30, 1⟩
@[reducible] def CICADA_LIFE_HIGH : Fld := ⟨20, 10⟩
@[reducible] def CICADA_LIFE_EST : Fld := ⟨10, 10⟩
@[reducible] def CICADA_LIFE_LOW : Fld := ⟨0, 10⟩
@[reducible] def CICADA_PART_LIFE_VALID : Fld := ⟨31, 1⟩
@[reducible] def CICADA_PART_LIFE_PROVISIONAL : Fld := ⟨30, 1⟩
@[reducible] def CICADA_PART_LIFE_HIGH : Fld := ⟨20, 10⟩
@[reducible] def CICADA_PART_LIFE_EST : Fld := ⟨10, 10⟩
@[reducible] def CICADA_PART_LIFE_LOW : Fld := ⟨0, 10⟩
@[reducible] def CICADA_LIFE_THR_EN_1 : Fld := ⟨31, 1⟩
@[reducible] def CICADA_LIFE_THR_THR_1 : Fld := ⟨16, 10⟩
@[reducible] def CICADA_LIFE_THR_EN_0 : Fld := ⟨15, 1⟩
@[reducible] def CICADA_LIFE_THR_THR_0 : Fld := ⟨0, 10⟩
@[reducible] def CICADA_LIFE_STAT_DIE : Fld := ⟨4, 3⟩
@[reducible] def CICADA_LIFE_STAT_CROSSED : Fld := ⟨0, 2⟩
@[reducible] def HIVE_STATUS_STATUS : Fld := ⟨0, 32⟩
@[reducible] def HIVE_RAW_RAW : Fld := ⟨0, 32⟩
@[reducible] def HIVE_INT_STAT_PIN : Fld := ⟨0, 4⟩
@[reducible] def HIVE_MSI_PEND_PEND : Fld := ⟨0, 32⟩
@[reducible] def HIVE_SRC_CFG_EN : Fld := ⟨31, 1⟩
@[reducible] def HIVE_SRC_CFG_MODE : Fld := ⟨30, 1⟩
@[reducible] def HIVE_SRC_CFG_GLIDE : Fld := ⟨25, 5⟩
@[reducible] def HIVE_SRC_CFG_RILYN : Fld := ⟨24, 1⟩
@[reducible] def HIVE_SRC_CFG_MSI_EN : Fld := ⟨23, 1⟩
@[reducible] def HIVE_SRC_CFG_MSI_VEC : Fld := ⟨16, 5⟩
@[reducible] def HIVE_SRC_CFG_INT : Fld := ⟨0, 4⟩
@[reducible] def HIVE_D2D_CORRECTED_COUNT : Fld := ⟨0, 32⟩
@[reducible] def HIVE_CNT_FLAGS_OVF : Fld := ⟨0, 4⟩
end F

/-- One row of a block's register table: byte offset of instance 0, distance and number of the instances, the bits a
write sets (RW), the bits a written 1 clears (RW1C) and the reset value of an instance. -/
structure RegDef where
  off : Nat
  stride : Nat
  count : Nat
  rw : Nat
  w1c : Nat
  reset : Nat
  deriving DecidableEq, Repr

def hubBlock01 : List RegDef :=
  [⟨0x0, 4, 1, 0x11FFF, 0x0, 0x0⟩,
   ⟨0x4, 4, 1, 0x0, 0x0, 0x0⟩,
   ⟨0x8, 4, 1, 0x0, 0x0, 0x0⟩,
   ⟨0x2C, 4, 1, 0x0, 0x0, 0x0⟩,
   ⟨0xC, 4, 1, 0x0, 0x0, 0x0⟩,
   ⟨0x10, 4, 1, 0x0, 0x0, 0x0⟩,
   ⟨0x14, 4, 1, 0x0, 0x0, 0x0⟩,
   ⟨0x18, 4, 1, 0x0, 0x3, 0x0⟩,
   ⟨0x1C, 4, 1, 0x0, 0x0, 0x0⟩,
   ⟨0x20, 4, 1, 0x1FFF, 0x0, 0x0⟩,
   ⟨0x24, 4, 1, 0xFFFFFFFF, 0x0, 0x0⟩,
   ⟨0x28, 4, 1, 0xFFFFFFFF, 0x0, 0x0⟩,
   ⟨0x30, 4, 1, 0xF, 0x0, 0x0⟩,
   ⟨0x34, 4, 1, 0x0, 0x0, 0x0⟩,
   ⟨0x38, 4, 1, 0x0, 0x0, 0x0⟩,
   ⟨0x40, 4, 1, 0x0, 0x0, 0x0⟩,
   ⟨0x44, 4, 1, 0x0, 0x0, 0x0⟩,
   ⟨0x80, 4, 1, 0xF, 0x0, 0xF⟩,
   ⟨0x90, 4, 4, 0x0, 0x0, 0x0⟩,
   ⟨0x100, 4, 8, 0xFFFFFFFF, 0x0, 0x0⟩]
def hubBlock02 : List RegDef :=
  [⟨0x0, 4, 1, 0xFF1, 0x0, 0x600⟩,
   ⟨0x4, 4, 1, 0x0, 0x0, 0xE000000⟩,
   ⟨0x8, 4, 1, 0x17FFF, 0x0, 0x0⟩,
   ⟨0xC, 4, 1, 0xFFFF, 0x0, 0x1000⟩,
   ⟨0x10, 4, 1, 0x0, 0x0, 0x0⟩,
   ⟨0x14, 4, 1, 0x0, 0x0, 0x0⟩,
   ⟨0x18, 4, 1, 0x3F, 0x0, 0x0⟩,
   ⟨0x1C, 4, 1, 0x0, 0x0, 0x0⟩,
   ⟨0x40, 4, 1, 0x0, 0x0, 0x0⟩,
   ⟨0x44, 4, 1, 0x0, 0x0, 0x0⟩,
   ⟨0x48, 4, 1, 0x0, 0x0, 0x0⟩,
   ⟨0x4C, 4, 1, 0x0, 0x0, 0x0⟩,
   ⟨0x50, 4, 1, 0x0, 0x0, 0x0⟩,
   ⟨0x54, 4, 1, 0x0, 0x0, 0x0⟩,
   ⟨0x58, 4, 1, 0x0, 0x0, 0x0⟩,
   ⟨0x5C, 4, 1, 0x0, 0x0, 0x0⟩,
   ⟨0x60, 4, 1, 0x0, 0x0, 0x0⟩,
   ⟨0x64, 4, 1, 0x0, 0x0, 0x0⟩,
   ⟨0x68, 4, 1, 0x0, 0x0, 0x0⟩,
   ⟨0x6C, 4, 1, 0x0, 0x0, 0x0⟩,
   ⟨0x70, 4, 1, 0x0, 0x0, 0x0⟩,
   ⟨0x74, 4, 1, 0x0, 0x1FFF, 0x0⟩,
   ⟨0x400, 4, 64, 0xFFFFFFFF, 0x0, 0x0⟩]
def hubBlock03 : List RegDef :=
  [⟨0x100, 64, 8, 0xFFC03FFF, 0x0, 0x802400⟩,
   ⟨0x104, 64, 8, 0x0, 0x0, 0x0⟩,
   ⟨0x108, 64, 8, 0xFFFFFFFF, 0x0, 0x0⟩,
   ⟨0x10C, 64, 8, 0xFFFF, 0x0, 0x0⟩,
   ⟨0x110, 64, 8, 0x80000FFF, 0x0, 0x80000001⟩,
   ⟨0x114, 64, 8, 0x7FFF, 0x0, 0x2FF6⟩,
   ⟨0x120, 64, 8, 0x0, 0x0, 0x0⟩,
   ⟨0x124, 64, 8, 0x0, 0x0, 0x0⟩,
   ⟨0x128, 64, 8, 0x0, 0x0, 0x0⟩,
   ⟨0x12C, 64, 8, 0x0, 0x0, 0x0⟩,
   ⟨0x130, 64, 8, 0x0, 0x0, 0x0⟩,
   ⟨0x134, 64, 8, 0x0, 0x0, 0x0⟩,
   ⟨0x138, 64, 8, 0x0, 0x0, 0x0⟩,
   ⟨0x13C, 64, 8, 0x0, 0x7F, 0x0⟩,
   ⟨0x1000, 4, 1, 0xFF000000, 0x0, 0x80000000⟩,
   ⟨0x1004, 4, 1, 0xFFFFFFFF, 0x0, 0xFA07D0⟩,
   ⟨0x1008, 4, 1, 0x80007FFF, 0x0, 0x0⟩,
   ⟨0x100C, 4, 1, 0x0, 0x0, 0x10000000⟩,
   ⟨0x1010, 4, 1, 0x0, 0x0, 0x0⟩,
   ⟨0x1014, 4, 1, 0x0, 0x0, 0x0⟩,
   ⟨0x1018, 4, 1, 0xFFFFFFFF, 0x0, 0x0⟩,
   ⟨0x1020, 4, 4, 0x7, 0x0, 0x0⟩,
   ⟨0x1040, 8, 8, 0xFFFFFFFF, 0x0, 0x0⟩,
   ⟨0x1044, 8, 8, 0xFFFF, 0x0, 0x0⟩,
   ⟨0x1100, 4, 1, 0x0, 0x0, 0x0⟩,
   ⟨0x1104, 4, 1, 0x0, 0x0, 0x0⟩,
   ⟨0x1108, 4, 1, 0x0, 0x0, 0x0⟩,
   ⟨0x110C, 4, 1, 0x0, 0x0, 0x0⟩,
   ⟨0x1110, 4, 1, 0x0, 0x0, 0x0⟩,
   ⟨0x1114, 4, 1, 0x0, 0x0, 0x0⟩,
   ⟨0x1118, 4, 1, 0x0, 0x0, 0x0⟩,
   ⟨0x111C, 4, 1, 0x0, 0x0, 0x0⟩,
   ⟨0x1120, 4, 1, 0x0, 0x0, 0x0⟩,
   ⟨0x1124, 4, 1, 0x0, 0x0, 0x0⟩,
   ⟨0x1128, 4, 1, 0x0, 0x0, 0x0⟩,
   ⟨0x112C, 4, 1, 0x0, 0x0, 0x0⟩,
   ⟨0x1130, 4, 1, 0x0, 0xFFF, 0x0⟩]
def hubBlock04 : List RegDef :=
  [⟨0x0, 4, 4, 0xF0000000, 0x0, 0x0⟩,
   ⟨0x10, 4, 4, 0x0, 0x0, 0x0⟩,
   ⟨0x80, 4, 1, 0xFFF00000, 0x0, 0x20400000⟩,
   ⟨0x90, 4, 1, 0x0, 0x1FFFF, 0x0⟩,
   ⟨0x84, 4, 1, 0x3F3FFFFF, 0x0, 0x140000⟩,
   ⟨0x88, 4, 1, 0x0, 0x40000000, 0x0⟩,
   ⟨0x8C, 4, 1, 0x0, 0x0, 0x0⟩,
   ⟨0x100, 16, 16, 0xDFF00000, 0x0, 0x0⟩,
   ⟨0x104, 16, 16, 0x0, 0x0, 0x60000000⟩,
   ⟨0x108, 16, 16, 0x0, 0x0, 0x0⟩,
   ⟨0x10C, 16, 16, 0xFFFFFF, 0x0, 0x4000⟩]
def hubBlock05 : List RegDef :=
  [⟨0x0, 4, 1, 0xFEFE0000, 0x0, 0x0⟩,
   ⟨0x4, 4, 1, 0x0, 0x0, 0x0⟩,
   ⟨0x8, 4, 1, 0x0, 0x0, 0x0⟩,
   ⟨0xC, 4, 1, 0xFFFFFFFF, 0x0, 0x8040020⟩,
   ⟨0x10, 32, 2, 0x0, 0x0, 0x0⟩,
   ⟨0x14, 32, 2, 0x0, 0x0, 0x0⟩,
   ⟨0x18, 32, 2, 0x0, 0x0, 0x0⟩,
   ⟨0x1C, 32, 2, 0x0, 0x0, 0x0⟩,
   ⟨0x50, 4, 1, 0x0, 0x0, 0x0⟩,
   ⟨0x54, 4, 1, 0x0, 0x1F, 0x0⟩]
def hubBlock06 : List RegDef :=
  [⟨0x0, 4, 1, 0x0, 0x0, 0x0⟩,
   ⟨0x4, 4, 1, 0x0, 0x1FFFF, 0x0⟩,
   ⟨0x100, 128, 16, 0xFF80007F, 0x0, 0xE0000020⟩,
   ⟨0x104, 128, 16, 0x0, 0x0, 0x0⟩,
   ⟨0x108, 128, 16, 0xFFFFFFFF, 0x0, 0x1EDC6F41⟩,
   ⟨0x10C, 128, 16, 0xFFFFFFFF, 0x0, 0x0⟩,
   ⟨0x110, 128, 16, 0xFFFFFFFF, 0x0, 0xFFFFFFFF⟩,
   ⟨0x114, 128, 16, 0xFFFFFFFF, 0x0, 0x0⟩,
   ⟨0x118, 128, 16, 0xFFFFFFFF, 0x0, 0x0⟩,
   ⟨0x11C, 128, 16, 0x0, 0x0, 0x0⟩,
   ⟨0x120, 128, 16, 0x0, 0x0, 0x0⟩,
   ⟨0x124, 128, 16, 0xFFFFFFFF, 0x0, 0xFFFFFFFF⟩,
   ⟨0x128, 128, 16, 0xFFFFFFFF, 0x0, 0x0⟩,
   ⟨0x12C, 128, 16, 0x0, 0x0, 0x0⟩,
   ⟨0x130, 128, 16, 0x0, 0x0, 0x0⟩,
   ⟨0x134, 128, 9, 0x0, 0x1, 0x0⟩,
   ⟨0x5B4, 128, 1, 0x0, 0x1, 0xB0000000⟩,
   ⟨0x634, 128, 6, 0x0, 0x1, 0x0⟩,
   ⟨0x138, 128, 16, 0x0, 0x0, 0x0⟩,
   ⟨0x13C, 128, 16, 0x0, 0x0, 0x0⟩,
   ⟨0x140, 128, 16, 0x0, 0x0, 0x0⟩,
   ⟨0x144, 128, 16, 0x0, 0x0, 0x0⟩]
def hubBlock07 : List RegDef :=
  [⟨0x0, 4, 1, 0xE0FFFFFF, 0x0, 0x64⟩,
   ⟨0x4, 4, 1, 0x0, 0x0, 0x0⟩,
   ⟨0x8, 4, 1, 0x0, 0x0, 0x0⟩,
   ⟨0xC, 4, 1, 0x0, 0x0, 0x0⟩,
   ⟨0x10, 4, 1, 0x0, 0x0, 0x0⟩,
   ⟨0x14, 4, 1, 0x0, 0x0, 0x0⟩,
   ⟨0x24, 4, 1, 0x0, 0x0, 0x0⟩,
   ⟨0x40, 4, 1, 0x0, 0x0, 0x0⟩,
   ⟨0x18, 4, 1, 0xFFFFF000, 0x0, 0x26324000⟩,
   ⟨0x1C, 4, 1, 0x3FF, 0x0, 0x294⟩,
   ⟨0x20, 4, 1, 0xC000FFFF, 0x0, 0x64⟩,
   ⟨0x28, 4, 1, 0xFFFFFFFF, 0x0, 0x80640000⟩,
   ⟨0x2C, 4, 1, 0xFFC0FFFF, 0x0, 0x400000⟩,
   ⟨0x30, 4, 1, 0x0, 0x0, 0x0⟩,
   ⟨0x34, 4, 1, 0x0, 0x0, 0x0⟩,
   ⟨0x38, 4, 1, 0x0, 0x0, 0x0⟩,
   ⟨0x3C, 4, 1, 0x0, 0x0, 0x0⟩,
   ⟨0x44, 4, 1, 0x0, 0x0, 0x0⟩,
   ⟨0x48, 4, 1, 0x0, 0x0, 0x0⟩,
   ⟨0x4C, 4, 1, 0x0, 0x0, 0x0⟩,
   ⟨0x50, 4, 1, 0x0, 0x1, 0x0⟩,
   ⟨0x100, 4, 8, 0xFFFFFFFF, 0x0, 0x0⟩]
def hubBlock08 : List RegDef :=
  [⟨0x0, 4, 1, 0xFC00FFFF, 0x0, 0xC4001401⟩,
   ⟨0x4, 4, 1, 0x0, 0x0, 0x0⟩,
   ⟨0x1C, 4, 1, 0x0, 0x0, 0x0⟩,
   ⟨0x18, 4, 1, 0x3FF0000, 0x0, 0xA0000⟩,
   ⟨0x8, 4, 1, 0x3FFFFFF, 0x0, 0x10020⟩,
   ⟨0xC, 4, 1, 0x3FFFFFF, 0x0, 0x10020⟩,
   ⟨0x10, 4, 1, 0x0, 0x0, 0x0⟩,
   ⟨0x14, 4, 1, 0xFFFFFFFF, 0x0, 0x401003E8⟩]
def hubBlock09 : List RegDef :=
  [⟨0x0, 4, 1, 0xFF00FF00, 0x0, 0xC6001400⟩,
   ⟨0x4, 4, 1, 0x0, 0xC000, 0x0⟩,
   ⟨0x8, 4, 1, 0x0, 0x0, 0x0⟩,
   ⟨0xC, 4, 1, 0xFFFF, 0x0, 0xC8⟩,
   ⟨0x10, 4, 1, 0x8000001F, 0x0, 0x8000000A⟩,
   ⟨0x14, 4, 1, 0xFFFF0000, 0x0, 0x10040000⟩,
   ⟨0x18, 4, 1, 0xFFFF, 0x0, 0x8421⟩,
   ⟨0x1C, 4, 1, 0x0, 0x0, 0x0⟩,
   ⟨0x20, 4, 1, 0xC0000000, 0x0, 0x0⟩,
   ⟨0x24, 4, 1, 0xFFFFFFFC, 0x0, 0x0⟩,
   ⟨0x28, 4, 1, 0xF, 0x0, 0x0⟩,
   ⟨0x2C, 4, 1, 0xFFFFFFFF, 0x0, 0x0⟩,
   ⟨0x30, 4, 1, 0x1FFF1FFF, 0x0, 0x0⟩,
   ⟨0x34, 4, 1, 0x0, 0x20000000, 0x0⟩,
   ⟨0x38, 4, 1, 0x0, 0x0, 0xC0000⟩,
   ⟨0x40, 4, 1, 0x0, 0x0, 0x0⟩,
   ⟨0x44, 4, 1, 0x0, 0x0, 0x0⟩,
   ⟨0x48, 4, 1, 0x0, 0x0, 0x0⟩,
   ⟨0x4C, 4, 1, 0x0, 0x0, 0x0⟩,
   ⟨0x50, 4, 1, 0x0, 0x0, 0x0⟩,
   ⟨0x54, 4, 1, 0x0, 0x0, 0x0⟩,
   ⟨0x58, 4, 1, 0x0, 0x0, 0x0⟩,
   ⟨0x5C, 4, 1, 0x0, 0x7F, 0x0⟩,
   ⟨0x100, 64, 2, 0xFFFFFFFF, 0x0, 0x80808080⟩,
   ⟨0x104, 64, 2, 0xFFFFFFFF, 0x0, 0x80808080⟩,
   ⟨0x108, 64, 2, 0xFFFFFFFF, 0x0, 0x80808080⟩,
   ⟨0x10C, 64, 2, 0xFFFFFFFF, 0x0, 0x80808080⟩,
   ⟨0x110, 64, 2, 0xFFFF, 0x0, 0x4040⟩,
   ⟨0x114, 64, 2, 0x0, 0x0, 0x0⟩,
   ⟨0x118, 64, 2, 0x0, 0x0, 0x0⟩]
def hubBlock0A : List RegDef :=
  [⟨0x0, 4, 1, 0x0, 0x0, 0x0⟩,
   ⟨0x4, 4, 1, 0x1FFF, 0x0, 0x0⟩,
   ⟨0x8, 4, 1, 0xFFFFFFFF, 0x0, 0x0⟩,
   ⟨0xC, 4, 1, 0xFFFFFFFF, 0x0, 0x0⟩,
   ⟨0x10, 4, 1, 0x0, 0x0, 0x0⟩,
   ⟨0x14, 4, 1, 0x0, 0x0, 0x0⟩,
   ⟨0x18, 4, 1, 0x0, 0x0, 0x0⟩,
   ⟨0x1C, 4, 1, 0x0, 0x0, 0x0⟩,
   ⟨0x20, 4, 1, 0x0, 0xF, 0x0⟩,
   ⟨0x100, 32, 16, 0xC0001FFF, 0x0, 0x0⟩,
   ⟨0x104, 32, 16, 0x0, 0x0, 0x0⟩,
   ⟨0x108, 32, 16, 0xFFFFFFE0, 0x0, 0x0⟩,
   ⟨0x10C, 32, 16, 0x80000F0F, 0x0, 0x400⟩,
   ⟨0x110, 32, 16, 0x0, 0x0, 0x0⟩,
   ⟨0x114, 32, 16, 0xFFFF, 0x0, 0x0⟩]
def hubBlock0B : List RegDef :=
  [⟨0x0, 4, 8, 0x0, 0xFFFFFFFF, 0x0⟩,
   ⟨0x20, 4, 8, 0x0, 0x0, 0x0⟩,
   ⟨0x40, 4, 1, 0x0, 0x0, 0x0⟩,
   ⟨0x44, 4, 1, 0x0, 0x0, 0x0⟩,
   ⟨0x400, 4, 256, 0xFF9F000F, 0x0, 0x1000000⟩,
   ⟨0x50, 4, 4, 0x0, 0x0, 0x0⟩,
   ⟨0x60, 4, 1, 0x0, 0xF, 0x0⟩]
def hubBlock0C : List RegDef :=
  [⟨0x0, 4, 1, 0x0, 0x80000000, 0x0⟩,
   ⟨0x4, 4, 1, 0x80000000, 0x0, 0x0⟩,
   ⟨0x8, 4, 1, 0x0, 0x0, 0x0⟩,
   ⟨0xC, 4, 1, 0x7070707, 0x0, 0x0⟩,
   ⟨0x10, 4, 1, 0x0, 0x1F00, 0x7⟩,
   ⟨0x14, 4, 1, 0xC0000000, 0x0, 0x40000000⟩,
   ⟨0x18, 4, 1, 0xFFFFFFFF, 0x0, 0x3E8⟩,
   ⟨0x1C, 4, 1, 0x0, 0x80000000, 0x0⟩,
   ⟨0x20, 4, 1, 0x0, 0x0, 0x0⟩,
   ⟨0x24, 4, 1, 0x0, 0x0, 0x0⟩,
   ⟨0x28, 4, 1, 0x0, 0x0, 0x0⟩,
   ⟨0x2C, 4, 1, 0x0, 0x7, 0x0⟩,
   ⟨0x100, 4, 54, 0x31F00000, 0x8000000, 0xA0000000⟩,
   ⟨0x200, 4, 1, 0x0, 0x400000, 0x0⟩,
   ⟨0x204, 4, 1, 0x8000FFFF, 0x0, 0x800003E8⟩]
def hubBlock0D : List RegDef :=
  [⟨0x0, 4, 1, 0x0, 0x0, 0x0⟩,
   ⟨0x4, 4, 1, 0x0, 0x0, 0x0⟩,
   ⟨0x8, 4, 1, 0x0, 0x0, 0x0⟩,
   ⟨0xC, 4, 1, 0x0, 0x0, 0x1⟩,
   ⟨0x10, 4, 1, 0x0, 0x80000000, 0x0⟩,
   ⟨0x14, 4, 1, 0x0, 0x0, 0x0⟩,
   ⟨0x18, 4, 1, 0x0, 0x40000000, 0x0⟩,
   ⟨0x1C, 4, 1, 0xFFFC, 0x0, 0x0⟩,
   ⟨0x20, 4, 1, 0xFFFFFFFF, 0x0, 0x0⟩,
   ⟨0x100, 4, 64, 0xFFFFFFFF, 0x0, 0x0⟩,
   ⟨0x200, 4, 64, 0x0, 0x0, 0x0⟩,
   ⟨0x24, 4, 1, 0x8000FFFF, 0x0, 0x88B5⟩,
   ⟨0x28, 4, 1, 0x0, 0x0, 0x0⟩,
   ⟨0x80, 4, 8, 0xFFFFFFFF, 0x0, 0x0⟩,
   ⟨0x30, 4, 1, 0x0, 0x0, 0x0⟩,
   ⟨0x34, 4, 1, 0x0, 0x0, 0x0⟩,
   ⟨0x38, 4, 1, 0x0, 0x0, 0x0⟩,
   ⟨0x3C, 4, 1, 0x0, 0x0, 0x0⟩,
   ⟨0x40, 4, 1, 0x0, 0xF, 0x0⟩]
def hubBlock0E : List RegDef :=
  [⟨0x0, 4, 1, 0x0, 0x0, 0x0⟩,
   ⟨0x4, 4, 1, 0x0, 0x0, 0x0⟩,
   ⟨0x8, 4, 1, 0x80FFFFFF, 0x0, 0x80320020⟩,
   ⟨0xC, 4, 1, 0x0, 0x0, 0x0⟩,
   ⟨0x10, 4, 4, 0x8FFF01FF, 0x0, 0x10300B4⟩,
   ⟨0x40, 4, 1, 0x80FFFFFF, 0x0, 0x80100A0A⟩,
   ⟨0x44, 4, 1, 0x0, 0x0, 0x0⟩,
   ⟨0x48, 4, 1, 0xFF, 0x0, 0xF0⟩,
   ⟨0x50, 4, 1, 0x0, 0x0, 0x0⟩,
   ⟨0x4C, 4, 1, 0x0, 0x80000000, 0x0⟩,
   ⟨0x60, 4, 5, 0x0, 0x0, 0x0⟩,
   ⟨0x80, 4, 5, 0xFFFF, 0x0, 0x0⟩]
def hubBlock0F : List RegDef :=
  [⟨0x0, 4, 1, 0x1F, 0x0, 0x0⟩,
   ⟨0x4, 4, 1, 0x0, 0x0, 0x0⟩,
   ⟨0x8, 4, 1, 0x0, 0x0, 0x0⟩,
   ⟨0xC, 4, 1, 0x0, 0x0, 0x0⟩,
   ⟨0x10, 4, 1, 0x0, 0x0, 0x0⟩,
   ⟨0x14, 4, 1, 0x83FF83FF, 0x0, 0x140032⟩,
   ⟨0x18, 4, 1, 0x0, 0x0, 0x0⟩]
def hubBlock10 : List RegDef :=
  [⟨0x0, 4, 1, 0xFFFFFFFF, 0x0, 0x0⟩,
   ⟨0x4, 4, 1, 0xFFFFFFFF, 0x0, 0x0⟩,
   ⟨0x100, 4, 64, 0x1F, 0x0, 0x0⟩,
   ⟨0x200, 4, 64, 0x0, 0x40000000, 0x0⟩]
def hubBlock1A : List RegDef :=
  [⟨0x0, 4, 1, 0xFFFFFFFF, 0x0, 0x12252D10⟩,
   ⟨0x4, 4, 1, 0x0, 0x0, 0x0⟩,
   ⟨0x8, 4, 1, 0x0, 0x0, 0x0⟩,
   ⟨0xC, 4, 1, 0x3F01FF, 0x0, 0x0⟩,
   ⟨0x10, 4, 1, 0xFFFFFFFF, 0x0, 0x0⟩,
   ⟨0x100, 4, 64, 0x0, 0x0, 0xF0000000⟩,
   ⟨0x14, 4, 1, 0x0, 0x0, 0x0⟩,
   ⟨0x18, 4, 1, 0x0, 0x0, 0x0⟩,
   ⟨0x1C, 4, 1, 0x0, 0x3, 0x0⟩]
/-- The register table of a block of the hub (Table 1-7; an unlisted code is unoccupied, R25). -/
def hubRegs : Nat → List RegDef
  | 0x01 => hubBlock01
  | 0x02 => hubBlock02
  | 0x03 => hubBlock03
  | 0x04 => hubBlock04
  | 0x05 => hubBlock05
  | 0x06 => hubBlock06
  | 0x07 => hubBlock07
  | 0x08 => hubBlock08
  | 0x09 => hubBlock09
  | 0x0A => hubBlock0A
  | 0x0B => hubBlock0B
  | 0x0C => hubBlock0C
  | 0x0D => hubBlock0D
  | 0x0E => hubBlock0E
  | 0x0F => hubBlock0F
  | 0x10 => hubBlock10
  | 0x1A => hubBlock1A
  | _ => []

def tileBlock01 : List RegDef :=
  [⟨0x0, 4, 1, 0x11FFF, 0x0, 0x0⟩,
   ⟨0x4, 4, 1, 0x0, 0x0, 0x0⟩,
   ⟨0x8, 4, 1, 0x0, 0x0, 0x0⟩,
   ⟨0x2C, 4, 1, 0x0, 0x0, 0x0⟩,
   ⟨0xC, 4, 1, 0x0, 0x0, 0x0⟩,
   ⟨0x10, 4, 1, 0x0, 0x0, 0x0⟩,
   ⟨0x14, 4, 1, 0x0, 0x0, 0x0⟩,
   ⟨0x18, 4, 1, 0x0, 0x3, 0x0⟩,
   ⟨0x1C, 4, 1, 0x0, 0x0, 0x0⟩,
   ⟨0x20, 4, 1, 0x1FFF, 0x0, 0x0⟩,
   ⟨0x24, 4, 1, 0xFFFFFFFF, 0x0, 0x0⟩,
   ⟨0x28, 4, 1, 0xFFFFFFFF, 0x0, 0x0⟩,
   ⟨0x30, 4, 1, 0xF, 0x0, 0x0⟩,
   ⟨0x34, 4, 1, 0x0, 0x0, 0x0⟩,
   ⟨0x38, 4, 1, 0x0, 0x0, 0x0⟩,
   ⟨0x40, 4, 1, 0x0, 0x0, 0x0⟩,
   ⟨0x44, 4, 1, 0x0, 0x0, 0x0⟩,
   ⟨0x100, 4, 8, 0xFFFFFFFF, 0x0, 0x0⟩]
def tileBlock0E : List RegDef :=
  [⟨0x0, 4, 1, 0x0, 0x0, 0x0⟩,
   ⟨0x4, 4, 1, 0x0, 0x0, 0x0⟩,
   ⟨0x8, 4, 1, 0x80FFFFFF, 0x0, 0x80320020⟩,
   ⟨0xC, 4, 1, 0x0, 0x0, 0x0⟩,
   ⟨0x10, 4, 4, 0x8FFF01FF, 0x0, 0x10300B4⟩]
def tileBlock0F : List RegDef :=
  [⟨0x0, 4, 1, 0x1F, 0x0, 0x0⟩,
   ⟨0x4, 4, 1, 0x0, 0x0, 0x0⟩,
   ⟨0x8, 4, 1, 0x0, 0x0, 0x0⟩,
   ⟨0xC, 4, 1, 0x0, 0x0, 0x0⟩]
def tileBlock10 : List RegDef :=
  [⟨0x0, 4, 1, 0xFFFFFFFF, 0x0, 0x0⟩,
   ⟨0x4, 4, 1, 0xFFFFFFFF, 0x0, 0x0⟩,
   ⟨0x100, 4, 64, 0x1F, 0x0, 0x0⟩,
   ⟨0x200, 4, 64, 0x0, 0x40000000, 0x0⟩]
def tileBlock18 : List RegDef :=
  [⟨0x0, 4, 1, 0xF0, 0x0, 0xC0⟩,
   ⟨0x4, 4, 1, 0x0, 0x0, 0x0⟩,
   ⟨0x8, 4, 1, 0xFFFFFFFF, 0x0, 0x0⟩,
   ⟨0xC, 4, 1, 0xFFFF, 0x0, 0x0⟩,
   ⟨0x10, 4, 4, 0xC1FFFF17, 0x0, 0x41116C01⟩,
   ⟨0x20, 4, 1, 0x0, 0x0, 0x0⟩,
   ⟨0x24, 4, 1, 0xFFFFFF0F, 0x0, 0x0⟩,
   ⟨0x28, 4, 1, 0xFFFFFFFF, 0x0, 0x0⟩,
   ⟨0x2C, 4, 1, 0x3F, 0x0, 0x0⟩,
   ⟨0x30, 4, 1, 0xFFFFFFFF, 0x0, 0x0⟩,
   ⟨0x34, 4, 1, 0xFFFF, 0x0, 0x0⟩,
   ⟨0x38, 4, 1, 0xF0000FFF, 0x0, 0x14⟩,
   ⟨0x3C, 4, 1, 0x0, 0x0, 0x0⟩,
   ⟨0x40, 4, 1, 0x0, 0x0, 0x0⟩,
   ⟨0x44, 4, 1, 0x0, 0x3FFFF, 0x0⟩,
   ⟨0x100, 4, 16, 0x1FFF, 0x0, 0x0⟩,
   ⟨0x140, 4, 16, 0xFFFF, 0x0, 0x0⟩,
   ⟨0x180, 4, 16, 0xFFFF, 0x0, 0x8000⟩,
   ⟨0x1C0, 4, 16, 0x0, 0x0, 0x0⟩]
def tileBlock19 : List RegDef :=
  [⟨0x0, 4, 1, 0x1, 0x0, 0x0⟩,
   ⟨0x4, 4, 1, 0x0, 0x0, 0x0⟩,
   ⟨0x8, 4, 1, 0xFFFFFFFF, 0x0, 0x0⟩,
   ⟨0xC, 4, 1, 0xFFFF, 0x0, 0x0⟩,
   ⟨0x10, 4, 4, 0xE1FFFF17, 0x0, 0x41116C01⟩,
   ⟨0x20, 4, 4, 0x3FF, 0x0, 0x0⟩,
   ⟨0x30, 4, 1, 0x0, 0x0, 0x0⟩,
   ⟨0x34, 4, 1, 0xFFFF, 0x0, 0x0⟩,
   ⟨0x38, 4, 1, 0x3F, 0x0, 0x0⟩,
   ⟨0x3C, 4, 1, 0xFFFFFFFF, 0x0, 0x0⟩,
   ⟨0x40, 4, 1, 0xFFFF, 0x0, 0x0⟩,
   ⟨0x44, 4, 1, 0xF0000FFF, 0x0, 0x14⟩,
   ⟨0x48, 4, 1, 0x80FFFFFF, 0x0, 0x80020020⟩,
   ⟨0x4C, 4, 1, 0xFFFFFF00, 0x0, 0x18788E00⟩,
   ⟨0x50, 4, 1, 0xFFFF, 0x0, 0x0⟩,
   ⟨0x54, 4, 1, 0x7FFEF, 0x0, 0xA440⟩,
   ⟨0x58, 4, 1, 0xFFEF, 0x0, 0xA440⟩,
   ⟨0x5C, 4, 1, 0x1FFF, 0x0, 0x1E00⟩,
   ⟨0x60, 4, 1, 0xFFFF, 0x0, 0x0⟩,
   ⟨0x64, 4, 1, 0x0, 0xFFFFFFFF, 0x0⟩,
   ⟨0x100, 4, 16, 0x1FFF, 0x0, 0x0⟩,
   ⟨0x140, 4, 16, 0xFFFF, 0x0, 0x0⟩,
   ⟨0x180, 4, 16, 0x9F0FFF00, 0x0, 0x0⟩,
   ⟨0x1C0, 4, 16, 0x0, 0x0, 0x0⟩,
   ⟨0x200, 4, 16, 0x0, 0x40000000, 0x8000⟩,
   ⟨0x240, 4, 16, 0x0, 0x40000000, 0x8000⟩,
   ⟨0x400, 32, 16, 0xFC000000, 0x0, 0x10000000⟩,
   ⟨0x404, 32, 16, 0xFFFFFFC0, 0x0, 0x0⟩,
   ⟨0x408, 32, 16, 0xF, 0x0, 0x0⟩,
   ⟨0x40C, 32, 16, 0xFFFFFFC0, 0x0, 0x0⟩,
   ⟨0x410, 32, 16, 0x0, 0x0, 0x0⟩]
def tileBlock1A : List RegDef :=
  [⟨0x0, 4, 1, 0x33, 0x0, 0x0⟩,
   ⟨0x4, 4, 1, 0xFFFF, 0x0, 0x0⟩,
   ⟨0x8, 4, 1, 0x0, 0x0, 0x0⟩,
   ⟨0xC, 4, 1, 0x0, 0x0, 0x0⟩,
   ⟨0x10, 4, 1, 0x80007FFF, 0x0, 0x0⟩,
   ⟨0x14, 4, 1, 0xFFFFFFFF, 0x0, 0x0⟩,
   ⟨0x20, 4, 1, 0x80000377, 0x0, 0x80000100⟩,
   ⟨0x24, 4, 7, 0x80000377, 0x0, 0x100⟩]
def tileBlock1B : List RegDef :=
  [⟨0x0, 4, 1, 0xF, 0x0, 0x0⟩,
   ⟨0x4, 4, 1, 0x0, 0x0, 0x30C⟩,
   ⟨0x8, 4, 2, 0x3, 0x0, 0x0⟩,
   ⟨0x10, 4, 1, 0x3FFFFFF, 0x0, 0x3C3710⟩,
   ⟨0x14, 4, 1, 0xFFF00FFF, 0x0, 0x64300060⟩,
   ⟨0x18, 4, 1, 0xFF, 0x0, 0x20⟩,
   ⟨0x20, 4, 2, 0x0, 0x0, 0xF0000000⟩,
   ⟨0x28, 4, 2, 0x0, 0x0, 0x0⟩,
   ⟨0x30, 4, 2, 0x0, 0x0, 0x0⟩,
   ⟨0x38, 4, 2, 0x0, 0x40000000, 0x8000⟩,
   ⟨0x40, 4, 1, 0x0, 0x0, 0x0⟩,
   ⟨0x44, 4, 1, 0x0, 0x0, 0x0⟩,
   ⟨0x48, 4, 1, 0x0, 0x3, 0x0⟩,
   ⟨0x100, 4, 16, 0xFFF, 0x0, 0x0⟩,
   ⟨0x140, 4, 16, 0xFFFF, 0x0, 0x0⟩,
   ⟨0x180, 4, 16, 0x0, 0x40000000, 0x0⟩,
   ⟨0x200, 4, 1, 0xFFFFFFFF, 0x0, 0xC00C2014⟩,
   ⟨0x204, 4, 1, 0x0, 0x0, 0x0⟩,
   ⟨0x208, 4, 1, 0xFFFFFFFF, 0x0, 0x18000⟩,
   ⟨0x20C, 4, 1, 0x0, 0x0, 0x0⟩,
   ⟨0x210, 4, 1, 0x3FF00FF, 0x0, 0x2580014⟩,
   ⟨0x214, 4, 1, 0xFFFFF, 0x0, 0x0⟩,
   ⟨0x218, 4, 1, 0xFFFF, 0x0, 0x0⟩,
   ⟨0x21C, 4, 1, 0x0, 0x0, 0x0⟩,
   ⟨0x220, 4, 1, 0x0, 0x1, 0x0⟩,
   ⟨0x224, 4, 1, 0xFFFF, 0x0, 0x0⟩,
   ⟨0x228, 4, 1, 0x0, 0x0, 0x0⟩,
   ⟨0x230, 4, 3, 0x0, 0x0, 0x0⟩,
   ⟨0x240, 4, 3, 0x0, 0x0, 0x0⟩,
   ⟨0x280, 4, 16, 0xFFFFFFFF, 0x0, 0x0⟩,
   ⟨0x2C0, 4, 16, 0xFFFFFFFF, 0x0, 0x0⟩,
   ⟨0x300, 4, 16, 0x0, 0x0, 0xF0000000⟩,
   ⟨0x380, 4, 16, 0x0, 0x0, 0xF0000000⟩,
   ⟨0x400, 4, 16, 0x0, 0x0, 0xF0000000⟩,
   ⟨0x340, 4, 16, 0x0, 0x0, 0x0⟩,
   ⟨0x3C0, 4, 16, 0x0, 0x0, 0x0⟩,
   ⟨0x440, 4, 16, 0x0, 0x0, 0x0⟩]
def tileBlock1C : List RegDef :=
  [⟨0x0, 4, 1, 0x0, 0x0, 0x0⟩,
   ⟨0x4, 4, 1, 0x0, 0x0, 0x0⟩,
   ⟨0x8, 4, 1, 0x0, 0x1, 0x0⟩,
   ⟨0x10, 4, 1, 0xFFFFFFFF, 0x0, 0xFC3E8⟩,
   ⟨0x20, 4, 1, 0xFFFFFFFF, 0x0, 0xF0C3E8⟩,
   ⟨0x30, 4, 1, 0xFFFFFFFF, 0x0, 0xF00C3E8⟩,
   ⟨0x40, 4, 1, 0xFFFFFFFF, 0x0, 0xF000C3E8⟩,
   ⟨0x14, 16, 4, 0xFFF0FFF, 0x0, 0x6400C8⟩,
   ⟨0x18, 16, 4, 0xFFF0FFF, 0x0, 0xA00C8⟩,
   ⟨0x1C, 16, 4, 0x0, 0x0, 0x0⟩]
def tileBlock1D : List RegDef :=
  [⟨0x0, 4, 1, 0xFFFFFF, 0x0, 0x204050⟩,
   ⟨0x100, 4, 16, 0xE000FFFF, 0x0, 0xC000⟩,
   ⟨0x140, 4, 16, 0xFFFF, 0x0, 0x0⟩,
   ⟨0x180, 4, 16, 0x0, 0x0, 0x0⟩,
   ⟨0x1C0, 4, 16, 0x0, 0x10000000, 0x0⟩,
   ⟨0x200, 4, 16, 0xFFFFFFFF, 0x0, 0x0⟩,
   ⟨0x240, 4, 16, 0xFFFFFFFF, 0x0, 0x8000⟩]
def tileBlock1E : List RegDef :=
  [⟨0x0, 16, 4, 0xFFFF01FF, 0x0, 0x13⟩,
   ⟨0x4, 16, 4, 0x0, 0x0, 0x0⟩,
   ⟨0x8, 16, 4, 0x0, 0x3, 0x0⟩,
   ⟨0xC, 16, 4, 0x0, 0x0, 0x0⟩]
def tileBlock1F : List RegDef :=
  [⟨0xC, 4, 1, 0xFFFFFFFF, 0x0, 0x43200010⟩,
   ⟨0x0, 4, 1, 0x3FFFF00, 0x0, 0xA1E00⟩,
   ⟨0x4, 4, 1, 0x0, 0x0, 0x0⟩,
   ⟨0x8, 4, 1, 0x0, 0x0, 0x0⟩,
   ⟨0x10, 4, 1, 0x0, 0x0, 0x0⟩,
   ⟨0x14, 4, 1, 0x0, 0x0, 0x0⟩]
def tileBlock20 : List RegDef :=
  [⟨0x24, 4, 1, 0xFFFFFFFF, 0x0, 0x23200010⟩,
   ⟨0x0, 16, 2, 0xFF, 0x0, 0x41⟩,
   ⟨0x4, 16, 2, 0xFFFFFF, 0x0, 0x0⟩,
   ⟨0x8, 16, 2, 0x0, 0x0, 0x0⟩,
   ⟨0x20, 4, 1, 0x0, 0x0, 0x0⟩]
/-- The register table of a block of a tile (Table 1-7; an unlisted code is unoccupied, R25). -/
def tileRegs : Nat → List RegDef
  | 0x01 => tileBlock01
  | 0x0E => tileBlock0E
  | 0x0F => tileBlock0F
  | 0x10 => tileBlock10
  | 0x18 => tileBlock18
  | 0x19 => tileBlock19
  | 0x1A => tileBlock1A
  | 0x1B => tileBlock1B
  | 0x1C => tileBlock1C
  | 0x1D => tileBlock1D
  | 0x1E => tileBlock1E
  | 0x1F => tileBlock1F
  | 0x20 => tileBlock20
  | _ => []

/-- The row of `off` in a block's table, if a register occupies that offset. -/
def findReg : List RegDef → Nat → Option RegDef
  | [], _ => none
  | r :: rs, off =>
    if r.off ≤ off ∧ off < r.off + r.stride * r.count ∧ (off - r.off) % r.stride = 0 then some r else findReg rs off

def dieOf (a : Nat) : Nat := a / 0x1000000 % 16
def blockOf (a : Nat) : Nat := a / 0x10000 % 256
def offOf (a : Nat) : Nat := a % 0x10000

/-- The register that occupies a device address (R9, R25; Tables 1-6 and 1-7). -/
def regAt (a : Nat) : Option RegDef :=
  if a < 0x10000000 then
    if dieOf a = 0 then findReg (hubRegs (blockOf a)) (offOf a)
    else if dieOf a ≤ 4 then findReg (tileRegs (blockOf a)) (offOf a)
    else none
  else none

/-- The reset value of the register at an address (R13), 0 where no register is; the fields loaded from fuses take
the Config constants. -/
def resetWord (a : Nat) : Word :=
  if a = Reg.RILYN_IDENT then 0x64640000#32 ||| (if Config.steppingA1 then 0x00000100#32 else 0x00001000#32)
  else if a = Reg.RILYN_SERIAL_LO then Config.serial.setWidth 32
  else if a = Reg.RILYN_SERIAL_HI then (Config.serial >>> 32).setWidth 32
  else if Reg.THERM_THETA 0 ≤ a ∧ a < Reg.THERM_THETA 5 then (Config.fuseTheta ((a - Reg.THERM_THETA 0) / 4)).setWidth 32
  else match regAt a with
    | some r => BitVec.ofNat 32 r.reset
    | none => 0

end Sys2Proof.Machine
end

