-- ==== Sys2Proof/Machine/State.lean ====
section
/-!
DEFINITION. The state of the part, as plain data: every register, memory, queue and mode the spec gives it, the queue of
waiting commands, and the few fields that are the model's own (marked so).  Arrays are sparse stores: lists of (index, value)
with rising indices in which a value equal to the default is not listed (Bits.lean); an instance that is not listed holds its
reset value.
-/
namespace Sys2Proof.Machine

/-- The eight modes (Table 1-8). -/
inductive Mode where
  | standby | boot | recovery | configure | calibrate | onAir | quiet | test
  deriving DecidableEq, Repr

/-- A radio instruction with its operands as they stood when it issued (Table 2-4): a member of a bundle. -/
inductive Radio where
  | txon (cmask : BitVec 4) (pmask : BitVec 16)
  | txoff (cmask : BitVec 4) (pmask : BitVec 16)
  | rxon (cmask : BitVec 4) (pmask : BitVec 16)
  | rxoff (cmask : BitVec 4) (pmask : BitVec 16)
  | gain (rx sync : Bool) (pmask value : BitVec 16)
  | nco (rx : Bool) (car : BitVec 2) (tw : BitVec 48) (pmask : BitVec 16)
  | filt (rx z : Bool) (car : BitVec 2) (resp : BitVec 4) (pmask : BitVec 16) (zone : Bool) (ratio : BitVec 12)
  | beamset (ul : Bool) (layer : BitVec 5) (beam : BitVec 15)
  | paen (v q : Bool) (qmask : BitVec 4) (pmask : BitVec 16)
  | capt (src pidx desc : BitVec 4) (len : BitVec 32)
  | calb (kind : BitVec 4) (pmask : BitVec 16) (dur : BitVec 32)
  deriving DecidableEq, Repr

/-- A bundle waiting for its dispatcher (R50, R52, R60): its time T, its L bit, the index of its AT, its members, and
the model instant at which it is available to the dispatcher (R61). -/
structure Bundle where
  time : BitVec 64
  applyLate : Bool
  pc : Nat
  members : List Radio
  avail : Nat
  deriving DecidableEq, Repr

/-- A radio instruction that a dispatcher has applied and whose effect instant is `at` (R54): of tile `die` (0 to 3),
or of the hub (4); `proc` is the processor whose local queue held it, or 5 for a bundle of a command FIFO. -/
structure Effect where
  at_ : Nat
  die : Nat
  proc : Nat
  radio : Radio
  deriving DecidableEq, Repr

/-- STATUS.STATE of a Glide processor (Table 2-11). -/
inductive GState where
  | halted | running | stallQueue | stallFifo | waitEvent | waitLock | waitFence | waitGet | fault
  deriving DecidableEq, Repr

/-- An entry of a loop stack (R42, Table 2-4): start index, END and remaining count. -/
structure LoopFrame where
  start : Nat
  end_ : Nat
  n : BitVec 32
  deriving DecidableEq, Repr

/-- One Glide processor (R42, R43, R52, R64 to R67). -/
structure Glide where
  /-- the general registers g0 to g15; g0 is never written -/
  g : List (Nat × BitVec 64) := []
  pc : Nat := 0
  z : Bool := false
  lt : Bool := false
  ltu : Bool := false
  bt : BitVec 64 := 0
  /-- loop stack, innermost first, at most 4 -/
  loops : List LoopFrame := []
  /-- call stack, latest first, at most 8 -/
  calls : List Nat := []
  /-- the pending-event flags that are set, by Hive source (R64) -/
  flags : List Nat := []
  /-- local dispatch queue, oldest first, at most 8 bundles (R52) -/
  queue : List Bundle := []
  st : GState := .halted
  fault : Nat := 0
  /-- a bundle held by a stall at its AT, and its DST (R52, R60) -/
  held : Option (Bundle × BitVec 4) := none
  /-- the wait in progress: register of its result, source or synthesiser waited for, instant of its timeout -/
  waitRd : Nat := 0
  waitFor : Nat := 0
  waitEnd : Option Nat := none
  /-- the conditions of a FENCE in progress (R66) -/
  fenceB : Bool := false
  fenceW : Bool := false
  fenceF : Bool := false
  /-- instant by which every SET issued has completed at its block (R67) -/
  setDone : Nat := 0
  /-- the same by block: die and block code of a SET as 256 die + block, latest first (R343) -/
  sets : List (Nat × Nat) := []
  /-- device address of a GET in progress -/
  getAddr : Nat := 0
  /-- model instant of the next issue cycle (R41) -/
  nextIssue : Nat := 0
  /-- instruction memory: 8,192 words of 64 bits, default 0 (R43) -/
  imem : List (Nat × BitVec 64) := []
  /-- the high halves captured by reads of GREG_LO and BT_LO (R70) -/
  gregHi : Word := 0
  btHi : Word := 0
  deriving DecidableEq, Repr

/-- A run of invalid samples (R95, R123): samples first to stop - 1, counted on the combining-rate grid from t_A; `opened` while the run has no
end yet, by its cause (0 none, 1 an unlocked interval, 2 an alignment, 3 an invalid carrier); `tail`: the carrier output samples it lasts after that, and
once it has an end the combining-rate samples.  Other uses count model instants. -/
structure Run where
  first : Int := 0
  stop : Int := 0
  opened : Bool := false
  cause : Nat := 0
  tail : Nat := 0
  deriving DecidableEq, Repr

/-- What a carrier NCO did since a change of its tuning word (R80, R81): the combining-rate sample of the change, the phase of its accumulator
there, the word. -/
structure Nco where
  first : Int := 0
  phase : BitVec 48 := 0
  tw : BitVec 48 := 0
  deriving DecidableEq, Repr

/-- One carrier of one path, in one direction (R80, R78, R84; R109, R110, R113). -/
structure Carrier where
  tw : BitVec 48 := 0
  resp : BitVec 4 := 0
  ratio : BitVec 12 := 0x014
  gate : Bool := false
  /-- the instant at which the gate last opened, and the intervals in which it was open before, newest first (R84) -/
  openedAt : Nat := 0
  spans : List (Nat × Nat) := []
  /-- its invalid runs (Tables 3-4 and 4-3), newest first -/
  runs : List Run := []
  /-- its accumulator since the latest change of tw, and before, newest first (R80, R81) -/
  nco : List Nco := []
  /-- the intervals in which the carrier was invalid, as model instants (R83, R111), and the instant from which stage 4 or 8 has history -/
  bad : List Run := []
  fresh : Nat := 0
  /-- combining-rate samples below this one have been counted at stage 8 (R101) -/
  counted : Int := 0
  /-- responses and ratios that were in force until an instant, newest first (R78, R110) -/
  filts : List (Nat × BitVec 4 × BitVec 12) := []
  deriving DecidableEq, Repr

/-- One path in the transmit direction (R85, R88, R95). -/
structure TxPath where
  /-- trims in force at the converter plane (the registers hold the shadows, R88) -/
  delay : BitVec 13 := 0
  phase : BitVec 16 := 0
  /-- the trim boundaries for which the shadows are armed, as timebase values (R88) -/
  armed : List Nat := []
  /-- trims and gain trims that were in force until an instant, newest first (R87) -/
  past : List (Nat × BitVec 13 × BitVec 16) := []
  gains : List (Nat × BitVec 16) := []
  /-- latest swap: its instant, and the ENABLE bit before it (R169) -/
  swapAt : Nat := 0
  swapWas : Bool := false
  /-- combining-rate samples below this one have been counted at stages 10 and 12 (R77) -/
  counted : Int := 0
  /-- intervals, as model instants, in which the PAEN pin was high, newest first (R180) -/
  lit : List Run := []
  /-- DAC running time in Tc since the latest start, up to the instant beside it (R197) -/
  ran : Nat := 0
  ranAt : Nat := 0
  /-- DAC stages 14 and 15 stopped (R85) -/
  gated : Bool := false
  /-- instant since which the path has been idle -/
  idleSince : Nat := 0
  /-- instant at which stages 14 and 15 last stopped or ran again (R494) -/
  moved : Nat := 0
  /-- the invalid runs of path-level changes, newest first -/
  runs : List Run := []
  deriving DecidableEq, Repr

/-- Where a step-attenuator change waits (R118, R119): the code and whether it came from gain control. -/
structure GainPend where
  code : BitVec 6
  byAgc : Bool
  /-- the processor whose GAIN it was, 5 for a bundle of a command FIFO -/
  proc : Nat := 6
  deriving DecidableEq, Repr

/-- One power measurement (R121): the last block powers, the last rank outputs, newest first; whether the latest block was above the threshold
(R122); the sample, combining-rate or of the ADC, from which on the next block is formed. -/
structure Meter where
  blocks : List Nat := []
  ranks : List Nat := []
  above : Bool := false
  next : Int := 0
  deriving DecidableEq, Repr

/-- One path in the receive direction (R103, R115 to R122). -/
structure RxPath where
  delay : BitVec 13 := 0
  phase : BitVec 16 := 0
  armed : List Nat := []
  /-- a step-attenuator change armed for a symbol boundary, and that boundary -/
  gain : Option (GainPend × Nat) := none
  /-- GAINs with S = 1 that another has replaced: processor and boundary (R66, R120) -/
  replaced : List (Nat × Nat) := []
  /-- the codes the compensation of stage 6 uses, each from an instant on, newest first (R117, R118) -/
  comps : List (Nat × BitVec 6) := []
  /-- trims, and the Nyquist zone, that were in force until an instant, newest first -/
  past : List (Nat × BitVec 13 × BitVec 16) := []
  zones : List (Nat × Bool) := []
  /-- ADC time, in fifteenths of a Tc, up to which limit samples have been counted (R101) -/
  counted : Nat := 0
  /-- boundaries in a row below LOW, and the instant of the latest decision (R119) -/
  hold : Nat := 0
  decided : Nat := 0
  pm : Meter := {}
  wpd : Meter := {}
  deriving DecidableEq, Repr

/-- One GPIO step pin's latest change: instant, path number, level (R115). -/
structure StepPin where
  at_ : Nat := 0
  path : Nat := 0
  level : Bool := false
  deriving DecidableEq, Repr

/-- A capture on a descriptor (R125 to R128). -/
structure Capture where
  src : Nat := 0
  pidx : Nat := 0
  len : Nat := 0
  /-- samples written -/
  done : Nat := 0
  /-- byte offset within the region of the next data granule -/
  offset : Nat := 0
  /-- the region and its form, as they stood when the capture started -/
  dram : Bool := false
  ring : Bool := false
  hdr : Bool := false
  left : Bool := false
  car : Nat := 0
  base : Nat := 0
  size : Nat := 0
  /-- index of its first sample at the rate of its source (a carrier's at the combining rate), the index from which its next one is sought, for SRC 5 its
  first symbol and the one it takes next, and its effect instant -/
  first : Int := 0
  next : Int := 0
  sym : Nat := 0
  at_ : Nat := 0
  /-- kind of the Dragonfly input (0 forward, 1 reverse, 2 calibration network, 3 termination); it is a training acquisition -/
  kind : Nat := 3
  train : Bool := false
  /-- the sum of |x|^2 over the valid samples, and their number (R190) -/
  sum : Nat := 0
  valid : Nat := 0
  deriving DecidableEq, Repr

/-- A transmit symbol's data as a tile holds it (R76): whether all of it has arrived, the paths with an invalid word, and the words struck on their way
(R16), as 4,096 times the path index plus the subcarrier. -/
structure TxSymbol where
  held : Bool := false
  invalid : BitVec 16 := 0
  struck : List Nat := []
  deriving DecidableEq, Repr

/-- A section description (R131, Table 10-6), as a SECTION command carries it. -/
structure Desc where
  layer : Nat := 0
  mode : Nat := 0
  gran : Nat := 0
  wcode : Nat := 0
  startRb : Nat := 0
  nrb : Nat := 0
  beamA : Nat := 0
  beamB : Nat := 0
  version : Nat := 0
  /-- the vectors of VECTOR mode -/
  vectors : List Word := []
  deriving DecidableEq, Repr

/-- How far the work on a section-symbol has come (R146, R149): queued, in the pipeline, complete; failed while an input is lost
(R155, R314); committed, then dispatched or combined; or removed by a CANCEL, keeping only its version (R268). -/
inductive Stage where
  | queued | computing | complete | failed | committed | dispatched | cancelled
  deriving DecidableEq, Repr

/-- The resolved weights of a section-symbol: muted, an entry of the beam table, or pool pages. -/
inductive Weights where
  | muted | entry (e : Nat) | pages (ps : List Nat)
  deriving DecidableEq, Repr

/-- A replay (R155, R314): queued, before the horizon as a work item and after it as such, or in the pipeline until an instant with its fresh pages. -/
inductive Replay where
  | none | queued | running (ps : List Nat) (stop : Nat)
  deriving DecidableEq, Repr

/-- A section-symbol in Slalom and the combiner (R146 to R157). -/
structure SecSym where
  key : SecKey
  /-- the description that governs it; its version is the current version (R147) -/
  desc : Desc
  /-- model instant at which the change that queued its item was accepted -/
  accepted : Nat := 0
  stage : Stage := .queued
  /-- instant at which the work item completes -/
  doneAt : Nat := 0
  /-- the beam IDs its result names, the entries they resolved to, and whether one was undefined -/
  ids : List Nat := []
  ents : List Nat := []
  unknown : Bool := false
  weights : Weights := .muted
  /-- takes the fallback beam: a definition its message carried was rejected (R140) -/
  rejected : Bool := false
  /-- the description it was committed with (R151), whether with the fallback beam, the causes of its mark (Table 10-7) -/
  used : Desc := {}
  fallback : Bool := false
  reasons : List Nat := []
  /-- an uplink section-symbol is sent with zero mantissas (R155) -/
  zeroed : Bool := false
  replay : Replay := .none
  /-- upstream partial sum received: its mark and its expanded components (R158, R159) -/
  upstream : Option (Bool × List Int) := none
  /-- the wait for the upstream record has ended without one (R161) -/
  expired : Bool := false
  /-- the entry of the fallback beam in force and defined at its horizon (R142) -/
  fbEnt : Option Nat := none
  /-- instant at which the stored description that governs it was accepted (R314) -/
  toldAt : Nat := 0
  /-- instant at which a replay of it ended, which its own sum waited for (R155, R161) -/
  redone : Nat := 0
  deriving DecidableEq, Repr

/-- The last committed version of a section (R152). -/
structure LastCommit where
  ul : Bool
  car : Nat
  id : Nat
  sym : Nat
  desc : Desc
  weights : Weights
  ents : List Nat
  fallback : Bool
  deriving DecidableEq, Repr

/-- A slot of the beam-ID map (R136 to R141): its entry and whether it is pinned. -/
structure BeamSlot where
  entry : Nat
  pinned : Bool
  deriving DecidableEq, Repr

/-- State of a beam-table entry (R138); lost until its ID is defined again (R155). -/
inductive EntryState where
  | free | current | retiring | lost (id : Nat)
  deriving DecidableEq, Repr

/-- Label of a pool page (R136). -/
inductive PageState where
  | free | speculative | committed
  deriving DecidableEq, Repr

/-- A received eCPRI message handed on by the MAC (R239, R254): port, instant, eCPRI bytes from the common header. -/
structure EcpriMsg where
  port : Nat
  at_ : Nat
  bytes : List Byte
  deriving DecidableEq, Repr

/-- A command of a type 2 message waiting to act (R265): its carrier, the time fields, the message's acceptance
instant in timebase ticks, whether it is the first of its message, its words. -/
structure CtrlCmd where
  car : Nat
  sfn : Nat
  subframe : Nat
  slot : Nat
  accepted : Nat
  first : Bool
  words : List Word
  deriving DecidableEq, Repr

/-- A received flow (R256): the highest accepted SEQ_ID, the first one accepted, and the accepted ones of the 128 up to
it, bit d standing for h - d; `entered` marks those that entered through a rise of h. -/
structure Flow where
  h : BitVec 8
  accepted : BitVec 128
  entered : BitVec 128
  deriving DecidableEq, Repr

/-- A message held in the symbol store until A(s) of its last symbol (R264): its 64-byte units, and that instant. -/
structure Held where
  units : Nat
  until_ : Nat
  deriving DecidableEq, Repr

/-- An accepted resend request (R277, R278). -/
structure Resend where
  pcId : BitVec 16
  first : BitVec 16
  count : Nat
  /-- numbers served, and the run of numbers that cannot be replayed: reason, first, count (R279) -/
  done : Nat := 0
  run : Option (Nat × Nat × Nat) := none
  deriving DecidableEq, Repr

/-- A journal record's place in the ring (R275). -/
structure JrnRec where
  number : Nat
  offset : Nat
  size : Nat
  deriving DecidableEq, Repr

/-- What a frame needs of its egress timestamp (R281, R320): nothing, its correctionField, or a Follow_Up after it. -/
inductive Stamp where
  | none | oneStep | twoStep | delayFollow
  deriving DecidableEq, Repr

/-- A frame in a transmit queue of a MAC port (R240): its PCP, and its bytes from the destination address to the byte before
the FCS. -/
structure TxFrame where
  pcp : Nat
  bytes : List Byte
  stamp : Stamp := .none
  deriving DecidableEq, Repr

/-- A MAC port (R238, R240): frames queued (in order of arrival; the port serves the highest PCP first) and the frame
being sent. -/
structure Port where
  queue : List TxFrame := []
  sending : Option TxFrame := none
  /-- instant at which the first bit of the frame being sent left -/
  sentAt : Nat := 0
  /-- instant at which the link last went down (R238) -/
  downAt : Option Nat := none
  deriving DecidableEq, Repr

/-- What a lane keeps beside its registers (R242 to R250). -/
structure Lane where
  /-- epochs in a row below FOM_MIN -/
  low : Nat := 0
  /-- it holds complete coefficients -/
  coef : Bool := false
  /-- instants at which the state it is in began, and at which the request behind it was made -/
  since : Nat := 0
  asked : Nat := 0
  /-- became ACTIVE through RESUMING the last time (R249) -/
  resumed : Bool := false
  /-- a scan of it has ended in the epoch that runs (R245) -/
  scanned : Bool := false
  /-- its quad PLL was lost while it was ACTIVE (R250) -/
  lost : Bool := false
  /-- a warm start has found that it may retain its coefficients (R420) -/
  kept : Bool := false
  /-- number of the training that gave its transmitter the coefficients it uses; none: those of TXEQ (R237) -/
  trained : Option Nat := none
  deriving DecidableEq, Repr

/-- An eye-scan point in progress (R244): lane, and the instant at which it completes. -/
structure EyeScan where
  lane : Nat
  stop : Nat
  deriving DecidableEq, Repr

/-- A DATA flit (R285, R294): virtual channel, SOM, EOM, payload. -/
structure Flit where
  vc : Nat
  som : Bool
  eom : Bool
  payload : BitVec 256
  deriving DecidableEq, Repr

/-- What a Burog port has received on one lane while it trains (R297): TRAIN flits that have passed their CRC in a row, whether any has, the payload of the
latest, and the timebase as it came. -/
structure TrainLane where
  run : Nat := 0
  heard : Bool := false
  payload : BitVec 256 := 0
  at_ : BitVec 64 := 0
  deriving DecidableEq, Repr

/-- A partial-sum record that is being sent as it is formed (R296): the section-symbol, the fields of the resource blocks formed so far, and the flits posted. -/
structure PsumOut where
  key : SecKey
  fields : List (Nat × Nat)
  flits : Nat
  deriving DecidableEq, Repr

/-- A Burog port beside its registers (R285 to R293). -/
structure BPort where
  /-- sequence number of the DATA flit expected next, and of the next new DATA flit to send -/
  expect : Nat := 0
  next : Nat := 0
  /-- DATA flits held until acknowledged, oldest first; the first has number next - length -/
  retry : List Flit := []
  /-- how many of the newest held flits are still to be sent again -/
  again : Nat := 0
  /-- replays without an advance of the ACK, and the instant of the latest advance or replay -/
  replays : Nat := 0
  ackAt : Nat := 0
  /-- a NAK is pending, and the instant of the latest NAK -/
  nak : Bool := false
  nakAt : Nat := 0
  /-- flits that wait to be sent, by virtual channel -/
  q0 : List Flit := []
  q1 : List Flit := []
  q2 : List Flit := []
  q3 : List Flit := []
  /-- credits used of each channel since RUN, credits the partner returned, and flits freed here (all counted from RUN) -/
  used : List Nat := [0, 0, 0, 0]
  returned : List Nat := [0, 0, 0, 0]
  freed : List Nat := [0, 0, 0, 0]
  /-- instant of the latest TIME message since RUN (R333) -/
  timeSent : Option Nat := none
  /-- what its lanes have received in training, by lane of the port -/
  train : List (Nat × TrainLane) := []
  /-- channel whose credits the next flit reports, and flits sent since RUN, or since training began -/
  cvc : Nat := 0
  sent : Nat := 0
  /-- the partial-sum record that goes out as it is formed -/
  sending : Option PsumOut := none
  /-- payloads of the message being assembled on each channel, first to latest -/
  part0 : List (BitVec 256) := []
  part1 : List (BitVec 256) := []
  part2 : List (BitVec 256) := []
  part3 : List (BitVec 256) := []
  /-- complete messages not yet handled: channel and payloads; and the tick at which each began -/
  inbox : List (Nat × List (BitVec 256)) := []
  deriving DecidableEq, Repr

/-- The always-on timekeeper (R328 to R330). -/
structure Keeper where
  /-- it is counting: the timebase stored at entry -/
  stored : Option (BitVec 64) := none
  /-- Tc per 65,536 keeper ticks of the last complete window since CLK changed -/
  ratio : Option Nat := none
  /-- its count cannot be restored -/
  lost : Bool := false
  /-- a start has begun since entry -/
  started : Bool := false
  deriving DecidableEq, Repr

/-- A record waiting for Rilyn's log (R439, R440, Table 19-6): KIND, source, REPEAT, timebase, time quality; its 40 bytes of
detail are Ouvari's and free. -/
structure LogRec where
  kind : Nat
  src : Nat
  repeats : Nat
  tb : BitVec 64
  qual : Nat
  deriving DecidableEq, Repr

/-- A mode transition in progress (R36): its target, whether it waits for the quads' shutdown orders (Table 1-9), and the instant it was
accepted. -/
structure Trans where
  target : Mode
  shutdown : Bool
  began : Nat
  deriving DecidableEq, Repr

/-- What a quad sequencer keeps beside SEQ.STAT_q (R214 to R219). -/
structure Quad where
  /-- instant at which the delay or the timeout of its state ends -/
  ends : Option Nat := none
  /-- a cause of FAULT seen and not yet acted on, and the instant of the entry (R218) -/
  seen : Option (Nat × Nat) := none
  /-- a shutdown request held for the end of T_DRAINOFF (Table 8-2) -/
  heldReq : Bool := false
  /-- instant of the latest shutdown request that took the quad out of DRAIN_SETTLE or READY (R218) -/
  leftAt : Option Nat := none
  deriving DecidableEq, Repr

/-- What a bias output keeps beside its registers (R221 to R226). -/
structure Bias where
  /-- codes queued, oldest first, at most 16 -/
  queue : List (BitVec 16) := []
  /-- phase accumulator of sine mode -/
  phase : BitVec 32 := 0
  /-- instant of the next update tick -/
  tick : Nat := 0
  /-- sine mode in force (a change of SINE takes effect at a tick) -/
  sine : Bool := false
  /-- end of a range change -/
  rangeEnd : Nat := 0
  /-- instant at which the code in force last changed -/
  since : Nat := 0
  /-- compared readings in a row outside TOL -/
  off : Nat := 0
  deriving DecidableEq, Repr

/-- An RFFE command (Table 8-6). -/
structure RffeCmd where
  op : BitVec 4
  usid : BitVec 4
  addr : BitVec 16
  data : Byte
  deriving DecidableEq, Repr

/-- A step-attenuator frame due at `at_` for path index `path` (R229). -/
structure RffeTimed where
  at_ : Nat
  path : Nat
  cmd : RffeCmd
  deriving DecidableEq, Repr

/-- A result in a read FIFO (RFFE.RD_q). -/
structure RffeRes where
  bad : Bool
  usid : BitVec 4
  addr : BitVec 16
  data : Byte
  deriving DecidableEq, Repr

/-- A frame on the bus: its command, the instants of its start and end; `timed` with the instant it was due. -/
structure RffeFrame where
  cmd : RffeCmd
  start : Nat
  stop : Nat
  due : Option Nat
  deriving DecidableEq, Repr

/-- An RFFE master (R228, R229). -/
structure Rffe where
  queue : List RffeCmd := []
  timed : List RffeTimed := []
  bus : Option RffeFrame := none
  fifo : List RffeRes := []
  /-- instant from which the bus has been idle; instant for which the latest timed frames were due, and whether they were late -/
  freeAt : Nat := 0
  lastDue : Option Nat := none
  late : Bool := false
  /-- queue and FIFO are emptied when the frame on the bus ends (R230) -/
  flush : Bool := false
  deriving DecidableEq, Repr

/-- A valid pair of a training acquisition (R179, R185): the observation in units of 2^-16, the reference x_p, and for each table in use its multiplicand
and envelope. -/
structure TrainPair where
  y : Int × Int
  x : Int × Int
  terms : List ((Int × Int) × Nat)
  deriving DecidableEq, Repr

/-- What a Dragonfly receiver keeps (R173 to R181): input switch (path, kind; none before the first move), the instant of
its latest move, its occupation, its image result, its training buffer. -/
structure Dfly where
  input : Option (Nat × Nat) := none
  movedAt : Nat := 0
  /-- its latest occupation by a burst of KIND 0 or 2: from and until these instants -/
  occFrom : Nat := 0
  occupied : Option Nat := none
  /-- intervals in which its LPLL was settling or calibrating, in model instants (R174) -/
  unlocked : List Run := []
  /-- an image calibration is in progress; the interval of the latest one -/
  imaging : Bool := false
  imgFrom : Nat := 0
  imgStop : Nat := 0
  /-- instant of the latest image result, and whether DFLY_IMGCAL_DUE has been raised for it (R177) -/
  imgAt : Option Nat := none
  imgTold : Bool := false
  /-- an image calibration runs when the LPLL next declares lock (R176) -/
  imgOnLock : Bool := true
  /-- the correction in force, complex taps in units of 2^-15, latest sample first (R176) -/
  taps : List (Int × Int) := []
  /-- training acquisition in the buffer: path index, its first Dragonfly sample and their number, the instant at which it is judged, ready for the
  solver, its valid pairs -/
  train : Option Nat := none
  trainFirst : Int := 0
  trainLen : Nat := 0
  pairs : List TrainPair := []
  trainAt : Option Nat := none
  ready : Bool := false
  readyAt : Nat := 0
  /-- the path's own swap applied during the acquisition (Table 6-2) -/
  swapped : Bool := false
  deriving DecidableEq, Repr

/-- The latest forward power of a path (R191), in 1/256 dB: when its capture ended and began, and its LEN. -/
structure FwdPower where
  power : Int
  ended : Nat
  began : Nat
  len : Nat
  deriving DecidableEq, Repr

/-- A job of the solver (R185, R186): the part-wide path, acquisitions accumulated, their valid pairs, whether its path's swap has applied since. -/
structure Job where
  path : Nat
  count : Nat := 0
  pairs : List TrainPair := []
  swapped : Bool := false
  deriving DecidableEq, Repr

/-- The step the solver is running (R187): its path, the tile and receiver of the acquisition, the instant it ends; and the
wait for a pending swap of the path before a table write, or the write, with the coefficients found. -/
inductive SolverStep where
  | accumulate (path tile rx stop : Nat)
  | solve (path stop : Nat)
  | await (path : Nat) (nmse : Int) (coefs : List Int)
  | write (path stop : Nat) (nmse : Int) (coefs : List Int)
  deriving DecidableEq, Repr

/-- A COEF_CMD in progress (R189): its path, OP, and the instant its write ends once it has begun. -/
structure CoefCmd where
  path : Nat
  op : Nat
  stop : Option Nat
  deriving DecidableEq, Repr

/-- A calibration burst (R201 to R203): kind, PMASK, effect instant, DUR, whether CAL_CMD started it, whether it runs, the
paths that record code 5. -/
structure Burst where
  kind : Nat
  pmask : BitVec 16
  at_ : Nat
  dur : Nat
  byCmd : Bool
  running : Bool := false
  hit : BitVec 16 := 0
  /-- the same, struck while the burst measured the receive direction -/
  hitRx : BitVec 16 := 0
  deriving DecidableEq, Repr

/-- What a tile's calibration keeps beside its registers (R201, R207, R208, R211): the burst at the port, bursts of CAL_CMD that wait for
their effect instant, paths with a good result since the last start and RF change, per kind, and the kinds with a stamp. -/
structure Cal where
  burst : Option Burst := none
  pend : List Burst := []
  txGood : BitVec 16 := 0
  rxGood : BitVec 16 := 0
  rcpGood : BitVec 16 := 0
  stamped : BitVec 3 := 0
  deriving DecidableEq, Repr

/-- A synthesiser beside its STATUS (R341, R342): windows passed in a row, the instant its state began, the time by which it
must have locked, and the tile temperature at its last band calibration. -/
structure Pll where
  passes : Nat := 0
  since : Nat := 0
  lockBy : Option Nat := none
  calTemp : Int := 0
  /-- RECAL_DUE has been raised since that calibration -/
  told : Bool := false
  deriving DecidableEq, Repr

/-- An alignment armed on a tile (R68, R348): its SRC, whether GLIDE_H issued it, and for SRC 1 and 2 the boundary it waits for, as a
timebase value. -/
structure Align where
  src : Nat
  hub : Bool
  at_ : Nat
  deriving DecidableEq, Repr

/-- A request in a buffer of a DRAM port (R365), within one channel: the channel, its address, bytes to write, whether it is a journal or index write, and
for a read how many bytes it reads. -/
structure DramReq where
  chan : Nat
  addr : Nat
  write : Bool
  bytes : List Byte
  journal : Bool := false
  len : Nat := 64
  deriving DecidableEq, Repr

/-- A DRAM port: requests buffered, requests that wait for room, credits left in the round robin (R365). -/
structure DramPort where
  queue : List DramReq := []
  waiting : List DramReq := []
  credit : Nat := 0
  deriving DecidableEq, Repr

/-- What a DRAM channel keeps beside DRAMC.STATUS (R367 to R376): the operation running (sweep or verify), whether the host commanded it, whether the
channel was FAILED before, when it began; the open rows as (bank, row, instant of the last use). -/
structure DramCh where
  sweep : Bool := false
  host : Bool := false
  failed : Bool := false
  began : Nat := 0
  rows : List (Nat × Nat × Nat) := []
  /-- open rows, as (bank, row), whose neighbours are refreshed when they close (R368); banks refreshed of the set under way (R369) -/
  owed : List (Nat × Nat) := []
  covered : List Nat := []
  /-- how often its contents have been lost (R373, R375, R376) -/
  losses : Nat := 0
  deriving DecidableEq, Repr

/-- A start in progress (R416): warm or cold as it was begun, whether it runs as a cold one (R419), and the instant it began. -/
structure Start where
  warm : Bool
  asCold : Bool
  began : Nat
  deriving DecidableEq, Repr

/-- The start calibration, step 8 (R425): the instant of completion, whether it holds the part in Calibrate, and the tiles with the
number of their bursts still to end. -/
structure StartCal where
  began : Nat
  running : Bool := false
  left : List (Nat × Nat) := []
  deriving DecidableEq, Repr

/-- Where a Rilyn command came from, and where its response goes (R432, R435, R436): the mailbox; an M-plane frame of a port, with its
source address, PART and SEQ; or a request relayed over Burog port k. -/
inductive Origin where
  | mailbox
  | frame (port : Nat) (src : List Byte) (part seq : Nat)
  | relayed (k : Nat) (src : List Byte) (port part seq : Nat)
  deriving DecidableEq, Repr

/-- A command for Rilyn (Table 19-2): OP, TAG, LEN, its parameter words, its bulk trailer, and the instant it arrived. -/
structure RilynCmd where
  origin : Origin
  op : Nat
  tag : Nat
  len : Nat
  params : List Word
  trailer : List Byte := []
  at_ : Nat := 0
  deriving DecidableEq, Repr

/-- The last M-plane command executed from a source address, and its response (R436). -/
structure MpDone where
  src : List Byte
  seq : Nat
  reply : List Byte
  /-- bytes of the reply that are the buffer's -/
  bulk : Nat := 0
  deriving DecidableEq, Repr

/-- A one-way delay measurement (R281, R434): t1 when the device's Request left, t2 and the compensation of the Response, each time as
seconds and nanoseconds; whether the Response has come. -/
structure DlyRes where
  t1 : Nat × Nat := (0, 0)
  t2 : Nat × Nat := (0, 0)
  comp : Nat := 0
  present : Bool := false
  deriving DecidableEq, Repr

/-- An image slot that holds a valid image (R441): its version and anti-rollback level. -/
structure Image where
  version : Word
  level : Nat
  deriving DecidableEq, Repr

/-- A stream through Scarab ports 0 and 1 (R444): chip select, direction, next byte address and bytes left. -/
structure Qspi where
  cs : Nat
  write : Bool
  addr : Nat
  left : Nat
  deriving DecidableEq, Repr

/-- A power domain that is leaving ON or changing state (R405, R409): the instant of window cycle 1, or none once the transition has begun;
the state it goes to; the instant its transition began; whether it began in RET. -/
structure DomMove where
  window : Option Nat
  target : Nat
  began : Nat
  fromRet : Bool := false
  deriving DecidableEq, Repr

/-- A thermal shutdown in progress (R458): the instant of its first step, and whether it is a critical one. -/
structure Shut where
  began : Nat
  crit : Bool
  deriving DecidableEq, Repr

/-- What a die's diode keeps (R451, R454, R456, R457): its conversions since power-up, newest first, at most 16; its records for the rate,
newest first; evaluations in a row that would mark it, and that would clear it. -/
structure Diode where
  conv : List Int := []
  recs : List Int := []
  marks : Nat := 0
  clears : Nat := 0
  deriving DecidableEq, Repr

/-- A completion record of Scarab (Table 16-6). -/
structure ScRec where
  kind : Nat
  code : Nat := 0
  withdrawn : Bool := false
  ecc : Bool := false
  lost : Bool := false
  acc : Bool := false
  index : Nat
  bytes : Nat := 0
  result : BitVec 64 := 0
  deriving DecidableEq, Repr

/-- A MOVE, MOVEX or SWAP in progress (R384 to R389): its words, effective source and destination addresses, bytes moved and
bytes written, when it began, the burst in progress with the bytes its peripheral still served when it withdrew, and what its record will show. -/
structure Xfer where
  words : List (BitVec 64)
  src : Nat
  dst : Nat
  len : Nat
  done : Nat := 0
  written : Nat := 0
  began : Nat := 0
  burst : Option Nat := none
  kept : Option Nat := none
  withdrawn : Bool := false
  ecc : Bool := false
  lost : Bool := false
  acc : Bool := false
  deriving DecidableEq, Repr

/-- A Scarab channel beside its registers (R381 to R393): its loops as (start, count, index), innermost first; the transfer; the WAIT word
and the instant of its timeout; a record due in RING_STALL, with the program index and the state that follow it. -/
structure Chan where
  loops : List (Nat × Nat × Nat) := []
  xfer : Option Xfer := none
  wait : Option (BitVec 64) := none
  waitEnd : Option Nat := none
  due : Option (ScRec × Nat × Nat) := none
  deriving DecidableEq, Repr

/-- The instruction of the test access port (R486). -/
inductive Tap where
  | idcode | bypass | sample | extest
  deriving DecidableEq, Repr

/-- What the part sends to the outside. -/
inductive Out where
  /-- an MSI message (R469) -/
  | msi (n : Nat)
  /-- an Ethernet frame that a port has finished sending (R240) -/
  | frame (port : Nat) (bytes : List Byte)
  /-- an IEEE 1588 frame with its ingress timestamp - seconds, nanoseconds, fraction - to Rilyn's PTP stack (R319, R320) -/
  | ptp (port : Nat) (time : Nat × Nat × Nat) (bytes : List Byte)
  /-- bytes of a DRAM read, to the user of port p (R365) -/
  | dramRead (p a : Nat) (bytes : List Byte)
  /-- a row next to a chosen one is activated and precharged on a DRAM channel (R368) -/
  | rowRefresh (channel bank row : Nat)
  /-- an RFFE frame of master 4 t + q (R228) -/
  | rffe (master : Nat) (cmd : RffeCmd)
  /-- a flit leaves a lane of Burog port k: header, payload, CRC (R285) -/
  | flit (k lane : Nat) (header : Word) (payload : BitVec 256) (crc : Word)
  /-- PPS_OUT or TSYNC_OUT rises at a timebase value and stays high for a number of Tc (R331, R332) -/
  | pulse (tsync : Bool) (at_ width : Nat)
  /-- a byte on the debug UART (R484) -/
  | uart (b : Byte)
  deriving DecidableEq, Repr


/-- Why the machine stops with a fault.  No command of this part ends in one: whatever a command meets is a next state. -/
inductive Fault where
  /-- Raised by no command; it is there so that the type is not empty (safe: nothing is proved of a stop that does not occur). -/
  | unused
  deriving DecidableEq, Repr

/-- Why a command has no meaning. -/
inductive Refusal where
  /-- Not modelled yet: raised by no command, since every row of the opcode table has its meaning (safe). -/
  | notModelled (mnemonic : String)
  deriving DecidableEq, Repr

/-- The state of the part, first to last group: timing, mode, Glide and the converter chains. -/
structure FrontState where
  /-- The commands that are waiting, first in, first out (the model's own). -/
  pending : List Instr := []
  /-- Tc ticks elapsed since reset (the model's own clock; log entry 4). -/
  now : Nat := 0
  /-- The 64-bit timebase (R316), in Tc. -/
  tb : BitVec 64 := 0
  /-- Number of the next free value (the model's own; log entry 3). -/
  free : Nat := 0
  /-- Data of the latest register read (the model's own: what the requester receives). -/
  reply : Word := 0
  /-- What the part has sent to the outside, oldest first (the model's own record). -/
  out : List Out := []
  /-- Every register of the 28-bit address space by device address (R7; the tables of Regs.lean); an unlisted one holds its reset value. -/
  regs : List (Nat × Word) := []
  /-- The operating mode (R30), shown in RILYN.MODE. -/
  mode : Mode := .boot
  /-- The mode transition in progress (R36). -/
  trans : Option Trans := none
  /-- A mailbox request for a mode, made during a transition and not yet judged (R36). -/
  asked : Option Mode := none
  /-- The mute of Quiet is in force: zeros to every DAC, PAEN pins low (R35). -/
  quietMute : Bool := false
  /-- The subframe boundary that ends the mute after Quiet (R35). -/
  resumeAt : Option Nat := none
  /-- The Glide processors: 0 GLIDE_H, 1 + t GLIDE_t (R40). -/
  glides : List (Nat × Glide) := []
  /-- The command FIFO of each tile, oldest first (R60). -/
  fifos : List (Nat × List Bundle) := []
  /-- Radio instructions applied whose effect instant has not come (R54). -/
  effects : List Effect := []
  /-- Transmit carriers by path and carrier: index 64 t + 4 i + c (R80 to R84). -/
  txCars : List (Nat × Carrier) := []
  /-- Receive carriers, indexed alike (R109 to R113). -/
  rxCars : List (Nat × Carrier) := []
  /-- Transmit side of each path: index 16 t + i (R85, R88). -/
  txPaths : List (Nat × TxPath) := []
  /-- Per tile: GAINCFG and whether the loop of Test was closed, as they stood until an instant, newest first (R116, R129). -/
  rxCtls : List (Nat × List (Nat × Word × Bool)) := []
  /-- Receive side of each path (R103, R115 to R122). -/
  rxPaths : List (Nat × RxPath) := []
  /-- Transmit symbols at the tiles: index (sym x 4 + c) x 4 + t (R76). -/
  txSyms : List (Nat × TxSymbol) := []
  /-- GPIO balls: the latest step-attenuator change covering each (R115). -/
  stepPins : List (Nat × StepPin) := []
  /-- Captures by tile and descriptor: index 16 t + d (R125). -/
  caps : List (Nat × Capture) := []
  /-- Capture SRAM, 4 MiB by byte address (R128); every start clears it (R360), so an unlisted byte is 0. -/
  capSram : List (Nat × Byte) := []
  /-- DRAM by 36-bit byte address (R362); a byte nothing has written since its contents were last lost is a free value (log entry 5). -/
  dram : List (Nat × Option Byte) := []
  /-- Weight store, 16 MiB by 32-bit word index: beam table, then page pool (R136). -/
  weights : List (Nat × Word) := []
  deriving DecidableEq, Repr

/-- The state of the part, first to last group: the beam engine, the stores and the fronthaul. -/
structure BeamState where
  /-- Beam-ID map (R136): the entry each defined ID names. -/
  beamMap : List (Nat × Option BeamSlot) := []
  /-- State of each beam-table entry (R138). -/
  entries : List (Nat × EntryState) := []
  /-- Label of each pool page (R136). -/
  pagesSt : List (Nat × PageState) := []
  /-- Timeline beams: index 32 D + layer (R55). -/
  tlBeams : List (Nat × BitVec 15) := []
  /-- Host beam command in progress: OP, ID, instant of its write (R143). -/
  beamCmd : Option (Nat × Nat × Nat) := none
  /-- Section-symbols held by Slalom and the combiner, in order of acceptance (R146 to R157). -/
  secs : List SecSym := []
  /-- The last committed version of each section (R152). -/
  lastCommits : List LastCommit := []
  /-- Instant at which the pipeline takes its next item (R146). -/
  pipeFree : Nat := 0
  /-- Downlink layer data in the symbol store: index ((sym x 4 + car) x 32 + layer) x 4096 + subcarrier (R262). -/
  layerData : List (Nat × Option Word) := []
  /-- Uplink path data at the hub: index ((sym x 4 + car) x 64 + path) x 4096 + subcarrier (R114). -/
  pathData : List (Nat × Option Word) := []
  /-- Delivered uplink symbols: index (sym x 4 + car) x 64 + path; the mark of R124. -/
  pathMarks : List (Nat × Option Bool) := []
  /-- Messages held in the symbol store (R264). -/
  held : List Held := []
  /-- Writes to the symbol store so far, and their number when it was last cleared (R360, R361). -/
  symWrites : Nat := 0
  symClear : Nat := 0
  /-- Fronthaul messages handed on by the MAC and not yet handled (R239). -/
  fhMsgs : List EcpriMsg := []
  /-- Commands of accepted type 2 messages that have not yet acted, in order (R265). -/
  ctrlCmds : List CtrlCmd := []
  /-- The message acting has been counted in LATE_CTRL_COUNT (R148). -/
  ctrlLate : Bool := false
  /-- Beam IDs whose definition the message acting has had rejected (R140, R269). -/
  ctrlRejected : List Nat := []
  /-- Section-symbols the message acting has described (R140). -/
  ctrlMine : List SecKey := []
  /-- SEQ_ID windows of received flows: index 32 CAR + LAYER, type 2 at 128 + CAR (R256). -/
  flows : List (Nat × Option Flow) := []
  /-- Frames of each sent flow since Configure, modulo 2^25 but never 0 once one is sent; the low 16 bits are SFSEQ of the next: index 32 CAR + LAYER, type 2 at
128 + CAR (R257, R277, R312). -/
  sfseqs : List (Nat × Nat) := []
  /-- Accepted resend requests, in order (R278). -/
  resends : List Resend := []
  /-- Next journal record number, 40 bits (R275). -/
  jrnNext : Nat := 0
  /-- Byte offset in the ring of the next record (R275). -/
  jrnHead : Nat := 0
  /-- Records the ring holds, oldest first (R275). -/
  jrnRecs : List JrnRec := []
  /-- MAC ports (R240). -/
  ports : List (Nat × Port) := []
  /-- Serial lanes (R242 to R250). -/
  lanes : List (Nat × Lane) := []
  /-- Records waiting for the log, at most 256 (R440). -/
  logQ : List LogRec := []
  /-- Per Hive source: instant of its latest log record and occurrences held back since (R440). -/
  loggedAts : List (Nat × Option (Nat × Nat)) := []
  /-- MSI is enabled in the PCIe capability (R469); DESIGN CHOICE at reset, log entry 6. -/
  msiOn : Bool := false
  /-- Vectors the host granted in the MSI capability (R469); DESIGN CHOICE at reset, log entry 6. -/
  msiGranted : Nat := 1
  /-- MSI vectors pending, as last judged (R469). -/
  msiPend : Word := 0
  /-- A thermal shutdown is in progress (R458). -/
  thermShut : Bool := false
  deriving DecidableEq, Repr

/-- The state of the part, first to last group: the front end, predistortion, calibration and DRAM. -/
structure TileState where
  /-- Quad sequencers: index 4 t + q (R214). -/
  quadsSt : List (Nat × Quad) := []
  /-- Bias outputs: index 16 t + i (R221). -/
  biases : List (Nat × Bias) := []
  /-- RFFE masters: index 4 t + q (R228). -/
  rffes : List (Nat × Rffe) := []
  /-- Dragonfly receivers: index 2 t + r (R172). -/
  dflies : List (Nat × Dfly) := []
  /-- Per tile and path, index 16 t + i: the latest forward power (R191). -/
  fwdPowers : List (Nat × Option FwdPower) := []
  /-- Per tile and path: return-loss results in a row below THRESH (R192). -/
  mmRuns : List (Nat × Nat) := []
  /-- Predistortion banks: index 4096 (16 t + i) + 2048 bank + word (R167). -/
  dpdTbl : List (Nat × Word) := []
  /-- Per path, index 16 t + i: which bank is the active one (R167, R169). -/
  dpdSels : List (Nat × Bool) := []
  /-- Per path, index 16 t + i: the swap boundary of an armed swap (R169). -/
  dpdSwapAts : List (Nat × Nat) := []
  /-- Solver coefficients: index 512 path + word, 480 words a path (R184, R189). -/
  coefs : List (Nat × Word) := []
  /-- Open jobs of the solver, at most 4, oldest first (R185). -/
  jobs : List Job := []
  /-- The step the solver is running (R187). -/
  solver : Option SolverStep := none
  /-- Calibration port of each tile (R199 to R211). -/
  cals : List (Nat × Cal) := []
  /-- Committed transmit RF word of each tile (R79). -/
  txRfs : List (Nat × BitVec 48) := []
  /-- Committed receive RF word of each tile (R104). -/
  rxRfs : List (Nat × BitVec 48) := []
  /-- Per tile: the model instant of t_A of the latest alignment, from which sample counts run (R81, R102). -/
  origins : List (Nat × Int) := []
  /-- The DRAM PLL is locked (Table 14-4); not locked at reset. -/
  dramLock : Bool := false
  /-- DRAM ports: 0 RT0, 1 RT1, 2 BULK0, 3 BULK1 (R365). -/
  dramPorts : List (Nat × DramPort) := []
  /-- DRAM channels (R371 to R376). -/
  dramChs : List (Nat × DramCh) := []
  /-- The port whose turn it is in the weighted round robin (R365). -/
  dramTurn : Nat := 0
  /-- Hub diode reading at the last sweep, in 1/16 degree C (R372); before the first, that of the first reading (log entry 48). -/
  dramSwept : Option Int := none
  /-- DRAM_RETRAIN_DUE has been raised since the last sweep (R372). -/
  dramDueTold : Bool := false
  /-- OLDEST of the journal (R313). -/
  jrnOldest : Nat := 0
  /-- The journal was active when last judged (FH_JRN_STAT.ACTIVE, R275). -/
  jrnOn : Bool := false
  /-- Per tile: the time, in units of 1 / 100,000 Tc, by which the capture SRAM has taken the granules accepted (R128). -/
  capBusys : List (Nat × Nat) := []
  /-- Per path, index 16 t + i: the converter corrections of the ADC in force, none as loaded from fuses (R195). -/
  adcCorrs : List (Nat × Option (List Int)) := []
  /-- Per path: the instant of the latest update of its ADC calibration (R195). -/
  adcAts : List (Nat × Nat) := []
  /-- The COEF_CMD in progress (R189). -/
  coefCmd : Option CoefCmd := none
  deriving DecidableEq, Repr

/-- The state of the part, first to last group: synthesisers, lanes, Burog, check values and time. -/
structure LinkState where
  /-- Synthesisers: 0 HPLL, 1 + t SPLL_t, 5 + 2 t + r LPLL_(2t + r) (R335). -/
  plls : List (Nat × Pll) := []
  /-- LPLL settings in force: INT x 2^24 + FRAC, index 2 t + r (R339, R344). -/
  lpllForces : List (Nat × BitVec 32) := []
  /-- HPLL input dividers in force, as REFx_DIV: index 0 REFCLKA, 1 REFCLKB (R344). -/
  refForces : List (Nat × Word) := []
  /-- Event an armed HPLL divider change waits for, and for EVT 2 its frame boundary (R344). -/
  hpllArm : Option (Nat × Nat) := none
  /-- Per tile: event an armed LPLL change waits for, and its boundary (R344). -/
  lpllArms : List (Nat × Option (Nat × Nat)) := []
  /-- Per tile: the alignment armed (R68). -/
  alignArms : List (Nat × Option Align) := []
  /-- SRC and TMASK of the latest ALIGN of GLIDE_H still to come (R353). -/
  hubAlign : Option (Nat × BitVec 4) := none
  /-- Per tile: the instant at which the alignment in progress ends (R348). -/
  aligning : List (Nat × Option Nat) := []
  /-- Per tile: t_A as TA_LO and TA_HI show it (R347). -/
  tas : List (Nat × BitVec 64) := []
  /-- Per tile: the high half captured by the latest read of TA_LO (R347). -/
  taHis : List (Nat × Word) := []
  /-- Downlink path data at the tiles: index ((sym x 4 + car) x 64 + path) x 4096 + subcarrier (R76, R134). -/
  txData : List (Nat × Option Word) := []
  /-- The eye-scan point in progress (R244). -/
  eye : Option EyeScan := none
  /-- Burog ports: 0 DN, 1 UP (R285 to R293). -/
  burogs : List (Nat × BPort) := []
  /-- Running value of each check-value unit (R302). -/
  cuRuns : List (Nat × BitVec 64) := []
  /-- Data of the latest write of RUN_LO of each unit (R305). -/
  cuLos : List (Nat × Word) := []
  /-- The servo integrator, exact, in units of 2^-19 / 1875 of 2^-32 (R324). -/
  integ : Int := 0
  /-- Accepted samples in a row within LOCK_THR, counted in the epoch (R325). -/
  goodRun : Nat := 0
  /-- Accepted samples in a row above LOCK_THR (R325). -/
  badRun : Nat := 0
  /-- Own quality, code of R326. -/
  ownQual : Nat := 0
  /-- QUAL of the latest TIME message of the epoch (R326). -/
  carried : Option Nat := none
  /-- The reference grandmaster of the epoch (R325). -/
  refMaster : Option (BitVec 64) := none
  /-- Instant at which the latest step of the epoch completed (R323). -/
  stepDone : Option Nat := none
  /-- Instant from which the loss of the current source is counted: its latest TIME message or PPS edge, or its selection (R321). -/
  srcAt : Nat := 0
  /-- Timestamp of the latest PPS_IN edge (R331). -/
  ppsTs : BitVec 64 := 0
  /-- Timestamp of the latest TSYNC_IN edge (R332). -/
  tsyncTs : BitVec 64 := 0
  /-- The timekeeper of the always-on domain (R328). -/
  keeper : Keeper := {}
  /-- Frames the ports have given to Rilyn and it has not yet looked at (R239, R435): port, instant, whole frame. -/
  mgmtIn : List EcpriMsg := []
  /-- One-way delay measurements by 256 port + measurement ID (R281, R434). -/
  dlyRess : List (Nat × DlyRes) := []
  deriving DecidableEq, Repr

/-- The state of the part, first to last group: starts and Rilyn. -/
structure StartState where
  /-- An automatic transition to Quiet has fallen due during a transition (R33, R36). -/
  autoQuiet : Bool := false
  /-- A start has been triggered and not yet begun: true warm, false cold (Table 1-9); a cold start is due at reset. -/
  startDue : Option Bool := some false
  /-- The start in progress (R416). -/
  starting : Option Start := none
  /-- A start has failed since the last completed start (R423). -/
  startFailed : Bool := false
  /-- IMAGE has changed to B since the last completed start (R423). -/
  fellBack : Bool := false
  /-- The start calibration (R425). -/
  startCal : Option StartCal := none
  /-- The part is in Standby after a thermal shutdown (R460). -/
  standbyHeld : Bool := false
  /-- Level of POR_N (R32). -/
  porHigh : Bool := true
  /-- Every main rail is valid (R399). -/
  railsIn : Bool := true
  /-- A start that RESTART has asked for, warm or cold, and the instant it begins (R434). -/
  restartAt : Option (Bool × Nat) := none
  /-- A lockstep disagreement caused the start in progress (R430). -/
  lockstepDue : Bool := false
  /-- GPIO_31 and GPIO_30 as POR_N last sampled them (R483); DESIGN CHOICE 0 at reset (pins unconnected). -/
  strap : BitVec 2 := 0
  /-- PCIE_PERST_N has been released (R479). -/
  pcieUp : Bool := false
  /-- M-plane commands that Rilyn holds, oldest first, at most 4 (R436). -/
  rilynQ : List RilynCmd := []
  /-- The mailbox command submitted and not yet taken (R432). -/
  mbxCmd : Option RilynCmd := none
  /-- The SET_MODE that Rilyn is running (R434, R437). -/
  rilynRun : Option RilynCmd := none
  /-- While the mailbox and the M-plane queue both hold commands: the latest was taken from the mailbox (R437). -/
  tookMbx : Option Bool := none
  /-- The last M-plane command executed from each source address (R436). -/
  mpDone : List MpDone := []
  /-- Relayed requests that wait for their trailer, by Burog port (R436). -/
  relayIn : List (Nat × List Byte) := []
  /-- The bulk buffer of Rilyn, by word (R433). -/
  bufWords : List (Nat × Word) := []
  /-- Flash by byte address, chip select 1 from 2^32 on; an erased byte is 0xFF (R438, R444). -/
  flash : List (Nat × Byte) := []
  /-- The start record (R417): none is held at reset, DESIGN CHOICE. -/
  record : Option (List (Nat × Word)) := none
  /-- The DRAM delay set in flash: the registers of the latest successful sweep of each channel (R371, R372); none is held at reset, DESIGN CHOICE. -/
  delaySet : List (Nat × Word) := []
  /-- Delays of a sweep that Rilyn has still to store there, as register addresses and values (R372, R413). -/
  delayDue : List (Nat × Word) := []
  /-- The image slot that the latest completed start ran from (R443). -/
  ranSlot : Option Nat := none
  /-- The image slot that holds image A (R442); DESIGN CHOICE 0 at reset. -/
  slotA : Nat := 0
  /-- Image slots 0 and 1 as far as an update has filled them (R441, R442). -/
  images : List (Nat × Option Image) := []
  /-- An update between IMG_BEGIN and its end: its length (R442). -/
  update : Option Nat := none
  /-- The fused anti-rollback level (R441); DESIGN CHOICE 0 at reset. -/
  fuseLevel : Nat := 0
  /-- Place in the log ring of the next record (R439). -/
  logPos : Nat := 0
  /-- The stream that QSPI_STREAM has started (R444). -/
  qspi : Option Qspi := none
  /-- PTP data set members: index 8 port + member (R434); DESIGN CHOICE 0 at reset. -/
  ptps : List (Nat × Word) := []
  /-- Events that the best master clock algorithm has judged (R320; the model's own: it names the port states, log entry 119). -/
  ptpEvents : Nat := 0
  deriving DecidableEq, Repr

/-- The state of the part, first to last group: housekeeping, power, Scarab and pins. -/
structure HouseState where
  /-- Offset and gain trims of the housekeeping ADCs by die, the gain in units of 2^-16, as loaded at the latest start (R198). -/
  hkTrims : List (Nat × Int × Int) := []
  /-- Bits that the device sets in the cycle of the write in progress (R12; the model's own, zero between commands). -/
  racing : Word := 0
  /-- Tiles for which an uncorrectable error strikes the next write over their link (R16). -/
  struck : BitVec 4 := 0
  /-- Housekeeping averages in progress: conversions and their sum, index 64 die + channel (R447). -/
  hkAccs : List (Nat × Nat × Int) := []
  /-- Instant of each latest housekeeping result, index 64 die + channel (R434). -/
  hkAts : List (Nat × Nat) := []
  /-- Temperature diodes, by die: 0 hub, 1 + t TILE_t (R451). -/
  diodes : List (Nat × Diode) := []
  /-- Updates in a row that meet a threshold: index 4 die + k (R453). -/
  thrRuns : List (Nat × Nat) := []
  /-- THERM_XCHK_AMBIGUOUS has been raised for the condition in force (R456). -/
  xAmbig : Bool := false
  /-- A thermal shutdown has begun since the latest completed start (R460). -/
  priorShut : Bool := false
  /-- The thermal shutdown in progress (R458). -/
  shut : Option Shut := none
  /-- Ageing monitors as last read: index 32 die + monitor (R461). -/
  mons : List (Nat × Word) := []
  /-- Stress factors by die: hourly sums in 1/65536 and counts, newest first (R462). -/
  stresses : List (Nat × List (Nat × Nat)) := []
  /-- Seconds of stress factors recorded since the start, up to 86,400 (R462). -/
  stressSecs : Nat := 0
  /-- Power domains that are leaving their state (R405, R409). -/
  domMoves : List (Nat × Option DomMove) := []
  /-- A request written to DOM_d during a transition, the latest (R405). -/
  domWaits : List (Nat × Option Nat) := []
  /-- Domains that a wake brings to ON once their parents are (R411). -/
  rising : List Nat := []
  /-- Levels at GATEOK_0 to GATEOK_15, past the 32 Tc of R213; DESIGN CHOICE low at reset. -/
  gatePins : BitVec 16 := 0
  /-- Levels of WAKE_0 to WAKE_3 as last seen (R408); DESIGN CHOICE low at reset. -/
  wakePins : BitVec 4 := 0
  /-- Instant of the next expiry of the always-on timer (R408). -/
  timerEnd : Option Nat := none
  /-- A supply dip in progress: the instant it began (R412). -/
  dip : Option Nat := none
  /-- Instant at which the freeze of the latest dip ends (R413). -/
  freezeEnd : Option Nat := none
  /-- Scarab program memory, 8,192 words (R379). -/
  pmem : List (Nat × BitVec 64) := []
  /-- Scarab channels (R381). -/
  chans : List (Nat × Chan) := []
  /-- Instant to which Scarab has moved what it was given (R383). -/
  scBusy : Nat := 0
  /-- Receive FIFO of the debug UART, oldest first (R484). -/
  uartRx : List Byte := []
  /-- Transmit FIFO of the debug UART, oldest first (R484). -/
  uartTx : List Byte := []
  /-- Instant at which the byte at its head began to be sent (R484). -/
  uartAt : Nat := 0
  /-- Instruction of the test access port (R486). -/
  tap : Tap := .idcode
  /-- The boundary register as last preloaded (R486). -/
  boundary : List Bool := []
  /-- The always-on domain has browned out since the last start (R402). -/
  borDue : Bool := false
  /-- No SPLL declares LOCKED before HPLL does, after a divider change (R345). -/
  spllBlocked : Bool := false
  /-- The build-out offset has exceeded BO_TOL since HPLL was last aligned (R352, R353). -/
  detLost : Bool := false
  /-- The alignment in progress restores DET when it completes (R353). -/
  detBack : Bool := false
  /-- Power domains that have been OFF since the last completed start (R419). -/
  wentOff : List Nat := []
  deriving DecidableEq, Repr

/-- The state of the part: all its groups. -/
structure State extends FrontState, BeamState, TileState, LinkState, StartState, HouseState where
  deriving DecidableEq, Repr

/-- The machine right after reset: POR_N released on valid supplies, the cold start beginning (mode Boot, R32), every register
at the value of its Reset column (R13), nothing listed in any memory or queue. -/
def State.reset : State := {}

end Sys2Proof.Machine
end

