-- ==== Sys2Proof/Machine/Arrays.lean ====
section
/-!
DEFINITION. Reading and changing one element of each array of the state.
-/
namespace Sys2Proof.Machine

def State.glide (s : State) (k : Nat) : Glide := sget (fun _ => {}) s.glides k
def State.setGlide (s : State) (k : Nat) (x : Glide) : State := { s with glides := sset (fun _ => {}) s.glides k x }
def State.modGlide (s : State) (k : Nat) (f : Glide → Glide) : State := s.setGlide k (f (s.glide k))

def State.fifo (s : State) (k : Nat) : List Bundle := sget (fun _ => []) s.fifos k
def State.setFifo (s : State) (k : Nat) (x : List Bundle) : State := { s with fifos := sset (fun _ => []) s.fifos k x }
def State.modFifo (s : State) (k : Nat) (f : List Bundle → List Bundle) : State := s.setFifo k (f (s.fifo k))

def State.txCar (s : State) (k : Nat) : Carrier := sget (fun _ => {}) s.txCars k
def State.setTxCar (s : State) (k : Nat) (x : Carrier) : State := { s with txCars := sset (fun _ => {}) s.txCars k x }
def State.modTxCar (s : State) (k : Nat) (f : Carrier → Carrier) : State := s.setTxCar k (f (s.txCar k))

def State.rxCar (s : State) (k : Nat) : Carrier := sget (fun _ => {}) s.rxCars k
def State.setRxCar (s : State) (k : Nat) (x : Carrier) : State := { s with rxCars := sset (fun _ => {}) s.rxCars k x }
def State.modRxCar (s : State) (k : Nat) (f : Carrier → Carrier) : State := s.setRxCar k (f (s.rxCar k))

def State.txPath (s : State) (k : Nat) : TxPath := sget (fun _ => {}) s.txPaths k
def State.setTxPath (s : State) (k : Nat) (x : TxPath) : State := { s with txPaths := sset (fun _ => {}) s.txPaths k x }
def State.modTxPath (s : State) (k : Nat) (f : TxPath → TxPath) : State := s.setTxPath k (f (s.txPath k))

def State.rxPath (s : State) (k : Nat) : RxPath := sget (fun _ => {}) s.rxPaths k
def State.setRxPath (s : State) (k : Nat) (x : RxPath) : State := { s with rxPaths := sset (fun _ => {}) s.rxPaths k x }
def State.modRxPath (s : State) (k : Nat) (f : RxPath → RxPath) : State := s.setRxPath k (f (s.rxPath k))

def State.rxCtl (s : State) (k : Nat) : List (Nat × Word × Bool) := sget (fun _ => []) s.rxCtls k
def State.setRxCtl (s : State) (k : Nat) (x : List (Nat × Word × Bool)) : State := { s with rxCtls := sset (fun _ => []) s.rxCtls k x }

def State.txSym (s : State) (k : Nat) : TxSymbol := sget (fun _ => {}) s.txSyms k
def State.setTxSym (s : State) (k : Nat) (x : TxSymbol) : State := { s with txSyms := sset (fun _ => {}) s.txSyms k x }
def State.modTxSym (s : State) (k : Nat) (f : TxSymbol → TxSymbol) : State := s.setTxSym k (f (s.txSym k))

def State.stepPin (s : State) (k : Nat) : StepPin := sget (fun _ => {}) s.stepPins k
def State.setStepPin (s : State) (k : Nat) (x : StepPin) : State := { s with stepPins := sset (fun _ => {}) s.stepPins k x }
def State.modStepPin (s : State) (k : Nat) (f : StepPin → StepPin) : State := s.setStepPin k (f (s.stepPin k))

def State.adcCorr (s : State) (k : Nat) : Option (List Int) := sget (fun _ => none) s.adcCorrs k
def State.setAdcCorr (s : State) (k : Nat) (x : Option (List Int)) : State := { s with adcCorrs := sset (fun _ => none) s.adcCorrs k x }

def State.adcAt (s : State) (k : Nat) : Nat := sget (fun _ => 0) s.adcAts k
def State.setAdcAt (s : State) (k : Nat) (x : Nat) : State := { s with adcAts := sset (fun _ => 0) s.adcAts k x }

def State.capBusy (s : State) (k : Nat) : Nat := sget (fun _ => 0) s.capBusys k
def State.setCapBusy (s : State) (k : Nat) (x : Nat) : State := { s with capBusys := sset (fun _ => 0) s.capBusys k x }

def State.cap (s : State) (k : Nat) : Capture := sget (fun _ => {}) s.caps k
def State.setCap (s : State) (k : Nat) (x : Capture) : State := { s with caps := sset (fun _ => {}) s.caps k x }
def State.modCap (s : State) (k : Nat) (f : Capture → Capture) : State := s.setCap k (f (s.cap k))

def State.capByte (s : State) (k : Nat) : Byte := sget (fun _ => 0) s.capSram k
def State.setCapByte (s : State) (k : Nat) (x : Byte) : State := { s with capSram := sset (fun _ => 0) s.capSram k x }
def State.modCapByte (s : State) (k : Nat) (f : Byte → Byte) : State := s.setCapByte k (f (s.capByte k))

def State.dramCell (s : State) (k : Nat) : Option Byte := sget (fun _ => none) s.dram k
def State.setDramCell (s : State) (k : Nat) (x : Option Byte) : State := { s with dram := sset (fun _ => none) s.dram k x }
def State.modDramCell (s : State) (k : Nat) (f : Option Byte → Option Byte) : State := s.setDramCell k (f (s.dramCell k))

def State.weight (s : State) (k : Nat) : Word := sget (fun _ => 0) s.weights k
def State.setWeight (s : State) (k : Nat) (x : Word) : State := { s with weights := sset (fun _ => 0) s.weights k x }
def State.modWeight (s : State) (k : Nat) (f : Word → Word) : State := s.setWeight k (f (s.weight k))

def State.beam (s : State) (k : Nat) : Option BeamSlot := sget (fun _ => none) s.beamMap k
def State.setBeam (s : State) (k : Nat) (x : Option BeamSlot) : State := { s with beamMap := sset (fun _ => none) s.beamMap k x }
def State.modBeam (s : State) (k : Nat) (f : Option BeamSlot → Option BeamSlot) : State := s.setBeam k (f (s.beam k))

def State.entry (s : State) (k : Nat) : EntryState := sget (fun _ => .free) s.entries k
def State.setEntry (s : State) (k : Nat) (x : EntryState) : State := { s with entries := sset (fun _ => .free) s.entries k x }
def State.modEntry (s : State) (k : Nat) (f : EntryState → EntryState) : State := s.setEntry k (f (s.entry k))

def State.page (s : State) (k : Nat) : PageState := sget (fun _ => .free) s.pagesSt k
def State.setPage (s : State) (k : Nat) (x : PageState) : State := { s with pagesSt := sset (fun _ => .free) s.pagesSt k x }
def State.modPage (s : State) (k : Nat) (f : PageState → PageState) : State := s.setPage k (f (s.page k))

def State.tlBeam (s : State) (k : Nat) : BitVec 15 := sget (fun _ => 0) s.tlBeams k
def State.setTlBeam (s : State) (k : Nat) (x : BitVec 15) : State := { s with tlBeams := sset (fun _ => 0) s.tlBeams k x }
def State.modTlBeam (s : State) (k : Nat) (f : BitVec 15 → BitVec 15) : State := s.setTlBeam k (f (s.tlBeam k))

def State.layerWord (s : State) (k : Nat) : Option Word := sget (fun _ => none) s.layerData k
def State.setLayerWord (s : State) (k : Nat) (x : Option Word) : State := { s with layerData := sset (fun _ => none) s.layerData k x }
def State.modLayerWord (s : State) (k : Nat) (f : Option Word → Option Word) : State := s.setLayerWord k (f (s.layerWord k))

def State.pathWord (s : State) (k : Nat) : Option Word := sget (fun _ => none) s.pathData k
def State.setPathWord (s : State) (k : Nat) (x : Option Word) : State := { s with pathData := sset (fun _ => none) s.pathData k x }
def State.modPathWord (s : State) (k : Nat) (f : Option Word → Option Word) : State := s.setPathWord k (f (s.pathWord k))

def State.pathMark (s : State) (k : Nat) : Option Bool := sget (fun _ => none) s.pathMarks k
def State.setPathMark (s : State) (k : Nat) (x : Option Bool) : State := { s with pathMarks := sset (fun _ => none) s.pathMarks k x }
def State.modPathMark (s : State) (k : Nat) (f : Option Bool → Option Bool) : State := s.setPathMark k (f (s.pathMark k))

def State.flow (s : State) (k : Nat) : Option Flow := sget (fun _ => none) s.flows k
def State.setFlow (s : State) (k : Nat) (x : Option Flow) : State := { s with flows := sset (fun _ => none) s.flows k x }
def State.modFlow (s : State) (k : Nat) (f : Option Flow → Option Flow) : State := s.setFlow k (f (s.flow k))

def State.sfseq (s : State) (k : Nat) : Nat := sget (fun _ => 0) s.sfseqs k
def State.setSfseq (s : State) (k : Nat) (x : Nat) : State := { s with sfseqs := sset (fun _ => 0) s.sfseqs k x }
def State.modSfseq (s : State) (k : Nat) (f : Nat → Nat) : State := s.setSfseq k (f (s.sfseq k))

def State.port (s : State) (k : Nat) : Port := sget (fun _ => {}) s.ports k
def State.setPort (s : State) (k : Nat) (x : Port) : State := { s with ports := sset (fun _ => {}) s.ports k x }
def State.modPort (s : State) (k : Nat) (f : Port → Port) : State := s.setPort k (f (s.port k))

def State.lane (s : State) (k : Nat) : Lane := sget (fun _ => {}) s.lanes k
def State.setLane (s : State) (k : Nat) (x : Lane) : State := { s with lanes := sset (fun _ => {}) s.lanes k x }
def State.modLane (s : State) (k : Nat) (f : Lane → Lane) : State := s.setLane k (f (s.lane k))

def State.loggedAt (s : State) (k : Nat) : Option (Nat × Nat) := sget (fun _ => none) s.loggedAts k
def State.setLoggedAt (s : State) (k : Nat) (x : Option (Nat × Nat)) : State := { s with loggedAts := sset (fun _ => none) s.loggedAts k x }
def State.modLoggedAt (s : State) (k : Nat) (f : Option (Nat × Nat) → Option (Nat × Nat)) : State := s.setLoggedAt k (f (s.loggedAt k))

def State.quad (s : State) (k : Nat) : Quad := sget (fun _ => {}) s.quadsSt k
def State.setQuad (s : State) (k : Nat) (x : Quad) : State := { s with quadsSt := sset (fun _ => {}) s.quadsSt k x }
def State.modQuad (s : State) (k : Nat) (f : Quad → Quad) : State := s.setQuad k (f (s.quad k))

def State.bias (s : State) (k : Nat) : Bias := sget (fun _ => {}) s.biases k
def State.setBias (s : State) (k : Nat) (x : Bias) : State := { s with biases := sset (fun _ => {}) s.biases k x }
def State.modBias (s : State) (k : Nat) (f : Bias → Bias) : State := s.setBias k (f (s.bias k))

def State.rffe (s : State) (k : Nat) : Rffe := sget (fun _ => {}) s.rffes k
def State.setRffe (s : State) (k : Nat) (x : Rffe) : State := { s with rffes := sset (fun _ => {}) s.rffes k x }
def State.modRffe (s : State) (k : Nat) (f : Rffe → Rffe) : State := s.setRffe k (f (s.rffe k))

def State.dfly (s : State) (k : Nat) : Dfly := sget (fun _ => {}) s.dflies k
def State.setDfly (s : State) (k : Nat) (x : Dfly) : State := { s with dflies := sset (fun _ => {}) s.dflies k x }
def State.modDfly (s : State) (k : Nat) (f : Dfly → Dfly) : State := s.setDfly k (f (s.dfly k))

def State.fwdPower (s : State) (k : Nat) : Option FwdPower := sget (fun _ => none) s.fwdPowers k
def State.setFwdPower (s : State) (k : Nat) (x : Option FwdPower) : State := { s with fwdPowers := sset (fun _ => none) s.fwdPowers k x }
def State.modFwdPower (s : State) (k : Nat) (f : Option FwdPower → Option FwdPower) : State := s.setFwdPower k (f (s.fwdPower k))

def State.mmRun (s : State) (k : Nat) : Nat := sget (fun _ => 0) s.mmRuns k
def State.setMmRun (s : State) (k : Nat) (x : Nat) : State := { s with mmRuns := sset (fun _ => 0) s.mmRuns k x }
def State.modMmRun (s : State) (k : Nat) (f : Nat → Nat) : State := s.setMmRun k (f (s.mmRun k))

def State.dpdEntry (s : State) (k : Nat) : Word := sget (fun _ => 0) s.dpdTbl k
def State.setDpdEntry (s : State) (k : Nat) (x : Word) : State := { s with dpdTbl := sset (fun _ => 0) s.dpdTbl k x }
def State.modDpdEntry (s : State) (k : Nat) (f : Word → Word) : State := s.setDpdEntry k (f (s.dpdEntry k))

def State.dpdSel (s : State) (k : Nat) : Bool := sget (fun _ => false) s.dpdSels k
def State.setDpdSel (s : State) (k : Nat) (x : Bool) : State := { s with dpdSels := sset (fun _ => false) s.dpdSels k x }
def State.modDpdSel (s : State) (k : Nat) (f : Bool → Bool) : State := s.setDpdSel k (f (s.dpdSel k))

def State.dpdSwapAt (s : State) (k : Nat) : Nat := sget (fun _ => 0) s.dpdSwapAts k
def State.setDpdSwapAt (s : State) (k : Nat) (x : Nat) : State := { s with dpdSwapAts := sset (fun _ => 0) s.dpdSwapAts k x }
def State.modDpdSwapAt (s : State) (k : Nat) (f : Nat → Nat) : State := s.setDpdSwapAt k (f (s.dpdSwapAt k))

def State.coef (s : State) (k : Nat) : Word := sget (fun _ => 0) s.coefs k
def State.setCoef (s : State) (k : Nat) (x : Word) : State := { s with coefs := sset (fun _ => 0) s.coefs k x }
def State.modCoef (s : State) (k : Nat) (f : Word → Word) : State := s.setCoef k (f (s.coef k))

def State.cal (s : State) (k : Nat) : Cal := sget (fun _ => {}) s.cals k
def State.setCal (s : State) (k : Nat) (x : Cal) : State := { s with cals := sset (fun _ => {}) s.cals k x }
def State.modCal (s : State) (k : Nat) (f : Cal → Cal) : State := s.setCal k (f (s.cal k))

def State.txRf (s : State) (k : Nat) : BitVec 48 := sget (fun _ => 0) s.txRfs k
def State.setTxRf (s : State) (k : Nat) (x : BitVec 48) : State := { s with txRfs := sset (fun _ => 0) s.txRfs k x }
def State.modTxRf (s : State) (k : Nat) (f : BitVec 48 → BitVec 48) : State := s.setTxRf k (f (s.txRf k))

def State.rxRf (s : State) (k : Nat) : BitVec 48 := sget (fun _ => 0) s.rxRfs k
def State.setRxRf (s : State) (k : Nat) (x : BitVec 48) : State := { s with rxRfs := sset (fun _ => 0) s.rxRfs k x }
def State.modRxRf (s : State) (k : Nat) (f : BitVec 48 → BitVec 48) : State := s.setRxRf k (f (s.rxRf k))

def State.origin (s : State) (k : Nat) : Int := sget (fun _ => 0) s.origins k
def State.setOrigin (s : State) (k : Nat) (x : Int) : State := { s with origins := sset (fun _ => 0) s.origins k x }
def State.modOrigin (s : State) (k : Nat) (f : Int → Int) : State := s.setOrigin k (f (s.origin k))

def State.dramPort (s : State) (k : Nat) : DramPort := sget (fun _ => {}) s.dramPorts k
def State.setDramPort (s : State) (k : Nat) (x : DramPort) : State := { s with dramPorts := sset (fun _ => {}) s.dramPorts k x }
def State.modDramPort (s : State) (k : Nat) (f : DramPort → DramPort) : State := s.setDramPort k (f (s.dramPort k))

def State.dramCh (s : State) (k : Nat) : DramCh := sget (fun _ => {}) s.dramChs k
def State.setDramCh (s : State) (k : Nat) (x : DramCh) : State := { s with dramChs := sset (fun _ => {}) s.dramChs k x }
def State.modDramCh (s : State) (k : Nat) (f : DramCh → DramCh) : State := s.setDramCh k (f (s.dramCh k))

def State.pll (s : State) (k : Nat) : Pll := sget (fun _ => {}) s.plls k
def State.setPll (s : State) (k : Nat) (x : Pll) : State := { s with plls := sset (fun _ => {}) s.plls k x }
def State.modPll (s : State) (k : Nat) (f : Pll → Pll) : State := s.setPll k (f (s.pll k))

def State.lpllForce (s : State) (k : Nat) : BitVec 32 := sget (fun _ => 0x41000000) s.lpllForces k
def State.setLpllForce (s : State) (k : Nat) (x : BitVec 32) : State := { s with lpllForces := sset (fun _ => 0x41000000) s.lpllForces k x }
def State.modLpllForce (s : State) (k : Nat) (f : BitVec 32 → BitVec 32) : State := s.setLpllForce k (f (s.lpllForce k))

def State.refForce (s : State) (k : Nat) : Word := sget (fun _ => 0x00010020) s.refForces k
def State.setRefForce (s : State) (k : Nat) (x : Word) : State := { s with refForces := sset (fun _ => 0x00010020) s.refForces k x }
def State.modRefForce (s : State) (k : Nat) (f : Word → Word) : State := s.setRefForce k (f (s.refForce k))

def State.lpllArm (s : State) (k : Nat) : Option (Nat × Nat) := sget (fun _ => none) s.lpllArms k
def State.setLpllArm (s : State) (k : Nat) (x : Option (Nat × Nat)) : State := { s with lpllArms := sset (fun _ => none) s.lpllArms k x }
def State.modLpllArm (s : State) (k : Nat) (f : Option (Nat × Nat) → Option (Nat × Nat)) : State := s.setLpllArm k (f (s.lpllArm k))

def State.alignArm (s : State) (k : Nat) : Option Align := sget (fun _ => none) s.alignArms k
def State.setAlignArm (s : State) (k : Nat) (x : Option Align) : State := { s with alignArms := sset (fun _ => none) s.alignArms k x }
def State.modAlignArm (s : State) (k : Nat) (f : Option Align → Option Align) : State := s.setAlignArm k (f (s.alignArm k))

def State.aligningTo (s : State) (k : Nat) : Option Nat := sget (fun _ => none) s.aligning k
def State.setAligningTo (s : State) (k : Nat) (x : Option Nat) : State := { s with aligning := sset (fun _ => none) s.aligning k x }
def State.modAligningTo (s : State) (k : Nat) (f : Option Nat → Option Nat) : State := s.setAligningTo k (f (s.aligningTo k))

def State.ta (s : State) (k : Nat) : BitVec 64 := sget (fun _ => 0) s.tas k
def State.setTa (s : State) (k : Nat) (x : BitVec 64) : State := { s with tas := sset (fun _ => 0) s.tas k x }
def State.modTa (s : State) (k : Nat) (f : BitVec 64 → BitVec 64) : State := s.setTa k (f (s.ta k))

def State.taHi (s : State) (k : Nat) : Word := sget (fun _ => 0) s.taHis k
def State.setTaHi (s : State) (k : Nat) (x : Word) : State := { s with taHis := sset (fun _ => 0) s.taHis k x }
def State.modTaHi (s : State) (k : Nat) (f : Word → Word) : State := s.setTaHi k (f (s.taHi k))

def State.txWord (s : State) (k : Nat) : Option Word := sget (fun _ => none) s.txData k
def State.setTxWord (s : State) (k : Nat) (x : Option Word) : State := { s with txData := sset (fun _ => none) s.txData k x }
def State.modTxWord (s : State) (k : Nat) (f : Option Word → Option Word) : State := s.setTxWord k (f (s.txWord k))

def State.burog (s : State) (k : Nat) : BPort := sget (fun _ => {}) s.burogs k
def State.setBurog (s : State) (k : Nat) (x : BPort) : State := { s with burogs := sset (fun _ => {}) s.burogs k x }
def State.modBurog (s : State) (k : Nat) (f : BPort → BPort) : State := s.setBurog k (f (s.burog k))

def State.cuRun (s : State) (k : Nat) : BitVec 64 := sget (fun _ => 0xFFFFFFFF) s.cuRuns k
def State.setCuRun (s : State) (k : Nat) (x : BitVec 64) : State := { s with cuRuns := sset (fun _ => 0xFFFFFFFF) s.cuRuns k x }
def State.modCuRun (s : State) (k : Nat) (f : BitVec 64 → BitVec 64) : State := s.setCuRun k (f (s.cuRun k))

def State.cuLo (s : State) (k : Nat) : Word := sget (fun _ => 0xFFFFFFFF) s.cuLos k
def State.setCuLo (s : State) (k : Nat) (x : Word) : State := { s with cuLos := sset (fun _ => 0xFFFFFFFF) s.cuLos k x }
def State.modCuLo (s : State) (k : Nat) (f : Word → Word) : State := s.setCuLo k (f (s.cuLo k))

def State.dlyRes (s : State) (k : Nat) : DlyRes := sget (fun _ => {}) s.dlyRess k
def State.setDlyRes (s : State) (k : Nat) (x : DlyRes) : State := { s with dlyRess := sset (fun _ => {}) s.dlyRess k x }
def State.modDlyRes (s : State) (k : Nat) (f : DlyRes → DlyRes) : State := s.setDlyRes k (f (s.dlyRes k))

def State.bufWord (s : State) (k : Nat) : Word := sget (fun _ => 0) s.bufWords k
def State.setBufWord (s : State) (k : Nat) (x : Word) : State := { s with bufWords := sset (fun _ => 0) s.bufWords k x }
def State.modBufWord (s : State) (k : Nat) (f : Word → Word) : State := s.setBufWord k (f (s.bufWord k))

def State.flashByte (s : State) (k : Nat) : Byte := sget (fun _ => 0xFF) s.flash k
def State.setFlashByte (s : State) (k : Nat) (x : Byte) : State := { s with flash := sset (fun _ => 0xFF) s.flash k x }
def State.modFlashByte (s : State) (k : Nat) (f : Byte → Byte) : State := s.setFlashByte k (f (s.flashByte k))

/-- Both slots hold an image at first, as flash is delivered (DESIGN CHOICE, log entry 2). -/
def firstImage : Option Image := some ⟨0, 0⟩
def State.image (s : State) (k : Nat) : Option Image := sget (fun _ => firstImage) s.images k
def State.setImage (s : State) (k : Nat) (x : Option Image) : State := { s with images := sset (fun _ => firstImage) s.images k x }
def State.modImage (s : State) (k : Nat) (f : Option Image → Option Image) : State := s.setImage k (f (s.image k))

def State.ptp (s : State) (k : Nat) : Word := sget (fun _ => 0) s.ptps k
def State.setPtp (s : State) (k : Nat) (x : Word) : State := { s with ptps := sset (fun _ => 0) s.ptps k x }
def State.modPtp (s : State) (k : Nat) (f : Word → Word) : State := s.setPtp k (f (s.ptp k))

def State.hkAcc (s : State) (k : Nat) : Nat × Int := sget (fun _ => (0, 0)) s.hkAccs k
def State.setHkAcc (s : State) (k : Nat) (x : Nat × Int) : State := { s with hkAccs := sset (fun _ => (0, 0)) s.hkAccs k x }
def State.modHkAcc (s : State) (k : Nat) (f : Nat × Int → Nat × Int) : State := s.setHkAcc k (f (s.hkAcc k))

def State.hkAt (s : State) (k : Nat) : Nat := sget (fun _ => 0) s.hkAts k
def State.setHkAt (s : State) (k : Nat) (x : Nat) : State := { s with hkAts := sset (fun _ => 0) s.hkAts k x }
def State.modHkAt (s : State) (k : Nat) (f : Nat → Nat) : State := s.setHkAt k (f (s.hkAt k))

def State.diode (s : State) (k : Nat) : Diode := sget (fun _ => {}) s.diodes k
def State.setDiode (s : State) (k : Nat) (x : Diode) : State := { s with diodes := sset (fun _ => {}) s.diodes k x }
def State.modDiode (s : State) (k : Nat) (f : Diode → Diode) : State := s.setDiode k (f (s.diode k))

def State.thrRun (s : State) (k : Nat) : Nat := sget (fun _ => 0) s.thrRuns k
def State.setThrRun (s : State) (k : Nat) (x : Nat) : State := { s with thrRuns := sset (fun _ => 0) s.thrRuns k x }
def State.modThrRun (s : State) (k : Nat) (f : Nat → Nat) : State := s.setThrRun k (f (s.thrRun k))

def State.mon (s : State) (k : Nat) : Word := sget (fun _ => 0) s.mons k
def State.setMon (s : State) (k : Nat) (x : Word) : State := { s with mons := sset (fun _ => 0) s.mons k x }
def State.modMon (s : State) (k : Nat) (f : Word → Word) : State := s.setMon k (f (s.mon k))

def State.stress (s : State) (k : Nat) : List (Nat × Nat) := sget (fun _ => []) s.stresses k
def State.setStress (s : State) (k : Nat) (x : List (Nat × Nat)) : State := { s with stresses := sset (fun _ => []) s.stresses k x }
def State.modStress (s : State) (k : Nat) (f : List (Nat × Nat) → List (Nat × Nat)) : State := s.setStress k (f (s.stress k))

def State.domMove (s : State) (k : Nat) : Option DomMove := sget (fun _ => none) s.domMoves k
def State.setDomMove (s : State) (k : Nat) (x : Option DomMove) : State := { s with domMoves := sset (fun _ => none) s.domMoves k x }
def State.modDomMove (s : State) (k : Nat) (f : Option DomMove → Option DomMove) : State := s.setDomMove k (f (s.domMove k))

def State.domWait (s : State) (k : Nat) : Option Nat := sget (fun _ => none) s.domWaits k
def State.setDomWait (s : State) (k : Nat) (x : Option Nat) : State := { s with domWaits := sset (fun _ => none) s.domWaits k x }
def State.modDomWait (s : State) (k : Nat) (f : Option Nat → Option Nat) : State := s.setDomWait k (f (s.domWait k))

def State.pmemWord (s : State) (k : Nat) : BitVec 64 := sget (fun _ => 0) s.pmem k
def State.setPmemWord (s : State) (k : Nat) (x : BitVec 64) : State := { s with pmem := sset (fun _ => 0) s.pmem k x }
def State.modPmemWord (s : State) (k : Nat) (f : BitVec 64 → BitVec 64) : State := s.setPmemWord k (f (s.pmemWord k))

def State.scChan (s : State) (k : Nat) : Chan := sget (fun _ => {}) s.chans k
def State.setScChan (s : State) (k : Nat) (x : Chan) : State := { s with chans := sset (fun _ => {}) s.chans k x }
def State.modScChan (s : State) (k : Nat) (f : Chan → Chan) : State := s.setScChan k (f (s.scChan k))

end Sys2Proof.Machine
end

