-- ==== Sys2Proof/Machine/Ops.lean ====
section
/-!
DEFINITION. The named operations on the state that every family uses: registers and their fields, the clock, free values,
and the record of what the part sends.
-/
namespace Sys2Proof.Machine

/-- The register at a device address: the value written or set last, else its reset value. -/
def State.reg (s : State) (a : Nat) : Word := sget resetWord s.regs a

def State.setReg (s : State) (a : Nat) (w : Word) : State := { s with regs := sset resetWord s.regs a w }

/-- A field of a register, and that field as a Bool. -/
def State.fld (s : State) (a : Nat) (f : Fld) : Nat := getF (s.reg a) f
def State.bit (s : State) (a : Nat) (f : Fld) : Bool := bitF (s.reg a) f

/-- One bit of a register field that is a mask. -/
def State.maskBit (s : State) (a : Nat) (f : Fld) (i : Nat) : Bool := (s.fld a f).testBit i

def State.setFld (s : State) (a : Nat) (f : Fld) (v : Nat) : State := s.setReg a (putF (s.reg a) f v)
def State.setBit (s : State) (a : Nat) (f : Fld) (b : Bool) : State := s.setFld a f (b2n b)

/-- One bit of a mask field changed. -/
def State.setMaskBit (s : State) (a : Nat) (f : Fld) (i : Nat) (b : Bool) : State :=
  s.setFld a ⟨f.lo + i, 1⟩ (b2n b)

/-- Conditional change. -/
def State.when (s : State) (c : Bool) (f : State → State) : State := if c then f s else s

/-- A change for each element of a list, in order. -/
def State.each {α : Type} (s : State) (l : List α) (f : State → α → State) : State := l.foldl f s

/-- Something leaves the part. -/
def State.emit (s : State) (o : Out) : State := { s with out := s.out ++ [o] }

/-- The free value at hand, and the state that goes on to the next one (log entry 3). -/
def State.freeNow (s : State) : BitVec 64 := Config.freeValue s.free
def State.useFree (s : State) : State := { s with free := s.free + 1 }

/-- Microseconds in Tc: 1 µs is 1,966.08 ticks (R5), rounded up to a whole tick. -/
def usTc (n : Nat) : Nat := (n * 196608 + 99) / 100

/-- Nanoseconds in Tc, rounded up. -/
def nsTc (n : Nat) : Nat := (n * 196608 + 99999) / 100000

/-- The clock moves on to instant `t` if that is still to come; the timebase runs with it outside Standby (R37) while its domain
is on (R403). -/
def State.tbRuns (s : State) : Bool :=
  (s.mode != .standby) && (s.fld (Reg.PMU_DOM 1) F.PMU_DOM_STATE == 2)

def State.advance (s : State) (t : Nat) : State :=
  if s.now < t then
    { s with now := t, tb := if s.tbRuns then s.tb + BitVec.ofNat 64 (t - s.now) else s.tb }
  else s

/-- The clock moves on until the timebase shows `t`, if that is still to come. -/
def State.advanceTb (s : State) (t : Nat) : State :=
  if s.tb.toNat < t then s.advance (s.now + (t - s.tb.toNat)) else s

/-- The model instant at which the timebase, run without a step, shows or showed `t`. -/
def State.instantOf (s : State) (t : Nat) : Nat :=
  if s.tb.toNat ≤ t then s.now + (t - s.tb.toNat) else s.now - (s.tb.toNat - t)

/-- The timebase value at a model instant, were there no step (R57). -/
def State.tbAt (s : State) (t : Nat) : Nat := if s.now ≤ t then s.tb.toNat + (t - s.now) else s.tb.toNat - (s.now - t)

/-- The next timebase value that is a multiple of `period` and lies at least `after` ticks on. -/
def State.nextMultiple (s : State) (period after : Nat) : Nat :=
  (s.tb.toNat + after + period - 1) / period * period

/-- A subframe and a radio frame in Tc (Table 0-4). -/
def subframeTc : Nat := 1966080
def frameTc : Nat := 19660800

/-- The first subframe boundary that falls at least 4,096 Tc ahead (R88). -/
def State.trimBoundary (s : State) : Nat := s.nextMultiple subframeTc 4096

/-- A written word with the fields that saturate held to their ranges: the shadow delays (R86, R103), EYE_CTRL (Table 9-10), MAX_FRAME
(Table 9-14) and the rate of RH_CFG (Table 15-7). -/
def saturated (a : Nat) (w : Word) : Word :=
  let b := blockOf a
  let off := offOf a
  if (b = 0x18 ∨ b = 0x19) ∧ 0x100 ≤ off ∧ off < 0x140 then
    putF w F.TXCH_DELAY_DELAY (unsigned 13 (clampI (-2048) 2048 (signed 13 w.toNat)))
  else if b = 0x03 ∧ 0x100 ≤ off ∧ off < 0x300 ∧ off % 0x40 = 0 then
    putF w F.MAC_PCFG_MAX_FRAME (clampN 64 9216 (getF w F.MAC_PCFG_MAX_FRAME))
  else if a = Reg.LANEQ_EYE_CTRL then
    putF (putF w F.LANEQ_EYE_CTRL_DWELL_LOG2 (clampN 16 36 (getF w F.LANEQ_EYE_CTRL_DWELL_LOG2))) F.LANEQ_EYE_CTRL_PHASE
      (unsigned 8 (clampI (-32) 31 (signed 8 (getF w F.LANEQ_EYE_CTRL_PHASE))))
  else if a = Reg.DRAMC_RH_CFG then putF w F.DRAMC_RH_CFG_K (clampN 4 16 (getF w F.DRAMC_RH_CFG_K))
  else w

/-- A write during whose cycle the device sets the bits `raced` (R12): their occurrences come before it in the queue. -/
def State.withRace (s : State) (raced : Word) (f : State → State) : State := { f { s with racing := raced } with racing := s.racing }

/-- A register write without side effects: RW bits take the data, RW1C bits written 1 clear but those that the device sets in the same cycle (R12), the
rest stay (R11). -/
def State.plainWrite (s : State) (a : Nat) (w : Word) : State :=
  match regAt a with
  | some r =>
    let rw := BitVec.ofNat 32 r.rw
    let w := saturated a w
    s.setReg a (((s.reg a &&& ~~~ rw) ||| (w &&& rw)) &&& ~~~ (w &&& ~~~ s.racing &&& BitVec.ofNat 32 r.w1c))
  | none => s

/-- A processor runs only in these modes (R45). -/
def Mode.runsGlide : Mode → Bool
  | .calibrate | .onAir | .quiet | .test => true
  | _ => false

/-- The mode code of Table 1-8. -/
def Mode.code : Mode → Nat
  | .standby => 0 | .boot => 1 | .recovery => 2 | .configure => 3
  | .calibrate => 4 | .onAir => 5 | .quiet => 6 | .test => 7

def Mode.ofCode (n : Nat) : Mode :=
  match n % 8 with
  | 0 => .standby | 1 => .boot | 2 => .recovery | 3 => .configure
  | 4 => .calibrate | 5 => .onAir | 6 => .quiet | _ => .test

/-- A power domain is ON (DOM_d.STATE, Table 17-13). -/
def State.domOn (s : State) (d : Nat) : Bool := s.fld (Reg.PMU_DOM d) F.PMU_DOM_STATE == 2

/-- Every tile number, path index, carrier index. -/
def tiles : List Nat := [0, 1, 2, 3]
def paths : List Nat := List.range 16
def cars : List Nat := [0, 1, 2, 3]
def quads : List Nat := [0, 1, 2, 3]

/-- Index of a carrier of a path of a tile in the carrier arrays. -/
def carKey (t i c : Nat) : Nat := 64 * t + 4 * i + c
/-- Index of a path of a tile (the path's number P_nn, R19). -/
def pathKey (t i : Nat) : Nat := 16 * t + i

end Sys2Proof.Machine
end

