-- ==== Sys2Proof/Machine/Flags.lean ====
section
/-!
DEFINITION. Hive: the event sources, status bits, routes and deliveries (R465 to R470), and the saturating counters (R471).
-/
namespace Sys2Proof.Machine

/-! Hive source numbers (R465; Tables 21-1 and 21-2); t is the tile. -/
namespace Ev
@[reducible] def REG_ACCESS_ERROR : Nat := 0
@[reducible] def MODE_CHANGE : Nat := 1
@[reducible] def D2D_UNCORRECTABLE : Nat := 2
@[reducible] def COUNTER_SATURATED : Nat := 3
@[reducible] def GLIDE_LATE_H : Nat := 4
@[reducible] def GLIDE_FAULT_H : Nat := 5
@[reducible] def GLIDE_SIG_H : Nat := 6
@[reducible] def GLIDE_FIFO_FULL : Nat := 7
@[reducible] def BEAM_TABLE_FULL : Nat := 8
@[reducible] def SLALOM_CTRL_REJECTED : Nat := 9
@[reducible] def SLALOM_UNKNOWN_BEAM : Nat := 10
@[reducible] def SLALOM_LATE_CONTROL : Nat := 11
@[reducible] def SLALOM_FALLBACK : Nat := 12
@[reducible] def SLALOM_POOL_EXHAUSTED : Nat := 13
@[reducible] def SLALOM_DISPATCH_LATE : Nat := 14
@[reducible] def SLALOM_REPLAY : Nat := 15
@[reducible] def SLALOM_ENTRY_LOST : Nat := 16
@[reducible] def CASCADE_PSUM_LATE : Nat := 17
@[reducible] def DPD_JOB_DONE : Nat := 18
@[reducible] def DPD_UPDATE_READY : Nat := 19
@[reducible] def MAC_PORT_INVALID : Nat := 20
@[reducible] def MAC_LINK_UP : Nat := 21
@[reducible] def MAC_LINK_DOWN : Nat := 22
@[reducible] def LANE_FOM_LOW : Nat := 23
@[reducible] def EYESCAN_DONE : Nat := 24
@[reducible] def LANE_ADAPT_FALLBACK : Nat := 25
@[reducible] def FH_RX_ERROR : Nat := 26
@[reducible] def FH_DL_LATE : Nat := 27
@[reducible] def FH_STORE_FULL : Nat := 28
@[reducible] def FH_GONE : Nat := 29
@[reducible] def FH_JRN_DROP : Nat := 30
@[reducible] def BUROG_CFG_INVALID : Nat := 31
@[reducible] def BUROG_LINK_UP : Nat := 32
@[reducible] def BUROG_LINK_DOWN : Nat := 33
@[reducible] def BUROG_TRAIN_REFUSED : Nat := 34
@[reducible] def PART_ID_EXHAUSTED : Nat := 35
@[reducible] def BUROG_ID_CONFLICT : Nat := 36
@[reducible] def CHK_MISMATCH : Nat := 37
@[reducible] def TIME_STEP : Nat := 38
@[reducible] def TIME_JUMP_REFUSED : Nat := 39
@[reducible] def TIME_RATE_LIMIT : Nat := 40
@[reducible] def TIME_SOURCE_LOST : Nat := 41
@[reducible] def TIME_MASTER_CHANGE : Nat := 42
@[reducible] def TIME_QUAL_CHANGE : Nat := 43
@[reducible] def TIME_PPS_IN : Nat := 44
@[reducible] def HPLL_REF_SWITCH : Nat := 45
@[reducible] def HPLL_COAST : Nat := 46
@[reducible] def HPLL_COAST_LIMIT : Nat := 47
@[reducible] def HPLL_BUILDOUT : Nat := 48
@[reducible] def DRAM_PLL_UNLOCK : Nat := 49
@[reducible] def STORE_UNCORRECTABLE : Nat := 50
@[reducible] def DRAM_ACCESS_ERROR : Nat := 51
@[reducible] def CAPT_REDIRECTED : Nat := 52
@[reducible] def DRAM_PANIC : Nat := 53
@[reducible] def DRAM_REFRESH_FORCED : Nat := 54
@[reducible] def DRAM_TRAIN_DONE : Nat := 55
@[reducible] def DRAM_RETRAIN_DUE : Nat := 56
@[reducible] def DRAM_CHANNEL_FAILED : Nat := 57
@[reducible] def SCARAB_SIGNAL : Nat := 58
@[reducible] def SCARAB_RECORD : Nat := 59
@[reducible] def SCARAB_RING_FULL : Nat := 60
@[reducible] def SCARAB_ERROR : Nat := 61
@[reducible] def AON_BROWNOUT : Nat := 62
@[reducible] def PMU_REQ_REFUSED : Nat := 63
@[reducible] def WAKE_LOST : Nat := 64
@[reducible] def PMU_WAKE : Nat := 65
@[reducible] def SUPPLY_WARN : Nat := 66
@[reducible] def START_DONE : Nat := 67
@[reducible] def START_FAILED : Nat := 68
@[reducible] def IMAGE_FALLBACK : Nat := 69
@[reducible] def START_RECOVERY : Nat := 70
@[reducible] def START_CAL_DONE : Nat := 71
@[reducible] def RILYN_LOCKSTEP : Nat := 72
@[reducible] def RILYN_MBX_DONE : Nat := 73
@[reducible] def MPLANE_DROP : Nat := 74
@[reducible] def LOG_WRAP : Nat := 75
@[reducible] def THERM_THRESH_UP : Nat := 76
@[reducible] def THERM_THRESH_DOWN : Nat := 77
@[reducible] def THERM_RATE : Nat := 78
@[reducible] def THERM_SUSPECT : Nat := 79
@[reducible] def THERM_XCHK_AMBIGUOUS : Nat := 80
@[reducible] def THERM_SHUTDOWN : Nat := 81
@[reducible] def THERM_PRIOR_SHUTDOWN : Nat := 82
@[reducible] def CICADA_LIFE : Nat := 83
@[reducible] def CAL_DUE : Nat := 84
@[reducible] def DFLY_IMGCAL_DUE : Nat := 85
@[reducible] def SPLL_RECAL_DUE : Nat := 86
@[reducible] def LPLL_RANGE : Nat := 87
@[reducible] def GLIDE_LATE_T (t : Nat) : Nat := 96 + 40 * t
@[reducible] def GLIDE_FAULT_T (t : Nat) : Nat := 97 + 40 * t
@[reducible] def GLIDE_SIG_T (t : Nat) : Nat := 98 + 40 * t
@[reducible] def ALIGN_DONE (t : Nat) : Nat := 99 + 40 * t
@[reducible] def ALIGN_FAIL (t : Nat) : Nat := 100 + 40 * t
@[reducible] def CALB_REFUSED (t : Nat) : Nat := 101 + 40 * t
@[reducible] def D2D_LINK_DOWN (t : Nat) : Nat := 102 + 40 * t
@[reducible] def TX_DATA_LATE (t : Nat) : Nat := 103 + 40 * t
@[reducible] def TX_CLIP (t : Nat) : Nat := 104 + 40 * t
@[reducible] def TX_CARRIER_INVALID (t : Nat) : Nat := 105 + 40 * t
@[reducible] def TX_REFUSED_UNLOCKED (t : Nat) : Nat := 106 + 40 * t
@[reducible] def RX_CLIP (t : Nat) : Nat := 107 + 40 * t
@[reducible] def RX_CARRIER_INVALID (t : Nat) : Nat := 108 + 40 * t
@[reducible] def RX_GAIN_CP_OVERRUN (t : Nat) : Nat := 109 + 40 * t
@[reducible] def RX_OVERLOAD (t : Nat) : Nat := 110 + 40 * t
@[reducible] def CAPT_DONE (t : Nat) : Nat := 111 + 40 * t
@[reducible] def CAPT_OVERRUN (t : Nat) : Nat := 112 + 40 * t
@[reducible] def DPD_ACQ_REJECTED (t : Nat) : Nat := 113 + 40 * t
@[reducible] def DFLY_CONFLICT (t : Nat) : Nat := 114 + 40 * t
@[reducible] def DFLY_IMGCAL_FAIL (t : Nat) : Nat := 115 + 40 * t
@[reducible] def DFLY_MISMATCH (t : Nat) : Nat := 116 + 40 * t
@[reducible] def CONV_LOST (t : Nat) : Nat := 117 + 40 * t
@[reducible] def CAL_DONE (t : Nat) : Nat := 118 + 40 * t
@[reducible] def CAL_PATH_FAIL (t : Nat) : Nat := 119 + 40 * t
@[reducible] def SEQ_READY (t : Nat) : Nat := 120 + 40 * t
@[reducible] def SEQ_OFF (t : Nat) : Nat := 121 + 40 * t
@[reducible] def SEQ_REQ_REFUSED (t : Nat) : Nat := 122 + 40 * t
@[reducible] def PAEN_REFUSED (t : Nat) : Nat := 123 + 40 * t
@[reducible] def SEQ_FAULT (t : Nat) : Nat := 124 + 40 * t
@[reducible] def SEQ_BIAS_LOCKED (t : Nat) : Nat := 125 + 40 * t
@[reducible] def BIAS_QUEUE_FULL (t : Nat) : Nat := 126 + 40 * t
@[reducible] def BIAS_MISMATCH (t : Nat) : Nat := 127 + 40 * t
@[reducible] def RFFE_QUEUE_FULL (t : Nat) : Nat := 128 + 40 * t
@[reducible] def RFFE_PARITY (t : Nat) : Nat := 129 + 40 * t
@[reducible] def RFFE_STEP_DELAYED (t : Nat) : Nat := 130 + 40 * t
@[reducible] def SPLL_LOCK_FAIL (t : Nat) : Nat := 131 + 40 * t
@[reducible] def SPLL_COAST (t : Nat) : Nat := 132 + 40 * t
@[reducible] def SPLL_COAST_LIMIT (t : Nat) : Nat := 133 + 40 * t
@[reducible] def LPLL_LOCK_FAIL (t : Nat) : Nat := 134 + 40 * t
@[reducible] def LPLL_COAST (t : Nat) : Nat := 135 + 40 * t
/-- GLIDE_LATE, GLIDE_FAULT and GLIDE_SIG of processor p (0 GLIDE_H, 1 + t GLIDE_t). -/
def GLIDE_LATE (p : Nat) : Nat := if p = 0 then GLIDE_LATE_H else GLIDE_LATE_T (p - 1)
def GLIDE_FAULT (p : Nat) : Nat := if p = 0 then GLIDE_FAULT_H else GLIDE_FAULT_T (p - 1)
def GLIDE_SIG (p : Nat) : Nat := if p = 0 then GLIDE_SIG_H else GLIDE_SIG_T (p - 1)
end Ev

/-- The sources of Table 21-3: those with a level condition, by index (tile sources by k). -/
def hubLevelSources : List Nat :=
  [Ev.MAC_LINK_DOWN, Ev.BUROG_LINK_DOWN, Ev.LANE_FOM_LOW, Ev.TIME_JUMP_REFUSED, Ev.HPLL_COAST, Ev.DRAM_PANIC,
   Ev.DRAM_CHANNEL_FAILED, Ev.DRAM_RETRAIN_DUE, Ev.SUPPLY_WARN, Ev.THERM_THRESH_UP, Ev.THERM_RATE, Ev.THERM_SUSPECT,
   Ev.CAL_DUE, Ev.DFLY_IMGCAL_DUE, Ev.SPLL_RECAL_DUE]
def tileLevelSources : List Nat := [6, 9, 12, 20, 28, 31, 36, 39]

/-- Has the source a condition in Table 21-3? -/
def hasLevel (src : Nat) : Bool :=
  if src < 96 then hubLevelSources.contains src else tileLevelSources.contains ((src - 96) % 40)

/-- Code of COASTING in the synthesisers' STATE fields (Table 14-3). -/
def coasting : Nat := 4

/-- The Burog port k exists: its lane number in BUROG.CFG is 1 to 4 (R283); port 0 is DN, port 1 UP. -/
def State.burogExists (s : State) (k : Nat) : Bool :=
  let n := s.fld Reg.BUROG_CFG (if k = 0 then F.BUROG_CFG_DN_NUM else F.BUROG_CFG_UP_NUM)
  (1 ≤ n) && (n ≤ 4) && !s.bit Reg.BUROG_STATUS F.BUROG_STATUS_CFG_INVALID

/-- A tile's sources, but D2D_LINK_DOWN, do not assert while its TILE_n domain is not ON or its hub link is down (R466). -/
def State.mayAssert (s : State) (src : Nat) : Bool :=
  if src < 96 then src < 88
  else
    let t := (src - 96) / 40
    (src < 256) && ((src - 96) % 40 == 6 || (s.domOn (10 + t) && !s.bit (Reg.TXCH_STATUS t) F.TXCH_STATUS_MUTE_LINK))

/-- The condition of Table 21-3 of a source holds; that of a tile's source while it may assert (R466). -/
def State.levelCond (s : State) (src : Nat) : Bool :=
  if src = Ev.MAC_LINK_DOWN then
    (List.range 8).any fun p => s.bit (Reg.MAC_PCFG p) F.MAC_PCFG_EN && !s.bit (Reg.MAC_PSTAT p) F.MAC_PSTAT_LINK
  else if src = Ev.BUROG_LINK_DOWN then
    [0, 1].any fun k => s.burogExists k && s.fld (Reg.BUROG_PSTAT k) F.BUROG_PSTAT_STATE != 2
  else if src = Ev.LANE_FOM_LOW then (List.range 16).any fun l => s.bit (Reg.LANEQ_LSTAT l) F.LANEQ_LSTAT_FOM_LOW
  else if src = Ev.TIME_JUMP_REFUSED then s.bit Reg.TIME_STATUS F.TIME_STATUS_REFUSING
  else if src = Ev.HPLL_COAST then s.fld Reg.HPLL_STATUS F.HPLL_STATUS_STATE == coasting
  else if src = Ev.DRAM_PANIC then
    s.bit Reg.DRAMC_PORT_STAT F.DRAMC_PORT_STAT_PANIC_0 || s.bit Reg.DRAMC_PORT_STAT F.DRAMC_PORT_STAT_PANIC_1
  else if src = Ev.DRAM_CHANNEL_FAILED then
    s.fld Reg.DRAMC_STATUS F.DRAMC_STATUS_STATE_0 == 5 || s.fld Reg.DRAMC_STATUS F.DRAMC_STATUS_STATE_1 == 5
  else if src = Ev.DRAM_RETRAIN_DUE then s.bit Reg.DRAMC_STATUS F.DRAMC_STATUS_RETRAIN_DUE
  else if src = Ev.SUPPLY_WARN then s.bit Reg.PMU_WARN_STAT F.PMU_WARN_STAT_FROZEN
  else if src = Ev.THERM_THRESH_UP then
    (List.range 5).any fun d => quads.any fun k => s.bit (Reg.THERM_THR d k) F.THERM_THR_STATE
  else if src = Ev.THERM_RATE then (List.range 5).any fun d => s.bit (Reg.THERM_RATE_STAT d) F.THERM_RATE_STAT_ABOVE
  else if src = Ev.THERM_SUSPECT then s.fld Reg.THERM_XCHK_STAT F.THERM_XCHK_STAT_SUSPECT != 0
  else if src = Ev.CAL_DUE then tiles.any fun t => s.fld (Reg.DFLY_CAL_STAT t) F.DFLY_CAL_STAT_DUE != 0
  else if src = Ev.DFLY_IMGCAL_DUE then tiles.any fun t => s.fld (Reg.DFLY_STATUS t) F.DFLY_STATUS_IMG_DUE != 0
  else if src = Ev.SPLL_RECAL_DUE then tiles.any fun t => s.bit (Reg.SPLL_STATUS t) F.SPLL_STATUS_RECAL_DUE
  else
    let t := (src - 96) / 40
    s.mayAssert src && match (src - 96) % 40 with
    | 6 => s.bit (Reg.TXCH_STATUS t) F.TXCH_STATUS_MUTE_LINK
    | 9 => s.fld (Reg.TXCH_STATUS t) F.TXCH_STATUS_CAR_INVALID != 0
    | 12 => s.fld (Reg.RXCH_STATUS t) F.RXCH_STATUS_CAR_INVALID != 0
    | 20 => paths.any fun i => s.bit (Reg.DFLY_RL t i) F.DFLY_RL_MM
    | 28 => quads.any fun q => s.fld (Reg.SEQ_STAT t q) F.SEQ_STAT_STATE == 7
    | 31 => paths.any fun i => s.bit (Reg.BIASOUT_STAT t i) F.BIASOUT_STAT_MM
    | 36 => s.fld (Reg.SPLL_STATUS t) F.SPLL_STATUS_STATE == coasting
    | 39 => [0, 1].any fun r => s.fld (Reg.LPLL_STATUS t r) F.LPLL_STATUS_STATE == coasting
    | _ => false

/-- A reserved index never asserts (R465). -/
def sourceExists (src : Nat) : Bool := (src < 88) || ((96 ≤ src) && (src < 256))

/-- The source works in level mode with a condition (R468). -/
def State.follows (s : State) (src : Nat) : Bool :=
  hasLevel src && s.bit (Reg.HIVE_SRC_CFG src) F.HIVE_SRC_CFG_MODE

/-- The stored status bit of a source. -/
def State.stored (s : State) (src : Nat) : Bool := (s.reg (Reg.HIVE_STATUS (src / 32))).getLsbD (src % 32)

/-- The status bit of a source as it reads (R467, R468). -/
def State.status (s : State) (src : Nat) : Bool := if s.follows src then s.levelCond src else s.stored src

def State.setStored (s : State) (src : Nat) (b : Bool) : State :=
  s.setFld (Reg.HIVE_STATUS (src / 32)) ⟨src % 32, 1⟩ (b2n b)

/-- An edge sets the pending flag of every Glide processor the source is routed to (R64); occurrences merge. -/
def State.flagGlides (s : State) (src : Nat) : State :=
  s.each (onesOf 5 (s.fld (Reg.HIVE_SRC_CFG src) F.HIVE_SRC_CFG_GLIDE)) fun s p =>
    s.modGlide p fun g => if g.flags.contains src then g else { g with flags := g.flags ++ [src] }

/-- A status bit set without a log record: how COUNTER_SATURATED comes of LOG_DROP itself. -/
def State.raiseQuiet (s : State) (src : Nat) : State :=
  if s.bit (Reg.HIVE_SRC_CFG src) F.HIVE_SRC_CFG_MODE then s.setStored src true else (s.setStored src true).flagGlides src

/-- A counter goes up by n: it stops at its maximum, sets its flag and raises COUNTER_SATURATED once for each setting of
the flag (R471); `alarm` raises the event. -/
def State.bumpWith (alarm : State → State) (s : State) (cnt : Nat) (f : Fld) (flagReg flagBit n : Nat) : State :=
  let top := 2 ^ f.width - 1
  let v := min (s.fld cnt f + n) top
  let s' := s.setFld cnt f v
  if v = top ∧ n ≠ 0 ∧ !(s.reg flagReg).getLsbD flagBit then alarm (s'.setFld flagReg ⟨flagBit, 1⟩ 1) else s'

/-- A record for Rilyn's log waits in the queue of 256; one that finds it full is lost and counted in LOG_DROP (R440). -/
def State.pushLog (s : State) (r : LogRec) : State :=
  if s.logQ.length < 256 then { s with logQ := s.logQ ++ [r] }
  else s.bumpWith (·.raiseQuiet Ev.COUNTER_SATURATED) Reg.RILYN_LOG_DROP F.RILYN_LOG_DROP_COUNT Reg.RILYN_CNT_FLAGS 3 1

/-- One millisecond in Tc. -/
def msTc : Nat := 1966080

/-- A source routed to Rilyn whose LOG_EN bit is set is logged, at most once per source per millisecond (R440); the
occurrences held back in between are counted in REPEAT (Table 19-6). -/
def State.logEvent (s : State) (src : Nat) : State :=
  if s.bit (Reg.HIVE_SRC_CFG src) F.HIVE_SRC_CFG_RILYN && s.maskBit (Reg.RILYN_LOG_EN (src / 32)) F.RILYN_LOG_EN_EN (src % 32) then
    match s.loggedAt src with
    | some (t, k) =>
      if s.now < t + msTc then s.setLoggedAt src (some (t, min (k + 1) 255))
      else (s.setLoggedAt src (some (s.now, 0))).pushLog ⟨1, src, k, s.tb, s.fld Reg.TIME_STATUS F.TIME_STATUS_QUAL⟩
    | none => (s.setLoggedAt src (some (s.now, 0))).pushLog ⟨1, src, 0, s.tb, s.fld Reg.TIME_STATUS F.TIME_STATUS_QUAL⟩
  else s

/-- An occurrence of a source (R467): its status bit, the Glide flags and the log.  In level mode a source with a condition
follows that instead (R468). -/
def State.raise (s : State) (src : Nat) : State :=
  if s.mayAssert src then
    (if s.follows src then s
     else if s.bit (Reg.HIVE_SRC_CFG src) F.HIVE_SRC_CFG_MODE then s.setStored src true
     else (s.setStored src true).flagGlides src).logEvent src
  else s

/-- A counter of 32 bits goes up by n (R471). -/
def State.bump (s : State) (cnt flagReg flagBit n : Nat) : State :=
  s.bumpWith (·.raise Ev.COUNTER_SATURATED) cnt ⟨0, 32⟩ flagReg flagBit n

/-- A discarded or invalid register access (R8 to R10, R29). -/
def State.accessError (s : State) : State := s.raise Ev.REG_ACCESS_ERROR

/-! ### Delivery (R469) -/

/-- p(s): the status bit ANDed with EN. -/
def State.delivers (s : State) (src : Nat) : Bool :=
  s.bit (Reg.HIVE_SRC_CFG src) F.HIVE_SRC_CFG_EN && s.status src

/-- A source delivers to its MSI vector. -/
def State.toMsi (s : State) (src : Nat) : Bool :=
  s.bit (Reg.HIVE_SRC_CFG src) F.HIVE_SRC_CFG_MSI_EN && s.delivers src

/-- The pending vectors, as MSI_PEND shows them: those to which some source delivers. -/
def State.pendingVectors (s : State) : Word :=
  (List.range 256).foldl (fun w src =>
    if s.toMsi src then w ||| BitVec.ofNat 32 (2 ^ s.fld (Reg.HIVE_SRC_CFG src) F.HIVE_SRC_CFG_MSI_VEC) else w) 0

/-- INT_n is driven low (R469; released in Standby and Boot). -/
def State.intLow (s : State) (n : Nat) : Bool :=
  (s.mode != .standby) && (s.mode != .boot) &&
  (List.range 256).any fun src => s.delivers src && s.maskBit (Reg.HIVE_SRC_CFG src) F.HIVE_SRC_CFG_INT n

/-- A message for vector v: sent while MSI is enabled, as message v mod g (R469). -/
def State.sendMsi (s : State) (v : Nat) : State :=
  if s.msiOn then s.emit (.msi (v % max 1 s.msiGranted)) else s

/-- Hive re-judges the MSI vectors: each that has become pending sends one message (R469).  Every command ends with it. -/
def State.settle (s : State) : State :=
  let p := s.pendingVectors
  let fresh := onesOf 32 (p &&& ~~~ s.msiPend).toNat
  { (s.each fresh State.sendMsi) with msiPend := p }

/-- The outcome of a command that has run. -/
def done (s : State) : Host.Outcome State Fault Refusal := .next s.settle

end Sys2Proof.Machine
end

