-- ==== Sys2Proof/Machine/Operands.lean ====
section
/-!
DEFINITION. Operand forms the families share: who may access a register, the numerology and the symbol boundaries of carriers,
their bands, and the choice among the effects that wait.
-/
namespace Sys2Proof.Machine

/-! ### Register access (R8, R9, R25, R29) -/

/-- The power domain of a block (Table 17-3, R407).  LANEQ registers are taken with HUB_RADIO (log entry 7). -/
def domainOf (a : Nat) : Nat :=
  let t := dieOf a - 1
  if dieOf a = 0 then
    match blockOf a with
    | 0x01 => 5
    | 0x02 => 2
    | 0x09 => 4
    | 0x1A => 2
    | 0x03 | 0x04 | 0x05 | 0x06 | 0x07 | 0x08 | 0x0A => 1
    | _ => 0
  else if blockOf a = 0x01 then 14 + t else 10 + t

/-- The block of the address answers: its register exists, the mode lets the block respond, its domain is ON (R9, R29); a block whose domain is
in TRANSITION, of which R29 does not speak, does not answer (DESIGN CHOICE, log entry 99). -/
def State.answers (s : State) (a : Nat) : Bool :=
  (regAt a).isSome && s.domOn (domainOf a) &&
  (match s.mode with
   | .standby => false
   | .boot | .recovery => (dieOf a == 0) && (blockOf a == 0x0D || blockOf a == 0x0C)
   | _ => true)

/-- A write whose block does not answer is discarded and raises REG_ACCESS_ERROR. -/
def State.guarded (s : State) (a : Nat) (f : State → State) : State := if s.answers a then f s else s.accessError

/-- A write allowed in Configure only: in any other mode it is discarded and raises REG_ACCESS_ERROR. -/
def State.configOnly (s : State) (f : State → State) : State := if s.mode = .configure then f s else s.accessError

/-- A read whose block does not answer returns 0 and raises REG_ACCESS_ERROR (R9, R29). -/
def State.guardedRead (s : State) (a : Nat) (f : State → State) : State :=
  if s.answers a then f s else { s.accessError with reply := 0 }

/-! ### Numerology (R72, R74, R107) -/

/-- A carrier configuration as CARCFG_c holds it. -/
structure Carcfg where
  en : Bool
  symph : Bool
  timeDomain : Bool
  nrb : Nat
  shift : Nat
  nfft : Nat
  ecp : Bool
  mu : Nat
  deriving DecidableEq, Repr

def State.txCfg (s : State) (t c : Nat) : Carcfg :=
  let a := Reg.TXCH_CARCFG t c
  ⟨s.bit a F.TXCH_CARCFG_EN, s.bit a F.TXCH_CARCFG_SYMPH, false, s.fld a F.TXCH_CARCFG_NRB,
   min 12 (s.fld a F.TXCH_CARCFG_SHIFT), s.fld a F.TXCH_CARCFG_NFFT_LOG2, s.bit a F.TXCH_CARCFG_ECP, s.fld a F.TXCH_CARCFG_MU⟩

def State.rxCfg (s : State) (t c : Nat) : Carcfg :=
  let a := Reg.RXCH_CARCFG t c
  ⟨s.bit a F.RXCH_CARCFG_EN, s.bit a F.RXCH_CARCFG_SYMPH, s.bit a F.RXCH_CARCFG_MODE, s.fld a F.RXCH_CARCFG_NRB,
   min 12 (s.fld a F.RXCH_CARCFG_SHIFT), s.fld a F.RXCH_CARCFG_NFFT_LOG2, s.bit a F.RXCH_CARCFG_ECP, s.fld a F.RXCH_CARCFG_MU⟩

/-- The numerology keeps R72. -/
def Carcfg.ok (k : Carcfg) : Bool :=
  (k.mu ≤ 4) && (7 ≤ k.nfft) && (k.nfft ≤ (if k.mu = 4 then 11 else 12)) && (1 ≤ k.nrb) && (k.nrb ≤ 275)
    && (12 * k.nrb ≤ 2 ^ k.nfft) && (!k.ecp || k.mu == 2)

/-- The ratio the carrier needs: 163,840 / (N x 2^mu) (R72). -/
def Carcfg.ratio (k : Carcfg) : Nat := 163840 / (2 ^ k.nfft * 2 ^ k.mu)

/-- A ratio field: 0 means 4,096. -/
def ratioOf (r : BitVec 12) : Nat := if r = 0 then 4096 else r.toNat

/-- Half the carrier's band, 6 x NRB x subcarrier spacing, in kHz. -/
def Carcfg.halfBand (k : Carcfg) : Nat := 90 * k.nrb * 2 ^ k.mu

/-- Symbols in a half-subframe of 983,040 Tc, and in a slot (R74). -/
def Carcfg.perHalf (k : Carcfg) : Nat := if k.ecp then 24 else 7 * 2 ^ k.mu
def Carcfg.perSlot (k : Carcfg) : Nat := if k.ecp then 12 else 14

/-- A symbol by its number counted from timebase 0: the tick at which its cyclic prefix begins (R74). -/
def Carcfg.symStart (k : Carcfg) (n : Nat) : Nat :=
  let j := n % k.perHalf
  n / k.perHalf * 983040 +
    (if k.ecp then j * 40960 else if j = 0 then 0 else 1024 + j * (140288 / 2 ^ k.mu))

/-- The symbol under way at a tick. -/
def Carcfg.symAt (k : Carcfg) (tick : Nat) : Nat :=
  let r := tick % 983040
  tick / 983040 * k.perHalf +
    (if k.ecp then r / 40960
     else if r < 1024 + 140288 / 2 ^ k.mu then 0 else (r - 1024) / (140288 / 2 ^ k.mu))

/-- The first symbol boundary at or after a tick. -/
def Carcfg.nextBoundary (k : Carcfg) (tick : Nat) : Nat :=
  let n := k.symAt tick
  if k.symStart n = tick then tick else k.symStart (n + 1)

/-- Length of a symbol's cyclic prefix (R74). -/
def Carcfg.prefixLen (k : Carcfg) (n : Nat) : Nat :=
  if k.ecp then 8192 else 9216 / 2 ^ k.mu + (if n % k.perHalf = 0 then 1024 else 0)

/-- Receive boundaries are moved earlier by UL_OFFSET (R108): the first one at or after a timebase tick. -/
def State.rxBoundary (s : State) (t : Nat) (k : Carcfg) (tick : Nat) : Nat :=
  let o := s.fld (Reg.RXCH_UL_OFFSET t) F.RXCH_UL_OFFSET_OFFSET
  k.nextBoundary (tick + o) - o

/-- The reference carrier of a tile: its enabled, valid NR carrier with the smallest mu, the lowest index on ties (R118). -/
def State.refCar (s : State) (t : Nat) : Option Nat :=
  let ok := cars.filter fun c =>
    let k := s.rxCfg t c
    k.en && !k.timeDomain && !s.maskBit (Reg.RXCH_STATUS t) F.RXCH_STATUS_CAR_INVALID c
  ok.foldl (fun best c => match best with
    | none => some c
    | some b => if (s.rxCfg t c).mu < (s.rxCfg t b).mu then some c else some b) none

/-- Carrier centre x 2^48, in kHz: f_RF + TW (R79, R80, R104, R109). -/
def centre48 (rf tw : BitVec 48) : Int := (rf.toNat : Int) * 29491200 + tw.toInt * 2457600

/-- |TW offset| plus half the band exceeds 1,000 MHz (R83, R111). -/
def tooFar (tw : BitVec 48) (half : Nat) : Bool :=
  decide ((1000000 : Int) * 2 ^ 48 < |tw.toInt * 2457600| + (half : Int) * 2 ^ 48)

/-- The band centre +- half lies within lo to hi kHz. -/
def bandIn (rf tw : BitVec 48) (half lo hi : Nat) : Bool :=
  decide ((lo : Int) * 2 ^ 48 ≤ centre48 rf tw - (half : Int) * 2 ^ 48) &&
  decide (centre48 rf tw + (half : Int) * 2 ^ 48 ≤ (hi : Int) * 2 ^ 48)

/-- Index of a downlink word at a tile; p is the part-wide path. -/
def dlKey (n c p k : Nat) : Nat := ((n * 4 + c) * 64 + p) * 4096 + k

end Sys2Proof.Machine
end

