-- ==== Sys2Proof/Machine/Responses.lean ====
section
/-!
DEFINITION. The ROM responses of the chains (R78, R91, R110).  Their coefficients are not printed: each is a free value of Config where that meets what the
spec says of the response, and otherwise a response that does (log entry 115), so that every response the spec allows, and no other, is possible.
Coefficients are in units of 2^-40.
-/
namespace Sys2Proof.Machine

/-- A row of Tables 3-2 and 4-2: edges in thousandths of the carrier rate, attenuation in dB, group delay in carrier samples. -/
structure Edges where
  pass : Nat
  stop : Nat
  atten : Nat
  delay : Nat
  deriving DecidableEq, Repr

def txEdges : List Edges :=
  [⟨400, 600, 90, 24⟩, ⟨400, 600, 75, 18⟩, ⟨400, 600, 60, 12⟩, ⟨420, 580, 90, 34⟩, ⟨420, 580, 75, 26⟩, ⟨420, 580, 60, 18⟩, ⟨440, 560, 85, 48⟩,
   ⟨440, 560, 70, 36⟩, ⟨450, 550, 80, 64⟩, ⟨450, 550, 65, 46⟩, ⟨380, 620, 90, 16⟩, ⟨300, 700, 80, 8⟩, ⟨250, 750, 70, 5⟩, ⟨400, 600, 100, 30⟩,
   ⟨420, 580, 100, 44⟩, ⟨475, 525, 60, 80⟩]

def rxEdges : List Edges :=
  [⟨400, 600, 90, 26⟩, ⟨400, 600, 75, 20⟩, ⟨400, 600, 60, 14⟩, ⟨420, 580, 90, 36⟩, ⟨420, 580, 75, 28⟩, ⟨420, 580, 60, 20⟩, ⟨440, 560, 85, 50⟩,
   ⟨440, 560, 70, 38⟩, ⟨450, 550, 80, 66⟩, ⟨450, 550, 65, 48⟩, ⟨380, 620, 90, 18⟩, ⟨300, 700, 80, 9⟩, ⟨250, 750, 70, 6⟩, ⟨400, 600, 100, 32⟩,
   ⟨200, 300, 90, 40⟩, ⟨100, 150, 90, 72⟩]

def Edges.of (l : List Edges) (resp : BitVec 4) : Edges := l.getD resp.toNat ⟨400, 600, 90, 24⟩

/-- Settle counts are the group delays plus 8. -/
def txDelay (resp : BitVec 4) : Nat := (Edges.of txEdges resp).delay
def txSettle (resp : BitVec 4) : Nat := txDelay resp + 8
def rxDelay (resp : BitVec 4) : Nat := (Edges.of rxEdges resp).delay
def rxSettle (resp : BitVec 4) : Nat := rxDelay resp + 8

/-- π in units of 2^-60. -/
def piFix : Int := 3622009729038561421

/-- Gain at `num` / `den` cycles per step of the linear-phase filter with coefficient h k at a distance of k steps, k up to K; in units of 2^-100. -/
def firGain (h : Nat → Int) (K num den : Nat) : Nat :=
  (h 0 * 2 ^ 60 + 2 * ((List.range K).map fun k => h (k + 1) * cosFix ((k + 1) * num * 2 ^ 48 / den)).sum).natAbs

/-- A gain lies within 1 / u dB of another. -/
def withinDb (u a b : Nat) : Bool := decide (a ^ (20 * u) ≤ 10 * b ^ (20 * u)) && decide (b ^ (20 * u) ≤ 10 * a ^ (20 * u))

/-- A filter with P steps to the carrier sample has the ripple, within 0.02 dB, and the attenuation of a row up to `nyq` / 2 carrier rates; looked at
32 times for each cycle of the group delay. -/
def Edges.met (e : Edges) (h : Nat → Int) (P nyq full : Nat) : Bool :=
  let N := 32 * e.delay
  (List.range (N * nyq / 2 + 1)).all fun i =>
    let g := firGain h (e.delay * P) i (N * P)
    (decide (e.pass * N < 1000 * i) || withinDb 50 g full) && (decide (1000 * i < e.stop * N) || decide (g ^ 20 * 10 ^ e.atten ≤ full ^ 20))

/-- The sum of q^k / k!^2 from a term on, in units of 2^-60. -/
def besselSum (num den : Nat) : Nat → Nat → Nat → Nat
  | 0, _, _ => 0
  | n + 1, k, term => term + besselSum num den n (k + 1) (term * num / (den * (k + 1) ^ 2))

/-- A response that meets a row: the sinc of its cut-off under a Kaiser window for 3 dB more, at a distance of d steps; a gain of 1 in a sum over all of
them. -/
def Edges.kaiser (e : Edges) (P d : Nat) : Int :=
  let K := e.delay * P
  let b := 1102 * (10 * (e.atten + 3) - 87)
  let window : Int := besselSum (b ^ 2 * (K ^ 2 - d ^ 2)) (4 * 100000 ^ 2 * K ^ 2) 60 0 (2 ^ 60) * 2 ^ 40 / besselSum (b ^ 2) (4 * 100000 ^ 2) 60 0 (2 ^ 60)
  if K < d then 0
  else if d = 0 then window * (e.pass + e.stop) / (1000 * P)
  else window * sinFix (2 ^ 47 * ((e.pass + e.stop) * d) / (1000 * P)) / (piFix * d)

/-- Transmit response at ratio m: its value at a distance in fifths of a Tc, 4 m of them to the carrier sample; each output is a sum over carrier samples
(R78). -/
def txTap (resp : BitVec 4) (m d : Nat) : Int :=
  let e := Edges.of txEdges resp
  if e.met (Config.txTap resp m) (4 * m) m (4 * m * 2 ^ 100) then Config.txTap resp m d else 4 * m * e.kaiser (4 * m) d

/-- Receive response at ratio R: its value at a distance in combining-rate samples (R110). -/
def rxTap (resp : BitVec 4) (R d : Nat) : Int :=
  let e := Edges.of rxEdges resp
  if e.met (Config.rxTap resp R) R R (2 ^ 100) then Config.rxTap resp R d else e.kaiser R d

/-- The droop of the DAC at `num` / `den` of its rate, as a gain to be made up: x / sin x, in units of 2^-100 (R91). -/
def droop (num den : Nat) : Nat := if num = 0 then 2 ^ 100 else (piFix * num * 2 ^ 100 / (den * sinFix (2 ^ 47 * num / den))).toNat

/-- A compensator makes up for the droop from 0 Hz, with 0 dB, to 13.0 GHz, within 1 / 200 dB: the spec gives its figure to 1 / 100 dB. -/
def sincMet (h : Nat → Int) : Bool := (List.range 441).all fun i => withinDb 200 (firGain h 32 i 1000) (droop i 1000)

/-- A compensator that does: the droop sampled at 65 frequencies. -/
def sincSampled (k : Nat) : Int :=
  (((List.range 65).map fun (j : Nat) =>
    (droop ((j : Int) - 32).natAbs 65 : Int) * cosFix ((((j : Int) - 32).natAbs * k * 2 ^ 48) / 65)).sum) / (65 * 2 ^ 120)

/-- Inverse-sinc compensator: coefficient at a distance of k DAC samples, k up to 32 (R91). -/
def sincTap (k : Nat) : Int := if sincMet Config.sincTap then Config.sincTap k else sincSampled k

end Sys2Proof.Machine
end

