-- ==== Sys2Proof/Machine/Chain.lean ====
section
/-!
DEFINITION. The converter chains, shared operations: invalid runs (R95, R123), carrier validity (R83, R111), gates, step-attenuator
codes (R115 to R118) and what disturbs a calibration burst (R203).
-/
namespace Sys2Proof.Machine

/-! ### Invalid runs -/

/-- The first combining-rate sample of tile t at or after instant T; a sample lasts 0.8 Tc and counts from t_A (R81). -/
def State.sampleAt (s : State) (t T : Nat) : Int := (((T : Int) - s.origin t) * 5 + 3) / 4

/-- The model instant of combining-rate sample n of tile t, in fifteenths of a Tc. -/
def State.sampleTime (s : State) (t : Nat) (n : Int) : Int := 15 * s.origin t + 12 * n

/-- A run added to the runs of a carrier or a path; a sample is invalid while any run holds it, so runs that overlap act as one that ends where
the last of them ends.  Runs that ended long ago are dropped. -/
def addRun (rs : List Run) (first stop : Int) : List Run :=
  { first := first, stop := stop } :: rs.filter fun x => x.opened || decide (first < x.stop + 2 ^ 28)

/-- A run that lasts until its cause ends, and `tail` carrier output samples longer. -/
def openRun (rs : List Run) (cause tail : Nat) (first : Int) : List Run :=
  if rs.any fun r => r.opened && r.cause == cause then rs
  else { first := first, stop := first, opened := true, cause := cause, tail := tail } :: rs

/-- The end of the cause of an open run, at sample `stop` of a grid of R: its tail begins with the next sample of the grid. -/
def closeRun (rs : List Run) (cause R : Nat) (stop : Int) : List Run :=
  rs.map fun r => if r.opened && r.cause == cause then { r with stop := (stop + R - 1) / R * R + r.tail * R, opened := false, tail := r.tail * R } else r

/-- The runs counted from a t_A that lies `n` samples later. -/
def rebaseRuns (rs : List Run) (n : Int) : List Run := rs.map fun r => { r with first := r.first - n, stop := r.stop - n }

/-- Some sample from a to b - 1 lies in a run. -/
def hitsRun (rs : List Run) (a b : Int) : Bool := rs.any fun r => decide (r.first < b) && (r.opened || decide (a < r.stop))

/-- Some sample from a to b - 1 that is a multiple of the ratio in force lies in a run; the ratio is that of the first such sample in the run. -/
def hitsGrid (rs : List Run) (ratio : Int → Nat) (a b : Int) : Bool := rs.any fun r =>
  let lo := max a r.first
  let q := (lo + ratio lo - 1) / ratio lo * ratio lo
  decide (q < b) && (r.opened || decide (q < r.stop))

/-- Marks a transmit carrier of a path invalid from instant T for len combining-rate samples (Table 3-4). -/
def State.markTx (s : State) (t i c T len : Nat) : State :=
  let a := s.sampleAt t T
  s.modTxCar (carKey t i c) fun k => { k with runs := addRun k.runs a (a + len) }

/-- Marks a receive carrier of a path from instant T for len of its output samples: the run begins with the first output
sample at or after T, on the grid of its ratio (R123). -/
def State.markRx (s : State) (t i c T len : Nat) : State :=
  s.modRxCar (carKey t i c) fun k =>
    let r := ratioOf k.ratio
    let a := (s.sampleAt t T + r - 1) / r * r
    { k with runs := addRun k.runs a (a + len * r) }

/-- The settling run of a response change: settle count x m, or S output samples. -/
def State.settleTx (s : State) (t i c T : Nat) : State :=
  let k := s.txCar (carKey t i c)
  s.markTx t i c T (txSettle k.resp * ratioOf k.ratio)
def State.settleRx (s : State) (t i c T : Nat) : State := s.markRx t i c T (rxSettle (s.rxCar (carKey t i c)).resp)

/-- A run on every receive carrier of a tile opens or closes with its cause: an unlocked interval (1) or an alignment (2) (Table 4-3).  S is that of
the response in force at its start (R123). -/
def State.openRxRuns (s : State) (t cause : Nat) : State :=
  s.each (List.range 64) fun s j => s.modRxCar (64 * t + j) fun k =>
    { k with runs := openRun k.runs cause (rxSettle k.resp) (s.sampleAt t s.now) }
def State.closeRxRuns (s : State) (t cause : Nat) : State :=
  s.each (List.range 64) fun s j => s.modRxCar (64 * t + j) fun k => { k with runs := closeRun k.runs cause (ratioOf k.ratio) (s.sampleAt t s.now) }

/-- Sample counts start anew at t_A (R81, R102, R106): accumulators are zero there, and the runs in force are counted from it. -/
def Carrier.realign (k : Carrier) (n : Int) : Carrier := { k with runs := rebaseRuns k.runs n, nco := [⟨0, 0, k.tw⟩], counted := k.counted - n }

/-! ### Carrier validity (R83, R111) -/

/-- A condition of R83 holds on path i for transmit carrier c. -/
def State.txPathBad (s : State) (t i c : Nat) : Bool :=
  let k := s.txCfg t c
  let x := s.txCar (carKey t i c)
  !k.ok || (ratioOf x.ratio != k.ratio) || !bandIn (s.txRf t) x.tw k.halfBand 400000 13000000 || tooFar x.tw k.halfBand

/-- An enabled carrier is invalid while a condition holds on any path. -/
def State.txCarBad (s : State) (t c : Nat) : Bool := (s.txCfg t c).en && paths.any fun i => s.txPathBad t i c

/-- A condition of R111 holds on path i for receive carrier c.  A band edge exactly 50 MHz from 7,372.8 MHz is allowed (DESIGN CHOICE, log entry 88:
the spec does not say whether it comes within 50 MHz). -/
def State.rxPathBad (s : State) (t i c : Nat) : Bool :=
  let k := s.rxCfg t c
  let x := s.rxCar (carKey t i c)
  let r := ratioOf x.ratio
  let w := s.fld (Reg.RXCH_CARWIN t c) F.RXCH_CARWIN_WIN_ADV
  !k.ok || (r == 1) || (!k.timeDomain && r != k.ratio)
    || (if s.maskBit (Reg.RXCH_ZONE t) F.RXCH_ZONE_Z i then !bandIn (s.rxRf t) x.tw k.halfBand 7422800 13000000
        else !bandIn (s.rxRf t) x.tw k.halfBand 400000 7322800)
    || tooFar x.tw k.halfBand
    || (!k.timeDomain && decide ((if k.ecp then 2 ^ k.nfft / 4 else 2 ^ k.nfft * 9 / 128) < w))

def State.rxCarBad (s : State) (t c : Nat) : Bool := (s.rxCfg t c).en && paths.any fun i => s.rxPathBad t i c

/-- A carrier that becomes invalid, and one that becomes valid again: stage 4 or 8 restarts from empty history there (R83, R111). -/
def Carrier.spoil (k : Carrier) (now : Nat) : Carrier := { k with bad := openRun k.bad 3 0 now }
def Carrier.mend (k : Carrier) (now : Nat) : Carrier := { k with bad := closeRun k.bad 3 1 now, fresh := now }

/-- The carrier was invalid at some instant from a to b - 1. -/
def Carrier.wasBad (k : Carrier) (a b : Int) : Bool := hitsRun k.bad a b

/-- Transmit validity is checked again: becoming invalid raises TX_CARRIER_INVALID once; a carrier valid again restarts
stage 4 on every path (R83). -/
def State.recheckTx (s : State) (t : Nat) : State :=
  s.each cars fun s c =>
    let old := s.maskBit (Reg.TXCH_STATUS t) F.TXCH_STATUS_CAR_INVALID c
    let new := s.txCarBad t c
    let s' := s.setMaskBit (Reg.TXCH_STATUS t) F.TXCH_STATUS_CAR_INVALID c new
    if new && !old then (s'.each paths fun s i => s.modTxCar (carKey t i c) (·.spoil s.now)).raise (Ev.TX_CARRIER_INVALID t)
    else if old && !new then
      s'.each paths fun s i =>
        let u := s.modTxCar (carKey t i c) (·.mend s.now)
        if (s.txCfg t c).en then u.settleTx t i c s.now else u
    else s'

/-- RXCH.STATUS shows the reference carrier (R118). -/
def State.showRefCar (s : State) (t : Nat) : State :=
  match s.refCar t with
  | some c => (s.setBit (Reg.RXCH_STATUS t) F.RXCH_STATUS_REF_VALID true).setFld (Reg.RXCH_STATUS t) F.RXCH_STATUS_REF_CAR c
  | none => (s.setBit (Reg.RXCH_STATUS t) F.RXCH_STATUS_REF_VALID false).setFld (Reg.RXCH_STATUS t) F.RXCH_STATUS_REF_CAR 0

/-- Receive validity is checked again (R111), and with it the reference carrier.  Every output sample of an invalid carrier is invalid. -/
def State.recheckRx (s : State) (t : Nat) : State :=
  (s.each cars fun s c =>
    let old := s.maskBit (Reg.RXCH_STATUS t) F.RXCH_STATUS_CAR_INVALID c
    let new := s.rxCarBad t c
    let s' := s.setMaskBit (Reg.RXCH_STATUS t) F.RXCH_STATUS_CAR_INVALID c new
    if new && !old then
      (s'.each paths fun s i => s.modRxCar (carKey t i c) fun k =>
        { k.spoil s.now with runs := openRun k.runs 3 0 (s.sampleAt t s.now) }).raise (Ev.RX_CARRIER_INVALID t)
    else if old && !new then
      s'.each paths fun s i =>
        let u := s.modRxCar (carKey t i c) fun k => { k.mend s.now with runs := closeRun k.runs 3 1 (s.sampleAt t s.now) }
        if (s.rxCfg t c).en then u.settleRx t i c s.now else u
    else s').showRefCar t

/-! ### Calibration bursts disturbed (R203) -/

/-- A burst spans an instant (R201, R203). -/
def Burst.spans (b : Burst) (at_ : Int) : Bool := b.running && decide ((b.at_ : Int) ≤ at_) && decide (at_ < b.at_ + b.dur)

/-- A burst spans an instant and measures in the direction named there: KIND 0 transmit, KIND 1 receive, KIND 2 first the one, then the other
(R201). -/
def Burst.measures (b : Burst) (rx : Bool) (at_ : Int) : Bool :=
  b.spans at_ &&
  (match b.kind with
   | 0 => !rx
   | 1 => rx
   | 2 => rx == decide (((b.at_ + 4096 * (b.dur / 4096 / 2) : Nat) : Int) ≤ at_)
   | _ => false)

/-- An event of Table 7-2 strikes path i of a running burst: it records code 5. -/
def State.calHit (s : State) (t i : Nat) (sel : Burst → Bool) : State :=
  s.modCal t fun c => match c.burst with
    | some b => if b.spans s.now && b.kind ≤ 2 && b.pmask.getLsbD i && sel b
                then { c with burst := some (if b.measures true s.now then { b with hitRx := b.hitRx ||| BitVec.ofNat 16 (2 ^ i) }
                                             else { b with hit := b.hit ||| BitVec.ofNat 16 (2 ^ i) }) } else c
    | none => c

/-! ### Gates (R84, R113) -/

/-- Length of a ramp in combining-rate samples (R84), and in Tc, rounded up to a whole tick: 12.8, 51.2 or 204.8 (DESIGN CHOICE, log entry 88: R85
does not say from which tick the 2,048 Tc count after a ramp that ends inside one). -/
def rampLen (ramp : Nat) : Nat := match ramp with | 0 => 0 | 1 => 16 | 2 => 64 | _ => 256
def rampTc (ramp : Nat) : Nat := (rampLen ramp * 4 + 4) / 5

/-- A gate that closes at an instant; intervals that ended long ago are dropped. -/
def Carrier.shut (k : Carrier) (now : Nat) : Carrier :=
  { k with gate := false, spans := (k.openedAt, now) :: k.spans.filter (fun x => now < x.2 + 2 ^ 28) }

/-- The gate was open throughout from a to b, in model instants. -/
def Carrier.openThrough (k : Carrier) (a b : Nat) : Bool :=
  (k.gate && decide (k.openedAt ≤ a)) || k.spans.any fun x => decide (x.1 ≤ a) && decide (b ≤ x.2)

/-- The gate was open at an instant.  A gate that closes with a ramp is closed from its effect instant on, where the ramp begins: samples of the ramp
are valid (DESIGN CHOICE, log entry 88: R95 does not say whether they keep their marks). -/
def Carrier.openAt (k : Carrier) (a : Int) : Bool :=
  (k.gate && decide ((k.openedAt : Int) ≤ a)) || k.spans.any fun x => decide ((x.1 : Int) ≤ a) && decide (a < x.2)

/-- The DAC of a path runs or stops; its running time is counted (R85, R197). -/
def TxPath.wake (p : TxPath) (now : Nat) : TxPath := if p.gated then { p with gated := false, ranAt := now, moved := now } else p
def TxPath.halt (p : TxPath) (now : Nat) : TxPath := { p with ran := p.ran + (now - p.ranAt), ranAt := now }

def State.openTxGate (s : State) (t i c : Nat) : State :=
  (s.modTxCar (carKey t i c) fun k => if k.gate then k else { k with gate := true, openedAt := s.now })
  |>.modTxPath (pathKey t i) fun p => { p.wake s.now with idleSince := s.now }

def State.closeTxGate (s : State) (t i c : Nat) : State :=
  let r := rampTc (s.fld (Reg.TXCH_CTRL t) F.TXCH_CTRL_RAMP)
  (s.modTxCar (carKey t i c) fun k => if k.gate then k.shut s.now else k)
  |>.modTxPath (pathKey t i) fun p => if (s.txCar (carKey t i c)).gate then { p with idleSince := s.now + r } else p

def State.openRxGate (s : State) (t i c : Nat) : State :=
  s.modRxCar (carKey t i c) fun k => if k.gate then k else { k with gate := true, openedAt := s.now }
def State.closeRxGate (s : State) (t i c : Nat) : State :=
  s.modRxCar (carKey t i c) fun k => if k.gate then k.shut s.now else k

/-- A change for each carrier in CMASK of each path in PMASK. -/
def State.eachCar (s : State) (cmask : BitVec 4) (pmask : BitVec 16) (f : State → Nat → Nat → State) : State :=
  s.each (onesOf 16 pmask.toNat) fun s i => s.each (onesOf 4 cmask.toNat) fun s c => f s i c

/-- Every gate of a tile closes at once: an unlocked interval begins (R98), or Configure is entered (R84, R113). -/
def State.closeAllTx (s : State) (t : Nat) : State := s.eachCar 0xF 0xFFFF fun s i c => s.closeTxGate t i c
def State.closeAllRx (s : State) (t : Nat) : State := s.eachCar 0xF 0xFFFF fun s i c => s.closeRxGate t i c

/-! ### Retuning (R78, R80, R105, R109, R110) -/

/-- Phase of a carrier accumulator at a quarter q of combining-rate samples from t_A (R81, R106): word times samples since the latest change. -/
def Carrier.phaseAt (k : Carrier) (q : Int) : Nat :=
  let seg := (k.nco.find? fun x => decide (4 * x.first ≤ q)).getD ⟨0, 0, (k.nco.getLast?.map Nco.tw).getD k.tw⟩
  (((seg.phase.toNat : Int) + seg.tw.toInt * (q - 4 * seg.first) / 4) % 2 ^ 48).toNat

/-- A phase-continuous change of the tuning word from sample n on: the accumulator keeps its phase, only its increment changes. -/
def Carrier.retune (k : Carrier) (n : Int) (tw : BitVec 48) : Carrier :=
  { k with tw := tw, nco := ⟨n, BitVec.ofNat 48 (k.phaseAt (4 * n)), tw⟩ :: (if k.nco.isEmpty then [⟨0, 0, k.tw⟩] else k.nco) }

def State.tuneTx (s : State) (t i c : Nat) (tw : BitVec 48) : State :=
  (s.modTxCar (carKey t i c) (·.retune (s.sampleAt t s.now) tw)).markTx t i c s.now 12
def State.tuneRx (s : State) (t i c : Nat) (tw : BitVec 48) : State :=
  (s.modRxCar (carKey t i c) (·.retune (s.sampleAt t s.now) tw)).markRx t i c s.now 12
/-- A response and a ratio from an instant on; those before are kept for the samples taken before it. -/
def Carrier.refilter (k : Carrier) (now : Nat) (resp : BitVec 4) (ratio : BitVec 12) : Carrier :=
  { k with resp := resp, ratio := ratio, filts := keepPast k.filts now (k.resp, k.ratio) }

/-- Response and ratio in force at an instant. -/
def Carrier.filtAt (k : Carrier) (at_ : Int) : BitVec 4 × Nat :=
  let x := pastAt k.filts (k.resp, k.ratio) at_
  (x.1, ratioOf x.2)

def State.filterTx (s : State) (t i c : Nat) (resp : BitVec 4) (ratio : BitVec 12) : State :=
  (s.modTxCar (carKey t i c) (·.refilter s.now resp ratio)).settleTx t i c s.now
def State.filterRx (s : State) (t i c : Nat) (resp : BitVec 4) (ratio : BitVec 12) : State :=
  (s.modRxCar (carKey t i c) (·.refilter s.now resp ratio)).settleRx t i c s.now

/-- The Nyquist zone of a path; only a change of it marks its enabled carriers (R105). -/
def State.setZone (s : State) (t i : Nat) (z : Bool) : State :=
  if s.maskBit (Reg.RXCH_ZONE t) F.RXCH_ZONE_Z i = z then s
  else ((s.setMaskBit (Reg.RXCH_ZONE t) F.RXCH_ZONE_Z i z).modRxPath (pathKey t i) fun p => { p with zones := keepPast p.zones s.now (!z) }).each cars
      fun s c =>
    if (s.rxCfg t c).en then s.settleRx t i c s.now else s

/-! ### Step attenuator (R115 to R120) -/

/-- A step-attenuator code goes out by the path's route: GPIO pins now, or an RFFE frame due now (R115). -/
def State.sendCode (s : State) (t i : Nat) (code : BitVec 6) : State :=
  let a := Reg.RXCH_STEP_CFG t i
  let s := s.setFld a F.RXCH_STEP_CFG_CODE code.toNat
  if s.bit a F.RXCH_STEP_CFG_ROUTE then
    let base := min 26 (s.fld a F.RXCH_STEP_CFG_GPIO_BASE)
    s.each (List.range 6) fun s k =>
      s.modStepPin (base + k) fun p =>
        if p.at_ < s.now ∨ p.path ≤ pathKey t i then ⟨s.now, pathKey t i, code.getLsbD k⟩ else p
  else
    let ra := s.fld a F.RXCH_STEP_CFG_REGADDR
    s.modRffe (4 * t + i / 4) fun m =>
      { m with timed := m.timed ++ [⟨s.now, i, ⟨if ra ≤ 0x1F then 2 else 4, BitVec.ofNat 4 (s.fld a F.RXCH_STEP_CFG_USID),
                                              BitVec.ofNat 16 ra, code.setWidth 8⟩⟩] }

/-- The run of R117 on one carrier: ceil(STEP_SETTLE / P) + S output samples, P = 0.8 x R Tc. -/
def State.markStep (s : State) (t i c T : Nat) : State :=
  let k := s.rxCar (carKey t i c)
  let r := ratioOf k.ratio
  let settle := s.fld (Reg.RXCH_GAINCFG t) F.RXCH_GAINCFG_STEP_SETTLE
  s.markRx t i c T ((5 * settle + 4 * r - 1) / (4 * r) + rxSettle k.resp)

/-- The run of R117 on every enabled carrier of the path. -/
def State.markSteps (s : State) (t i T : Nat) : State :=
  s.each cars fun s c => if (s.rxCfg t c).en then s.markStep t i c T else s

/-- The codes of the compensation after a switch to `code` at an instant (R117, R118): a switch that would come later is overtaken.  The latest 64
are kept. -/
def compsAfter (comps : List (Nat × BitVec 6)) (old : BitVec 6) (at_ : Nat) (code : BitVec 6) : List (Nat × BitVec 6) :=
  ((at_, code) :: (if comps.isEmpty then [(0, old)] else comps.filter fun x => decide (x.1 ≤ at_))).take 64

/-- GAIN with D = 1 and S = 0 at its effect instant (R117): code and compensation now; a decision of gain control waiting is
replaced, a change armed by a GAIN stays (R120). -/
def State.stepNow (s : State) (t i : Nat) (code : BitVec 6) : State :=
  let old := BitVec.ofNat 6 (s.fld (Reg.RXCH_STEP_CFG t i) F.RXCH_STEP_CFG_CODE)
  ((s.sendCode t i code).modRxPath (pathKey t i) fun p =>
    { p with comps := compsAfter p.comps old s.now code, hold := 0,
             gain := match p.gain with | some (g, b) => if g.byAgc then none else some (g, b) | none => none })
  |>.markSteps t i s.now

/-- A step armed for a boundary (R118).  A GAIN whose change it replaces keeps its own effect instant for a FENCE. -/
def State.stepArm (s : State) (t i : Nat) (code : BitVec 6) (byAgc : Bool) (B : Nat) (proc : Nat := 6) : State :=
  s.modRxPath (pathKey t i) fun p =>
    let old := p.replaced.filter fun x => decide (s.tb.toNat < x.2)
    { p with gain := some (⟨code, byAgc, proc⟩, B), hold := if byAgc then p.hold else 0,
             replaced := match p.gain with | some (g, b) => if g.byAgc then old else (g.proc, b) :: old | none => old }

/-- The step fits the cyclic prefix of an NR carrier (R118): B is a boundary of it, and
STEP_SETTLE + (2 x group delay + 1) x P + 32 Tc is at most the prefix less WIN_ADV x P (all times five, P = 4 R / 5 Tc). -/
def State.stepFits (s : State) (t i c tick : Nat) : Bool :=
  let k := s.rxCfg t c
  let x := s.rxCar (carKey t i c)
  let settle := s.fld (Reg.RXCH_GAINCFG t) F.RXCH_GAINCFG_STEP_SETTLE
  let w := s.fld (Reg.RXCH_CARWIN t c) F.RXCH_CARWIN_WIN_ADV
  let o := s.fld (Reg.RXCH_UL_OFFSET t) F.RXCH_UL_OFFSET_OFFSET
  (s.rxBoundary t k tick == tick) &&
  (5 * settle + (2 * rxDelay x.resp + 1) * (4 * ratioOf x.ratio) + 160 + w * (4 * ratioOf x.ratio)
    ≤ 5 * k.prefixLen (k.symAt (tick + o)))

/-- At boundary B the armed step starts; compensation follows STEP_SETTLE later (R118). -/
def State.stepApply (s : State) (t i : Nat) (code : BitVec 6) : State :=
  let settle := s.fld (Reg.RXCH_GAINCFG t) F.RXCH_GAINCFG_STEP_SETTLE
  let old := BitVec.ofNat 6 (s.fld (Reg.RXCH_STEP_CFG t i) F.RXCH_STEP_CFG_CODE)
  let s1 := (s.sendCode t i code).modRxPath (pathKey t i) fun p =>
    { p with gain := none, comps := compsAfter p.comps old (s.now + settle) code }
  s1.each cars fun u c =>
    let k := u.rxCfg t c
    if !k.en then u
    else if k.timeDomain then u.markStep t i c u.now
    else if u.stepFits t i c u.tb.toNat then u
    else (u.markStep t i c u.now).raise (Ev.RX_GAIN_CP_OVERRUN t)

/-! ### Sequencer states (Table 8-1) -/

namespace Seq
@[reducible] def off : Nat := 0
@[reducible] def gateWait : Nat := 1
@[reducible] def gateSettle : Nat := 2
@[reducible] def drainSettle : Nat := 3
@[reducible] def ready : Nat := 4
@[reducible] def sdPa : Nat := 5
@[reducible] def sdDrain : Nat := 6
@[reducible] def fault : Nat := 7
end Seq

def quadKey (t q : Nat) : Nat := 4 * t + q

def State.seqState (s : State) (t q : Nat) : Nat := s.fld (Reg.SEQ_STAT t q) F.SEQ_STAT_STATE
def State.setSeqState (s : State) (t q st : Nat) : State := s.setFld (Reg.SEQ_STAT t q) F.SEQ_STAT_STATE st

/-- A hold of Table 8-4 keeps the PAEN pins of a tile low. -/
def State.paenHeld (s : State) (t : Nat) : Bool :=
  (s.mode != .onAir) || s.quietMute || s.thermShut || s.bit (Reg.TXCH_STATUS t) F.TXCH_STATUS_UNLOCK_HOLD
    || s.bit (Reg.TXCH_STATUS t) F.TXCH_STATUS_MUTE_COAST || s.bit (Reg.TXCH_STATUS t) F.TXCH_STATUS_MUTE_LINK

/-- The PAEN pins of a quad, bit by path in the quad (R217). -/
def State.paenPins (s : State) (t q : Nat) : Nat :=
  if s.seqState t q = Seq.ready ∧ !s.paenHeld t then s.fld (Reg.SEQ_STAT t q) F.SEQ_STAT_PAEN_REC else 0

/-- The intervals in which the PAEN pins of a tile are high follow a change (R180 looks at them later); those that ended long ago are dropped. -/
def State.judgePins (s : State) (t : Nat) : State :=
  s.each paths fun s i =>
    let k := pathKey t i
    let high := (s.paenPins t (i / 4)).testBit (i % 4)
    let lit := (s.txPath k).lit
    if high = lit.any Run.opened then s
    else s.modTxPath k fun p => { p with lit := if high then openRun (p.lit.filter fun x => decide ((s.now : Int) < x.stop + 2 ^ 25)) 0 0 s.now else closeRun p.lit 0 1 s.now }

/-- The gain trim in force of a path (R86, R89). -/
def State.setTrim (s : State) (t i : Nat) (v : BitVec 16) : State :=
  (s.modTxPath (pathKey t i) fun p =>
    { p with gains := keepPast p.gains s.now (BitVec.ofNat 16 (s.fld (Reg.TXCH_GAIN t i) F.TXCH_GAIN_GAIN)) }).setFld
      (Reg.TXCH_GAIN t i) F.TXCH_GAIN_GAIN v.toNat

/-- The unlocked interval of SPLL_n begins: DACs zero, PAEN held low, open gates closed, bursts cut short (R98, R203). -/
def State.enterUnlock (s : State) (t : Nat) : State :=
  ((s.setBit (Reg.TXCH_STATUS t) F.TXCH_STATUS_UNLOCK_HOLD true).setBit (Reg.RXCH_STATUS t) F.RXCH_STATUS_UNLOCK true
    |>.closeAllTx t |>.openRxRuns t 1).judgePins t

/-- It ends: the PAEN pins follow their recorded state; gates stay closed. -/
def State.leaveUnlock (s : State) (t : Nat) : State :=
  ((s.setBit (Reg.TXCH_STATUS t) F.TXCH_STATUS_UNLOCK_HOLD false).setBit (Reg.RXCH_STATUS t) F.RXCH_STATUS_UNLOCK false |>.closeRxRuns t 1).judgePins t

/-! ### Validity of transmit samples (R95, R96, R166) -/

/-- The index at which a path of delay trim d takes sample n: d / 64 samples earlier (R87). -/
def shifted (d : BitVec 13) (n : Int) : Int := (64 * n - d.toInt) / 64

/-- The delay trim in force at an instant of model time. -/
def TxPath.trimAt (p : TxPath) (at_ : Int) : BitVec 13 × BitVec 16 := pastAt p.past (p.delay, p.phase) at_
def RxPath.trimAt (p : RxPath) (at_ : Int) : BitVec 13 × BitVec 16 := pastAt p.past (p.delay, p.phase) at_

/-- Combining-rate sample n of path i of tile t, as it leaves the trims, is invalid: a carrier that contributes to it is, each shifted by the delay (R87), or
the path is marked, from the boundary of a change of the delay on (Table 3-4). -/
def State.txInvalid (s : State) (t i : Nat) (n : Int) : Bool :=
  let p := s.txPath (pathKey t i)
  hitsRun p.runs n (n + 1) ||
  let n := shifted (p.trimAt (s.sampleTime t n / 15)).1 n
  cars.any fun c =>
    let k := s.txCar (carKey t i c)
    let at_ := s.sampleTime t n / 15
    (s.txCfg t c).en && !k.wasBad at_ (at_ + 1) && k.openAt at_ && hitsRun k.runs n (n + 1)

/-- The paths whose runs are marked at the predistortion output of path i: itself, and the cross-term neighbours it takes. -/
def State.dpdSources (s : State) (t i : Nat) : List Nat :=
  if s.fld (Reg.TDPD_CTRL t) F.TDPD_CTRL_XTAPS ≠ 0 ∧ s.maskBit (Reg.TDPD_ENABLE t) F.TDPD_ENABLE_ACTIVE i then
    (if i = 0 then [] else [i - 1]) ++ [i] ++ (if i = 15 then [] else [i + 1])
  else [i]

/-- Predistortion-rate sample m of path i is invalid: a run of k combining-rate samples becomes one of 2 k + 8 (R96). -/
def State.dpdInvalid (s : State) (t i : Nat) (m : Int) : Bool :=
  (s.dpdSources t i).any fun p => (List.range 5).any fun j => s.txInvalid t p (m / 2 - j)

/-! ### Converter gating (R85) -/

/-- The paths that the generator drives in Test (R94). -/
def State.patPaths (s : State) (t : Nat) : Nat :=
  let src := s.fld (Reg.TXCH_PATGEN t) F.TXCH_PATGEN_SRC
  if 1 ≤ src ∧ src ≤ 3 then s.fld (Reg.TXCH_PATGEN t) F.TXCH_PATGEN_PMASK else 0

/-- An injection source of Table 3-3 is active on a path. -/
def State.injecting (s : State) (t i : Nat) : Bool :=
  match s.mode with
  | .calibrate | .onAir =>
    (match (s.cal t).burst with
     | some b => b.pmask.getLsbD i && b.measures false s.now
     | none => false)
  | .test =>
    (s.patPaths t).testBit i
  | _ => false

/-- Something that gives a path's DAC a signal began or ended: a stopped DAC runs again, and the idle time counts anew. -/
def State.wakeDacs (s : State) (t : Nat) (pmask : Nat) : State :=
  s.each (onesOf 16 pmask) fun s i =>
    s.modTxPath (pathKey t i) fun p => { p.wake s.now with idleSince := max p.idleSince s.now }

end Sys2Proof.Machine
end

