-- ==== Sys2Proof/Machine/Dragonfly.lean ====
section
/-!
DEFINITION. The Dragonfly receivers: sample validity, power figures, return loss and mismatch (R172 to R174, R190 to R192), and how
a capture ends (R125).
-/
namespace Sys2Proof.Machine

open Reg F

/-- A sample of receiver r taken at an instant is valid (R174). -/
def State.dflyValid (s : State) (t r at_ : Nat) : Bool :=
  let x := s.dfly (2 * t + r)
  !(decide (x.movedAt ≤ at_) && decide (at_ < x.movedAt + 64) && x.input.isSome) && !hitsRun x.unlocked at_ (at_ + 1) &&
    !(match x.occupied with | some e => decide (x.occFrom ≤ at_) && decide (at_ < e) | none => false) &&
    !(decide (x.imgFrom ≤ at_) && decide (at_ < x.imgStop))

/-- A power difference in 1/256 dB as 1/16 dB. -/
def sixteenths (x : Int) : Int := x / 16 + (if x % 16 ≠ 0 ∧ Config.roundUp x then 1 else 0)

/-- A return-loss result of path i, in 1/16 dB (R191), and the mismatch state it leads to (R192). -/
def State.returnLoss (s : State) (t i rl : Nat) (sim : Bool) : State :=
  let a := DFLY_RL t i
  let thresh := s.fld (DFLY_MM_CFG t) DFLY_MM_CFG_THRESH
  let need := max 1 (s.fld (DFLY_MM_CFG t) DFLY_MM_CFG_COUNT)
  let u := (((s.setFld a DFLY_RL_RL rl).setBit a DFLY_RL_SIM sim).setBit a DFLY_RL_VALID true).setBit a DFLY_RL_FRESH true
  if rl < thresh then
    let v := u.setMmRun (pathKey t i) (min need (s.mmRun (pathKey t i) + 1))
    if need ≤ s.mmRun (pathKey t i) + 1 ∧ !s.bit a DFLY_RL_MM then (v.setBit a DFLY_RL_MM true).raise (Ev.DFLY_MISMATCH t) else v
  else
    let v := u.setMmRun (pathKey t i) 0
    if thresh + 16 ≤ rl then v.setBit a DFLY_RL_MM false else v

/-- The results of a Dragonfly capture that ends: its power (R190); on a reverse coupler the return loss (R191); a training
acquisition is judged 4,096 Tc later (Table 6-4). -/
def State.dflyEnd (s : State) (t d : Nat) : State :=
  let k := s.cap (16 * t + d)
  let r := if k.src = 7 then 0 else 1
  let u := if k.train then s.modDfly (2 * t + r) fun x => { x with trainAt := some (s.now + 4096), trainLen := min 12288 k.done } else s
  if k.valid = 0 ∨ !s.domOn (18 + t) then u
  else
    let p := BitVec.ofInt 16 (decibels 256 k.sum (k.valid * 2 ^ 30))
    let a := DFLY_PWR t r
    let v := ((u.setFld a DFLY_PWR_POWER p.toNat).setBit a DFLY_PWR_VALID true).setBit a DFLY_PWR_FRESH true
    if k.kind = 0 then v.setFwdPower (pathKey t k.pidx) (some ⟨p.toInt, s.now, k.at_, k.len⟩)
    else if k.kind = 1 then
      match s.fwdPower (pathKey t k.pidx) with
      | some f =>
        if 100 * (s.now - f.ended) ≤ 196608 * s.fld (DFLY_MM_CFG t) DFLY_MM_CFG_AGE ∧ -10240 ≤ f.power then
          let ofs := signed 16 (s.fld (DFLY_CPL_OFS t k.pidx) DFLY_CPL_OFS_OFS)
          v.returnLoss t k.pidx (clampI 0 480 (sixteenths (f.power - p.toInt) + ofs)).toNat
            (decide (f.began = k.at_ ∧ f.len = k.len))
        else v
      | none => v
    else v

/-- A capture ends: cause in CAP_STAT_d, CAPT_DONE, CAPT_OVERRUN for an overrun, and the results of a Dragonfly capture. -/
def State.endCapture (s : State) (t d cause : Nat) : State :=
  let a := RXCH_CAP_STAT t d
  let u := ((s.setFld a RXCH_CAP_STAT_STATE 3).setFld a RXCH_CAP_STAT_END cause).raise (Ev.CAPT_DONE t)
  let v := if cause = 4 then u.raise (Ev.CAPT_OVERRUN t) else u
  if 7 ≤ (s.cap (16 * t + d)).src ∧ s.fld a RXCH_CAP_STAT_STATE = 2 then v.dflyEnd t d else v

/-- A capture is in progress on the descriptor. -/
def State.capturing (s : State) (t d : Nat) : Bool := s.fld (RXCH_CAP_STAT t d) RXCH_CAP_STAT_STATE == 2

/-- A capture is in progress on receiver r. -/
def State.dflyBusy (s : State) (t r : Nat) : Bool :=
  paths.any fun d => s.capturing t d && (let k := (s.cap (16 * t + d)).src; if r = 0 then k == 7 else k == 8 || k == 9)

/-- Receiver r is occupied at present (R175). -/
def State.dflyOccupied (s : State) (t r : Nat) : Bool :=
  let x := s.dfly (2 * t + r)
  (match x.occupied with | some e => decide (x.occFrom ≤ s.now) && decide (s.now < e) | none => false)
    || (decide (x.imgFrom ≤ s.now) && decide (s.now < x.imgStop))

/-- The switch of receiver r moves to an input (R173); one already selected does not move. -/
def State.moveSwitch (s : State) (t r : Nat) (input : Nat × Nat) : State :=
  s.modDfly (2 * t + r) fun x => if x.input = some input then x else { x with input := some input, movedAt := s.now }

end Sys2Proof.Machine
end

