-- ==== Sys2Proof/Machine/Dram.lean ====
section
/-!
DEFINITION. On-die stores and DRAM (chapter 15): channels, availability, the ports and their arbitration, refresh, training, and
the window.
-/
namespace Sys2Proof.Machine

open Reg F

/-! ### Size, channels and contents (R362, R373, R376) -/

/-- Channel c is in use (CFG.CH). -/
def State.dramUses (s : State) (c : Nat) : Bool :=
  match s.fld DRAMC_CFG DRAMC_CFG_CH with
  | 0 => true
  | 1 => c == 0
  | 2 => c == 1
  | _ => false

/-- The fitted size in bytes: 2, 4, 8 or 16 GiB for each channel in use. -/
def State.dramFitted (s : State) : Nat :=
  (b2n (s.dramUses 0) + b2n (s.dramUses 1)) * (2 ^ s.fld DRAMC_CFG DRAMC_CFG_DENSITY * 2 ^ 31)

/-- The channel of a DRAM address: address[8] with both channels in use. -/
def State.dramChan (s : State) (a : Nat) : Nat :=
  match s.fld DRAMC_CFG DRAMC_CFG_CH with
  | 0 => a / 256 % 2
  | 2 => 1
  | _ => 0

/-- The address within its channel (R362), and the place of a byte among those kept, by channel and channel address. -/
def State.chanAddr (s : State) (a : Nat) : Nat := if s.fld DRAMC_CFG DRAMC_CFG_CH = 0 then a / 512 * 256 + a % 256 else a
def State.dramKey (s : State) (a : Nat) : Nat := 2 * s.chanAddr a + s.dramChan a

/-- A byte of DRAM. -/
def State.dramByte (s : State) (a : Nat) : Byte :=
  match s.dramCell (s.dramKey a) with
  | some b => b
  | none => Config.dramByte (s.dramChan a) (s.dramCh (s.dramChan a)).losses (s.chanAddr a)

/-- Bytes stored from an address on, and bytes read. -/
def State.dramStore (s : State) (a : Nat) : List Byte → State
  | [] => s
  | b :: bs => State.dramStore (s.setDramCell (s.dramKey a) (some b)) (a + 1) bs
def State.dramLoad (s : State) (a n : Nat) : List Byte := (List.range n).map fun k => s.dramByte (a + k)

/-- The contents of a channel are lost or become undefined. -/
def State.dramLose (s : State) (c : Nat) : State :=
  { s with dram := s.dram.filter fun x => x.1 % 2 != c }.modDramCh c fun k => { k with losses := k.losses + 1 }

/-- An access that is not performed is counted (R362). -/
def State.dramError (s : State) : State :=
  (s.bump DRAMC_ACCESS_ERR_COUNT DRAMC_CNT_FLAGS 6 1).raise Ev.DRAM_ACCESS_ERROR

/-- An access of n bytes at an address lies within the fitted size. -/
def State.dramWithin (s : State) (a n : Nat) : Bool := a + n ≤ s.dramFitted

/-- A request of port p that is not performed: counted; a write is discarded, a read returns zeros (R362). -/
def State.refuseReq (s : State) (p : Nat) (r : DramReq) : State :=
  let u := s.dramError
  if r.write then u else u.emit (.dramRead p r.addr (List.replicate r.len 0))

/-! ### Channel states (Table 15-2), availability (R363) and the journal's switch (R275, R313) -/

def dramOff : Nat := 0
def dramInit : Nat := 1
def dramActive : Nat := 2
def dramSweeping : Nat := 3
def dramSelfRefresh : Nat := 4
def dramFailed : Nat := 5

def chanField (c : Nat) : Fld := if c = 0 then DRAMC_STATUS_STATE_0 else DRAMC_STATUS_STATE_1
def State.chanState (s : State) (c : Nat) : Nat := s.fld DRAMC_STATUS (chanField c)

/-- DRAM is available while every channel in use is ACTIVE and the DRAM PLL is locked. -/
def State.dramReady (s : State) : Bool :=
  (s.fld DRAMC_CFG DRAMC_CFG_CH != 3) && s.dramLock &&
    [0, 1].all fun c => !s.dramUses c || s.chanState c == dramActive

/-- The journal is judged again: on 0 to 1 of ACTIVE, OLDEST becomes the next record number (R313). -/
def State.judgeJournal (s : State) : State :=
  let en := s.bit MAC_FH_JRN_CFG MAC_FH_JRN_CFG_EN
  let on := en && s.bit DRAMC_STATUS DRAMC_STATUS_AVAIL
  let u := (s.setBit MAC_FH_JRN_STAT MAC_FH_JRN_STAT_ACTIVE on).setFld MAC_FH_JRN_STAT MAC_FH_JRN_STAT_CAUSE
    (if !en then 1 else if on then 0 else 2)
  { u with jrnOn := on, jrnOldest := if on && !s.jrnOn then s.jrnNext else s.jrnOldest,
           jrnRecs := if on && !s.jrnOn then [] else s.jrnRecs }

/-- STATUS.AVAIL is judged again; what becomes unavailable refuses the bulk requests it holds, and a capture writing to it ends as an
overrun (R363, R364). -/
def State.judgeDram (s : State) : State :=
  let was := s.bit DRAMC_STATUS DRAMC_STATUS_AVAIL
  let now := s.dramReady
  let u := (s.setBit DRAMC_STATUS DRAMC_STATUS_AVAIL now).judgeJournal
  if was && !now then
    let u := u.each [2, 3] fun u p =>
      ((u.setDramPort p {}).each ((u.dramPort p).queue ++ (u.dramPort p).waiting) fun u r => u.refuseReq p r)
    u.each tiles fun u t => u.each paths fun u d =>
      if u.capturing t d && (u.cap (16 * t + d)).dram then u.endCapture t d 4 else u
  else u

def State.setChan (s : State) (c st : Nat) : State := (s.setFld DRAMC_STATUS (chanField c) st).judgeDram

/-- A channel is initialised; it verifies after that (R374, R376). -/
def State.initChan (s : State) (c : Nat) : State :=
  (s.modDramCh c fun k => { k with rows := [], owed := [], covered := [] }).setChan c dramInit

/-! ### Rows (R367, R368) -/

/-- The neighbours of a chosen row are activated and precharged: two, or one at an end of the bank. -/
def State.refreshPair (s : State) (c bank row : Nat) : State :=
  let below := if row = 0 then [] else [row - 1]
  let above := if Config.dramLastRow ≤ row then [] else [row + 1]
  (s.each (below ++ above) fun s r => s.emit (.rowRefresh c bank r)).bump DRAMC_NREF_COUNT DRAMC_CNT_FLAGS 0 1

/-- A bank is precharged: its row closes, and the neighbours of a chosen one are refreshed before any other activate to the bank. -/
def State.closeBank (s : State) (c bank : Nat) : State :=
  let owed := (s.dramCh c).owed.filter fun x => x.1 == bank
  (s.modDramCh c fun k => { k with rows := k.rows.filter fun x => x.1 != bank, owed := k.owed.filter fun x => x.1 != bank }).each owed
    fun s x => s.refreshPair c x.1 x.2
def State.closeBanks (s : State) (c : Nat) : State := s.each ((s.dramCh c).rows.map (·.1)) fun s b => s.closeBank c b

/-- An access to a place of a channel: an activate unless its row is open, which the random source chooses with probability 2^-K; with IDLE = 0 the row
closes after it. -/
def State.openRow (s : State) (c a random : Nat) : State :=
  let (bank, row) := Config.dramPlace a
  let hit := (s.dramCh c).rows.any fun x => x.1 == bank && x.2.1 == row
  let chosen := !hit && s.bit DRAMC_RH_CFG DRAMC_RH_CFG_EN && random % 2 ^ clampN 4 16 (s.fld DRAMC_RH_CFG DRAMC_RH_CFG_K) == 0
  let u := (if hit then s else s.closeBank c bank).modDramCh c fun k =>
    { k with rows := (bank, row, s.now) :: k.rows.filter (fun x => x.1 != bank), owed := if chosen then k.owed ++ [(bank, row)] else k.owed }
  if s.fld DRAMC_PAGE_CFG DRAMC_PAGE_CFG_IDLE = 0 then u.closeBank c bank else u

/-! ### The ports (R362, R365, R366) -/

/-- Units of 64 bytes a request fills, and the buffer of each port in those units (Table 15-3). -/
def DramReq.units (r : DramReq) : Nat := (r.bytes.length + 63) / 64
def portUnits (p : Nat) : Nat := match p with | 0 | 1 => 1024 | 2 => 256 | _ => 64
def DramPort.level (p : DramPort) : Nat := (p.queue.map DramReq.units).sum

/-- A real-time port's level is shown, and its panic judged (R366). -/
def State.judgePanic (s : State) (p : Nat) : State :=
  if 1 < p then s
  else
    let lvl := (s.dramPort p).level
    let f := if p = 0 then DRAMC_PORT_STAT_PANIC_0 else DRAMC_PORT_STAT_PANIC_1
    let u := s.setFld DRAMC_PORT_STAT (if p = 0 then DRAMC_PORT_STAT_LEVEL_0 else DRAMC_PORT_STAT_LEVEL_1) lvl
    if u.bit DRAMC_PORT_STAT f then
      if lvl ≤ 16 * u.fld DRAMC_PANIC_CFG DRAMC_PANIC_CFG_LO then u.setBit DRAMC_PORT_STAT f false else u
    else if 16 * u.fld DRAMC_PANIC_CFG DRAMC_PANIC_CFG_HI < lvl then
      ((u.setBit DRAMC_PORT_STAT f true).bump DRAMC_PANIC_COUNT DRAMC_CNT_FLAGS 2 1).raise Ev.DRAM_PANIC
    else u

/-- A request fits the buffer of its port. -/
def State.portRoom (s : State) (p : Nat) (r : DramReq) : Bool := (s.dramPort p).level + r.units ≤ portUnits p

/-- A request enters the buffer of a port that has room for it. -/
def State.portPush (s : State) (p : Nat) (r : DramReq) : State :=
  (s.modDramPort p fun q => { q with queue := q.queue ++ [r] }).judgePanic p

/-- An access cut where the channels alternate, at multiples of 256 bytes: addresses and lengths. -/
def blocks : Nat → Nat → Nat → List (Nat × Nat)
  | 0, _, _ => []
  | f + 1, a, n => if n = 0 then [] else let m := min n (256 - a % 256); (a, m) :: blocks f (a + m) (n - m)

/-- The requests of a write, and of a read of n bytes. -/
def State.writeReqs (s : State) (a : Nat) (bs : List Byte) (journal : Bool) : List DramReq :=
  (blocks (bs.length + 1) a bs.length).map fun x => ⟨s.dramChan x.1, x.1, true, (bs.drop (x.1 - a)).take x.2, journal, x.2⟩
def State.readReqs (s : State) (a n : Nat) : List DramReq := (blocks (n + 1) a n).map fun x => ⟨s.dramChan x.1, x.1, false, [], false, x.2⟩

/-- Requests fit the buffer of their port. -/
def State.portFits (s : State) (p : Nat) (rs : List DramReq) : Bool := (s.dramPort p).level + (rs.map DramReq.units).sum ≤ portUnits p
def State.portPushAll (s : State) (p : Nat) (rs : List DramReq) : State := s.each rs fun s r => s.portPush p r

/-- DRAM_PORT_REQUEST: an address at or above the fitted size is refused (R362); bulk requests also while DRAM is unavailable
(R363).  With its buffer full a bulk request waits; a real-time one is not written (Table 15-3). -/
def State.portRequest (s : State) (p : Nat) (write : Bool) (a : Nat) (bs : List Byte) : State :=
  let rs := if write then s.writeReqs a bs false else s.readReqs a 64
  if !s.dramWithin a (if write then max 1 bs.length else 64) || (2 ≤ p && !s.bit DRAMC_STATUS DRAMC_STATUS_AVAIL) then
    s.refuseReq p ⟨s.dramChan a, a, write, bs, false, 64⟩
  else if s.portFits p rs && (s.dramPort p).waiting.isEmpty then s.portPushAll p rs
  else if 2 ≤ p then s.modDramPort p fun q => { q with waiting := q.waiting ++ rs }
  else s

/-- Requests that waited enter as room allows. -/
def State.portRefill (s : State) (p : Nat) : State :=
  match (s.dramPort p).waiting with
  | r :: rest => if s.portRoom p r then (s.modDramPort p fun q => { q with waiting := rest }).portPush p r else s
  | [] => s

/-- The next request of a port for a channel: within RT0 journal and index writes first (R313, R365). -/
def DramPort.next (q : DramPort) (c : Nat) : Option DramReq :=
  match q.queue.find? fun r => r.chan == c && r.journal with
  | some r => some r
  | none => q.queue.find? fun r => r.chan == c

/-- Weight of a port in the round robin (ARB_CFG); 0 acts as 1. -/
def State.portWeight (s : State) (p : Nat) : Nat :=
  max 1 (s.fld DRAMC_ARB_CFG (match p with
    | 0 => DRAMC_ARB_CFG_W_RT0 | 1 => DRAMC_ARB_CFG_W_RT1 | 2 => DRAMC_ARB_CFG_W_BULK0 | _ => DRAMC_ARB_CFG_W_BULK1))

/-- The port served at a command slot of channel c: one in panic, RT0 before RT1; else the port whose turn it is while it has
credit left, then the next with a request (log entry 9). -/
def State.pickPort (s : State) (c : Nat) : Option Nat :=
  let wants := fun p => ((s.dramPort p).next c).isSome
  match [0, 1].find? fun p => s.bit DRAMC_PORT_STAT (if p = 0 then DRAMC_PORT_STAT_PANIC_0 else DRAMC_PORT_STAT_PANIC_1) && wants p with
  | some p => some p
  | none =>
    let turn := s.dramTurn % 4
    ((if 0 < (s.dramPort turn).credit then [turn] else []) ++ [(turn + 1) % 4, (turn + 2) % 4, (turn + 3) % 4, turn]).find? wants

/-- The round robin after port p has been served. -/
def State.servePort (s : State) (p : Nat) : State :=
  if s.dramTurn % 4 = p ∧ 0 < (s.dramPort p).credit then s.modDramPort p fun q => { q with credit := q.credit - 1 }
  else { (s.modDramPort p fun q => { q with credit := s.portWeight p - 1 }) with dramTurn := p }

/-- A request of port p is performed: a write stores its bytes, a read hands them to the port's user; one beyond the fitted size is not. -/
def State.perform (s : State) (p : Nat) (r : DramReq) : State :=
  let u := ((s.modDramPort p fun q => { q with queue := q.queue.erase r }).judgePanic p).portRefill p
  if !u.dramWithin r.addr (if r.write then r.bytes.length else r.len) then u.refuseReq p r
  else if r.write then u.dramStore r.addr r.bytes
  else u.emit (.dramRead p r.addr (u.dramLoad r.addr r.len))

/-- A command slot of channel c serves port p: its next request there, if it has one. -/
def State.servePortNext (s : State) (c p random : Nat) : State :=
  match (s.dramPort p).next c with
  | none => s
  | some r => ((s.servePort p).openRow c (s.chanAddr r.addr) random).perform p r

/-- Every request that port p holds for channel c is served, in their order. -/
def State.drainPort (s : State) (p c : Nat) : State :=
  s.each ((s.dramPort p).queue ++ (s.dramPort p).waiting) fun s _ => (s.servePortNext c p s.freeNow.toNat).useFree

/-- An access that a unit of the part completes through port p: after the requests the port holds for its channels, each of its own opens a row
(R365, R367; log entry 117). -/
def State.portAccess (s : State) (p : Nat) (rs : List DramReq) : State :=
  s.each rs fun s r => (((s.drainPort p r.chan).servePort p).openRow r.chan (s.chanAddr r.addr) (s.drainPort p r.chan).freeNow.toNat).useFree

/-- A bulk read or write of port p: performed while DRAM is available and the address fitted, else zeros, or discarded (R362, R363). -/
def State.bulkRead (s : State) (p a n : Nat) : State × List Byte :=
  if s.bit DRAMC_STATUS DRAMC_STATUS_AVAIL && s.dramWithin a n then
    let u := s.portAccess p (s.readReqs a n)
    (u, u.dramLoad a n)
  else (s.dramError, List.replicate n 0)
def State.bulkWrite (s : State) (p a : Nat) (bs : List Byte) : State :=
  if s.bit DRAMC_STATUS DRAMC_STATUS_AVAIL && s.dramWithin a bs.length then (s.portAccess p (s.writeReqs a bs false)).dramStore a bs
  else s.dramError

/-- Refresh debt field of a channel (R369). -/
def debtField (c : Nat) : Fld := if c = 0 then DRAMC_STATUS_DEBT_0 else DRAMC_STATUS_DEBT_1

/-- A real-time request waits for a bank of channel c while a real-time port is in panic (R369). -/
def State.bankWanted (s : State) (c bank : Nat) : Bool :=
  (s.bit DRAMC_PORT_STAT DRAMC_PORT_STAT_PANIC_0 || s.bit DRAMC_PORT_STAT DRAMC_PORT_STAT_PANIC_1) &&
    [0, 1].any fun p => (s.dramPort p).queue.any fun r => r.chan == c && (Config.dramPlace (s.chanAddr r.addr)).1 == bank

/-- Refreshes go on: the channel is ACTIVE or SWEEP and its controller issues commands (R372, R376). -/
def State.refreshes (s : State) (c : Nat) : Bool := s.dramLock && (s.chanState c == dramActive || s.chanState c == dramSweeping)

/-- DRAM_COMMAND_SLOT: the request the arbiter picks, or the refresh of a bank; a set that has covered every bank takes one from the debt. -/
def State.commandSlot (s : State) (c : Nat) (w : DramSlot) : State :=
  match w with
  | .request random =>
    if !s.bit DRAMC_STATUS DRAMC_STATUS_AVAIL then s
    else match s.pickPort c with
      | none => s
      | some p => s.servePortNext c p random
  | .refreshBank bank =>
    let d := s.fld DRAMC_STATUS (debtField c)
    if d = 0 ∨ !s.refreshes c ∨ s.bankWanted c bank then s
    else
      let covered := if (s.dramCh c).covered.contains bank then (s.dramCh c).covered else (s.dramCh c).covered ++ [bank]
      let whole := (List.range Config.dramBanks).all covered.contains
      let u := (s.closeBank c bank).modDramCh c fun k => { k with covered := if whole then [] else covered }
      if whole then u.setFld DRAMC_STATUS (debtField c) (d - 1) else u

/-- REFRESH_INTERVAL: a tREFI of channel c ends; debt 8 forces an all-bank refresh, which closes every row (R369). -/
def State.refreshInterval (s : State) (c : Nat) : State :=
  if !s.refreshes c then s
  else
    let d := s.fld DRAMC_STATUS (debtField c) + 1
    if d < 8 then s.setFld DRAMC_STATUS (debtField c) d
    else (((s.closeBanks c).setFld DRAMC_STATUS (debtField c) 7).bump DRAMC_FORCED_REF_COUNT DRAMC_CNT_FLAGS 1 1).raise Ev.DRAM_REFRESH_FORCED

/-- PAGE_IDLE_CLOSE: a bank with no access for PAGE_CFG.IDLE ns is precharged (R367). -/
def State.pageIdleClose (s : State) (c bank : Nat) : State :=
  match (s.dramCh c).rows.find? fun x => x.1 == bank with
  | none => s
  | some x => (s.advance (x.2.2 + nsTc (s.fld DRAMC_PAGE_CFG DRAMC_PAGE_CFG_IDLE))).closeBank c bank

/-! ### Training (R371 to R376) -/

/-- A verify or sweep starts on a channel: ACTIVE or FAILED, or one the device brings back. -/
def State.trainStart (s : State) (c : Nat) (sweep host : Bool) : State :=
  (s.modDramCh c fun k => { k with sweep := sweep, host := host, began := s.now }).setChan c dramSweeping

/-- CMD.OP 1 and 2 on the channels of CHMASK (R372). -/
def State.dramCmd (s : State) (sweep : Bool) (mask : Nat) : State :=
  s.each (onesOf 2 mask) fun s c =>
    if s.dramUses c && (s.chanState c == dramActive || s.chanState c == dramFailed) then
      (s.modDramCh c fun k => { k with failed := s.chanState c == dramFailed }).trainStart c sweep true
    else s

/-- The hub reading in force, in 1/16 degree C (R451). -/
def State.dieTemp (s : State) (d : Nat) : Int := signed 16 (s.fld (THERM_READING d) THERM_READING_TEMP)

/-- The passing windows of a byte lane's test, as first delay and width. -/
def windows (m : BitVec 256) : List (Nat × Nat) :=
  (List.range 256).foldl (fun (l : List (Nat × Nat)) d =>
    if !m.getLsbD d then l
    else match l with
      | (a, w) :: rest => if a + w = d then (a, w + 1) :: rest else (d, 1) :: l
      | [] => [(d, 1)]) []

/-- The widest window; `pick` chooses among equally wide ones (log entry 117). -/
def widest (m : BitVec 256) (pick : Nat) : Nat × Nat :=
  let ws := windows m
  let most := ws.foldl (fun n x => max n x.2) 0
  let best := ws.filter fun x => x.2 == most
  best.getD (pick % max 1 best.length) (0, 0)

/-- The centre of a window. -/
def centre (w : Nat × Nat) : Nat := w.1 + (w.2 - 1) / 2 + (if w.2 % 2 = 0 ∧ w.2 ≠ 0 ∧ Config.roundCentre w.1 w.2 then 1 else 0)

/-- The test of a lane passes at a delay and at 4 steps to either side. -/
def passesAbout (m : BitVec 256) (d : Nat) : Bool := decide (4 ≤ d) && [d - 4, d, d + 4].all fun x => m.getLsbD x

/-- Byte l of a pair of words, LO and HI, of eight lanes; and the pair that eight values make. -/
def State.laneDelay (s : State) (lo hi l : Nat) : Nat := ((s.reg (if l < 4 then lo else hi)).toNat >>> (8 * (l % 4))) % 256
def laneWord (f : Nat → Nat) (half : Nat) : Word := BitVec.ofNat 32 ((List.range 4).foldl (fun v l => v + min 255 (f (4 * half + l)) * 2 ^ (8 * l)) 0)

/-- A verify passes: every lane does, at its read and its write delay (R372). -/
def State.verifyPasses (s : State) (c : Nat) (read write : List (BitVec 256)) : Bool :=
  (List.range 8).all fun l => passesAbout (read.getD l 0) (s.laneDelay (DRAMC_RDLY_LO c) (DRAMC_RDLY_HI c) l)
    && passesAbout (write.getD l 0) (s.laneDelay (DRAMC_WDLY_LO c) (DRAMC_WDLY_HI c) l)

/-- Rilyn may use chip select 0: no stream holds it; and it may start a program or an erase (R413, R434, R444). -/
def State.flashOpen (s : State) : Bool := (s.qspi.map Qspi.cs) != some 0
def State.flashFree (s : State) : Bool := s.flashOpen && !s.bit PMU_WARN_STAT PMU_WARN_STAT_FROZEN && !s.thermShut

/-- Rilyn stores the delays of a sweep in flash, or does so when it next may (R372, R413). -/
def State.storeDelays (s : State) : State :=
  if s.flashFree then
    { s with delaySet := s.delaySet.filter (fun (x : Nat × Word) => !(s.delayDue.map Prod.fst).contains x.1) ++ s.delayDue, delayDue := [] }
  else s
def State.delaysFound (s : State) (ds : List (Nat × Word)) : State :=
  { s with delayDue := s.delayDue.filter (fun (x : Nat × Word) => !(ds.map Prod.fst).contains x.1) ++ ds }.storeDelays

/-- A sweep of channel c ends (R372, R373): the width of each lane, the narrower of its two tests', is recorded; where every one has 8 steps the centres become
the delays, which Rilyn then stores in flash. -/
def State.sweepEnd (s : State) (c : Nat) (read write : List (BitVec 256)) (pick : Nat) : State :=
  let rd := fun (l : Nat) => widest (read.getD l 0) pick
  let wr := fun (l : Nat) => widest (write.getD l 0) pick
  let width := fun (l : Nat) => min (rd l).2 (wr l).2
  let u := { ((s.setReg (DRAMC_WINW_LO c) (laneWord width 0)).setReg (DRAMC_WINW_HI c) (laneWord width 1)) with
    dramSwept := some (s.dieTemp 0), dramDueTold := false }
  let v := u.setBit DRAMC_STATUS DRAMC_STATUS_RETRAIN_DUE false
  if (List.range 8).all fun l => decide (8 ≤ width l) then
    let ds : List (Nat × Word) := [(DRAMC_RDLY_LO c, laneWord (centre ∘ rd) 0), (DRAMC_RDLY_HI c, laneWord (centre ∘ rd) 1),
      (DRAMC_WDLY_LO c, laneWord (centre ∘ wr) 0), (DRAMC_WDLY_HI c, laneWord (centre ∘ wr) 1)]
    (((v.each ds fun (v : State) (x : Nat × Word) => v.setReg x.1 x.2).delaysFound ds).setChan c dramActive).raise Ev.DRAM_TRAIN_DONE
  else (((v.dramLose c).setChan c dramFailed).raise Ev.DRAM_CHANNEL_FAILED).raise Ev.DRAM_TRAIN_DONE

/-- DRAM_TRAINING_END: the operation on channel c ends, at most 200 µs after a verify began and 5 ms after a sweep did; not while the PLL has no lock.  A host's
verify shows its outcome; one of the device's own that fails is followed by a sweep. -/
def State.trainingEnd (s : State) (c : Nat) (read write : List (BitVec 256)) (pick after : Nat) : State :=
  if s.chanState c ≠ dramSweeping ∨ !s.dramLock then s
  else
    let k := s.dramCh c
    let s := s.advance (k.began + min after (usTc (if k.sweep then 5000 else 200)))
    if k.sweep then s.sweepEnd c read write pick
    else
      let ok := s.verifyPasses c read write
      if k.host then
        ((s.setBit DRAMC_STATUS (if c = 0 then DRAMC_STATUS_VFAIL_0 else DRAMC_STATUS_VFAIL_1) (!ok)).setChan c
          (if k.failed then dramFailed else dramActive)).raise Ev.DRAM_TRAIN_DONE
      else if ok then (s.setChan c dramActive).raise Ev.DRAM_TRAIN_DONE
      else (s.raise Ev.DRAM_TRAIN_DONE).trainStart c true false

/-- DRAM_INIT_DONE: initialisation of channel c ends, and the controller verifies it (R374, R376). -/
def State.dramInitDone (s : State) (c : Nat) : State :=
  if s.chanState c ≠ dramInit ∨ !s.dramLock then s else s.trainStart c false false

/-- A channel that was FAILED before the operation on it is FAILED again: only a successful sweep makes it ACTIVE (R373). -/
def State.stillFailed (s : State) (c : Nat) : Bool :=
  s.chanState c == dramFailed || (s.chanState c == dramSweeping && (s.dramCh c).host && (s.dramCh c).failed)

/-- Every port's requests are abandoned (R375). -/
def State.abandonPorts (s : State) : State := s.each [0, 1, 2, 3] fun s p => (s.setDramPort p {}).judgePanic p

/-- Self-refresh of a channel that is ACTIVE; one being trained abandons that (R375, Table 15-4). -/
def State.selfRefresh (s : State) : State :=
  s.abandonPorts.each [0, 1] fun s c =>
    if s.stillFailed c then s.setChan c dramFailed
    else if s.chanState c == dramActive || s.chanState c == dramSweeping then (s.closeBanks c).setChan c dramSelfRefresh
    else s

/-- Every channel goes to OFF and loses its contents: cold start, or its domain switched off (R374, R375). -/
def State.dramPowerOff (s : State) : State :=
  s.abandonPorts.each [0, 1] fun s c => ((s.dramLose c).modDramCh c fun k => { k with rows := [], owed := [], covered := [] }).setChan c dramOff

/-- The lock of the DRAM PLL returns, or comes after a start: a channel in use leaves self-refresh without initialisation and is verified; any other but a FAILED one
is initialised with the delays held (R375, R376). -/
def State.dramLocked (s : State) : State :=
  ({ s with dramLock := true }.each [0, 1] fun s c =>
    if !s.dramUses c then s
    else if s.chanState c = dramSelfRefresh then s.trainStart c false false
    else if s.stillFailed c then s.setChan c dramFailed
    else s.initChan c).judgeDram

/-- Loss of the DRAM PLL's lock: commands stop, DRAM is unavailable, contents are undefined but in self-refresh (R376, Table 15-4). -/
def State.dramUnlock (s : State) : State :=
  ({ s with dramLock := false }.each [0, 1] fun s c =>
    if s.chanState c = dramSelfRefresh ∨ s.chanState c = dramOff ∨ s.chanState c = dramFailed then s
    else (s.dramLose c).modDramCh c fun k => { k with rows := [], owed := [], covered := [] }).judgeDram.raise Ev.DRAM_PLL_UNLOCK

/-- A write of CFG, Configure only: a channel it brings into use is initialised if it is OFF (Table 15-4). -/
def State.dramCfgWrite (s : State) (w : Word) : State :=
  s.configOnly fun s =>
    ((s.plainWrite DRAMC_CFG w).each [0, 1] fun s c =>
      if s.dramUses c then (if s.chanState c = dramOff then s.initChan c else s) else s.setChan c dramOff).judgeDram

/-! ### Stores and the window (R359, R361) -/

/-- STORE_ECC_ERROR of a store (0 symbol store, 1 capture SRAM, 2 weight store): counts and the record of R359.
Corrected errors of the weight store count in SLALOM (R155); what an uncorrectable one strikes comes as ENGINE_SOFT_ERROR. -/
def State.storeError (s : State) (store : Nat) (fatal : Bool) (word : Nat) : State :=
  if fatal then
    let u := if s.bit DRAMC_ECC_STAT DRAMC_ECC_STAT_UNCORR then s
      else ((s.setFld DRAMC_ECC_STAT DRAMC_ECC_STAT_STORE store).setFld DRAMC_ECC_STAT DRAMC_ECC_STAT_WORD word).setBit
        DRAMC_ECC_STAT DRAMC_ECC_STAT_UNCORR true
    (u.bump DRAMC_STORE_UNCORR DRAMC_CNT_FLAGS 4 1).raise Ev.STORE_UNCORRECTABLE
  else if store = 2 then s.bump SLALOM_ECC_CORRECTED SLALOM_CNT_FLAGS 7 1
  else s.bump DRAMC_STORE_CORR DRAMC_CNT_FLAGS 3 1

/-- The window's byte address, and its advance. -/
def State.winAddr (s : State) : Nat :=
  s.fld DRAMC_WIN_ADDR_HI DRAMC_WIN_ADDR_HI_ADDR * 2 ^ 32 + s.fld DRAMC_WIN_ADDR_LO DRAMC_WIN_ADDR_LO_ADDR * 4
def State.winAdvance (s : State) : State :=
  let a := (s.winAddr + 4) % 2 ^ 36
  (s.setFld DRAMC_WIN_ADDR_HI DRAMC_WIN_ADDR_HI_ADDR (a / 2 ^ 32)).setFld DRAMC_WIN_ADDR_LO DRAMC_WIN_ADDR_LO_ADDR (a % 2 ^ 32 / 4)

/-- Size of the window's target in bytes (Table 15-1). -/
def State.winSize (s : State) : Nat :=
  match s.fld DRAMC_WIN_CTRL DRAMC_WIN_CTRL_TGT with
  | 0 => 48 * 2 ^ 20
  | 1 => 16 * 2 ^ 20
  | 2 => 4 * 2 ^ 20
  | _ => s.dramFitted

/-- Four bytes, lowest address first, as a word; and its bytes. -/
def wordOf (bs : List Byte) : Word :=
  (bs.getD 3 0 ++ bs.getD 2 0 ++ bs.getD 1 0 ++ bs.getD 0 0 : BitVec 32)
def bytesOf (w : Word) : List Byte := [w.setWidth 8, (w >>> 8).setWidth 8, (w >>> 16).setWidth 8, (w >>> 24).setWidth 8]

/-- Bytes of the capture SRAM. -/
def State.sramStore (s : State) (a : Nat) : List Byte → State
  | [] => s
  | b :: bs => State.sramStore (s.setCapByte a b) (a + 1) bs
def State.sramLoad (s : State) (a n : Nat) : List Byte := (List.range n).map fun k => s.capByte (a + k)

/-- The word at a byte address of the symbol store: zero while nothing has been written since it was cleared (R360); else a free value that stays as long as
nothing is written, for the place of data within the store is not given (R361; log entry 76). -/
def State.symRead (s : State) (a : Nat) : Word := if s.symWrites = s.symClear then 0 else Config.symWord s.symWrites a

/-- WIN_DATA_READ; the DRAM by the management port. -/
def State.winRead (s : State) : State :=
  let a := s.winAddr
  let u :=
    if s.winSize ≤ a then
      { (if s.fld DRAMC_WIN_CTRL DRAMC_WIN_CTRL_TGT = 3 then s.dramError else s).accessError with reply := 0 }
    else match s.fld DRAMC_WIN_CTRL DRAMC_WIN_CTRL_TGT with
      | 0 => { s with reply := s.symRead a }
      | 1 => { s with reply := s.weight (a / 4) }
      | 2 => { s with reply := wordOf (s.sramLoad a 4) }
      | _ => let (u, bs) := s.bulkRead 3 a 4
             { u with reply := wordOf bs }
  u.winAdvance

/-- WIN_DATA_WRITE. -/
def State.winWrite (s : State) (w : Word) : State :=
  let a := s.winAddr
  let u :=
    if s.winSize ≤ a then (if s.fld DRAMC_WIN_CTRL DRAMC_WIN_CTRL_TGT = 3 then s.dramError else s).accessError
    else match s.fld DRAMC_WIN_CTRL DRAMC_WIN_CTRL_TGT with
      | 0 | 1 => s.accessError
      | 2 => s.sramStore a (bytesOf w)
      | _ => s.bulkWrite 3 a (bytesOf w)
  u.winAdvance

/-! ### What a transfer of Scarab that is stopped leaves (R392) -/

/-- Bits lo to lo + n - 1 of a word of program memory; the address space of an operand word (R385). -/
def wbits (w : BitVec 64) (lo n : Nat) : Nat := w.toNat / 2 ^ lo % 2 ^ n
def spaceOf (w : BitVec 64) : Nat := wbits w 36 4

/-- One byte of program memory. -/
def State.pmemPut (s : State) (a : Nat) (b : Byte) : State :=
  let sh := 8 * (a % 8)
  s.setPmemWord (a / 8) ((s.pmemWord (a / 8) &&& ~~~ (0xFF#64 <<< sh)) ||| (b.setWidth 64 <<< sh))

/-- n bytes of a space become undefined: free values. -/
def State.scribble (s : State) (sp a n : Nat) : State :=
  let bs := (List.range n).map fun k => (Config.freeValue (s.free + k)).setWidth 8
  let u := match sp with
    | 0 => if s.bit DRAMC_STATUS DRAMC_STATUS_AVAIL && s.dramWithin a n then s.dramStore a bs else s
    | 1 => s.sramStore a bs
    | 4 => s.each (List.range n) fun s k => s.pmemPut (a + k) (bs.getD k 0)
    | _ => s
  { u with free := s.free + n }

/-- Rows that fit exactly of a MOVEX: number of source rows and bytes in each, number of destination rows and bytes in each. -/
def movexShape (w : BitVec 64) : (Nat × Nat) × (Nat × Nat) :=
  let rows := wbits w 16 16
  let cols := wbits w 0 16
  let e := 2 ^ wbits w 50 2
  let packed := (cols * (wbits w 44 4 + 1) + 7) / 8
  match wbits w 52 2 with
  | 0 => ((rows, cols * e), (cols, rows * e))
  | 1 => ((rows, cols * 2), (rows, packed))
  | _ => ((rows, packed), (rows, cols * 2))

/-- The destination of an instruction stopped in progress is undefined: of a MOVEX (opcode 2) row by row. -/
def State.dropXfer (s : State) (x : Xfer) : State :=
  let w := x.words.headD 0
  let sp := spaceOf (x.words.getD 2 0)
  if wbits w 56 8 = 2 then
    let sh := (movexShape w).2
    s.each (List.range sh.1) fun s r => s.scribble sp (x.dst + r * wbits (x.words.getD 3 0) 0 32) sh.2
  else s.scribble sp x.dst x.len

/-- A channel stops at once: what it did is lost, and it is IDLE (R392). -/
def State.scDisable (s : State) (n : Nat) : State :=
  let u := match (s.scChan n).xfer with
    | some x => s.dropXfer x
    | none => s
  (u.setScChan n {}).setFld (SCARAB_CH_STAT n) SCARAB_CH_STAT_STATE 0
/-- Every channel is disabled: on a start, and on entry to Standby (R382). -/
def State.scDisableAll (s : State) : State :=
  s.each (List.range 16) fun s n => (s.scDisable n).setBit (SCARAB_CH_CTRL n) SCARAB_CH_CTRL_EN false

end Sys2Proof.Machine
end

