-- ==== Sys2Proof/Machine/TxSignal.lean ====
section
/-!
DEFINITION. The stages of the transmit chain on samples (Table 3-1, R71 to R94; predistortion, R163 to R168).  Every sample is counted from t_A and is the
one that reaches the converter plane at its time (R81, R102); n counts combining-rate samples, m predistortion-rate samples, N DAC samples.  A sample that
a change in progress makes invalid is computed with the settings after the change (log entry 86).
-/
namespace Sys2Proof.Machine

open Reg F

/-! ### Stages 2 and 3: inverse FFT and cyclic prefix -/

/-- Fifths of a Tc from timebase 0 to combining-rate sample n. -/
def State.fifths (s : State) (t : Nat) (n : Int) : Int := 5 * ((s.tb.toNat : Int) - (s.now - s.origin t)) + 4 * n

/-- Phase of the RF mixer of a tile x Tc after t_A: WORD for each DAC sample (R81). -/
def rfPhase (word : BitVec 48) (x : Int) : Int := (word.toNat : Int) * (15 * x)

/-- The radiated phase of carrier c of path i at a timebase tick, that of its accumulator and of the mixer (R82). -/
def State.radiated (s : State) (t i c tick : Nat) : Int :=
  let x : Int := (s.instantOf tick : Int) - s.origin t
  (s.txCar (carKey t i c)).phaseAt (5 * x) + rfPhase (s.txRf t) x

/-- Output of stage 2 for useful sample `idx` of a symbol, before saturation (R75 to R77, R82): a word the tile lacks is zero; with SYMPH = 1 the symbol is
turned back so that its radiated phase is zero at the start of its useful part, as TS 38.211 clause 5.4 has it. -/
def State.ifftSample (s : State) (t i c sym idx : Nat) : Cx :=
  let k := s.txCfg t c
  let words := (List.range (12 * k.nrb)).map fun q => (s.txWord (dlKey sym c (pathKey t i) q)).getD 0
  inverseFft words (6 * k.nrb) k.nfft k.shift idx
    (if k.symph then s.radiated t i c (k.symStart sym + k.prefixLen sym) else 0)

/-- Samples of a path and carrier that stage 2 saturates in a symbol (R77). -/
def State.ifftClips (s : State) (t i c sym : Nat) : Nat :=
  ((List.range (2 ^ (s.txCfg t c).nfft)).filter fun idx => (s.ifftSample t i c sym idx).clips 16).length

/-- Carrier sample j, counted from timebase 0 (R74): the prefix repeats the end of the useful part.  A carrier that is invalid then, or that became valid
again only later, has none (R83). -/
def State.carrierSample (s : State) (t i c : Nat) (j : Int) : Cx :=
  let k := s.txCfg t c
  let x := s.txCar (carKey t i c)
  let tick := (4 * k.ratio * j / 5).toNat
  let at_ := s.instantOf tick
  if j < 0 ∨ at_ < x.fresh ∨ x.wasBad at_ (at_ + 1) then (0, 0)
  else
    let sym := k.symAt tick
    let cp := k.prefixLen sym * 5 / (4 * k.ratio)
    let r := (tick - k.symStart sym) * 5 / (4 * k.ratio)
    (s.ifftSample t i c sym ((r + 2 ^ k.nfft * (cp / 2 ^ k.nfft + 1) - cp) % 2 ^ k.nfft)).sat 16

/-! ### Stages 4 to 7: interpolation, NCO, gate, carrier sum -/

/-- Stage 4: the response of the carrier at its ratio (R78), linear-phase about each carrier sample. -/
def State.stage4 (s : State) (t i c : Nat) (n : Int) : Cx :=
  let (resp, m) := (s.txCar (carKey t i c)).filtAt (s.sampleTime t n / 15)
  let D : Nat := txDelay resp
  let f := s.fifths t n
  let j0 := f / (4 * m)
  ((Cx.sum ((List.range (2 * D + 2)).map fun q =>
    let j := j0 + q - D
    (s.carrierSample t i c j).scale (txTap resp m (f - 4 * m * j).natAbs))).narrow (2 ^ 40)).sat 16

/-- Stage 5 (R80, R81): an 18-bit sinusoid of the accumulator. -/
def State.stage5 (s : State) (t i c : Nat) (n : Int) : Cx :=
  (((s.stage4 t i c n).mul (Cx.sinusoid 18 ((s.txCar (carKey t i c)).phaseAt (4 * n)))).narrow (2 ^ 17)).sat 16

/-- Level of a gate at sample n in units of 2^-60 (R84): over the intervals in which it was open, a raised cosine of L samples up from its opening and down
from its closing.  A gate that closes while its opening ramp runs has the lower of the two levels (DESIGN CHOICE, log entry 88: the spec does not say). -/
def State.gateLevel (s : State) (t i c : Nat) (n : Int) : Int :=
  let x := s.txCar (carKey t i c)
  let L := rampLen (s.fld (TXCH_CTRL t) TXCH_CTRL_RAMP)
  let up := fun (k : Int) => if L = 0 then (if 0 ≤ k then (2 : Int) ^ 60 else 0) else ((2 : Int) ^ 60 - cosFix (2 ^ 47 * (clampI 0 L k).toNat / L)) / 2
  let level := fun (a : Nat) (b : Option Nat) =>
    let rise := n - s.sampleAt t a
    if rise < 0 then 0
    else match b with
      | none => up rise
      | some b => let fall := n - s.sampleAt t b; if fall < 0 then up rise else if L = 0 then 0 else up (min rise (L - fall))
  ((if x.gate then [level x.openedAt none] else []) ++ x.spans.map fun y => level y.1 (some y.2)).foldl max 0

/-- Stage 6. -/
def State.stage6 (s : State) (t i c : Nat) (n : Int) : Cx :=
  ((s.stage5 t i c n).scale (s.gateLevel t i c n)).narrow (2 ^ 60)

/-- The carrier sum of stage 7: the enabled carriers; one that is invalid as the sample leaves contributes zeros (R83). -/
def State.carrierSum (s : State) (t i : Nat) (n : Int) : Cx :=
  let at_ := s.sampleTime t n / 15
  Cx.sum (cars.map fun c => if (s.txCfg t c).en && !(s.txCar (carKey t i c)).wasBad at_ (at_ + 1) then s.stage6 t i c n else (0, 0))

/-! ### Injection (R93, R94, R200) -/

/-- Amplitude of each of the 4,167 tones of the calibration signal, in units of 2^-20: LEVEL dB below full scale in all (R200). -/
def State.toneLevel (s : State) (t : Nat) : Nat :=
  rootFloor 20 (2 ^ 700 / (4167 ^ 10 * 10 ^ s.fld (DFLY_CAL_CTRL t) DFLY_CAL_CTRL_LEVEL))

/-- Sample n of the calibration signal, which runs without break from t_A with a period of 5,120 samples (R200). -/
def State.calSignal (s : State) (t : Nat) (n : Int) : Cx :=
  (Cx.sum ((List.range 4167).map fun q =>
    let k : Int := (q : Int) - 2083
    (turnI ((Config.calTone k).toNat + 2 ^ 48 * (k * n) / 5120)).scale (s.toneLevel t))).narrow (2 ^ 80)

/-- The calibration signal of path i at point A: from E to the end of the burst or of its transmit half, delayed by 320 i samples (R200, R201). -/
def State.calAt (s : State) (t i : Nat) (n : Int) : Option Cx :=
  match (s.cal t).burst with
  | some b => if b.pmask.getLsbD i && b.measures false (s.sampleTime t n / 15) then some (s.calSignal t (n - 320 * i)) else none
  | none => none

/-- The signal CALTX_n carries about the receive RF centre in a burst of KIND 1 or the receive half of KIND 2 (R200). -/
def State.calOut (s : State) (t : Nat) (n : Int) : Cx :=
  match (s.cal t).burst with
  | some b => if b.measures true (s.sampleTime t n / 15) then s.calSignal t n else (0, 0)
  | none => (0, 0)

/-- State of the PRBS-15 register x^15 + x^14 + 1 after n bits, from its seed (PRESUMED polynomial, log entry 109). -/
def prbs : Nat → BitVec 15 → BitVec 15
  | 0, r => r
  | n + 1, r => prbs n ((r <<< 1) ||| (if r.getLsbD 14 != r.getLsbD 13 then 1 else 0))

/-- Sample n of the pattern generator on path i, at point A or B (R94): a tone, PRBS-15, a constant; none in other settings.  The phase of the tone, and the
bits of the PRBS after its seed, one a sample, count from t_A (DESIGN CHOICE, log entry 88: the spec names no start). -/
def State.pattern (s : State) (t i : Nat) (b : Bool) (n : Int) : Option Cx :=
  let a := TXCH_PATGEN t
  let amp : Int := 32767 * s.fld a TXCH_PATGEN_AMPL
  if s.mode ≠ .test ∨ !s.maskBit a TXCH_PATGEN_PMASK i ∨ s.bit a TXCH_PATGEN_POINT ≠ b then none
  else match s.fld a TXCH_PATGEN_SRC with
    | 1 => some (((turnI ((s.reg (TXCH_PATGEN_FREQ t)).toInt * 2 ^ 16 * n)).scale amp).narrow (255 * 2 ^ 60))
    | 2 =>
      let v := Config.prbsSample (prbs n.toNat (BitVec.ofNat 15 (i + 1)))
      some ((amp * v.1.toInt, amp * v.2.toInt) |> Cx.narrow (255 * 2 ^ 15))
    | 3 => some (narrow amp 255, 0)
    | _ => none

/-- Injection point A (Table 3-3). -/
def State.pointA (s : State) (t i : Nat) (n : Int) : Cx :=
  match s.mode with
  | .onAir => ((s.carrierSum t i n).add ((s.calAt t i n).getD (0, 0))).sat 18
  | .quiet => (s.carrierSum t i n).sat 18
  | .calibrate => ((s.calAt t i n).getD (0, 0)).sat 18
  | .test => ((s.pattern t i false n).getD (s.carrierSum t i n)).sat 18
  | _ => (0, 0)

/-! ### Stages 8 to 10: the trims (R86, R87) -/

/-- The trims in force at the converter plane for the sample that leaves a path at n; a change is presented d / 64 samples later (R87). -/
def State.txTrims (s : State) (t i : Nat) (n : Int) : BitVec 13 × BitVec 16 :=
  (s.txPath (pathKey t i)).trimAt (s.sampleTime t n / 15)

/-- A stream delayed by d / 64 samples, n - d / 64 taken between samples by the fractional filter; and the same held to 18 bits, as the trims have it. -/
def fractional (x : Int → Cx) (d n : Int) : Cx :=
  let q := d / 64
  let f := (d % 64).toNat
  if f = 0 then x (n - q) else (Cx.sum ((List.range 32).map fun (k : Nat) => (x (n - q + 15 - k)).scale (Config.delayTap f k))).narrow (2 ^ 20)
def delayed (x : Int → Cx) (d : BitVec 13) (n : Int) : Cx :=
  if d.toInt % 64 = 0 then fractional x d.toInt n else (fractional x d.toInt n).sat 18

/-- A sample turned by PHASE x 360 / 65,536 degrees. -/
def phased (p : BitVec 16) (x : Cx) : Cx := ((x.mul (turn (p.toNat * 2 ^ 32))).narrow (2 ^ 60)).sat 18

/-- The gain trim in force at an instant. -/
def State.gainAt (s : State) (t i : Nat) (at_ : Int) : Nat :=
  (pastAt (s.txPath (pathKey t i)).gains (BitVec.ofNat 16 (s.fld (TXCH_GAIN t i) TXCH_GAIN_GAIN)) at_).toNat

/-- Stage 10 before saturation: the sum delayed, turned and multiplied by GAIN / 32,768. -/
def State.stage10Raw (s : State) (t i : Nat) (n : Int) : Cx :=
  let (d, p) := s.txTrims t i n
  let at_ := (64 * s.sampleTime t n - 12 * d.toInt) / 960
  ((phased p (delayed (s.pointA t i) d n)).scale (s.gainAt t i at_)).narrow 32768

def State.stage10 (s : State) (t i : Nat) (n : Int) : Cx := if n < 0 then (0, 0) else (s.stage10Raw t i n).sat 16

/-! ### Stages 11 to 13: the path interpolator and predistortion -/

/-- Stage 11, ×2: sample m draws on five combining-rate samples, so that R96 holds (R90). -/
def State.stage11 (s : State) (t i : Nat) (m : Int) : Cx :=
  ((Cx.sum ((List.range 5).map fun (j : Nat) => (s.stage10 t i (m / 2 - j)).scale (Config.upTap (m % 2).toNat j))).narrow (2 ^ 20)).sat 16

/-- The magnitude of a sample in 16-bit units, rounded, at most 32,767 (R164). -/
def envelope (v : Cx) : Nat := min 32767 ((Nat.sqrt (4 * v.norm2) + 1) / 2)

/-- A table read at an envelope, in units of 2^-23 (R164). -/
def lutAt (entry : Nat → Cx) (r : Nat) : Cx :=
  if r < 32256 then
    let i := r / 512
    let f : Int := (r % 512 : Nat)
    ((entry i).scale (512 - f)).add ((entry (i + 1)).scale f)
  else (entry 63).scale 512

/-- Taps of branch b of tile t: 0 while it is disabled, 0 acts as 1 (R165). -/
def State.branchTaps (s : State) (t b : Nat) : Nat :=
  if s.bit (TDPD_BRANCH t b) TDPD_BRANCH_EN then max 1 (s.fld (TDPD_BRANCH t b) TDPD_BRANCH_TAPS) else 0

/-- Signal delay, where 6 and 7 act as 5, and envelope delay of a branch (R165, Table 6-12). -/
def State.branchSdly (s : State) (t b : Nat) : Nat := min 5 (s.fld (TDPD_BRANCH t b) TDPD_BRANCH_SDLY)
def State.branchEdly (s : State) (t b : Nat) : Nat := s.fld (TDPD_BRANCH t b) TDPD_BRANCH_EDLY

/-- The tables in use on path i: branch b, tap k is table 3 b + k; 24 to 26 the left neighbour, 27 to 29 the right one. -/
def State.tablesInUse (s : State) (t i : Nat) : List Nat :=
  let x := s.fld (TDPD_CTRL t) TDPD_CTRL_XTAPS
  ((List.range 8).flatMap fun b => (List.range (s.branchTaps t b)).map fun k => 3 * b + k)
    ++ (if i = 0 then [] else (List.range x).map (24 + ·)) ++ (if i = 15 then [] else (List.range x).map (27 + ·))

/-- The multiplicand and the envelope with which table j of path i acts at sample m (R163): x(m - sdly - t) at the envelope edly samples back; a
neighbour's x(m - t) at the path's own envelope. -/
def State.termOf (s : State) (x : Nat → Int → Cx) (t i j : Nat) (m : Int) : Cx × Nat :=
  if j < 24 then (x i (m - s.branchSdly t (j / 3) - (j % 3 : Nat)), envelope (x i (m - s.branchEdly t (j / 3))))
  else (x (if j < 27 then i - 1 else i + 1) (m - (j % 3 : Nat)), envelope (x i m))

/-- The same of the stage-11 samples. -/
def State.tableTerm (s : State) (t i j : Nat) (m : Int) : Cx × Nat := s.termOf (s.stage11 t) t i j m

/-- Index of a word of a path's active (true) or shadow bank. -/
def State.tblKey (s : State) (path : Nat) (active : Bool) (word : Nat) : Nat :=
  4096 * path + 2048 * b2n (s.dpdSel path == active) + word

/-- At the path's instant of sample m the latest swap has applied: the exchange is from the first sample that reaches the converter plane at or after
the boundary, shifted by the path's delay (R169, R87). -/
def State.swappedBy (s : State) (t i : Nat) (m : Int) : Bool :=
  let p := s.txPath (pathKey t i)
  decide (80 * (p.swapAt : Int) ≤ 80 * s.origin t + 32 * m - p.delay.toInt)

/-- u(m) before rounding, in units of 2^-23: the sum of R163 with the tables in use of the bank in force. -/
def State.dpdSum (s : State) (t i : Nat) (m : Int) : Cx :=
  let bank := s.swappedBy t i m
  Cx.sum ((s.tablesInUse t i).map fun j =>
    let (z, r) := s.tableTerm t i j m
    z.mul (lutAt (fun e => Cx.ofWord (s.dpdEntry (s.tblKey (pathKey t i) bank (64 * j + e)))) r))

/-- Predistortion is in force on a path at sample m (R168). -/
def State.dpdActive (s : State) (t i : Nat) (m : Int) : Bool :=
  if s.swappedBy t i m then s.maskBit (TDPD_ENABLE t) TDPD_ENABLE_ACTIVE i else (s.txPath (pathKey t i)).swapWas

/-- Stage 12 before saturation: rounded to nearest, halves up (R163); bypassed it passes samples unchanged (R90). -/
def State.stage12Raw (s : State) (t i : Nat) (m : Int) : Cx :=
  if s.dpdActive t i m then let u := s.dpdSum t i m; (roundDiv u.1 (2 ^ 23), roundDiv u.2 (2 ^ 23)) else s.stage11 t i m

def State.stage12 (s : State) (t i : Nat) (m : Int) : Cx := (s.stage12Raw t i m).sat 16

/-- Every DAC of the tile receives zeros: Quiet and its mute (R35), an unlocked interval (R98), the coast limit, a lost link (R18), a mode without
transmission (Table 3-3). -/
def State.dacMuted (s : State) (t : Nat) : Bool :=
  s.quietMute || s.bit (TXCH_STATUS t) TXCH_STATUS_UNLOCK_HOLD || s.bit (TXCH_STATUS t) TXCH_STATUS_MUTE_COAST
    || s.bit (TXCH_STATUS t) TXCH_STATUS_MUTE_LINK
    || (match s.mode with | .standby | .boot | .recovery | .configure => true | _ => false)

/-- Injection point B (Table 3-3). -/
def State.pointB (s : State) (t i : Nat) (m : Int) : Cx :=
  if s.dacMuted t then (0, 0) else (s.pattern t i true m).getD (s.stage12 t i m)

/-! ### Stages 14 and 15: the RF DAC (R91) -/

/-- Stage 14 about the mixer: interpolated by 6, times the carrier wave WORD x N, the real part. -/
def State.mixed (s : State) (t i : Nat) (N : Int) : Int :=
  let x := (Cx.sum ((List.range 16).map fun (j : Nat) => (s.pointB t i (N / 6 - j)).scale (Config.dacTap (N % 6).toNat j))).narrow (2 ^ 20)
  narrow (x.mul (turnI ((s.txRf t).toNat * N))).1 (2 ^ 60)

/-- Output of stage 15, 14 bits: with INV_SINC the droop is compensated; a stopped DAC holds its outputs at common mode (R85). -/
def State.dacOut (s : State) (t i : Nat) (N : Int) : Int :=
  if (s.txPath (pathKey t i)).gated then 0
  else
    let y := if s.bit (TXCH_CTRL t) TXCH_CTRL_INV_SINC
      then narrow ((List.range 65).foldl (fun a k => a + s.mixed t i (N + 32 - k) * sincTap ((k : Int) - 32).natAbs) 0) (2 ^ 40)
      else s.mixed t i N
    satTo 14 (narrow (satTo 16 y) 4)

/-! ### Saturated samples (R77) -/

/-- Samples of path i that saturate at stages 10 and 12 from combining-rate sample a to b - 1. -/
def State.pathClips (s : State) (t i : Nat) (a b : Int) : Nat :=
  let ns := (List.range (b - a).toNat).map fun (k : Nat) => a + k
  (ns.filter fun n => (s.stage10Raw t i n).clips 16).length
    + (ns.filter fun n => s.dpdActive t i (2 * n) && (s.stage12Raw t i (2 * n)).clips 16).length
    + (ns.filter fun n => s.dpdActive t i (2 * n + 1) && (s.stage12Raw t i (2 * n + 1)).clips 16).length

end Sys2Proof.Machine
end

