-- ==== Sys2Proof/Machine/RxSignal.lean ====
section
/-!
DEFINITION. The stages of the receive chain on samples (Table 4-1, R100 to R116, R129).  The samples of the ADCs are the outside (Config.adcInput).
-/
namespace Sys2Proof.Machine

open Reg F

/-! ### Stages 1 to 6: ADC, mixer and path decimator, trims, compensation -/

/-- Time of ADC sample n of a tile, in fifteenths of a Tc (R102), and the sample. -/
def State.adcTime (s : State) (t : Nat) (n : Int) : Int := 15 * s.origin t + 2 * n
def State.adcSample (s : State) (t i : Nat) (n : Int) : Int := (Config.adcInput (pathKey t i) (s.adcTime t n).toNat).toInt

/-- Phase that the ADC's alias of the receive centre turns in a sample, 2^48 to the turn: f_RF itself in the first zone, the sampling rate less f_RF in the
second (R105). -/
def State.aliasWord (s : State) (t : Nat) (zone2 : Bool) : Nat :=
  let w := 2 * (s.rxRf t).toNat % 2 ^ 48
  if zone2 then 2 ^ 48 - w else w

/-- The zone of a path for the sample taken at an instant (R105). -/
def State.zoneAt (s : State) (t i : Nat) (at_ : Int) : Bool :=
  pastAt (s.rxPath (pathKey t i)).zones (s.maskBit (RXCH_ZONE t) RXCH_ZONE_Z i) at_

/-- The RF mixer at ADC sample n, zero phase at t_A (R106): in the second zone the spectral inversion of the alias is undone. -/
def State.rxMixed (s : State) (t i : Nat) (n : Int) : Cx :=
  let z := s.zoneAt t i (s.adcTime t n / 15)
  let x := (turnI (-(s.aliasWord t z * n))).scale (s.adcSample t i n)
  if z then x.conj else x

/-- The loop of Test is closed on a tile (R129), and GAINCFG with it as they stood at an instant. -/
def State.loopOn (s : State) (t : Nat) : Bool := s.mode == .test && s.bit (RXCH_CTRL t) RXCH_CTRL_LOOP
def State.rxCtlAt (s : State) (t : Nat) (at_ : Int) : Word × Bool := pastAt (s.rxCtl t) (s.reg (RXCH_GAINCFG t), s.loopOn t) at_

/-- GAINCFG and the loop as they stand are kept for the samples taken before a change of them. -/
def State.keepRxCtl (s : State) (t : Nat) : State := s.setRxCtl t (keepPast (s.rxCtl t) s.now (s.reg (RXCH_GAINCFG t), s.loopOn t))

/-- Stage 3: the fixed ÷6 path decimator; in Test with LOOP = 1 the transmit samples of stage 10 at the same index (R129). -/
def State.rxStage3 (s : State) (t i : Nat) (n : Int) : Cx :=
  if (s.rxCtlAt t (s.sampleTime t n / 15)).2 then s.stage10 t i n
  else ((Cx.sum ((List.range 96).map fun (k : Nat) => (s.rxMixed t i (6 * n - k)).scale (Config.pathTap k))).narrow (2 ^ 80)).sat 18

/-- The receive trims in force at sample n (R103). -/
def State.rxTrims (s : State) (t i : Nat) (n : Int) : BitVec 13 × BitVec 16 :=
  (s.rxPath (pathKey t i)).trimAt (s.sampleTime t n / 15)

/-- The step-attenuator code that the compensation uses for the sample taken at an instant (R117, R118). -/
def State.compCode (s : State) (t i : Nat) (at_ : Int) : Nat :=
  (((s.rxPath (pathKey t i)).comps.find? fun x => decide ((x.1 : Int) ≤ at_)).map fun x => x.2.toNat).getD
    (s.fld (RXCH_STEP_CFG t i) RXCH_STEP_CFG_CODE)

/-- Stages 4 to 6 (R103, R116): the stream delayed by d / 64 samples, turned, and multiplied by 10^(CODE x LSB / 1,280) while COMP is 1. -/
def State.rxStage6 (s : State) (t i : Nat) (n : Int) : Cx :=
  let (d, p) := s.rxTrims t i n
  let x := phased p (delayed (s.rxStage3 t i) d n)
  let g := (s.rxCtlAt t (s.sampleTime t n / 15)).1
  if bitF g RXCH_GAINCFG_COMP then
    let e := s.compCode t i (s.sampleTime t n / 15) * getF g RXCH_GAINCFG_LSB
    Cx.sat 18 (scale10 e x.1, scale10 e x.2)
  else x

/-! ### Stages 7 to 10: carriers -/

/-- Stage 7: down by the carrier NCO (R106, R109). -/
def State.rxStage7 (s : State) (t i c : Nat) (n : Int) : Cx :=
  (((s.rxStage6 t i n).mul (Cx.sinusoid 18 ((s.rxCar (carKey t i c)).phaseAt (4 * n))).conj).narrow (2 ^ 17)).sat 16

/-- Response and ratio of a receive carrier for combining-rate sample n. -/
def State.rxFiltOf (s : State) (t i c : Nat) (n : Int) : BitVec 4 × Nat := (s.rxCar (carKey t i c)).filtAt (s.sampleTime t n / 15)

/-- Output samples lie at the multiples, from t_A on, of the ratio in force (R123): the first at or after combining-rate sample n, and `num` of them. -/
def State.outputAfter (s : State) (t i c : Nat) : Nat → Int → Int
  | 0, n => n
  | k + 1, n => if n % (s.rxFiltOf t i c n).2 = 0 then n else State.outputAfter s t i c k (n + 1)
def State.nextOutput (s : State) (t i c : Nat) (n : Int) : Int := s.outputAfter t i c 8192 n
def State.outputsFrom (s : State) (t i c : Nat) : Nat → Int → List Int
  | 0, _ => []
  | num + 1, n => let m := s.nextOutput t i c n; m :: State.outputsFrom s t i c num (m + 1)

/-- Stage 8 before saturation: the output sample at combining-rate sample n, through the response in force (R110). -/
def State.rxStage8Raw (s : State) (t i c : Nat) (n : Int) : Cx :=
  let x := s.rxCar (carKey t i c)
  let (resp, R) := s.rxFiltOf t i c n
  let D := rxDelay resp * R
  (Cx.sum ((List.range (2 * D + 1)).map fun k =>
    let d : Int := (k : Int) - D
    if s.sampleTime t (n + d) / 15 < x.fresh then (0, 0)
    else (s.rxStage7 t i c (n + d)).scale (rxTap resp R d.natAbs))).narrow (2 ^ 40)

/-- A carrier output sample (the tap of stage 9, before any gate). -/
def State.carrierOut (s : State) (t i c : Nat) (n : Int) : Cx := (s.rxStage8Raw t i c n).sat 16

/-- It is valid (R123): no run holds it. -/
def State.carrierValid (s : State) (t i c : Nat) (n : Int) : Bool := !hitsRun (s.rxCar (carKey t i c)).runs n (n + 1)

/-- A symbol of a receive carrier: first tick of its cyclic prefix, end of its FFT window and end of its useful part. -/
def State.rxSymSpan (s : State) (t c sym : Nat) : Nat × Nat × Nat :=
  let k := s.rxCfg t c
  let o := s.fld (RXCH_UL_OFFSET t) RXCH_UL_OFFSET_OFFSET
  let e := k.symStart (sym + 1) - o
  (k.symStart sym - o, e - s.fld (RXCH_CARWIN t c) RXCH_CARWIN_WIN_ADV * 4 * k.ratio / 5, e)

/-- The carrier output sample at a timebase tick, as its combining-rate sample, and the ratio there; where the tick falls between two, the one before it
(DESIGN CHOICE, log entry 113: R112 does not say where the window lies then). -/
def State.rxSampleOf (s : State) (t i c tick : Nat) : Int × Nat :=
  let R := ((s.rxCar (carKey t i c)).filtAt (s.instantOf tick)).2
  (((s.instantOf tick : Int) - s.origin t) * 5 / (4 * R) * R, R)

/-- Word of subcarrier q of a symbol, before saturation (R112): the window ends WIN_ADV samples before the end of the useful part, and the linear phase of
the advance is removed; with SYMPH = 1 the phase of the downconversion at the start of the useful part is removed (R109). -/
def State.fftRaw (s : State) (t i c sym q : Nat) : Cx :=
  let k := s.rxCfg t c
  let adv := s.fld (RXCH_CARWIN t c) RXCH_CARWIN_WIN_ADV
  let e := (s.rxSymSpan t c sym).2.2
  let (n, R) := s.rxSampleOf t i c e
  let first := n - (adv + 2 ^ k.nfft) * R
  let window := (List.range (2 ^ k.nfft)).map fun (j : Nat) => s.carrierOut t i c (first + j * R)
  let o := s.fld (RXCH_UL_OFFSET t) RXCH_UL_OFFSET_OFFSET
  let x : Int := (s.instantOf (k.symStart sym + k.prefixLen sym - o) : Int) - s.origin t
  let turnBack := if k.symph then ((s.rxCar (carKey t i c)).phaseAt (5 * x) : Int) + rfPhase (s.rxRf t) x else 0
  forwardFft window (6 * k.nrb) k.nfft k.shift q (((q : Int) - 6 * k.nrb) * adv * 2 ^ (48 - k.nfft) + turnBack)

/-- The carrier was invalid in some part of the symbol, from its prefix to its useful end, whatever it is at delivery: it is delivered as zeros
(R111; DESIGN CHOICE, log entry 113: the rule does not say which symbols). -/
def State.symBad (s : State) (t i c sym : Nat) : Bool :=
  let (a, _, e) := s.rxSymSpan t c sym
  (s.rxCar (carKey t i c)).wasBad (s.instantOf a) (s.instantOf e)

/-- The word that stage 10 gives for subcarrier q. -/
def State.fftWord (s : State) (t i c sym q : Nat) : Word :=
  if s.symBad t i c sym then 0 else ((s.fftRaw t i c sym q).sat 16).toWord

/-- A symbol is marked (R124): some of its output samples is invalid, from the start of its prefix to the end of its useful part. -/
def State.symMarked (s : State) (t i c sym : Nat) : Bool :=
  let (a, _, e) := s.rxSymSpan t c sym
  s.symBad t i c sym ||
    hitsGrid (s.rxCar (carKey t i c)).runs (fun n => (s.rxFiltOf t i c n).2) (s.sampleAt t (s.instantOf a)) (s.sampleAt t (s.instantOf e))

/-! ### Dragonfly receivers (R172, R176) -/

/-- Sample n of receiver r before correction: I and Q of its 12-bit converters, 15 / 4 samples to the Tc, as parts of the 16-bit range. -/
def State.dflyRaw (s : State) (t r : Nat) (n : Int) : Cx :=
  let x := Config.dflyInput (2 * t + r) (15 * s.origin t + 4 * n).toNat
  (16 * x.1.toInt, 16 * x.2.toInt)

/-- The image correction, out = x + h ∗ conj(x) (R176). -/
def State.dflyCorrected (s : State) (t r : Nat) (n : Int) : Cx :=
  (s.dflyRaw t r n).add ((Cx.sum ((s.dfly (2 * t + r)).taps.zipIdx.map fun h => Cx.mul h.1 (s.dflyRaw t r (n - h.2)).conj)).narrow (2 ^ 15))

/-- A sample as captures take it: the IF of 1,228.8 MHz, a sixth of the rate, goes to 0 Hz, and with the LO above the spectral inversion is undone about it
(R172). -/
def State.dflySample (s : State) (t r : Nat) (n : Int) : Cx :=
  let x := s.dflyCorrected t r n
  let y := x.mul (turnI (-(2 ^ 48 * n / 6)))
  ((if s.bit (DFLY_CTRL t) (if r = 0 then DFLY_CTRL_SIDE_0 else DFLY_CTRL_SIDE_1) then y.conj else y).narrow (2 ^ 60)).sat 16

/-! ### Saturated samples (R101) -/

/-- ADC samples of a path at a limit of the 14-bit range from time a to b, in fifteenths of a Tc. -/
def State.adcClips (s : State) (t i : Nat) (a b : Int) : Nat :=
  let n0 := (a - s.adcTime t 0 + 1) / 2
  ((List.range ((b - s.adcTime t 0 + 1) / 2 - n0).toNat).filter fun (k : Nat) =>
    let v := s.adcSample t i (n0 + k)
    v == 8191 || v == -8192).length

/-- Output samples of a carrier at combining-rate samples a to b - 1 that saturate at stage 8. -/
def State.carrierClips (s : State) (t i c : Nat) (a b : Int) : Nat :=
  ((List.range (b - a).toNat).filter fun (k : Nat) =>
    (a + k) % (s.rxFiltOf t i c (a + k)).2 = 0 && (s.rxStage8Raw t i c (a + k)).clips 16).length

/-- Words of a symbol that saturate at stage 10. -/
def State.symClips (s : State) (t i c sym : Nat) : Nat :=
  if s.symBad t i c sym then 0
  else ((List.range (12 * (s.rxCfg t c).nrb)).filter fun q => (s.fftRaw t i c sym q).clips 16).length

end Sys2Proof.Machine
end

