-- ==== Sys2Proof/Machine/Captures.lean ====
section
/-!
DEFINITION. Captures (R125 to R128, R364): start at the effect instant of a CAPT, granules, headers, endings.
-/
namespace Sys2Proof.Machine

open Reg F

/-- Samples per Tc of a source as a fraction (Table 4-7); 0 / 0 for FFT captures. -/
def State.capRate (s : State) (t src pidx : Nat) : Nat × Nat :=
  if src ≤ 3 then (5, 4 * ratioOf (s.rxCar (carKey t pidx src)).ratio)
  else match src with
    | 4 => (15, 2)
    | 5 => (0, 0)
    | 6 => (5, 2)
    | _ => (15, 4)

/-- Samples per Tc at which the samples of a source are counted from t_A: those of a carrier at the combining rate. -/
def capClock (src : Nat) : Nat × Nat :=
  if src ≤ 3 then (5, 4) else match src with
    | 4 => (15, 2)
    | 6 => (5, 2)
    | _ => (15, 4)

/-- Index of the first sample of a rate at or after an instant, counted from t_A; the instant of a sample, and what is left over
in 1/65,536 Tc. -/
def State.capFirst (s : State) (t : Nat) (r : Nat × Nat) (E : Nat) : Int := (((E : Int) - s.origin t) * r.1 + r.2 - 1) / r.2
def State.capTime (s : State) (t : Nat) (r : Nat × Nat) (n : Int) : Nat := ((s.origin t : Int) + n * r.2 / r.1).toNat
def capFrac (r : Nat × Nat) (n : Int) : Nat := (n * r.2 % r.1 * 65536 / r.1).toNat

/-- The first symbol of an FFT capture: the first whose prefix begins at or after a timebase tick. -/
def State.capSymbol (s : State) (t c tick : Nat) : Nat :=
  let k := s.rxCfg t c
  let o := s.fld (RXCH_UL_OFFSET t) RXCH_UL_OFFSET_OFFSET
  k.symAt (k.nextBoundary (tick + o))

/-- After a step of the timebase the symbols lie anew (R74, R125): a capture that has taken none begins with the first at or after its effect instant; one
between symbols goes on with the one under way. -/
def State.capSymbols (s : State) (t : Nat) : State :=
  s.each paths fun s d =>
    let k := s.cap (16 * t + d)
    let cfg := s.rxCfg t k.car
    if !s.capturing t d || k.src != 5 || k.done % (12 * cfg.nrb) != 0 then s
    else if k.done = 0 then
      let n := s.capSymbol t k.car (s.tbAt k.at_)
      s.setCap (16 * t + d) { k with sym := n, first := n }
    else s.setCap (16 * t + d) { k with sym := cfg.symAt (s.tb.toNat + s.fld (RXCH_UL_OFFSET t) RXCH_UL_OFFSET_OFFSET) }

/-- Little-endian bytes of a number. -/
def leBytes : Nat → Nat → List Byte
  | 0, _ => []
  | n + 1, v => BitVec.ofNat 8 v :: leBytes n (v / 256)

/-- Bytes of a capture's region are written: capture SRAM, or the capture port of the DRAM. -/
def State.capWrite (s : State) (k : Capture) (offset : Nat) (bs : List Byte) : State :=
  if k.dram then s.portPushAll 1 (s.writeReqs (k.base + offset) bs false) else s.sramStore (k.base + offset) bs

/-- The first granule that can be written: after the header, where there is one. -/
def Capture.start (k : Capture) : Nat := if k.hdr then 64 else 0

/-- The header of Table 4-7.  For SRC 5, T0 is the start of the first symbol's cyclic prefix and FRAC 0 (DESIGN CHOICE, log entry 53: the spec does not say
which instant of a symbol T0 names). -/
def State.capHeader (s : State) (t d : Nat) (k : Capture) : List Byte :=
  let r := s.capRate t k.src k.pidx
  let clk := capClock k.src
  let w := if k.src = 4 then 14 else 16
  let info := k.src + 16 * k.pidx + 256 * d + 4096 * t + 2 ^ 14 * b2n k.left + 2 ^ 15 * b2n (k.src != 4) + 2 ^ 16 * w
    + 2 ^ 21 * (if k.src ≤ 3 then k.src else if k.src = 5 then k.car else 0)
  let t0 := if k.src = 5 then (s.rxSymSpan t k.car k.first.toNat).1 else s.tbAt (s.capTime t clk k.first)
  let frac := if k.src = 5 then 0 else capFrac clk k.first
  leBytes 4 info ++ leBytes 4 k.len ++ leBytes 8 t0 ++ leBytes 4 frac ++ leBytes 2 r.1 ++ leBytes 2 r.2 ++ leBytes 40 0

/-- A capture that is rejected writes nothing (R125). -/
def State.rejectCapture (s : State) (t d : Nat) : State :=
  (s.setFld (RXCH_CAP_STAT t d) RXCH_CAP_STAT_GRANULES 0).endCapture t d 6

/-- The Dragonfly receiver of a source, and the input a capture of it takes (R173, R199): path index and kind. -/
def State.dflyInput (s : State) (t src pidx : Nat) : Nat × Nat × Nat :=
  if src = 9 then (1, 0, 2)
  else
    let r := src - 7
    let kind := s.fld (DFLY_INPUT t r) DFLY_INPUT_SEL
    (r, if kind ≤ 1 then pidx else 0, kind)

/-- The region of a capture starts: the header, and CAP_STAT.  A header that the capture port has no room for ends it as an overrun (Table 15-3). -/
def State.beginCapture (s : State) (t d : Nat) (k : Capture) : State :=
  let a := RXCH_CAP_STAT t d
  let n := s.capSymbol t k.car s.tb.toNat
  let first := s.capFirst t (capClock k.src) s.now
  let first : Int := if k.src = 5 then n else if k.src ≤ 3 then s.nextOutput t k.pidx k.src first else first
  let k := { k with offset := k.start, at_ := s.now, first := first, next := first, sym := n }
  let u := ((s.setFld a RXCH_CAP_STAT_STATE 2).setFld a RXCH_CAP_STAT_END 0).setFld a RXCH_CAP_STAT_GRANULES 0
  let head := s.capHeader t d k
  if k.hdr && k.dram && !s.portFits 1 (s.writeReqs k.base head false) then (u.setCap (16 * t + d) k).endCapture t d 4
  else
    let v := (if k.hdr then u.capWrite k 0 head else u).setCap (16 * t + d) k
    if k.size < k.start + 64 then v.endCapture t d 3 else v

/-- A training acquisition of R179 on receiver r, where its buffer is free; else reason 1 of Table 6-2. -/
def State.beginTraining (s : State) (t r pidx : Nat) : State × Bool :=
  let x := s.dfly (2 * t + r)
  if !s.bit (DFLY_CTRL t) (if r = 0 then DFLY_CTRL_TRAIN_EN_0 else DFLY_CTRL_TRAIN_EN_1) then (s, false)
  else if x.train.isSome then
    let a := DFLY_ACQ_STAT t r
    ((((s.setFld a DFLY_ACQ_STAT_REASON 1).setFld a DFLY_ACQ_STAT_PIDX pidx).bump (DFLY_ACQ_REJECT_COUNT t) (DFLY_CNT_FLAGS t) 0 1).raise
      (Ev.DPD_ACQ_REJECTED t), false)
  else
    ((s.setMaskBit (DFLY_STATUS t) DFLY_STATUS_TRBUF r true).modDfly (2 * t + r) fun x =>
      { x with train := some pidx, trainFirst := s.capFirst t (15, 4) s.now, trainAt := none, ready := false, swapped := false, pairs := [] }, true)

/-- A capture on a Dragonfly receiver: its rejections (R173, R175, R407), the switch, training (R179). -/
def State.beginDfly (s : State) (t d : Nat) (k : Capture) : State :=
  let (r, path, kind) := s.dflyInput t k.src k.pidx
  if !s.domOn (18 + t) || s.dflyOccupied t r then s.rejectCapture t d
  else if kind ≤ 1 && s.dflyBusy t (1 - r) && (s.dfly (2 * t + (1 - r))).input == some (path, kind) then
    ((s.rejectCapture t d).raise (Ev.DFLY_CONFLICT t)).bump (DFLY_CONFLICT_COUNT t) (DFLY_CNT_FLAGS t) 1 1
  else
    let u := s.moveSwitch t r (path, kind)
    let (v, tr) := if kind = 0 ∧ k.src ≤ 8 then u.beginTraining t r k.pidx else (u, false)
    v.beginCapture t d { k with kind := kind, train := tr }

/-! ### Granules (R126, R128) -/

/-- The index of sample j from here on of a capture, at the rate of its source. -/
def State.capIndex (s : State) (t : Nat) (k : Capture) (j : Nat) : Int :=
  if k.src ≤ 3 then (s.outputsFrom t k.pidx k.src (j + 1) k.next).getLastD k.next else k.next + j

/-- Sample j from here on of a capture's source (Table 2-5): a carrier's output, the symbol words in order, the predistortion output, a Dragonfly receiver. -/
def State.capSample (s : State) (t : Nat) (k : Capture) (j : Nat) : Word :=
  let n := s.capIndex t k j
  if k.src ≤ 3 then (s.carrierOut t k.pidx k.src n).toWord
  else match k.src with
    | 4 => 0
    | 5 => s.fftWord t k.pidx k.car k.sym ((k.done + j) % (12 * (s.rxCfg t k.car).nrb))
    | 6 => (s.stage12 t k.pidx n).toWord
    | src => (s.dflySample t (if src = 7 then 0 else 1) n).toWord

/-- Slot j of the next granule is valid (R123, R124, R96, R174). -/
def State.slotValid (s : State) (t : Nat) (k : Capture) (j : Nat) : Bool :=
  let n := s.capIndex t k j
  if k.src ≤ 3 then s.carrierValid t k.pidx k.src n
  else match k.src with
    | 4 => true
    | 5 => !s.symMarked t k.pidx k.car k.sym
    | 6 => !s.dpdInvalid t k.pidx n
    | src => s.dflyValid t (if src = 7 then 0 else 1) (s.capTime t (15, 4) n)

/-- A 14-bit sample in its container: shifted up or sign-extended (R126). -/
def placed (left : Bool) (v : Int) : BitVec 16 := BitVec.ofInt 16 (if left then 4 * v else v)

/-- Slot j of the next granule, of `num` samples, as it is stored: a complex sample, or two real ones of which the last may be missing. -/
def State.slotWord (s : State) (t : Nat) (k : Capture) (num j : Nat) : Word :=
  if k.src = 4 then
    let v := fun (i : Nat) => if num ≤ i then 0 else placed k.left (s.adcSample t k.pidx (k.next + i))
    v (2 * j + 1) ++ v (2 * j)
  else s.capSample t k j

/-- The bytes of a granule of `used` slots: its tag word, its slots, zeros (Table 4-6). -/
def State.granuleBytes (s : State) (t : Nat) (k : Capture) (used num : Nat) : List Byte :=
  let mask := (List.range used).foldl (fun m j => m + if s.slotValid t k j then 2 ^ j else 0) 0
  let tag := used * 2 ^ 28 + (if k.src = 5 ∧ k.done % (12 * (s.rxCfg t k.car).nrb) = 0 then 2 ^ 27 else 0)
    + (if mask = 2 ^ used - 1 then 2 ^ 15 else 0) + mask
  leBytes 4 tag ++ ((List.range used).flatMap fun j => bytesOf (s.slotWord t k num j)) ++ List.replicate (60 - 4 * used) 0

/-- A granule takes 2 ns of the 32 GB/s that the captures of a tile share, 393,216 / 100,000 Tc. -/
def granuleTime : Nat := 393216

/-- The capture SRAM takes a granule now (R128): the tile's granules accepted before it leave room.  That up to 16 of them, one for each descriptor, may
wait is the model's (DESIGN CHOICE, log entry 89: the spec does not say how many). -/
def State.sramRoom (s : State) (t : Nat) : Bool := s.capBusy t ≤ s.now * 100000 + 15 * granuleTime

/-- A granule of a capture is written where there is room. -/
def State.putGranule (s : State) (t : Nat) (k : Capture) (bytes : List Byte) : Option State :=
  if k.dram then (if s.portFits 1 (s.writeReqs (k.base + k.offset) bytes false) then some (s.capWrite k k.offset bytes) else none)
  else if s.sramRoom t then some ((s.setCapBusy t (max (s.capBusy t) (s.now * 100000) + granuleTime)).capWrite k k.offset bytes) else none

/-- |x|^2 of a complex sample. -/
def power2 (w : Word) : Nat := (Cx.ofWord w).norm2

/-- A granule of `used` slots with `num` samples of a capture in progress: written and counted, with the sums of R190; none where it finds no room. -/
def State.takeGranule (s : State) (t d used num : Nat) : Option State :=
  let k := s.cap (16 * t + d)
  let next := if k.ring ∧ k.size < k.offset + 128 then k.start else k.offset + 64
  let good := (List.range used).filter fun j => s.slotValid t k j
  let w := 12 * (s.rxCfg t k.car).nrb
  let k' := { k with done := k.done + num, next := s.capIndex t k (num - 1) + 1,
                     sym := if k.src = 5 ∧ (k.done + num) % w = 0 then k.sym + 1 else k.sym, offset := next, sum := k.sum + (good.map fun j => power2 (s.slotWord t k num j)).sum,
                     valid := k.valid + good.length }
  (s.putGranule t k (s.granuleBytes t k used num)).map fun u =>
    (u.setCap (16 * t + d) k').bumpWith (·.raise Ev.COUNTER_SATURATED) (RXCH_CAP_STAT t d) RXCH_CAP_STAT_GRANULES (RXCH_CNT_FLAGS t) (16 + d) 1

/-- Slots and samples of the next whole granule of a capture. -/
def State.granuleSize (s : State) (t : Nat) (k : Capture) : Nat × Nat :=
  let sym := 12 * (s.rxCfg t k.car).nrb
  let left := if k.src = 4 then (k.len - k.done + 1) / 2 else k.len - k.done
  let used := min 15 (if k.src = 5 then min left (sym - k.done % sym) else left)
  (used, if k.src = 4 then min (2 * used) (k.len - k.done) else used)

/-- The source of a capture gives samples: a carrier only where it is enabled (Table 4-12). -/
def State.capFed (s : State) (t : Nat) (k : Capture) : Bool := decide (3 < k.src) || (s.rxCfg t k.src).en

/-- The instant at which the next granule of a descriptor completes: with its last sample, or the end of its symbol. -/
def State.granuleAt (s : State) (t d : Nat) : Option Nat :=
  let k := s.cap (16 * t + d)
  if !s.capturing t d || !s.capFed t k then none
  else if k.src = 5 then some (s.instantOf (s.rxSymSpan t k.car k.sym).2.2)
  else some (s.capTime t (capClock k.src) (s.capIndex t k ((s.granuleSize t k).2 - 1)))

/-- No other capture of the tile completes a granule before this one's, nor in the same cycle on a lower descriptor (R128). -/
def State.granuleFirst (s : State) (t d at_ : Nat) : Bool :=
  paths.all fun d' => match s.granuleAt t d' with
    | some x => decide (at_ < x) || (at_ == x && decide (d ≤ d')) || d == d'
    | none => true

/-- CAPTURE_GRANULE: the next granule of a capture completes with its last sample; the tile's granules are accepted in the order in which they complete,
so that the command does not occur while another is due before (log entry 8). -/
def State.granule (s : State) (t d : Nat) : State :=
  match s.granuleAt t d with
  | none => s
  | some at_ =>
    if !s.granuleFirst t d at_ then s
    else
      let k := s.cap (16 * t + d)
      let (used, num) := s.granuleSize t k
      let s := s.advance at_
      match s.takeGranule t d used num with
      | none => s.endCapture t d 4
      | some u =>
        if k.len ≤ k.done + num then u.endCapture t d 0
        else if !k.ring ∧ k.size < k.offset + 128 then u.endCapture t d 3
        else u

/-- Samples of a capture that its source has given by now, of the next `n`. -/
def State.capTaken (s : State) (t : Nat) (k : Capture) (n : Nat) : Nat :=
  if k.src = 5 || !s.capFed t k then 0
  else ((List.range n).filter fun j => decide (s.capTime t (capClock k.src) (s.capIndex t k j) ≤ s.now)).length

/-- A capture in progress ends between granules: the granule it is in is written with the slots it has, if there is room (R126).  The words of a symbol come
together, so that an FFT capture is never inside one (DESIGN CHOICE, log entry 89). -/
def State.cutCapture (s : State) (t d cause : Nat) : State :=
  let k := s.cap (16 * t + d)
  let num := s.capTaken t k (min (if k.src = 4 then 30 else 15) (k.len - k.done))
  let used := if k.src = 4 then (num + 1) / 2 else num
  let u := if used = 0 then s else (s.takeGranule t d used num).getD s
  u.endCapture t d cause

/-- A CAPT at its effect instant (R125, R364).  LEN 0 ends a capture in progress; a new one replaces it. -/
def State.captAt (s : State) (t : Nat) (src pidx d : Nat) (len : Nat) : State :=
  if len = 0 then
    if s.capturing t d then s.cutCapture t d 1 else s
  else
    let s := if s.capturing t d then s.cutCapture t d 2 else s
    let cfg := RXCH_CAP_CFG t d
    let base := s.fld (RXCH_CAP_BASE_HI t d) RXCH_CAP_BASE_HI_BASE * 2 ^ 32 + s.fld (RXCH_CAP_BASE_LO t d) RXCH_CAP_BASE_LO_BASE * 64
    let size := s.fld (RXCH_CAP_SIZE t d) RXCH_CAP_SIZE_SIZE * 64
    let dest := s.bit cfg RXCH_CAP_CFG_DEST
    let car := s.fld cfg RXCH_CAP_CFG_CAR
    let k : Capture := { src := src, pidx := pidx, len := len, ring := s.bit cfg RXCH_CAP_CFG_RING, hdr := s.bit cfg RXCH_CAP_CFG_HDR,
                         left := s.bit cfg RXCH_CAP_CFG_ALIGN, car := car, dram := dest, base := base, size := size }
    let go := fun (s : State) (k : Capture) => if 7 ≤ src then s.beginDfly t d k else s.beginCapture t d k
    if size = 0 ∨ (src = 5 ∧ (s.rxCfg t car).timeDomain) then s.rejectCapture t d
    else if !dest then if base + size ≤ 2 ^ 22 then go s k else s.rejectCapture t d
    else if s.bit DRAMC_STATUS DRAMC_STATUS_AVAIL then if base + size ≤ s.dramFitted then go s k else s.rejectCapture t d
    else
      let fb := s.fld DRAMC_CAP_FB DRAMC_CAP_FB_BASE * 1024
      let fs := s.fld DRAMC_CAP_FB DRAMC_CAP_FB_SIZE * 1024
      if fs = 0 then s.rejectCapture t d
      else
        let u := (s.bump DRAMC_CAP_REDIRECT DRAMC_CNT_FLAGS 5 1).raise Ev.CAPT_REDIRECTED
        if fb + fs ≤ 2 ^ 22 then go u { k with dram := false, base := fb, size := fs } else u.rejectCapture t d

/-- A CAPT that waits for its effect instant is armed on a descriptor (R125). -/
def armedCapt (es : List Effect) (t d : Nat) : Bool :=
  es.any fun (e : Effect) => e.die == t && match e.radio with | .capt _ _ desc len => desc.toNat == d && len != 0 | _ => false

/-- Every capture in progress on a tile, and every one of the CAPTs that were armed, ends with a change to a mode that does not run processors (R125). -/
def State.stopCaptures (s : State) (armed : List Effect) (t : Nat) : State :=
  s.each paths fun s d =>
    let u := if s.capturing t d then s.cutCapture t d 5 else s
    if armedCapt armed t d then u.endCapture t d 5 else u

/-- The CAPTs of an applied bundle are armed (R125).  While the descriptor captures, STATE stays 2, and where that capture ends by itself with one armed, it shows
3 (DESIGN CHOICE, log entry 89: the spec gives one field for both). -/
def State.armCapture (s : State) (t d len : Nat) : State :=
  if len ≠ 0 ∧ !s.capturing t d then s.setFld (RXCH_CAP_STAT t d) RXCH_CAP_STAT_STATE 1 else s

end Sys2Proof.Machine
end

