-- ==== Sys2Proof/Machine/Transmit.lean ====
section
/-!
DEFINITION. The transmit chain (chapter 3): its register writes, trims, symbol deadlines, DAC gating.
-/
namespace Sys2Proof.Machine

open Reg F

/-- A write of RF_HI commits the whole word (R79, R104); a changed word ends the calibrations that rest on it (R207, R208). -/
def State.txRfHi (s : State) (t : Nat) (w : Word) : State :=
  s.configOnly fun s =>
    let word : BitVec 48 := (w.setWidth 16) ++ s.reg (TXCH_RF_LO t)
    let u := (s.plainWrite (TXCH_RF_HI t) w).setTxRf t word
    let v := if word = s.txRf t then u
      else ((u.setBit (DFLY_CAL_STAT t) DFLY_CAL_STAT_TX_VALID false).setBit (DFLY_CAL_STAT t) DFLY_CAL_STAT_RCP_VALID false).modCal t
        fun c => { c with txGood := 0, rcpGood := 0 }
    v.recheckTx t

/-- CARSEL names a path and a carrier. -/
def State.txSel (s : State) (t : Nat) : Nat × Nat := (s.fld (TXCH_CARSEL t) TXCH_CARSEL_PIDX, s.fld (TXCH_CARSEL t) TXCH_CARSEL_CAR)

/-- CAR_NCO_HI applies the whole tuning word at once (R80). -/
def State.txNcoHi (s : State) (t : Nat) (w : Word) : State :=
  let (i, c) := s.txSel t
  ((s.plainWrite (TXCH_CAR_NCO_HI t) w).tuneTx t i c ((w.setWidth 16) ++ s.reg (TXCH_CAR_NCO_LO t))).recheckTx t

/-- CAR_FILT applies response and ratio at once (R78). -/
def State.txFilt (s : State) (t : Nat) (w : Word) : State :=
  let (i, c) := s.txSel t
  (s.filterTx t i c (BitVec.ofNat 4 (getF w TXCH_CAR_FILT_RESP)) (BitVec.ofNat 12 (getF w TXCH_CAR_FILT_RATIO))).recheckTx t

/-- TRIM_ARM (R88, R103): the shadows of the paths in PMASK are armed for the next trim boundary. -/
def State.txTrimArm (s : State) (t : Nat) (pmask : Nat) : State :=
  let B := s.trimBoundary
  let u := s.each (onesOf 16 pmask) fun s i =>
    s.modTxPath (pathKey t i) fun p => { p with armed := if p.armed.contains B then p.armed else p.armed ++ [B] }
  if pmask % 65536 = 0 then u else u.setBit (TXCH_STATUS t) TXCH_STATUS_TRIM_PENDING true

def State.rxTrimArm (s : State) (t : Nat) (pmask : Nat) : State :=
  let B := s.trimBoundary
  s.each (onesOf 16 pmask) fun s i =>
    s.modRxPath (pathKey t i) fun p => { p with armed := if p.armed.contains B then p.armed else p.armed ++ [B] }

/-- A write of GAIN_i sets the gain trim (R89).  It acts within 512 Tc; the model lets it act at once (log entry 10). -/
def State.txGainWrite (s : State) (t i : Nat) (w : Word) : State := s.setTrim t i (w.setWidth 16)

/-- The earliest trim boundary armed on a tile. -/
def State.txTrimDue (s : State) (t : Nat) : Option Nat :=
  (paths.flatMap fun i => (s.txPath (pathKey t i)).armed).min?
def State.rxTrimDue (s : State) (t : Nat) : Option Nat :=
  (paths.flatMap fun i => (s.rxPath (pathKey t i)).armed).min?

/-- Armed transmit trims apply at boundary B; a changed delay marks 16 samples (Table 3-4), and a burst is struck (R203). -/
def State.txTrimApply (s : State) (t : Nat) : State :=
  match s.txTrimDue t with
  | none => s
  | some B =>
    let s := s.advanceTb B
    let u := s.each paths fun s i =>
      let p := s.txPath (pathKey t i)
      if p.armed.contains B then
        let d := BitVec.ofNat 13 (s.fld (TXCH_DELAY t i) TXCH_DELAY_DELAY)
        let a := s.sampleAt t s.now
        (s.setTxPath (pathKey t i) { p with delay := d, phase := BitVec.ofNat 16 (s.fld (TXCH_PHASE t i) TXCH_PHASE_PHASE),
                                            past := keepPast p.past s.now (p.delay, p.phase),
                                            armed := p.armed.erase B, runs := if d = p.delay then p.runs else addRun p.runs a (a + 16) }).calHit
          t i fun _ => true
      else s
    u.setBit (TXCH_STATUS t) TXCH_STATUS_TRIM_PENDING (u.txTrimDue t).isSome

/-- Armed receive trims apply at boundary B; a changed delay marks S output samples of each carrier (Table 4-3). -/
def State.rxTrimApply (s : State) (t : Nat) : State :=
  match s.rxTrimDue t with
  | none => s
  | some B =>
    (s.advanceTb B).each paths fun s i =>
      let p := s.rxPath (pathKey t i)
      if p.armed.contains B then
        let d := BitVec.ofNat 13 (s.fld (RXCH_DELAY t i) RXCH_DELAY_DELAY)
        let u := (s.setRxPath (pathKey t i) { p with delay := d, phase := BitVec.ofNat 16 (s.fld (RXCH_PHASE t i) RXCH_PHASE_PHASE),
                                                     past := keepPast p.past s.now (p.delay, p.phase), armed := p.armed.erase B }).calHit t i fun _ => true
        if d = p.delay then u else u.each cars fun u c => u.settleRx t i c u.now
      else s

/-- Index of a transmit symbol at a tile. -/
def symKey (sym c t : Nat) : Nat := (sym * 4 + c) * 4 + t

/-- Samples of a path that saturated are counted (R77). -/
def State.txClips (s : State) (t i n : Nat) : State :=
  if n = 0 then s else (s.bump (TXCH_CLIP_COUNT t i) (TXCH_CNT_FLAGS t) i n).raise (Ev.TX_CLIP t)

/-- A whole transmit symbol of a carrier of a path is marked invalid (Table 3-4). -/
def State.markSymbol (s : State) (t i c sym : Nat) : State :=
  let k := s.txCfg t c
  let a := s.sampleAt t (s.instantOf (k.symStart sym))
  let b := s.sampleAt t (s.instantOf (k.symStart (sym + 1)))
  s.modTxCar (carKey t i c) fun x => { x with runs := addRun x.runs a b }

/-- The paths of a symbol that take a mark, where the tile holds the symbol's data: those with an invalid word; all of them where it does not
(DESIGN CHOICE, log entry 88: R76 does not say whether a word of one path that is missing or invalid marks the other paths of the tile). -/
def TxSymbol.lacking (x : TxSymbol) : BitVec 16 := if x.held then x.invalid else 0xFFFF#16

/-- The transmit chain of a path runs: the mode, its quad's domain. -/
def State.txRuns (s : State) (t i : Nat) : Bool := s.mode.runsGlide && s.domOn (22 + 4 * t + i / 4)

/-- Saturations of stages 10 and 12 of a path are counted up to now (R77, R163), whatever its signal is. -/
def State.countTx (s : State) (t i : Nat) : State :=
  if !s.txRuns t i then s
  else
    let p := s.txPath (pathKey t i)
    let b := s.sampleAt t s.now
    (s.modTxPath (pathKey t i) fun p => { p with counted := max p.counted b }).txClips t i (s.pathClips t i p.counted b)

/-- The chain of a path begins to run: what it counts begins now. -/
def State.txFresh (s : State) (t i : Nat) : State := s.modTxPath (pathKey t i) fun p => { p with counted := s.sampleAt t s.now }

/-- Stage 2 saturations of carrier c in the symbol that has ended, and those of stages 10 and 12 up to now, are counted on each path whose quad is powered
(R77). -/
def State.countClips (s : State) (t c sym : Nat) : State :=
  s.each paths fun s i => if s.txRuns t i then (s.txClips t i (s.ifftClips t i c sym)).countTx t i else s

/-- TX_SYMBOL_DEADLINE (R76): at the start of a symbol of carrier c, tile t must hold the data of the next one, in the modes in which the carrier sum
reaches point A (Table 3-3); a word it lacks is zero, and the symbol is transmitted.  Words of symbols that ended 65,536 Tc ago are let go. -/
def State.symbolDeadline (s : State) (t c : Nat) : State :=
  let k := s.txCfg t c
  if !k.en || !k.ok || !(s.mode == .onAir || s.mode == .quiet || s.mode == .test) then s
  else
    let b := k.nextBoundary (s.tb.toNat + 1)
    let cur := k.symAt b
    let s := (s.advanceTb b).countClips t c (cur - 1)
    let sym := cur + 1
    let lacking := (s.txSym (symKey sym c t)).lacking
    let gone := fun (x : Nat) => x / 262144 % 4 == c && x / 4096 % 64 / 16 == t && decide (k.symStart (x / 1048576 + 1) + 65536 < b)
    let v := s.setTxSym (symKey sym c t) {}
    let u := { v with txData := v.txData.filter fun (x : Nat × Option Word) => !gone x.1 }
    if lacking = 0 then u
    else
      ((u.each (onesOf 16 lacking.toNat) fun u i => u.markSymbol t i c sym).raise (Ev.TX_DATA_LATE t)).bump
        (TXCH_LATE_DATA_COUNT t) (TXCH_CNT_FLAGS t) 17 1

/-- A path is idle in the sense of R85. -/
def State.dacIdle (s : State) (t i : Nat) : Bool :=
  (cars.all fun c => !(s.txCar (carKey t i c)).gate) && !s.injecting t i

/-- A path's stages 14 and 15 stop. -/
def State.gateDac (s : State) (t i : Nat) : State :=
  s.modTxPath (pathKey t i) fun p => if p.gated then p else { p.halt s.now with gated := true, moved := s.now }

/-- The earliest instant at which a DAC of a quad may stop: 128 Tc after the DACs of another quad last stopped or ran again (R494; log entry 121). -/
def State.quadTurn (s : State) (t q : Nat) : Nat :=
  (List.range 64).foldl (fun a k => if k / 4 = 4 * t + q then a else max a ((s.txPath k).moved + 128)) 0

/-- DAC_GATE_IDLE: a path idle for 2,048 Tc has its stages 14 and 15 stopped in its quad's turn (R85, R494). -/
def State.dacGateIdle (s : State) (t i : Nat) : State :=
  if s.bit (TXCH_CTRL t) TXCH_CTRL_DAC_GATE && s.dacIdle t i then
    (s.advance (max ((s.txPath (pathKey t i)).idleSince + 2048) (s.quadTurn t (i / 4)))).gateDac t i
  else s

/-- A write of TXCH.CTRL: with DAC_GATE 0 no DAC is stopped. -/
def State.txCtrl (s : State) (t : Nat) (w : Word) : State :=
  let u := s.plainWrite (TXCH_CTRL t) w
  if bitF w TXCH_CTRL_DAC_GATE then u else u.each paths fun u i => u.modTxPath (pathKey t i) (·.wake u.now)

/-- A write of TXCH.PATGEN: in Test, the paths that gain or lose the generator's signal (R94). -/
def State.patgen (s : State) (t : Nat) (w : Word) : State :=
  let s := s.each paths fun s i => s.countTx t i
  let u := s.plainWrite (TXCH_PATGEN t) w
  if s.mode = .test then u.wakeDacs t (s.patPaths t ||| u.patPaths t) else u

end Sys2Proof.Machine
end

