-- ==== Sys2Proof/Machine/Receive.lean ====
section
/-!
DEFINITION. The receive chain (chapter 4): its register writes, gain, power measurement, gain control, symbol delivery.
-/
namespace Sys2Proof.Machine

open Reg F

def State.rxRfHi (s : State) (t : Nat) (w : Word) : State :=
  s.configOnly fun s =>
    let word : BitVec 48 := (w.setWidth 16) ++ s.reg (RXCH_RF_LO t)
    let u := (s.plainWrite (RXCH_RF_HI t) w).setRxRf t word
    let v := if word = s.rxRf t then u
      else ((u.setBit (DFLY_CAL_STAT t) DFLY_CAL_STAT_RX_VALID false).setBit (DFLY_CAL_STAT t) DFLY_CAL_STAT_RCP_VALID false).modCal t
        fun c => { c with rxGood := 0, rcpGood := 0 }
    v.recheckRx t

def State.rxSel (s : State) (t : Nat) : Nat × Nat := (s.fld (RXCH_CARSEL t) RXCH_CARSEL_PIDX, s.fld (RXCH_CARSEL t) RXCH_CARSEL_CAR)

/-- CAR_NCO_HI applies the whole tuning word at once (R109). -/
def State.rxNcoHi (s : State) (t : Nat) (w : Word) : State :=
  let (i, c) := s.rxSel t
  ((s.plainWrite (RXCH_CAR_NCO_HI t) w).tuneRx t i c ((w.setWidth 16) ++ s.reg (RXCH_CAR_NCO_LO t))).recheckRx t

/-- CAR_FILT applies response and ratio at once (R110). -/
def State.rxFilt (s : State) (t : Nat) (w : Word) : State :=
  let (i, c) := s.rxSel t
  (s.filterRx t i c (BitVec.ofNat 4 (getF w RXCH_CAR_FILT_RESP)) (BitVec.ofNat 12 (getF w RXCH_CAR_FILT_RATIO))).recheckRx t

/-- A write of ZONE (R105); it acts within 512 Tc, in the model at once (log entry 10). -/
def State.rxZone (s : State) (t : Nat) (w : Word) : State :=
  (s.each paths fun s i => s.setZone t i (w.getLsbD i)).recheckRx t

/-- A write of a carrier's configuration, Configure only: both directions (R73, R107). -/
def State.carConfig (s : State) (a t : Nat) (rx : Bool) (w : Word) : State :=
  s.configOnly fun s => if rx then (s.plainWrite a w).recheckRx t else (s.plainWrite a w).recheckTx t

/-! ### Power measurement (R121, R122) -/

/-- A block's sum of powers over 2^BLK_LOG2 samples enters the rank filter and the averager of a configuration register:
the meter after it, and the sum of the averager's outputs and their number where there is a new result. -/
def Meter.step (m : Meter) (win rank avg block : Nat) : Meter × Option (Nat × Nat) :=
  let W := match win with | 1 => 3 | 2 => 5 | 3 => 7 | 4 => 9 | _ => 0
  let A := 2 ^ min avg 8
  let blocks := (block :: m.blocks).take (max 1 W)
  if blocks.length < W then ({ m with blocks := blocks }, none)
  else
    let out := if W = 0 then block
      else (blocks.mergeSort (· ≤ ·)).getD ((if rank = 0 then W / 2 + 1 else min rank W) - 1) 0
    let ranks := (out :: m.ranks).take A
    ({ m with blocks := blocks, ranks := ranks }, some (ranks.sum, ranks.length))

/-- Block lengths: 2^4 to 2^15 samples. -/
def blkLog2 (v : Nat) : Nat := max 4 v

/-- A result in PM_RESULT_i or WPD_RESULT_i: the mean of `n` rank outputs of blocks of 2^blk samples, relative to a full-scale sinusoid of mean square
2^full.  POWER and FRESH follow the averager from its first rank output on, over the outputs it holds, with VALID 0 until it is full (DESIGN CHOICE, log
entry 53: the spec does not say what POWER shows before). -/
def State.showPower (s : State) (a blk : Nat) (sum n avg full : Nat) : State :=
  ((s.setFld a ⟨0, 16⟩ (unsigned 16 (decibels 256 sum (n * 2 ^ (blk + full))))).setFld a ⟨30, 1⟩ 1).setFld a ⟨31, 1⟩ (b2n (n == 2 ^ min avg 8))

/-- Samples of a path that saturated are counted (R101). -/
def State.rxClips (s : State) (t i n : Nat) : State :=
  if n = 0 then s else (s.bump (RXCH_CLIP_COUNT t i) (RXCH_CNT_FLAGS t) i n).raise (Ev.RX_CLIP t)

/-- The receive chain of a path runs (R100): the mode, its quad's domain. -/
def State.rxRuns (s : State) (t i : Nat) : Bool := s.mode.runsGlide && s.domOn (38 + 4 * t + i / 4)

/-- Stages 1 and 8 of a path are counted up to now (R101), while its chain runs (R100). -/
def State.countRx (s : State) (t i : Nat) : State :=
  if !s.rxRuns t i then s
  else
    let p := s.rxPath (pathKey t i)
    let u := (s.modRxPath (pathKey t i) fun p => { p with counted := 15 * s.now }).rxClips t i (s.adcClips t i p.counted (15 * s.now))
    u.each cars fun u c =>
      let x := u.rxCar (carKey t i c)
      let n := s.sampleAt t s.now
      if (s.rxCfg t c).en then (u.modRxCar (carKey t i c) fun x => { x with counted := max x.counted n }).rxClips t i (s.carrierClips t i c x.counted n)
      else u

/-- The chain of a path begins to run: what it counts begins now, and its meters form their next blocks from here. -/
def State.rxFresh (s : State) (t i : Nat) : State :=
  let n := s.sampleAt t s.now
  let m := (15 * ((s.now : Int) - s.origin t) + 1) / 2
  (s.modRxPath (pathKey t i) fun p => { p with counted := 15 * s.now, pm := { p.pm with next := n }, wpd := { p.wpd with next := m } }).each cars
    fun s c => s.modRxCar (carKey t i c) fun x => { x with counted := n }

/-- The wideband block from ADC sample a to b - 1 holds an invalid sample: one of an unlocked interval or of an alignment, the causes of Table 4-3 that
concern the sampling itself (DESIGN CHOICE, log entry 53: the table counts carrier output samples). -/
def State.wideInvalid (s : State) (t i : Nat) (a b : Int) : Bool :=
  (s.rxCar (carKey t i 0)).runs.any fun r =>
    (r.cause == 1 || r.cause == 2) && decide (6 * r.first < b) && (r.opened || decide (a < 6 * (r.stop - r.tail)))

/-- POWER_BLOCK_RESULT: the next block of the wideband detector of a path (R121, R122).  A magnitude of 8,192, which the 13 bits of PEAK do not hold, is
compared as it is and shown as 8,191 (DESIGN CHOICE, log entry 113). -/
def State.wideBlock (s : State) (t i : Nat) : State :=
  let cfg := RXCH_WPD_CFG t
  let a := RXCH_WPD_RESULT t i
  let m := (s.rxPath (pathKey t i)).wpd
  let B := blkLog2 (s.fld cfg RXCH_WPD_CFG_BLK_LOG2)
  let n0 := m.next
  let s := s.advance ((s.adcTime t (n0 + 2 ^ B - 1) + 14) / 15).toNat
  let xs := (List.range (2 ^ B)).map fun (j : Nat) => s.adcSample t i (n0 + j)
  let peak := (xs.map Int.natAbs).foldl max 0
  let above := decide (s.fld (RXCH_WPD_THRESH t) RXCH_WPD_THRESH_THRESH < peak)
  let u := s.setFld a RXCH_WPD_RESULT_PEAK (min 8191 peak)
  let v := if above && !m.above then u.raise (Ev.RX_OVERLOAD t) else u
  let avg := s.fld cfg RXCH_WPD_CFG_AVG_LOG2
  let (m', r) := if s.wideInvalid t i n0 (n0 + 2 ^ B) then (m, none)
    else m.step (s.fld cfg RXCH_WPD_CFG_WIN) (s.fld cfg RXCH_WPD_CFG_RANK) avg (xs.map fun x => x.natAbs ^ 2).sum
  let x := v.modRxPath (pathKey t i) fun p => { p with wpd := { m' with above := above, next := n0 + 2 ^ B } }
  match r with
  | some (sum, n) => x.showPower a B sum n avg 25
  | none => x

/-- The next block of the measurement on a carrier of a path (R121): a block with an invalid sample is skipped.  A carrier that is not enabled has no samples
(Table 4-12). -/
def State.carrierBlock (s : State) (t i : Nat) : State :=
  let cfg := RXCH_PM_CFG t
  let c := s.fld cfg RXCH_PM_CFG_SRC
  if 4 ≤ c || !(s.rxCfg t c).en then s
  else
    let m := (s.rxPath (pathKey t i)).pm
    let B := blkLog2 (s.fld cfg RXCH_PM_CFG_BLK_LOG2)
    let ns := s.outputsFrom t i c (2 ^ B) m.next
    let last := ns.getLastD m.next
    let s := s.advance ((s.sampleTime t last + 14) / 15).toNat
    let invalid := ns.any fun n => !s.carrierValid t i c n
    let avg := s.fld cfg RXCH_PM_CFG_AVG_LOG2
    let block := (ns.map fun n => (s.carrierOut t i c n).norm2).sum
    let (m', r) := if invalid then (m, none) else m.step (s.fld cfg RXCH_PM_CFG_WIN) (s.fld cfg RXCH_PM_CFG_RANK) avg block
    let x := s.modRxPath (pathKey t i) fun p => { p with pm := { m' with next := last + 1 } }
    match r with
    | some (sum, n) => x.showPower (RXCH_PM_RESULT t i) B sum n avg 30
    | none => x

def State.powerBlock (s : State) (t i : Nat) (wide : Bool) : State :=
  if !s.rxRuns t i then s else if wide then (s.wideBlock t i).countRx t i else (s.carrierBlock t i).countRx t i

/-- A measurement starts anew on the 16 paths of a tile (R121).  A peak that was above the threshold in the latest block before is held to be so
(DESIGN CHOICE, log entry 53: R122 does not say whether a reset forgets it). -/
def State.resetPm (s : State) (t : Nat) : State :=
  s.each paths fun s i =>
    (s.modRxPath (pathKey t i) fun p => { p with pm := { next := s.sampleAt t s.now } }).setBit (RXCH_PM_RESULT t i) RXCH_PM_RESULT_VALID false
def State.resetWpd (s : State) (t : Nat) : State :=
  s.each paths fun s i =>
    (s.modRxPath (pathKey t i) fun p => { p with wpd := { next := (15 * ((s.now : Int) - s.origin t) + 1) / 2, above := p.wpd.above } }).setBit (RXCH_WPD_RESULT t i)
      RXCH_WPD_RESULT_VALID false

/-- A write of PM_CFG or WPD_CFG. -/
def State.pmCfg (s : State) (t : Nat) (w : Word) : State := (s.plainWrite (RXCH_PM_CFG t) w).resetPm t
def State.wpdCfg (s : State) (t : Nat) (w : Word) : State := (s.plainWrite (RXCH_WPD_CFG t) w).resetWpd t

/-! ### Gain (R117 to R120) -/

/-- GAIN with D = 1 and S = 0 at its effect instant. -/
def State.gainNow (s : State) (t i : Nat) (code : BitVec 6) : State :=
  (s.stepNow t i code).calHit t i fun b => b.measures true s.now

/-- GAIN with D = 1 and S = 1, from T + 256 Tc on: the first boundary of the reference carrier, or a refusal without one. -/
def State.gainSync (s : State) (t : Nat) (pmask : BitVec 16) (code : BitVec 6) (proc : Nat) : State :=
  match s.refCar t with
  | none => s.raise (Ev.RX_GAIN_CP_OVERRUN t)
  | some c =>
    let B := s.rxBoundary t (s.rxCfg t c) s.tb.toNat
    s.each (onesOf 16 pmask.toNat) fun s i => s.stepArm t i code false B proc

/-- GAIN_BOUNDARY_APPLY: the change armed on a path starts at its boundary (R118). -/
def State.gainApply (s : State) (t i : Nat) : State :=
  match (s.rxPath (pathKey t i)).gain with
  | none => s
  | some (g, B) =>
    let u := (s.advanceTb B).stepApply t i g.code
    if g.byAgc then u else u.calHit t i fun b => b.measures true u.now

/-- Gain control of a path is frozen by a burst of KIND 1 or 2 (R119). -/
def State.agcFrozen (s : State) (t i : Nat) : Bool :=
  match (s.cal t).burst with
  | some b => b.spans s.now && (b.kind == 1 || b.kind == 2) && b.pmask.getLsbD i
  | none => false

/-- AGC_DECISION at the next boundary of the reference carrier (R119, R120); a change due at that boundary applies first.  A power that is not valid gives no decision
(log entry 11). -/
def State.agcDecision (s : State) (t i : Nat) : State :=
  match s.refCar t with
  | none => s
  | some c =>
    if !s.maskBit (RXCH_AGC_EN t) RXCH_AGC_EN_PMASK i || !s.rxRuns t i then s
    else
      let k := s.rxCfg t c
      let p := s.rxPath (pathKey t i)
      let b := s.rxBoundary t k (max s.tb.toNat (s.tbAt p.decided + 1))
      let s := s.advanceTb b
      let s := match p.gain with | some (_, B) => if B ≤ b then s.gainApply t i else s | none => s
      let p := s.rxPath (pathKey t i)
      let next := s.rxBoundary t k (b + 1)
      let W := signed 16 (s.fld (RXCH_WPD_RESULT t i) RXCH_WPD_RESULT_POWER)
      let cfg := RXCH_AGC_CFG t
      let step := max 1 (s.fld cfg RXCH_AGC_CFG_STEP)
      let code := s.fld (RXCH_STEP_CFG t i) RXCH_STEP_CFG_CODE
      let seen := s.modRxPath (pathKey t i) fun p => { p with decided := s.now }
      let rest := seen.modRxPath (pathKey t i) fun p => { p with hold := 0 }
      let taken := match p.gain with | some (g, B) => !g.byAgc && B == next | none => false
      let change := fun (v : Nat) => if v = code || taken then rest else rest.stepArm t i (BitVec.ofNat 6 v) true next
      if s.agcFrozen t i || !s.bit (RXCH_WPD_RESULT t i) RXCH_WPD_RESULT_VALID then seen
      else if -256 * (s.fld cfg RXCH_AGC_CFG_HIGH : Int) < W then change (min 63 (code + step))
      else if W < -256 * (s.fld cfg RXCH_AGC_CFG_LOW : Int) then
        if max 1 (s.fld cfg RXCH_AGC_CFG_HOLD) ≤ p.hold + 1 then change (code - step)
        else seen.modRxPath (pathKey t i) fun p => { p with hold := p.hold + 1 }
      else rest

/-! ### Symbols (R112 to R114, R124) -/

/-- Index of an uplink word and of a delivered symbol in the stores of the hub; path is the part-wide path. -/
def ulSymKey (sym c path : Nat) : Nat := (sym * 4 + c) * 64 + path
def ulWordKey (sym c path k : Nat) : Nat := ulSymKey sym c path * 4096 + k

/-- RX_SYMBOL_DELIVER: the last word of a symbol of a path reaches the hub 6,144 Tc after its useful part, in On-air and Quiet, if its gate was open from
the start of the prefix to the end of the FFT window (R113, R114).  The chain itself runs in Calibrate and Test too (R100): there it only counts. -/
def State.rxDeliver (s : State) (t i c sym : Nat) : State :=
  let k := s.rxCfg t c
  let x := s.rxCar (carKey t i c)
  let (a, w, e) := s.rxSymSpan t c sym
  if !k.en || k.timeDomain then s
  else if !s.rxRuns t i then
    -- an RXQ domain that is not ON delivers nothing, and its path is marked (R406)
    (if s.mode == .onAir || s.mode == .quiet then (s.advanceTb (e + 6144)).setPathMark (ulSymKey sym c (16 * t + i)) (some true) else s)
  else
    let s := s.advanceTb (e + 6144)
    let s := (s.countRx t i).rxClips t i (s.symClips t i c sym)
    if !(s.mode == .onAir || s.mode == .quiet) then s
    else
      let path := 16 * t + i
      if !x.openThrough (s.instantOf a) (s.instantOf w) then s.setPathMark (ulSymKey sym c path) (some false)
      else
        let mark := s.symMarked t i c sym || s.pathMark (ulSymKey sym c path) == some true
        (List.range (12 * k.nrb)).foldl (fun u j => u.setPathWord (ulWordKey sym c path j) (some (s.fftWord t i c sym j)))
          (s.setPathMark (ulSymKey sym c path) (some mark))

end Sys2Proof.Machine
end

