-- ==== Sys2Proof/Machine/Frontend.lean ====
section
/-!
DEFINITION. Quad sequencers (R213 to R220), PAEN, bias outputs (R221 to R226) and RFFE masters (R227 to R230).
-/
namespace Sys2Proof.Machine

open Reg F

/-! Bias output states (Table 8-3). -/
namespace BiasSt
@[reducible] def hiz : Nat := 0
@[reducible] def drive : Nat := 1
@[reducible] def rangeChange : Nat := 2
end BiasSt

def State.gateMask (s : State) (t q : Nat) : Nat := s.fld (SEQ_CFG t q) SEQ_CFG_GATE_MASK
def State.biasState (s : State) (t i : Nat) : Nat := s.fld (BIASOUT_STAT t i) BIASOUT_STAT_STATE

/-- A delay of n steps of 1 µs ends at the first tile cycle of 4 Tc at or after its start plus n x 1,966.08 Tc (R214). -/
def delayEnd (start n : Nat) : Nat := (100 * start + 196608 * n + 399) / 400 * 4

def State.setEnds (s : State) (t q : Nat) (e : Option Nat) : State := s.modQuad (quadKey t q) fun k => { k with ends := e }

/-- DRAINEN_(4t + q) is high only in DRAIN_SETTLE and READY (R217; log entry 12). -/
def State.drainEn (s : State) (t q : Nat) : Bool :=
  let st := s.seqState t q
  st == Seq.drainSettle || st == Seq.ready

/-! ### Bias outputs: entering and leaving DRIVE (R221 to R223) -/

def biasKey (t i : Nat) : Nat := 16 * t + i

/-- DIV as it acts, and one interval of the update clock in Tc: a cycle of 49.152 MHz lasts 40 Tc. -/
def State.biasStep (s : State) (t i : Nat) : Nat := 40 * clampN 50 49152 (s.fld (BIASOUT_CFG t i) BIASOUT_CFG_DIV)

/-- The code in force. -/
def State.setCode (s : State) (t i v : Nat) : State :=
  let u := s.setFld (BIASOUT_STAT t i) BIASOUT_STAT_PIN_CODE v
  if v = s.fld (BIASOUT_STAT t i) BIASOUT_STAT_PIN_CODE then u else u.modBias (biasKey t i) fun b => { b with since := s.now }

/-- Entry to DRIVE: the code in force is SAFE_i and the update clock's phase is set. -/
def State.enterDrive (s : State) (t i : Nat) : State :=
  ((s.setFld (BIASOUT_STAT t i) BIASOUT_STAT_STATE BiasSt.drive).setFld (BIASOUT_STAT t i) BIASOUT_STAT_PIN_CODE
    (s.fld (BIASOUT_SAFE t i) BIASOUT_SAFE_CODE)).modBias (biasKey t i) fun b =>
      { b with tick := s.now + s.biasStep t i, sine := s.bit (BIASOUT_CFG t i) BIASOUT_CFG_SINE, phase := 0, since := s.now }

/-- Enabling by a sequencer sets EN as a write would. -/
def State.enableBias (s : State) (t i : Nat) : State :=
  if s.biasState t i = BiasSt.hiz then (s.setBit (BIASOUT_CFG t i) BIASOUT_CFG_EN true).enterDrive t i else s

/-- Disabling: HIZ, the queue flushed, EN cleared. -/
def State.disableBias (s : State) (t i : Nat) : State :=
  (((s.setBit (BIASOUT_CFG t i) BIASOUT_CFG_EN false).setFld (BIASOUT_STAT t i) BIASOUT_STAT_STATE BiasSt.hiz).modBias (biasKey t i)
    fun b => { b with queue := [] })

/-! ### Gate bias and the causes of FAULT (R213, R218) -/

def State.gatesDriven (s : State) (t q : Nat) : Bool := (onesOf 16 (s.gateMask t q)).all fun i => s.biasState t i == BiasSt.drive

/-- The gate bias of the quad is present. -/
def State.gateBias (s : State) (t q : Nat) : Bool := s.gatesDriven t q && s.bit (SEQ_STAT t q) SEQ_STAT_GATEOK

/-- The quad keeps its state: it has seen a cause and is about to enter FAULT (R218). -/
def State.faultDue (s : State) (t q : Nat) : Bool := (s.quad (quadKey t q)).seen.isSome

/-- A cause seen now leads to FAULT: the quad is in DRAIN_SETTLE or READY, or a shutdown request takes it out of them in this tick (R218). -/
def State.causeOpen (s : State) (t q : Nat) : Bool :=
  s.seqState t q == Seq.drainSettle || s.seqState t q == Seq.ready || (s.quad (quadKey t q)).leftAt == some s.now

/-- A cause is seen: FAULT follows 64 Tc after the first, with the lowest code; a shutdown request of this tick is held (R218). -/
def State.seeCause (s : State) (t q cause : Nat) : State :=
  s.modQuad (quadKey t q) fun k =>
    { k with
      heldReq := k.heldReq || k.leftAt == some s.now
      seen := match k.seen with
        | none => some (cause, s.now + 64)
        | some (c, e) => some (min c cause, e) }

/-- Entry to GATE_WAIT: every disabled GATE_MASK output is enabled, and the timeout starts. -/
def State.enterGateWait (s : State) (t q : Nat) : State :=
  ((s.setSeqState t q Seq.gateWait).each (onesOf 16 (s.gateMask t q)) fun s i => s.enableBias t i).setEnds t q
    (some (s.now + usTc (s.fld (SEQ_CFG t q) SEQ_CFG_GOK_TMO)))

def State.enterGateSettle (s : State) (t q : Nat) : State :=
  (s.setSeqState t q Seq.gateSettle).setEnds t q (some (delayEnd s.now (s.fld (SEQ_DLY_A t q) SEQ_DLY_A_T_GATE)))

/-- The gate bias of a quad is found lost: its GATE_MASK outputs are not all driven, or GATEOK is low (R214, R218).  A quad of a tile whose domain is not
ON enables no output (R221): it goes back to GATE_WAIT when the domain is ON again. -/
def State.loseBias (s : State) (t q : Nat) (driven : Bool) : State :=
  let ok := s.bit (SEQ_STAT t q) SEQ_STAT_GATEOK
  if driven && ok then s
  else if s.seqState t q = Seq.gateSettle then if s.domOn (10 + t) then s.enterGateWait t q else s
  else if s.causeOpen t q then
    let u := if driven then s else s.seeCause t q 3
    if ok then u else u.seeCause t q 2
  else s

/-- A quad in GATE_WAIT finds its gate bias present. -/
def State.gainBias (s : State) (t q : Nat) : State :=
  if s.gateBias t q && s.seqState t q == Seq.gateWait && !s.faultDue t q then s.enterGateSettle t q else s

/-- The gate bias of a quad, or of every quad of a tile, is judged after a change: first what each lost by it, then what each has, an output that one
enables again on its way to GATE_WAIT among it. -/
def State.judgeQuad (s : State) (t q : Nat) : State := (s.loseBias t q (s.gatesDriven t q)).each quads fun s q => s.gainBias t q
def State.judgeQuads (s : State) (t : Nat) : State :=
  (s.each quads fun u q => u.loseBias t q (s.gatesDriven t q)).each quads fun s q => s.gainBias t q

/-- A power-up of a quad in OFF. -/
def State.startQuad (s : State) (t q : Nat) : State := (s.enterGateWait t q).judgeQuads t

/-! ### Requests (R215) -/

def State.clearRec (s : State) (t q : Nat) : State := s.setFld (SEQ_STAT t q) SEQ_STAT_PAEN_REC 0

/-- R219: the gate outputs when T_DRAINOFF ends. -/
def State.handleGates (s : State) (t q : Nat) : State :=
  (s.each (onesOf 16 (s.gateMask t q)) fun s i =>
    if s.bit (SEQ_CFG t q) SEQ_CFG_GATE_KEEP then
      if s.biasState t i = BiasSt.drive then
        (s.setCode t i (s.fld (BIASOUT_SAFE t i) BIASOUT_SAFE_CODE)).modBias (biasKey t i) fun b => { b with queue := [] }
      else s
    else s.disableBias t i).judgeQuads t

/-- The quad reaches OFF; a request that follows a cause already seen stays held for FAULT (R218). -/
def State.enterOff (s : State) (t q : Nat) : State :=
  (((s.setSeqState t q Seq.off).clearRec t q).modQuad (quadKey t q) fun k =>
    { k with ends := none, heldReq := k.heldReq && k.seen.isSome }).raise (Ev.SEQ_OFF t)

def State.enterSdDrain (s : State) (t q delay : Nat) : State :=
  (s.setSeqState t q Seq.sdDrain).setEnds t q (some (delayEnd s.now delay))

def State.enterSdPa (s : State) (t q : Nat) : State :=
  (((s.setSeqState t q Seq.sdPa).clearRec t q).setEnds t q (some (delayEnd s.now (s.fld (SEQ_DLY_B t q) SEQ_DLY_B_T_PAOFF)))).judgePins t

/-- A shutdown request on one quad (Table 8-2); one that follows a cause already seen is held for FAULT as well (R218). -/
def State.shutQuad (s : State) (t q : Nat) : State :=
  let k := s.quad (quadKey t q)
  let s := if k.seen.isSome then s.modQuad (quadKey t q) fun k => { k with heldReq := true } else s
  match s.seqState t q with
  | 1 | 2 => s.enterSdDrain t q 0
  | 3 | 4 => (s.enterSdPa t q).modQuad (quadKey t q) fun k => { k with leftAt := some s.now }
  | 7 => if k.ends.isSome then s.modQuad (quadKey t q) fun k => { k with heldReq := true } else s.enterOff t q
  | _ => s

/-- A power-up request on one quad is refused (Table 8-2). -/
def State.refusesUp (s : State) (t q : Nat) : Bool :=
  match s.seqState t q with
  | 0 => !(s.mode == .onAir || s.mode == .quiet)
  | 5 | 6 | 7 => true
  | _ => false

/-- A refused request or PAEN is counted once (R215, R216). -/
def State.seqRefused (s : State) (t ev : Nat) : State := (s.raise ev).bump (SEQ_REFUSED_COUNT t) (SEQ_CNT_FLAGS t) 0 1

/-- A power-up request on the quads of a mask. -/
def State.powerUp (s : State) (t : Nat) (qmask : BitVec 4) : State :=
  let qs := onesOf 4 qmask.toNat
  let refused := qs.any fun q => s.refusesUp t q
  let u := s.each (qs.filter fun q => !s.refusesUp t q && s.seqState t q == Seq.off) fun s q => s.startQuad t q
  if refused then u.seqRefused t (Ev.SEQ_REQ_REFUSED t) else u

def State.shutdown (s : State) (t : Nat) (qmask : BitVec 4) : State := s.each (onesOf 4 qmask.toNat) fun s q => s.shutQuad t q

/-- OP 3: a shutdown request for a quad in FAULT, or one that has seen a cause and is about to enter it (R215, R218). -/
def State.clearFault (s : State) (t : Nat) (qmask : BitVec 4) : State :=
  s.each (onesOf 4 qmask.toNat) fun s q =>
    if s.seqState t q = Seq.fault then s.shutQuad t q
    else if (s.quad (quadKey t q)).seen.isSome then s.modQuad (quadKey t q) fun k => { k with heldReq := true }
    else s

/-- Every quad of every tile shuts down (R32, R458); and all of them are down (R220). -/
def State.shutdownAll (s : State) : State := s.each tiles fun s t => s.shutdown t 0xF
def State.quadDown (s : State) (t q : Nat) : Bool :=
  s.seqState t q == Seq.off || (s.seqState t q == Seq.fault && (s.quad (quadKey t q)).ends.isNone)
def State.allDown (s : State) : Bool := tiles.all fun t => quads.all fun q => s.quadDown t q

/-- PAEN at its effect instant (R216; V = 1 in Calibrate and Test is refused with either Q, R58). -/
def State.paen (s : State) (t : Nat) (v q : Bool) (qmask : BitVec 4) (pmask : BitVec 16) : State :=
  if v && (s.mode == .calibrate || s.mode == .test) then s.seqRefused t (Ev.PAEN_REFUSED t)
  else if q then if v then s.powerUp t qmask else s.shutdown t qmask
  else
    let ps := onesOf 16 pmask.toNat
    let bad := fun i => v && s.seqState t (i / 4) != Seq.ready
    let u := s.each (ps.filter fun i => !bad i) fun s i => s.setMaskBit (SEQ_STAT t (i / 4)) SEQ_STAT_PAEN_REC (i % 4) v
    (if ps.any bad then u.seqRefused t (Ev.PAEN_REFUSED t) else u).judgePins t

/-! ### The sequencer's own steps -/

/-- The delay of a state ends at its instant. -/
def State.atSeq (s : State) (t q : Nat) (st : Nat) (f : State → State) : State :=
  match (s.quad (quadKey t q)).ends with
  | some e => if s.seqState t q = st then f (s.advance e) else s
  | none => s

/-- The device sees the levels at the GATEOK pins of a tile, where its common domain runs. -/
def State.seeGates (s : State) (t : Nat) : State :=
  s.each quads fun s q =>
    let level := s.gatePins.getLsbD (quadKey t q)
    if s.bit (SEQ_STAT t q) SEQ_STAT_GATEOK = level then s else (s.setBit (SEQ_STAT t q) SEQ_STAT_GATEOK level).judgeQuad t q

/-- GATEOK_(4t + q) changed at the pin `ago` Tc ago; the device sees it 32 Tc after that (R213).  A low shorter than that is no event. -/
def State.gateOk (s : State) (t q : Nat) (level : Bool) (ago : Nat) (brief : Bool) : State :=
  if brief && !level then s
  else
    let s := s.advance (s.now + 32 - ago)
    let bit := BitVec.ofNat 16 (2 ^ quadKey t q)
    let s := { s with gatePins := if level then s.gatePins ||| bit else s.gatePins &&& ~~~ bit }
    if !s.domOn (10 + t) || s.bit (SEQ_STAT t q) SEQ_STAT_GATEOK = level then s
    else (s.setBit (SEQ_STAT t q) SEQ_STAT_GATEOK level).judgeQuad t q

def State.gateSettleEnd (s : State) (t q : Nat) : State :=
  s.atSeq t q Seq.gateSettle fun s =>
    (s.setSeqState t q Seq.drainSettle).setEnds t q (some (delayEnd s.now (s.fld (SEQ_DLY_A t q) SEQ_DLY_A_T_DRAIN)))

def State.drainSettleEnd (s : State) (t q : Nat) : State :=
  if s.faultDue t q then s else s.atSeq t q Seq.drainSettle fun s => ((s.setSeqState t q Seq.ready).setEnds t q none).raise (Ev.SEQ_READY t)

def State.paoffEnd (s : State) (t q : Nat) : State :=
  s.atSeq t q Seq.sdPa fun s => s.enterSdDrain t q (s.fld (SEQ_DLY_B t q) SEQ_DLY_B_T_DRAINOFF)

/-- T_DRAINOFF ends, in SD_DRAIN or FAULT. -/
def State.drainoffEnd (s : State) (t q : Nat) : State :=
  (s.atSeq t q Seq.sdDrain fun s => (s.handleGates t q).enterOff t q) |>.atSeq t q Seq.fault fun s =>
    let u := (s.handleGates t q).setEnds t q none
    if (s.quad (quadKey t q)).heldReq then u.enterOff t q else u

/-- GOK_TMO ends in GATE_WAIT: cause 1. -/
def State.gokTimeout (s : State) (t q : Nat) : State :=
  s.atSeq t q Seq.gateWait fun s => (s.seeCause t q 1).setEnds t q none

/-- The entry to FAULT, 64 Tc after the cause was seen. -/
def State.faultEntry (s : State) (t q : Nat) : State :=
  match (s.quad (quadKey t q)).seen with
  | none => s
  | some (cause, e) =>
    let s := s.advance e
    ((((s.setSeqState t q Seq.fault).clearRec t q).setFld (SEQ_STAT t q) SEQ_STAT_CAUSE cause).modQuad (quadKey t q) fun k =>
      { k with seen := none, ends := some (delayEnd s.now (s.fld (SEQ_DLY_B t q) SEQ_DLY_B_T_DRAINOFF)) }).raise (Ev.SEQ_FAULT t) |>.judgePins t

/-- A write of SEQ.CFG_q, DLY_A_q or DLY_B_q: only while the quad is OFF (R220). -/
def State.seqCfg (s : State) (t q a : Nat) (w : Word) : State :=
  if s.seqState t q = Seq.off then s.plainWrite a w else s.accessError

/-- A write of SEQ.CMD (R215); it acts within 512 Tc, in the model at once (log entry 10). -/
def State.seqCmd (s : State) (t : Nat) (w : Word) : State :=
  let qmask := BitVec.ofNat 4 (getF w SEQ_CMD_QMASK)
  match getF w SEQ_CMD_OP with
  | 1 => s.powerUp t qmask
  | 2 => s.shutdown t qmask
  | 3 => s.clearFault t qmask
  | _ => s

/-! ### Bias outputs: writes, ticks and read-back (R221 to R226) -/

/-- Output i is locked: a quad whose GATE_MASK selects it is not OFF (R225). -/
def State.biasLocked (s : State) (t i : Nat) : Bool := quads.any fun q => (s.gateMask t q).testBit i && s.seqState t q != Seq.off

def State.biasCfg (s : State) (t i : Nat) (w : Word) : State :=
  let a := BIASOUT_CFG t i
  let en := bitF w BIASOUT_CFG_EN
  let moved := getF w BIASOUT_CFG_RANGE != s.fld a BIASOUT_CFG_RANGE
  if s.biasLocked t i && ((s.bit a BIASOUT_CFG_EN && !en) || moved) then s.accessError.raise (Ev.SEQ_BIAS_LOCKED t)
  else
    let st := s.biasState t i
    let u := s.plainWrite a w
    if !en then (if st = BiasSt.hiz then u else (u.disableBias t i).judgeQuads t)
    else if st = BiasSt.hiz then (u.enterDrive t i).judgeQuads t
    else if moved then
      (u.setFld (BIASOUT_STAT t i) BIASOUT_STAT_STATE BiasSt.rangeChange).modBias (biasKey t i) (fun b => { b with rangeEnd := s.now + 49152 }) |>.judgeQuads t
    else u

def State.rangeChangeEnd (s : State) (t i : Nat) : State :=
  if s.biasState t i = BiasSt.rangeChange then (s.advance (s.bias (biasKey t i)).rangeEnd).enterDrive t i |>.judgeQuads t else s

/-- A write of CODE_i (R223). -/
def State.biasCode (s : State) (t i : Nat) (w : Word) : State :=
  if (s.bias (biasKey t i)).queue.length < 16 then
    s.modBias (biasKey t i) fun b => { b with queue := b.queue ++ [w.setWidth 16] }
  else (s.setBit (BIASOUT_STAT t i) BIASOUT_STAT_QFULL true).raise (Ev.BIAS_QUEUE_FULL t)

/-- Entry k of the 1,024-entry sine table, a signed 16-bit value with peak 32,767: one of the two integers about 32,767 sin(2πk / 1,024), the same in
both halves of the wave (R224; log entry 56). -/
def sineEntry (k : Nat) : Int :=
  let half := fun (k : Nat) =>
    let x := 32767 * sinFix (k * 2 ^ 38)
    min 32767 (x / 2 ^ 60 + if x % 2 ^ 60 ≠ 0 ∧ Config.roundSine (min k (512 - k)) then 1 else 0)
  if k < 512 then half k else -(half (k - 512))

/-- The code of sine mode (R224): OFFSET + round(AMP x s / 32,767), saturated. -/
def sineCode (ao : Word) (phase : BitVec 32) : Nat :=
  let x := (getF ao BIASOUT_SINE_AO_AMP : Int) * sineEntry (phase.toNat / 2 ^ 22)
  (clampI 0 65535 ((getF ao BIASOUT_SINE_AO_OFFSET : Int) + (2 * x + 32767) / 65534)).toNat

/-- BIAS_UPDATE_TICK of an output in DRIVE. -/
def State.biasTick (s : State) (t i : Nat) : State :=
  if s.biasState t i ≠ BiasSt.drive then s
  else
    let b := s.bias (biasKey t i)
    let s := s.advance b.tick
    let sine := s.bit (BIASOUT_CFG t i) BIASOUT_CFG_SINE
    let b' := { b with tick := b.tick + s.biasStep t i, sine := sine }
    if sine then
      let φ := (if b.sine then b.phase else 0) + s.reg (BIASOUT_SINE_INC t i)
      (s.setBias (biasKey t i) { b' with phase := φ }).setCode t i (sineCode (s.reg (BIASOUT_SINE_AO t i)) φ)
    else match b.queue with
      | c :: rest => (s.setBias (biasKey t i) { b' with queue := rest }).setCode t i c.toNat
      | [] => s.setBias (biasKey t i) b'

/-- BIAS_READBACK: a reading of 12 bits of full range is compared (R226); a mismatch is cause 4 for the quads it trips (R218). -/
def State.biasReadback (s : State) (t i : Nat) (reading : BitVec 12) : State :=
  let b := s.bias (biasKey t i)
  let a := BIASOUT_STAT t i
  let settle := s.fld (BIASOUT_RB_CFG t) BIASOUT_RB_CFG_SETTLE
  if s.biasState t i ≠ BiasSt.drive ∨ s.bit (BIASOUT_CFG t i) BIASOUT_CFG_SINE ∨ 100 * (s.now - b.since) < 196608 * settle then s
  else
    let diff := |16 * (reading.toNat : Int) - (s.fld a BIASOUT_STAT_PIN_CODE : Int)|
    if diff ≤ 16 * (s.fld (BIASOUT_RB_CFG t) BIASOUT_RB_CFG_TOL : Int) then
      (s.setBit a BIASOUT_STAT_MM false).modBias (biasKey t i) fun b => { b with off := 0 }
    else
      let cnt := max 1 (s.fld (BIASOUT_RB_CFG t) BIASOUT_RB_CFG_CNT)
      let u := s.modBias (biasKey t i) fun b => { b with off := min cnt (b.off + 1) }
      if cnt ≤ b.off + 1 ∧ !s.bit a BIASOUT_STAT_MM then
        ((u.setBit a BIASOUT_STAT_MM true).raise (Ev.BIAS_MISMATCH t)).each quads fun u q =>
          if (u.gateMask t q).testBit i && u.bit (SEQ_CFG t q) SEQ_CFG_MM_TRIP
              && u.causeOpen t q then u.seeCause t q 4 else u
      else u

/-! ### RFFE masters (R227 to R229) -/

/-- SCLK cycles of a command (Table 8-6), and its read forms. -/
def rffeCycles (op : BitVec 4) : Nat := [0, 16, 25, 26, 34, 35, 43, 44].getD op.toNat 0
def rffeReads (op : BitVec 4) : Bool := op == 3 || op == 5 || op == 7

/-- Duration of a frame in Tc: an SCLK period lasts DIV x 4 Tc; half-rate reads take 9 more cycles. -/
def State.rffeTime (s : State) (t q : Nat) (op : BitVec 4) : Nat :=
  let a := RFFE_CFG t q
  (rffeCycles op + (if rffeReads op && s.bit a RFFE_CFG_HALF_READ then 9 else 0)) * (4 * max 10 (s.fld a RFFE_CFG_DIV))

/-- A command the master accepts: OP 1 to 7, no address bit outside its range. -/
def RffeCmd.ok (c : RffeCmd) : Bool :=
  match c.op.toNat with
  | 1 => c.addr == 0
  | 2 | 3 => c.addr.toNat < 0x20
  | 4 | 5 => c.addr.toNat < 0x100
  | 6 | 7 => true
  | _ => false

/-- The first instant from x on outside the guard time before the boundaries of a carrier (R229): a boundary ends its own guard, and may lie in that of the
next.  None where 120 boundaries, more than a period of them, leave no gap. -/
def State.guardScan (s : State) (t c guard : Nat) : Nat → Nat → Option Nat
  | 0, _ => none
  | f + 1, x =>
    let now := s.tbAt x
    let B := s.rxBoundary t (s.rxCfg t c) (now + 1)
    if B ≤ now + guard then s.guardScan t c guard f (x + (B - now)) else some x

def State.guardEnd (s : State) (t q : Nat) (x : Nat) : Option Nat :=
  match s.refCar t with
  | none => some x
  | some c => s.guardScan t c (s.fld (RFFE_CFG t q) RFFE_CFG_GUARD) 120 x

/-- A frame goes onto the bus. -/
def State.startFrame (s : State) (t q : Nat) (c : RffeCmd) (start : Nat) (due : Option Nat) : State :=
  s.modRffe (quadKey t q) fun m => { m with bus := some ⟨c, start, start + s.rffeTime t q c.op, due⟩ }

/-- The earliest timed frame, the lowest path of equals. -/
def firstTimed (l : List RffeTimed) : Option RffeTimed :=
  l.foldl (fun best x => match best with
    | none => some x
    | some b => if x.at_ < b.at_ ∨ (x.at_ = b.at_ ∧ x.path < b.path) then some x else some b) none

/-- The head of the queue waits for the end of the guard: its frame is not yet on the bus, and it counts among the commands queued. -/
def Rffe.held (m : Rffe) (now : Nat) : Bool := m.bus.any fun f => f.due.isNone && decide (now < f.start)
def Rffe.queued (m : Rffe) (now : Nat) : Nat := m.queue.length + b2n (m.held now)

/-- A queued command that waits for the end of the guard goes back to its queue. -/
def Rffe.recall (m : Rffe) (now : Nat) : Rffe :=
  match m.bus with
  | some f => if m.held now then { m with bus := none, queue := f.cmd :: m.queue } else m
  | none => m

/-- A timed frame starts on the idle bus (R229): at its instant, or when the bus has become free; ahead of a queued command that has not begun. -/
def State.timedStart (s : State) (t q : Nat) : State :=
  match firstTimed (s.rffe (quadKey t q)).timed with
  | none => s
  | some x =>
    let m := (s.rffe (quadKey t q)).recall (max x.at_ s.now - 1)
    match m.bus with
    | some _ => s
    | none =>
      let start := max x.at_ m.freeAt
      let late := if m.lastDue = some x.at_ then m.late else decide (x.at_ < m.freeAt)
      let u := ((s.advance start).setRffe (quadKey t q)
        { m with timed := m.timed.erase x, lastDue := some x.at_, late := late }).startFrame t q x.cmd start (some x.at_)
      if late then (u.raise (Ev.RFFE_STEP_DELAYED t)).markSteps t x.path start else u

/-- The bus being idle, the head of the queue starts, at once or at the end of the guard, unless a timed frame is due by then, or a read finds the FIFO
full. -/
def State.rffeKick (s : State) (t q : Nat) : State :=
  let m := s.rffe (quadKey t q)
  match m.bus, m.queue, s.guardEnd t q s.now with
  | none, c :: rest, some x =>
    if (m.timed.any fun y => decide (y.at_ ≤ x)) || (rffeReads c.op && 8 ≤ m.fifo.length) then s
    else (s.modRffe (quadKey t q) fun m => { m with queue := rest }).startFrame t q c x none
  | _, _, _ => s

/-- A command that the guard holds is judged again: CFG_q, or the place of the boundaries, has changed (R229). -/
def State.rffeAgain (s : State) (t q : Nat) : State := (s.modRffe (quadKey t q) (·.recall s.now)).rffeKick t q

/-- The boundaries of a tile's carriers have moved: each of its masters judges what its guard holds again. -/
def State.rffeMoved (s : State) (t : Nat) : State := s.each quads fun s q => s.rffeAgain t q

/-- A write of RFFE.CFG_q: a frame on the bus keeps its clock. -/
def State.rffeCfg (s : State) (t q a : Nat) (w : Word) : State := (s.plainWrite a w).rffeAgain t q

/-- A write of RFFE.CMD_q (R228). -/
def State.rffeCmd (s : State) (t q : Nat) (c : RffeCmd) : State :=
  if 32 ≤ (s.rffe (quadKey t q)).queued s.now then
    ((s.setBit (RFFE_STAT t q) RFFE_STAT_QFULL true).accessError).raise (Ev.RFFE_QUEUE_FULL t)
  else if !c.ok then s.accessError
  else (s.modRffe (quadKey t q) fun m => { m with queue := m.queue ++ [c] }).rffeKick t q

/-- The frame on the bus ends: a read's result enters the FIFO; the next frame may start. -/
def State.frameEnd (s : State) (t q : Nat) (f : RffeFrame) (data : Byte) (bad : Bool) : State :=
  let s := (s.advance f.stop).emit (.rffe (quadKey t q) f.cmd)
  let u := s.modRffe (quadKey t q) fun m => { m with bus := none, freeAt := f.stop }
  let v :=
    if rffeReads f.cmd.op then
      let w := u.modRffe (quadKey t q) fun m => { m with fifo := m.fifo ++ [⟨bad, f.cmd.usid, f.cmd.addr, data⟩] }
      if bad then (w.setBit (RFFE_STAT t q) RFFE_STAT_PARERR true).raise (Ev.RFFE_PARITY t) else w
    else u
  let x := if (v.rffe (quadKey t q)).flush then v.modRffe (quadKey t q) fun m => { m with queue := [], timed := [], fifo := [], flush := false } else v
  if (x.rffe (quadKey t q)).timed.any fun y => decide (y.at_ ≤ x.now) then x.timedStart t q else x.rffeKick t q

/-- RFFE_FRAME_DONE. -/
def State.frameDone (s : State) (t q : Nat) (data : Byte) (bad : Bool) : State :=
  match (s.rffe (quadKey t q)).bus with
  | some f => s.frameEnd t q f data bad
  | none => s

/-- A read of RFFE.RD_q takes the oldest result. -/
def State.rffeRead (s : State) (t q : Nat) : State :=
  match (s.rffe (quadKey t q)).fifo with
  | [] => { s with reply := 0 }
  | r :: rest =>
    let w := putF (putF (putF (putF (putF 0 RFFE_RD_VALID 1) RFFE_RD_PAR (b2n r.bad)) RFFE_RD_USID r.usid.toNat) RFFE_RD_ADDR r.addr.toNat)
      RFFE_RD_DATA r.data.toNat
    { ((s.modRffe (quadKey t q) fun m => { m with fifo := rest }).rffeKick t q) with reply := w }

/-- Queue and read FIFO are emptied, after the command in progress (R230). -/
def Rffe.emptied (m : Rffe) (now : Nat) : Rffe :=
  let m := m.recall now
  if m.bus.isSome then { m with flush := true } else { m with queue := [], timed := [], fifo := [] }

def State.rffeFlush (s : State) : State := s.each (List.range 16) fun s k => s.modRffe k (·.emptied s.now)

end Sys2Proof.Machine
end

