-- ==== Sys2Proof/Machine/Training.lean ====
section
/-!
DEFINITION. Training acquisitions and the solver's arithmetic (R179 to R182, R184 to R186).  The solver's sums are exact here; what its single precision adds to
an exported word is a free value (log entry 14).
-/
namespace Sys2Proof.Machine

open Reg F

/-! ### Acquisitions (R179 to R182) -/

/-- Observation centre of receiver r, in kHz x 2^48 (R172, R339). -/
def State.fObs48 (s : State) (t r : Nat) : Int :=
  let lo : Int := (s.lpllForce (2 * t + r)).toNat * 61440 * 2 ^ 24
  if s.bit (DFLY_CTRL t) (if r = 0 then DFLY_CTRL_SIDE_0 else DFLY_CTRL_SIDE_1) then lo - 1228800 * 2 ^ 48 else lo + 1228800 * 2 ^ 48

/-- f_obs less the tile's transmit centre, in kHz x 2^48. -/
def State.obsOffset (s : State) (t r : Nat) : Int := s.fObs48 t r - (s.txRf t).toNat * 29491200

/-- Observation sample m before alignment, in units of 2^-16: resampled to 4,915.2 MS/s from 24 Dragonfly samples, moved from f_obs to f_RF (R179). -/
def State.observation (s : State) (t r : Nat) (first : Int) (m : Int) : Cx :=
  let y := Cx.sum ((List.range 24).map fun (k : Nat) =>
    (s.dflySample t r (first + 3 * m / 2 - 12 + k)).scale (Config.resampleTap (m % 2).toNat k))
  (y.mul (turnI (s.obsOffset t r * m / 4915200))).narrow (2 ^ 64)

/-- The predistortion-rate sample that leaves at the instant of observation sample 0, rounded down. -/
def obsBase (first : Int) : Int := 2 * first / 3

/-- Sums of the envelopes over an acquisition of M samples at a delay of d / 64 samples (R181): of their products, of the squares of u's and of y's.
Between whole samples u is delayed by the fractional filter (log entry 14). -/
def State.correlation (s : State) (t r i : Nat) (first : Int) (M : Nat) (d : Int) : Nat × Nat × Nat :=
  (List.range M).foldl (fun (a : Nat × Nat × Nat) (m : Nat) =>
    let u := Nat.sqrt (fractional (s.stage12 t i) d (obsBase first + m)).norm2
    let y := Nat.sqrt (s.observation t r first m).norm2
    (a.1 + u * y, a.2.1 + u * u, a.2.2 + y * y)) (0, 0, 0)

/-- The first offset of the best normalised correlation among an offset and others. -/
def peakOf (at_ : Int → Nat × Nat × Nat) (first : Int) (others : List Int) : Int :=
  others.foldl (fun (b o : Int) =>
    let x := at_ o
    let y := at_ b
    if y.1 ^ 2 * (x.2.1 * x.2.2) < x.1 ^ 2 * (y.2.1 * y.2.2) then o else b) first

/-- The offset from LOOPDLY of the correlation peak in 1/64 samples, and whether its normalised value reaches 0.9 (R181): the best whole offset within
RANGE, refined to the best step of 1/64 between its neighbours, still within RANGE (log entry 14). -/
def State.alignment (s : State) (t r i : Nat) (first : Int) (M : Nat) : Int × Bool :=
  let range : Int := 64 * (s.fld (DFLY_ALIGN_CFG t) DFLY_ALIGN_CFG_RANGE : Int)
  let at_ := fun (o : Int) => s.correlation t r i first M (64 * (s.fld (DFLY_LOOPDLY t i) DFLY_LOOPDLY_DELAY : Int) + o)
  let whole := peakOf at_ (-range) ((List.range (2 * s.fld (DFLY_ALIGN_CFG t) DFLY_ALIGN_CFG_RANGE + 1)).map fun (k : Nat) => 64 * (k : Int) - range)
  let near := ((List.range 127).map fun (k : Nat) => whole - 63 + k).filter fun o => decide (-range ≤ o ∧ o ≤ range)
  let best := peakOf at_ (near.headD whole) near
  let z := at_ best
  (best, decide (81 * (z.2.1 * z.2.2) ≤ 100 * z.1 ^ 2))

/-- The edges of the training band in kHz from the transmit centre (R182). -/
def State.trainingBand (s : State) (t r : Nat) : Int × Int :=
  let o := s.obsOffset t r / 2 ^ 48
  (max (-2000000) (o - 2000000), min 2000000 (o + 2000000))

/-- The training band holds the band of every enabled, valid transmit carrier of the path (R182). -/
def State.bandCovers (s : State) (t r i : Nat) : Bool :=
  let obs := s.fObs48 t r
  let rf : Int := (s.txRf t).toNat * 29491200
  let half : Int := 2000000 * 2 ^ 48
  cars.all fun c =>
    let k := s.txCfg t c
    let f := centre48 (s.txRf t) (s.txCar (carKey t i c)).tw
    let h : Int := (k.halfBand : Int) * 2 ^ 48
    !k.en || s.maskBit (TXCH_STATUS t) TXCH_STATUS_CAR_INVALID c ||
      (decide (rf - half ≤ f - h) && decide (f + h ≤ rf + half) && decide (obs - half ≤ f - h) && decide (f + h ≤ obs + half))

/-- A sequence through the filter to the training band, in the units it has (R182). -/
def banded (band : Int × Int) (x : Int → Cx) (m : Int) : Cx :=
  (Cx.sum ((List.range 65).map fun (k : Nat) => (x (m + 32 - k)).mul (Config.bandTap band.1 band.2 k))).narrow (2 ^ 20)

/-- A pair is excluded (R180): its Dragonfly samples, the runs of x and u, which hold the words of R16 too, or the PAEN pin low as u left, as it is whenever
the DAC input is forced to zero (R217). -/
def State.excluded (s : State) (t r i : Nat) (first : Int) (m d : Int) : Bool :=
  let n := obsBase first + m - d
  let at_ := (5 * (s.origin t : Int) + 2 * n) / 5
  ((List.range 24).any fun k => !s.dflyValid t r (s.capTime t (15, 4) (first + 3 * m / 2 - 12 + k)))
    || ((if i = 0 then [] else [i - 1]) ++ [i] ++ (if i = 15 then [] else [i + 1])).any (fun p =>
      (List.range 5).any fun j => s.txInvalid t p (n / 2 - j))
    || s.dpdInvalid t i n
    || !hitsRun (s.txPath (pathKey t i)).lit at_ (at_ + 1)

/-- The pair of observation sample m at a delay of d / 64 samples (R179, R181).  The reference, x_p and its neighbours, passes through the filter of the
observation before the basis terms are formed from it (R182; log entry 14). -/
def State.trainPair (s : State) (t r i : Nat) (first : Int) (m d : Int) : TrainPair :=
  let n := obsBase first + m - d / 64
  let band := s.trainingBand t r
  let x := fun p => banded band (s.stage11 t p)
  { y := banded band (fractional (s.observation t r first) (-(d % 64))) m
    x := x i n
    terms := (s.tablesInUse t i).map fun j => s.termOf x t i j n }

/-- What an acquisition of M pairs gives: its valid pairs, the offset from LOOPDLY in 1/64 samples, whether the alignment succeeded. -/
def State.acquire (s : State) (t r i : Nat) (first : Int) (len : Nat) : List TrainPair × Int × Bool :=
  let M := min 8192 ((2 * len + 2) / 3)
  let (o, ok) := s.alignment t r i first M
  let d : Int := 64 * (s.fld (DFLY_LOOPDLY t i) DFLY_LOOPDLY_DELAY : Int) + o
  let ms := (List.range M).filter fun (m : Nat) => !s.excluded t r i first m (d / 64)
  (ms.map fun (m : Nat) => s.trainPair t r i first m d, o, ok)

/-! ### Exact complex arithmetic of the solver -/

abbrev CQ := ℚ × ℚ
def CQ.ofCx (a : Cx) : CQ := (a.1, a.2)
def CQ.add (a b : CQ) : CQ := (a.1 + b.1, a.2 + b.2)
def CQ.sub (a b : CQ) : CQ := (a.1 - b.1, a.2 - b.2)
def CQ.mul (a b : CQ) : CQ := (a.1 * b.1 - a.2 * b.2, a.1 * b.2 + a.2 * b.1)
def CQ.conj (a : CQ) : CQ := (a.1, -a.2)
def CQ.scale (q : ℚ) (a : CQ) : CQ := (q * a.1, q * a.2)
def CQ.norm2 (a : CQ) : ℚ := a.1 ^ 2 + a.2 ^ 2
def CQ.div (a b : CQ) : CQ := (a.mul b.conj).scale (1 / b.norm2)
def CQ.sum (l : List CQ) : CQ := l.foldl CQ.add (0, 0)

/-- The loop gain (R185): over the valid pairs with r below 16,384, of which 256 are needed. -/
def loopGain (ps : List TrainPair) : Option CQ :=
  let low := ps.filter fun p => envelope p.x < 16384
  let num := CQ.sum (low.map fun p => ((CQ.ofCx p.y).scale (1 / 2 ^ 16)).mul (CQ.ofCx p.x).conj)
  let den := (low.map fun p => (CQ.ofCx p.x).norm2).sum
  let g := num.scale (1 / den)
  if low.length < 256 ∨ den = 0 ∨ g = (0, 0) then none else some g

/-- The error of a pair, e = y / G - x_p. -/
def pairError (g : CQ) (p : TrainPair) : CQ := (((CQ.ofCx p.y).scale (1 / 2 ^ 16)).div g).sub (CQ.ofCx p.x)

/-- The basis terms of a pair: for each table in use and each power k, z x a^k with a = min(r, 32,256) / 32,256 (R185, R164). -/
def basis (K : Nat) (p : TrainPair) : List CQ :=
  p.terms.flatMap fun z => (List.range K).map fun k => (CQ.ofCx z.1).scale ((((min z.2 32256 : Nat) : ℚ) / 32256) ^ k)

/-- The matrix ΦᴴΦ and the vector Φᴴe of pairs. -/
def gram (K : Nat) (ps : List TrainPair) (g : CQ) (U : Nat) : (Nat → Nat → CQ) × (Nat → CQ) :=
  let rows := ps.map fun p => (basis K p, pairError g p)
  (fun a b => CQ.sum (rows.map fun x => ((x.1.getD a (0, 0)).conj).mul (x.1.getD b (0, 0))),
   fun a => CQ.sum (rows.map fun x => if a < U then ((x.1.getD a (0, 0)).conj).mul x.2 else (0, 0)))

/-- Gaussian elimination of a Hermitian system of n equations, as the Cholesky factorisation proceeds: column by column, failing where a pivot is not
positive.  `m` holds the rows still to be eliminated, each with its right side last; the solution comes back in order. -/
def choleskySolve : Nat → List (List CQ) → Option (List CQ)
  | 0, _ => some []
  | n + 1, [] => if n = 0 then some [] else none
  | n + 1, row :: rest =>
    match row with
    | [] => none
    | p :: tail =>
      if p.1 ≤ 0 then none
      else
        let below := rest.map fun r => match r with
          | [] => []
          | h :: xs => (xs.zip tail).map fun x => x.1.sub ((h.div p).mul x.2)
        match choleskySolve n below with
        | none => none
        | some sol =>
          let rhs := tail.getLastD (0, 0)
          let acc := CQ.sum ((tail.dropLast.zip sol).map fun x => x.1.mul x.2)
          some (((rhs.sub acc).div p) :: sol)

/-- Δc of a job: (ΦᴴΦ + 2^-LAMBDA x trace / U x I) Δc = Φᴴe; none where the factorisation fails (R185). -/
def solveDelta (K lambda : Nat) (ps : List TrainPair) (g : CQ) (U : Nat) : Option (List CQ) :=
  let (A, b) := gram K ps g U
  let trace := ((List.range U).map fun a => (A a a).1).sum
  let reg := trace / U / 2 ^ lambda
  choleskySolve U ((List.range U).map fun a =>
    ((List.range U).map fun c => if a = c then (A a c).add (reg, 0) else A a c) ++ [b a])

/-- The error before the update, 10 log10 (Σ|e|² / Σ|x_p|²), in 1/64 dB (R186). -/
def jobNmse (ps : List TrainPair) (g : CQ) : Int :=
  let e := (ps.map fun p => (pairError g p).norm2).sum
  let x := (ps.map fun p => (CQ.ofCx p.x).norm2).sum
  let q := e / x
  decibels 64 q.num.toNat q.den

/-! ### Coefficients and the tables they give (R184, R186, R189) -/

/-- K = CTRL.K + 1, and the unknowns U = K x NT of a part-wide path (R184). -/
def State.solverK (s : State) : Nat := s.fld HDPD_CTRL HDPD_CTRL_K + 1
def State.solverU (s : State) (path : Nat) : Nat := s.solverK * (s.tablesInUse (path / 16) (path % 16)).length

/-- Index of a coefficient word: 2 x (8 j + k) + part of a path. -/
def coefKey (path word : Nat) : Nat := 512 * path + word

/-- The coefficient words of a path as they are held, and with the update c - (STEP / 16) x Δc for the tables in use, in units of 2^-24. -/
def State.coefWords (s : State) (path : Nat) : List Int := (List.range 480).map fun w => (s.coef (coefKey path w)).toInt

def State.updatedCoefs (s : State) (path : Nat) (delta : List CQ) : List Int :=
  let js := s.tablesInUse (path / 16) (path % 16)
  let K := s.solverK
  let step : ℚ := let v := s.fld HDPD_CTRL HDPD_CTRL_STEP; if v = 0 then 1 else (v : ℚ) / 16
  (List.range 480).map fun w =>
    let old := (s.coef (coefKey path w)).toInt
    let j := w / 2 / 8
    let k := w / 2 % 8
    match js.idxOf? j with
    | some a =>
      if k < K then
        let d := delta.getD (a * K + k) (0, 0)
        let part := if w % 2 = 0 then d.1 else d.2
        satTo 32 (old - ⌊step * part * 2 ^ 24 + 1 / 2⌋ + Config.solverError s.free path w)
      else old
    | none => old

/-- One part of entry e of table j from coefficient words: Σ_k c(j, k) x (e / 63)^k, in units of 2^-14, rounded to nearest with halves up. -/
def entryPart (K : Nat) (coefs : List Int) (j e part : Nat) : Int :=
  let num := (List.range K).foldl (fun (x : Int) k =>
    x + coefs.getD (2 * (8 * j + k) + part) 0 * ((e ^ k * 63 ^ (7 - k) : Nat) : Int)) 0
  roundDiv num (63 ^ 7 * 1024)

/-- Some entry of the tables in use would leave 16 bits (code 4 of Table 6-3). -/
def outOfRange (K : Nat) (coefs : List Int) (js : List Nat) : Bool :=
  js.any fun j => (List.range 64).any fun e => [0, 1].any fun part =>
    let v := entryPart K coefs j e part
    satTo 16 v != v

end Sys2Proof.Machine
end

