-- ==== Sys2Proof/Machine/Dpd.lean ====
section
/-!
DEFINITION. Predistortion tables, banks and swaps (R163 to R171), training acquisitions (R179 to R183) and the solver (R184 to R189).
-/
namespace Sys2Proof.Machine

open Reg F

/-! ### Tables (R167) -/

/-- TBL_ADDR names a path of the tile, a bank and a word; each access of TBL_DATA moves the word on. -/
def State.tblAdvance (s : State) (t : Nat) : State :=
  s.setFld (TDPD_TBL_ADDR t) TDPD_TBL_ADDR_WORD (s.fld (TDPD_TBL_ADDR t) TDPD_TBL_ADDR_WORD + 1)

def State.tblRead (s : State) (t : Nat) : State :=
  let a := TDPD_TBL_ADDR t
  let w := s.fld a TDPD_TBL_ADDR_WORD
  let v := if w < 1920 then s.dpdEntry (s.tblKey (pathKey t (s.fld a TDPD_TBL_ADDR_PIDX)) (s.bit a TDPD_TBL_ADDR_BANK) w) else 0
  { (s.tblAdvance t) with reply := v }

def State.tblWrite (s : State) (t : Nat) (v : Word) : State :=
  let a := TDPD_TBL_ADDR t
  let i := s.fld a TDPD_TBL_ADDR_PIDX
  let w := s.fld a TDPD_TBL_ADDR_WORD
  let u :=
    if s.bit a TDPD_TBL_ADDR_BANK || s.maskBit (TDPD_SWAP_STAT t) TDPD_SWAP_STAT_LOCK i then s.accessError
    else if w < 1920 then s.setDpdEntry (s.tblKey (pathKey t i) false w) v
    else s
  u.tblAdvance t

/-- A bank's tables are written: entry e of table j from a function. -/
def State.writeTables (s : State) (path : Nat) (tables : List Nat) (f : Nat → Nat → Word) : State :=
  s.each tables fun s j => s.each (List.range 64) fun s e => s.setDpdEntry (s.tblKey path false (64 * j + e)) (f j e)

/-! ### Swaps (R168 to R170, R188) -/

/-- Predistortion updates are frozen (R188, R413). -/
def State.dpdFrozen (s : State) : Bool := s.bit PMU_WARN_STAT PMU_WARN_STAT_FROZEN

/-- The first swap boundary at least 4,096 Tc ahead (R169). -/
def State.swapBoundary (s : State) (t : Nat) : Nat :=
  let c := s.fld (TDPD_CTRL t) TDPD_CTRL_SWAP_CAR
  let k := s.txCfg t c
  if k.en && !s.maskBit (TXCH_STATUS t) TXCH_STATUS_CAR_INVALID c then k.nextBoundary (s.tb.toNat + 4096) else s.trimBoundary

def State.swapPending (s : State) (t i : Nat) : Bool := s.maskBit (TDPD_SWAP_STAT t) TDPD_SWAP_STAT_PENDING i

/-- SWAP_ARM: arming a path already armed changes nothing. -/
def State.swapArm (s : State) (t : Nat) (pmask : Nat) : State :=
  let B := s.swapBoundary t
  s.each ((onesOf 16 pmask).filter fun i => !s.swapPending t i) fun s i =>
    (s.setMaskBit (TDPD_SWAP_STAT t) TDPD_SWAP_STAT_PENDING i true).setDpdSwapAt (pathKey t i) B

/-- A job ends with an outcome of Table 6-3. -/
def State.endJob (s : State) (path outcome : Nat) (nmse : Int) : State :=
  let n := ((s.jobs.find? fun (j : Job) => j.path == path).map Job.count).getD 0
  let a := HDPD_RESULT path
  let u := ((s.setFld a HDPD_RESULT_OUTCOME outcome).setFld a HDPD_RESULT_NACQ n).setFld a HDPD_RESULT_NMSE (unsigned 16 nmse)
  let v := { u with jobs := u.jobs.filter fun (j : Job) => j.path != path, solver := none }.bump HDPD_JOB_COUNT HDPD_CNT_FLAGS 0 1
  (if 2 ≤ outcome ∧ outcome ≤ 7 then v.bump HDPD_JOB_REJECT_COUNT HDPD_CNT_FLAGS 1 1 else v).raise Ev.DPD_JOB_DONE

/-- The end of a freeze: armed swaps wait for a boundary at least 4,096 Tc after it (R188). -/
def State.swapsAfterFreeze (s : State) : State :=
  s.each tiles fun s t =>
    let B := s.swapBoundary t
    s.each paths fun s i =>
      if s.swapPending t i then s.setDpdSwapAt (pathKey t i) (max B (s.dpdSwapAt (pathKey t i))) else s

/-- Time of a table write of a path (Table 6-4). -/
def State.writeTime (s : State) (path : Nat) : Nat := 512 + 128 * (s.tablesInUse (path / 16) (path % 16)).length

/-- The ready acquisitions, in the order in which they became ready; ties by tile, then by receiver. -/
def State.readyList (s : State) : List Nat :=
  let l := (List.range 8).filter fun k => (s.dfly k).ready
  l.mergeSort fun a b => decide ((s.dfly a).readyAt < (s.dfly b).readyAt ∨ ((s.dfly a).readyAt = (s.dfly b).readyAt ∧ a ≤ b))

/-- The part-wide path of the acquisition in a buffer. -/
def State.trainPath (s : State) (k : Nat) : Nat := 16 * (k / 2) + ((s.dfly k).train.getD 0)

/-- The solver, idle and with AUTO = 1, takes the first ready acquisition that has a job or may open one (R185). -/
def State.solverKick (s : State) : State :=
  if s.solver.isSome || !s.bit HDPD_CTRL HDPD_CTRL_AUTO then s
  else
    match s.readyList.find? fun k => (s.jobs.any fun (j : Job) => j.path == s.trainPath k) || s.jobs.length < 4 with
    | none => s
    | some k =>
      let p := s.trainPath k
      let u := s.solverU p
      let jobs := if s.jobs.any fun (j : Job) => j.path == p then s.jobs else s.jobs ++ [{ path := p }]
      { s with jobs := jobs, solver := some (.accumulate p (k / 2) (k % 2) (s.now + 8 * u * (u + 1))) }

/-- A table write that waited for a pending swap of its path begins: the shadow bank is locked (R186, R189). -/
def State.lockPath (s : State) (path : Nat) (b : Bool) : State :=
  s.setMaskBit (TDPD_SWAP_STAT (path / 16)) TDPD_SWAP_STAT_LOCK (path % 16) b

def State.beginWrites (s : State) : State :=
  let u := match s.solver with
    | some (.await path nmse coefs) =>
      if s.swapPending (path / 16) (path % 16) then s
      else if s.dpdFrozen then (s.endJob path 6 nmse).solverKick
      else { (s.lockPath path true) with solver := some (.write path (s.now + s.writeTime path) nmse coefs) }
    | _ => s
  match u.coefCmd with
  | some c =>
    if c.stop.isSome || u.swapPending (c.path / 16) (c.path % 16) then u
    else { (u.lockPath c.path true) with coefCmd := some { c with stop := some (u.now + u.writeTime c.path) } }
  | none => u

/-- DPD_SWAP_APPLY: the earliest swap boundary of a tile (R169, R170); not while updates are frozen. -/
def State.swapApply (s : State) (t : Nat) : State :=
  let armed := paths.filter fun i => s.swapPending t i
  match (armed.map fun i => s.dpdSwapAt (pathKey t i)).min? with
  | none => s
  | some B =>
    if s.dpdFrozen then s
    else
      let s := s.advanceTb B
      (s.each (armed.filter fun i => s.dpdSwapAt (pathKey t i) == B) fun s i =>
        let p := pathKey t i
        let u := ((s.setDpdSel p (!s.dpdSel p)).setMaskBit (TDPD_SWAP_STAT t) TDPD_SWAP_STAT_PENDING i false).setMaskBit (TDPD_ENABLE t)
          TDPD_ENABLE_ACTIVE i (s.maskBit (TDPD_ENABLE t) TDPD_ENABLE_SHADOW i)
        let awaited := match u.solver with | some (.await q _ _) => q == p | _ => false
        let u := u.modTxPath p fun x => { x with swapAt := s.now, swapWas := s.maskBit (TDPD_ENABLE t) TDPD_ENABLE_ACTIVE i }
        let v := { u with jobs := u.jobs.map fun (j : Job) => if j.path = p && !awaited then { j with swapped := true } else j }
        v.each [0, 1] fun v r => v.modDfly (2 * t + r) fun x =>
          if x.train = some i ∧ x.trainAt = none then { x with swapped := true } else x).beginWrites

/-! ### Acquisitions (R179 to R183) -/

/-- The training buffer of a receiver is freed. -/
def State.freeBuffer (s : State) (t r : Nat) : State :=
  (s.setMaskBit (DFLY_STATUS t) DFLY_STATUS_TRBUF r false).modDfly (2 * t + r) fun x =>
    { x with train := none, trainAt := none, ready := false, swapped := false, pairs := [] }

/-- TRAINING_BUFFER_READY: the acquisition of a receiver is aligned, paired and judged (R179 to R183).  With no valid pair it fails with code 2 whatever
MIN_VALID (R188); with several reasons the lowest code is recorded (log entry 13). -/
def State.trainReady (s : State) (t r : Nat) : State :=
  let x := s.dfly (2 * t + r)
  match x.train, x.trainAt with
  | some i, some at_ =>
    let s := s.advance at_
    let (pairs, delay, aligned) := s.acquire t r i x.trainFirst x.trainLen
    let n := pairs.length
    let reason :=
      if n = 0 ∨ n < 256 * s.fld HDPD_CTRL HDPD_CTRL_MIN_VALID then 2
      else if !aligned then 3
      else if s.maskBit (DFLY_STATUS t) DFLY_STATUS_STALE r then 4
      else if !s.bandCovers t r i then 5
      else if x.swapped then 6
      else 0
    let a := DFLY_ACQ_STAT t r
    let u := (((s.setFld a DFLY_ACQ_STAT_REASON reason).setFld a DFLY_ACQ_STAT_PIDX i).setFld a DFLY_ACQ_STAT_VALID n).setFld
      (DFLY_ACQ_DLY t r) DFLY_ACQ_DLY_DELAY (unsigned 16 delay)
    if reason = 0 then (u.modDfly (2 * t + r) fun y => { y with ready := true, readyAt := s.now, trainAt := none, pairs := pairs }).solverKick
    else ((u.freeBuffer t r).bump (DFLY_ACQ_REJECT_COUNT t) (DFLY_CNT_FLAGS t) 0 1).raise (Ev.DPD_ACQ_REJECTED t)
  | _, _ => s

/-! ### The solver's steps (R185 to R187) -/

/-- DPD_ACCUMULATION_DONE: the buffer is freed; a job that holds NACQ acquisitions solves. -/
def State.accumulationDone (s : State) : State :=
  match s.solver with
  | some (.accumulate path t r stop) =>
    let s := s.advance stop
    let ps := (s.dfly (2 * t + r)).pairs
    let jobs := s.jobs.map fun (j : Job) => if j.path = path then { j with count := j.count + 1, pairs := j.pairs ++ ps } else j
    let need := let n := s.fld HDPD_CTRL HDPD_CTRL_NACQ; if n = 0 then 16 else n
    let full := jobs.any fun (j : Job) => j.path == path && need ≤ j.count
    let u := s.solverU path
    let v := { (s.freeBuffer t r) with jobs := jobs,
                                       solver := if full then some (.solve path (s.now + 1024 + 4 * ((u ^ 3 + 3071) / 3072))) else none }
    if full then v else v.solverKick
  | _ => s

/-- What the solve of a job finds (R185): the error before the update, and the coefficients after it; none for the error where the gain estimate fails, none
for the coefficients where the factorisation does. -/
def State.solve (s : State) (path : Nat) : Option (Int × Option (List Int)) :=
  let ps := ((s.jobs.find? fun (j : Job) => j.path == path).map Job.pairs).getD []
  (loopGain ps).map fun g =>
    (jobNmse ps g, if Config.solverFails s.free path then none else (solveDelta s.solverK (s.fld HDPD_CTRL HDPD_CTRL_LAMBDA) ps g (s.solverU path)).map (s.updatedCoefs path))

/-- DPD_SOLVE_DONE: the job ends, or its table write follows (R186).  An error that the gain estimate does not give is a free value. -/
def State.solveDone (s : State) : State :=
  match s.solver with
  | some (.solve path stop) =>
    let s := s.advance stop
    let found := s.solve path
    let nmse := (found.map Prod.fst).getD (s.freeNow.setWidth 16).toInt
    let s := s.useFree
    let stop := fun (code : Nat) => (s.endJob path code nmse).solverKick
    if s.jobs.any fun (j : Job) => j.path == path && j.swapped then stop 5
    else match found with
      | none => stop 2
      | some (_, coefs) =>
        if nmse ≤ -16 * (s.fld HDPD_CTRL HDPD_CTRL_CONV : Int) then stop 1
        else match coefs with
          | none => stop 3
          | some c =>
            if outOfRange s.solverK c (s.tablesInUse (path / 16) (path % 16)) then stop 4
            else { s with solver := some (.await path nmse c) }.beginWrites
  | _ => s

/-! ### Tables from coefficients (R186, R189) -/

/-- The entry; a part outside 16 bits is a free value: only the solver's outcome 4 speaks of it (log entry 3). -/
def State.entryWord (s : State) (path j e : Nat) : Word :=
  let half := fun part =>
    let v := entryPart s.solverK (s.coefWords path) j e part
    if -32768 ≤ v ∧ v ≤ 32767 then BitVec.ofInt 16 v else s.freeNow.setWidth 16
  half 1 ++ half 0

/-- Tables in use from the coefficients held. -/
def State.tablesFromCoefs (s : State) (path : Nat) : State :=
  (s.writeTables path (s.tablesInUse (path / 16) (path % 16)) (fun j e => s.entryWord path j e)).useFree

/-- DPD_TABLE_WRITE_DONE: the solver's tables are in the shadow bank; the swap is armed, or the update reported (R186). -/
def State.tableWriteDone (s : State) : State :=
  match s.solver with
  | some (.write path stop nmse coefs) =>
    let s := (s.advance stop).lockPath path false
    if s.jobs.any fun (j : Job) => j.path == path && j.swapped then (s.endJob path 5 nmse).solverKick
    else
      let c := (List.range 480).foldl (fun (u : State) w => u.setCoef (coefKey path w) (BitVec.ofInt 32 (coefs.getD w 0))) s
      let u := (c.tablesFromCoefs path).endJob path 0 nmse
      (if u.bit HDPD_CTRL HDPD_CTRL_AUTO_SWAP then u.swapArm (path / 16) (2 ^ (path % 16)) else u.raise Ev.DPD_UPDATE_READY).solverKick
  | _ => s

/-- A write of COEF_CMD, COEF_ADDR or COEF_DATA is discarded while a command runs or the path has an open job (R189). -/
def State.coefBusy (s : State) (path : Nat) : Bool := s.coefCmd.isSome || s.jobs.any fun (j : Job) => j.path == path

/-- COEF_CMD with OP 1 or 2. -/
def State.coefStart (s : State) (op path : Nat) : State :=
  if s.coefBusy path then s.accessError
  else if op = 1 ∨ op = 2 then { s with coefCmd := some ⟨path, op, none⟩ }.beginWrites
  else s

/-- COEF_CMD_DONE: the identity tables of OP 1, or those of the coefficients held. -/
def State.coefDone (s : State) : State :=
  match s.coefCmd with
  | some ⟨path, op, some stop⟩ =>
    let s := { ((s.advance stop).lockPath path false) with coefCmd := none }
    if op = 1 then
      let u := (List.range 480).foldl (fun (u : State) w => u.setCoef (coefKey path w) (if w = 0 then 0x01000000 else 0)) s
      u.writeTables path (List.range 30) fun j _ => if j = 0 then 0x00004000 else 0
    else s.tablesFromCoefs path
  | _ => s

/-- COEF_DATA: the word at COEF_ADDR, which moves on, wrapping from 479 to 0. -/
def State.coefAdvance (s : State) : State :=
  let w := s.fld HDPD_COEF_ADDR HDPD_COEF_ADDR_WORD
  s.setFld HDPD_COEF_ADDR HDPD_COEF_ADDR_WORD (if 479 ≤ w then 0 else w + 1)

def State.coefRead (s : State) : State :=
  { s.coefAdvance with reply := s.coef (coefKey (s.fld HDPD_COEF_ADDR HDPD_COEF_ADDR_PATH) (s.fld HDPD_COEF_ADDR HDPD_COEF_ADDR_WORD)) }

def State.coefWrite (s : State) (w : Word) : State :=
  let p := s.fld HDPD_COEF_ADDR HDPD_COEF_ADDR_PATH
  (if s.coefBusy p then s.accessError else s.setCoef (coefKey p (s.fld HDPD_COEF_ADDR HDPD_COEF_ADDR_WORD)) w).coefAdvance

def State.coefAddr (s : State) (w : Word) : State :=
  if s.coefBusy (getF w HDPD_COEF_ADDR_PATH) then s.accessError else s.plainWrite HDPD_COEF_ADDR w

/-- A write of the hub's DPD.CTRL: with AUTO = 1 waiting acquisitions are taken. -/
def State.hdpdCtrl (s : State) (w : Word) : State := (s.plainWrite HDPD_CTRL w).solverKick

/-- A write of DPD.CTRL of a tile.  XTAPS is written only in Configure; in another mode its write is discarded and raises
REG_ACCESS_ERROR (R165), while SWAP_CAR, which R165 does not name, is written in every mode (log entry 15). -/
def State.tdpdCtrl (s : State) (t : Nat) (w : Word) : State :=
  if s.mode = .configure then s.plainWrite (TDPD_CTRL t) w
  else (s.setFld (TDPD_CTRL t) TDPD_CTRL_SWAP_CAR (getF w TDPD_CTRL_SWAP_CAR)).accessError

/-- On a change to a mode that does not run processors: pending swaps are discarded (R171), open jobs end with code 7 and every training
buffer is freed (R188).  A job whose error is not yet computed records a free value. -/
def State.stopDpd (s : State) : State :=
  let u := s.each tiles fun s t => s.setFld (TDPD_SWAP_STAT t) TDPD_SWAP_STAT_PENDING 0
  let unlock := match u.solver with | some (.write path _ _ _) => u.lockPath path false | _ => u
  let known := fun (p : Nat) => match u.solver with
    | some (.await path nmse _) | some (.write path _ nmse _) => if path = p then some nmse else none
    | _ => none
  let v := (u.jobs.map Job.path).foldl (fun (u : State) p => match known p with
    | some nmse => u.endJob p 7 nmse
    | none => (u.endJob p 7 (u.freeNow.setWidth 16).toInt).useFree) { unlock with solver := none }
  ({ v with solver := none }.each (List.range 8) fun s k => s.freeBuffer (k / 2) (k % 2)).beginWrites

end Sys2Proof.Machine
end

