-- ==== Sys2Proof/Machine/Calibration.lean ====
section
/-!
DEFINITION. Image calibration of the Dragonfly receivers (R175 to R177), converter calibration (R195 to R197), calibration bursts and
what becomes of their measurements (R199 to R212).
-/
namespace Sys2Proof.Machine

open Reg F

/-! ### Occupation of a receiver (R175) and its image calibration (R176, R177) -/

/-- The tile temperature, in 1/16 degree C. -/
def State.tileTemp (s : State) (t : Nat) : Int := s.dieTemp (1 + t)

/-- A burst of KIND 0 or 2 holds receiver r until an instant; an image calibration occupies it for 49,152 Tc (R175, R176). -/
def State.occupy (s : State) (t r stop : Nat) : State :=
  s.modDfly (2 * t + r) fun x => { x with occFrom := s.now, occupied := some stop }
def State.beginImage (s : State) (t r stop : Nat) : State :=
  s.modDfly (2 * t + r) fun x => { x with imgFrom := s.now, imgStop := stop, imaging := true }

/-- Either ends now, if it has not ended. -/
def State.vacate (s : State) (t r : Nat) : State :=
  s.modDfly (2 * t + r) fun x => { x with occupied := x.occupied.map fun e => min s.now e }
def State.endImage (s : State) (t r : Nat) : State :=
  s.modDfly (2 * t + r) fun x => { x with imgStop := min s.now x.imgStop, imaging := false }

/-- IMG_DUE and STALE of a receiver (R177); the event once for each result. -/
def State.judgeImage (s : State) (t r : Nat) : State :=
  let x := s.dfly (2 * t + r)
  let valid := s.maskBit (DFLY_STATUS t) DFLY_STATUS_IMG_VALID r
  let temp := s.fld (DFLY_IMG_CFG t) DFLY_IMG_CFG_TEMP
  let interval := s.fld (DFLY_IMG_CFG t) DFLY_IMG_CFG_INTERVAL
  let moved := |s.tileTemp t - signed 12 (s.fld (DFLY_IMG_STAT t r) DFLY_IMG_STAT_TEMP)|
  let late := match x.imgAt with
    | some a => (interval ≠ 0 && decide (a + interval * 1966080000 ≤ s.now)) || (temp ≠ 0 && decide (4 * (temp : Int) < moved))
    | none => false
  let due := !valid || late || (x.imgTold && s.maskBit (DFLY_STATUS t) DFLY_STATUS_IMG_DUE r)
  let stale := !valid || decide (8 * (temp : Int) < moved)
  let u := (s.setMaskBit (DFLY_STATUS t) DFLY_STATUS_IMG_DUE r due).setMaskBit (DFLY_STATUS t) DFLY_STATUS_STALE r stale
  if late && !x.imgTold then (u.modDfly (2 * t + r) fun x => { x with imgTold := true }).raise Ev.DFLY_IMGCAL_DUE else u

/-- A result becomes invalid; IMG_DUE and STALE are 1 while IMG_VALID is 0 (R177). -/
def State.dropImage (s : State) (t r : Nat) : State :=
  ((s.setMaskBit (DFLY_STATUS t) DFLY_STATUS_IMG_VALID r false).setMaskBit (DFLY_STATUS t) DFLY_STATUS_IMG_DUE r true).setMaskBit (DFLY_STATUS t)
    DFLY_STATUS_STALE r true

/-- The worst image rejection found, in dB, against IMG_MIN: the correction with it is applied and stamped, or the earlier one kept (R176). -/
def State.imageResult (s : State) (t r : Nat) (rej : BitVec 8) (taps : List (Int × Int)) : State :=
  if s.fld (DFLY_IMG_CFG t) DFLY_IMG_CFG_IMG_MIN ≤ rej.toNat then
    (((((s.setFld (DFLY_IMG_STAT t r) DFLY_IMG_STAT_REJ rej.toNat).setFld (DFLY_IMG_STAT t r) DFLY_IMG_STAT_TEMP
      (unsigned 12 (s.tileTemp t))).setMaskBit (DFLY_STATUS t) DFLY_STATUS_IMG_VALID r true).setMaskBit (DFLY_STATUS t) DFLY_STATUS_IMG_DUE r
        false).setMaskBit (DFLY_STATUS t) DFLY_STATUS_STALE r false).modDfly (2 * t + r) fun x =>
          { x with imgAt := some s.now, imgTold := false, taps := taps }
  else s.raise (Ev.DFLY_IMGCAL_FAIL t)

/-- A DFLY.CTRL write (R172): SIDE only in Configure; in another mode a SIDE bit that would change raises REG_ACCESS_ERROR. -/
def State.dflyCtrl (s : State) (t : Nat) (w : Word) : State :=
  let a := DFLY_CTRL t
  if s.mode = .configure then s.plainWrite a w
  else
    let u := (s.setFld a DFLY_CTRL_TRAIN_EN_0 (getF w DFLY_CTRL_TRAIN_EN_0)).setFld a DFLY_CTRL_TRAIN_EN_1 (getF w DFLY_CTRL_TRAIN_EN_1)
    if getF w ⟨0, 2⟩ = s.fld a ⟨0, 2⟩ then u else u.accessError

/-! ### Converters (R195 to R197) -/

/-- Wideband power of the 7,680 ADC samples of the block of 1,024 Tc that ends now, in 1/256 dB relative to a full-scale sinusoid (R195). -/
def State.adcBlockPower (s : State) (t i : Nat) : Int :=
  let last : Int := 15 * (s.now - s.origin t) / 2
  let xs := (List.range 7680).map fun (k : Nat) => (s.adcSample t i (last - k)).natAbs ^ 2
  decibels 256 xs.sum (7680 * 2 ^ 25)

/-- ADC_CAL_UPDATE of path i, 1,024 Tc after the latest one: the corrections found, 24 values for the eight sub-converters, and whether the estimates meet
the figures.  The corrections are held, and the bit with them, in the cases of R195; the calibration runs while the path's receive chain does (R100). -/
def State.adcCal (s : State) (t i : Nat) (corrections : List Int) (converged : Bool) : State :=
  if !s.mode.runsGlide || !s.domOn (38 + 4 * t + i / 4) then s
  else
    let s := s.advance (s.adcAt (pathKey t i) + 1024)
    let s := s.setAdcAt (pathKey t i) s.now
    let power := s.adcBlockPower t i
    let held := s.bit (RXCH_STATUS t) RXCH_STATUS_UNLOCK || (s.aligningTo t).isSome
      || s.maskBit (DFLY_CONV_CTRL t) DFLY_CONV_CTRL_FREEZE i || decide (power < -12800) || decide (-256 < power)
    if held then s
    else
      let was := s.maskBit (DFLY_CONV_STAT t) DFLY_CONV_STAT_ADC_CONV i
      let u := (s.setMaskBit (DFLY_CONV_STAT t) DFLY_CONV_STAT_ADC_CONV i converged).setAdcCorr (pathKey t i) (some corrections)
      if was && !converged then u.raise (Ev.CONV_LOST t) else u

/-- The converter corrections of a path's ADC in force: those found, or the fused trims loaded at the latest start (R195). -/
def State.adcInForce (s : State) (t i : Nat) : List Int := (s.adcCorr (pathKey t i)).getD (Config.adcTrim (pathKey t i))

/-- The DAC of a path runs: its domain is ON and it is not stopped under R85 (R197).  That the first sample after a start is that of the instant at which
the start is complete is the model's (DESIGN CHOICE, log entry 95). -/
def State.dacRuns (s : State) (t i : Nat) : Bool :=
  (match s.mode with | .standby | .boot | .recovery => false | _ => true) && s.domOn (22 + 4 * t + i / 4) && !(s.txPath (pathKey t i)).gated

/-- DAC_CELL_CAL_DONE: every cell of a path's DAC has been measured; the calibration pauses while the DAC does not run. -/
def State.dacCal (s : State) (t i : Nat) : State :=
  if s.dacRuns t i then s.setMaskBit (DFLY_CONV_STAT t) DFLY_CONV_STAT_DAC_OK i true else s

/-- Once 50 ms of running time have passed, every cell has been measured (R197); a DAC that has not begun, or that is stopped, adds nothing. -/
def State.dacBound (s : State) (t : Nat) : State :=
  s.each paths fun s i =>
    if !s.dacRuns t i then s
    else
      let u := s.modTxPath (pathKey t i) (·.halt s.now)
      if 98304000 ≤ (u.txPath (pathKey t i)).ran then u.setMaskBit (DFLY_CONV_STAT t) DFLY_CONV_STAT_DAC_OK i true else u

/-! ### Bursts: start and refusal (R201, R202, R175, R407) -/

/-- A condition of Table 7-1, R175 or R407 refuses a burst at its effect instant. -/
def State.burstRefused (s : State) (t : Nat) (b : Burst) : Bool :=
  let P := b.dur / 4096
  let ctrl := DFLY_CAL_CTRL t
  let ref := s.fld ctrl DFLY_CAL_CTRL_REF
  let tx := b.kind == 0 || b.kind == 2
  !(s.mode == .calibrate || s.mode == .onAir) || !s.domOn (18 + t) || s.bit (DFLY_CAL_STAT t) DFLY_CAL_STAT_BUSY
    || (if b.kind = 3 then
          b.pmask.toNat % 4 == 0 || decide (b.dur < 49152)
            || [0, 1].any fun r => b.pmask.getLsbD r && s.dflyBusy t r
        else
          b.pmask == 0 || decide (P < (if b.kind = 2 then 4 else 2))
            || (!b.pmask.getLsbD ref && (b.kind == 2 || !s.bit ctrl DFLY_CAL_CTRL_ABS))
            || (b.kind == 2 && s.txRf t != s.rxRf t)
            || (tx && s.mode == .onAir && paths.any fun i => b.pmask.getLsbD i && cars.any fun c => (s.txCar (carKey t i c)).gate)
            || (tx && s.dflyBusy t 1))

/-- What a tile has transmitted is counted before its signal changes (R77, R163). -/
def State.countTile (s : State) (t : Nat) : State := s.each paths fun s i => s.countTx t i

/-- A burst at its effect instant: refused, or begun with its receivers occupied. -/
def State.burstAt (s : State) (t : Nat) (b : Burst) : State :=
  if s.burstRefused t b then s.raise (Ev.CALB_REFUSED t)
  else
    let s := s.countTile t
    let a := DFLY_CAL_STAT t
    let u := ((s.setBit a DFLY_CAL_STAT_BUSY true).setFld a DFLY_CAL_STAT_KIND b.kind).modCal t fun c =>
      { c with burst := some { b with running := true, at_ := s.now } }
    if b.kind = 3 then u.each [0, 1] fun u r => if b.pmask.getLsbD r then u.beginImage t r (u.now + b.dur) else u
    else if b.kind = 1 then u
    else
      let signal := if b.kind = 0 then b.dur else 4096 * (b.dur / 4096 / 2)
      (((u.occupy t 1 (u.now + b.dur)).moveSwitch t 1 (0, 2)).wakeDacs t b.pmask.toNat).each (onesOf 16 b.pmask.toNat) fun u i =>
        u.modTxPath (pathKey t i) fun p => { p with idleSince := max p.idleSince (u.now + signal) }

/-- CAL_CMD with GO = 1: a burst from the first multiple of 4 Tc at least 2,048 Tc ahead; Calibrate and On-air only (R201). -/
def State.calCmd (s : State) (t kind : Nat) (pmask : BitVec 16) : State :=
  if s.mode = .calibrate ∨ s.mode = .onAir then
    if 4 ≤ kind then s
    else s.modCal t fun c =>
      { c with pend := c.pend ++ [⟨kind, pmask, (s.now + 2048 + 3) / 4 * 4, s.fld (DFLY_CAL_DUR t) DFLY_CAL_DUR_DUR, true, false, 0, 0⟩] }
  else s.accessError

/-- CAL_BURST_START: the first burst commanded through CAL_CMD reaches its effect instant. -/
def State.burstStart (s : State) (t : Nat) : State :=
  match (s.cal t).pend with
  | [] => s
  | b :: rest => ((s.advance b.at_).modCal t fun c => { c with pend := rest }).burstAt t b

/-! ### Bursts: end -/

/-- The port stops being busy (R201); receivers the burst still holds are released. -/
def State.portFree (s : State) (t : Nat) : State :=
  match (s.cal t).burst with
  | none => s
  | some b =>
    let u := ((s.countTile t).setBit (DFLY_CAL_STAT t) DFLY_CAL_STAT_BUSY false).modCal t fun c => { c with burst := none }
    let v := if b.kind = 3 then u.each [0, 1] fun u r => if b.pmask.getLsbD r && (u.dfly (2 * t + r)).imaging then u.endImage t r else u
      else if b.kind = 1 then u else u.vacate t 1
    v.raise (Ev.CAL_DONE t)

/-- The codes of a burst's paths are counted and shown (R212). -/
def State.burstCodes (s : State) (t : Nat) (codes : List (Nat × Nat)) : State :=
  let bad := codes.filter fun x => x.2 != 0 && x.2 != 15
  let mask := bad.foldl (fun (m : Nat) x => m + 2 ^ x.1) 0
  let u := s.setFld (DFLY_CAL_STAT t) DFLY_CAL_STAT_FAIL mask
  if bad = [] then u
  else (u.bumpWith (·.raise Ev.COUNTER_SATURATED) (DFLY_FAIL_COUNT t) DFLY_FAIL_COUNT_COUNT (DFLY_CAL_CNT_FLAGS t) 0 bad.length).raise
    (Ev.CAL_PATH_FAIL t)

/-- The result registers of a kind: code, amplitude and phase; delay. -/
def calR (t kind i : Nat) : Nat := if kind = 0 then DFLY_TXR t i else if kind = 1 then DFLY_RXR t i else DFLY_RCP t i
def calD (t kind i : Nat) : Nat := if kind = 0 then DFLY_TXD t i else if kind = 1 then DFLY_RXD t i else DFLY_RCPD t i

/-- One path's record.  Delays saturate at 20 bits (Table 7-15). -/
def State.calRecord (s : State) (t kind i code : Nat) (amp : Int) (phase : Nat) (delay : Int) : State :=
  (((s.setFld (calR t kind i) DFLY_TXR_CODE code).setFld (calR t kind i) DFLY_TXR_AMP (unsigned 12 amp)).setFld (calR t kind i)
    DFLY_TXR_PHASE phase).setFld (calD t kind i) DFLY_TXD_DELAY (unsigned 20 (clampI (-524288) 524287 delay))

/-- A burst is cut short (Table 7-2): code 5 for every path; what else the records hold is not stated (free values).  After E + DUR nothing cuts it. -/
def State.abortBurst (s : State) (t : Nat) : State :=
  match (s.cal t).burst with
  | none => s
  | some b =>
    if !b.spans s.now then s
    else
      let s := s.each (onesOf 16 b.pmask.toNat) fun s i => s.modTxPath (pathKey t i) fun p => { p with idleSince := min p.idleSince s.now }
      if b.kind = 3 then s.portFree t
      else
        let ps := onesOf 16 b.pmask.toNat
        let v := s.freeNow
        let u := s.each ps fun s i => s.calRecord t b.kind i 5 (v.setWidth 12).toInt (v.toNat / 4096 % 65536) ((v.toNat / 2 ^ 28 : Nat) : Int)
        (u.useFree.burstCodes t (ps.map fun i => (i, 5))).portFree t

/-! ### From tones to records (R205) -/

/-- The measurement of a path, or one that finds no tone. -/
def measOf (ms : List CalMeas) (i : Nat) : CalMeas :=
  (ms.find? fun m => m.path.val == i).getD ⟨⟨i % 16, Nat.mod_lt _ (by decide)⟩, [], 0⟩

/-- Tone k, at k x 480 kHz from the RF centre, lies within an enabled, valid carrier of the direction measured (R205). -/
def State.toneInBand (s : State) (t i : Nat) (tx : Bool) (k : Int) : Bool :=
  cars.any fun c =>
    let cfg := if tx then s.txCfg t c else s.rxCfg t c
    let bad := if tx then s.maskBit (TXCH_STATUS t) TXCH_STATUS_CAR_INVALID c else s.maskBit (RXCH_STATUS t) RXCH_STATUS_CAR_INVALID c
    let tw := if tx then (s.txCar (carKey t i c)).tw else (s.rxCar (carKey t i c)).tw
    cfg.en && !bad && decide (|k * 480 * 2 ^ 48 - tw.toInt * 2457600| ≤ (cfg.halfBand : Int) * 2 ^ 48)

/-- The tones of the measurement band: all of them with BAND = 1 or without such a carrier. -/
def State.bandTones (s : State) (t : Nat) (tx : Bool) (m : CalMeas) : List CalTone :=
  let some_ := cars.any fun c => (if tx then s.txCfg t c else s.rxCfg t c).en
    && !(if tx then s.maskBit (TXCH_STATUS t) TXCH_STATUS_CAR_INVALID c else s.maskBit (RXCH_STATUS t) RXCH_STATUS_CAR_INVALID c)
  if s.bit (DFLY_CAL_CTRL t) DFLY_CAL_CTRL_BAND || !some_ then m.tones else m.tones.filter fun x => s.toneInBand t m.path tx x.k

/-- The linear phase fitted over tones, weighted by their power: phase at the centre and slope per tone, in 1/65,536 turn, as numerators over one
denominator, which is 0 where the tones do not give a line. -/
def fitTones (xs : List CalTone) : Int × Int × Int :=
  let S := fun (f : CalTone → Int) => (xs.map fun x => (x.power : Int) * f x).sum
  let d := S (fun _ => 1) * S (fun x => x.k * x.k) - S (·.k) * S (·.k)
  (S (·.phase) * S (fun x => x.k * x.k) - S (·.k) * S (fun x => x.k * x.phase),
   S (fun _ => 1) * S (fun x => x.k * x.phase) - S (·.k) * S (·.phase), d)

/-- The delay m_p in steps of 1/64 sample: a delay of one step turns the phase back by a fifth of 1/65,536 turn from tone to tone; and the phase θ_p.
Without a line they are free values. -/
def State.fitDelay (s : State) (xs : List CalTone) : Int :=
  let (_, b, d) := fitTones xs
  if d = 0 then (s.freeNow.setWidth 16).toInt else narrow (-5 * b) d
def State.fitPhase (s : State) (xs : List CalTone) : Nat :=
  let (a, _, d) := fitTones xs
  if d = 0 then (s.freeNow.setWidth 16).toNat else unsigned 16 (narrow a d)

/-- The RMS phase residual of the fit exceeds MAX_RES / 16 degrees: 5,760 / 65,536 sixteenths of a degree to the phase unit. -/
def fitPoor (xs : List CalTone) (maxRes : Nat) : Bool :=
  let (a, b, d) := fitTones xs
  d ≠ 0 && decide ((maxRes : Int) ^ 2 * xs.length * (65536 * d) ^ 2 < (xs.map fun x => (5760 * (x.phase * d - a - b * x.k)) ^ 2).sum)

/-- Receiver 1 cannot observe the transmit measurement: it is stale, or the centre +- 1,000 MHz leaves its band (code 4). -/
def State.observerBad (s : State) (t : Nat) : Bool :=
  s.maskBit (DFLY_STATUS t) DFLY_STATUS_STALE 1
    || decide ((1000000 : Int) * 2 ^ 48 < |((s.txRf t).toNat : Int) * 29491200 - s.fObs48 t 1|)

/-- The code of a path before the target is applied: the first of 5, 4, 1, 2 (R205).  A path none of whose tones stands above the noise records 1, as does
one muted by its gain trim. -/
def State.measCode (s : State) (t : Nat) (b : Burst) (tx : Bool) (m : CalMeas) : Nat :=
  let xs := s.bandTones t tx m
  let minSnr := s.fld (DFLY_CAL_CTRL t) DFLY_CAL_CTRL_MIN_SNR
  if (if tx then b.hit else b.hitRx).getLsbD m.path then 5
  else if tx && s.observerBad t then 4
  else if xs.isEmpty || decide ((xs.map CalTone.snr).sum < minSnr * xs.length) || (tx && s.gainAt t m.path b.at_ == 0) then 1
  else if fitPoor xs (s.fld (DFLY_CAL_CTRL t) DFLY_CAL_CTRL_MAX_RES) then 2
  else 0

/-- m_p and θ_p without NET (R205, R208), and with the trims in force during the burst removed: τ_p and φ_p. -/
def State.netDelay (s : State) (t : Nat) (tx : Bool) (m : CalMeas) : Int :=
  let i := m.path.val
  s.fitDelay (s.bandTones t tx m)
    - (if tx then signed 16 (s.fld (DFLY_NET_TX t i) DFLY_NET_TX_DELAY) else signed 16 (s.fld (DFLY_NET_RX t i) DFLY_NET_RX_DELAY))
def State.netPhase (s : State) (t : Nat) (tx : Bool) (m : CalMeas) : Int :=
  let i := m.path.val
  (s.fitPhase (s.bandTones t tx m) : Int) - (if tx then s.fld (DFLY_NET_TX t i) DFLY_NET_TX_PHASE else s.fld (DFLY_NET_RX t i) DFLY_NET_RX_PHASE)
def State.burstTrims (s : State) (t : Nat) (b : Burst) (tx : Bool) (m : CalMeas) : BitVec 13 × BitVec 16 :=
  if tx then (s.txPath (pathKey t m.path)).trimAt b.at_ else (s.rxPath (pathKey t m.path)).trimAt b.at_
def State.measTau (s : State) (t : Nat) (b : Burst) (tx : Bool) (m : CalMeas) : Int := s.netDelay t tx m - (s.burstTrims t b tx m).1.toInt
def State.measPhi (s : State) (t : Nat) (b : Burst) (tx : Bool) (m : CalMeas) : Nat :=
  unsigned 16 (s.netPhase t tx m - (s.burstTrims t b tx m).2.toNat)

/-- The amplitude of a record in 1/16 dB; of a transmit measurement the gain trim in force is removed first. -/
def State.measAmp (s : State) (t : Nat) (b : Burst) (tx : Bool) (m : CalMeas) : Int :=
  if tx then m.amp - decibels 16 (s.gainAt t m.path b.at_ ^ 2) (2 ^ 30) else m.amp

/-- The temperature and time stamps of a kind with a good path (R210). -/
def State.calStamp (s : State) (t kind : Nat) : State :=
  (((s.setFld (DFLY_STAMP t kind) DFLY_STAMP_TEMP (unsigned 12 (s.tileTemp t))).setReg (DFLY_STIME t kind) (s.tb.extractLsb' 16 32)).setMaskBit
    (DFLY_CAL_STAT t) DFLY_CAL_STAT_DUE kind false).modCal t fun c => { c with stamped := c.stamped ||| BitVec.ofNat 3 (2 ^ kind) }

/-- Results of a burst of KIND 0 (tx) or 1: records, trims, validity (R205 to R207). -/
def State.arrayResults (s : State) (t : Nat) (b : Burst) (tx : Bool) (ms : List CalMeas) : State :=
  let ctrl := DFLY_CAL_CTRL t
  let abs := s.bit ctrl DFLY_CAL_CTRL_ABS
  let ref := s.fld ctrl DFLY_CAL_CTRL_REF
  let m0 := measOf ms ref
  let refBad := !abs && s.measCode t b tx m0 != 0
  let tauT : Int := if abs then signed 20 (s.fld (DFLY_TARGET_DLY t) DFLY_TARGET_DLY_DELAY) else s.measTau t b tx m0
  let phiT := if abs then s.fld (DFLY_TARGET_PH t) DFLY_TARGET_PH_PHASE else s.measPhi t b tx m0
  let ps := onesOf 16 b.pmask.toNat
  let code := fun (m : CalMeas) =>
    let c := s.measCode t b tx m
    if c ≠ 0 then c
    else if 2048 < |tauT - s.measTau t b tx m| then 3
    else if refBad then 6
    else 0
  let codes := ps.map fun i => (i, code (measOf ms i))
  let good := (codes.filter fun x => x.2 == 0).map Prod.fst
  let u := s.each ps fun u i =>
    let m := measOf ms i
    u.calRecord t b.kind i (code m) (s.measAmp t b tx m) (s.measPhi t b tx m) (s.measTau t b tx m)
  let apply := s.bit ctrl (if tx then DFLY_CAL_CTRL_APPLY_TX else DFLY_CAL_CTRL_APPLY_RX)
  let mask := good.foldl (fun (m : Nat) i => m + 2 ^ i) 0
  let v :=
    if !apply || mask = 0 then u
    else
      let w := u.each good fun u i =>
        let m := measOf ms i
        let d := unsigned 13 (tauT - s.measTau t b tx m)
        let p := (phiT + 65536 - s.measPhi t b tx m) % 65536
        if tx then (u.setFld (TXCH_DELAY t i) TXCH_DELAY_DELAY d).setFld (TXCH_PHASE t i) TXCH_PHASE_PHASE p
        else (u.setFld (RXCH_DELAY t i) RXCH_DELAY_DELAY d).setFld (RXCH_PHASE t i) RXCH_PHASE_PHASE p
      if tx then
        let x := (w.txTrimArm t mask).modCal t fun c => { c with txGood := c.txGood ||| BitVec.ofNat 16 mask }
        if (x.cal t).txGood = 0xFFFF then x.setBit (DFLY_CAL_STAT t) DFLY_CAL_STAT_TX_VALID true else x
      else
        let x := (w.rxTrimArm t mask).modCal t fun c => { c with rxGood := c.rxGood ||| BitVec.ofNat 16 mask }
        if (x.cal t).rxGood = 0xFFFF then x.setBit (DFLY_CAL_STAT t) DFLY_CAL_STAT_RX_VALID true else x
  (if good = [] then v else v.calStamp t b.kind).burstCodes t codes

/-- Results of a burst of KIND 2 (R208): the trims in force stay in the terms, the NET values are removed. -/
def State.reciprocity (s : State) (t : Nat) (b : Burst) (tx rx : List CalMeas) : State :=
  let ref := s.fld (DFLY_CAL_CTRL t) DFLY_CAL_CTRL_REF
  let both := fun i => let c := s.measCode t b true (measOf tx i); if c ≠ 0 then c else s.measCode t b false (measOf rx i)
  let refBad := both ref != 0
  let ps := onesOf 16 b.pmask.toNat
  let code := fun i => if both i ≠ 0 then both i else if refBad then 6 else 0
  let amp := fun i => (measOf tx i).amp - (measOf rx i).amp
  let dly := fun i => s.netDelay t true (measOf tx i) - s.netDelay t false (measOf rx i)
  let ph := fun i => s.netPhase t true (measOf tx i) - s.netPhase t false (measOf rx i)
  let u := s.each ps fun u i =>
    if code i = 6 then u.calRecord t 2 i 6 0 0 0
    else u.calRecord t 2 i (code i) (amp i - amp ref) (unsigned 16 (ph i - ph ref)) (dly i - dly ref)
  let good := ps.filter fun i => code i == 0
  let mask := good.foldl (fun (m : Nat) i => m + 2 ^ i) 0
  let x := u.modCal t fun c => { c with rcpGood := c.rcpGood ||| BitVec.ofNat 16 mask }
  let v := if (x.cal t).rcpGood = 0xFFFF then x.setBit (DFLY_CAL_STAT t) DFLY_CAL_STAT_RCP_VALID true else x
  (if good = [] then v else v.calStamp t 2).burstCodes t (ps.map fun i => (i, code i))

/-- CAL_BURST_RESULTS: the results of the burst of KIND 0 to 2 are complete, `after` Tc, at most 16,384, past its last measured period (R201). -/
def State.burstResults (s : State) (t after : Nat) (tx rx : List CalMeas) : State :=
  match (s.cal t).burst with
  | none => s
  | some b =>
    let s := s.advance (b.at_ + 4096 * (b.dur / 4096) + after)
    match b.kind with
    | 0 => ((s.arrayResults t b true tx).useFree).portFree t
    | 1 => ((s.arrayResults t b false rx).useFree).portFree t
    | 2 => ((s.reciprocity t b tx rx).useFree).portFree t
    | _ => s

/-- IMAGE_CAL_END: an image calibration of a receiver ends (R176); a burst of KIND 3 ends with its last receiver. -/
def State.imageEnd (s : State) (t r : Nat) (rej : BitVec 8) (taps : List (Int × Int)) : State :=
  let x := s.dfly (2 * t + r)
  if !x.imaging then s
  else
    let u := ((s.advance x.imgStop).endImage t r).imageResult t r rej taps
    match (u.cal t).burst with
    | some b => if b.kind = 3 && [0, 1].all fun k => !b.pmask.getLsbD k || !(u.dfly (2 * t + k)).imaging then u.portFree t else u
    | none => u

/-- R211: CAL_DUE of each stamped kind, judged at every update of the tile reading. -/
def State.judgeCalDue (s : State) (t : Nat) : State :=
  s.each [0, 1, 2] fun s k =>
    let interval := s.fld (DFLY_CAL_TRIG t) DFLY_CAL_TRIG_INTERVAL
    let temp := s.fld (DFLY_CAL_TRIG t) DFLY_CAL_TRIG_TEMP
    let moved := |s.tileTemp t - signed 12 (s.fld (DFLY_STAMP t k) DFLY_STAMP_TEMP)|
    let age := (s.tb.extractLsb' 16 32 - s.reg (DFLY_STIME t k)).toNat * 65536
    let late := (interval ≠ 0 && decide (interval * 1966080000 ≤ age)) || (temp ≠ 0 && decide (4 * (temp : Int) < moved))
    if (s.cal t).stamped.getLsbD k && late && !s.maskBit (DFLY_CAL_STAT t) DFLY_CAL_STAT_DUE k then
      (s.setMaskBit (DFLY_CAL_STAT t) DFLY_CAL_STAT_DUE k true).raise Ev.CAL_DUE
    else s

/-- A start clears results, stamps and validity (R207, R212). -/
def State.calReset (s : State) (t : Nat) : State := s.setCal t {}

end Sys2Proof.Machine
end

