-- ==== Sys2Proof/Machine/Cu.lean ====
section
/-!
DEFINITION. Check values (R302, R271, R307) and the check-value units (R301 to R306, R309).
-/
namespace Sys2Proof.Machine
open Reg F

/-! ### The computation of R302 -/

structure Crc where
  width : Nat
  poly : Nat
  init : Nat
  refin : Bool
  refout : Bool
  inv : Bool
  deriving DecidableEq, Repr

/-- The low w bits of a number in reverse order. -/
def reverseBits (w n : Nat) : Nat := (List.range w).foldl (fun a i => 2 * a + (n >>> i) % 2) 0

def crcBit (k : Crc) (run : Nat) (b : Nat) : Nat :=
  let r := (run * 2) % 2 ^ k.width
  if ((run >>> (k.width - 1)) % 2 + b) % 2 = 1 then r ^^^ (k.poly % 2 ^ k.width) else r

/-- fold(b). -/
def crcByte (k : Crc) (run : Nat) (b : Byte) : Nat :=
  let v := if k.refin then reverseBits 8 b.toNat else b.toNat
  [7, 6, 5, 4, 3, 2, 1, 0].foldl (fun r i => crcBit k r ((v >>> i) % 2)) run

def crcBytes (k : Crc) (run : Nat) (bs : List Byte) : Nat := bs.foldl (crcByte k) run

def crcResult (k : Crc) (run : Nat) : Nat :=
  let r := if k.refout then reverseBits k.width run else run
  if k.inv then r ^^^ (2 ^ k.width - 1) else r

/-- CRC-32C, as every use of Table 12-3 but the Burog flit has it. -/
def crc32c : Crc := ⟨32, 0x1EDC6F41, 0xFFFFFFFF, true, true, true⟩
def crcFlit : Crc := ⟨32, 0x04C11DB7, 0xFFFFFFFF, false, false, true⟩

/-- The bytes of a word, most significant first. -/
def beBytes (w : Word) : List Byte := [(w >>> 24).setWidth 8, (w >>> 16).setWidth 8, (w >>> 8).setWidth 8, w.setWidth 8]

/-- The check value of data after a 32-bit prefix (R271, R308). -/
def checkValue (prefix_ : Word) (bs : List Byte) : Word :=
  BitVec.ofNat 32 (crcResult crc32c (crcBytes crc32c crc32c.init (beBytes prefix_ ++ bs)))

/-! ### The units -/

/-- The unit is bound (Table 12-1). -/
def State.cuBound (s : State) (u : Nat) : Bool :=
  if u < 8 then s.bit (MAC_PCFG u) MAC_PCFG_EN
  else if u = 8 then s.bit MAC_FH_JRN_CFG MAC_FH_JRN_CFG_EN
  else u == 9

/-- CFG, POLY and INIT of a unit; a bound one has its protocol's (R306). -/
def State.cuCrc (s : State) (u : Nat) : Crc :=
  if s.cuBound u then crc32c
  else
    { width := clampN 8 64 (s.fld (CU_CFG u) CU_CFG_WIDTH)
      poly := (s.reg (CU_POLY_HI u)).toNat * 2 ^ 32 + (s.reg (CU_POLY_LO u)).toNat
      init := (s.reg (CU_INIT_HI u)).toNat * 2 ^ 32 + (s.reg (CU_INIT_LO u)).toNat
      refin := s.bit (CU_CFG u) CU_CFG_REFIN
      refout := s.bit (CU_CFG u) CU_CFG_REFOUT
      inv := s.bit (CU_CFG u) CU_CFG_INV }

/-- A Scarab channel is running: its state is RUN or WAIT (Table 16-1; log entry 16). -/
def State.scarabRuns (s : State) (n : Nat) : Bool :=
  let st := s.fld (SCARAB_CH_STAT n) SCARAB_CH_STAT_STATE
  st == 1 || st == 2

/-- STAT.FEED: the attached channel is running (R304). -/
def State.cuFeed (s : State) (u : Nat) : Bool :=
  !s.cuBound u && s.bit (CU_CFG u) CU_CFG_SRC && s.scarabRuns (s.fld (CU_CFG u) CU_CFG_CHAN)

/-- Folds bytes into a unit. -/
def State.cuFold (s : State) (u : Nat) (bs : List Byte) : State :=
  s.modCuRun u fun r => BitVec.ofNat 64 (crcBytes (s.cuCrc u) r.toNat bs)

/-- The finished result for the present run (R305). -/
def State.cuResult (s : State) (u : Nat) : BitVec 64 := BitVec.ofNat 64 (crcResult (s.cuCrc u) (s.cuRun u).toNat)

/-- A write to a bound unit, or of its computation while FEED is 1, is discarded (R304, R306). -/
def State.cuWrite (s : State) (u : Nat) (feedBars : Bool) (f : State → State) : State :=
  if s.cuBound u || (feedBars && s.cuFeed u) then s.accessError else f s

/-- CU_START: CMD with OP 1 (R303). -/
def State.cuStart (s : State) (u : Nat) : State :=
  s.cuWrite u true fun s =>
    let k := s.cuCrc u
    let s := s.setCuRun u (BitVec.ofNat 64 (k.init % 2 ^ k.width))
    if s.bit (CU_CFG u) CU_CFG_PREFIX_EN then s.cuFold u (beBytes (s.reg (CU_PREFIX u))) else s

/-- CU_FOLD_PREFIX: CMD with OP 2. -/
def State.cuFoldPrefix (s : State) (u : Nat) : State :=
  s.cuWrite u true fun s => s.cuFold u (beBytes (s.reg (CU_PREFIX u)))

/-- CMD: OP 1 and 2, others do nothing. -/
def State.cuCmd (s : State) (u : Nat) (w : Word) : State :=
  match getF w CU_CMD_OP with
  | 1 => s.cuStart u
  | 2 => s.cuFoldPrefix u
  | _ => s.cuWrite u true fun s => s

/-- CU_DATA_W_WRITE and CU_DATA_B_WRITE; with SRC = 1 the unit takes its bytes from Scarab (R304). -/
def State.cuDataW (s : State) (u : Nat) (w : Word) : State :=
  s.cuWrite u true fun s => if s.bit (CU_CFG u) CU_CFG_SRC then s
    else s.cuFold u [w.setWidth 8, (w >>> 8).setWidth 8, (w >>> 16).setWidth 8, (w >>> 24).setWidth 8]
def State.cuDataB (s : State) (u : Nat) (w : Word) : State :=
  s.cuWrite u true fun s => if s.bit (CU_CFG u) CU_CFG_SRC then s else s.cuFold u [w.setWidth 8]

/-- A write of CFG: a change of WIDTH keeps the low WIDTH bits of run (R304). -/
def State.cuCfgWrite (s : State) (u : Nat) (w : Word) : State :=
  s.cuWrite u false fun s =>
    let s := s.plainWrite (CU_CFG u) w
    s.modCuRun u fun r => BitVec.ofNat 64 (r.toNat % 2 ^ (s.cuCrc u).width)

/-- POLY, INIT and PREFIX. -/
def State.cuParam (s : State) (a u : Nat) (w : Word) : State := s.cuWrite u false fun s => s.plainWrite a w

/-- RUN_LO waits for the write of RUN_HI, which commits the whole value (R305). -/
def State.cuRunLoWrite (s : State) (u : Nat) (w : Word) : State := s.cuWrite u true fun s => s.setCuLo u w
def State.cuRunHiWrite (s : State) (u : Nat) (w : Word) : State :=
  s.cuWrite u true fun s =>
    s.setCuRun u (BitVec.ofNat 64 ((w.toNat * 2 ^ 32 + (s.cuLo u).toNat) % 2 ^ (s.cuCrc u).width))

/-- CU_RUN_LO_READ and CU_RESULT_LO_READ: the low half, the high half captured. -/
def State.cuRunLoRead (s : State) (u : Nat) : State :=
  { (s.setReg (CU_RUN_HI u) ((s.cuRun u >>> 32).setWidth 32)) with reply := (s.cuRun u).setWidth 32 }
def State.cuResultLoRead (s : State) (u : Nat) : State :=
  { (s.setReg (CU_RESULT_HI u) ((s.cuResult u >>> 32).setWidth 32)) with reply := (s.cuResult u).setWidth 32 }

/-- A unit is taken from the channel it is attached to: the instruction in progress there has lost it (CU_LOST of Table 16-6). -/
def State.cuTaken (s : State) (u : Nat) : State :=
  if s.bit (CU_CFG u) CU_CFG_SRC then
    s.modScChan (s.fld (CU_CFG u) CU_CFG_CHAN) fun c => { c with xfer := c.xfer.map fun x => { x with lost := true } }
  else s

/-- The free registers of a unit take their reset values: on unbinding, and the context is lost on binding (R306). -/
def State.cuReset (s : State) (u : Nat) : State :=
  (((((((((((s.cuTaken u).setReg (CU_CFG u) (resetWord (CU_CFG u))).setReg (CU_POLY_LO u) (resetWord (CU_POLY_LO u))).setReg (CU_POLY_HI u)
    (resetWord (CU_POLY_HI u))).setReg (CU_INIT_LO u) (resetWord (CU_INIT_LO u))).setReg (CU_INIT_HI u)
    (resetWord (CU_INIT_HI u))).setReg (CU_PREFIX u) (resetWord (CU_PREFIX u))).setReg (CU_RUN_HI u)
    (resetWord (CU_RUN_HI u))).setReg (CU_RESULT_HI u) (resetWord (CU_RESULT_HI u))).setCuRun u 0xFFFFFFFF).setCuLo u 0xFFFFFFFF)

/-- STAT as it reads (Table 12-12). -/
def State.cuStat (s : State) (u : Nat) : Word :=
  let w := putF (putF (s.reg (CU_STAT u)) CU_STAT_BOUND (b2n (s.cuBound u))) CU_STAT_FEED (b2n (s.cuFeed u))
  putF w CU_STAT_OWNER (if s.cuBound u then (if u < 8 then 1 else if u = 8 then 2 else 3) else 0)

/-- A bound unit has completed a computation on received data: RUN and RESULT show it (R306). -/
def State.cuShow (s : State) (u : Nat) (prefix_ : Word) (bs : List Byte) : State :=
  s.setCuRun u (BitVec.ofNat 64 (crcBytes crc32c crc32c.init (beBytes prefix_ ++ bs)))

/-- A mismatch found by a unit (R309). -/
def State.cuMismatch (s : State) (u : Nat) (computed rcvd prefix_ : Word) : State :=
  let s := ((s.bump CU_CHK_MISMATCH CU_CNT_FLAGS 16 1).bump (CU_MISMATCH u) CU_CNT_FLAGS u 1).raise Ev.CHK_MISMATCH
  if s.bit (CU_STAT u) CU_STAT_MM then s
  else (((s.setReg (CU_MM_CALC u) computed).setReg (CU_MM_RCVD u) rcvd).setReg (CU_MM_PREFIX u) prefix_).setBit (CU_STAT u) CU_STAT_MM true

end Sys2Proof.Machine
end

