-- ==== Sys2Proof/Machine/Slalom.lean ====
section
/-!
DEFINITION. Slalom (R131 to R157): the beam table, section-symbols, the work queue, commit horizons, downlink dispatch
and soft errors.
-/
namespace Sys2Proof.Machine
open Reg F

/-- Slalom and the combiner run (R137). -/
def State.slalomOn (s : State) : Bool := s.mode == .onAir || s.mode == .quiet

/-! ### Carriers and instants (R145, R255) -/

/-- The lowest-numbered tile that enables a carrier in a direction. -/
def State.fhTile (s : State) (ul : Bool) (c : Nat) : Option Nat :=
  tiles.find? fun t => if ul then (s.rxCfg t c).en else (s.txCfg t c).en

def State.secCfg (s : State) (ul : Bool) (c : Nat) : Carcfg :=
  let t := (s.fhTile ul c).getD 0
  if ul then s.rxCfg t c else s.txCfg t c

/-- A(n), as a timebase value: symbol n at the converter plane, or at the sampling instant (R74, R108). -/
def State.airAt (s : State) (ul : Bool) (c n : Nat) : Nat :=
  (s.secCfg ul c).symStart n -
    (if ul then s.fld (RXCH_UL_OFFSET ((s.fhTile ul c).getD 0)) RXCH_UL_OFFSET_OFFSET else 0)

def State.horizonAt (s : State) (ul : Bool) (c n : Nat) : Nat := s.airAt ul c (n - 2)
def State.windowAt (s : State) (ul : Bool) (c n : Nat) : Nat :=
  s.airAt ul c (n - if s.bit SLALOM_CTRL SLALOM_CTRL_SHORT then 3 else 4)

/-! ### Sections -/

/-- Weight modes of Table 5-1. -/
def modeBeam : Nat := 0
def modeTimeline : Nat := 1
def modeInterp : Nat := 2
def modeVector : Nat := 3

/-- G, and the pages of the weights (Table 5-1). -/
def Desc.groups (d : Desc) : Nat := (d.nrb + 2 ^ d.gran - 1) / 2 ^ d.gran
def Desc.pages (d : Desc) : Nat := if modeInterp ≤ d.mode then (d.groups + 15) / 16 else 0

/-- Beam IDs a description names itself. -/
def Desc.names (d : Desc) : List Nat :=
  if d.mode = modeBeam then [d.beamA] else if d.mode = modeInterp then [d.beamA, d.beamB] else []

/-- Pipeline times of an item: until it completes, until the next may enter (R146). -/
def Desc.time (d : Desc) : Nat := if modeInterp ≤ d.mode then 512 + 2 * d.groups else 64
def Desc.gap (d : Desc) : Nat := if modeInterp ≤ d.mode then 2 * d.groups else 8

def State.sec (s : State) (k : SecKey) : Option SecSym := s.secs.find? fun x => x.key == k
def State.modSec (s : State) (k : SecKey) (f : SecSym → SecSym) : State :=
  { s with secs := s.secs.map fun x => if x.key = k then f x else x }

/-- The section-symbol has not passed its horizon's judgement and is described. -/
def Stage.pending : Stage → Bool
  | .queued | .computing | .complete | .failed => true
  | _ => false

/-- A change accepted at timebase value a reaches the section-symbol: its horizon is at or after it (R139, R148). -/
def State.reaches (s : State) (a : Nat) (x : SecSym) : Bool :=
  x.stage.pending && a ≤ s.horizonAt x.key.ul x.key.car x.key.sym

/-! ### Pages and entries (R136, R138) -/

/-- STATUS.POOL_FREE and STATUS.ENTRIES_USED. -/
def State.poolFree (s : State) : Nat := 3584 - s.pagesSt.length
def State.entriesUsed (s : State) : Nat :=
  (s.entries.filter fun x => x.2 == .current || x.2 == .retiring).length

/-- The free pages taken for a result: the lowest-numbered (log entry 17). -/
def State.freePages (s : State) (n : Nat) : List Nat :=
  ((List.range 3584).filter fun p => s.page p == .free).take n

def State.labelPages (s : State) (ps : List Nat) (l : PageState) : State := s.each ps fun s p => s.setPage p l

/-- Pages are taken; the count falling to 0 raises SLALOM_POOL_EXHAUSTED (R153). -/
def State.takePages (s : State) (ps : List Nat) : State :=
  let u := s.labelPages ps .speculative
  if 0 < s.poolFree && u.poolFree = 0 then u.raise Ev.SLALOM_POOL_EXHAUSTED else u

def Weights.pageList : Weights → List Nat
  | .pages ps => ps
  | _ => []

def Replay.pageList : Replay → List Nat
  | .running ps _ => ps
  | _ => []

/-- The last committed version of a section is kept until its last described symbol has been dispatched or combined (R152). -/
def State.keepsLast (s : State) (l : LastCommit) : Bool :=
  s.secs.any fun x => x.key.ul == l.ul && x.key.car == l.car && x.key.id == l.id &&
    (x.stage.pending || x.stage == .committed)

/-- Entries and pages that a committed section-symbol or a last committed version holds; that of the fallback beam it may still take too (DESIGN CHOICE,
log entry 90: R138 names only the entries it resolved to). -/
def State.heldEntries (s : State) : List Nat :=
  ((s.secs.filter fun x => x.stage == .committed).map fun x => x.ents ++ x.fbEnt.toList).flatten ++ (s.lastCommits.map (·.ents)).flatten
def State.heldPages (s : State) : List Nat :=
  ((s.secs.filter fun x => x.stage == .committed).map fun x => x.weights.pageList ++ x.replay.pageList).flatten ++
    (s.lastCommits.map fun l => l.weights.pageList).flatten

/-- Last versions, retiring entries and committed pages that nothing holds any longer are given up (R138, R152). -/
def State.reclaim (s : State) : State :=
  let s := { s with lastCommits := s.lastCommits.filter s.keepsLast }
  let es := s.heldEntries
  let ps := s.heldPages
  let s := s.each ((s.entries.filter fun x => x.2 == .retiring && !es.contains x.1).map (·.1)) fun s e => s.setEntry e .free
  s.each ((s.pagesSt.filter fun x => x.2 == .committed && !ps.contains x.1).map (·.1)) fun s p => s.setPage p .free

/-- The item of a section-symbol is dropped: its pages become free. -/
def State.dropItem (s : State) (k : SecKey) : State :=
  match s.sec k with
  | none => s
  | some x =>
    let s := if x.stage == .computing || x.stage == .complete then s.labelPages x.weights.pageList .free else s
    s.modSec k fun x => { x with weights := .muted, ids := [], ents := [], unknown := false, replay := .none }

/-- A new item is queued for a section-symbol by a change accepted at timebase value a (R148). -/
def State.requeue (a : Nat) (s : State) (k : SecKey) : State :=
  (s.dropItem k).modSec k fun x => { x with stage := .queued, accepted := s.instantOf a }

/-! ### Beam table (R138 to R144) -/

/-- Word of the weight store: word p of an entry, word p of group j of a page (R132, Table 5-2). -/
def beamWordAt (e p : Nat) : Nat := 64 * e + p
def poolWordAt (page j p : Nat) : Nat := 0x80000 + 1024 * page + 64 * j + p

/-- A change of a beam ID accepted at timebase value a supersedes every result that resolved it and has its horizon to come (R139). -/
def State.beamChanged (s : State) (a id : Nat) : State :=
  s.each ((s.secs.filter fun x => x.ids.contains id && s.reaches a x).map (·.key)) (State.requeue a)

/-- A definition takes the lowest-numbered free entry; none when every entry is in use (R138, R140). -/
def State.freeEntry (s : State) : Option Nat := (List.range 8192).find? fun e => s.entry e == .free

def State.defineBeam (s : State) (a id : Nat) (pinned : Bool) (words : List Word) (e : Nat) : State :=
  let old := s.beam id
  let s := (s.setEntry e .current).setBeam id (some ⟨e, pinned⟩)
  let s := (List.range 64).foldl (fun s p => s.setWeight (beamWordAt e p) (words.getD p 0)) s
  let s := match old with | some b => s.setEntry b.entry .retiring | none => s
  let s := s.each ((s.entries.filter fun x => x.2 == .lost id).map (·.1)) fun s e => s.setEntry e .free
  (s.beamChanged a id).reclaim

def State.deleteBeam (s : State) (a id : Nat) : State :=
  match s.beam id with
  | none => s
  | some b => (((s.setEntry b.entry .retiring).setBeam id none).beamChanged a id).reclaim

/-- A rejected definition is counted and raised (R140). -/
def State.tableFull (s : State) : State :=
  (s.bump SLALOM_BEAM_TABLE_FULL SLALOM_CNT_FLAGS 1 1).raise Ev.BEAM_TABLE_FULL

/-- BEAM_DEF_CMD (R141, R269). -/
def State.beamDef (s : State) (a id : Nat) (words : List Word) : State :=
  match s.beam id with
  | some ⟨_, true⟩ => (s.bump SLALOM_REJECT_COUNT SLALOM_CNT_FLAGS 5 1).raise Ev.SLALOM_CTRL_REJECTED
  | _ => match s.freeEntry with
    | none =>
      let s := { s.tableFull with ctrlRejected := id :: s.ctrlRejected }
      s.each s.ctrlMine fun s k => s.modSec k fun x => if x.desc.names.contains id then { x with rejected := true } else x
    | some e => ({ s with ctrlRejected := s.ctrlRejected.filter (· != id) }).defineBeam a id false words e

/-- BEAM_DEL_CMD. -/
def State.beamDel (s : State) (a id : Nat) : State :=
  match s.beam id with
  | some ⟨_, true⟩ => (s.bump SLALOM_REJECT_COUNT SLALOM_CNT_FLAGS 5 1).raise Ev.SLALOM_CTRL_REJECTED
  | _ => s.deleteBeam a id

/-- A write of BEAM_CMD (R143). -/
def State.beamCmdWrite (s : State) (op id : Nat) : State :=
  if s.bit SLALOM_BEAM_STAT SLALOM_BEAM_STAT_BUSY then s.accessError
  else if 1 ≤ op ∧ op ≤ 4 then { (s.setBit SLALOM_BEAM_STAT SLALOM_BEAM_STAT_BUSY true) with beamCmd := some (op, id, s.now) }
  else s

/-- BEAM_CMD_DONE: the host command completes `after` Tc after its write, at most 1,024. -/
def State.beamCmdDone (s : State) (after : Nat) : State :=
  match s.beamCmd with
  | none => s
  | some (op, id, t) =>
    let s := { (s.advance (t + min 1024 after)) with beamCmd := none }
    let s := s.setBit SLALOM_BEAM_STAT SLALOM_BEAM_STAT_BUSY false
    let result := fun (s : State) (r : Nat) => s.setFld SLALOM_BEAM_STAT SLALOM_BEAM_STAT_RESULT r
    let used := fun (s : State) (e : Nat) => (result s 0).setFld SLALOM_BEAM_STAT SLALOM_BEAM_STAT_ENTRY e
    match op with
    | 1 | 2 => match s.freeEntry with
      | none => result s.tableFull 1
      | some e => used (s.defineBeam s.tb.toNat id (op == 2) ((List.range 64).map fun w => s.reg (SLALOM_BEAM_DATA w)) e) e
    | 3 => match s.beam id with
      | none => result s 2
      | some b => used (s.deleteBeam s.tb.toNat id) b.entry
    | _ => match s.beam id with
      | none => result s 2
      | some b => used ((List.range 64).foldl (fun u w => u.setReg (SLALOM_BEAM_DATA w) (s.weight (beamWordAt b.entry w))) s) b.entry

/-- A write of BEAM_DATA_w. -/
def State.beamDataWrite (s : State) (a : Nat) (w : Word) : State :=
  if s.bit SLALOM_BEAM_STAT SLALOM_BEAM_STAT_BUSY then s.accessError else s.plainWrite a w

/-- The entry of the fallback beam in force now, if its ID is defined (R142). -/
def State.fallbackEntry (s : State) : Option Nat :=
  if s.bit SLALOM_FALLBACK SLALOM_FALLBACK_MODE then (s.beam (s.fld SLALOM_FALLBACK SLALOM_FALLBACK_BEAM)).map BeamSlot.entry else none

/-- Weights and entries of the fallback beam of a horizon: the definition of that horizon, whatever becomes of its ID (Table 5-5); a lost entry mutes. -/
def State.fallbackOf (s : State) (e : Option Nat) : Weights × List Nat :=
  match e with
  | some e => if s.entry e == .current || s.entry e == .retiring then (.entry e, [e]) else (.muted, [])
  | none => (.muted, [])
def State.fallbackBeam (s : State) : Weights × List Nat := s.fallbackOf s.fallbackEntry

/-- BEAMSET whose effect instant is timebase value a (R55). -/
def State.beamsetBy (s : State) (a : Nat) (ul : Bool) (layer : BitVec 5) (beam : BitVec 15) : State :=
  let k := 32 * b2n ul + layer.toNat
  if s.tlBeam k = beam then s
  else
    let s := s.setTlBeam k beam
    s.each ((s.secs.filter fun x => x.key.ul == ul && x.desc.mode == modeTimeline && x.desc.layer == layer.toNat &&
      x.stage != .queued && s.reaches a x).map (·.key)) (State.requeue a)
def State.beamset (s : State) (ul : Bool) (layer : BitVec 5) (beam : BitVec 15) : State := s.beamsetBy s.tb.toNat ul layer beam

/-- The BEAMSETs whose effect instant has come by a timebase value take effect (R149). -/
def State.beamsetsDue (s : State) (upto : Nat) : State :=
  s.each (s.effects.filter fun e => e.die == 4 && decide (s.tbAt e.at_ ≤ upto)) fun s e =>
    match e.radio with
    | .beamset ul layer beam => ({ s with effects := s.effects.erase e } : State).beamsetBy (s.tbAt e.at_) ul layer beam
    | _ => s

/-! ### Descriptions (R147, R148, R268) -/

/-- A description or cancellation of one section-symbol, judged by version at timebase value `a`; answers whether it came too
late. -/
def State.describe (s : State) (a : Nat) (k : SecKey) (d : Desc) (cancel : Bool) : State × Bool :=
  let old := s.sec k
  let stale := match old with
    | some x => let diff := (d.version + 16 - x.desc.version) % 16
                diff == 0 || 8 ≤ diff
    | none => false
  if !s.slalomOn then (s, false)
  else if stale then (s.bump SLALOM_STALE_COUNT SLALOM_CNT_FLAGS 3 1, false)
  else if s.horizonAt k.ul k.car k.sym < a || (match old with | some x => x.stage == .committed || x.stage == .dispatched | none => false) then
    (s, true)
  else
    let x : SecSym := { key := k, desc := d, accepted := s.instantOf a, toldAt := s.instantOf a, stage := if cancel then .cancelled else .queued,
                        rejected := d.names.any s.ctrlRejected.contains }
    let s := s.dropItem k
    let s := match old with
      | some _ => s.modSec k fun _ => x
      | none => { s with secs := s.secs ++ [x] }
    (({ s with ctrlMine := k :: s.ctrlMine }).reclaim, false)

/-- A message too late for a section-symbol is counted once (R148). -/
def State.lateControl (s : State) : State :=
  if s.ctrlLate then s
  else ({ s with ctrlLate := true }.bump SLALOM_LATE_CTRL_COUNT SLALOM_CNT_FLAGS 2 1).raise Ev.SLALOM_LATE_CONTROL

/-- A description of the symbols from n on. -/
def State.describeRun (s : State) (a : Nat) (ul : Bool) (c id n count : Nat) (d : Desc) (cancel : Bool) : State :=
  (List.range count).foldl (fun s j =>
    let (u, late) := s.describe a ⟨ul, c, id, n + j⟩ d cancel
    if late then u.lateControl else u) s

/-! ### The pipeline (R146, R153) -/

/-- The horizon of a section-symbol as a model instant. -/
def State.itemKey (s : State) (x : SecSym) : Nat := s.horizonAt x.key.ul x.key.car x.key.sym

/-- The first in queue order of two items: by horizon, then by acceptance; of items equal in both, the one described first (DESIGN CHOICE, log entry 90:
R146 gives no order between them). -/
def State.firstItem (s : State) (l : List SecSym) : Option SecSym :=
  l.foldl (fun best x => match best with
    | none => some x
    | some b => if s.itemKey x < s.itemKey b ∨ (s.itemKey x = s.itemKey b ∧ x.accepted < b.accepted) then some x else some b) none

/-- A queued item, or a queued replay. -/
def SecSym.waits (x : SecSym) : Bool := x.stage == .queued || (x.stage == .committed && x.replay == .queued)

/-- What a description's weights resolve to now: IDs, entries, whether one is undefined (Table 5-1). -/
def State.resolve (s : State) (ul : Bool) (d : Desc) : List Nat × List Nat × Bool :=
  let ids := if d.mode = modeTimeline then [(s.tlBeam (32 * b2n ul + d.layer)).toNat] else d.names
  (ids, ids.filterMap fun i => (s.beam i).map (·.entry), ids.any fun i => (s.beam i).isNone)

/-- SLALOM_ITEM_START: at the next pipeline slot the first item whose window is open enters; one that finds too few free pages waits, and those behind it
too.  One that finds some, but fewer than it needs, takes none of them, so the pool is not exhausted (DESIGN CHOICE, log entry 112: R153 speaks only of one
that finds none). -/
def State.itemStart (s : State) : State :=
  if !s.slalomOn then s
  else
    let slot := max s.now s.pipeFree
    let opens := fun (x : SecSym) => s.instantOf (s.windowAt x.key.ul x.key.car x.key.sym)
    let waiting := s.secs.filter fun x => x.waits && (x.stage == .committed || s.tbAt slot < s.itemKey x)
    match waiting with
    | [] => s
    | x0 :: _ =>
      let t := max slot (waiting.foldl (fun m x => min m (opens x)) (opens x0))
      match s.firstItem (waiting.filter fun x => opens x ≤ t) with
      | none => s
      | some x =>
        let d := if x.stage == .committed then (if x.fallback then { x.used with mode := modeBeam } else x.used) else x.desc
        let ps := s.freePages d.pages
        if ps.length < d.pages then s
        else
          let s := { (s.advance t) with pipeFree := t + d.gap }
          let s := s.takePages ps
          if x.stage == .committed then s.modSec x.key fun x => { x with replay := .running ps (t + d.time) }
          else
            let (ids, ents, unknown) := s.resolve x.key.ul d
            let w := if modeInterp ≤ d.mode then Weights.pages ps
              else match ents with | e :: _ => .entry e | [] => .muted
            s.modSec x.key fun x =>
              { x with stage := .computing, doneAt := t + d.time, ids := ids, ents := ents, unknown := unknown, weights := w }

/-- Weight of path p in group j of an INTERP or VECTOR description (Table 5-1). -/
def State.formWeight (s : State) (d : Desc) (ents : List Nat) (j p : Nat) : Word :=
  if d.mode = modeVector then d.vectors.getD (64 * j + p) 0
  else
    let a := s.weight (beamWordAt (ents.getD 0 0) p)
    let b := s.weight (beamWordAt (ents.getD 1 0) p)
    if d.groups ≤ 1 then a
    else
      let mix := fun (x y : Int) => x + roundDiv ((y - x) * j) (d.groups - 1)
      iqWord (mix (iPart a) (iPart b)) (mix (qPart a) (qPart b))

/-- The weights of a result are written into its pages. -/
def State.writePages (s : State) (d : Desc) (ents : List Nat) (ps : List Nat) : State :=
  if d.mode = modeInterp ∧ ents.length < 2 then s
  else
    (List.range d.groups).foldl (fun u j =>
      (List.range 64).foldl (fun u p => u.setWeight (poolWordAt (ps.getD (j / 16) 0) (j % 16) p) (s.formWeight d ents j p)) u) s

/-- When the item or the replay of a section-symbol completes. -/
def SecSym.completesAt (x : SecSym) : Option Nat :=
  if x.stage == .computing then some x.doneAt
  else match x.replay with
    | .running _ t => if x.stage == .committed then some t else none
    | _ => none

/-- A work item has its result. -/
def State.finishItem (s : State) (x : SecSym) : State :=
  (s.writePages x.desc x.ents x.weights.pageList).modSec x.key fun x => { x with stage := .complete, replay := .none }

/-! ### The horizon (R149 to R152) -/

def State.lastOf (s : State) (k : SecKey) : Option LastCommit :=
  s.lastCommits.find? fun l => l.ul == k.ul && l.car == k.car && l.id == k.id

/-- Index of a subcarrier's layer data in the symbol store. -/
def layerKey (n c layer k : Nat) : Nat := ((n * 4 + c) * 32 + layer) * 4096 + k

/-- A resource block of a description's layer data is missing (R154, R262). -/
def State.dataMissing (s : State) (c n : Nat) (d : Desc) : Bool :=
  (List.range d.nrb).any fun r => (s.layerWord (layerKey n c d.layer (12 * (d.startRb + r)))).isNone

/-- What a section-symbol without a result takes: description, weights, entries, fallback, causes (R151). -/
def State.lastVersion (s : State) (x : SecSym) : Desc × Weights × List Nat × Bool × List Nat :=
  let (fw, fe) := s.fallbackBeam
  match s.lastOf x.key with
  | some l => if l.fallback then (l.desc, fw, fe, true, [1, 2]) else (l.desc, l.weights, l.ents, false, [1])
  | none => (x.desc, fw, fe, true, [2])

def State.countFallback (s : State) : State := (s.bump SLALOM_FALLBACK_COUNT SLALOM_CNT_FLAGS 0 1).raise Ev.SLALOM_FALLBACK

/-- A section-symbol is committed in a form, which becomes its section's last committed version, unless a later symbol of the section has committed
(R149, R152). -/
def State.commitAs (s : State) (k : SecKey) (d : Desc) (w : Weights) (ents : List Nat) (fb : Bool) (why : List Nat) : State :=
  let s := (s.labelPages w.pageList .committed).modSec k fun x =>
    { x with stage := .committed, used := d, weights := w, ents := ents, fallback := fb, reasons := why, replay := .none }
  if (s.lastOf k).any fun l => decide (k.sym < l.sym) then s
  else { s with lastCommits := (s.lastCommits.filter fun (l : LastCommit) => !(l.ul == k.ul && l.car == k.car && l.id == k.id)) ++
      [⟨k.ul, k.car, k.id, k.sym, d, w, ents, fb⟩] }

/-- Layer data missing at the horizon: counted and marked (R154). -/
def State.judgeData (s : State) (k : SecKey) : State :=
  match s.sec k with
  | some x =>
    if !k.ul && s.dataMissing k.car k.sym x.used then
      (s.bump SLALOM_MISSING_DATA_COUNT SLALOM_CNT_FLAGS 9 1).modSec k fun x => { x with reasons := x.reasons ++ [3] }
    else s
  | none => s

/-- The judgement of one section-symbol at its horizon (R149): a result counts if it was complete by then.  Marked rejected (R140), it takes the fallback beam
when it has a result and R151's last version otherwise, and a later definition of the ID does not lift the mark (DESIGN CHOICE, log entry 90: the spec states
neither). -/
def State.judgeSec (s : State) (x : SecSym) : State :=
  let (fw, fe) := s.fallbackBeam
  let fb := s.fallbackEntry
  let s :=
    if x.stage == .complete && decide (s.tbAt x.doneAt ≤ s.itemKey x) then
      if x.rejected || x.unknown then
        let s := if !x.unknown then s else (s.bump SLALOM_UNKNOWN_BEAM_COUNT SLALOM_CNT_FLAGS 4 1).raise Ev.SLALOM_UNKNOWN_BEAM
        ((s.labelPages x.weights.pageList .free).commitAs x.key x.desc fw fe true [2])
      else s.commitAs x.key x.desc x.weights x.ents false []
    else
      let s := s.dropItem x.key
      let (d, w, e, fb, why) := s.lastVersion x
      s.countFallback.commitAs x.key d w e fb why
  (s.modSec x.key fun x => { x with fbEnt := fb }).judgeData x.key

/-- COMMIT_HORIZON of a direction and carrier: the next horizon whose section-symbols are not yet judged. -/
def State.commitHorizon (s : State) (ul : Bool) (c : Nat) : State :=
  if !s.slalomOn then s
  else
    let open_ := s.secs.filter fun x => x.stage.pending && x.key.ul == ul && x.key.car == c
    match open_ with
    | [] => s
    | x :: _ =>
      let n := open_.foldl (fun m x => min m x.key.sym) x.key.sym
      let s := s.advanceTb (s.horizonAt ul c n)
      let s := (s.secs.filter fun x => x.stage == .computing && x.key.ul == ul && x.key.car == c && x.key.sym == n &&
        decide (s.tbAt x.doneAt ≤ s.horizonAt ul c n)).foldl State.finishItem s
      ((s.secs.filter fun x => x.stage.pending && x.key.ul == ul && x.key.car == c && x.key.sym == n).foldl State.judgeSec s).reclaim

/-! ### Downlink dispatch (R134, R145, R154) -/

/-- The weight of path p at subcarrier k of a committed section-symbol, none outside its resource blocks. -/
def State.secWeight (s : State) (x : SecSym) (p k : Nat) : Option Word :=
  let rb := k / 12
  if rb < x.used.startRb ∨ x.used.startRb + x.used.nrb ≤ rb then none
  else
    let j := (rb - x.used.startRb) / 2 ^ x.used.gran
    match x.weights with
    | .muted => some 0
    | .entry e => some (s.weight (beamWordAt e p))
    | .pages ps => some (s.weight (poolWordAt (ps.getD (j / 16) 0) (j % 16) p))

/-- Saturation to 16 bits (R134), and whether a value saturated. -/
def sat16 (v : Int) : Int := clampI (-32768) 32767 v
def sats (v : Int) : Nat := if sat16 v = v then 0 else 1

/-- A complex product. -/
def mulI (w d : Word) : Int := iPart w * iPart d - qPart w * qPart d
def mulQ (w d : Word) : Int := iPart w * qPart d + qPart w * iPart d

/-- The word of path p at subcarrier k, and how many of its components saturated (R134). -/
def State.dlWord (s : State) (xs : List SecSym) (c n p k : Nat) : Word × Nat :=
  let acc := xs.foldl (fun (a : Int × Int) x => match s.secWeight x p k with
    | none => a
    | some w =>
      let d := (s.layerWord (layerKey n c x.used.layer k)).getD 0
      (a.1 + mulI w d, a.2 + mulQ w d)) (0, 0)
  let sh := (2 : Int) ^ (15 + min 5 (s.fld SLALOM_CTRL SLALOM_CTRL_DL_SHIFT))
  let i := roundDiv acc.1 sh
  let q := roundDiv acc.2 sh
  (iqWord (sat16 i) (sat16 q), sats i + sats q)

/-- The words of a symbol go to the tiles that enable the carrier; `inTime` when they arrive for R76; a word struck on its way stays invalid (R16).  Of a
dispatch that ends late a tile holds no word at the deadline (DESIGN CHOICE, log entry 88: the spec gives no instant for each word). -/
def State.dispatchWords (s : State) (xs : List SecSym) (c n : Nat) (inTime : Bool) : State :=
  let u := tiles.foldl (fun u t =>
    if (s.txCfg t c).en && s.domOn (10 + t) && !s.bit (TXCH_STATUS t) TXCH_STATUS_MUTE_LINK then
      let v := paths.foldl (fun u i => (List.range (12 * (s.txCfg t c).nrb)).foldl (fun u k =>
        let (w, n') := s.dlWord xs c n (16 * t + i) k
        let u := if n' = 0 then u else u.bump SLALOM_DL_SAT_COUNT SLALOM_CNT_FLAGS 11 n'
        if inTime && !(u.txSym ((n * 4 + c) * 4 + t)).struck.contains (4096 * i + k) then u.setTxWord (dlKey n c (16 * t + i) k) (some w) else u) u) u
      if inTime then v.modTxSym ((n * 4 + c) * 4 + t) fun x => { x with held := true } else v
    else u) s
  u

/-- The deadline of a replay: the dispatch deadline, or the latest hand-over (R155, Table 5-3).  One that ends at it is in time on the uplink, and not on the
downlink, where dispatch ends before it. -/
def State.replayDeadline (s : State) (x : SecSym) : Nat :=
  if x.key.ul then s.airAt true x.key.car (x.key.sym + 1) + 20480 else s.airAt false x.key.car (x.key.sym - 1)
def State.replayInTime (s : State) (x : SecSym) (stop : Nat) : Bool :=
  if x.key.ul then s.tbAt stop ≤ s.replayDeadline x else s.tbAt stop < s.replayDeadline x

/-- A replay has its result: its pages become committed (R155). -/
def State.finishReplay (s : State) (x : SecSym) (stop : Nat) : State :=
  let ps := x.replay.pageList
  let w := if modeInterp ≤ x.used.mode ∧ !x.fallback then Weights.pages ps else x.weights
  let s := ((s.writePages x.used x.ents ps).labelPages ps .committed).modSec x.key fun x => { x with weights := w, replay := .none, redone := stop }
  ({ s with lastCommits := s.lastCommits.map fun (l : LastCommit) =>
    if l.ul = x.key.ul ∧ l.car = x.key.car ∧ l.id = x.key.id ∧ l.sym = x.key.sym then { l with weights := w } else l }).reclaim

/-- A replay that misses its deadline takes R151 (R155).  The version of the symbol before it was kept until it committed and no longer (R152), so it takes the
fallback beam; an uplink section-symbol is sent with zero mantissas. -/
def State.failReplay (s : State) (x : SecSym) : State :=
  let (fw, fe) := s.fallbackOf x.fbEnt
  let s := (s.labelPages x.replay.pageList .free).countFallback
  (s.commitAs x.key x.used fw fe true (x.reasons ++ [4, 2])).modSec x.key fun x =>
    { x with zeroed := x.key.ul, redone := min s.now (s.instantOf (s.replayDeadline x)) }

/-- What has become of a replay when its deadline is here: one that ended in time stands. -/
def State.settleReplay (s : State) (x : SecSym) : State :=
  match x.replay with
  | .none => s
  | .queued => s.failReplay x
  | .running _ stop => if s.replayInTime x stop then s.finishReplay x stop else s.failReplay x

/-- SLALOM_ITEM_COMPLETE: the earliest item in the pipeline has its result; a replay has it, or misses its deadline first. -/
def State.itemComplete (s : State) : State :=
  let run := s.secs.filterMap fun x => x.completesAt.map fun t => (t, x)
  match run.foldl (fun (b : Option (Nat × SecSym)) y => match b with
      | none => some y
      | some z => if y.1 < z.1 then some y else some z) none with
  | none => s
  | some (t, x) =>
    if x.stage == .computing then (s.advance t).finishItem x
    else if s.replayInTime x t then (s.advance t).finishReplay x t
    else (s.advanceTb (s.replayDeadline x)).failReplay x

/-- Layer data of a symbol is released (R264). -/
def State.releaseLayers (s : State) (c n : Nat) : State :=
  { s with layerData := s.layerData.filter fun x => x.1 / (32 * 4096) != n * 4 + c }

/-- DL_DISPATCH_DONE of a carrier, `after` Tc past H(s): its earliest symbol committed and not dispatched, else the one dispatch is
under way for. -/
def State.dlDispatchDone (s : State) (c after : Nat) : State :=
  if !s.slalomOn || (s.fhTile false c).isNone then s
  else
    let of := fun (s : State) (n : Nat) => s.secs.filter fun x => x.stage == .committed && !x.key.ul && x.key.car == c && x.key.sym == n
    let n := (s.secs.filter fun x => x.stage == .committed && !x.key.ul && x.key.car == c).foldl (fun m x => min m x.key.sym)
      ((s.secCfg false c).symAt s.tb.toNat + 2)
    let s := s.advanceTb (s.horizonAt false c n + after)
    -- a replay holds dispatch up until its deadline (R155)
    if (of s n).any (fun x => x.replay != .none) && decide (s.tb.toNat < s.airAt false c (n - 1)) then s else
    let s := (of s n).foldl State.settleReplay s
    let inTime := decide (s.tb.toNat < s.airAt false c (n - 1))
    let s := s.dispatchWords (of s n) c n inTime
    let s := if inTime then s
      else ((of s n).foldl (fun s x => s.modSec x.key fun x => { x with reasons := x.reasons ++ [5] }) s).bump
        SLALOM_DISPATCH_LATE_COUNT SLALOM_CNT_FLAGS 8 1 |>.raise Ev.SLALOM_DISPATCH_LATE
    (((of s n).foldl (fun s x => s.modSec x.key fun x => { x with stage := .dispatched }) s).releaseLayers c n).reclaim

/-! ### Soft errors (R155, R314) -/

def State.countReplay (s : State) : State := (s.bump SLALOM_REPLAY_COUNT SLALOM_CNT_FLAGS 6 1).raise Ev.SLALOM_REPLAY

/-- An error in the work on a section-symbol: before its horizon its item is queued again, after it its pages are made again. -/
def State.workError (s : State) (k : SecKey) : State :=
  match s.sec k with
  | none => s
  | some x => match x.stage with
    | .computing | .complete => (s.dropItem k).countReplay.modSec k fun x => { x with stage := .queued, replay := .queued }
    | .committed =>
      (s.labelPages x.replay.pageList .free).countReplay.modSec k fun x => { x with replay := .queued }
    | _ => s

/-- The fallback of R151 for a section-symbol whose inputs are lost: at once when committed, at its horizon otherwise. -/
def State.inputLost (s : State) (k : SecKey) : State :=
  match s.sec k with
  | none => s
  | some x => match x.stage with
    | .queued | .computing | .complete => (s.dropItem k).modSec k fun x => { x with stage := .failed }
    | .committed =>
      let (fw, fe) := s.fallbackOf x.fbEnt
      ((s.labelPages x.replay.pageList .free).countFallback.commitAs k x.used fw fe true (x.reasons ++ [2])).modSec k fun y =>
        { y with redone := if x.replay == .none then x.redone else s.now }
    | _ => s

/-- A replay in progress for a section-symbol finds its inputs lost (R314). -/
def State.replayStruck (s : State) (k : SecKey) : State :=
  match s.sec k with
  | some x => if x.replay == .none then s else s.raise Ev.SLALOM_REPLAY
  | none => s

/-- The section-symbols that the stored description of one of them governs (R314): those its message described with it. -/
def State.governedWith (s : State) (k : SecKey) : List SecKey :=
  match s.sec k with
  | none => []
  | some x => (s.secs.filter fun y => y.key.ul == k.ul && y.key.car == k.car && y.key.id == k.id && y.toldAt == x.toldAt && y.desc == x.desc).map (·.key)

/-- A beam entry is lost: its ID undefined, and with it its pin, so that a control message may define it again (DESIGN CHOICE, log entry 112: R155 leaves the
pin open). -/
def State.entryLost (s : State) (e : Nat) : State :=
  let owner := s.beamMap.find? fun x => x.2.map (·.entry) == some e
  if owner.isNone && s.entry e != .retiring then s
  else
    let s := (match owner with
      | some (id, _) => (s.setEntry e (.lost id)).setBeam id none
      | none => s.setEntry e .free).raise Ev.SLALOM_ENTRY_LOST
    let hit := (s.secs.filter fun x => x.ents.contains e && x.stage != .dispatched).map (·.key)
    (({ s with lastCommits := s.lastCommits.filter fun (l : LastCommit) => !l.ents.contains e }).each hit State.inputLost).reclaim

/-- A resource block of stored layer data is lost: it is missing in the sense of R154. -/
def State.layerLost (s : State) (c layer n rb : Nat) : State :=
  let s := (List.range 12).foldl (fun s k => s.setLayerWord (layerKey n c layer (12 * rb + k)) none) s
  let covers := fun (d : Desc) => d.layer == layer && decide (d.startRb ≤ rb) && decide (rb < d.startRb + d.nrb)
  s.each (s.secs.filter fun x => !x.key.ul && x.key.car == c && x.key.sym == n) fun s x =>
    if x.stage.pending then (if covers x.desc then s.replayStruck x.key else s)
    else if x.stage == .committed && covers x.used then
      (if x.reasons.contains 3 then s.replayStruck x.key else (s.replayStruck x.key).judgeData x.key)
    else s

/-- ENGINE_SOFT_ERROR. -/
def State.softError (s : State) (w : SoftErr) : State :=
  match w with
  | .work k => s.workError k
  | .description k => (s.each (s.governedWith k) fun s k => (s.replayStruck k).inputLost k).reclaim
  | .entry e => s.entryLost e
  | .layerData c layer n rb => s.layerLost c layer n rb

/-! ### Leaving On-air and Quiet, and starts (R137) -/

def State.slalomStop (s : State) : State :=
  ({ s with secs := [], lastCommits := [], pagesSt := [], pipeFree := 0, layerData := [], pathData := [], pathMarks := [], txData := [],
            txSyms := [], ctrlCmds := [], ctrlMine := [], ctrlRejected := [], held := [] }).reclaim

def State.slalomStart (s : State) : State :=
  { s.slalomStop with beamMap := [], entries := [], tlBeams := [], beamCmd := none }

end Sys2Proof.Machine
end

