-- ==== Sys2Proof/Machine/Mac.lean ====
section
/-!
DEFINITION. The Ethernet ports (R235 to R241): validity, links, receive classification and transmit queues, and the timestamps of
R317 and R319.
-/
namespace Sys2Proof.Machine
open Reg F

/-- n bytes of a number, most significant first. -/
def beNat (n v : Nat) : List Byte := (List.range n).map fun i => BitVec.ofNat 8 (v >>> (8 * (n - 1 - i)))
/-- The number that bytes make, most significant first; and n bytes of a list from an offset. -/
def natOf (bs : List Byte) : Nat := bs.foldl (fun a b => 256 * a + b.toNat) 0
def slice (bs : List Byte) (o n : Nat) : List Byte := (bs.drop o).take n
def num (bs : List Byte) (o n : Nat) : Nat := natOf (slice bs o n)

/-! ### Validity (R235, R236) -/

def portType (s : State) (p : Nat) : Nat := s.fld (MAC_PCFG p) MAC_PCFG_TYPE
def portLane (s : State) (p : Nat) : Nat := s.fld (MAC_PCFG p) MAC_PCFG_LANE

/-- Lanes of a port type and the rate it needs (Tables 9-1, 9-2). -/
def typeLanes (ty : Nat) : Nat := match ty with | 3 => 2 | 4 => 4 | _ => 1
def typeRate (ty : Nat) : Nat := match ty with | 0 => 0 | 1 => 1 | _ => 2

def State.portLanes (s : State) (p : Nat) : List Nat := (List.range (typeLanes (portType s p))).map (portLane s p + ·)

/-- The use a quad has; RATE 3 and USE 3 act as unused (R232, Table 9-8). -/
def State.quadUse (s : State) (n : Nat) : Nat :=
  let u := s.fld (LANEQ_QCFG n) LANEQ_QCFG_USE
  if s.fld (LANEQ_QCFG n) LANEQ_QCFG_RATE = 3 ∨ u = 3 then 0 else u

def State.portSound (s : State) (p : Nat) : Bool :=
  let ty := portType s p
  let l := portLane s p
  decide (ty < 5) && l % typeLanes ty == 0 && s.quadUse (l / 4) == 1 &&
    s.fld (LANEQ_QCFG (l / 4)) LANEQ_QCFG_RATE == typeRate ty &&
    (List.range p).all fun q => !s.bit (MAC_PCFG q) MAC_PCFG_EN || (s.portLanes q).all fun x => !(s.portLanes p).contains x

/-- A port that sends and receives. -/
def State.portUsable (s : State) (p : Nat) : Bool :=
  s.bit (MAC_PCFG p) MAC_PCFG_EN && !s.bit (MAC_PSTAT p) MAC_PSTAT_INVALID

/-- The link goes down: the frame being sent is discarded; one being received is known by the instant (R238). -/
def State.linkDown (s : State) (p : Nat) : State :=
  if s.bit (MAC_PSTAT p) MAC_PSTAT_LINK then
    let u := s.setBit (MAC_PSTAT p) MAC_PSTAT_LINK false
    let v := if (u.port p).sending.isSome then u.bump (MAC_TX_DISCARD p) (MAC_CNT_FLAGS p) 4 1 else u
    (v.modPort p fun q => { q with sending := none, downAt := some v.now }).raise Ev.MAC_LINK_DOWN
  else s

/-! ### Lanes under a port (R237, R238, R246, R247) -/

def laneActive : Nat := 0
def State.laneIs (s : State) (l st : Nat) : Bool := s.fld (LANEQ_LSTAT l) LANEQ_LSTAT_STATE == st

/-- A pattern in force on a lane: in Test mode; patterns 2 and 3 act as 0 on an NRZ lane (R247). -/
def State.patternOf (s : State) (l : Nat) (f : Fld) : Nat :=
  let n := s.fld (LANEQ_LCTRL l) f
  if s.mode ≠ .test ∨ (2 ≤ n ∧ s.fld (LANEQ_QCFG (l / 4)) LANEQ_QCFG_RATE = 0) then 0 else n
/-- A lane carries a pattern in place of traffic. -/
def State.lanePattern (s : State) (l : Nat) : Bool := s.patternOf l LANEQ_LCTRL_PAT_TX != 0 || s.patternOf l LANEQ_LCTRL_PAT_RX != 0

/-- The loop of Table 9-4 that acts on a lane: in Test mode, while it is ACTIVE (R246). -/
def State.laneLoop (s : State) (l : Nat) : Nat :=
  if s.mode = .test ∧ s.laneIs l laneActive then s.fld (LANEQ_LCTRL l) LANEQ_LCTRL_LOOP else 0
/-- The lane receives its own transmit data; its TX pins carry local data. -/
def State.nearEnd (s : State) (l : Nat) : Bool := s.laneLoop l == 1 || s.laneLoop l == 2
def State.farEnd (s : State) (l : Nat) : Bool := s.laneLoop l == 3
def State.pinsLocal (s : State) (l : Nat) : Bool := !s.farEnd l && !(s.laneLoop l == 1 && s.bit (LANEQ_LCTRL l) LANEQ_LCTRL_NES_IDLE)

/-- Every lane of a port is ACTIVE and carries traffic. -/
def State.lanesUp (s : State) (p : Nat) : Bool := (s.portLanes p).all fun l => s.laneIs l laneActive && !s.lanePattern l

/-- The training of a port at a link-up that follows a full adaptation: it settles the coefficients of its lanes' transmitters (R237, R249). -/
def State.trainPort (s : State) (p : Nat) : State :=
  if s.bit (MAC_PCFG p) MAC_PCFG_TRAIN && (s.portLanes p).any fun l => !(s.lane l).resumed && (s.lane l).trained.isNone then
    s.each (s.portLanes p) fun s l => (s.modLane l fun x => { x with trained := some s.free }).useFree
  else s

/-- The link follows its conditions (R238). -/
def State.judgeLink (s : State) (p : Nat) : State :=
  let st := MAC_PSTAT p
  if s.portUsable p && s.lanesUp p && s.bit st MAC_PSTAT_ALIGNED && !s.bit st MAC_PSTAT_LOCAL_FAULT && !s.bit st MAC_PSTAT_REMOTE_FAULT then
    if s.bit st MAC_PSTAT_LINK then s else ((s.setBit st MAC_PSTAT_LINK true).trainPort p).raise Ev.MAC_LINK_UP
  else s.linkDown p

/-- Alignment needs usable lanes that carry traffic, skewed by no more than 64 ns (R237; DEDUCED: it is lost with its lanes, log entry 97). -/
def State.setAligned (s : State) (p : Nat) (aligned : Bool) : State :=
  s.setBit (MAC_PSTAT p) MAC_PSTAT_ALIGNED (aligned && s.portUsable p && s.lanesUp p)

/-- MAC_LINK_CHANGE: FEC and PCS alignment and the fault signalling of a port change; its link follows. -/
def State.macLink (s : State) (p : Nat) (aligned localFault remoteFault : Bool) (skew : Nat) : State :=
  (((s.setAligned p (aligned && (typeLanes (portType s p) == 1 || decide (skew ≤ 64)))).setBit (MAC_PSTAT p) MAC_PSTAT_LOCAL_FAULT
    localFault).setBit (MAC_PSTAT p) MAC_PSTAT_REMOTE_FAULT remoteFault).judgeLink p

/-- A port whose lanes are no longer all up loses its alignment and its link. -/
def State.lanesChanged (s : State) : State :=
  s.each (List.range 8) fun s p => (s.setAligned p (s.bit (MAC_PSTAT p) MAC_PSTAT_ALIGNED)).judgeLink p

/-- Every port is judged anew, when PCFG or QCFG changes (R236). -/
def State.judgePorts (s : State) : State :=
  (s.each (List.range 8) fun s p =>
    let bad := s.bit (MAC_PCFG p) MAC_PCFG_EN && !s.portSound p
    let was := s.bit (MAC_PSTAT p) MAC_PSTAT_INVALID
    let s := s.setBit (MAC_PSTAT p) MAC_PSTAT_INVALID bad
    if bad && !was then s.raise Ev.MAC_PORT_INVALID else s).lanesChanged

/-- A write of PCFG, Configure only; EN binds the port's check-value unit (R301, R306).  Other lanes, or another type, start unaligned. -/
def State.pcfgWrite (s : State) (p : Nat) (w : Word) : State :=
  s.configOnly fun s =>
    let was := (s.bit (MAC_PCFG p) MAC_PCFG_EN, portType s p, portLane s p)
    let u := s.plainWrite (MAC_PCFG p) w
    let v := if u.bit (MAC_PCFG p) MAC_PCFG_EN = was.1 then u else u.cuReset p
    (if (v.bit (MAC_PCFG p) MAC_PCFG_EN, portType v p, portLane v p) = was then v else v.setAligned p false).judgePorts

/-! ### Timestamps (R317, R319) -/

/-- A signed correction of CORR_p in 1/16 ns. -/
def State.corr (s : State) (p : Nat) (f : Fld) : Int := signed 16 (s.fld (TIME_CORR p) f)

/-- The PTP form of a timebase value with a correction in 1/16 ns: seconds, nanoseconds, and the fraction in 2^-16 ns. -/
def ptpTime (tb : Nat) (corr16 : Int) : Nat × Nat × Nat :=
  -- in units of 2^-16 ns: one Tc is 100,000 / 196,608 ns = 1,000,000,000 / 1,966,080,000 ns
  let whole : Int := (tb / 1966080000 : Nat) * (1000000000 * 65536) + (tb % 1966080000 * 1000000000 * 65536 / 1966080000 : Nat) + corr16 * 4096
  let v := whole.toNat
  (v / 65536 / 1000000000 % 2 ^ 48, v / 65536 % 1000000000, v % 65536)

/-- Ten bytes of a timestamp: 48 bits of seconds, 32 bits of nanoseconds. -/
def stampBytes (x : Nat × Nat × Nat) : List Byte := beNat 6 x.1 ++ beNat 4 x.2.1

def State.egressTime (s : State) (p : Nat) : Nat × Nat × Nat := ptpTime s.tb.toNat (s.corr p TIME_CORR_EGR_CORR)
def State.ingressTime (s : State) (p : Nat) (at_ : Nat) : Nat × Nat × Nat := ptpTime (s.tbAt at_) (-s.corr p TIME_CORR_ING_CORR)

/-! ### Frames -/

/-- The six octets of the port address and of a fronthaul peer. -/
def State.portAddr (s : State) (p : Nat) : List Byte :=
  beNat 2 (s.fld (MAC_ADDR_HI p) MAC_ADDR_HI_ADDR) ++ beNat 4 (s.reg (MAC_ADDR_LO p)).toNat
def State.peerAddr (s : State) (p : Nat) : List Byte :=
  beNat 2 (s.fld (MAC_FH_PEER_HI p) MAC_FH_PEER_HI_ADDR) ++ beNat 4 (s.reg (MAC_FH_PEER_LO p)).toNat

def State.maxFrame (s : State) (p : Nat) : Nat := clampN 64 9216 (s.fld (MAC_PCFG p) MAC_PCFG_MAX_FRAME)

/-- Bytes of an Ethernet header before the EtherType's payload: tagged for eCPRI when FH_TAG is 1 (R240). -/
def State.ethHeader (s : State) (p : Nat) (dest : List Byte) (tagged : Bool) (pcp etype : Nat) : List Byte :=
  dest ++ s.portAddr p ++
    (if tagged then beNat 2 0x8100 ++ beNat 2 (pcp * 8192 + s.fld (MAC_VLAN p) MAC_VLAN_FH_VID) else []) ++ beNat 2 etype

/-- Zeros up to the shortest Ethernet frame, 60 bytes before the FCS (log entry 24). -/
def padFrame (bs : List Byte) : List Byte := bs ++ List.replicate (60 - bs.length) 0

/-- An eCPRI message (R252, R253): revision 1, C = 0. -/
def ecpri (type : Nat) (payload : List Byte) : List Byte := beNat 1 0x10 ++ beNat 1 type ++ beNat 2 payload.length ++ payload

/-- A frame enters the transmit queue of its port (R240). -/
def State.sendFrame (s : State) (p pcp : Nat) (bytes : List Byte) (stamp : Stamp := .none) : State :=
  s.modPort p fun q => { q with queue := q.queue ++ [⟨pcp, padFrame bytes, stamp⟩] }

/-- An eCPRI frame to the peer of a port. -/
def State.sendEcpri (s : State) (p pcp type : Nat) (dest payload : List Byte) (stamp : Stamp := .none) : State :=
  s.sendFrame p pcp (s.ethHeader p dest (s.bit (MAC_VLAN p) MAC_VLAN_FH_TAG) pcp 0xAEFE ++ ecpri type payload) stamp

/-- Bytes with some of them replaced from an offset. -/
def patch (bs : List Byte) (o : Nat) (new : List Byte) : List Byte := bs.take o ++ new ++ bs.drop (o + new.length)

/-- Offset of the payload of a frame, after its EtherType. -/
def payloadAt (bs : List Byte) : Nat := if num bs 12 2 = 0x8100 then 18 else 14

/-- A frame is taken for sending: its timestamp is written into it where the frame carries one (R281, R320; layouts: log entries
24 and 26), or the Follow_Up that carries it is queued behind. -/
def State.stampFrame (s : State) (p : Nat) (f : TxFrame) : State × TxFrame :=
  let t := s.egressTime p
  let o := payloadAt f.bytes
  match f.stamp with
  | .none => (s, f)
  | .oneStep =>
    let corr := (num f.bytes (o + 8) 8 + t.2.2) % 2 ^ 64
    (s, { f with bytes := patch (patch f.bytes (o + 8) (beNat 8 corr)) (o + 34) (stampBytes t) })
  | .twoStep =>
    let body := patch (patch (patch f.bytes o (beNat 1 0x08)) (o + 8) (beNat 8 ((num f.bytes (o + 8) 8 + t.2.2) % 2 ^ 64))) (o + 34) (stampBytes t)
    (s.sendFrame p f.pcp body, f)
  | .delayFollow =>
    let s := s.setDlyRes (256 * p + num f.bytes (o + 4) 1) { t1 := (t.1, t.2.1) }
    if num f.bytes (o + 5) 1 = 0 then (s, { f with bytes := patch f.bytes (o + 6) (stampBytes t) })
    else
      (s.sendFrame p f.pcp (patch (patch (patch f.bytes (o + 5) (beNat 1 5)) (o + 6) (stampBytes t)) (o + 16)
        (beNat 4 0 ++ beNat 4 (s.reg MAC_FH_DLY_COMP).toNat)), f)

/-- The next frame of a port: the first of its highest PCP (R240). -/
def Port.next (q : Port) : Option TxFrame :=
  q.queue.foldl (fun b f => match b with | none => some f | some x => if x.pcp < f.pcp then some f else some x) none

/-- FH counters: bit k of FH_CNT_FLAGS belongs to the counter at 0x1100 + 4 k (Table 10-15). -/
def State.fhCount (s : State) (a n : Nat) : State := s.bump a MAC_FH_CNT_FLAGS ((a - MAC_FH_MODE_DISCARD) / 4) n

/-- Types 0 and 2 are accepted in On-air and Quiet (Table 1-8, R31). -/
def State.fhModeOk (s : State) : Bool := s.mode == .onAir || s.mode == .quiet

/-- Rows 1 to 3 of Table 10-1; what passes waits for its handling, with the instant of its first bit (R319).  A type 5 action R281 does not name is dropped (log entry 31). -/
def State.fhReceive (s : State) (p ago : Nat) (bs : List Byte) : State :=
  let bad := fun (s : State) => (s.fhCount MAC_FH_MALFORMED 1).raise Ev.FH_RX_ERROR
  let ty := num bs 1 1
  if num bs 0 1 / 16 ≠ 1 ∨ num bs 0 1 % 2 = 1 then bad s
  else if ty ≠ 0 ∧ ty ≠ 2 ∧ ty ≠ 5 then bad s
  else if ty ≠ 5 ∧ !s.fhModeOk then s.fhCount MAC_FH_MODE_DISCARD 1
  else if ty = 5 ∧ 5 < num bs 5 1 then s
  else { s with fhMsgs := s.fhMsgs ++ [⟨p, s.now - ago, bs⟩] }

/-- State of a port that the best master clock algorithm gives it (R320); one that is masterOnly or notSlave is no slave. -/
inductive PtpRole where
  | master | slave | passive
  deriving DecidableEq, Repr

def State.ptpRole (s : State) (p : Nat) : PtpRole :=
  match Config.ptpState s.ptpEvents p with
  | 0 => .master
  | 1 => if s.ptp (8 * p + 4) ≠ 0 ∨ s.ptp (8 * p + 5) ≠ 0 then .passive else .slave
  | _ => .passive

/-- An IEEE 1588 frame goes to Rilyn with its ingress timestamp (R319); the states of the ports are judged anew, and the profile's answer is sent (R320). -/
def State.ptpReceive (s : State) (p ago : Nat) (bytes : List Byte) : State :=
  let u := { s.emit (.ptp p (s.ingressTime p (s.now - ago)) bytes) with ptpEvents := s.ptpEvents + 1 }
  match Config.ptpAnswer u.ptpEvents with
  | some b => u.sendFrame p (u.fld (MAC_PRIO p) MAC_PRIO_PCP_PTP) (u.ethHeader p (beNat 6 0x011B19000000) false 0 0x88F7 ++ b)
  | none => u

/-- A frame that a port's receiver has taken whole, its first bit `ago` Tc before: Table 9-3, row by row.  `bytes`: destination address to the byte before the FCS. -/
def State.ethTake (s : State) (p : Nat) (bytes : List Byte) (fcsError : Bool) (ago : Nat) : State :=
  let count := fun (s : State) (a k : Nat) => s.bump a (MAC_CNT_FLAGS p) k 1
  let discard := fun (s : State) => count s (MAC_RX_DISCARD p) 3
  let dest := slice bytes 0 6
  let outer := num bytes 12 2
  let inner := num bytes 16 2
  let tagged := outer == 0x8100 && inner != 0x8100 && inner != 0x88A8 && inner != 0x9100
  let etype := if tagged then inner else outer
  let len := bytes.length + 4
  if fcsError then count s (MAC_RX_FCS_ERR p) 2
  else if len < 64 ∨ s.maxFrame p < len then discard s
  else if dest ≠ s.portAddr p ∧ natOf dest ≠ 0xFFFFFFFFFFFF ∧ natOf dest ≠ 0x011B19000000 ∧ natOf dest ≠ 0x0180C200000E then discard s
  else if etype = 0x8808 then discard s
  else if etype = 0xAEFE ∧ (if s.bit (MAC_VLAN p) MAC_VLAN_FH_TAG then tagged && num bytes 14 2 % 4096 == s.fld (MAC_VLAN p) MAC_VLAN_FH_VID
      else !tagged) then
    (count s (MAC_RX_FRAMES p) 0).fhReceive p ago (bytes.drop (if tagged then 18 else 14))
  else if etype = 0x88F7 then (count s (MAC_RX_FRAMES p) 0).ptpReceive p ago bytes
  else if s.bit (MAC_PCFG p) MAC_PCFG_MGMT_EN then
    { count s (MAC_RX_FRAMES p) 0 with mgmtIn := s.mgmtIn ++ [⟨p, s.now, bytes⟩] }
  else discard s

/-- The link of a port went down after the first bit of a frame that came `ago` Tc ago (R238). -/
def State.cutByDown (s : State) (p ago : Nat) : Bool := (s.port p).downAt.any fun d => decide (s.now < d + ago)

/-- The codewords that RS-FEC corrected, and those it could not, since the frame before: the command does not carry them, and their numbers are free
values (R251; log entry 116). -/
def State.fecCount (s : State) (p : Nat) : State :=
  let w := s.freeNow.toNat
  ((s.bump (MAC_FEC_UNCORR p) (MAC_CNT_FLAGS p) 5 (w % 2 ^ 16)).bump (MAC_FEC_CORR p) (MAC_CNT_FLAGS p) 6 (w / 2 ^ 16 % 2 ^ 16)).useFree

/-- ETH_FRAME_RECEIVE: a frame at the RX pins.  A near-end loop ignores the pins; far-end loops send what they receive back, whatever the link; one that the
link has cut is discarded (R238, R246; lanes looped apart carry no whole frame, log entry 97). -/
def State.ethReceive (s : State) (p : Nat) (bytes : List Byte) (fcsError : Bool) (ago : Nat) : State :=
  if (s.portLanes p).any s.nearEnd then s
  else
    let u := s.when ((s.portLanes p).all s.farEnd) fun s => s.emit (.frame p bytes)
    if u.cutByDown p ago then u.bump (MAC_RX_DISCARD p) (MAC_CNT_FLAGS p) 3 1
    else if !u.bit (MAC_PSTAT p) MAC_PSTAT_LINK then u
    else (u.fecCount p).ethTake p bytes fcsError ago

/-- A frame has been sent: the pins carry it unless a loop keeps it from them, and near-end loops bring it to the port's own receiver (R246). -/
def State.ethSent (s : State) (p : Nat) (bytes : List Byte) : State :=
  let u := s.bump (MAC_TX_FRAMES p) (MAC_CNT_FLAGS p) 1 1
  let v := u.when ((u.portLanes p).all u.pinsLocal) fun u => u.emit (.frame p bytes)
  v.when ((v.portLanes p).all v.nearEnd) fun v => v.ethTake p bytes false (v.now - (v.port p).sentAt)

/-- ETH_FRAME_TRANSMIT: the frame being sent ends, the next one begins. -/
def State.ethTransmit (s : State) (p : Nat) : State :=
  if !s.bit (MAC_PSTAT p) MAC_PSTAT_LINK then s
  else
    let s := match (s.port p).sending with
      | some f => (s.modPort p fun q => { q with sending := none }).ethSent p f.bytes
      | none => s
    match (s.port p).next with
    | none => s
    | some f =>
      let s := s.modPort p fun q => { q with queue := q.queue.erase f }
      let (s, g) := s.stampFrame p f
      s.modPort p fun q => { q with sending := some g, sentAt := s.now }

end Sys2Proof.Machine
end

