-- ==== Sys2Proof/Machine/Burog.lean ====
section
/-!
DEFINITION. The Burog cascade link (R283 to R299): ports, flits, credits, retry, training and part IDs.
-/
namespace Sys2Proof.Machine
open Reg F

def burogDown : Nat := 0
def burogTraining : Nat := 1
def burogRun : Nat := 2
def burogRefused : Nat := 3

def State.burogState (s : State) (k : Nat) : Nat := s.fld (BUROG_PSTAT k) BUROG_PSTAT_STATE
def State.burogNum (s : State) (k : Nat) : Nat := s.fld BUROG_CFG (if k = 0 then BUROG_CFG_DN_NUM else BUROG_CFG_UP_NUM)
def State.burogFirst (s : State) (k : Nat) : Nat := s.fld BUROG_CFG (if k = 0 then BUROG_CFG_DN_FIRST else BUROG_CFG_UP_FIRST)
def State.burogLanes (s : State) (k : Nat) : List Nat := (List.range (s.burogNum k)).map (s.burogFirst k + ·)

/-! ### Configuration and part IDs (R283, R298) -/

def State.burogPortSound (s : State) (k : Nat) : Bool :=
  let n := s.burogNum k
  let f := s.burogFirst k
  n == 0 || (decide (n ≤ 4) && decide (f % 4 + n ≤ 4) && s.quadUse (f / 4) == 2 && s.fld (LANEQ_QCFG (f / 4)) LANEQ_QCFG_RATE == 2)

def State.burogSound (s : State) : Bool :=
  s.burogPortSound 0 && s.burogPortSound 1 && (s.burogLanes 0).all fun l => !(s.burogLanes 1).contains l

def State.partId (s : State) : Nat := s.fld SLALOM_CASC_CFG SLALOM_CASC_CFG_PART_ID
def State.idValid (s : State) : Bool := s.bit BUROG_STATUS BUROG_STATUS_ID_VALID
def State.kValid (s : State) : Bool := s.bit BUROG_STATUS BUROG_STATUS_K_VALID
/-- Parts in the group, K. -/
def State.groupSize (s : State) : Nat := s.fld SLALOM_CASC_CFG SLALOM_CASC_CFG_PARTS_M1 + 1

def State.setId (s : State) (i : Nat) : State :=
  (s.setBit BUROG_STATUS BUROG_STATUS_ID_VALID true).setFld SLALOM_CASC_CFG SLALOM_CASC_CFG_PART_ID i
def State.setK (s : State) (k : Nat) : State :=
  (s.setBit BUROG_STATUS BUROG_STATUS_K_VALID true).setFld SLALOM_CASC_CFG SLALOM_CASC_CFG_PARTS_M1 (k - 1)

/-- Payload bits of a flit from a bit down, as a number. -/
def pbits (p : BitVec 256) (lo n : Nat) : Nat := (p.toNat >>> lo) % 2 ^ n

/-- Element n of a list of counts. -/
def bumpAt (l : List Nat) (n d : Nat) : List Nat := l.mapIdx fun i x => if i = n then x + d else x

/-- Messages are sent in flits on one channel (R294); a port not in RUN sends none. -/
def flitsOf (vc : Nat) (ps : List (BitVec 256)) : List Flit :=
  ps.mapIdx fun i p => ⟨vc, i == 0, i + 1 == ps.length, p⟩

def State.burogQueue (s : State) (k vc : Nat) (fs : List Flit) : State :=
  if s.burogState k = burogRun then
    s.modBurog k fun b => match vc with
      | 0 => { b with q0 := b.q0 ++ fs }
      | 1 => { b with q1 := b.q1 ++ fs }
      | 2 => { b with q2 := b.q2 ++ fs }
      | _ => { b with q3 := b.q3 ++ fs }
  else s

def State.burogPost (s : State) (k vc : Nat) (ps : List (BitVec 256)) : State := s.burogQueue k vc (flitsOf vc ps)

/-- A 64-bit message header at the top of a flit's payload. -/
def headed (h : Nat) : BitVec 256 := BitVec.ofNat 256 (h * 2 ^ 192)

/-- The GROUP message (Table 11-3), sent on the DN port. -/
def State.sendGroup (s : State) : State :=
  s.burogPost 0 0 [headed (2 * 2 ^ 60 + (s.groupSize - 1) * 2 ^ 58)]

/-- The tail latches K once its ID is valid (R298). -/
def State.judgeTail (s : State) : State :=
  let tail := s.burogNum 1 == 0 ||
    (s.burogState 1 == burogRefused && s.fld (BUROG_PSTAT 1) BUROG_PSTAT_REASON == 3)
  if s.idValid && !s.kValid && tail then (s.setK (s.partId + 1)).sendGroup else s

/-- The head takes ID 0 on an entry to Configure in which ID_VALID is 0 (R298). -/
def State.judgeHead (s : State) : State :=
  if s.burogNum 0 == 0 && !s.idValid then (s.setId 0).judgeTail else s.judgeTail

def State.clearIds (s : State) : State :=
  ((((s.setBit BUROG_STATUS BUROG_STATUS_ID_VALID false).setBit BUROG_STATUS BUROG_STATUS_K_VALID false).setFld SLALOM_CASC_CFG
    SLALOM_CASC_CFG_PART_ID 0).setFld SLALOM_CASC_CFG SLALOM_CASC_CFG_PARTS_M1 0)

/-! ### Waiting for the upstream record (R158, R161, R293) -/

/-- End of the useful part of an uplink symbol. -/
def State.ulEnd (s : State) (c n : Nat) : Nat := s.airAt true c (n + 1)

/-- The part has an upstream neighbour to wait for. -/
def State.hasUpstream (s : State) : Bool := s.kValid && s.partId + 1 < s.groupSize

def State.expirePsum (s : State) (k : SecKey) : State :=
  ((s.modSec k fun x => { x with expired := true }).bump SLALOM_PSUM_LATE_COUNT SLALOM_CNT_FLAGS 10 1).raise Ev.CASCADE_PSUM_LATE

def SecSym.awaits (x : SecSym) : Bool := x.key.ul && x.stage == .committed && x.upstream.isNone && !x.expired

/-- When the part's own sum for a section-symbol is complete: 10,240 Tc after Tu_end, or with the replay that it waited for (Table 5-3, R155). -/
def State.sumAt (s : State) (x : SecSym) : Nat := max (s.ulEnd x.key.car x.key.sym + 10240) (if x.redone = 0 then 0 else s.tbAt x.redone)

/-- The UP port is not in RUN: every record that the part waits for is missing at once (R293). -/
def State.expireWaits (s : State) : State :=
  if s.hasUpstream then
    s.each (s.secs.filter fun x => x.awaits && x.replay == .none && decide (s.sumAt x ≤ s.tb.toNat)) fun s x => s.expirePsum x.key
  else s

/-! ### Ports up and down (R293, R297) -/

def State.burogLanesUp (s : State) (k : Nat) : Bool :=
  (s.burogLanes k).all fun l => s.laneIs l laneActive && !s.lanePattern l

/-- A port that is DOWN trains when all its lanes are ACTIVE. -/
def State.burogTrain (s : State) (k : Nat) : State :=
  if s.burogState k = burogDown ∧ s.burogExists k ∧ s.burogLanesUp k then
    s.setFld (BUROG_PSTAT k) BUROG_PSTAT_STATE burogTraining else s

/-- A port goes DOWN: its buffers and partly received messages are lost, and with the UP port every record waited for. -/
def State.burogGoDown (s : State) (k : Nat) : State :=
  if s.burogState k = burogDown then s
  else
    (((((s.when (k == 1) State.expireWaits).setBurog k {}).setFld (BUROG_PSTAT k) BUROG_PSTAT_STATE burogDown).setBit (BUROG_PSTAT k) BUROG_PSTAT_RECOVERY false).setFld
      (BUROG_PSTAT k) BUROG_PSTAT_REASON 0).raise Ev.BUROG_LINK_DOWN

/-- The lanes or the settings changed: ports whose lanes are not all ACTIVE go DOWN, those that can train do. -/
def State.burogLanesChanged (s : State) : State :=
  s.each [0, 1] fun s k =>
    (if s.burogExists k && s.burogLanesUp k then s else s.burogGoDown k).burogTrain k

/-- CFG is judged anew (R283). -/
def State.judgeBurog (s : State) : State :=
  let was := s.bit BUROG_STATUS BUROG_STATUS_CFG_INVALID
  let bad := !s.burogSound
  let s := s.setBit BUROG_STATUS BUROG_STATUS_CFG_INVALID bad
  (if bad && !was then s.raise Ev.BUROG_CFG_INVALID else s).burogLanesChanged

def State.burogCfgWrite (s : State) (w : Word) : State :=
  s.configOnly fun s => (s.plainWrite BUROG_CFG w).judgeBurog.judgeTail

/-- BUROG_RETRAIN and BUROG_CLEAR_IDS (Table 11-8). -/
def State.burogRetrain (s : State) : State := s.each [0, 1] fun s k => (s.burogGoDown k).burogTrain k
def State.burogClearIds (s : State) : State := s.configOnly State.clearIds
def State.burogCmd (s : State) (w : Word) : State :=
  let s := s.when (bitF w BUROG_CMD_CLEAR_IDS) State.burogClearIds
  s.when (bitF w BUROG_CMD_RETRAIN) State.burogRetrain

def State.burogRefuse (s : State) (k why : Nat) : State :=
  (((s.setFld (BUROG_PSTAT k) BUROG_PSTAT_STATE burogRefused).setFld (BUROG_PSTAT k) BUROG_PSTAT_REASON why).raise
    (if why = 3 then Ev.PART_ID_EXHAUSTED else Ev.BUROG_TRAIN_REFUSED)).judgeTail

/-- A port enters RUN; a sum that was completed while the UP port was not in RUN has its record missing (R293). -/
def State.burogEnterRun (s : State) (k : Nat) (delay : BitVec 16) : State :=
  let s := ((((s.when (k == 1) State.expireWaits).setBurog k {}).setReg (BUROG_LINK_DLY k) (delay.setWidth 32)).setFld (BUROG_PSTAT k) BUROG_PSTAT_STATE burogRun).raise
    Ev.BUROG_LINK_UP
  if s.kValid then (if k = 0 then s.sendGroup else s) else s.judgeTail

/-- What the port has received on one of its lanes in training. -/
def BPort.trainLane (b : BPort) (i : Nat) : TrainLane := sget (fun _ => {}) b.train i

/-- An UP side that has no ID left to offer (R297 step 2). -/
def State.idsSpent (s : State) : Bool := s.partId == 3 || (Config.steppingA1 && s.partId == 1)

/-- The payload of a TRAIN flit on a lane of a port (Table 11-4); a REFUSED port goes on telling its partner why (DEDUCED, log entry 98). -/
def State.trainPayload (s : State) (k lane : Nat) : BitVec 256 :=
  let x := (s.burog k).trainLane lane
  let refused := s.burogState k == burogRefused
  let spent := k == 1 && s.idValid && s.idsSpent
  let why := if refused then s.fld (BUROG_PSTAT k) BUROG_PSTAT_REASON else if spent then 3 else 0
  BitVec.ofNat 256 ((k + 1) * 2 ^ 252 + s.burogNum k * 2 ^ 249 + lane * 2 ^ 247 + b2n s.idValid * 2 ^ 246 + s.partId * 2 ^ 244 +
    b2n (refused || spent) * 2 ^ 243 + why * 2 ^ 240 + s.tb.toNat % 2 ^ 16 * 2 ^ 224 + (if x.heard then pbits x.payload 224 16 else 0) * 2 ^ 208 +
    (if x.heard then (s.tb - x.at_).toNat % 2 ^ 16 else 0) * 2 ^ 192)

/-- The one-way delay that the latest TRAIN flit of a lane gives: half the time from a STAMP to its echo, less TURN (R297 step 4). -/
def TrainLane.delay (x : TrainLane) : BitVec 16 :=
  BitVec.ofNat 16 ((x.at_.toNat + 2 * 2 ^ 16 - pbits x.payload 208 16 - pbits x.payload 192 16) % 2 ^ 16 / 2)

/-- BUROG_TRAIN_COMPLETE (R297): once 64 TRAIN flits in a row have passed on every lane, what they say settles the port; a side that waits
for an ID stays TRAINING. -/
def State.burogTrained (s : State) (k skew : Nat) : State :=
  let L := s.burogNum k
  let xs := (List.range L).map (s.burog k).trainLane
  let x := (s.burog k).trainLane 0
  let f := pbits x.payload
  let far := f 244 2
  if s.burogState k ≠ burogTraining ∨ xs.any fun y => decide (y.run < 64) then s
  else if xs.any fun y => pbits y.payload 252 4 != (if k = 0 then 2 else 1) then s.burogRefuse k 1
  else if (xs.any fun y => pbits y.payload 249 3 != L) ∨ (xs.mapIdx fun i y => pbits y.payload 247 2 == i).contains false then s.burogRefuse k 2
  else if 64 < skew then s.burogRefuse k 5
  else if xs.any fun y => pbits y.payload 243 1 == 1 then
    s.burogRefuse k ((xs.find? fun y => pbits y.payload 243 1 == 1).elim 0 fun y => pbits y.payload 240 3)
  else if k = 1 then
    if !s.idValid then s
    else if s.idsSpent then s.burogRefuse k 3
    else if f 246 1 = 1 ∧ far ≠ s.partId + 1 then s.burogRefuse k 4
    else s.burogEnterRun k x.delay
  else if f 246 1 = 0 then s
  else if !s.idValid then (s.setId (far + 1)).burogEnterRun k x.delay
  else if s.partId = far + 1 then s.burogEnterRun k x.delay
  else s.burogRefuse k 4

/-! ### Flits (R285 to R289) -/

/-- Sequence number of the oldest held flit. -/
def BPort.oldest (b : BPort) : Nat := (b.next + 4096 - b.retry.length % 4096) % 4096

/-- The CRC of a flit to the part DEST with sequence number SEQ (R286). -/
def flitCrc (dest seq : Nat) (header : Word) (payload : BitVec 256) : Word :=
  BitVec.ofNat 32 (crcResult crcFlit (crcBytes crcFlit crcFlit.init
    (beNat 2 (dest * 4096 + seq) ++ beBytes header ++ beNat 32 payload.toNat)))

/-- The part at the other end of a port. -/
def State.farId (s : State) (k : Nat) : Nat := if k = 0 then (s.partId + 15) % 16 else s.partId + 1

/-- Receive buffers of the channels (Table 11-2). -/
def vcBuffer (L vc : Nat) : Nat := match vc with | 0 | 2 => 64 | 1 => 512 * L | _ => 128

def BPort.credit (b : BPort) (L vc : Nat) : Bool := b.used.getD vc 0 < vcBuffer L vc + b.returned.getD vc 0

/-- The next new DATA flit a port may send: VC 0 first (R289). -/
def BPort.newData (b : BPort) (L : Nat) : Option (Flit × BPort) :=
  if min (512 * L) 2048 ≤ b.retry.length then none
  else match b.q0, b.credit L 0 with
  | f :: r, true => some (f, { b with q0 := r })
  | _, _ => match b.q1, b.credit L 1 with
  | f :: r, true => some (f, { b with q1 := r })
  | _, _ => match b.q2, b.credit L 2 with
  | f :: r, true => some (f, { b with q2 := r })
  | _, _ => match b.q3, b.credit L 3 with
  | f :: r, true => some (f, { b with q3 := r })
  | _, _ => none

/-- The flit is a TIME message (R294, R333). -/
def Flit.isTime (f : Flit) : Bool := f.vc == 0 && f.som && pbits f.payload 252 4 == 3

/-- A TIME message carries the timebase at its transmission; the sixteenths of a Tc, which no command states, are free (R333, log entry 3). -/
def State.freshPayload (s : State) (f : Flit) : BitVec 256 :=
  if f.isTime then BitVec.ofNat 256 (f.payload.toNat / 2 ^ 192 * 2 ^ 192 + s.tb.toNat * 2 ^ 128 + s.freeNow.toNat % 16 * 2 ^ 124) else f.payload

/-- Held flits before number `ack` are acknowledged (R291). -/
def State.burogAck (s : State) (k ack : Nat) : State :=
  s.modBurog k fun b =>
    let d := (ack + 4096 - b.oldest) % 4096
    if 0 < d ∧ d ≤ b.retry.length then
      { b with retry := b.retry.drop d, again := min b.again (b.retry.length - d), replays := 0, ackAt := s.now }
    else b

/-- A replay of every held flit from number n begins, or the port goes DOWN after RETRY_MAX of them (R291). -/
def State.burogReplay (s : State) (k count : Nat) : State :=
  if max 1 (s.fld BUROG_TMO BUROG_TMO_RETRY_MAX) ≤ (s.burog k).replays then (s.burogGoDown k).burogTrain k
  else
    (s.modBurog k fun b => { b with again := count, replays := b.replays + 1, ackAt := s.now }).bump (BUROG_RETRY_COUNT k)
      BUROG_CNT_FLAGS (2 * k + 1) 1

/-- BUROG_NAK naming number n. -/
def State.burogNak (s : State) (k n : Nat) : State :=
  if s.burogState k ≠ burogRun then s
  else
    let b := s.burog k
    let d := (n + 4096 - b.oldest) % 4096
    if d < b.retry.length then (s.burogAck k n).burogReplay k (b.retry.length - d) else s

/-- TMO fields in 1/16 µs; 0 acts as 1. -/
def tmoTc (n : Nat) : Nat := (max 1 n * 12288 + 99) / 100

/-- BUROG_RETRY_TIMEOUT. -/
def State.burogTimeout (s : State) (k : Nat) : State :=
  let b := s.burog k
  if s.burogState k ≠ burogRun ∨ b.retry.isEmpty then s
  else (s.advance (b.ackAt + tmoTc (s.fld BUROG_TMO BUROG_TMO_RETRY_TMO))).burogReplay k b.retry.length

/-- BUROG_NAK_REPEAT: while in recovery. -/
def State.burogNakRepeat (s : State) (k : Nat) : State :=
  if s.bit (BUROG_PSTAT k) BUROG_PSTAT_RECOVERY then
    let s := s.advance ((s.burog k).nakAt + tmoTc (s.fld BUROG_TMO BUROG_TMO_NAK_TMO))
    s.modBurog k fun b => { b with nak := true, nakAt := s.now }
  else s

/-- Messages of a channel that have a meaning (R294). -/
def msgKnown (vc : Nat) (p : BitVec 256) : Bool :=
  let m := pbits p 252 4
  match vc with
  | 0 => m == 2 || m == 3
  | 1 => m == 1
  | 2 => m == 4 || m == 5
  | _ => m == 6

def BPort.part (b : BPort) (vc : Nat) : List (BitVec 256) := match vc with | 0 => b.part0 | 1 => b.part1 | 2 => b.part2 | _ => b.part3
def BPort.setPart (b : BPort) (vc : Nat) (l : List (BitVec 256)) : BPort :=
  match vc with | 0 => { b with part0 := l } | 1 => { b with part1 := l } | 2 => { b with part2 := l } | _ => { b with part3 := l }

/-- Buffer flits that n flits of a channel's message still take: those of the management channels leave the buffer as they come, for a bulk transfer is longer
than it (DESIGN CHOICE, log entry 30: R289 leaves open when a buffer flit is freed). -/
def kept (vc n : Nat) : Nat := if vc < 2 then n else 0

/-- A DATA flit joins the message being assembled on its channel (R294). -/
def BPort.assemble (b : BPort) (f : Flit) : BPort :=
  let b := if 2 ≤ f.vc then { b with freed := bumpAt b.freed f.vc 1 } else b
  let b := if f.som then ({ b with freed := bumpAt b.freed f.vc (kept f.vc (b.part f.vc).length) }).setPart f.vc [] else b
  if !f.som && (b.part f.vc).isEmpty then { b with freed := bumpAt b.freed f.vc (kept f.vc 1) }
  else
    let l := b.part f.vc ++ [f.payload]
    if f.eom then
      let b := b.setPart f.vc []
      if msgKnown f.vc (l.headD 0) then { b with inbox := b.inbox ++ [(f.vc, l)] }
      else { b with freed := bumpAt b.freed f.vc (kept f.vc l.length) }
    else b.setPart f.vc l

/-- A flit while the port trains: TRAIN flits that pass are counted on their lane, a FILLER is deleted (R288), a failed flit is counted (R290), and anything else
ends the run (R297); what TRAIN flits have told stays. -/
def State.trainTake (s : State) (k lane : Nat) (header : Word) (payload : BitVec 256) (crc : Word) : State :=
  let type := header.toNat / 2 ^ 28
  let passes := decide (type ≤ 3) && crc == flitCrc 15 0 header payload
  if passes && type == 0 then s
  else
    (s.when (!passes) fun s => s.bump (BUROG_CRC_ERR k) BUROG_CNT_FLAGS (2 * k) 1).modBurog k fun b =>
      let x := b.trainLane lane
      { b with train := sset (fun _ => {}) b.train lane (if passes && type == 3 then ⟨x.run + 1, true, payload, s.tb⟩ else { x with run := 0 }) }

/-- A flit at the receiver of a lane. -/
def State.flitTake (s : State) (k lane : Nat) (header : Word) (payload : BitVec 256) (crc : Word) : State :=
  if s.burogState k = burogTraining then s.trainTake k lane header payload crc
  else if s.burogState k ≠ burogRun then s
  else
    let b := s.burog k
    let type := header.toNat / 2 ^ 28
    let good := decide (type ≤ 3) && crc == flitCrc s.partId b.expect header payload
    if !good then
      let s := s.bump (BUROG_CRC_ERR k) BUROG_CNT_FLAGS (2 * k) 1
      if s.bit (BUROG_PSTAT k) BUROG_PSTAT_RECOVERY then s
      else (s.setBit (BUROG_PSTAT k) BUROG_PSTAT_RECOVERY true).modBurog k fun b => { b with nak := true, nakAt := s.now }
    else
      let s := (s.setBit (BUROG_PSTAT k) BUROG_PSTAT_RECOVERY false).burogAck k (header.toNat / 2 ^ 12 % 4096)
      let cvc := header.toNat / 2 ^ 10 % 4
      let s := s.modBurog k fun b =>
        { b with returned := bumpAt b.returned cvc ((header.toNat % 1024 + 1024 - b.returned.getD cvc 0 % 1024) % 1024) }
      if type = 1 then
        s.modBurog k fun b => { b with expect := (b.expect + 1) % 4096 }.assemble
          ⟨header.toNat / 2 ^ 26 % 4, header.getLsbD 25, header.getLsbD 24, payload⟩
      else if type = 2 ∧ pbits payload 252 4 = 1 then s.burogNak k (pbits payload 240 12)
      else s

/-- A flit of a type leaves the port, on the next lane of its stripe (R285); a loop of Test mode keeps it from the pins, or brings it to the
port's own receiver (R246).  DEST of a flit of a port that is not in RUN is 0xF (R286). -/
def State.emitFlit (s : State) (k type : Nat) (f : Flit) (seq : Nat) : State :=
  let b := s.burog k
  let header := BitVec.ofNat 32 (type * 2 ^ 28 + f.vc * 2 ^ 26 + b2n f.som * 2 ^ 25 + b2n f.eom * 2 ^ 24 + b.expect * 2 ^ 12 +
    b.cvc * 2 ^ 10 + b.freed.getD b.cvc 0 % 1024)
  let payload := if type = 1 then s.freshPayload f else f.payload
  let i := b.sent % max 1 (s.burogNum k)
  let l := s.burogFirst k + i
  let crc := flitCrc (if s.burogState k = burogRun then s.farId k else 15) seq header payload
  let u := (s.modBurog k fun b => { b with cvc := (b.cvc + 1) % 4, sent := b.sent + 1 }).when (type == 1 && f.isTime) State.useFree
  (u.when (u.pinsLocal l) fun u => u.emit (.flit k i header payload crc)).when (u.nearEnd l) fun u => u.flitTake k i header payload crc

/-- BUROG_FLIT_SEND: at a flit boundary: TRAIN flits until the port is in RUN, then by precedence (R289, R297); a filler stripe in place of every 1,024th (R288). -/
def State.flitSend (s : State) (k : Nat) : State :=
  if s.burogState k = burogDown then s
  else if s.burogState k ≠ burogRun then
    if ((s.burog k).sent / max 1 (s.burogNum k) + 1) % 1024 = 0 then s.emitFlit k 0 ⟨0, false, false, 0⟩ 0
    else s.emitFlit k 3 ⟨0, false, false, s.trainPayload k ((s.burog k).sent % max 1 (s.burogNum k))⟩ 0
  else
    let b := s.burog k
    let L := s.burogNum k
    let blank : Flit := ⟨0, false, false, 0⟩
    let nextSeq := (b.next + 4096 - b.again % 4096) % 4096
    if (b.sent / max 1 L + 1) % 1024 = 0 then s.emitFlit k 0 blank nextSeq
    else if b.nak then
      (s.modBurog k fun b => { b with nak := false }).emitFlit k 2
        { blank with payload := BitVec.ofNat 256 (1 * 2 ^ 252 + b.expect * 2 ^ 240) } nextSeq
    else if 0 < b.again then
      ((s.emitFlit k 1 (b.retry.getD (b.retry.length - b.again) blank) nextSeq).modBurog k fun b => { b with again := b.again - 1 })
    else match b.newData L with
      | some (f, b') =>
        let s := s.setBurog k { b' with next := (b.next + 1) % 4096, retry := b.retry ++ [f], used := bumpAt b.used f.vc 1,
                                        ackAt := if b.retry.isEmpty then s.now else b.ackAt }
        s.emitFlit k 1 f b.next
      | none => s.emitFlit k 0 blank nextSeq

/-- BUROG_FLIT_RECEIVE: a flit at the RX pins of a lane: a near-end loop ignores it, a far-end loop also sends it back (R246). -/
def State.flitReceive (s : State) (k lane : Nat) (header : Word) (payload : BitVec 256) (crc : Word) : State :=
  let l := s.burogFirst k + lane
  if s.nearEnd l then s
  else (s.when (s.farEnd l) fun s => s.emit (.flit k lane header payload crc)).flitTake k lane header payload crc

/-- The first message of a kind waiting at a port is taken, its buffer flits freed (R289). -/
def State.burogTake (s : State) (k vc msg : Nat) : Option (List (BitVec 256) × State) :=
  match (s.burog k).inbox.find? fun x => x.1 == vc && pbits (x.2.headD 0) 252 4 == msg with
  | none => none
  | some x => some (x.2, s.modBurog k fun b => { b with inbox := b.inbox.erase x, freed := bumpAt b.freed vc (kept vc x.2.length) })

/-- GROUP_MESSAGE, on the UP port (R298). -/
def State.groupMessage (s : State) : State :=
  match s.burogTake 1 0 2 with
  | none => s
  | some (l, s) =>
    let k := pbits (l.headD 0) 250 2 + 1
    if !s.kValid then (s.setK k).sendGroup
    else if s.groupSize = k then s
    else s.raise Ev.BUROG_ID_CONFLICT

end Sys2Proof.Machine
end

