-- ==== Sys2Proof/Machine/Lanes.lean ====
section
/-!
DEFINITION. The serial lanes (R232 to R234, R242 to R250): power states, adaptation, margin, eye scans, loops and patterns.
-/
namespace Sys2Proof.Machine
open Reg F

/-! Codes of Table 9-5. -/
def laneIdle : Nat := 1
def laneSleep : Nat := 2
def laneDisabled : Nat := 3
def laneResuming : Nat := 4
def laneAdapting : Nat := 5

def State.laneState (s : State) (l : Nat) : Nat := s.fld (LANEQ_LSTAT l) LANEQ_LSTAT_STATE

/-- The quad runs its lanes: from Configure on, used, with a rate its use allows, its domain not off (R232 to R234, R250). -/
def State.quadRuns (s : State) (n : Nat) : Bool :=
  let u := s.quadUse n
  u != 0 && (u != 2 || s.fld (LANEQ_QCFG n) LANEQ_QCFG_RATE == 2) && s.fld (PMU_DOM (6 + n)) PMU_DOM_STATE != 0 &&
    s.mode != .standby && s.mode != .boot && s.mode != .recovery

/-- The state a lane is asked to be in (R234, R250). -/
def State.laneTarget (s : State) (l : Nat) : Nat :=
  if !s.quadRuns (l / 4) then laneDisabled
  else if s.domOn (6 + l / 4) then s.fld (LANEQ_LCTRL l) LANEQ_LCTRL_REQ
  else laneSleep

/-- A point in progress on a lane ends, with its RESULT (R244, R245). -/
def State.eyeEnd (s : State) (result : Nat) : State :=
  let s := match s.eye with
    | some e => { (s.modLane e.lane fun x => { x with scanned := true }) with eye := none }
    | none => s
  (((s.setFld LANEQ_EYE_STAT LANEQ_EYE_STAT_RESULT result).setBit LANEQ_EYE_STAT LANEQ_EYE_STAT_DONE true).setBit LANEQ_EYE_STAT
    LANEQ_EYE_STAT_BUSY false).raise Ev.EYESCAN_DONE

/-- A point on a lane is aborted: it leaves ACTIVE, or its loop changes. -/
def State.eyeAbort (s : State) (l : Nat) : State :=
  match s.eye with
  | some e => if e.lane = l then s.eyeEnd 2 else s
  | none => s

/-- The PLL of a quad is on while one of its lanes is neither in LANE_SLEEP nor DISABLED (R248). -/
def State.judgeQuadPll (s : State) (n : Nat) : State :=
  let on := [0, 1, 2, 3].any fun i => let st := s.laneState (4 * n + i); st != laneSleep && st != laneDisabled
  let s := s.setBit (LANEQ_QSTAT n) LANEQ_QSTAT_PLL_ON on
  if on then s else s.setBit (LANEQ_QSTAT n) LANEQ_QSTAT_PLL_LOCK false

/-- A lane enters a state. -/
def State.laneEnter (s : State) (l st : Nat) : State :=
  let s := if st = laneActive then s else s.eyeAbort l
  let off := st == laneSleep || st == laneDisabled
  let s := s.setFld (LANEQ_LSTAT l) LANEQ_LSTAT_STATE st
  let s := if st = laneActive ∨ st = laneIdle then s
    else (s.setBit (LANEQ_LSTAT l) LANEQ_LSTAT_ADAPTED false)
  let s := if off then ((((s.setFld (LANEQ_LSTAT l) LANEQ_LSTAT_FOM 0).setBit (LANEQ_LSTAT l) LANEQ_LSTAT_SIGNAL false).setBit
    (LANEQ_LSTAT l) LANEQ_LSTAT_CDR_LOCK false).setBit (LANEQ_LSTAT l) LANEQ_LSTAT_FOM_STALE false).modLane l fun x =>
      { x with scanned := false, low := 0 } else s
  (s.modLane l fun x => { x with since := s.now }).judgeQuadPll (l / 4)

/-- A lane whose coefficients are given up. -/
def State.laneForget (s : State) (l : Nat) : State :=
  (s.modLane l fun x => { x with coef := false, trained := none }).setBit (LANEQ_LSTAT l) LANEQ_LSTAT_ADAPTED false

/-- A lane starts towards a running state; the time its exit may take counts from here (R248, R249). -/
def State.laneStart (s : State) (l st : Nat) : State := (s.modLane l fun x => { x with asked := s.now }).laneEnter l st

/-- A lane moves towards the state asked of it (R248 to R250).  A lane in ELEC_IDLE becomes ACTIVE only with its quad PLL locked. -/
def State.laneGo (s : State) (l : Nat) : State :=
  let cur := s.laneState l
  let want := s.laneTarget l
  if want = laneDisabled then (if cur = laneDisabled then s else (s.laneForget l).laneEnter l laneDisabled)
  else if want = laneSleep then
    if cur = laneSleep then s
    else (if cur = laneAdapting ∨ cur = laneDisabled then s.laneForget l else s).laneEnter l laneSleep
  else if cur = laneActive ∨ cur = laneIdle then
    if cur = want ∨ (want = laneActive ∧ !s.bit (LANEQ_QSTAT (l / 4)) LANEQ_QSTAT_PLL_LOCK) then s else s.laneEnter l want
  else if cur = laneSleep then
    if (s.lane l).coef ∧ !Config.steppingA1 then s.laneStart l laneResuming else (s.laneForget l).laneStart l laneAdapting
  else if cur = laneDisabled then s.laneStart l laneAdapting
  else s

/-- What follows a change of lanes: port links and the Burog ports. -/
def State.lanesSettle (s : State) : State := s.lanesChanged.burogLanesChanged

/-- Every lane of a quad follows its target: after a change of mode, of a domain or of QCFG. -/
def State.quadGo (s : State) (n : Nat) : State := s.each [0, 1, 2, 3] fun s i => s.laneGo (4 * n + i)
def State.allLanesGo (s : State) : State := (s.each [0, 1, 2, 3] State.quadGo).lanesSettle

/-- A write of QCFG, Configure only. -/
def State.qcfgWrite (s : State) (n : Nat) (w : Word) : State :=
  s.configOnly fun s => (((s.plainWrite (LANEQ_QCFG n) w).quadGo n).judgePorts.judgeBurog).lanesSettle

/-- A running lane becomes what is asked of it: ACTIVE or ELEC_IDLE; without signal or clock recovery it shows ADAPTED = 0 (R242). -/
def State.laneReady (s : State) (l : Nat) (resumed : Bool) : State :=
  let seen := s.bit (LANEQ_LSTAT l) LANEQ_LSTAT_SIGNAL && s.bit (LANEQ_LSTAT l) LANEQ_LSTAT_CDR_LOCK
  let u := (s.modLane l fun x => { x with coef := true, resumed := resumed }).laneEnter l (if s.laneTarget l = laneIdle then laneIdle else laneActive)
  (u.setBit (LANEQ_LSTAT l) LANEQ_LSTAT_ADAPTED seen).lanesSettle

/-- LANE_REQ_WRITE and LANE_FULL_ADAPT: a write of LCTRL (R245 to R249). -/
def State.lctrlWrite (s : State) (l : Nat) (w : Word) : State :=
  let a := LANEQ_LCTRL l
  let loop := s.fld a LANEQ_LCTRL_LOOP
  let pat := s.fld a LANEQ_LCTRL_PAT_RX
  let s := s.plainWrite a w
  let s := s.when (s.fld a LANEQ_LCTRL_LOOP ≠ loop ∧ s.mode = .test) fun s => s.eyeAbort l
  let s := if s.fld a LANEQ_LCTRL_PAT_RX ≠ pat then
    (s.setReg (LANEQ_PRBS_ERR l) 0).setMaskBit LANEQ_CNT_FLAGS LANEQ_CNT_FLAGS_PRBS_OVF l false else s
  let s := if bitF w LANEQ_LCTRL_FULL_ADAPT ∧ s.laneState l ≠ laneDisabled then
      let t := s.laneForget l
      if s.laneTarget l = laneActive ∨ s.laneTarget l = laneIdle then
        t.laneStart l laneAdapting
      else t.laneGo l
    else s.laneGo l
  s.lanesSettle

/-- LANE_FOM_LOW after an epoch with figure of merit v (R243). -/
def State.judgeFom (s : State) (l v : Nat) : State :=
  let a := LANEQ_LSTAT l
  let floor := s.fld LANEQ_ADAPT_CFG LANEQ_ADAPT_CFG_FOM_MIN
  let n := if v < floor then (s.lane l).low + 1 else 0
  let u := s.modLane l fun x => { x with low := n }
  if floor + 4 ≤ v then u.setBit a LANEQ_LSTAT_FOM_LOW false
  else if max 1 (s.fld LANEQ_ADAPT_CFG LANEQ_ADAPT_CFG_FOM_CNT) ≤ n ∧ !s.bit a LANEQ_LSTAT_FOM_LOW then
    (u.setBit a LANEQ_LSTAT_FOM_LOW true).raise Ev.LANE_FOM_LOW
  else u

/-- LANE_EPOCH: a 1 ms epoch of a lane ends with a figure of merit; `errors`: symbol errors of its pattern checker (R242, R243, R247).
The epoch in which a scan of the lane ended is no full one (R245). -/
def State.laneEpoch (s : State) (l : Nat) (fom : BitVec 8) (signal cdr : Bool) (errors : Nat) : State :=
  let st := s.laneState l
  let a := LANEQ_LSTAT l
  if st = laneSleep ∨ st = laneDisabled then s
  else
    let s := s.when (errors ≠ 0 ∧ st = laneActive ∧ s.patternOf l LANEQ_LCTRL_PAT_RX ≠ 0) fun s => s.bump (LANEQ_PRBS_ERR l) LANEQ_CNT_FLAGS l errors
    let seen := signal && cdr
    let s := ((s.setBit a LANEQ_LSTAT_SIGNAL signal).setBit a LANEQ_LSTAT_CDR_LOCK cdr)
    let s := s.when (st = laneActive ∨ st = laneIdle) fun s => s.setBit a LANEQ_LSTAT_ADAPTED (seen && (s.lane l).coef)
    let s := s.when (!seen) fun s => s.setFld a LANEQ_LSTAT_FOM 0
    if s.eye.any fun e => e.lane == l then s
    else if (s.lane l).scanned then s.modLane l fun x => { x with scanned := false }
    else
      let v := if seen then fom.toNat else 0
      let s := ((s.setFld a LANEQ_LSTAT_FOM v).setBit a LANEQ_LSTAT_FOM_STALE false).judgeFom l v
      if st = laneResuming ∧ s.fld LANEQ_ADAPT_CFG LANEQ_ADAPT_CFG_FOM_MIN ≤ v ∧ s.bit (LANEQ_QSTAT (l / 4)) LANEQ_QSTAT_PLL_LOCK ∧ seen then
        s.laneReady l true
      else s

/-- LANE_RESUME_TIMEOUT: 2 ms after the request (R249). -/
def State.laneResumeTimeout (s : State) (l : Nat) : State :=
  if s.laneState l = laneResuming then
    (((s.advance ((s.lane l).asked + usTc 2000)).laneForget l).laneEnter l laneAdapting).raise Ev.LANE_ADAPT_FALLBACK
  else s

/-- LANE_ADAPT_DONE: full adaptation completes. -/
def State.laneAdaptDone (s : State) (l : Nat) : State :=
  if s.laneState l = laneAdapting ∧ s.bit (LANEQ_QSTAT (l / 4)) LANEQ_QSTAT_PLL_LOCK then s.laneReady l false else s

/-- LANEQ_PLL_LOCK_CHANGE (R250). -/
def State.quadPllLock (s : State) (n : Nat) (locked : Bool) : State :=
  if !s.bit (LANEQ_QSTAT n) LANEQ_QSTAT_PLL_ON then s
  else
    let s := s.setBit (LANEQ_QSTAT n) LANEQ_QSTAT_PLL_LOCK locked
    (s.each [0, 1, 2, 3] fun s i =>
      let l := 4 * n + i
      if !locked then s.when (s.laneState l = laneActive) fun s => s.modLane l fun x => { x with lost := true }
      else
        let back := (s.lane l).lost && s.laneIs l laneActive
        let u := s.modLane l fun x => { x with lost := false }
        if back then u.laneStart l laneResuming else u.laneGo l).lanesSettle

/-- Symbol rate of a lane rate in units of 10 kBd (Table 9-1). -/
def symbolRate (rate : Nat) : Nat := match rate with | 0 => 2578125 | 1 => 2656250 | _ => 5312500

/-- EYE_SCAN_GO: a write of EYE_CTRL (R244, R245). -/
def State.eyeGo (s : State) (w : Word) : State :=
  if s.bit LANEQ_EYE_STAT LANEQ_EYE_STAT_BUSY then s.accessError
  else
    let s := s.plainWrite LANEQ_EYE_CTRL w
    if !bitF w LANEQ_EYE_CTRL_GO then s
    else
      let s := (s.setReg LANEQ_EYE_ERR 0).setBit LANEQ_CNT_FLAGS LANEQ_CNT_FLAGS_EYE_OVF false
      let l := getF w LANEQ_EYE_CTRL_LANE
      if s.laneState l ≠ laneActive ∨ !s.bit (LANEQ_LSTAT l) LANEQ_LSTAT_CDR_LOCK ∨
          (s.mode = .test ∧ s.fld (LANEQ_LCTRL l) LANEQ_LCTRL_LOOP = 2) then s.eyeEnd 1
      else
        let symbols := 2 ^ clampN 16 36 (getF w LANEQ_EYE_CTRL_DWELL_LOG2)
        let rate := symbolRate (s.fld (LANEQ_QCFG (l / 4)) LANEQ_QCFG_RATE)
        let stop := s.now + (symbols * 196608 + rate - 1) / rate + usTc 2
        { ((s.setBit LANEQ_EYE_STAT LANEQ_EYE_STAT_BUSY true).setBit (LANEQ_LSTAT l) LANEQ_LSTAT_FOM_STALE true) with eye := some ⟨l, stop⟩ }

/-- EYE_SCAN_DONE: the point completes with so many differing decisions. -/
def State.eyeDone (s : State) (errors : Nat) : State :=
  match s.eye with
  | none => s
  | some e => ((s.advance e.stop).bump LANEQ_EYE_ERR LANEQ_CNT_FLAGS 16 errors).eyeEnd 0

/-- Test mode begins or ends: loops and patterns close or open with it, and a point whose loop changes is aborted (R245 to R247). -/
def State.loopsChange (s : State) : State :=
  (match s.eye with
    | some e => if s.fld (LANEQ_LCTRL e.lane) LANEQ_LCTRL_LOOP = 0 then s else s.eyeEnd 2
    | none => s).lanesSettle

/-- A lane whose coefficients a warm start may retain: ADAPTED as the start began, its domain not OFF (Table 18-2). -/
def State.laneRetains (s : State) (l : Nat) : Bool :=
  s.bit (LANEQ_LSTAT l) LANEQ_LSTAT_ADAPTED && (s.lane l).coef && s.fld (PMU_DOM (6 + l / 4)) PMU_DOM_STATE != 0

/-- Boot and Recovery hold every lane DISABLED, but in LANE_SLEEP one whose coefficients a warm start retains (R234, R420). -/
def State.lanesDown (s : State) (keep : Bool) : State :=
  (s.each (List.range 16) fun s l =>
    let r := keep && s.laneRetains l
    let u := s.modLane l fun x => { x with kept := r }
    if r then u.laneEnter l laneSleep
    else if s.laneIs l laneDisabled then u
    else (u.laneForget l).laneEnter l laneDisabled).lanesSettle

/-! ### What a lane's transmitter does -/

/-- What the TX pins of a lane carry (Tables 9-4 and 9-5); local data and patterns with their polarity, inverted or not (R237). -/
inductive LanePins where
  | idle | localData (inverted : Bool) | pattern (n : Nat) (inverted : Bool) | echo
  deriving DecidableEq, Repr

/-- What the receive path of a lane sees (Table 9-4): its RX pins with their polarity (R237), its own serialiser, or its own data at the PCS interface. -/
inductive LaneSource where
  | rxPins (inverted : Bool) | ownSerialiser | ownData
  deriving DecidableEq, Repr

/-- The TX pins: electrical idle but in ACTIVE; a pattern replaces local data, a far-end loop sends back what is received. -/
def State.txPins (s : State) (l : Nat) : LanePins :=
  let inverted := s.bit (LANEQ_LCTRL l) LANEQ_LCTRL_TX_INV
  if !s.laneIs l laneActive then .idle
  else if s.farEnd l then .echo
  else if !s.pinsLocal l then .idle
  else if s.patternOf l LANEQ_LCTRL_PAT_TX = 0 then .localData inverted
  else .pattern (s.patternOf l LANEQ_LCTRL_PAT_TX) inverted

/-- The source of the receive path; the frames and flits of the commands are what comes of it, so polarity shows nowhere else. -/
def State.rxSource (s : State) (l : Nat) : LaneSource :=
  if s.laneLoop l = 1 then .ownSerialiser else if s.laneLoop l = 2 then .ownData else .rxPins (s.bit (LANEQ_LCTRL l) LANEQ_LCTRL_RX_INV)

/-- Coefficients of TXEQ in 1/64 of full swing, scaled down in proportion where they exceed it (Table 9-12). -/
def State.txeqTaps (s : State) (l : Nat) : Rat × Rat × Rat :=
  let pre := signed 8 (s.fld (LANEQ_TXEQ l) LANEQ_TXEQ_PRE)
  let post := signed 8 (s.fld (LANEQ_TXEQ l) LANEQ_TXEQ_POST)
  let main := s.fld (LANEQ_TXEQ l) LANEQ_TXEQ_MAIN
  let total := max 64 (pre.natAbs + main + post.natAbs)
  ((pre : Rat) * 64 / total, (main : Rat) * 64 / total, (post : Rat) * 64 / total)

/-- Coefficients a lane's transmitter uses: what training settled, where its port trains; else those of TXEQ (R237). -/
def State.txTaps (s : State) (l : Nat) : Rat × Rat × Rat :=
  match (s.lane l).trained with
  | some n =>
    if (List.range 8).any fun p => s.portUsable p && (s.portLanes p).contains l && s.bit (MAC_PCFG p) MAC_PCFG_TRAIN then
      let c := Config.trainedTaps n
      ((c.1 : Rat), (c.2.1 : Rat), (c.2.2 : Rat))
    else s.txeqTaps l
  | none => s.txeqTaps l

end Sys2Proof.Machine
end

