-- ==== Sys2Proof/Machine/Uplink.lean ====
section
/-!
DEFINITION. The uplink from the combiner on (R135, R157 to R161, R272 to R280): sums, partial sums in a cascade group, frames, the
journal, resends, and DL_STATUS.
-/
namespace Sys2Proof.Machine
open Reg F

/-! ### Naming symbols (R74, R258, R318) -/

/-- SFN, subframe, slot and symbol of a symbol counted from timebase 0. -/
def State.symName (s : State) (ul : Bool) (c n : Nat) : Nat × Nat × Nat × Nat :=
  let k := s.secCfg ul c
  let tick := k.symStart n
  let inSub := n / k.perHalf % 2 * k.perHalf + n % k.perHalf
  ((tick / frameTc + s.fld TIME_SFN_OFS TIME_SFN_OFS_OFS) % 1024, tick % frameTc / subframeTc, inSub / k.perSlot, inSub % k.perSlot)

/-- The frame an SFN names at a timebase value: the occurrence that begins nearest, the later of two equally near (R258). -/
def State.frameNamed (s : State) (sfn tb : Nat) : Nat :=
  let cur := tb / frameTc
  let back := (cur + s.fld TIME_SFN_OFS TIME_SFN_OFS_OFS + 1024 - sfn % 1024) % 1024
  if cur < back then cur + 1024 - back
  else
    let f := cur - back
    if tb - f * frameTc < (f + 1024) * frameTc - tb then f else f + 1024

/-- The symbol that time fields name in a direction's numerology. -/
def State.symNamed (s : State) (ul : Bool) (c sfn subframe slot sym tb : Nat) : Nat :=
  let k := s.secCfg ul c
  (s.frameNamed sfn tb * 10 + subframe) * (2 * k.perHalf) + slot * k.perSlot + sym

/-! ### Bit packing, most significant bit first -/

/-- Fields (width, value) packed into a number. -/
def packBits (l : List (Nat × Nat)) : Nat := l.foldl (fun a x => a * 2 ^ x.1 + x.2 % 2 ^ x.1) 0
def bitLen (l : List (Nat × Nat)) : Nat := (l.map (·.1)).sum

/-- Bits off .. off + n - 1, counted from the first of a number of `total` bits. -/
def takeBits (v total off n : Nat) : Nat := (v >>> (total - off - n)) % 2 ^ n

/-! ### Sums (R135, R157) -/

/-- The exact sums of a committed uplink section-symbol over the part's paths: I and Q of each subcarrier in turn. -/
def State.ownSum (s : State) (x : SecSym) : List Int :=
  ((List.range (12 * x.used.nrb)).map fun j =>
    let k := 12 * x.used.startRb + j
    let acc := (List.range 64).foldl (fun (a : Int × Int) p =>
      match s.secWeight x p k, s.pathWord (ulWordKey x.key.sym x.key.car p k) with
      | some w, some d => (a.1 + mulI w d, a.2 + mulQ w d)
      | _, _ => a) (0, 0)
    [acc.1, acc.2]).flatten

/-- A path has a non-zero weight in some group of the section. -/
def State.pathWeighs (s : State) (x : SecSym) (p : Nat) : Bool :=
  (List.range x.used.nrb).any fun r => match s.secWeight x p (12 * (x.used.startRb + r)) with | some w => w != 0 | none => false

/-- A path of an uplink symbol carries a mark: its samples' (R124), or nothing came from it because its RXQ domain is not ON (R406). -/
def State.pathMarked (s : State) (n c p : Nat) : Bool :=
  match s.pathMark (ulSymKey n c p) with
  | some m => m
  | none => !s.domOn (38 + p / 4)

/-- The mark of an uplink section-symbol (R157). -/
def State.ulMarked (s : State) (x : SecSym) : Bool :=
  !x.reasons.isEmpty || x.zeroed || x.expired || (match x.upstream with | some (m, _) => m | none => false) ||
    (List.range 64).any fun p => s.pathMarked x.key.sym x.key.car p && s.pathWeighs x p

/-! ### Block floating point (R159, R261) -/

/-- A value fits in w bits, signed. -/
def fits (w : Nat) (v : Int) : Bool := decide (-(2 ^ (w - 1) : Int) ≤ v) && decide (v < (2 ^ (w - 1) : Int))

/-- The smallest exponent up to `top` with which every component fits in w bits, else `top`. -/
def blockExp (w top : Nat) (vs : List Int) : Nat :=
  ((List.range top).find? fun e => vs.all fun v => fits w (roundDiv v (2 ^ e))).getD top

/-- Chunks of n elements. -/
def chunks {α : Type} (n : Nat) (l : List α) : Nat → List (List α)
  | 0 => []
  | k + 1 => l.take n :: chunks n (l.drop n) k

/-- The fields of a partial-sum record (R159), from its components. -/
def psumFields (w : Nat) (mark : Bool) (nrb : Nat) (vs : List Int) : List (Nat × Nat) :=
  ((chunks 24 vs nrb).map fun rb =>
    let e := blockExp w 31 rb
    (8, e + b2n mark * 32) :: rb.map fun v => (w, unsigned w (roundDiv v (2 ^ e)))).flatten

/-- The components a record expands to, and its mark. -/
def psumExpand (w nrb v total off : Nat) : Bool × List Int :=
  let step := 8 + 24 * w
  let h := fun r => takeBits v total (off + r * step) 8
  ((List.range nrb).any fun r => h r / 32 % 2 == 1,
   ((List.range nrb).map fun r => (List.range 24).map fun j =>
      signed w (takeBits v total (off + r * step + 8 + j * w) w) * 2 ^ (h r % 32)).flatten)

/-- The payloads of a message: a 64-bit header, then contents from bit [191] on, padded with zeros (R294). -/
def messagePayloads (header : Nat) (content : List (Nat × Nat)) : List (BitVec 256) :=
  let n := bitLen content
  let m := (n - 192 + 255) / 256
  let total := 256 * (m + 1)
  let v := header * 2 ^ (total - 64) + packBits content * 2 ^ (total - 64 - n)
  (List.range (m + 1)).map fun i => BitVec.ofNat 256 (v >>> (256 * (m - i)))

def payloadsNat (l : List (BitVec 256)) : Nat := l.foldl (fun a p => a * 2 ^ 256 + p.toNat) 0

/-- Mantissa width of partial sums (CTRL.PSUM_W). -/
def State.psumW (s : State) : Nat := if s.bit SLALOM_CTRL SLALOM_CTRL_PSUM_W then 12 else 16

/-- The header of a section-symbol's partial sum (Table 11-3). -/
def State.psumHeader (s : State) (x : SecSym) : Nat :=
  let (sfn, sub, slot, sym) := s.symName true x.key.car x.key.sym
  packBits [(4, 1), (2, x.key.car), (12, x.key.id), (4, x.used.version), (10, sfn), (4, sub), (4, slot), (4, sym), (9, x.used.nrb),
    (1, b2n (s.bit SLALOM_CTRL SLALOM_CTRL_PSUM_W)), (10, 0)]

/-! ### Waiting for the upstream record (R158, R161, R295) -/

/-- PSUM_WAIT_EXPIRY: the wait of the section-symbol that has waited longest ends, WAIT Tc after its own sum, or at once while the UP port is not in RUN (R293). -/
def State.psumWaitExpiry (s : State) : State :=
  if !s.hasUpstream then s
  else match s.secs.filter fun x => x.awaits && x.replay == .none with
    | [] => s
    | x :: l =>
      let y := l.foldl (fun b z => if s.sumAt z < s.sumAt b then z else b) x
      (s.advanceTb (s.sumAt y + if s.burogState 1 = burogRun then s.fld SLALOM_CASC_CFG SLALOM_CASC_CFG_WAIT else 0)).expirePsum y.key

/-- PSUM_MESSAGE: a record from the UP port is used if every header field matches a section-symbol that waits for it. -/
def State.psumMessage (s : State) : State :=
  match s.burogTake 1 1 1 with
  | none => s
  | some (l, s) =>
    let v := payloadsNat l
    let total := 256 * l.length
    let header := takeBits v total 0 64
    let mine := if s.hasUpstream then s.secs.find? fun x => x.awaits && s.psumHeader x == header else none
    match mine with
    | none => s.bump BUROG_PSUM_DISCARD BUROG_CNT_FLAGS 4 1
    | some x => s.modSec x.key fun y => { y with upstream := some (psumExpand s.psumW y.used.nrb v total 64) }

/-! ### The journal (R275, R276, R308, R312) -/

/-- n bytes of a number, least significant first. -/
def leNat (n v : Nat) : List Byte := (beNat n v).reverse
/-- The number that bytes make, least significant first. -/
def natLe (bs : List Byte) : Nat := natOf bs.reverse

def State.jrnBase (s : State) : Nat := s.fld MAC_FH_JRN_CFG MAC_FH_JRN_CFG_BASE * 2 ^ 21
def jrnRing : Nat := 2 ^ 29

/-- Address of the index entry of SFSEQ q of a flow. -/
def State.jrnEntry (s : State) (flow q : Nat) : Nat := s.jrnBase + jrnRing + 4 * (65536 * flow + q)

/-- A record's header up to its check value, and the check value (Table 10-8, R308). -/
def jrnHeader (number tb pcId sfseq len port : Nat) : List Byte :=
  leNat 8 number ++ leNat 8 tb ++ leNat 2 pcId ++ leNat 2 sfseq ++ leNat 2 len ++ leNat 1 port ++ List.replicate 37 0
def jrnCheck (header frame : List Byte) : Word := checkValue (BitVec.ofNat 32 (natLe (header.take 4))) (header ++ frame)

/-- Records that a write of bytes a to b - 1 of the ring leaves untouched. -/
def keepRecs (l : List JrnRec) (a b : Nat) : List JrnRec := l.filter fun r => r.offset + r.size ≤ a || b ≤ r.offset

/-- A record that cannot be written in time (R276). -/
def State.jrnDrop (s : State) : State := (s.fhCount MAC_FH_JRN_DROP 1).raise Ev.FH_JRN_DROP

/-- A frame's record is written with its index entry through RT0, or dropped (R276). -/
def State.jrnWrite (s : State) (port flow pcId count : Nat) (frame : List Byte) : State :=
  if !s.bit MAC_FH_JRN_STAT MAC_FH_JRN_STAT_ACTIVE then
    -- while a channel is verified or swept, records are dropped (Table 15-4)
    if s.bit MAC_FH_JRN_CFG MAC_FH_JRN_CFG_EN && [0, 1].any fun c => s.dramUses c && s.chanState c == dramSweeping then s.jrnDrop else s
  else
    let size := 64 + (frame.length + 63) / 64 * 64
    let wrap := jrnRing < s.jrnHead + size
    let head := if wrap then 0 else s.jrnHead
    let header := jrnHeader s.jrnNext s.tb.toNat pcId (count % 65536) frame.length port
    let bytes := header ++ bytesOf (jrnCheck header frame) ++ frame ++ List.replicate (size - 64 - frame.length) 0
    let entry := head / 64 % 2 ^ 23 + count / 65536 % 512 * 2 ^ 23
    let req := fun (a : Nat) (bs : List Byte) => s.writeReqs a bs true
    let fill := wrap && decide (s.jrnHead < jrnRing)
    let reqs := (if fill then req (s.jrnBase + s.jrnHead) (List.replicate 64 0) else []) ++ req (s.jrnBase + head) bytes
      ++ req (s.jrnEntry flow (count % 65536)) (leNat 4 entry)
    if !s.portFits 0 reqs then s.jrnDrop
    else
      let kept := if fill then keepRecs s.jrnRecs s.jrnHead (s.jrnHead + 64) else s.jrnRecs
      let recs := keepRecs kept head (head + size) ++ [⟨s.jrnNext, head, size⟩]
      { s.portPushAll 0 reqs with
        jrnRecs := recs, jrnNext := (s.jrnNext + 1) % 2 ^ 40, jrnHead := head + size,
        jrnOldest := match recs with | r :: _ => r.number | [] => s.jrnOldest }

/-! ### Uplink frames (R257, R260, R261, R272, R273) -/

def widthOf (code : Nat) : Nat := match code % 4 with | 0 => 8 | 1 => 9 | 2 => 12 | _ => 14

/-- PC_ID and RTC_ID (Table 10-2). -/
def State.flowId (s : State) (part c layer : Nat) : Nat :=
  part * 2 ^ 14 + c * 2 ^ 12 + layer * 2 ^ 7 + s.fld MAC_FH_CFG MAC_FH_CFG_RU_TAG

/-- A resource-block record: exponent and 24 mantissas (R260, R261). -/
def rbRecord (w : Nat) (vs : List Int) : List Byte :=
  let e := blockExp w (16 - w) vs
  let lim : Int := 2 ^ (w - 1)
  beNat 1 e ++ beNat (3 * w) (packBits (vs.map fun v => (w, unsigned w (clampI (-lim) (lim - 1) (roundDiv v (2 ^ e))))))

/-- A data section (Table 10-4), padded to a multiple of 4 bytes. -/
def dataSection (id version : Nat) (q : Bool) (wcode startRb : Nat) (rbs : List (List Int)) : List Byte :=
  let w := widthOf wcode
  let body := (rbs.map (rbRecord w)).flatten
  beNat 4 (id * 2 ^ 20 + version * 2 ^ 16 + b2n q * 2 ^ 15 + wcode * 2 ^ 13) ++ beNat 4 (startRb * 2 ^ 23 + rbs.length * 2 ^ 14) ++ body ++
    List.replicate ((4 - body.length % 4) % 4) 0

/-- Bytes of a frame around the sections: Ethernet header, eCPRI header, identifiers, section-format header, check value, FCS. -/
def State.frameCost (s : State) (p : Nat) : Nat := (if s.bit (MAC_VLAN p) MAC_VLAN_FH_TAG then 18 else 14) + 4 + 4 + 8 + 4 + 4

/-- A section-symbol as data sections, split where it alone would pass the frame's room (R272). -/
def splitSection (room : Nat) (x : SecSym) (q : Bool) (rbs : List (List Int)) : List (List Byte) :=
  let rec1 := 1 + 3 * widthOf x.used.wcode
  let most := max 1 ((room - 8) / 4 * 4 / rec1)
  let n := (rbs.length + most - 1) / most
  (chunks most rbs n).mapIdx fun i c => dataSection x.key.id x.used.version q x.used.wcode (x.used.startRb + i * most) c

/-- Sections packed into frames in order: a new one where the next section would pass the room. -/
def packFrames (room : Nat) (l : List (List Byte)) : List (List Byte) :=
  l.foldl (fun fs sec => match fs.getLast? with
    | some f => if f.length + sec.length ≤ room then fs.dropLast ++ [f ++ sec] else fs ++ [sec]
    | none => [sec]) []

/-- The section-format header (Table 10-3). -/
def fhHeader (sfseq : Nat) (t : Nat × Nat × Nat × Nat) : List Byte :=
  beNat 4 (2 ^ 28 + sfseq) ++ beNat 4 (t.1 * 2 ^ 22 + t.2.1 * 2 ^ 18 + t.2.2.1 * 2 ^ 14 + t.2.2.2 * 2 ^ 10)

/-- The payload of a type 0 or type 2 message: identifier, SEQ_ID, header, body and check value (R257, R271). -/
def fhPayload (id sfseq : Nat) (t : Nat × Nat × Nat × Nat) (body : List Byte) : List Byte :=
  let covered := fhHeader sfseq t ++ body
  beNat 2 id ++ beNat 1 (sfseq % 256) ++ beNat 1 0x80 ++ covered ++ beBytes (checkValue (BitVec.ofNat 32 (id * 65536 + sfseq)) covered)

def State.carPort (s : State) (c : Nat) : Nat := s.fld (MAC_FH_CAR_CFG c) MAC_FH_CAR_CFG_PORT

/-- One type 0 frame of a flow: journalled, then handed to its port (R272, R276). -/
def State.sendData (s : State) (c layer : Nat) (t : Nat × Nat × Nat × Nat) (body : List Byte) : State :=
  let flow := 32 * c + layer
  let count := s.sfseq flow
  let id := s.flowId 0 c layer
  let p := s.carPort c
  let pcp := s.fld (MAC_PRIO p) MAC_PRIO_PCP_UL
  let bytes := padFrame (s.ethHeader p (s.peerAddr p) (s.bit (MAC_VLAN p) MAC_VLAN_FH_TAG) pcp 0xAEFE ++
    ecpri 0 (fhPayload id (count % 65536) t body))
  ((s.jrnWrite p flow id count bytes).setSfseq flow (count % 2 ^ 25 + 1)).sendFrame p pcp bytes

/-- Section-symbols in ascending section ID. -/
def insertSec (x : SecSym) : List SecSym → List SecSym
  | [] => [x]
  | y :: l => if x.key.id ≤ y.key.id then x :: y :: l else y :: insertSec x l
def byId (l : List SecSym) : List SecSym := l.foldr insertSec []

/-- Path data of an uplink symbol is released once nothing of it is left to combine. -/
def State.releasePaths (s : State) (c n : Nat) : State :=
  if s.secs.any fun x => x.key.ul && x.key.car == c && x.key.sym == n && x.stage == .committed then s
  else { s with pathData := s.pathData.filter fun x => x.1 / (64 * 4096) != n * 4 + c,
                pathMarks := s.pathMarks.filter fun x => x.1 / 64 != n * 4 + c }

/-- The sums of a section-symbol with its upstream record, before output scaling; zeros where a replay missed its deadline (R155). -/
def State.fullSum (s : State) (x : SecSym) : List Int :=
  if x.zeroed then s.ownSum x |>.map fun _ => 0 else match x.upstream with
  | some (_, up) => List.zipWith (· + ·) up (s.ownSum x)
  | none => s.ownSum x

/-- Output of a section-symbol on part 0: the resource blocks scaled and saturated, and the components that saturated. -/
def State.ulOutput (s : State) (x : SecSym) : List (List Int) × Nat :=
  let sh := (2 : Int) ^ (15 + min 8 (s.fld SLALOM_CTRL SLALOM_CTRL_UL_SHIFT))
  let raw := (s.fullSum x).map fun v => roundDiv v sh
  (chunks 24 (raw.map sat16) x.used.nrb, (raw.map sats).sum)

/-! ### Partial sums sent to the part below (R158, R296) -/

/-- The fields of a section-symbol's record that have been formed and may have gone out, and the flits posted. -/
def State.sendingOf (s : State) (x : SecSym) : List (Nat × Nat) × Nat :=
  match (s.burog 0).sending with
  | some o => if o.key = x.key then (o.fields, o.flits) else ([], 0)
  | none => ([], 0)

/-- Another record is on its way out: each message is sent whole before the next of its channel begins (R289). -/
def State.sendingOther (s : State) (x : SecSym) : Bool :=
  match (s.burog 0).sending with
  | some o => o.key != x.key && s.secs.any fun y => y.key == o.key && y.stage == .committed
  | none => false

/-- The record of a section-symbol goes on with the fields formed by now: the flits that they fill, or with the whole record all that are left. -/
def State.sendRecord (s : State) (x : SecSym) (fields : List (Nat × Nat)) (whole : Bool) : State :=
  let ps := messagePayloads (s.psumHeader x) fields
  let n := if whole then ps.length else (64 + bitLen fields) / 256
  let fs := ps.mapIdx fun i p => (⟨1, i == 0, whole && i + 1 == ps.length, p⟩ : Flit)
  (s.burogQueue 0 1 ((fs.take n).drop (s.sendingOf x).2)).modBurog 0 fun b => { b with sending := if whole then none else some ⟨x.key, fields, n⟩ }

/-- The fields of m resource blocks of a record: those formed before stay as they went out. -/
def State.recordFields (s : State) (x : SecSym) (m : Nat) : List (Nat × Nat) :=
  let old := (s.sendingOf x).1
  old ++ psumFields s.psumW (s.ulMarked x) (m - old.length / 25) (((s.fullSum x).take (24 * m)).drop (24 * (old.length / 25)))

/-- The resource blocks of the upstream record that is arriving: none where the message that is being assembled is another's. -/
def State.arriving (s : State) (x : SecSym) : Nat × (Bool × List Int) :=
  let l := (s.burog 1).part1
  let v := payloadsNat l
  let total := 256 * l.length
  if !l.isEmpty && takeBits v total 0 64 == s.psumHeader x then
    let m := min x.used.nrb ((total - 64) / (8 + 24 * s.psumW))
    (m, psumExpand s.psumW m v total 64)
  else (0, (false, []))

/-- A section-symbol's record goes out as it is formed: a complete one whole, and it is dispatched; else as far as the upstream record and the part's own sum are
there (R296). -/
def State.forwardSum (s : State) (x : SecSym) : State :=
  if x.replay != .none || s.sendingOther x then s
  else if s.hasUpstream && x.awaits then
    let (m, up) := s.arriving x
    if m = 0 then s else s.sendRecord x (s.recordFields { x with upstream := some up } m) false
  else (s.sendRecord x (s.recordFields x x.used.nrb) true).modSec x.key fun x => { x with stage := .dispatched }

/-- UL_HANDOVER of a flow, `after` Tc past Tu_end(s) + 10,240: its earliest committed symbol (R138, R158, R272, R299). -/
def State.ulHandover (s : State) (c layer after : Nat) : State :=
  let flow := fun (s : State) => s.secs.filter fun x => x.key.ul && x.stage == .committed && x.key.car == c && x.used.layer == layer
  match flow s with
  | [] => s
  | x :: l =>
    let n := l.foldl (fun m y => min m y.key.sym) x.key.sym
    let mine := fun (s : State) => byId ((flow s).filter fun x => x.key.sym == n)
    let t := s.ulEnd c n + 10240 + after
    let s := s.advanceTb t
    let s := if s.ulEnd c n + 20480 ≤ s.tb.toNat then (mine s).foldl State.settleReplay s else s
    let s := if s.hasUpstream && s.burogState 1 != burogRun then ((mine s).filter SecSym.awaits).foldl (fun s x => s.expirePsum x.key) s else s
    if s.kValid ∧ s.partId ≠ 0 then (((mine s).foldl State.forwardSum s).releasePaths c n).reclaim
    else if (mine s).any fun x => x.replay != Replay.none || (s.hasUpstream && x.awaits) then s
    else
      let done := fun (s : State) => ((((mine s).foldl (fun s x => s.modSec x.key fun x => { x with stage := .dispatched }) s).releasePaths c n).reclaim)
      if s.idValid ∧ s.partId ≠ 0 then done s
      else
        let outs := (mine s).map fun x => (x, s.ulMarked x, s.ulOutput x)
        let s := s.bump SLALOM_UL_SAT_COUNT SLALOM_CNT_FLAGS 12 ((outs.map fun o => o.2.2.2).sum)
        let room := s.maxFrame (s.carPort c) - s.frameCost (s.carPort c)
        let frames := packFrames room ((outs.map fun o => splitSection room o.1 o.2.1 o.2.2.1).flatten)
        let s := if s.idValid then frames.foldl (fun s b => s.sendData c layer (s.symName true c n) b) s else s
        done s

/-! ### Control messages the device sends (R274, R279) -/

/-- A type 2 message on a carrier's port. -/
def State.sendControl (s : State) (c : Nat) (t : Nat × Nat × Nat × Nat) (words : List Nat) : State :=
  let flow := 128 + c
  let seq := s.sfseq flow % 65536
  let p := s.carPort c
  ((s.setSfseq flow ((s.sfseq flow + 1) % 2 ^ 25)).sendEcpri p (s.fld (MAC_PRIO p) MAC_PRIO_PCP_RT) 2 (s.peerAddr p)
    (fhPayload (s.flowId s.partId c 0) seq t ((words.map (beNat 4)).flatten)))

/-- A GONE; its time fields are free values (log entry 33). -/
def State.sendGone (s : State) (pcId first count reason : Nat) : State :=
  let f := s.freeNow
  let t := ((f.setWidth 10).toNat, ((f >>> 10).setWidth 4).toNat, ((f >>> 14).setWidth 4).toNat, ((f >>> 18).setWidth 4).toNat)
  ((s.useFree.sendControl (pcId / 4096 % 4) t [0x11 * 2 ^ 24 + 3, pcId * 65536 + first, count * 65536 + reason]).fhCount MAC_FH_GONE 1).raise
    Ev.FH_GONE

/-- DL_STATUS_SEND: at the next A(s - 1) of a downlink carrier, one entry for each marked section-symbol of symbol s. -/
def State.dlStatusSend (s : State) (c : Nat) : State :=
  if !s.slalomOn || (s.fhTile false c).isNone then s
  else
    let k := s.secCfg false c
    let b := k.nextBoundary s.tb.toNat
    let n := k.symAt b + 1
    let s := s.advanceTb b
    let s := (s.secs.filter fun x => !x.key.ul && x.key.car == c && x.key.sym == n && x.stage == .committed).foldl State.settleReplay s
    let marked := (byId (s.secs.filter fun x => !x.key.ul && x.key.car == c && x.key.sym == n &&
      (x.stage == .committed || x.stage == .dispatched))).filterMap fun x =>
        let why := x.reasons ++ (if x.stage == .committed then [5] else [])
        match why with
        | [] => none
        | r :: l => some (x.key.id * 2 ^ 20 + x.used.version * 2 ^ 16 + l.foldl min r * 2 ^ 12)
    if !s.bit MAC_FH_CFG MAC_FH_CFG_DLST_EN || marked.isEmpty then s
    else
      let p := s.carPort c
      let most := max 1 ((s.maxFrame p - s.frameCost p) / 4 - 1)
      (chunks most marked ((marked.length + most - 1) / most)).foldl (fun s es =>
        s.sendControl c (s.symName false c n) ((0x12 * 2 ^ 24 + 1 + es.length) :: es)) s

/-! ### Resends (R277 to R279, R313) -/

/-- Bytes of the journal read through its real-time port: the writes it holds go first (R313); beyond the fitted size the read is not performed (R362). -/
def State.jrnLoad (s : State) (a n : Nat) : State × List Byte :=
  if s.dramWithin a n then
    let u := s.portAccess 0 (s.readReqs a n)
    (u, u.dramLoad a n)
  else (s.dramError, List.replicate n 0)

/-- An uplink flow of this part: the index of a PC_ID's flow. -/
def State.ulFlow (s : State) (pcId : Nat) : Option Nat :=
  let c := pcId / 4096 % 4
  if s.idValid && s.partId == 0 && pcId / 2 ^ 14 == 0 && pcId % 128 == s.fld MAC_FH_CFG MAC_FH_CFG_RU_TAG && (s.fhTile true c).isSome then
    some (32 * c + pcId / 128 % 32) else none

/-- RESEND_CMD (R277, R279). -/
def State.resendCmd (s : State) (pcId first count : Nat) : State :=
  if count = 0 ∨ 1024 < count then s.fhCount MAC_FH_CMD_REJECT 1
  else if (s.ulFlow pcId).isNone then s.sendGone pcId first count 5
  else if 8 ≤ s.resends.length then s.sendGone pcId first count 6
  else { s with resends := s.resends ++ [{ pcId := BitVec.ofNat 16 pcId, first := BitVec.ofNat 16 first, count := count }] }

/-- What becomes of one number of a request: a frame with its port, or a reason; a record whose check fails is found on the way. -/
def State.resendOne (s : State) (flow pcId q : Nat) : State × (Nat ⊕ (Nat × List Byte)) :=
  let sent := s.sfseq flow
  let b := (sent + 2 ^ 25 - 1 + 65536 - q) % 65536
  let frame := (sent + 2 ^ 25 - 1 + 2 ^ 25 - b) % 2 ^ 25
  if !s.bit MAC_FH_JRN_STAT MAC_FH_JRN_STAT_ACTIVE then (s, .inl 3)
  else if sent = 0 ∨ 32768 ≤ b then (s, .inl 2)
  else
    let (s, entry) := s.jrnLoad (s.jrnEntry flow q) 4
    let e := natLe entry
    if e / 2 ^ 23 ≠ frame / 65536 % 512 then (s, .inl 4)
    else
      let a := s.jrnBase + e % 2 ^ 23 * 64
      let (s, header) := s.jrnLoad a 64
      let r := natLe (slice header 0 8) % 2 ^ 40
      let len := natLe (slice header 0x14 2)
      if 2 ^ 39 ≤ (r + 2 ^ 40 - s.jrnOldest) % 2 ^ 40 then (s, .inl 1)
      else if len = 0 ∨ natLe (slice header 0x10 2) ≠ pcId ∨ natLe (slice header 0x12 2) ≠ q then (s, .inl 1)
      else
        let (s, data) := s.jrnLoad (a + 64) len
        let covered := header.take 60
        let want := jrnCheck covered data
        let got := wordOf (slice header 60 4)
        let prefix_ := BitVec.ofNat 32 r
        let s := s.cuShow 8 prefix_ (covered ++ data)
        if want = got then (s, .inr (natLe (slice header 0x16 1) % 8, data))
        else (s.cuMismatch 8 want got prefix_, .inl 4)

/-- The GONE of the run being collected, if any. -/
def State.flushGone (s : State) (pcId : Nat) (run : Option (Nat × Nat × Nat)) : State :=
  match run with
  | some (reason, first, count) => s.sendGone pcId first count reason
  | none => s

/-- The request being served moves on: its numbers up to the next frame that goes again, with a GONE for each run that cannot. -/
def State.resendRun (s : State) (r : Resend) : Nat → State × Resend
  | 0 => (s, r)
  | fuel + 1 =>
    if r.count ≤ r.done then (s, r)
    else
      let pcId := r.pcId.toNat
      let q := (r.first.toNat + r.done) % 65536
      let on := { r with done := r.done + 1 }
      match s.resendOne (32 * (pcId / 4096 % 4) + pcId / 128 % 32) pcId q with
      | (s, .inl reason) => match r.run with
        | some (w, first, n) =>
          if w = reason then s.resendRun { on with run := some (w, first, n + 1) } fuel
          else (s.flushGone pcId r.run).resendRun { on with run := some (reason, q, 1) } fuel
        | none => s.resendRun { on with run := some (reason, q, 1) } fuel
      | (s, .inr (p, bytes)) =>
        (((s.flushGone pcId r.run).fhCount MAC_FH_RESEND_FRAMES 1).sendFrame p (s.fld (MAC_PRIO p) MAC_PRIO_PCP_UL) bytes, { on with run := none })

/-- RESEND_SERVE: the oldest request is served up to its next frame, so that what comes between the commands (DRAM that becomes unavailable, Table 15-4; a record
overwritten) acts on the rest of it; with its last number the request ends. -/
def State.resendServe (s : State) : State :=
  match s.resends with
  | [] => s
  | r :: rest =>
    let (u, r) := s.resendRun r r.count
    if r.done < r.count then { u with resends := r :: rest }
    else { u.flushGone r.pcId.toNat r.run with resends := rest }

end Sys2Proof.Machine
end

