-- ==== Sys2Proof/Machine/Fronthaul.lean ====
section
/-!
DEFINITION. Fronthaul messages received (R252 to R271, R281): the checks of Table 10-1, SEQ_ID windows, layer data, control commands, and
one-way delay measurement.
-/
namespace Sys2Proof.Machine
open Reg F

/-- The oldest message of a type waiting, taken. -/
def State.takeFh (s : State) (p : EcpriMsg → Bool) : Option (EcpriMsg × State) :=
  match s.fhMsgs.find? p with
  | some m => some (m, { s with fhMsgs := s.fhMsgs.erase m })
  | none => none

def EcpriMsg.type (m : EcpriMsg) : Nat := num m.bytes 1 1
/-- Payload of an eCPRI message by its payload size. -/
def EcpriMsg.payload (m : EcpriMsg) : List Byte := slice m.bytes 4 (num m.bytes 2 2)

def State.fhMalformed (s : State) : State := (s.fhCount MAC_FH_MALFORMED 1).raise Ev.FH_RX_ERROR

/-- Row 5 of Table 10-1; bytes past the payload are padding only in a frame of the shortest length (log entry 35). -/
def State.sizeOk (s : State) (m : EcpriMsg) : Bool :=
  let size := num m.bytes 2 2
  let room := m.bytes.length - 4
  let shortest := 60 - if s.bit (MAC_VLAN m.port) MAC_VLAN_FH_TAG then 18 else 14
  (size == room || (size < room && m.bytes.length == shortest)) && size % 4 == 0 && decide (16 ≤ size)

/-- Row 7: a received identifier names a flow of this part (R255, R299). -/
def State.fhFlowOk (s : State) (id : Nat) (ctrl : Bool) : Bool :=
  let c := id / 4096 % 4
  s.idValid && id / 2 ^ 14 == s.partId && id % 128 == s.fld MAC_FH_CFG MAC_FH_CFG_RU_TAG &&
    (if ctrl then id / 128 % 32 == 0 && ((s.fhTile false c).isSome || (s.fhTile true c).isSome) else (s.fhTile false c).isSome)

/-- Row 9: the SEQ_ID window of a flow (R256); none for a duplicate. -/
def State.seqAccept (s : State) (flow q : Nat) : Option State :=
  match s.flow flow with
  | none => some (s.setFlow flow (some ⟨BitVec.ofNat 8 q, 1, 1⟩))
  | some f =>
    let d := (q + 256 - f.h.toNat) % 256
    if d = 0 ∨ d = 128 then none
    else if d < 128 then
      let lost := ((List.range 128).filter fun i => decide (128 ≤ i + d) && f.entered.getLsbD i && !f.accepted.getLsbD i).length
      let s := if lost = 0 then s else s.fhCount MAC_FH_LOST lost
      some (s.setFlow flow (some ⟨BitVec.ofNat 8 q, f.accepted <<< d ||| 1, f.entered <<< d ||| BitVec.ofNat 128 (2 ^ d - 1)⟩))
    else
      let k := 256 - d
      if f.accepted.getLsbD k then none
      else some (s.setFlow flow (some { f with accepted := f.accepted ||| BitVec.ofNat 128 (2 ^ k) }))

/-- Rows 3 and 5 to 9 for a message of type 0 or 2: the payload and the state that has accepted it, or the state that discarded it. -/
def State.fhAccept (s : State) (m : EcpriMsg) : State ⊕ (State × List Byte) :=
  let b := m.payload
  let ctrl := m.type == 2
  let id := num b 0 2
  if !s.fhModeOk then .inl (s.fhCount MAC_FH_MODE_DISCARD 1)
  else if !s.sizeOk m then .inl s.fhMalformed
  else if num b 3 1 ≠ 0x80 then .inl s.fhMalformed
  else if !s.fhFlowOk id ctrl then .inl ((s.fhCount MAC_FH_FLOW_UNKNOWN 1).raise Ev.FH_RX_ERROR)
  else
    let prefix_ := BitVec.ofNat 32 (id * 65536 + num b 6 2)
    let covered := slice b 4 (b.length - 8)
    let want := checkValue prefix_ covered
    let got := BitVec.ofNat 32 (natOf (b.drop (b.length - 4)))
    let s := s.cuShow m.port prefix_ covered
    if want ≠ got then .inl (s.cuMismatch m.port want got prefix_)
    else match s.seqAccept (if ctrl then 128 + id / 4096 % 4 else 32 * (id / 4096 % 4) + id / 128 % 32) (num b 2 1) with
      | none => .inl (s.fhCount MAC_FH_DUP 1)
      | some s => .inr (s, b)

/-- Time fields of a header: SFN, SUBFRAME, SLOT, SYMBOL. -/
def timeFields (b : List Byte) : Nat × Nat × Nat × Nat :=
  let w := num b 8 4
  (w / 2 ^ 22, w / 2 ^ 18 % 16, w / 2 ^ 14 % 16, w / 2 ^ 10 % 16)

def Carcfg.slotOk (k : Carcfg) (slot : Nat) : Bool := decide (slot < 2 ^ k.mu)

/-- Units of 64 bytes the symbol store holds, and those in use (R264, 48 MiB). -/
def storeUnits : Nat := 48 * 2 ^ 20 / 64
def State.unitsHeld (s : State) : Nat := ((s.held.filter fun h => s.tb.toNat < h.until_).map (·.units)).sum

/-- What is held until a timebase value; what is past is let go. -/
def State.hold (s : State) (units until_ : Nat) : State :=
  { s with symWrites := s.symWrites + 1, held := (s.held.filter fun h => s.tb.toNat < h.until_) ++ [⟨units, until_⟩] }

/-! ### Layer data (R259, R260, R262, R263) -/

/-- A data section of a received message: first resource block, count, mantissa width, its bytes after the header. -/
structure DataSec where
  start : Nat
  nrb : Nat
  width : Nat
  bytes : List Byte
  deriving DecidableEq, Repr

/-- The data sections that fill a body exactly; none where they do not, or one breaks R259. -/
def dataSections (carNrb : Nat) : Nat → List Byte → Option (List DataSec)
  | 0, b => if b.isEmpty then some [] else none
  | f + 1, b =>
    if b.isEmpty then some []
    else
      let h := num b 4 4
      let start := h / 2 ^ 23
      let nrb := h / 2 ^ 14 % 2 ^ 9
      let w := widthOf (num b 0 4 / 2 ^ 13 % 4)
      let len := (8 + nrb * (1 + 3 * w) + 3) / 4 * 4
      if b.length < 8 ∨ nrb = 0 ∨ carNrb < start + nrb ∨ b.length < len then none
      else match dataSections carNrb f (b.drop len) with
        | some l => some (⟨start, nrb, w, slice b 8 (nrb * (1 + 3 * w))⟩ :: l)
        | none => none

/-- The words of resource block r of a section, decompressed (R260). -/
def DataSec.words (d : DataSec) (r : Nat) : List Word :=
  let rb := slice d.bytes (r * (1 + 3 * d.width)) (1 + 3 * d.width)
  let e := num rb 0 1 % 16
  let v := natOf (rb.drop 1)
  let m := fun j => sat16 (signed d.width (takeBits v (24 * d.width) (j * d.width) d.width) * 2 ^ e)
  (List.range 12).map fun k => iqWord (m (2 * k)) (m (2 * k + 1))

/-- A section's data replaces what the store holds (R262). -/
def State.storeLayer (s : State) (c layer n : Nat) (d : DataSec) : State :=
  (List.range d.nrb).foldl (fun s r =>
    ((d.words r).zipIdx).foldl (fun s x => s.setLayerWord (layerKey n c layer (12 * (d.start + r) + x.2)) (some x.1)) s) s

/-- FH_DATA_MESSAGE: the oldest type 0 message waiting. -/
def State.fhData (s : State) : State :=
  match s.takeFh fun m => m.type == 0 with
  | none => s
  | some (m, s) => match s.fhAccept m with
    | .inl s => s
    | .inr (s, b) =>
      let id := num b 0 2
      let c := id / 4096 % 4
      let layer := id / 128 % 32
      let k := s.secCfg false c
      let (sfn, sub, slot, sym) := timeFields b
      let secs := dataSections k.nrb b.length (slice b 12 (b.length - 16))
      let fine := num b 4 1 / 16 == 1 && decide (sub ≤ 9) && k.slotOk slot && decide (sym < k.perSlot)
      match fine, secs with
      | true, some (d :: ds) =>
        let n := s.symNamed false c sfn sub slot sym s.tb.toNat
        let t := s.tb.toNat
        if t + usTc (s.fld MAC_FH_WIN MAC_FH_WIN_DL_EARLY) < s.airAt false c n then s.fhCount MAC_FH_DL_EARLY 1
        else if s.horizonAt false c n ≤ t then (s.fhCount MAC_FH_DL_LATE 1).raise Ev.FH_DL_LATE
        else
          let units := ((d :: ds).map fun d => (8 + d.bytes.length + 63) / 64).sum
          if storeUnits < s.unitsHeld + units then (s.fhCount MAC_FH_STORE_FULL 1).raise Ev.FH_STORE_FULL
          else (d :: ds).foldl (fun s d => s.storeLayer c layer n d) (s.hold units (s.airAt false c n))
      | _, _ => s.fhMalformed

/-! ### Control messages (R265 to R270) -/

/-- The 32-bit words of a body, and the commands that fill it exactly. -/
def wordsOf (b : List Byte) : List Word := (List.range (b.length / 4)).map fun i => BitVec.ofNat 32 (num b (4 * i) 4)

def commands : Nat → List Word → Option (List (List Word))
  | 0, l => if l.isEmpty then some [] else none
  | f + 1, l => match l with
    | [] => some []
    | w :: _ =>
      let len := w.toNat % 65536
      if len = 0 ∨ l.length < len then none
      else match commands f (l.drop len) with
        | some r => some (l.take len :: r)
        | none => none

def cmdOf (ws : List Word) : Nat := (ws.headD 0).toNat / 2 ^ 24

/-- Commands the baseband may send (Table 10-5). -/
def cmdListed (ws : List Word) : Bool := [0x01, 0x02, 0x03, 0x04, 0x10].contains (cmdOf ws)

def word (ws : List Word) (i : Nat) : Nat := (ws.getD i 0).toNat

/-- Direction, first symbol and count of a SECTION or CANCEL. -/
def cmdSpan (ws : List Word) : Option (Bool × Nat × Nat) :=
  if cmdOf ws = 1 then some (word ws 1 / 2 ^ 31 == 1, word ws 2 / 2 ^ 28, word ws 2 / 2 ^ 24 % 16)
  else if cmdOf ws = 2 then some (word ws 1 / 2 ^ 31 == 1, word ws 1 / 2 ^ 8 % 16, word ws 1 / 2 ^ 4 % 16)
  else none

/-- FH_CONTROL_MESSAGE: the oldest type 2 message waiting; its listed commands then act in order at its acceptance instant. -/
def State.fhControl (s : State) : State :=
  match s.takeFh fun m => m.type == 2 with
  | none => s
  | some (m, s) => match s.fhAccept m with
    | .inl s => s
    | .inr (s, b) =>
      let c := num b 0 2 / 4096 % 4
      let (sfn, sub, slot, _) := timeFields b
      let slotFine := [false, true].any fun ul => (s.fhTile ul c).isSome && (s.secCfg ul c).slotOk slot
      let fine := num b 4 1 / 16 == 1 && decide (sub ≤ 9) && slotFine
      let ws := wordsOf (slice b 12 (b.length - 16))
      match fine, commands ws.length ws with
      | true, some cs =>
        let t := s.tb.toNat
        let units := (b.length + 63) / 64
        let last := cs.foldl (fun m ws => match cmdSpan ws with
          | some (ul, start, count) => max m (s.airAt ul c (s.symNamed ul c sfn sub slot (start + count - 1) t))
          | none => m) 0
        if storeUnits < s.unitsHeld + units then (s.fhCount MAC_FH_STORE_FULL 1).raise Ev.FH_STORE_FULL
        else
          let s := if last = 0 then s else s.hold units last
          let skipped := (cs.filter fun x => !cmdListed x).length
          let s := if skipped = 0 then s else s.fhCount MAC_FH_CMD_REJECT skipped
          { s with ctrlCmds := s.ctrlCmds ++ (cs.filter cmdListed).mapIdx fun i x => ⟨c, sfn, sub, slot, t, i == 0, x⟩ }
      | _, _ => s.fhMalformed

/-- The command in front, if it has a code, taken; the first of a message begins its record of what it described and rejected. -/
def State.takeCmd (s : State) (code : Nat) : Option (CtrlCmd × State) :=
  match s.ctrlCmds with
  | x :: l =>
    if cmdOf x.words = code then
      let s := { s with ctrlCmds := l }
      some (x, if x.first then { s with ctrlLate := false, ctrlRejected := [], ctrlMine := [] } else s)
    else none
  | [] => none

def State.cmdReject (s : State) : State := s.fhCount MAC_FH_CMD_REJECT 1

/-- The checks of R267 a SECTION and a CANCEL share; the first symbol they name. -/
def State.spanOk (s : State) (x : CtrlCmd) (ul : Bool) (start count : Nat) : Option Nat :=
  let k := s.secCfg ul x.car
  let n := s.symNamed ul x.car x.sfn x.subframe x.slot start x.accepted
  if (s.fhTile ul x.car).isNone || (ul && k.timeDomain) || !k.slotOk x.slot || count == 0 || decide (k.perSlot < start + count) ||
      decide (x.accepted + usTc (s.fld MAC_FH_WIN MAC_FH_WIN_CTRL_EARLY) < s.airAt ul x.car n) then none
  else some n

/-- The description a SECTION command carries (Table 10-6). -/
def sectionDesc (ws : List Word) : Desc :=
  let a := word ws 1
  let b := word ws 2
  let d := word ws 3
  { layer := a / 2 ^ 7 % 32, mode := a / 2 ^ 5 % 4, gran := a / 2 ^ 2 % 8, wcode := a % 4, startRb := b / 2 ^ 15 % 2 ^ 9, nrb := b / 2 ^ 6 % 2 ^ 9,
    beamA := d / 2 ^ 16 % 2 ^ 15, beamB := d % 2 ^ 15, version := a / 2 ^ 12 % 16, vectors := ws.drop 4 }

/-- SECTION_CMD (R266, R267). -/
def State.sectionCmd (s : State) : State :=
  match s.takeCmd 1 with
  | none => s
  | some (x, s) =>
    let d := sectionDesc x.words
    let ul := word x.words 1 / 2 ^ 31 == 1
    let start := word x.words 2 / 2 ^ 28
    let count := word x.words 2 / 2 ^ 24 % 16
    let id := word x.words 1 / 2 ^ 16 % 2 ^ 12
    let lenOk := x.words.length == if d.mode = modeVector then 4 + 64 * d.groups else 4
    match s.spanOk x ul start count with
    | some n =>
      if d.nrb = 0 ∨ (s.secCfg ul x.car).nrb < d.startRb + d.nrb ∨ 4 < d.gran ∨ !lenOk then s.cmdReject
      else s.describeRun x.accepted ul x.car id n count d false
    | none => s.cmdReject

/-- CANCEL_CMD (R268). -/
def State.cancelCmd (s : State) : State :=
  match s.takeCmd 2 with
  | none => s
  | some (x, s) =>
    let w := word x.words 1
    let ul := w / 2 ^ 31 == 1
    if x.words.length ≠ 2 then s.cmdReject
    else match s.spanOk x ul (w / 2 ^ 8 % 16) (w / 2 ^ 4 % 16) with
      | some n => s.describeRun x.accepted ul x.car (w / 2 ^ 16 % 2 ^ 12) n (w / 2 ^ 4 % 16) { version := w / 2 ^ 12 % 16 } true
      | none => s.cmdReject

/-- BEAM_DEF_CMD and BEAM_DEL_CMD (R269). -/
def State.beamDefCmd (s : State) : State :=
  match s.takeCmd 3 with
  | none => s
  | some (x, s) => if x.words.length = 66 then s.beamDef x.accepted (word x.words 1 % 2 ^ 15) (x.words.drop 2) else s.cmdReject
def State.beamDelCmd (s : State) : State :=
  match s.takeCmd 4 with
  | none => s
  | some (x, s) => if x.words.length = 2 then s.beamDel x.accepted (word x.words 1 % 2 ^ 15) else s.cmdReject

/-- RESEND_CMD. -/
def State.resendCommand (s : State) : State :=
  match s.takeCmd 0x10 with
  | none => s
  | some (x, s) =>
    if x.words.length = 3 then s.resendCmd (word x.words 1 / 65536) (word x.words 1 % 65536) (word x.words 2 / 65536) else s.cmdReject

/-! ### Commands that wait, where something else must see them done (R144, R149) -/

/-- The command in front acts, whichever it is. -/
def State.ctrlNext (s : State) : State :=
  match s.ctrlCmds with
  | [] => s
  | x :: l => match cmdOf x.words with
    | 1 => s.sectionCmd
    | 2 => s.cancelCmd
    | 3 => s.beamDefCmd
    | 4 => s.beamDelCmd
    | 0x10 => s.resendCommand
    | _ => { s with ctrlCmds := l }

/-- Every command of a message accepted by a timebase value acts. -/
def State.ctrlDue (s : State) (upto : Nat) : State :=
  s.each s.ctrlCmds fun s _ => match s.ctrlCmds with
    | x :: _ => if x.accepted ≤ upto then s.ctrlNext else s
    | [] => s

/-- The next horizon of a direction and carrier whose section-symbols are not yet judged. -/
def State.nextHorizon (s : State) (ul : Bool) (c : Nat) : Nat :=
  match s.secs.filter fun x => x.stage.pending && x.key.ul == ul && x.key.car == c with
  | [] => s.tb.toNat
  | x :: l => s.horizonAt ul c (l.foldl (fun m y => min m y.key.sym) x.key.sym)

/-- COMMIT_HORIZON: every change accepted at or before it has acted (R149). -/
def State.commitDue (s : State) (ul : Bool) (c : Nat) : State :=
  let h := s.nextHorizon ul c
  ((s.ctrlDue h).beamsetsDue h).commitHorizon ul c

/-- BEAM_CMD_DONE: in one tick a control message acts before the host's command (R144). -/
def State.hostBeamDone (s : State) (after : Nat) : State :=
  match s.beamCmd with
  | none => s
  | some (_, _, t) => let u := s.advance (t + min 1024 after); (u.ctrlDue u.tb.toNat).beamCmdDone after

/-! ### One-way delay measurement (R281; layout: log entry 24) -/

/-- Measurement ID and action of a type 5 message. -/
def EcpriMsg.measure (m : EcpriMsg) : Nat := num m.bytes 4 1
def EcpriMsg.action (m : EcpriMsg) : Nat := num m.bytes 5 1

/-- A type 5 message to the peer of a port. -/
def State.sendDelay (s : State) (p id action : Nat) (stamp : List Byte) (comp : Word) (how : Stamp) : State :=
  s.sendEcpri p (s.fld (MAC_PRIO p) MAC_PRIO_PCP_DLY) 5 (s.peerAddr p)
    (beNat 1 id ++ beNat 1 action ++ stamp ++ beNat 4 0 ++ beNat 4 comp.toNat) how

/-- ECPRI_DELAY_REQUEST: answered with a Response that carries the ingress timestamp. -/
def State.delayRequest (s : State) : State :=
  match s.takeFh fun m => m.type == 5 && (m.action == 0 || m.action == 1) with
  | none => s
  | some (m, s) => s.sendDelay m.port m.measure 2 (stampBytes (s.ingressTime m.port m.at_)) (s.reg MAC_FH_DLY_COMP) .none

/-- ECPRI_DELAY_REMOTE_REQUEST: a Request, or a Request with Follow_Up and its Follow_Up. -/
def State.delayRemote (s : State) : State :=
  match s.takeFh fun m => m.type == 5 && (m.action == 3 || m.action == 4) with
  | none => s
  | some (m, s) =>
    if m.action = 3 then s.sendDelay m.port m.measure 0 (List.replicate 10 0) (s.reg MAC_FH_DLY_COMP) .delayFollow
    else s.sendDelay m.port m.measure 1 (List.replicate 10 0) 0 .delayFollow

/-- ECPRI_DELAY_RESPONSE: passed to Rilyn. -/
def State.delayResponse (s : State) : State :=
  match s.takeFh fun m => m.type == 5 && m.action == 2 with
  | none => s
  | some (m, s) => s.modDlyRes (256 * m.port + m.measure) fun r =>
      { r with t2 := (num m.bytes 6 6, num m.bytes 12 4), comp := num m.bytes 16 8, present := true }

/-- ECPRI_DELAY_FOLLOW_UP: discarded. -/
def State.delayFollowUp (s : State) : State :=
  match s.takeFh fun m => m.type == 5 && m.action == 5 with
  | none => s
  | some (_, s) => s

/-- Flow state and sequence numbers start anew on an entry to Configure (R256, R257, R313). -/
def State.fhConfigure (s : State) : State :=
  { s with flows := [], sfseqs := [], jrnOldest := s.jrnNext, jrnRecs := [] }

/-! ### Errors in the beam engine and in the stores it works from (R155, R314, R359) -/

/-- The on-die store that holds a description, layer data or a beam entry (Table 15-1); the work on a section-symbol is pipeline or combiner state as well
as pages. -/
def storeOfHit : SoftErr → Option Nat
  | .description _ | .layerData _ _ _ _ => some 0
  | .entry _ => some 2
  | .work _ => none

/-- The consequence of a soft error; a superseding change accepted by now acts first (Table 5-5). -/
def State.engineStruck (s : State) (hit : SoftErr) : State := ((s.ctrlDue s.tb.toNat).beamsetsDue s.tb.toNat).softError hit

/-- The consequence of an uncorrectable word of a store, by what it held: that of R314 in the symbol store, that of R155 in the weight store, none in
the capture SRAM. -/
def State.storeStruck (s : State) (store : Nat) (held : Option SoftErr) : State :=
  match held with
  | some hit => if (storeOfHit hit).getD 2 = store then s.engineStruck hit else s
  | none => s

/-- A soft error in the beam engine; one in stored inputs or a beam entry is an uncorrectable error of that store too, its word a free value (log
entry 118). -/
def State.engineError (s : State) (hit : SoftErr) : State :=
  match storeOfHit hit with
  | some store => (s.engineStruck hit).useFree.storeError store true (s.engineStruck hit).freeNow.toNat
  | none => s.engineStruck hit

end Sys2Proof.Machine
end

