-- ==== Sys2Proof/Machine/Mailbox.lean ====
section
/-!
DEFINITION. Rilyn's commands: the mailbox, the M-plane queue, the order in which they are taken, and their responses (R432 to R437).
-/
namespace Sys2Proof.Machine
open Reg F

/-! ### Records for the log (R440) -/

/-- A record of a KIND other than 1 waits for the log. -/
def State.logKind (s : State) (kind : Nat) : State := s.pushLog ⟨kind, 0, 0, s.tb, s.fld TIME_STATUS TIME_STATUS_QUAL⟩

/-! ### Responses (Table 19-2) -/

/-- Word 0 of a response. -/
def RilynCmd.head (c : RilynCmd) (status : Nat) : Word := BitVec.ofNat 32 (c.op * 2 ^ 24 + c.tag * 2 ^ 16 + status * 2 ^ 8)

/-- The words of a response: the head, the number of data bytes, the data. -/
def RilynCmd.words (c : RilynCmd) (status : Nat) (data : List Word) : List Word :=
  c.head status :: BitVec.ofNat 32 (4 * data.length) :: data

def wordBytes (ws : List Word) : List Byte := ws.flatMap beBytes

/-- The first bytes of the buffer. -/
def State.bufBytes (s : State) (n : Nat) : List Byte := ((List.range ((n + 3) / 4)).flatMap fun i => bytesLe (s.bufWord i)).take n
where bytesLe (w : Word) : List Byte := [w.setWidth 8, (w >>> 8).setWidth 8, (w >>> 16).setWidth 8, (w >>> 24).setWidth 8]

/-- Bytes written into the buffer from address 0 (R435). -/
def State.bufLoad (s : State) (bs : List Byte) : State :=
  s.each (List.range ((bs.length + 3) / 4)) fun s i => s.setBufWord i (BitVec.ofNat 32 (natLe (slice bs (4 * i) 4)))

/-- The response to an M-plane frame goes to its source address on its port (R435). -/
def State.sendMplane (s : State) (port : Nat) (src : List Byte) (part seq : Nat) (body : List Byte) : State :=
  let pcp := s.fld (MAC_PRIO port) MAC_PRIO_PCP_MGMT
  s.sendFrame port pcp (s.ethHeader port src false pcp (s.fld RILYN_MPLANE_CFG RILYN_MPLANE_CFG_ETYPE)
    ++ beNat 4 (part * 2 ^ 30 + seq) ++ body)

/-- Header of a relayed message (log entry 41): MSG, the part it goes to and the part it comes from, whether a trailer follows, the
MAC port of its frame, SEQ, the number of its content bytes. -/
def relayHeader (msg dest origin : Nat) (more : Bool) (port seq len : Nat) : Nat :=
  packBits [(4, msg), (2, dest), (2, origin), (1, b2n more), (3, port), (20, 0), (16, seq), (16, len)]

/-- The port on the way to a part: DN for a lower ID, UP for a higher one (R436). -/
def State.wayTo (s : State) (part : Nat) : Nat := if part < s.partId then 0 else 1

/-- A management message on VC 2, and its trailer on VC 3, on the way to a part (R436). -/
def State.relay (s : State) (msg dest origin port seq : Nat) (body trailer : List Byte) : State :=
  let content := fun (bs : List Byte) => bs.map fun b => (8, b.toNat)
  let s' := s.burogPost (s.wayTo dest) 2 (messagePayloads (relayHeader msg dest origin (trailer != []) port seq body.length) (content body))
  if trailer = [] then s'
  else s'.burogPost (s.wayTo dest) 3 (messagePayloads (relayHeader 6 dest origin false port seq trailer.length) (content trailer))

/-- The response goes out; `bulk` bytes of the buffer go with it over the M-plane, up to 8,192 (R432, R435, R436). -/
def State.respond (s : State) (c : RilynCmd) (status : Nat) (data : List Word := []) (bulk : Nat := 0) : State :=
  let ws := c.words status data
  let extra := s.bufBytes (min 8192 bulk)
  let done := fun (s : State) (src : List Byte) (seq : Nat) =>
    { s with mpDone := ⟨src, seq, wordBytes ws ++ extra, extra.length⟩ :: s.mpDone.filter (fun (d : MpDone) => d.src != src) }
  match c.origin with
  | .mailbox =>
    ((s.each (List.range ws.length) fun s i => s.setReg (RILYN_MBX_RSP i) (ws.getD i 0)).setBit RILYN_MBX_STAT RILYN_MBX_STAT_BUSY false
      |>.setBit RILYN_MBX_STAT RILYN_MBX_STAT_DONE true).raise Ev.RILYN_MBX_DONE
  | .frame port src part seq => done (s.sendMplane port src part seq (wordBytes ws ++ extra)) src seq
  | .relayed _ src port part seq => done (s.relay 5 part s.partId port seq (src ++ wordBytes ws) extra) src seq

/-! ### Which command is next (R437) -/

/-- The command that Rilyn takes next: the two queues in turn while both hold commands, beginning with the one that waited longer. -/
def State.rilynNext (s : State) : Option (RilynCmd × State) :=
  let mbx := fun (c : RilynCmd) (b : Option Bool) => some (c, { s with mbxCmd := none, tookMbx := b })
  let mp := fun (c : RilynCmd) (rest : List RilynCmd) (b : Option Bool) => some (c, { s with rilynQ := rest, tookMbx := b })
  match s.mbxCmd, s.rilynQ with
  | none, [] => none
  | some c, [] => mbx c none
  | none, c :: rest => mp c rest none
  | some m, c :: rest =>
    match s.tookMbx with
    | some true => mp c rest (some false)
    | some false => mbx m (some true)
    | none => if m.at_ ≤ c.at_ then mbx m (some true) else mp c rest (some false)

/-- The OPs of Table 19-4, and those marked FULL. -/
def rilynOps : List Nat := [0x01, 0x02, 0x03, 0x10, 0x11, 0x20, 0x21, 0x22, 0x23, 0x24, 0x30, 0x31, 0x40, 0x50, 0x51, 0x52, 0x60]
def fullOps : List Nat := [0x02, 0x03, 0x10, 0x20, 0x21, 0x22, 0x23, 0x24, 0x51]

/-- The modes of a command (Table 19-4). -/
def opModes (op : Nat) : List Mode :=
  let up : List Mode := [.configure, .calibrate, .onAir, .quiet, .test]
  if op = 0x01 then [.standby, .boot, .recovery] ++ up
  else if [0x03, 0x30, 0x31].contains op then .recovery :: up
  else if [0x20, 0x21, 0x22, 0x23].contains op then [.configure, .recovery]
  else if [0x10, 0x24].contains op then [.configure]
  else up

/-- Number of parameter words of a command. -/
def opParams (op : Nat) : Nat :=
  if [0x02, 0x03, 0x10, 0x20, 0x40].contains op then 1
  else if [0x21, 0x31, 0x50, 0x52].contains op then 2
  else if [0x51, 0x60].contains op then 3
  else 0

/-- The STATUS with which a command is turned away before it runs: unknown (1, but 3 in Boot), refused over the M-plane (7), in this mode or during a
thermal shutdown (3), wrong LEN (2); none where it runs (Table 19-3, R434, R435, R458). -/
def State.turnedAway (s : State) (c : RilynCmd) : Option Nat :=
  if s.thermShut then some 3
  else if !rilynOps.contains c.op then some (if s.mode = .boot then 3 else 1)
  else if c.origin ≠ .mailbox ∧ (c.op = 0x60 ∨ (fullOps.contains c.op ∧ !s.bit RILYN_MPLANE_CFG RILYN_MPLANE_CFG_FULL)) then some 7
  else if !(opModes c.op).contains s.mode then some 3
  else if c.len ≠ 4 * opParams c.op then some 2
  else none

/-- The stored response to a frame whose source address and SEQ are those of the last frame executed from that source (R436). -/
def State.repeated (s : State) (c : RilynCmd) : Option MpDone :=
  match c.origin with
  | .mailbox => none
  | .frame _ src _ seq => s.mpDone.find? fun (d : MpDone) => d.src == src && d.seq == seq
  | .relayed _ src _ _ seq => s.mpDone.find? fun (d : MpDone) => d.src == src && d.seq == seq

/-- A stored response goes out again. -/
def State.answerAgain (s : State) (c : RilynCmd) (d : MpDone) : State :=
  match c.origin with
  | .mailbox => s
  | .frame port src part seq => s.sendMplane port src part seq d.reply
  | .relayed _ src port part seq =>
    s.relay 5 part s.partId port seq (src ++ d.reply.take (d.reply.length - d.bulk)) (d.reply.drop (d.reply.length - d.bulk))

/-- Commands at the head that do not run are answered at once: repeated frames with the stored response (R436), those that no row of Table 19-4
names with their STATUS (R434). -/
def State.dropUnknown (s : State) : Nat → State
  | 0 => s
  | n + 1 =>
    if s.rilynRun.isSome then s
    else match s.rilynNext with
      | none => s
      | some (c, u) =>
        match u.repeated c with
        | some d => (u.answerAgain c d).dropUnknown n
        | none => if rilynOps.contains c.op then s else (u.respond c ((u.turnedAway c).getD 1)).dropUnknown n

/-- Rilyn takes the command at the head if it has this OP and none is running, and runs it by `f` unless it is turned away; every command
marked FULL is logged (R437, R440).  Where it does not wait, the command does not occur (log entry 8). -/
def State.rilyn (s : State) (op : Nat) (f : State → RilynCmd → State) : State :=
  if s.rilynRun.isSome then s
  else match s.rilynNext with
    | none => s
    | some (c, u) =>
      if c.op ≠ op then s
      else
        let u := u.bufLoad c.trailer
        let v := if fullOps.contains op then u.logKind 6 else u
        (match u.turnedAway c with
          | some st => v.respond c st
          | none => f v c).dropUnknown 8

def RilynCmd.param (c : RilynCmd) (i : Nat) : Nat := (c.params.getD i 0).toNat

/-! ### The mailbox registers (R432, R433) -/

/-- A write that BUSY bars is discarded. -/
def State.mbxFree (s : State) (f : State → State) : State :=
  if s.bit RILYN_MBX_STAT RILYN_MBX_STAT_BUSY then s.accessError else f s

/-- A write of MBX_CTRL. -/
def State.mbxCtrl (s : State) (w : Word) : State :=
  s.mbxFree fun s =>
    if !bitF w RILYN_MBX_CTRL_GO then s
    else
      let h := (s.reg (RILYN_MBX_REQ 0)).toNat
      let len := h % 65536
      let c : RilynCmd := ⟨.mailbox, h / 2 ^ 24, h / 65536 % 256, len, (List.range (min 63 (len / 4))).map fun i => s.reg (RILYN_MBX_REQ (1 + i)),
        [], s.now⟩
      ({ s.setBit RILYN_MBX_STAT RILYN_MBX_STAT_BUSY true with mbxCmd := some c }).dropUnknown 8

/-- Index of the buffer word at BUF_ADDR, and the advance of each access. -/
def State.bufIndex (s : State) : Nat := s.fld RILYN_BUF_ADDR RILYN_BUF_ADDR_ADDR
def State.bufAdvance (s : State) : State := s.setFld RILYN_BUF_ADDR RILYN_BUF_ADDR_ADDR (s.bufIndex + 1)

/-- BUF_DATA_ACCESS. -/
def State.bufRead (s : State) : State := { s.bufAdvance with reply := s.bufWord s.bufIndex }
def State.bufWrite (s : State) (w : Word) : State := s.mbxFree fun s => (s.setBufWord s.bufIndex w).bufAdvance

end Sys2Proof.Machine
end

