-- ==== Sys2Proof/Machine/Time.lean ====
section
/-!
DEFINITION. The timebase and network time (R316 to R334): the servo, epochs and quality, the keeper, pulses, and TIME messages.
-/
namespace Sys2Proof.Machine
open Reg F

/-! Codes of STATUS.STATE and of quality (R326). -/
def servoAcquiring : Nat := 0
def servoLocked : Nat := 1
def servoHoldover : Nat := 2
def untraceable : Nat := 0
def estimated : Nat := 1
def holdover : Nat := 2
def traceable : Nat := 3

def pllLocked : Nat := 3

def State.hpllState (s : State) : Nat := s.fld HPLL_STATUS HPLL_STATUS_STATE
def State.servo (s : State) : Nat := s.fld TIME_STATUS TIME_STATUS_STATE
def State.qual (s : State) : Nat := s.fld TIME_STATUS TIME_STATUS_QUAL
def State.timeSrc (s : State) : Nat := s.fld TIME_CTRL TIME_CTRL_SRC

/-! ### Quality (R326) -/

/-- The quality shown follows the own quality and, with SRC = 1, the cap of the latest TIME message. -/
def State.showQual (s : State) : State :=
  let q := match s.timeSrc, s.carried with
    | 1, some c => min c s.ownQual
    | _, _ => s.ownQual
  if s.qual = q then s
  else
    let s := (s.setFld TIME_STATUS TIME_STATUS_QUAL q).raise Ev.TIME_QUAL_CHANGE
    if q = traceable then s.setReg TIME_UNC 0 else s

def State.setOwn (s : State) (q : Nat) : State := { s with ownQual := q }.showQual

/-- STATE leaves LOCKED for HOLDOVER; TRACEABLE becomes HOLDOVER. -/
def State.leaveLock (s : State) : State :=
  if s.servo = servoLocked then
    let s := { (s.setFld TIME_STATUS TIME_STATUS_STATE servoHoldover) with goodRun := 0, badRun := 0 }
    if s.ownQual = traceable then s.setOwn holdover else s
  else s

/-! ### Epochs (R322) -/

/-- One unit of FREQ in units of the integrator. -/
def integUnit : Int := 2 ^ 19 * 1875

def State.freq (s : State) : Int := signed 32 (s.reg TIME_FREQ).toNat

def State.beginEpoch (s : State) : State :=
  let s := ((((s.setBit TIME_STATUS TIME_STATUS_STEP_USED false).setBit TIME_STATUS TIME_STATUS_REFUSING false).setBit TIME_STATUS
    TIME_STATUS_MASTER_HELD false).setFld TIME_STATUS TIME_STATUS_STATE servoAcquiring)
  { s with integ := s.freq * integUnit, goodRun := 0, badRun := 0, carried := none, refMaster := none,
           ownQual := if s.ownQual = traceable then holdover else s.ownQual }.showQual

/-- A write of CMD: NEW_EPOCH. -/
def State.newEpoch (s : State) (w : Word) : State := if bitF w TIME_CMD_NEW_EPOCH then s.beginEpoch else s

/-- TIME_CTRL_WRITE; another source is not lost yet. -/
def State.timeCtrl (s : State) (w : Word) : State :=
  let u := s.plainWrite TIME_CTRL w
  let u := if u.timeSrc = s.timeSrc then u else { u.setBit TIME_STATUS TIME_STATUS_SRC_LOST false with srcAt := s.now }
  if u.timeSrc ≠ s.timeSrc ∨ u.bit TIME_CTRL TIME_CTRL_COMPAT ≠ s.bit TIME_CTRL TIME_CTRL_COMPAT then u.beginEpoch else u

/-! ### Samples (R323 to R325).  An offset θ is given in 1/65,536 Tc. -/

/-- |θ| exceeds n ns: one Tc is 100,000 / 196,608 ns. -/
def beyondNs (th : Int) (n : Nat) : Bool := decide ((n : Int) * 196608 * 65536 < |th| * 100000)

/-- OFS_LAST: θ in 1/16 ns, saturating. -/
def State.showTheta (s : State) (th : Int) : State :=
  s.setReg TIME_OFS_LAST (BitVec.ofInt 32 (clampI (-2147483648) 2147483647 (roundDiv (th * 1600000) (65536 * 196608))))

/-- The rate update of R324; FREQ arrives at a limit where it was not there before. -/
def State.rate (s : State) (th : Int) : State :=
  let int := s.fld TIME_SERVO TIME_SERVO_INT
  let integ := s.integ - th * 2 ^ (int + 15 - s.fld TIME_SERVO TIME_SERVO_KI)
  let f := roundDiv (integ - th * 2 ^ (int + 15 - s.fld TIME_SERVO TIME_SERVO_KP)) integUnit
  let v := clampI (-429496) 429496 f
  let limit := v == -429496 || v == 429496
  let u := { (s.setReg TIME_FREQ (BitVec.ofInt 32 v)) with integ := integ }
  if limit && v != s.freq then u.raise Ev.TIME_RATE_LIMIT else u

/-- A dispatcher judges the bundles that wait at a step of the timebase by the timebase after it (R57). -/
def judgedAgain (tb : BitVec 64) (now : Nat) (l : List Bundle) : List Bundle :=
  l.map fun b => if tb.toNat ≤ b.time.toNat then { b with avail := max b.avail now } else b

/-- A step of the timebase moves t_A of every tile with it (R323, R347); bundles that wait for their time are judged again (R57). -/
def State.stepTime (s : State) (d : Int) : State :=
  let s := s.each (List.range 5) fun s p =>
    if (s.glide p).queue = [] then s else s.modGlide p fun g => { g with queue := judgedAgain s.tb s.now g.queue }
  let s := s.each tiles fun s t => if s.fifo t = [] then s else s.setFifo t (judgedAgain s.tb s.now (s.fifo t))
  ({ (s.each tiles fun s t => s.setTa t (s.ta t - BitVec.ofInt 64 d)) with tb := s.tb - BitVec.ofInt 64 d, stepDone := some s.now } : State).each tiles
    fun s t => (s.capSymbols t).rffeMoved t

/-- An accepted sample counts towards LOCKED, or out of it (R325). -/
def State.countSample (s : State) (th : Int) : State :=
  if beyondNs th (s.fld TIME_SERVO TIME_SERVO_LOCK_THR) then
    let u := { s with goodRun := 0, badRun := s.badRun + 1 }
    if 16 ≤ u.badRun then u.leaveLock else u
  else
    let u := { s with goodRun := s.goodRun + 1, badRun := 0 }
    if 16 ≤ u.goodRun then (u.setFld TIME_STATUS TIME_STATUS_STATE servoLocked).setOwn traceable else u

/-- A grandmaster other than the reference (R325). -/
def State.judgeMaster (s : State) (gm : Option (BitVec 64)) : State :=
  match s.refMaster, gm with
  | some r, some g =>
    if r = g then s
    else
      let u := { s with refMaster := some g }.raise Ev.TIME_MASTER_CHANGE
      if u.bit TIME_CTRL TIME_CTRL_COMPAT then u.setBit TIME_STATUS TIME_STATUS_MASTER_HELD true else u
  | _, _ => s

/-- A sample whose measurement began `age` Tc ago, judged by the rows of R323. -/
def State.sample (s : State) (th : Int) (age : Nat) (gm : Option (BitVec 64)) : State :=
  let s := (s.setBit TIME_STATUS TIME_STATUS_SRC_LOST false).judgeMaster gm
  let stale : Bool := match s.stepDone with | some t => decide (s.now ≤ t + age) | none => false
  if s.hpllState ≠ pllLocked ∨ stale ∨ s.bit TIME_STATUS TIME_STATUS_MASTER_HELD then s
  else
    let s := s.showTheta th
    if !s.bit TIME_STATUS TIME_STATUS_STEP_USED && s.mode != .onAir && s.mode != .quiet then
      ((s.stepTime (roundDiv th 65536)).setBit TIME_STATUS TIME_STATUS_STEP_USED true).raise Ev.TIME_STEP
    else if beyondNs th (s.fld TIME_CTRL TIME_CTRL_JUMP_THRESH) then
      let u := ({ s with goodRun := 0, badRun := 0 }.bump TIME_REFUSED_COUNT TIME_CNT_FLAGS 0 1).leaveLock
      if s.bit TIME_STATUS TIME_STATUS_REFUSING then u
      else (u.setBit TIME_STATUS TIME_STATUS_REFUSING true).raise Ev.TIME_JUMP_REFUSED
    else
      (({ s with refMaster := match s.refMaster with | some r => some r | none => gm }.setBit TIME_STATUS TIME_STATUS_REFUSING false).rate
        th).countSample th

/-- PTP_OFFSET_SAMPLE, with SRC = 0. -/
def State.ptpSample (s : State) (th : Int) (age : Nat) (gm : BitVec 64) : State :=
  if s.timeSrc = 0 then s.sample th age (some gm) else s

/-- OFS_IN_HI_WRITE: a signed θ in Tc, with SRC = 3. -/
def State.ofsHi (s : State) (w : Word) : State :=
  let s := s.setReg TIME_OFS_IN_HI w
  if s.timeSrc = 3 then s.sample (signed 64 (w.toNat * 2 ^ 32 + (s.reg TIME_OFS_IN_LO).toNat) * 65536) 0 none else s

/-- How long TIME messages, or PPS edges, stay away before their source is lost (R321). -/
def sourceSilence (src : Nat) : Nat := if src = 1 then 4 * msTc else 1500 * msTc

/-- TIME_SOURCE_LOSS (R321, R325); a host source is never lost, and Rilyn reports the loss of a PTP one, whose ports are judged anew (R320). -/
def State.sourceLost (s : State) : State :=
  if s.timeSrc = 3 ∨ s.bit TIME_STATUS TIME_STATUS_SRC_LOST then s
  else
    let s := if s.timeSrc = 0 then { s with ptpEvents := s.ptpEvents + 1 } else s.advance (s.srcAt + sourceSilence s.timeSrc)
    let s := ((s.setBit TIME_STATUS TIME_STATUS_SRC_LOST true).raise Ev.TIME_SOURCE_LOST).leaveLock
    if s.bit TIME_CTRL TIME_CTRL_COMPAT then s.setBit TIME_STATUS TIME_STATUS_MASTER_HELD true else s

/-- PPS_IN_EDGE (R331); with SRC = 2 its distance from the nearest whole second is a sample. -/
def secondTc : Nat := 1966080000
def State.ppsIn (s : State) : State :=
  if !s.tbRuns then s
  else
  let s := { s with ppsTs := s.tb, srcAt := if s.timeSrc = 2 then s.now else s.srcAt }.raise Ev.TIME_PPS_IN
  let r := s.tb.toNat % secondTc
  if s.timeSrc = 2 then s.sample ((if 2 * r ≤ secondTc then (r : Int) else (r : Int) - secondTc) * 65536) 0 none else s

/-! ### Pulses (R331, R332) -/

/-- The first timebase value after now that is `ofs` past a multiple of a period; one that lies past the wrap as 2^64 and the value after it (R316). -/
def State.nextPulse (s : State) (period : Nat) (ofs : Int) : Nat :=
  let t := ((((s.tb.toNat : Int) - ofs) / period + 1) * period + ofs).toNat
  if t < 2 ^ 64 then t else 2 ^ 64 + (if 0 ≤ ofs then ofs else period + ofs).toNat

/-- PPS_OUT_PULSE; a timebase that stands still reaches no value. -/
def State.ppsOut (s : State) : State :=
  if !s.tbRuns then s
  else
  let t := s.nextPulse secondTc (signed 16 (s.fld TIME_PPS_CFG TIME_PPS_CFG_OFS))
  let s := s.advanceTb t
  if s.bit TIME_PPS_CFG TIME_PPS_CFG_GATE && s.qual == untraceable then s
  else s.emit (.pulse false (t % 2 ^ 64) (usTc (s.fld TIME_PPS_CFG TIME_PPS_CFG_WIDTH)))

/-- TSYNC_OUT_PULSE, with a timebase that runs. -/
def State.tsyncOut (s : State) : State :=
  let per := s.fld TIME_TSYNC_CFG TIME_TSYNC_CFG_PER
  if per = 0 ∨ !s.tbRuns then s
  else
    let t := s.nextPulse (per * frameTc) (signed 16 (s.fld TIME_TSYNC_CFG TIME_TSYNC_CFG_OFS))
    (s.advanceTb t).emit (.pulse true (t % 2 ^ 64) 64)

/-- Reads that capture a high half: TB_LO (R316), PPS_IN_TS_LO and TSYNC_IN_TS_LO. -/
def State.loRead (s : State) (v : BitVec 64) (hi : Nat) : State :=
  { (s.setReg hi ((v >>> 32).setWidth 32)) with reply := v.setWidth 32 }
def State.tbLoRead (s : State) : State := s.loRead s.tb TIME_TB_HI

/-! ### TIME messages (R333) -/

/-- TIME_MESSAGE from the DN port, whose first bit reached the pins `ago` Tc ago. -/
def State.timeMessage (s : State) (ago : Nat) : State :=
  match s.burogTake 0 0 3 with
  | none => s
  | some (l, s) =>
    if s.timeSrc ≠ 1 then s
    else
      let p := l.headD 0
      let sent : Int := (pbits p 128 64 : Nat) * 65536 + (pbits p 124 4 : Nat) * 4096
      let th := ((s.tb.toNat : Int) - ago - (s.fld (BUROG_LINK_DLY 0) BUROG_LINK_DLY_DELAY : Nat)) * 65536 - sent
      ({ s with carried := some (pbits p 250 2), srcAt := s.now }.showQual).sample th ago none

/-- TIME_MESSAGE_SEND on the UP port, 1 ms after the one before; T_SEND is written when the flit leaves. -/
def State.timeSend (s : State) : State :=
  if s.qual = untraceable ∨ s.burogState 1 ≠ burogRun then s
  else
    let s := match (s.burog 1).timeSent with | some t => s.advance (t + msTc) | none => s
    (s.modBurog 1 fun b => { b with timeSent := some s.now }).burogPost 1 0 [headed (3 * 2 ^ 60 + s.qual * 2 ^ 58)]

/-! ### PTP (R320) -/

/-- PTP_SYNC_SEND on a port in master state: `header` is the 34-byte PTP header Rilyn forms. -/
def State.syncSend (s : State) (p : Nat) (header : List Byte) : State :=
  if !s.portUsable p || s.ptpRole p != .master then s
  else s.sendFrame p (s.fld (MAC_PRIO p) MAC_PRIO_PCP_PTP)
    (s.ethHeader p (beNat 6 0x011B19000000) false 0 0x88F7 ++ header.take 34 ++ List.replicate (34 - header.length) 0 ++ List.replicate 10 0)
    (if s.maskBit TIME_CTRL TIME_CTRL_ONE_STEP p then .oneStep else .twoStep)

/-! ### The keeper (R328 to R330) -/

/-- The sample counters of a tile are counted from t_A on the timebase anew: at a start, at a power-up, at each lock and at the keeper's exit (R346, R347). -/
def State.reloadTile (s : State) (t : Nat) : State := s.setOrigin t (s.now - ((s.tb - s.ta t).toNat : Int))

def State.keeperEnter (s : State) : State := { s with keeper := { s.keeper with stored := some s.tb, lost := false, started := false } }

/-- KEEPER_RATIO_WINDOW: 65,536 keeper ticks took so many Tc. -/
def State.keeperRatio (s : State) (tc : Nat) : State :=
  if s.domOn 1 then { s with keeper := { s.keeper with ratio := some tc } } else s

/-- A write of KEEP_CFG: a change of CLK begins the measurement anew. -/
def State.keepCfg (s : State) (w : Word) : State :=
  let u := s.plainWrite TIME_KEEP_CFG w
  if u.bit TIME_KEEP_CFG TIME_KEEP_CFG_CLK = s.bit TIME_KEEP_CFG TIME_KEEP_CFG_CLK then u
  else { u with keeper := { u.keeper with ratio := none } }

/-- KEEPER_EXIT, once HUB_RADIO is ON again: the keeper counted so many ticks; `stopped`: its clock stopped on the way.  The sample counters of every tile are
counted from t_A on the timebase anew. -/
def State.keeperExit (s : State) (count : Nat) (stopped : Bool) : State :=
  match s.keeper.stored with
  | none => s
  | some v =>
    if !s.tbRuns then s
    else
    let k := s.keeper
    let s := { s with keeper := { k with stored := none, lost := false, started := false } }
    -- a count that is not restored leaves the timebase as before the sleep, or as the start set it (R330)
    let left := fun (s : State) => { s with tb := if k.started then s.tb else v, ownQual := untraceable }
    match k.ratio with
    | some r =>
      if k.lost || stopped || decide (2 ^ 48 - 1 ≤ count) then ((left s).each tiles State.reloadTile).beginEpoch
      else
        let tc := roundDiv ((count * r : Nat) : Int) 65536
        let unc := roundDiv ((s.fld TIME_KEEP_CFG TIME_KEEP_CFG_TOL * (count * r) : Nat) * 100000) (65536 * 196608 * 1000000)
        let s := ({ s with tb := v + BitVec.ofInt 64 tc, ownQual := estimated } : State).each tiles State.reloadTile
        ((s.setReg TIME_UNC (BitVec.ofInt 32 (clampI 0 4294967295 unc))).beginEpoch)
    | none => ((left s).each tiles State.reloadTile).beginEpoch

end Sys2Proof.Machine
end

