-- ==== Sys2Proof/Machine/Modes.lean ====
section
/-!
DEFINITION. The modes: which transitions are allowed, what entering and leaving a mode does, Quiet, SET_MODE and the start calibration
(R30 to R36, R425).
-/
namespace Sys2Proof.Machine
open Reg F

/-! ### Which transitions are allowed (Table 1-9) -/

/-- A tile counts as enabled while its TILE_n domain is ON (R406). -/
def State.tileOn (s : State) (t : Nat) : Bool := s.domOn (10 + t)
def State.spllState (s : State) (t : Nat) : Nat := s.fld (SPLL_STATUS t) SPLL_STATUS_STATE

/-- HPLL and the SPLL of every enabled tile are locked. -/
def State.locksHeld (s : State) : Bool := s.hpllState == pllLocked && tiles.all fun t => !s.tileOn t || s.spllState t == pllLocked

/-- Every enabled tile holds a valid array calibration (R207). -/
def State.arrayValid (s : State) : Bool :=
  tiles.all fun t => !s.tileOn t || (s.bit (DFLY_CAL_STAT t) DFLY_CAL_STAT_TX_VALID && s.bit (DFLY_CAL_STAT t) DFLY_CAL_STAT_RX_VALID)

/-- Table 1-9 permits a mailbox request for the mode. -/
def State.permits (s : State) (m : Mode) : Bool :=
  match s.mode, m with
  | .configure, .calibrate => s.locksHeld
  | .configure, .onAir => s.locksHeld && s.arrayValid
  | .configure, .test | .calibrate, .configure | .test, .configure | .onAir, .quiet | .quiet, .onAir | .onAir, .configure
  | .quiet, .configure => true
  | _, _ => false

/-- A mailbox request is granted: also while step 8 runs only Configure is, and nothing during a thermal shutdown (R425, R458). -/
def State.grants (s : State) (m : Mode) : Bool := s.permits m && (s.startCal.isNone || m == .configure) && !s.thermShut

/-! ### Glide processors at a change of mode (R42, R45) -/

/-- Power domain of processor p. -/
def glideDomain (p : Nat) : Nat := if p = 0 then 5 else 13 + p
def glideCtrl (p : Nat) : Nat := GLIDE_CTRL p

/-- The processor starts at START_PC with all of its state zero. -/
def State.startGlide (s : State) (p : Nat) : State :=
  s.modGlide p fun g =>
    { imem := g.imem, gregHi := g.gregHi, btHi := g.btHi, queue := g.queue, setDone := g.setDone, sets := g.sets,
      pc := s.fld (glideCtrl p) GLIDE_CTRL_START_PC, st := .running, nextIssue := (s.now + 3) / 4 * 4 }

/-- Every processor whose ENABLE is 1 starts. -/
def State.startGlides (s : State) : State :=
  s.each (List.range 5) fun s p => if s.bit (glideCtrl p) GLIDE_CTRL_ENABLE && s.domOn (glideDomain p) then s.startGlide p else s

/-- The processors stop; every bundle in a local queue or a command FIFO is discarded, and no radio instruction takes effect any more. -/
def State.stopGlides (s : State) : State :=
  { s.each (List.range 5) (fun (s : State) (p : Nat) =>
      s.modGlide p fun g => { g with queue := [], held := none, waitEnd := none, st := if g.st = .fault then .fault else .halted }) with
    fifos := [], effects := [] }

/-- A change to a mode that does not run processors discards armed LPLL changes and alignments (R344, R349). -/
def State.dropArms (s : State) : State :=
  { s.each tiles fun s t =>
      (((s.setLpllArm t none).setBit (LPLL_ARM t) LPLL_ARM_PENDING false).setAlignArm t none).setBit (SPLL_STATUS t) SPLL_STATUS_ALIGN_PEND false with
    hubAlign := none }

/-- A mode that runs processors is left: they stop, armed gain steps are discarded, captures end (R125), predistortion jobs and swaps end (R171, R188),
RFFE queues are emptied (R230). -/
def State.leaveRun (s : State) : State :=
  let u := s.stopGlides.each (List.range 64) fun s k => s.modRxPath k fun p => { p with gain := none, replaced := [] }
  ((u.each tiles fun u t => u.stopCaptures s.effects t).stopDpd).rffeFlush

/-! ### Entering a mode -/

/-- What an entry to Configure does: gates closed (R84, R113), flows and sequence numbers anew (R256, R257, R313), the head's ID (R298), lanes
released after a start (R234, R420). -/
def State.enterConfigure (s : State) (fromBoot : Bool) : State :=
  let u := ((s.each tiles fun s t => (s.closeAllTx t).closeAllRx t).fhConfigure).judgeHead
  if fromBoot then (u.each (List.range 64) fun u k => u.modTxPath k fun p => { p with ranAt := u.now, idleSince := u.now }).allLanesGo else u

/-- What the chains of a mode have done is counted, and samples taken under it keep its loop, before it is left (R77, R101, R129). -/
def State.countChains (s : State) : State := s.each tiles fun s t => s.each paths fun s i => (s.countTx t i).countRx t i
/-- A mode that runs the chains is entered: what they count begins now. -/
def State.freshChains (s : State) : State := s.each tiles fun s t => s.each paths fun s i => (s.txFresh t i).rxFresh t i

/-- What is done in the mode that ends: counting, and where processors stop, what stops with them (R125, R129). -/
def State.leaveMode (s : State) (m : Mode) : State :=
  let u := s.when s.mode.runsGlide State.countChains
  let u := u.when (s.mode == .test || m == .test) fun u => u.each tiles State.keepRxCtl
  u.when (s.mode.runsGlide && !m.runsGlide) State.leaveRun

/-- A change of mode (R30): MODE shows it, MODE_CHANGE is raised, Rilyn logs it, and everything that begins or ends with it does. -/
def State.enterMode (s : State) (m : Mode) : State :=
  if s.mode = m then s
  else
    let old := s.mode
    let burst := m = .calibrate ∨ m = .onAir
    let u := ((({ s.leaveMode m with mode := m }.setFld RILYN_MODE RILYN_MODE_MODE m.code).setBit RILYN_STATUS RILYN_STATUS_FIRMWARE (decide (3 ≤ m.code))).raise
      Ev.MODE_CHANGE).logKind 2
    let u := u.when (!m.runsGlide) State.dropArms
    let u := u.when (m.runsGlide && !old.runsGlide) State.freshChains
    let u := u.when ((old == .onAir || old == .quiet) && !(m == .onAir || m == .quiet)) State.slalomStop
    let u := u.when (!burst) fun u => u.each tiles State.abortBurst
    let u := u.when (m == .configure) fun u => u.enterConfigure (old == .boot)
    let u := u.when m.runsGlide fun u => u.each tiles fun u t => (u.resetPm t).resetWpd t
    let u := u.when (m.runsGlide && old == .configure) State.startGlides
    let u := if m = .onAir then u else { u with quietMute := m == .quiet, resumeAt := none }
    let u := u.when (old == .onAir || m == .onAir) fun u => u.each tiles State.judgePins
    let u := u.when (old == .test || m == .test) fun u => (u.each tiles fun u t => u.wakeDacs t (u.patPaths t)).loopsChange
    if u.tap = .extest ∧ m ≠ .configure ∧ m ≠ .recovery then { u with tap := .bypass } else u

/-! ### Transitions (R36) -/

/-- A transition begins: towards Configure from On-air or Quiet, every quad first runs its shutdown order (Table 1-9). -/
def State.beginTrans (s : State) (m : Mode) : State :=
  let sd := (s.mode == .onAir || s.mode == .quiet) && m == .configure
  { s.when sd State.shutdownAll with trans := some ⟨m, sd, s.now⟩ }

/-- An event of R33: the part enters Quiet from On-air by itself, after a transition in progress. -/
def State.autoToQuiet (s : State) : State :=
  if s.thermShut then s
  else if s.trans.isSome then { s with autoQuiet := true }
  else if s.mode = .onAir then s.beginTrans .quiet
  else s

/-- A SET_MODE is judged: the transition begins, or the response refuses it. -/
def State.tryMode (s : State) (c : RilynCmd) (m : Mode) : State :=
  if s.grants m then { s.beginTrans m with rilynRun := some c } else { s with rilynRun := none }.respond c 3

/-- SET_MODE: Rilyn takes the command; during a transition it is judged against the mode that is reached. -/
def State.setModeCmd (s : State) : State :=
  s.rilyn 0x02 fun s c =>
    if 8 ≤ c.param 0 then s.respond c 2
    else
      let m := Mode.ofCode (c.param 0)
      if s.trans.isSome then { s with rilynRun := some c, asked := some m } else s.tryMode c m

/-! ### The start calibration (R425) -/

/-- Step 8 requests Calibrate as soon as Table 1-9 permits it. -/
def State.startCalTry (s : State) : State :=
  match s.startCal with
  | some c => if !c.running && s.trans.isNone && s.permits .calibrate then s.beginTrans .calibrate else s
  | none => s

/-- A burst of step 8 on a tile has ended: KIND 0 follows KIND 1; after the last tile the part returns to Configure. -/
def State.startCalStep (s : State) (t : Nat) : State :=
  match s.startCal with
  | none => s
  | some c =>
    match c.left.find? fun (x : Nat × Nat) => x.1 == t with
    | none => s
    | some (_, n) =>
      if n = 2 then
        { s with startCal := some { c with left := c.left.map fun (x : Nat × Nat) => if x.1 = t then (t, 1) else x } }.calCmd t 0 0xFFFF
      else
        let left := c.left.filter fun (x : Nat × Nat) => x.1 != t
        let u := { s with startCal := some { c with left := left } }
        if left = [] && u.trans.isNone && u.mode == .calibrate then u.beginTrans .configure else u

/-- What a mode reached means for step 8: in Calibrate the KIND 1 bursts begin on every enabled tile; in Configure it has ended. -/
def State.startCalReached (s : State) : State :=
  match s.startCal with
  | none => s
  | some c =>
    if s.mode = .calibrate ∧ !c.running then
      let on := tiles.filter s.tileOn
      let u := { s with startCal := some { c with running := true, left := on.map fun t => (t, 2) } }
      if on = [] then u.beginTrans .configure else u.each on fun u t => u.calCmd t 1 0xFFFF
    else if s.mode = .configure ∧ c.running then { s with startCal := none }.raise Ev.START_CAL_DONE
    else s

/-- START_CAL_PERMIT_TIMEOUT: Calibrate has not been permitted within 10 s of completion. -/
def State.startCalTimeout (s : State) : State :=
  match s.startCal with
  | some c =>
    if c.running || (s.trans.map Trans.target) == some Mode.calibrate then s
    else { s.advance (c.began + 10 * 1966080000) with startCal := none }.raise Ev.START_CAL_DONE
  | none => s

/-- CAL_BURST_START, CAL_BURST_RESULTS: step 8 follows the bursts of its tiles; one that is refused counts as ended (log entry 42). -/
def State.startCalFollow (s : State) (t : Nat) : State :=
  if (s.cal t).burst.isNone && (s.cal t).pend.isEmpty then s.startCalStep t else s

/-! ### The end of a transition -/

/-- The boundary at which transmission resumes after a request for On-air accepted at an instant: the first of the subframe at least 2,048 Tc later
(R35). -/
def State.resumeTick (s : State) (began : Nat) : Nat := (s.tbAt began + 2048 + subframeTc - 1) / subframeTc * subframeTc

/-- The mode is reached; from Quiet to On-air transmission resumes at its boundary (R35). -/
def State.reachMode (s : State) (tr : Trans) : State :=
  let u := { s with trans := none }
  if s.mode = .quiet ∧ tr.target = .onAir then
    { u.enterMode .onAir with resumeAt := some (u.resumeTick tr.began) }
  else u.enterMode tr.target

/-- The response to the SET_MODE whose transition has ended; then an automatic transition, and the request that waits (R36). -/
def State.transAnswered (s : State) : State :=
  let u := match s.asked, s.rilynRun with
    | none, some c => { s with rilynRun := none }.respond c 0
    | _, _ => s
  let v := { u with autoQuiet := false }
  if u.autoQuiet && u.mode == .onAir then v.beginTrans .quiet
  else match v.asked, v.rilynRun with
    | some m, some c => if v.trans.isSome then v else { v with asked := none }.tryMode c m
    | _, _ => v

/-- What follows a transition; commands at the head that do not run are answered. -/
def State.afterTrans (s : State) : State := s.transAnswered.dropUnknown 8

/-- MODE_TRANSITION_DONE, `after` Tc on: a transition that shuts the quads down ends when all are down, one to Quiet no later than 2,048 Tc
after it began, one from Quiet to On-air no later than the boundary at which transmission resumes (R35, R36). -/
def State.transDone (s : State) (after : Nat) : State :=
  match s.trans with
  | none => s
  | some tr =>
    if tr.shutdown && !s.allDown then s
    else
      let t :=
        if tr.target = .quiet then min (s.now + after) (tr.began + 2048)
        else if tr.target = .onAir ∧ s.mode = .quiet then min (s.now + after) (s.instantOf (s.resumeTick tr.began))
        else s.now + after
      (((s.advance t).reachMode tr).startCalReached).afterTrans

/-- QUIET_RESUME_BOUNDARY. -/
def State.quietResume (s : State) : State :=
  match s.resumeAt with
  | some b => if s.mode = .onAir then ({ s.advanceTb b with quietMute := false, resumeAt := none } : State).each tiles State.judgePins else s
  | none => s

/-- What a start or an entry to Standby cuts short (R36, R427). -/
def State.cutShort (s : State) : State :=
  { s with trans := none, asked := none, autoQuiet := false, startCal := none, resumeAt := none, rilynRun := none, rilynQ := [], mbxCmd := none,
           tookMbx := none, restartAt := none, starting := none, update := none }

end Sys2Proof.Machine
end

