-- ==== Sys2Proof/Machine/GlideRegs.lean ====
section
/-!
DEFINITION. The registers of the Glide processors: start, instruction memory, the windows on registers and bundle time, and the
enabling of tiles (R43 to R45, R60, R63, R70).  Processor p is GLIDE_H for 0 and GLIDE_t for 1 + t, and so is its die code.
-/
namespace Sys2Proof.Machine
open Reg F

/-- STATUS.STATE as Table 2-11 codes it. -/
def GState.code : GState → Nat
  | .halted => 0 | .running => 1 | .stallQueue => 2 | .stallFifo => 3 | .waitEvent => 4 | .waitLock => 5 | .waitFence => 6
  | .waitGet => 7 | .fault => 8

/-- GLIDE_GO: a write of CTRL; GO restarts a processor that is halted or has faulted, in a mode that runs processors (R45). -/
def State.glideCtrlWrite (s : State) (p : Nat) (w : Word) : State :=
  let u := s.plainWrite (GLIDE_CTRL p) w
  let st := (u.glide p).st
  if bitF w GLIDE_CTRL_GO ∧ u.mode.runsGlide ∧ (st = .halted ∨ st = .fault) then u.startGlide p else u

def State.imemAddr (s : State) (p : Nat) : Nat := s.fld (GLIDE_IMEM_ADDR p) GLIDE_IMEM_ADDR_ADDR
def State.imemAdvance (s : State) (p : Nat) : State := s.setFld (GLIDE_IMEM_ADDR p) GLIDE_IMEM_ADDR_ADDR (s.imemAddr p + 1)

/-- A word of a processor's instruction memory. -/
def State.imemWord (s : State) (p n : Nat) : BitVec 64 := sget (fun _ => 0) (s.glide p).imem n

/-- GLIDE_IMEM_DATA_HI_WRITE: the whole word is stored and the address moves on (R44). -/
def State.imemHiWrite (s : State) (p : Nat) (w : Word) : State :=
  ((s.setReg (GLIDE_IMEM_DATA_HI p) w).modGlide p fun g =>
    { g with imem := sset (fun _ => 0) g.imem (s.imemAddr p) (w ++ s.reg (GLIDE_IMEM_DATA_LO p)) }).imemAdvance p

/-- GLIDE_IMEM_DATA_LO_READ: the word at IMEM_ADDR is fetched into both data registers. -/
def State.imemLoRead (s : State) (p : Nat) : State :=
  let w := s.imemWord p (s.imemAddr p)
  { (s.setReg (GLIDE_IMEM_DATA_LO p) (w.setWidth 32)).setReg (GLIDE_IMEM_DATA_HI p) ((w >>> 32).setWidth 32) with reply := w.setWidth 32 }

/-- GLIDE_IMEM_DATA_HI_READ. -/
def State.imemHiRead (s : State) (p : Nat) : State := { s.imemAdvance p with reply := s.reg (GLIDE_IMEM_DATA_HI p) }

/-- General register n of a processor; g0 reads zero. -/
def Glide.reg (g : Glide) (n : Nat) : BitVec 64 := if n = 0 then 0 else sget (fun _ => 0) g.g n

/-- A general register written; a write to g0 is discarded (R42). -/
def Glide.setReg (g : Glide) (n : Nat) (v : BitVec 64) : Glide := if n = 0 then g else { g with g := sset (fun _ => 0) g.g n v }

/-- GLIDE_GREG_LO_READ and GLIDE_BT_LO_READ: the low half, the high half captured. -/
def State.gregLoRead (s : State) (p : Nat) : State :=
  let v := (s.glide p).reg (s.fld (GLIDE_GREG_SEL p) GLIDE_GREG_SEL_SEL)
  { (s.modGlide p fun g => { g with gregHi := (v >>> 32).setWidth 32 }) with reply := v.setWidth 32 }
def State.btLoRead (s : State) (p : Nat) : State :=
  let v := (s.glide p).bt
  { (s.modGlide p fun g => { g with btHi := (v >>> 32).setWidth 32 }) with reply := v.setWidth 32 }

/-- TILE_EN_WRITE: a tile whose bit is 0 loses what its FIFO holds (R63). -/
def State.tileEnWrite (s : State) (w : Word) : State :=
  (s.plainWrite GLIDE_TILE_EN w).each tiles fun s t => if w.getLsbD t then s else s.setFifo t []

/-- Words a bundle occupies in a FIFO, and the words of a tile's FIFO (R60). -/
def Bundle.words (b : Bundle) : Nat := b.members.length + 1
def State.fifoLevel (s : State) (t : Nat) : Nat := ((s.fifo t).map Bundle.words).sum

/-- STATUS of a processor. -/
def State.glideStatus (s : State) (p : Nat) : Word :=
  let g := s.glide p
  putF (putF (putF (putF 0 GLIDE_STATUS_STATE g.st.code) GLIDE_STATUS_FAULT g.fault) GLIDE_STATUS_QDEPTH g.queue.length) GLIDE_STATUS_PC g.pc

end Sys2Proof.Machine
end

