-- ==== Sys2Proof/Machine/Clocking.lean ====
section
/-!
DEFINITION. The synthesisers: states and lock, references, dividers, alignment, coasting (R335 to R353).  Synthesiser 0 is HPLL, 1 + t is
SPLL_t, 5 + 2 t + r is LPLL r of tile t, 13 the DRAM PLL.
-/
namespace Sys2Proof.Machine
open Reg F

def pllOff : Nat := 0
def pllCal : Nat := 1
def pllAcq : Nat := 2

/-! ### Which registers and events belong to a synthesiser -/

def pllStatus (k : Nat) : Nat := if k = 0 then HPLL_STATUS else if k ≤ 4 then SPLL_STATUS (k - 1) else LPLL_STATUS ((k - 5) / 2) ((k - 5) % 2)
def pllLockCfg (k : Nat) : Nat := if k = 0 then HPLL_LOCK_CFG else if k ≤ 4 then SPLL_LOCK_CFG (k - 1) else LPLL_LOCK_CFG ((k - 5) / 2)
def pllTile (k : Nat) : Nat := if k ≤ 4 then k - 1 else (k - 5) / 2
def pllCoastEv (k : Nat) : Nat := if k = 0 then Ev.HPLL_COAST else if k ≤ 4 then Ev.SPLL_COAST (k - 1) else Ev.LPLL_COAST (pllTile k)
def pllFailEv (k : Nat) : Nat := if k ≤ 4 then Ev.SPLL_LOCK_FAIL (k - 1) else Ev.LPLL_LOCK_FAIL (pllTile k)

/-- STATUS.STATE stands in [31:29] in every block (Tables 14-10, 14-14, 14-16). -/
def State.pllState (s : State) (k : Nat) : Nat := s.fld (pllStatus k) HPLL_STATUS_STATE
def State.pllCnt (s : State) (k : Nat) : Nat := max 1 (s.fld (pllLockCfg k) HPLL_LOCK_CFG_CNT)
def State.pllTol (s : State) (k : Nat) : Nat := s.fld (pllLockCfg k) HPLL_LOCK_CFG_TOL

/-- Lock times of Table 14-1: SPLL 400 µs, LPLL 150 µs. -/
def pllLockTime (k : Nat) : Nat := if k ≤ 4 then usTc 400 else usTc 150

/-! ### DET (R346, R352, R353) -/

/-- HPLL.STATUS.DET: established at a lock with DCO = 0, and no build-out beyond BO_TOL since the last alignment.  A coast and the way back from it
leave it as it is (DEDUCED, log entry 114). -/
def State.judgeDet (s : State) : State :=
  let st := s.hpllState
  s.setBit HPLL_STATUS HPLL_STATUS_DET (!s.bit HPLL_CTRL HPLL_CTRL_DCO && !s.detLost &&
    (st == pllLocked || ((st == coasting || st == pllAcq) && s.bit HPLL_STATUS HPLL_STATUS_DET)))

/-! ### Entering a state (Table 14-3) -/

/-- Consequences for the tile of a state of its SPLL: the unlocked interval of R98 spans OFF, CALIBRATING and ACQUIRING; it cuts a burst
short (Table 7-2); LOCKED ends the mute of a coast (Table 14-4). -/
def State.spllEffects (s : State) (t st : Nat) : State :=
  let held := s.bit (TXCH_STATUS t) TXCH_STATUS_UNLOCK_HOLD
  let u := s.setBit (SPLL_STATUS t) SPLL_STATUS_DET (st == pllLocked)
  if st ≤ pllAcq then
    if held then u else ((u.enterUnlock t).abortBurst t).startCalFollow t
  else
    let v := if held then u.leaveUnlock t else u
    if st = pllLocked then ((v.reloadTile t).setBit (TXCH_STATUS t) TXCH_STATUS_MUTE_COAST false).judgePins t else v

/-- Consequences of a state of LPLL k: settling and calibrating are kept for R174; on lock the image calibration due begins (R176, R345). -/
def State.lpllEffects (s : State) (k st : Nat) : State :=
  let j := k - 5
  let d := s.dfly j
  if st ≤ pllAcq then
    s.modDfly j fun d => { d with unlocked := openRun d.unlocked 1 0 s.now }
  else
    let u := s.modDfly j fun d => { d with unlocked := closeRun d.unlocked 1 1 s.now }
    if st = pllLocked ∧ d.imgOnLock then (u.modDfly j fun d => { d with imgOnLock := false }).beginImage (j / 2) (j % 2) (s.now + 49152)
    else u

/-- HPLL leaves or reaches LOCKED: the servo and the quality follow (R325, R326). -/
def State.hpllEffects (s : State) (st : Nat) : State := (if st = pllLocked then s else s.leaveLock).judgeDet

/-- At the limit of a coast (Table 14-4). -/
def State.coastLimit (s : State) (k : Nat) : State :=
  if k = 0 then ((s.setBit HPLL_STATUS HPLL_STATUS_COAST_LIM true).raise Ev.HPLL_COAST_LIMIT).autoToQuiet
  else if k ≤ 4 then
    ((s.setBit (SPLL_STATUS (k - 1)) SPLL_STATUS_COAST_LIM true).setBit (TXCH_STATUS (k - 1)) TXCH_STATUS_MUTE_COAST true).raise
      (Ev.SPLL_COAST_LIMIT (k - 1)) |>.judgePins (k - 1)
  else s

/-- The coast limit in Tc. -/
def State.coastTime (s : State) (k : Nat) : Nat :=
  msTc * (if k = 0 then s.fld HPLL_COAST_CFG HPLL_COAST_CFG_LIMIT else s.fld (SPLL_CFG (k - 1)) SPLL_CFG_COAST_LIM)

/-- A synthesiser enters a state. -/
def State.pllEnter (s : State) (k st : Nat) : State :=
  if s.pllState k = st then s.modPll k fun p => { p with passes := 0 }
  else
    let u := (s.setFld (pllStatus k) HPLL_STATUS_STATE st).modPll k fun p =>
      { p with passes := 0, since := s.now,
               lockBy := if k = 0 ∨ st = pllOff ∨ pllLocked ≤ st then none
                         else if st = pllAcq then (p.lockBy.orElse fun _ => if s.spllBlocked then none else some (s.now + 2 * pllLockTime k))
                         else some (s.now + 2 * pllLockTime k) }
    let u := if st = coasting then u.raise (pllCoastEv k)
             else if k ≤ 4 then u.setBit (pllStatus k) (if k = 0 then HPLL_STATUS_COAST_LIM else SPLL_STATUS_COAST_LIM) false else u
    let u := if k = 0 then u.hpllEffects st else if k ≤ 4 then u.spllEffects (k - 1) st else u.lpllEffects k st
    if st = coasting ∧ k ≤ 4 ∧ u.coastTime k = 0 then u.coastLimit k else u

/-- A band calibration begins (R340, R342). -/
def State.pllCalibrate (s : State) (k : Nat) : State :=
  s.pllEnter k pllCal |>.modPll k fun p =>
    { p with lockBy := if k = 0 ∨ (k ≤ 4 ∧ s.spllBlocked) then none else some (s.now + 2 * pllLockTime k) }

/-! ### References (R337, R351, R352) -/

def refBit (b : Nat) : Fld := if b = 0 then HPLL_STATUS_REFA_OK else HPLL_STATUS_REFB_OK
def State.refOk (s : State) (b : Nat) : Bool := s.bit HPLL_STATUS (refBit b)
/-- The input in use. -/
def State.activeRef (s : State) : Nat := s.fld HPLL_STATUS HPLL_STATUS_ACTIVE_REF

/-- HPLL acquires on a reference that has returned with a phase offset in ps: with BUILDOUT the offset is absorbed (R352). -/
def State.hpllReturn (s : State) (ofs : Int) : State :=
  let u := s.pllEnter 0 pllAcq
  if s.bit HPLL_CTRL HPLL_CTRL_BUILDOUT then
    let b := clampI (-2147483648) 2147483647 (signed 32 (u.reg HPLL_BO_OFS).toNat + ofs)
    let lost := decide ((s.fld HPLL_CTRL HPLL_CTRL_BO_TOL : Int) < |b|)
    (({ u.setReg HPLL_BO_OFS (BitVec.ofInt 32 b) with detLost := u.detLost || lost }.judgeDet).raise Ev.HPLL_BUILDOUT)
  else u

/-- The input switches (R337): a loss followed at once by the return on the new input, if that is present. -/
def State.hpllSwitch (s : State) (b : Nat) (ofs : Int) : State :=
  let u := (s.setFld HPLL_STATUS HPLL_STATUS_ACTIVE_REF b).raise Ev.HPLL_REF_SWITCH
  let st := u.hpllState
  if st = pllAcq ∨ st = pllLocked ∨ st = coasting then
    if u.refOk b then u.hpllReturn ofs else u.pllEnter 0 coasting
  else if st = pllOff ∧ u.refOk b then u.pllEnter 0 pllAcq
  else u

/-- REF_LOSS: an input has had no edge for 4,096 Tc; `ofs` is the phase of the other input should HPLL switch to it. -/
def State.refLoss (s : State) (b : Nat) (ofs : Int) : State :=
  let u := s.setBit HPLL_STATUS (refBit b) false
  if u.activeRef ≠ b then u
  else if u.bit HPLL_CTRL HPLL_CTRL_AUTO && u.refOk (1 - b) then u.hpllSwitch (1 - b) ofs
  else if u.hpllState = pllAcq ∨ u.hpllState = pllLocked then u.pllEnter 0 coasting
  else u

/-- REF_PRESENT: an input is present again, its edges with a phase offset in ps against the outputs. -/
def State.refPresent (s : State) (b : Nat) (ofs : Int) : State :=
  let u := s.setBit HPLL_STATUS (refBit b) true
  if u.activeRef = b then
    if u.hpllState = coasting then u.hpllReturn ofs
    else if u.hpllState = pllOff ∧ u.startDue.isNone ∧ u.mode ≠ .standby then u.pllEnter 0 pllAcq
    else u
  else if u.bit HPLL_CTRL HPLL_CTRL_AUTO && u.hpllState == coasting && !u.refOk u.activeRef then u.hpllSwitch b ofs
  else u

/-- REF_SELECT_WRITE: a write of HPLL.CTRL; a change of SEL switches the input. -/
def State.hpllCtrl (s : State) (w : Word) (ofs : Int) : State :=
  let old := s.fld HPLL_CTRL HPLL_CTRL_SEL
  let u := s.plainWrite HPLL_CTRL w
  let sel := u.fld HPLL_CTRL HPLL_CTRL_SEL
  (if sel ≠ old ∧ sel ≠ u.activeRef then u.hpllSwitch sel ofs else u).judgeDet

/-! ### Lock (R341, R342, R345) -/

/-- Lock is declared. -/
def State.declareLock (s : State) (k : Nat) : State :=
  let u := s.pllEnter k pllLocked
  if k = 0 then
    -- each SPLL now locks within its lock time (R345)
    ({ u with spllBlocked := false }.each tiles fun u t =>
      if (u.spllState t = pllCal ∨ u.spllState t = pllAcq) ∧ s.spllBlocked then u.modPll (1 + t) fun p => { p with lockBy := some (u.now + 2 * pllLockTime 1) } else u).startCalTry
  else u.startCalTry

/-- LOCK_WINDOW: a window ends with an error of so many 1/16 ppm; `ofs` is the phase in ps should HPLL return from a coast with it. -/
def State.lockWindow (s : State) (k err : Nat) (ofs : Int) : State :=
  if k = 13 then
    if err = 0 then (if s.dramLock then s else s.dramLocked)
    else if s.dramLock then s.dramUnlock else s
  else if k = 0 ∧ !s.refOk s.activeRef then s
  else
    let pass := decide (err ≤ s.pllTol k)
    let st := s.pllState k
    if st = pllLocked then (if 4 * s.pllTol k < err then s.pllEnter k coasting else s)
    else if st = pllAcq then
      if pass then
        let u := s.modPll k fun p => { p with passes := p.passes + 1 }
        if s.pllCnt k ≤ (u.pll k).passes ∧ !(1 ≤ k && k ≤ 4 && s.spllBlocked) then u.declareLock k else u
      else s.modPll k fun p => { p with passes := 0 }
    else if st = coasting ∧ pass then
      if k = 0 then s.hpllReturn ofs else (s.pllEnter k pllAcq).modPll k fun p => { p with passes := 1 }
    else s

/-- BAND_CAL_DONE: HPLL acquires if its input is present. -/
def State.bandCalDone (s : State) (k : Nat) : State :=
  if s.pllState k ≠ pllCal then s
  else if k = 0 then s.pllEnter 0 (if s.refOk s.activeRef then pllAcq else pllOff)
  else
    let u := (s.pllEnter k pllAcq).modPll k fun p => { p with calTemp := s.tileTemp (pllTile k), told := false }
    if k ≤ 4 then u.setBit (SPLL_STATUS (k - 1)) SPLL_STATUS_RECAL_DUE false else u

/-- PLL_LOCK_FAIL_TIMEOUT. -/
def State.lockFail (s : State) (k : Nat) : State :=
  match (s.pll k).lockBy with
  | some t =>
    if k = 0 ∨ (s.pllState k ≠ pllCal ∧ s.pllState k ≠ pllAcq) then s
    else ((s.advance t).raise (pllFailEv k)).pllCalibrate k
  | none => s

/-- COAST_LIMIT. -/
def State.coastLimitAt (s : State) (k : Nat) : State :=
  if 4 < k ∨ s.pllState k ≠ coasting ∨ s.bit (pllStatus k) (if k = 0 then HPLL_STATUS_COAST_LIM else SPLL_STATUS_COAST_LIM) then s
  else (s.advance ((s.pll k).since + s.coastTime k)).coastLimit k

/-- A write of SPLL.CMD: RECAL starts a band calibration. -/
def State.spllCmd (s : State) (t : Nat) (w : Word) : State := if bitF w SPLL_CMD_RECAL then s.pllCalibrate (1 + t) else s

/-- SPLL_RECAL_DUE once when the tile has moved more than RECAL_TEMP since the last band calibration (R340). -/
def State.judgeRecal (s : State) (t : Nat) : State :=
  let lim := s.fld (SPLL_CFG t) SPLL_CFG_RECAL_TEMP
  let due := decide (lim ≠ 0) && decide ((16 * lim : Int) < |s.tileTemp t - (s.pll (1 + t)).calTemp|)
  let u := s.setBit (SPLL_STATUS t) SPLL_STATUS_RECAL_DUE due
  if due && !(s.pll (1 + t)).told then (u.modPll (1 + t) fun p => { p with told := true }).raise Ev.SPLL_RECAL_DUE else u

/-! ### Dividers (R336, R339, R344, R345) -/

/-- The next radio-frame or subframe boundary after now. -/
def State.nextBoundaryOf (s : State) (period : Nat) : Nat := (s.tb.toNat / period + 1) * period

/-- The armed HPLL dividers take effect.  A change of the selected input's takes HPLL, and every SPLL of a tile that is ON, into ACQUIRING; the SPLLs have
their lock time from HPLL's lock (R345).  A coast whose reference is absent goes on until that returns (R351; DEDUCED, log entry 114). -/
def State.applyHpll (s : State) : State :=
  let shadow := fun (b : Nat) => s.reg (if b = 0 then HPLL_REFA_DIV else HPLL_REFB_DIV)
  let changed := shadow s.activeRef != s.refForce s.activeRef
  let u := { (s.setBit HPLL_ARM HPLL_ARM_PENDING false).each [0, 1] (fun (u : State) (b : Nat) => u.setRefForce b (shadow b)) with hpllArm := none }
  if changed then
    let v := { u with spllBlocked := true }.setBit HPLL_STATUS HPLL_STATUS_DET false
    let w := if v.hpllState = coasting ∧ !v.refOk v.activeRef then v else v.pllEnter 0 pllAcq
    w.each tiles fun u t =>
      if u.tileOn t then (u.pllEnter (1 + t) pllAcq).modPll (1 + t) fun p => { p with lockBy := none } else u
  else u

/-- f_LO = 61.44 MHz x (INT + FRAC / 2^24) lies within 1,600 to 12,000 MHz. -/
def lpllInRange (v : Nat) : Bool := 160000 * 2 ^ 24 ≤ 6144 * v && 6144 * v ≤ 1200000 * 2 ^ 24

/-- INT and FRAC of an LPLL as written, in units of 2^-24. -/
def State.lpllShadow (s : State) (t r : Nat) : Nat := s.fld (LPLL_INT t r) LPLL_INT_INT * 2 ^ 24 + s.fld (LPLL_FRAC t r) LPLL_FRAC_FRAC

/-- The armed LPLL settings of a tile take effect. -/
def State.applyLpll (s : State) (t : Nat) : State :=
  ((s.setBit (LPLL_ARM t) LPLL_ARM_PENDING false).setLpllArm t none).each [0, 1] fun u r =>
    let v := u.lpllShadow t r
    let j := 2 * t + r
    if (u.lpllForce j).toNat = v then u
    else if !lpllInRange v then u.raise Ev.LPLL_RANGE
    else
      let w := u.setLpllForce j (BitVec.ofNat 32 v)
      if w.domOn (18 + t) then ((w.dropImage t r).modDfly j fun d => { d with imgOnLock := true }).pllCalibrate (5 + j) else w

/-- A target of ARM: 0 HPLL, 1 + t the LPLLs of tile t. -/
def State.applyTarget (s : State) (target : Nat) : State := if target = 0 then s.applyHpll else s.applyLpll (target - 1)
def State.armOf (s : State) (target : Nat) : Option (Nat × Nat) := if target = 0 then s.hpllArm else s.lpllArm (target - 1)
def State.setArm (s : State) (target : Nat) (a : Option (Nat × Nat)) : State :=
  if target = 0 then { s.setBit HPLL_ARM HPLL_ARM_PENDING a.isSome with hpllArm := a }
  else (s.setBit (LPLL_ARM (target - 1)) LPLL_ARM_PENDING a.isSome).setLpllArm (target - 1) a

/-- A write of ARM. -/
def State.armGo (s : State) (target : Nat) (w : Word) : State :=
  if !bitF w HPLL_ARM_GO then s
  else
    let bad := fun (a : Nat) => s.fld a HPLL_REFA_DIV_R == 0 || s.fld a HPLL_REFA_DIV_N % 16 != 0
    if target = 0 ∧ (bad HPLL_REFA_DIV ∨ bad HPLL_REFB_DIV) then s.accessError
    else
      match getF w HPLL_ARM_EVT with
      | 1 => s.setArm target (some (1, 0))
      | 2 => s.setArm target (some (2, s.nextBoundaryOf frameTc))
      | _ => s.applyTarget target

/-- PLL_ARM_WRITE: HPLL's in Configure only. -/
def State.pllArm (s : State) (target : Nat) (w : Word) : State :=
  if target = 0 then s.configOnly fun s => s.armGo 0 w else s.armGo target w

/-- The boundary an armed change or alignment waits for: the first that the timebase reaches or steps past (R344, R348, R349). -/
def State.firstBoundary (s : State) (b period : Nat) : Nat := min b (s.nextBoundaryOf period)

/-- DIVIDER_APPLY: the frame boundary an arming waits for. -/
def State.dividerApply (s : State) (target : Nat) : State :=
  match s.armOf target with
  | some (2, b) => (s.advanceTb (s.firstBoundary b frameTc)).applyTarget target
  | _ => s

/-! ### Alignment (R68, R347 to R353) -/

/-- ALIGN arms an alignment on tiles; one armed before is replaced. -/
def State.armAlign (s : State) (src : Nat) (tmask : Nat) (hub : Bool) : State :=
  let at_ := if src = 1 then s.nextBoundaryOf frameTc else if src = 2 then s.nextBoundaryOf subframeTc else 0
  let u := s.each (onesOf 4 tmask) fun s t =>
    (s.setAlignArm t (some ⟨src, hub, at_⟩)).setBit (SPLL_STATUS t) SPLL_STATUS_ALIGN_PEND true
  if hub then { u with hubAlign := some (src, BitVec.ofNat 4 tmask) } else u

/-- Sample counts of a tile start anew at this instant, t_A: phases are zero, and what is counted in samples is counted from it (R81, R102, R106). -/
def State.realign (s : State) (t : Nat) : State :=
  let gone : Int := (s.now : Int) - s.origin t
  let n := gone * 5 / 4
  let u := s.each (List.range 64) fun s j => (s.modTxCar (64 * t + j) (·.realign n)).modRxCar (64 * t + j) (·.realign n)
  let u := u.each paths fun s i => s.modTxPath (pathKey t i) fun p => { p with runs := rebaseRuns p.runs n, counted := p.counted - n }
  let u := u.each (List.range 16) fun s d =>
    let k := s.cap (16 * t + d)
    let r := capClock k.src
    let m := gone * r.1 / r.2
    if s.capturing t d ∧ k.src ≠ 5 then s.setCap (16 * t + d) { k with first := k.first - m, next := k.next - m } else s
  let u := u.each paths fun s i => s.modRxPath (pathKey t i) fun p =>
    { p with pm := { p.pm with next := p.pm.next - n }, wpd := { p.wpd with next := p.wpd.next - gone * 15 / 2 } }
  let u := u.each [0, 1] fun s r =>
    if ((s.dfly (2 * t + r)).train).isSome then s.modDfly (2 * t + r) fun d => { d with trainFirst := d.trainFirst - gone * 15 / 4 } else s
  u.setOrigin t u.now

/-- The conditions of R349 under which the alignment of a tile fails. -/
def State.alignFails (s : State) (t src : Nat) : Bool :=
  s.spllState t != pllLocked || s.hpllState == pllOff || s.hpllState == pllAcq
    || (src == 0 && s.hpllState != pllLocked)

/-- This tick is t_A for some tiles: each fails or is re-phased; the offset of HPLL is removed under R353. -/
def State.alignNow (s : State) (ts : List Nat) (src : Nat) : State :=
  let failed := ts.any fun t => s.tileOn t && s.alignFails t src
  let restore := match s.hubAlign with
    | some (sr, m) =>
      decide (sr < 2) && sr == src && !failed && tiles.all fun t =>
        (!s.tileOn t || (m.getLsbD t && ts.contains t)) && (!ts.contains t || ((s.alignArm t).map Align.hub) == some true)
    | none => false
  let u := s.each ts fun s t =>
    let v := (s.setAlignArm t none).setBit (SPLL_STATUS t) SPLL_STATUS_ALIGN_PEND false
    if s.alignFails t src then v.raise (Ev.ALIGN_FAIL t)
    else ((((((v.setTa t v.tb).realign t).rffeMoved t).openRxRuns t 2).setAligningTo t (some (v.now + 8192))).abortBurst t).startCalFollow t
  let u := if ts.any fun t => ((s.alignArm t).map Align.hub) == some true then { u with hubAlign := none } else u
  if restore then { u.setReg HPLL_BO_OFS 0 with detBack := true } else u

/-- The tiles armed for an instant. -/
def State.alignTiles (s : State) (p : Align → Bool) : List Nat := tiles.filter fun t => (s.alignArm t).any p

/-- ALIGN_REFERENCE: the earliest boundary that an armed alignment waits for. -/
def State.alignReference (s : State) : State :=
  match (tiles.filterMap s.alignArm).filter (fun (a : Align) => a.src ≠ 0) with
  | [] => s
  | a :: rest =>
    let due := fun (x : Align) => s.firstBoundary x.at_ (if x.src = 1 then frameTc else subframeTc)
    let first := rest.foldl (fun (b : Align) (x : Align) => if due x < due b then x else b) a
    (s.advanceTb (due first)).alignNow (s.alignTiles fun x => x.src ≠ 0 && due x == due first) first.src

/-- ALIGN_COMPLETE. -/
def State.alignComplete (s : State) (t : Nat) : State :=
  match s.aligningTo t with
  | none => s
  | some e =>
    let u := (((s.advance e).setAligningTo t none).closeRxRuns t 2).raise (Ev.ALIGN_DONE t)
    if u.detBack then { u with detBack := false, detLost := false }.judgeDet else u

/-- TSYNC_IN_EDGE: the edge is timestamped; armed changes of EVT 1 apply; alignments of SRC 0 begin at t_A, `delay` Tc later (R332, R344,
R348). -/
def State.tsyncIn (s : State) (delay : Nat) : State :=
  if !s.tbRuns then s
  else
  let u := { s with tsyncTs := s.tb }
  let u := u.each (List.range 5) fun u k => if (u.armOf k).map Prod.fst = some 1 then u.applyTarget k else u
  match u.alignTiles fun (a : Align) => a.src == 0 with
  | [] => u
  | ts => (u.advance (u.now + delay)).alignNow ts 0

/-- TA_LO_READ. -/
def State.taLoRead (s : State) (t : Nat) : State :=
  { s.setTaHi t ((s.ta t >>> 32).setWidth 32) with reply := (s.ta t).setWidth 32 }

end Sys2Proof.Machine
end

