-- ==== Sys2Proof/Machine/Power.lean ====
section
/-!
DEFINITION. Supplies, power domains, wake and supply dips (R397 to R415).
-/
namespace Sys2Proof.Machine
open Reg F

/-! ### The domains (Tables 17-3 and 17-5) -/

/-- The parent of a domain. -/
def parentOf (d : Nat) : Option Nat :=
  if d = 0 then none else if d = 1 then some 0 else if d < 14 then some 1 else if d < 22 then some (10 + (d - 14) % 4)
  else some (10 + (d - 22) / 4 % 4)

/-- The longest a transition takes, in µs: out of ON, from RET to ON, from OFF to ON. -/
def domTimes (d : Nat) : Nat × Nat × Nat :=
  if d = 1 ∨ (10 ≤ d ∧ d < 14) then (5, 20, 100)
  else if d = 4 then (5, 20, 50)
  else if d = 5 ∨ (14 ≤ d ∧ d < 18) then (1, 2, 10)
  else if d < 10 then (2, 10, 20)
  else (2, 5, 20)

def State.domState (s : State) (d : Nat) : Nat := s.fld (PMU_DOM d) PMU_DOM_STATE
def domOff : Nat := 0
def domRet : Nat := 1
def domIsOn : Nat := 2
def domMoving : Nat := 3

/-- A transition of the domain is under way: STATE shows it. -/
def State.moving (s : State) (d : Nat) : Bool := s.domState d == domMoving
/-- The entry window of the domain is open, or about to open. -/
def State.inWindow (s : State) (d : Nat) : Bool := ((s.domMove d).bind DomMove.window).isSome

/-- A domain is ON or on its way there. -/
def State.rises (s : State) (d : Nat) : Bool := s.domOn d || (s.moving d && ((s.domMove d).map DomMove.target) == some domIsOn)

/-! ### Contents (R403) -/

/-- Entries of a sparse store whose key a test picks are dropped. -/
def dropKeys {α : Type} (l : List (Nat × α)) (p : Nat → Bool) : List (Nat × α) := l.filter fun e => !p e.1

/-- Registers a test picks take their reset values. -/
def State.clearRegs (s : State) (p : Nat → Bool) : State := { s with regs := dropKeys s.regs p }

def inBlock (die block a : Nat) : Bool := dieOf a == die && blockOf a == block

/-- The chain state of a quad of the transmitters, and of the receivers, takes its reset values; registers, counters and armed trims are the tile's
(R407). -/
def State.clearTxq (s : State) (q : Nat) : State :=
  (s.each [0, 1, 2, 3] fun s j =>
    let k := 4 * q + j
    (s.modTxPath k fun p => { armed := p.armed, counted := p.counted, lit := p.lit, ran := p.ran, ranAt := s.now, idleSince := s.now, moved := p.moved }).each cars
      fun s c => s.modTxCar (4 * k + c) fun x => { x with gate := false, spans := [], runs := [], fresh := s.now })
def State.clearRxq (s : State) (q : Nat) : State :=
  (s.each [0, 1, 2, 3] fun s j =>
    let k := 4 * q + j
    (s.modRxPath k fun p => { armed := p.armed, gain := p.gain, replaced := p.replaced, zones := p.zones, counted := p.counted, pm := p.pm, wpd := p.wpd }).each cars
      fun s c => s.modRxCar (4 * k + c) fun x => { x with gate := false, spans := [], runs := x.runs.filter Run.opened, fresh := s.now })

/-- The chain state that a quad's domain holds: what a tile that goes OFF leaves to a quad in RET (R403, R407). -/
def Carrier.chain (k : Carrier) : Carrier := { gate := k.gate, openedAt := k.openedAt, spans := k.spans, runs := k.runs, bad := k.bad, fresh := k.fresh }
def TxPath.chain (p : TxPath) : TxPath :=
  { delay := p.delay, phase := p.phase, past := p.past, gains := p.gains, ran := p.ran, ranAt := p.ranAt, gated := p.gated, idleSince := p.idleSince,
    moved := p.moved, runs := p.runs }
def RxPath.chain (p : RxPath) : RxPath := { delay := p.delay, phase := p.phase, comps := p.comps, past := p.past, zones := p.zones }

/-- What the domains of a tile that are in RET held before it went OFF (R403): its quads and its Dragonfly receivers. -/
def State.keepChildren (s old : State) (t : Nat) : State :=
  let ret := fun d => old.domState d == domRet
  let u := s.each ((List.range 16).filter fun i => ret (22 + 4 * t + i / 4)) fun s i =>
    (s.setTxPath (pathKey t i) (old.txPath (pathKey t i)).chain).each cars fun s c =>
      s.setTxCar (carKey t i c) (old.txCar (carKey t i c)).chain
  let v := u.each ((List.range 16).filter fun i => ret (38 + 4 * t + i / 4)) fun s i =>
    (s.setRxPath (pathKey t i) (old.rxPath (pathKey t i)).chain).each cars fun s c =>
      s.setRxCar (carKey t i c) (old.rxCar (carKey t i c)).chain
  if ret (18 + t) then v.each [0, 1] fun s r => s.setDfly (2 * t + r) (old.dfly (2 * t + r)) else v

/-- The Dragonfly receivers of a tile: image corrections, their results and the training buffers (R407). -/
def State.clearDfly (s : State) (t : Nat) : State :=
  let u := (s.setFld (DFLY_STATUS t) DFLY_STATUS_IMG_VALID 0).each [0, 1] fun s r =>
    ((s.setDfly (2 * t + r) { imgOnLock := true, imgTold := (s.dfly (2 * t + r)).imgTold }).setReg (DFLY_IMG_STAT t r) 0).freeBuffer t r
  u.setFld (DFLY_STATUS t) DFLY_STATUS_TRBUF 0

/-- The contents of tile t. -/
def State.clearTile (s : State) (t : Nat) : State :=
  let mute := s.bit (TXCH_STATUS t) TXCH_STATUS_MUTE_LINK
  let u := s.clearRegs fun a => dieOf a == 1 + t && blockOf a != 0x01
  -- the mute of a lost link lasts until the next start (R18)
  let u := if mute then u.setBit (TXCH_STATUS t) TXCH_STATUS_MUTE_LINK true else u
  let in16 := fun k => k / 16 == t
  let in64 := fun k => k / 64 == t
  let in4 := fun k => k / 4 == t
  let in2 := fun k => k / 2 == t
  let v := { u with
    txCars := dropKeys u.txCars in64, rxCars := dropKeys u.rxCars in64, txPaths := dropKeys u.txPaths in16, rxPaths := dropKeys u.rxPaths in16,
    caps := dropKeys u.caps in16, quadsSt := dropKeys u.quadsSt in4, biases := dropKeys u.biases in16, rffes := dropKeys u.rffes in4,
    dflies := dropKeys u.dflies in2, fwdPowers := dropKeys u.fwdPowers in16, mmRuns := dropKeys u.mmRuns in16,
    dpdTbl := dropKeys u.dpdTbl fun k => k / 65536 == t, dpdSels := dropKeys u.dpdSels in16, dpdSwapAts := dropKeys u.dpdSwapAts in16 }
  let w := { v with
    cals := dropKeys v.cals (· == t), txRfs := dropKeys v.txRfs (· == t), rxRfs := dropKeys v.rxRfs (· == t),
    plls := dropKeys v.plls fun k => k == 1 + t || (5 ≤ k && (k - 5) / 2 == t), lpllForces := dropKeys v.lpllForces in2,
    lpllArms := dropKeys v.lpllArms (· == t), alignArms := dropKeys v.alignArms (· == t), aligning := dropKeys v.aligning (· == t),
    tas := dropKeys v.tas (· == t), taHis := dropKeys v.taHis (· == t), effects := v.effects.filter fun (e : Effect) => e.die != t }
  let x := { w with
    txSyms := dropKeys w.txSyms fun k => k % 4 == t, txData := dropKeys w.txData fun k => k / 4096 % 64 / 16 == t,
    hkAccs := dropKeys w.hkAccs fun k => k / 64 == 1 + t, hkAts := dropKeys w.hkAts fun k => k / 64 == 1 + t,
    diodes := dropKeys w.diodes (· == 1 + t), mons := dropKeys w.mons fun k => k / 32 == 1 + t,
    thrRuns := dropKeys w.thrRuns fun k => k / 4 == 1 + t }
  x.keepChildren s t

/-- The contents of the beam engine and the predistortion solver. -/
def State.clearBeam (s : State) : State :=
  let casc := s.reg SLALOM_CASC_CFG
  let u := (s.clearRegs fun a => inBlock 0 0x02 a || inBlock 0 0x1A a).slalomStart
  -- PART_ID and PARTS_M1 show what the Burog ports hold (R298)
  let u := (u.setFld SLALOM_CASC_CFG SLALOM_CASC_CFG_PART_ID (getF casc SLALOM_CASC_CFG_PART_ID)).setFld SLALOM_CASC_CFG SLALOM_CASC_CFG_PARTS_M1
    (getF casc SLALOM_CASC_CFG_PARTS_M1)
  { u with weights := [], pagesSt := [], coefs := [], jobs := [], solver := none, coefCmd := none }

/-- The symbol store is zero: it holds no message, layer data or path data. -/
def State.clearSymstore (s : State) : State := { s with symClear := s.symWrites, held := [], layerData := [], pathData := [], pathMarks := [] }

/-- The timebase and the network-time unit (block 0x07 but KEEP_CFG, which is always-on). -/
def State.clearTime (s : State) : State :=
  let u := s.clearRegs fun a => inBlock 0 0x07 a && a != TIME_KEEP_CFG
  { u with tb := 0, integ := 0, goodRun := 0, badRun := 0, ownQual := 0, carried := none, refMaster := none, stepDone := none,
           srcAt := u.now, ppsTs := 0, tsyncTs := 0 }

/-- The HPLL block. -/
def State.clearHpll (s : State) : State :=
  let u := s.clearRegs fun a => inBlock 0 0x08 a
  { u with plls := dropKeys u.plls (· == 0), refForces := [], hpllArm := none, hubAlign := none, spllBlocked := false, detLost := false,
           detBack := false }

/-- MACs, fronthaul and journal. -/
def State.clearMac (s : State) : State :=
  let u := s.clearRegs fun a => inBlock 0 0x03 a
  { u with fhMsgs := [], ctrlCmds := [], ctrlLate := false, ctrlRejected := [], ctrlMine := [], flows := [], sfseqs := [], resends := [],
           jrnNext := 0, jrnHead := 0, jrnRecs := [], jrnOldest := 0, jrnOn := false, ports := [] }

/-- Lanes of a hub that lost its supply: DISABLED, without coefficients. -/
def State.clearLanes (s : State) : State := { s.clearRegs (inBlock 0 0x04) with eye := none, lanes := [] }

/-- The Burog ports. -/
def State.clearBurog (s : State) : State := { (s.clearRegs (inBlock 0 0x05)).clearIds with burogs := [], relayIn := [] }

/-- The check-value units. -/
def State.clearCu (s : State) : State := { s.clearRegs (inBlock 0 0x06) with cuRuns := [], cuLos := [] }

/-- Scarab and the debug of its ports. -/
def State.clearScarab (s : State) : State := { s.clearRegs (inBlock 0 0x0A) with pmem := [], chans := [] }

/-- The contents of HUB_RADIO. -/
def State.clearHub (s : State) : State :=
  { ((((((s.clearTime).clearHpll).clearMac).clearLanes).clearBurog).clearCu).clearScarab with capSram := [] }

/-- The contents of processor p, and for the hub's the command FIFOs. -/
def State.clearGlide (s : State) (p : Nat) : State :=
  let u := (s.clearRegs (inBlock p 0x01)).setGlide p {}
  if p = 0 then { u with fifos := [] } else u

/-- The DRAM controller. -/
def State.clearDramc (s : State) : State :=
  -- what stays of a channel is how often its contents have been lost: now too, from retention as from ON (R375)
  { s.clearRegs (inBlock 0 0x09) with
    dramPorts := [], dramTurn := 0, dramSwept := none, dramDueTold := false, dramLock := false, dram := [],
    dramChs := [0, 1].map fun (c : Nat) => (c, { losses := (s.dramCh c).losses + 1 }) }

/-- A domain is unpowered: what it holds is lost (R403); its registers hold their reset values again.  The lanes of a
quad that is off are DISABLED (R250). -/
def State.clearDomain (s : State) (d : Nat) : State :=
  let u :=
    if d = 1 then s.clearHub else if d = 2 then s.clearBeam else if d = 3 then s.clearSymstore else if d = 4 then s.clearDramc
    else if d = 5 then s.clearGlide 0 else if d < 6 then s else if d < 10 then (s.quadGo (d - 6)).lanesSettle
    else if d < 14 then s.clearTile (d - 10) else if d < 18 then s.clearGlide (d - 13) else if d < 22 then s.clearDfly (d - 18)
    else if d < 38 then s.clearTxq (d - 22) else s.clearRxq (d - 38)
  { u with wentOff := if u.wentOff.contains d then u.wentOff else u.wentOff ++ [d] }

/-! ### Entering and leaving ON (R405 to R407) -/

/-- A domain stops as its transition out of ON begins. -/
def State.domStops (s : State) (d target : Nat) : State :=
  if d = 1 then (s.keeperEnter.leaveLock).pllEnter 0 pllOff
  else if d = 4 then { (if target = domRet then s.selfRefresh else s.dramPowerOff) with dramLock := false }.judgeDram
  else if 6 ≤ d ∧ d < 10 then (s.quadGo (d - 6)).lanesSettle
  else if 10 ≤ d ∧ d < 14 then
    let t := d - 10
    (((s.each paths fun s i => s.disableBias t i).judgeQuads t).setFifo t []).pllEnter (1 + t) pllOff
  else if 18 ≤ d ∧ d < 22 then s.each [0, 1] fun s r => s.pllEnter (5 + 2 * (d - 18) + r) pllOff
  else if 22 ≤ d ∧ d < 38 then s.each [0, 1, 2, 3] fun s j => s.modTxPath (4 * (d - 22) + j) fun p => if p.gated then p else p.halt s.now
  else s

/-- A domain is ON again, from RET or from OFF (Table 17-5, last column).  The synthesisers of a domain that was OFF calibrate (Table 14-3); t_A of a tile
that was OFF is 0 (R347); the chains of a quad count from now on. -/
def State.domStarts (s : State) (d : Nat) (fromRet : Bool) : State :=
  if d = 1 then if fromRet then s.pllEnter 0 (if s.refOk s.activeRef then pllAcq else pllOff) else s.pllCalibrate 0
  else if d = 5 ∨ (14 ≤ d ∧ d < 18) then
    s.modGlide (if d = 5 then 0 else d - 13) fun g => { g with st := .halted }
  else if 6 ≤ d ∧ d < 10 then (s.quadGo (d - 6)).lanesSettle
  else if 10 ≤ d ∧ d < 14 then
    let t := d - 10
    ((((if fromRet then s else s.setTa t 0).reloadTile t).seeGates t).judgeQuads t).pllCalibrate (1 + t)
  else if 18 ≤ d ∧ d < 22 then s.each [0, 1] fun s r => s.pllCalibrate (5 + 2 * (d - 18) + r)
  else if 22 ≤ d ∧ d < 38 then s.each [0, 1, 2, 3] fun s j =>
    let q := d - 22
    (s.modTxPath (4 * q + j) fun p => { p with ranAt := s.now }).txFresh (q / 4) (4 * (q % 4) + j)
  else if 38 ≤ d then s.each [0, 1, 2, 3] fun s j => s.rxFresh ((d - 38) / 4) (4 * ((d - 38) % 4) + j)
  else s

/-! ### Requests (R404) -/

/-- Table 17-4. -/
def State.mayLeave (s : State) (d : Nat) : Bool :=
  let idle := fun p => ((s.glide p).st == .halted || (s.glide p).st == .fault) && (s.glide p).queue == []
  if d = 0 then false
  else if d ≤ 3 then s.mode == .configure
  else if d = 5 then idle 0 && tiles.all fun t => s.fifo t == []
  else if d < 14 then true
  else if d < 18 then idle (d - 13)
  else if d < 22 then
    let t := d - 18
    [0, 1].all fun r => !s.dflyBusy t r && !s.dflyOccupied t r
  else if d < 38 then s.seqState ((d - 22) / 4) ((d - 22) % 4) == Seq.off
  else
    let q := d - 38
    let t := q / 4
    let mine := fun i => i / 4 == q % 4
    (paths.all fun i => !mine i || cars.all fun c => !(s.rxCar (carKey t i c)).gate) &&
      (List.range 16).all fun k => !(s.capturing t k && (s.cap (16 * t + k)).src ≤ 6 && mine (s.cap (16 * t + k)).pidx)

/-- The host may make requests in these modes. -/
def State.mayRequest (s : State) : Bool := decide (3 ≤ s.mode.code)

/-- The request passes every rule. -/
def State.domJudge (s : State) (d v : Nat) : Bool :=
  s.mayRequest &&
  (if v = domIsOn then (parentOf d).all s.domOn
   else if s.domOn d then (!(List.range 54).any fun c => parentOf c == some d && s.domOn c) && s.mayLeave d
   else true)

/-- A transition begins. -/
def State.domBegin (s : State) (d target : Nat) : State :=
  let from_ := s.domState d
  let u := (s.setFld (PMU_DOM d) PMU_DOM_STATE domMoving).setDomMove d (some ⟨none, target, s.now, from_ == domRet⟩)
  if from_ = domIsOn then u.domStops d target else u

/-- A request is judged now; `lat` always-on cycles pass before it takes effect, at most 3 (R409). -/
def State.domRequest (s : State) (d v lat : Nat) : State :=
  if v = domMoving ∨ v = s.domState d then s
  else if !s.domJudge d v then
    (((s.setBit (PMU_DOM d) PMU_DOM_REFUSED true).bump (PMU_WARN_COUNT + 8) PMU_CNT_FLAGS 2 1).raise Ev.PMU_REQ_REFUSED)
  else
    let u := s.setFld (PMU_DOM d) PMU_DOM_REQ v
    if s.domOn d then u.setDomMove d (some ⟨some (s.now + usTc (min 3 lat)), v, s.now, false⟩) else u.domBegin d v

/-- A domain that a wake brings back rises as soon as it is at rest and its parent is ON (R411). -/
def State.riseAll (s : State) : State :=
  s.each s.rising fun s d =>
    if s.domOn d ∧ (s.domMove d).isNone then { s with rising := s.rising.erase d }
    else if (s.domMove d).isNone ∧ (parentOf d).all s.domOn then { s with rising := s.rising.erase d }.domBegin d domIsOn
    else s

/-! ### Wake (R408 to R411) -/

/-- A source is in level mode: 0 to 3 the pins, 4 the timer; and asserted. -/
def wakeMode (n : Nat) : Fld := ⟨8 * n, 1⟩
def wakePol (n : Nat) : Fld := ⟨8 * n + 1, 1⟩
def State.wakeLevel (s : State) (n : Nat) : Bool := if n = 4 then s.bit PMU_TIMER_CFG PMU_TIMER_CFG_MODE else s.bit PMU_WAKE_CFG (wakeMode n)
def State.wakeAsserted (s : State) (n : Nat) : Bool :=
  s.wakeLevel n &&
  (if n = 4 then s.bit PMU_TIMER_STAT PMU_TIMER_STAT_FLAG else s.wakePins.getLsbD n != s.bit PMU_WAKE_CFG (wakePol n))

def State.wakeEn (s : State) (d n : Nat) : Bool := (s.fld (PMU_DOM d) PMU_DOM_WAKE_EN).testBit n

/-- The cycle of its window that a domain is in: 0 before cycle 1. -/
def State.windowCycle (s : State) (d : Nat) : Option Nat :=
  ((s.domMove d).bind DomMove.window).map fun w => if s.now < w then 0 else min 4 ((s.now - w) / usTc 1 + 1)

/-- An entry is aborted: the domain stays ON (Table 17-6); a request that waits is judged. -/
def State.domAbort (s : State) (d : Nat) : State :=
  let u := (s.setDomMove d none).setFld (PMU_DOM d) PMU_DOM_REQ domIsOn
  match u.domWait d with
  | some v => (u.setDomWait d none).domRequest d v 3
  | none => u

/-- Every ancestor of a domain, the domain first. -/
def lineOf (d : Nat) : List Nat :=
  match parentOf d with
  | none => [d]
  | some p => match parentOf p with
    | none => [d, p]
    | some q => match parentOf q with
      | none => [d, p, q]
      | some r => [d, p, q, r]

/-- A source wakes the domains: each of them and of their ancestors that is not ON rises, and each whose entry completes first rises after it; one event
raises PMU_WAKE once (R409, R411). -/
def State.wake (s : State) (n : Nat) (ds : List Nat) (after : List Nat) : State :=
  let line := (ds.flatMap lineOf).dedup.filter fun d => !s.rises d && !s.rising.contains d
  let kept := (ds.flatMap lineOf).dedup.filter fun d => s.inWindow d && !ds.contains d
  let more := after.filter fun d => !s.rising.contains d
  let u := s.each kept State.domAbort
  if line ++ more = [] then u
  else
    (({ u with rising := (u.rising ++ line ++ more).mergeSort (· ≤ ·) }.setFld PMU_WAKE_STAT PMU_WAKE_STAT_LAST n).raise Ev.PMU_WAKE).riseAll

/-- An event of source n (Table 17-6). -/
def State.wakeEvent (s : State) (n : Nat) : State :=
  if s.mode = .standby then s
  else
    let on := (List.range 54).filter fun d => s.wakeEn d n
    let early := on.filter fun d => (s.windowCycle d).any fun c => 1 ≤ c && c ≤ 3
    let fourth := on.filter fun d => s.windowCycle d == some 4
    let away := on.filter fun d => !s.domOn d
    if s.wakeLevel n then
      (s.each early State.domAbort).wake n away fourth
    else
      let u := if early ++ fourth = [] then s else
        ((s.setMaskBit PMU_WAKE_STAT PMU_WAKE_STAT_LOST n true).bump (PMU_WARN_COUNT + 4) PMU_CNT_FLAGS 1 1).raise Ev.WAKE_LOST
      u.wake n away []

/-- A level that was there in cycles 1 to 3 of a window aborted the entry (Table 17-6): judged before anything changes the level.  An entry that a level of
cycle 4 has found completes, and is passed over. -/
def State.judgeWindows (s : State) : State :=
  s.each (List.range 54) fun s d =>
    match s.windowCycle d with
    | some (_ + 1) => if !s.rising.contains d && (List.range 5).any fun n => s.wakeEn d n && s.wakeAsserted n then s.domAbort d else s
    | _ => s

/-- Levels that are asserted act: in the cycles of a window, and on the domains that are not ON. -/
def State.judgeLevels (s : State) : State :=
  s.each (List.range 5) fun s n =>
    if s.mode != .standby && s.wakeAsserted n then
      let on := (List.range 54).filter fun d => s.wakeEn d n
      (s.each (on.filter fun d => (s.windowCycle d).any fun c => 1 ≤ c && c ≤ 3) State.domAbort).wake n
        (on.filter fun d => !s.domOn d) (on.filter fun d => s.windowCycle d == some 4)
    else s

/-- DOMAIN_REQUEST: a write of DOM_d. -/
def State.domWrite (s : State) (d : Nat) (w : Word) (lat : Nat) : State :=
  let req := s.fld (PMU_DOM d) PMU_DOM_REQ
  let u := (s.judgeWindows.plainWrite (PMU_DOM d) w)
  let u := u.setFld (PMU_DOM d) PMU_DOM_REQ req
  let v := getF w PMU_DOM_REQ
  (if (u.domMove d).isSome ∧ v ≠ domMoving then u.setDomWait d (some v) else u.domRequest d v lat).judgeLevels

/-- DOMAIN_WINDOW_END: the transition out of ON begins unless a level aborts it. -/
def State.windowEnd (s : State) (d : Nat) : State :=
  match s.domMove d with
  | some ⟨some w, target, _, _⟩ =>
    let u := (s.advance w).judgeWindows
    if u.inWindow d then (u.advance (w + usTc 4)).domBegin d target else u
  | _ => s

/-- DOMAIN_TRANSITION_END, `after` Tc on and no later than Table 17-5 says; the request that waits is judged, unless a wake comes first. -/
def State.domEnd (s : State) (d after : Nat) : State :=
  match s.domMove d with
  | some ⟨none, target, began, fromRet⟩ =>
    let t := domTimes d
    let limit := began + usTc (if target ≠ domIsOn then t.1 else if fromRet then t.2.1 else t.2.2)
    let u := ((s.advance (min (s.now + after) limit)).setDomMove d none).setFld (PMU_DOM d) PMU_DOM_STATE target
    let v := if target = domIsOn then (u.setFld (PMU_DOM d) PMU_DOM_REQ domIsOn).domStarts d fromRet
             else if target = domOff then u.clearDomain d else u
    let x := v.riseAll
    (match x.domWait d with
      | some q => if (x.domMove d).isSome then x else (x.setDomWait d none).domRequest d q 3
      | none => x).judgeLevels
  | _ => s

/-- WAKE_PIN_EVENT: WAKE_n changes its level. -/
def State.wakePin (s : State) (n : Fin 4) (level : Bool) : State :=
  let u := s.judgeWindows
  let old := u.wakePins.getLsbD n
  let v := { u with wakePins := if level then u.wakePins ||| (1#4 <<< n.val) else u.wakePins &&& ~~~ (1#4 <<< n.val) }
  if level ≠ old ∧ level ≠ v.bit PMU_WAKE_CFG (wakePol n) then v.wakeEvent n else v

/-- The period of the always-on timer in Tc. -/
def State.timerTc (s : State) : Nat := usTc (max 1 (s.fld PMU_TIMER_LOAD PMU_TIMER_LOAD_LOAD))

/-- TIMER_CFG_WRITE. -/
def State.timerCfg (s : State) (w : Word) : State :=
  let u := s.judgeWindows.plainWrite PMU_TIMER_CFG w
  ({ u with timerEnd := if bitF w PMU_TIMER_CFG_EN then some (u.now + u.timerTc) else none }).judgeLevels

/-- WAKE_TIMER_EXPIRY: the timer reloads and counts again. -/
def State.timerExpiry (s : State) : State :=
  match s.timerEnd with
  | some e =>
    if s.mode = .standby then s
    else
      let u := (s.advance e).judgeWindows
      let v := { u with timerEnd := some (e + u.timerTc) }
      if v.bit PMU_TIMER_CFG PMU_TIMER_CFG_MODE then (v.setBit PMU_TIMER_STAT PMU_TIMER_STAT_FLAG true).wakeEvent 4 else v.wakeEvent 4
  | none => s

/-- Writes of WAKE_CFG and TIMER_STAT: levels are judged before and after. -/
def State.wakeRegWrite (s : State) (a : Nat) (w : Word) : State := (s.judgeWindows.plainWrite a w).judgeLevels

/-! ### Supply dips (R412, R413) -/

/-- SUPPLY_DIP_BEGIN: main rails (a mask from VDD_CORE_H) have been below warning for 100 ns; dips of several rails are one dip.
SUPPLY_WARN is raised now (DEDUCED, log entry 108). -/
def State.dipBegin (s : State) (rails : BitVec 7) : State :=
  if s.dip.isSome then s.setFld PMU_WARN_STAT PMU_WARN_STAT_RAIL (s.fld PMU_WARN_STAT PMU_WARN_STAT_RAIL ||| rails.toNat)
  else
    let u := (((s.setFld PMU_WARN_STAT PMU_WARN_STAT_RAIL rails.toNat).setBit PMU_WARN_STAT PMU_WARN_STAT_FROZEN true).setBit PMU_WARN_STAT
      PMU_WARN_STAT_BELOW_RESET false).setFld PMU_WARN_STAT PMU_WARN_STAT_DURATION 0
    let v := ({ u with dip := some u.now, freezeEnd := none }.bump PMU_WARN_COUNT PMU_CNT_FLAGS 0 1).raise Ev.SUPPLY_WARN
    if v.bit PMU_WARN_CFG PMU_WARN_CFG_TX_MUTE_ON_WARN then v.autoToQuiet else v

/-- SUPPLY_DIP_END: every rail has been above warning for 100 ns; `below`: one passed its reset threshold for 2 µs or less. -/
def State.dipEnd (s : State) (below : Bool) : State :=
  match s.dip with
  | some b =>
    let units := (s.now - b) * 10000000 / 1966080000
    { (s.setFld PMU_WARN_STAT PMU_WARN_STAT_DURATION (min 65535 units)).setBit PMU_WARN_STAT PMU_WARN_STAT_BELOW_RESET below with
      dip := none, freezeEnd := some (s.now + msTc) }
  | none => s

/-- WARN_FREEZE_END: 1 ms after the last dip. -/
def State.freezeDone (s : State) : State :=
  match s.freezeEnd with
  | some e => { ((((s.advance e).setBit PMU_WARN_STAT PMU_WARN_STAT_FROZEN false).storeDelays).swapsAfterFreeze).beginWrites with freezeEnd := none }
  | none => s

end Sys2Proof.Machine
end

