-- ==== Sys2Proof/Machine/Boot.lean ====
section
/-!
DEFINITION. How the part stops: the unpowered outputs, Standby, the triggers of a start, failed starts and their count, the always-on
domain's brown-out (R32, R399 to R402, R418, R422, R424, R427, R430).
-/
namespace Sys2Proof.Machine
open Reg F

/-- DOM_0 to DOM_53. -/
def isDom (a : Nat) : Bool := PMU_DOM 0 ≤ a && a < PMU_DOM 0 + 4 * 54

/-- The registers that hold their values through Standby: those marked always-on (R356, R415, R428, R334, R460), and LOG_STAT, which is found
again in flash (R439). -/
def alwaysOn (a : Nat) : Bool :=
  [PMU_STATUS, PMU_WAKE_CFG, PMU_WAKE_STAT, PMU_TIMER_CFG, PMU_TIMER_LOAD, PMU_TIMER_STAT, PMU_BOOT_STAT, PMU_BOOT_CFG, TIME_KEEP_CFG,
    THERM_SHUT_REC, RILYN_LOG_STAT].contains a || isDom a

/-- What lies outside the powered domains: the model's own fields, the pins, flash and fuses, and the always-on domain; all else as at
reset, the DRAM contents lost (R13, R403).  The RFFE masters finish
the command in progress (R230). -/
def State.fresh (s : State) : State :=
  ({ State.reset with
    pending := s.pending, now := s.now, free := s.free, reply := s.reply, out := s.out, mode := s.mode,
    regs := s.regs.filter fun x => alwaysOn x.1,
    flash := s.flash, record := s.record, delaySet := s.delaySet, slotA := s.slotA, images := s.images, fuseLevel := s.fuseLevel, logPos := s.logPos,
    keeper := s.keeper, wakePins := s.wakePins, gatePins := s.gatePins,
    symWrites := s.symWrites, symClear := s.symWrites,
    rffes := (s.rffes.filter fun (x : Nat × Rffe) => (x.2.recall s.now).bus.isSome).map fun (x : Nat × Rffe) => (x.1, x.2.emptied s.now),
    porHigh := s.porHigh, railsIn := s.railsIn, strap := s.strap, pcieUp := s.pcieUp,
    standbyHeld := s.standbyHeld, priorShut := s.priorShut, startFailed := s.startFailed, fellBack := s.fellBack, lockstepDue := s.lockstepDue, borDue := s.borDue,
    restartAt := none, startDue := none, wentOff := s.wentOff,
    dramChs := [0, 1].map fun (c : Nat) => (c, ({ losses := (s.dramCh c).losses + 1 } : DramCh)) } : State).setFld
    RILYN_MODE RILYN_MODE_MODE s.mode.code

/-- The outputs take their unpowered states at once (R32, Table 22-4): no gate open, no bias, every quad OFF; the RFFE
masters finish the command in progress (R230).  The pins keep these states until POR_N is released (R398). -/
def State.outputsDown (s : State) : State :=
  let isOut := fun (a : Nat) => dieOf a != 0 && [blockOf (SEQ_CMD 0), blockOf (BIASOUT_CFG 0 0), blockOf (RFFE_CMD 0 0)].contains (blockOf a)
  let u := s.each tiles fun s t => (s.closeAllTx t).closeAllRx t
  ({ u.clearRegs isOut with quadsSt := [], biases := [] } : State).rffeFlush

/-- A field of BOOT_STAT. -/
def State.boot (s : State) (f : Fld) : Nat := s.fld PMU_BOOT_STAT f
def State.setBoot (s : State) (f : Fld) (v : Nat) : State := s.setFld PMU_BOOT_STAT f v

/-! ### Standby (Table 1-9, R399, R400, R403) -/

/-- Every domain is OFF, and the regulator in its low-power mode. -/
def State.allOff (s : State) (held : Bool) : State :=
  let w := s.each (List.range 54) fun v d => v.setFld (PMU_DOM d) PMU_DOM_STATE domOff
  { w.setBit PMU_STATUS PMU_STATUS_REG_LP true with standbyHeld := held, wentOff := List.range 54 }

/-- Entry to Standby: every domain but the always-on goes OFF; the keeper runs on if STBY says so. -/
def State.enterStandby (s : State) (held : Bool) : State :=
  if s.mode = .standby then s
  else
    let u := if !s.bit TIME_KEEP_CFG TIME_KEEP_CFG_STBY then { s with keeper := { s.keeper with stored := none } }
             else if s.keeper.stored.isSome then s else s.keeperEnter
    ((((u.scDisableAll.cutShort.outputsDown).enterMode .standby).fresh).setBoot PMU_BOOT_STAT_RETAIN_OK 0).allOff held

/-- RAIL_RESET_TIMEOUT: a main rail has been below its reset threshold for more than 2 µs. -/
def State.railReset (s : State) : State := { s.enterStandby false with railsIn := false, standbyHeld := false }

/-! ### Triggers of a start (Table 1-9, R419, R427) -/

/-- A start is triggered: Scarab's channels disabled (R382), outputs unpowered at once, mode Boot; the start follows (log entry 47). -/
def State.trigger (s : State) (warm : Bool) : State :=
  { (((s.scDisableAll.cutShort.outputsDown).enterMode .boot).setBit PMU_STATUS PMU_STATUS_REG_LP false).lanesDown (warm && s.bit PMU_BOOT_STAT PMU_BOOT_STAT_RETAIN_OK) with startDue := some warm, shut := none, thermShut := false, standbyHeld := false }

/-- POR_N_ASSERT: the counters are cleared and IMAGE is A (R422); outside Standby the part is in Boot. -/
def State.porAssert (s : State) : State :=
  let u := ((s.setBoot PMU_BOOT_STAT_WARM_FAILS 0).setBoot PMU_BOOT_STAT_COLD_FAILS 0).setBoot PMU_BOOT_STAT_IMAGE 0
  let v := if s.mode = .standby then u else u.trigger false
  { v with porHigh := false, fellBack := false, startDue := none }

/-- POR_N_RELEASE: the straps are sampled (R483); with valid supplies a cold start begins, also after a thermal shutdown (R460). -/
def State.porRelease (s : State) (gpio : BitVec 2) : State :=
  if s.porHigh then s
  else
    let u := { s with porHigh := true, strap := gpio }
    if u.railsIn then u.trigger false else u

/-- WARM_N_PULSE of at least 1 µs: DRAM into self-refresh, then a warm start; not while POR_N is low, supplies are invalid or a thermal
shutdown is in progress (R458) or holds the part in Standby (R460). -/
def State.warmPulse (s : State) : State :=
  if !s.porHigh || !s.railsIn || s.standbyHeld || s.thermShut then s else (s.selfRefresh).trigger true

/-- RAILS_VALID: every main rail has been in range for 1 ms, so VDD_CORE_H is, and the regulator is in its normal mode (R400; DEDUCED, log entry 114); with POR_N high the part leaves Standby by a cold start (R399). -/
def State.railsValid (s : State) : State :=
  let u := { s.setBit PMU_STATUS PMU_STATUS_REG_LP false with railsIn := true }
  if u.mode = .standby ∧ u.porHigh ∧ !u.standbyHeld then u.trigger false else u

/-- The restart that RESTART has asked for begins 1 ms after its response; one that leads to a warm start self-refreshes DRAM (R375). -/
def State.restartBegin (s : State) : State :=
  match s.restartAt with
  | some (warm, at_) =>
    let u := s.advance at_
    if warm then (u.selfRefresh).trigger true else u.trigger false
  | none => s

/-! ### Failed starts (R418, R422 to R424) -/

/-- Recovery: nothing starts any more until an image or POR_N comes. -/
def State.enterRecovery (s : State) : State :=
  ({ s with starting := none, startDue := none }.setBoot PMU_BOOT_STAT_COLD_FAILS 3).enterMode .recovery |>.lanesDown false |>.raise Ev.START_RECOVERY

/-- A start in progress fails with a code in a step: it is counted, and the next start begins at once, or Recovery. -/
def State.failStart (s : State) (code step : Nat) : State :=
  match s.starting with
  | none => s
  | some st =>
    let u := { (((s.setBoot PMU_BOOT_STAT_FAIL code).setBoot PMU_BOOT_STAT_STEP step).cutShort.outputsDown) with startFailed := true }
    if code ≠ 3 ∧ st.warm then
      let n := u.boot PMU_BOOT_STAT_WARM_FAILS + 1
      if 3 ≤ n then { u.setBoot PMU_BOOT_STAT_WARM_FAILS 0 with startDue := some false }
      else { u.setBoot PMU_BOOT_STAT_WARM_FAILS n with startDue := some true }
    else
      let n := if code = 3 then 3 else u.boot PMU_BOOT_STAT_COLD_FAILS + 1
      if n < 3 then { u.setBoot PMU_BOOT_STAT_COLD_FAILS n with startDue := some false }
      else if u.boot PMU_BOOT_STAT_IMAGE = 0 then
        { (u.setBoot PMU_BOOT_STAT_IMAGE 1).setBoot PMU_BOOT_STAT_COLD_FAILS 0 with startDue := some false, fellBack := true }
      else u.enterRecovery

/-- START_WATCHDOG: the start has not completed TMO ms after it began; values below 200 act as 200. -/
def State.startWatchdog (s : State) (step : Nat) : State :=
  match s.starting with
  | some st => (s.advance (st.began + msTc * max 200 (s.fld PMU_BOOT_CFG PMU_BOOT_CFG_TMO))).failStart 6 step
  | none => s

/-- LOCKSTEP_MISMATCH: during a start it is failure 5; at any other time outside Standby, but in a thermal shutdown (R458), an uncounted warm start begins (R430).  The cores do
not run while POR_N is low, and a start that is due resets them (log entry 63). -/
def State.lockstep (s : State) (step : Nat) : State :=
  if s.mode = .standby || s.thermShut || !s.porHigh || s.startDue.isSome then s
  else if s.starting.isSome then s.failStart 5 step
  else { s.trigger true with lockstepDue := true }

/-- A valid image in Recovery: image A, counters clear, a cold start (R424). -/
def State.recovered (s : State) : State :=
  { ((s.setBoot PMU_BOOT_STAT_IMAGE 0).setBoot PMU_BOOT_STAT_WARM_FAILS 0).setBoot PMU_BOOT_STAT_COLD_FAILS 0 with fellBack := false }.trigger false

/-! ### The always-on domain (R402, R428) -/

/-- Every always-on register takes its reset value, but the domains' states and the regulator's mode; the keeper's count is void. -/
def State.aonReset (s : State) : State :=
  let u := { s.clearRegs (fun a => alwaysOn a && !isDom a && a != RILYN_LOG_STAT) with
    timerEnd := none, fellBack := false, keeper := { s.keeper with ratio := none, lost := s.keeper.stored.isSome } }
  (u.each (List.range 54) fun u d => (u.setFld (PMU_DOM d) PMU_DOM_WAKE_EN 0).setBit (PMU_DOM d) PMU_DOM_REFUSED false).setBit PMU_STATUS
    PMU_STATUS_REG_LP (s.bit PMU_STATUS PMU_STATUS_REG_LP)

/-- AON_BROWNOUT_DETECT: possible in the regulator's low-power mode only, so in Standby; AON_BOR is set and RETAIN_OK cleared. -/
def State.brownout (s : State) : State :=
  if s.bit PMU_STATUS PMU_STATUS_REG_LP then { s.aonReset.setBit PMU_STATUS PMU_STATUS_AON_BOR true with borDue := true } else s

/-- AON_POWER_UP: VDD_AON rises on an unpowered part: nothing but flash and fuses has kept a value. -/
def State.aonPowerUp (s : State) : State :=
  let u := (({ s with keeper := {} }.enterStandby false).fresh).aonReset
  let v := u.each (List.range 54) fun v d => v.setFld (PMU_DOM d) PMU_DOM_STATE domOff
  { v.setBit PMU_STATUS PMU_STATUS_REG_LP true with
    mode := .standby, railsIn := false, porHigh := false, standbyHeld := false, startFailed := false, fellBack := false, lockstepDue := false, borDue := false, strap := 0, keeper := {}, wentOff := List.range 54, pcieUp := false }

end Sys2Proof.Machine
end

