-- ==== Sys2Proof/Machine/Rilyn.lean ====
section
/-!
DEFINITION. Rilyn's commands, M-plane frames, log, images and housekeeping ADCs (R434 to R449).
-/
namespace Sys2Proof.Machine
open Reg F

/-! ### When flash is free (R413, R434, R444) -/

/-- A command that uses flash waits until it may (R434): till then it does not occur. -/
def State.rilynFlash (s : State) (op : Nat) (writes : Bool) (f : State → RilynCmd → State) : State :=
  if (if writes then s.flashFree else s.flashOpen) then s.rilyn op f else s

/-! ### Identity, restart, start record -/

/-- A slot's image while it is valid: its level is at least the fused level (R441, R443). -/
def State.validImage (s : State) (slot : Nat) : Option Image := (s.image slot).filter fun i => s.fuseLevel ≤ i.level

/-- GET_ID. -/
def State.getId (s : State) : State :=
  s.rilyn 0x01 fun s c =>
    let v := fun slot => ((s.validImage slot).map Image.version).getD 0
    s.respond c 0 [s.reg RILYN_IDENT, s.reg RILYN_SERIAL_LO, s.reg RILYN_SERIAL_HI, v s.slotA, v (1 - s.slotA),
      BitVec.ofNat 32 (s.fuseLevel + 256 * s.boot PMU_BOOT_STAT_IMAGE)]

/-- RESTART: the start begins 1 ms after the response; from Recovery only a cold one.  M-plane frames that wait are dropped (Table 19-9). -/
def State.restart (s : State) : State :=
  s.rilyn 0x03 fun s c =>
    if 2 ≤ c.param 0 then s.respond c 2
    else if s.mode = .recovery ∧ c.param 0 = 0 then s.respond c 3
    else { s.respond c 0 with restartAt := some (c.param 0 == 0, s.now + msTc), rilynQ := [] }

/-- The blocks a start record may name (R417). -/
def recordBlock (a : Nat) : Bool :=
  [(HPLL_CTRL), (LANEQ_QCFG 0), (MAC_PCFG 0), (BUROG_CFG), (DRAMC_CFG), (TXCH_CTRL 0), (RXCH_STATUS 0), (LPLL_ARM 0), (DFLY_CTRL 0)].any fun b =>
    blockOf b == blockOf a && (dieOf b == 0) == (dieOf a == 0) && dieOf a ≤ 4

/-- REC_WRITE; `ok`: the flash verified. -/
def State.recWrite (s : State) (ok : Bool) : State :=
  s.rilynFlash 0x10 true fun s c =>
    let n := c.param 0
    if 4096 < n then s.respond c 2
    else
      let es := (List.range n).map fun i => ((s.bufWord (2 * i)).toNat % 2 ^ 28, s.bufWord (2 * i + 1))
      if es.any fun e => !recordBlock e.1 then s.respond c 2
      else if ok then { s with record := some es }.respond c 0
      else s.respond c 4

/-- REC_READ. -/
def State.recRead (s : State) : State :=
  s.rilynFlash 0x11 false fun s c =>
    let es := s.record.getD []
    let u := s.each (List.range es.length) fun s i =>
      let e := es.getD i (0, 0)
      (s.setBufWord (2 * i) (BitVec.ofNat 32 e.1)).setBufWord (2 * i + 1) e.2
    u.respond c 0 [BitVec.ofNat 32 es.length] (8 * es.length)

/-! ### Images (R441 to R443) -/

/-- First byte and size of an image slot, and erasure. -/
def slotBase (slot : Nat) : Nat := 0x100000 + 0x800000 * slot
def State.eraseFlash (s : State) (a n : Nat) : State := { s with flash := dropKeys s.flash fun k => a ≤ k && k < a + n }
def State.flashStore (s : State) (a : Nat) (bs : List Byte) : State := s.each (List.range bs.length) fun s i => s.setFlashByte (a + i) (bs.getD i 0)
def State.flashLoad (s : State) (a n : Nat) : List Byte := (List.range n).map fun i => s.flashByte (a + i)

/-- An update begins or ends. -/
def State.setUpdate (s : State) (u : Option Nat) : State := { s.setBit RILYN_STATUS RILYN_STATUS_UPDATE u.isSome with update := u }

/-- IMG_BEGIN: the slot that does not hold A is erased; `ok`: the erase verified. -/
def State.imgBegin (s : State) (ok : Bool) : State :=
  s.rilynFlash 0x20 true fun s c =>
    if c.param 0 = 0 ∨ 0x800000 < c.param 0 then s.respond c 2
    else
      let u := (s.eraseFlash (slotBase (1 - s.slotA)) 0x800000).setImage (1 - s.slotA) none
      ((u.setUpdate (if ok then some (c.param 0) else none)).logKind 4).respond c (if ok then 0 else 4)

/-- IMG_CHUNK; `ok`: the data read back right; else what the program left is free. -/
def State.imgChunk (s : State) (ok : Bool) : State :=
  s.rilynFlash 0x21 true fun s c =>
    match s.update with
    | none => s.respond c 3
    | some len =>
      let o := c.param 0
      let n := c.param 1
      let most := if c.origin = .mailbox then 65536 else 8192
      if n < 4 ∨ most < n ∨ len < o + n then s.respond c 2
      else if ok then ((s.flashStore (slotBase (1 - s.slotA) + o) (s.bufBytes n)).logKind 4).respond c 0
      else (({ s.each (List.range n) fun s i => s.setFlashByte (slotBase (1 - s.slotA) + o + i) ((Config.freeValue (s.free + i)).setWidth 8) with
        free := s.free + n } : State).logKind 4).respond c 4

/-- A slot becomes image A. -/
def State.switchSlots (s : State) (img : Image) : State :=
  ({ s.setImage (1 - s.slotA) (some img) with slotA := 1 - s.slotA }.setBoot PMU_BOOT_STAT_IMAGE 0).setBoot PMU_BOOT_STAT_COLD_FAILS 0

/-- IMG_END: the slot is verified; `img`: version and level of an image whose header and signature pass.  In Recovery a cold start follows
(R424). -/
def State.imgEnd (s : State) (img : Option (Word × Nat)) : State :=
  s.rilynFlash 0x22 true fun s c =>
    match s.update with
    | none => s.respond c 3
    | some _ =>
      let u := (s.setUpdate none).logKind 4
      match img with
      | none => u.respond c 5
      | some (v, level) =>
        if 63 < level then u.respond c 5
        else if level < u.fuseLevel then u.respond c 6
        else
          let w := (u.switchSlots ⟨v, level⟩).respond c 0 [v, BitVec.ofNat 32 level]
          if w.mode = .recovery then w.recovered else w

/-- IMG_ABORT. -/
def State.imgAbort (s : State) : State := s.rilyn 0x23 fun s c => ((s.setUpdate none).logKind 4).respond c 0

/-- ARB_COMMIT. -/
def State.arbCommit (s : State) : State :=
  s.rilyn 0x24 fun s c =>
    if s.ranSlot ≠ some s.slotA then s.respond c 3
    else
      let level := max s.fuseLevel (((s.image s.slotA).map Image.level).getD 0)
      { s with fuseLevel := level }.respond c 0 [BitVec.ofNat 32 level]

/-- RECOVERY_POLL: the image on chip select 1, if one verifies, is written to image A and started (R424); not while no
program may start (R413). -/
def State.recoveryPoll (s : State) (img : Option (Word × Nat)) : State :=
  if s.mode ≠ .recovery ∨ !s.flashFree then s
  else
    match img with
    | some (v, level) => if s.fuseLevel ≤ level then ((s.setUpdate none).setImage s.slotA (some ⟨v, level⟩)).recovered else s
    | none => s

/-! ### The log (R438 to R440) -/

/-- The log ring of a 32 MiB device: first byte, records. -/
def logBase : Nat := 0x1100000
def logRing : Nat := 245760

/-- Bytes of a record, detail and check value included. -/
def logBytes (number : Nat) (r : LogRec) (detail : List Byte) : List Byte :=
  let body := leNat 4 number ++ leNat 2 r.kind ++ leNat 1 r.src ++ leNat 1 r.repeats ++ leNat 8 r.tb.toNat ++ leNat 1 r.qual ++ [0, 0, 0] ++ detail
  body ++ leNat 4 (checkValue (BitVec.ofNat 32 number) body).toNat

/-- LOG_RECORD_WRITE: the oldest record that waits goes to its place in the ring; a sector that is not erased is erased first. -/
def State.logWrite (s : State) : State :=
  match s.logQ with
  | [] => s
  | r :: rest =>
    if !s.flashFree || s.mode == .standby then s
    else
      let last := (s.reg RILYN_LOG_STAT).toNat
      let number := if last + 1 = 2 ^ 32 then 1 else last + 1
      let a := logBase + 64 * s.logPos
      let sector := a / 65536 * 65536
      let u := if a = sector ∧ s.flash.any (fun (x : Nat × Byte) => sector ≤ x.1 && x.1 < sector + 65536) then s.eraseFlash sector 65536 else s
      let detail := (List.range 5).flatMap fun i => leNat 8 (Config.freeValue (u.free + i)).toNat
      let bs := logBytes number r detail
      let v := { (u.flashStore a bs).setReg RILYN_LOG_STAT (BitVec.ofNat 32 number) with
        free := u.free + 5, logQ := rest, logPos := (u.logPos + 1) % logRing }
      if number = 1 ∧ last ≠ 0 then v.raise Ev.LOG_WRAP else v

/-- The places of the ring that hold anything. -/
def State.logSlots (s : State) : List Nat :=
  ((s.flash.filter fun (x : Nat × Byte) => logBase ≤ x.1 && x.1 < logBase + 64 * logRing).map fun x => (x.1 - logBase) / 64).dedup

/-- Number and bytes of the record at a place, and whether it passes its check. -/
def State.logAt (s : State) (slot : Nat) : Nat × List Byte × Bool :=
  let bs := s.flashLoad (logBase + 64 * slot) 64
  let number := natLe (bs.take 4)
  (number, bs, natLe (bs.drop 60) == (checkValue (BitVec.ofNat 32 number) (bs.take 60)).toNat)

/-- CU_9 checks a record that is read: RUN and RESULT show it, and a mismatch is found by it (R306, R309) and counted in LOG_BAD (R439). -/
def State.logCheck (s : State) (r : Nat × List Byte × Bool) : State :=
  let prefix_ := BitVec.ofNat 32 r.1
  let body := r.2.1.take 60
  let u := s.cuShow 9 prefix_ body
  if r.2.2 then u
  else (u.cuMismatch 9 (checkValue prefix_ body) (BitVec.ofNat 32 (natLe (r.2.1.drop 60))) prefix_).bump RILYN_LOG_BAD RILYN_CNT_FLAGS 2 1

/-- How many records a number lies behind the newest, numbers skipping 0. -/
def logAge (newest n : Nat) : Nat := if n ≤ newest then newest - n else newest + 2 ^ 32 - 1 - n

/-- Records in the order of their numbers, counted from a first one. -/
def insertRec (first : Nat) (r : Nat × List Byte × Bool) : List (Nat × List Byte × Bool) → List (Nat × List Byte × Bool)
  | [] => [r]
  | x :: l => if logAge r.1 first ≤ logAge x.1 first then r :: x :: l else x :: insertRec first r l

/-- LOG_INFO. -/
def State.logInfo (s : State) : State :=
  s.rilynFlash 0x30 false fun s c =>
    let newest := (s.reg RILYN_LOG_STAT).toNat
    let all := s.logSlots.map s.logAt
    let good := all.filter fun r => r.2.2
    let s := (all.foldr (insertRec 0) []).foldl State.logCheck s
    let oldest := good.foldl (fun b r => if logAge newest b < logAge newest r.1 then r.1 else b) (if good = [] then 0 else newest)
    s.respond c 0 [BitVec.ofNat 32 oldest, BitVec.ofNat 32 newest, BitVec.ofNat 32 good.length]

/-- LOG_READ: passing records in ascending order, 0xFFFF_FFFF followed by 1; one that fails is discarded and counted. -/
def State.logRead (s : State) : State :=
  s.rilynFlash 0x31 false fun s c =>
    let first := c.param 0
    let count := c.param 1
    let most := if c.origin = .mailbox then 1024 else 128
    if count = 0 ∨ most < count then s.respond c 2
    else
      let all := (s.logSlots.map s.logAt).filter fun r => decide (logAge r.1 first < count)
      let good := (all.filter fun r => r.2.2).foldr (insertRec first) []
      let u := (all.foldr (insertRec first) []).foldl State.logCheck s
      (u.bufLoad (good.flatMap fun r => r.2.1)).respond c 0 [BitVec.ofNat 32 good.length] (64 * good.length)

/-! ### Sensors, PTP, delays, streams -/

/-- A voltage of n steps of `full` µV / 4,096, in µV; its rounding is not stated. -/
def microVolts (full : Nat) (n : Int) : Int :=
  let q := n * full
  q / 4096 + (if q % 4096 ≠ 0 ∧ Config.roundMicro q then 1 else 0)

/-- The value of a housekeeping channel (R448): temperature in 1/16 °C, or the voltage in µV; of an output in voltage range full range is 2.5 V
(R222, R226; log entry 69). -/
def State.sensorValue (s : State) (die ch : Nat) : Int :=
  if ch = 40 then signed 16 (s.fld (THERM_READING die) THERM_READING_TEMP)
  else
    let r := s.fld (HKADC_RES die ch) HKADC_RES_VALUE
    let diff := ch < 32 && ch % 2 == 0 && s.bit (HKADC_CHCFG die ch) HKADC_CHCFG_DIFF
    let code : Int := if diff then signed 16 r else (r : Int)
    if ch < 32 then microVolts 1200000 code
    else if 48 ≤ ch ∧ die ≠ 0 ∧ !s.bit (BIASOUT_CFG (die - 1) (ch - 48)) BIASOUT_CFG_RANGE then microVolts 2500000 code
    else Config.nodeMicro ch code

/-- SENSOR_READ. -/
def State.sensorRead (s : State) : State :=
  s.rilyn 0x40 fun s c =>
    let die := c.param 0 / 65536 % 16
    let ch := c.param 0 % 64
    if 4 < die then s.respond c 2
    else
      let valid := if ch = 40 then s.bit (THERM_READING die) THERM_READING_VALID else s.bit (HKADC_RES die ch) HKADC_RES_VALID
      let age := min (2 ^ 31 - 1) ((s.now - s.hkAt (64 * die + ch)) * 100 / 196608)
      s.respond c 0 [BitVec.ofInt 32 (s.sensorValue die ch), BitVec.ofNat 32 (b2n valid * 2 ^ 31 + age)]

/-- PTP_GET and PTP_SET; a changed dataset has the states of the ports judged anew (R320). -/
def State.ptpGet (s : State) : State :=
  s.rilyn 0x50 fun s c => if 8 ≤ c.param 0 ∨ 6 ≤ c.param 1 then s.respond c 2 else s.respond c 0 [s.ptp (8 * c.param 0 + c.param 1)]
def State.ptpSet (s : State) : State :=
  s.rilyn 0x51 fun s c =>
    if 8 ≤ c.param 0 ∨ 6 ≤ c.param 1 then s.respond c 2 else ({ s.setPtp (8 * c.param 0 + c.param 1) (BitVec.ofNat 32 (c.param 2)) with ptpEvents := s.ptpEvents + 1 }).respond c 0

/-- DLY_RESULT; seconds and compensation as two words, the higher first. -/
def State.dlyResult (s : State) : State :=
  s.rilyn 0x52 fun s c =>
    if 8 ≤ c.param 0 ∨ 256 ≤ c.param 1 then s.respond c 2
    else
      let r := s.dlyRes (256 * c.param 0 + c.param 1)
      let wide := fun (n : Nat) => [BitVec.ofNat 32 (n / 2 ^ 32), BitVec.ofNat 32 n]
      s.respond c 0 (wide r.t1.1 ++ [BitVec.ofNat 32 r.t1.2] ++ wide r.t2.1 ++ [BitVec.ofNat 32 r.t2.2] ++ wide r.comp ++ [BitVec.ofNat 32 (b2n r.present)])

/-- QSPI_STREAM. -/
def State.qspiStream (s : State) : State :=
  s.rilyn 0x60 fun s c =>
    let cs := c.param 0 % 2
    let write := c.param 0 / 2 % 2 == 1
    if 4 ≤ c.param 0 ∨ (cs = 0 ∧ write) then s.respond c 2
    else if s.qspi.isSome then s.respond c 3
    else { s with qspi := if c.param 2 = 0 then none else some ⟨cs, write, c.param 1, c.param 2⟩ }.respond c 0

/-! ### M-plane frames (R435, R436) -/

/-- A request laid out as Table 19-2 in bytes; a LEN the bytes do not hold is wrong for every OP. -/
def requestOf (origin : Origin) (bs trailer : List Byte) (at_ : Nat) : RilynCmd :=
  let h := num bs 0 4
  let len := h % 65536
  ⟨origin, h / 2 ^ 24, h / 65536 % 256, if bs.length < 4 + len then 65535 else len,
    (List.range (min 63 (len / 4))).map fun i => BitVec.ofNat 32 (num bs (4 + 4 * i) 4), trailer, at_⟩

/-- Number of bytes of the request at the head of a frame's content, word 0 included. -/
def requestLen (bs : List Byte) : Nat := 4 + num bs 0 4 % 65536

/-- A request addressed to this part: the stored response again, a place in the queue of 4, or dropped. -/
def State.mplaneQueue (s : State) (c : RilynCmd) : State :=
  match s.repeated c with
  | some d => s.answerAgain c d
  | none =>
    if 4 ≤ s.rilynQ.length then (s.bump RILYN_MPLANE_DROP RILYN_CNT_FLAGS 1 1).raise Ev.MPLANE_DROP
    else { s with rilynQ := s.rilynQ ++ [c] }.dropUnknown 8

/-- MPLANE_FRAME: the first frame given to Rilyn. -/
def State.mplaneFrame (s : State) : State :=
  match s.mgmtIn with
  | [] => s
  | m :: rest =>
    let s := { s with mgmtIn := rest }
    let o := payloadAt m.bytes
    let body := m.bytes.drop o
    if slice m.bytes 0 6 ≠ s.portAddr m.port ∨ num m.bytes (o - 2) 2 ≠ s.fld RILYN_MPLANE_CFG RILYN_MPLANE_CFG_ETYPE ∨ body.length < 8 ∨ s.mode.code < 3 then
      s.bump RILYN_MPLANE_DISCARD RILYN_CNT_FLAGS 0 1
    else
      let src := slice m.bytes 6 6
      let part := num body 0 4 / 2 ^ 30
      let seq := num body 0 4 % 65536
      let req := body.drop 4
      let n := requestLen req
      if part ≠ s.partId then s.relay 4 part s.partId m.port seq (src ++ req.take n) (req.drop n |>.take 8192)
      else s.mplaneQueue (requestOf (.frame m.port src part seq) (req.take n) (req.drop n |>.take 8192) m.at_)

/-! ### Relayed messages (R436) -/

/-- The fields of a relayed message's header, and its content bytes. -/
structure Relayed where
  msg : Nat
  dest : Nat
  origin : Nat
  more : Bool
  port : Nat
  seq : Nat
  bytes : List Byte
  deriving DecidableEq, Repr

def relayedOf (l : List (BitVec 256)) : Relayed :=
  let v := payloadsNat l
  let total := 256 * l.length
  let g := takeBits v total
  let n := g 48 16
  ⟨g 0 4, g 4 2, g 6 2, g 8 1 == 1, g 9 3, g 32 16, (List.range n).map fun i => BitVec.ofNat 8 (g (64 + 8 * i) 8)⟩

/-- A complete relayed message at its part: a request joins the queue, or gets its stored response again; a reply goes out on its port. -/
def State.relayDone (s : State) (k : Nat) (r : Relayed) (trailer : List Byte) : State :=
  let src := r.bytes.take 6
  let body := r.bytes.drop 6
  if r.msg = 4 then s.mplaneQueue (requestOf (.relayed k src r.port r.origin r.seq) body trailer s.now)
  else s.sendMplane r.port src r.origin r.seq (body ++ trailer)

def Relayed.header (r : Relayed) : List Byte :=
  [r.msg, r.dest, r.origin, b2n r.more, r.port, r.seq / 256, r.seq].map fun n => BitVec.ofNat 8 n
def relayedBack (bs : List Byte) : Relayed :=
  let g := fun i => (bs.getD i 0).toNat
  ⟨g 0, g 1, g 2, g 3 == 1, g 4, g 5 * 256 + g 6, bs.drop 7⟩

/-- MPLANE_RELAY_MESSAGE: message `msg` (4 request, 5 reply, 6 trailer) waiting at Burog port k: for another part it goes on, for this part
it is used, with its trailer where one follows. -/
def State.relayMessage (s : State) (k msg : Nat) : State :=
  match s.burogTake k (if msg = 6 then 3 else 2) msg with
  | none => s
  | some (l, s) =>
    let r := relayedOf l
    if r.dest ≠ s.partId then s.burogPost (s.wayTo r.dest) (if msg = 6 then 3 else 2) l
    else if msg = 6 then
      match s.relayIn.find? fun (x : Nat × List Byte) => x.1 == k with
      | some x => { s with relayIn := s.relayIn.erase x }.relayDone k (relayedBack x.2) r.bytes
      | none => s
    else if r.more then { s with relayIn := s.relayIn ++ [(k, r.header ++ r.bytes)] }
    else s.relayDone k r []

/-! ### Housekeeping ADCs (R445 to R449) -/

/-- The die's ADC converts the channel: not reserved, in the scan or converted anyway, not the second of a differential pair. -/
def State.hkConverts (s : State) (die ch : Nat) : Bool :=
  let scan := s.maskBit (if ch < 32 then HKADC_SCAN_EN_LO die else HKADC_SCAN_EN_HI die) HKADC_SCAN_EN_LO_EN (ch % 32)
  let alive := s.mode != .standby && (die == 0 || s.domOn (9 + die))
  alive &&
  (if ch < 32 then die != 0 && scan && !(ch % 2 == 1 && s.bit (HKADC_CHCFG die (ch - 1)) HKADC_CHCFG_DIFF)
   else if ch < 38 then scan
   else if ch = 40 then true
   else if 48 ≤ ch then die != 0 && (scan || s.biasState (die - 1) (ch - 48) == BiasSt.drive)
   else false)

/-- A code corrected by the die's trims: its gain, rounded to nearest, and its offset (R198; PRESUMED form, log entry 94). -/
def State.hkTrimmed (s : State) (die : Nat) (v : Int) : Int :=
  let x := (s.hkTrims.lookup die).getD (0, 65536)
  roundDiv (v * x.2) 65536 + x.1

/-- HKADC_RESULT: a conversion of a channel; the last of an average is placed in RES. -/
def State.hkResult (s : State) (die ch : Nat) (conv : BitVec 16) : State :=
  if !s.hkConverts die ch then s
  else
    let diff := ch < 32 && ch % 2 == 0 && s.bit (HKADC_CHCFG die ch) HKADC_CHCFG_DIFF
    let v : Int := if diff then clampI (-4096) 4095 (s.hkTrimmed die conv.toInt) else clampI 0 4095 (s.hkTrimmed die (conv.toNat % 4096 : Nat))
    let key := 64 * die + ch
    let acc := s.hkAcc key
    let n := min 8 (s.fld (HKADC_CHCFG die ch) HKADC_CHCFG_AVG_LOG2)
    if acc.1 + 1 < 2 ^ n then s.setHkAcc key (acc.1 + 1, acc.2 + v)
    else
      let r := (acc.2 + v) / 2 ^ n
      (((((s.setHkAcc key (0, 0)).setHkAt key s.now).setFld (HKADC_RES die ch) HKADC_RES_VALUE (unsigned 16 r)).setBit (HKADC_RES die ch) HKADC_RES_VALID
        true).setBit (HKADC_RES die ch) HKADC_RES_FRESH true)

/-- HKADC_CHCFG_WRITE: the average restarts; the second channel of a differential pair reads VALID = 0. -/
def State.hkChcfg (s : State) (die ch : Nat) (w : Word) : State :=
  let u := (s.plainWrite (HKADC_CHCFG die ch) w).setHkAcc (64 * die + ch) (0, 0)
  if ch < 32 ∧ ch % 2 = 0 ∧ u.bit (HKADC_CHCFG die ch) HKADC_CHCFG_DIFF then u.setBit (HKADC_RES die (ch + 1)) HKADC_RES_VALID false else u

end Sys2Proof.Machine
end

