-- ==== Sys2Proof/Machine/Thermal.lean ====
section
/-!
DEFINITION. Temperature: readings, thresholds, rate, cross-check, shutdown (R451 to R460); ageing (R461 to R463).  Dies: 0 the hub, 1 + t
TILE_t.
-/
namespace Sys2Proof.Machine
open Reg F

def dies : List Nat := [0, 1, 2, 3, 4]

/-- The die's THERM and CICADA blocks are powered. -/
def State.diePowered (s : State) (d : Nat) : Bool := s.mode != .standby && (d == 0 || s.domOn (9 + d))

/-- The neighbours of a die (R455). -/
def neighbours (d : Nat) : List Nat :=
  if d = 0 then [1, 2, 3, 4] else [0, 1 + (d - 1).xor 1, 1 + (d - 1).xor 2]

/-- A quotient of temperatures, rounded as the part does it. -/
def tempDiv (n : Int) (k : Nat) : Int := n / k + (if n % k ≠ 0 ∧ Config.roundTemp n k then 1 else 0)

def State.isSuspect (s : State) (d : Nat) : Bool := s.maskBit THERM_XCHK_STAT THERM_XCHK_STAT_SUSPECT d
def State.rawTemp (s : State) (d : Nat) : Int := signed 16 (s.fld (THERM_RAW d) THERM_RAW_RAW)
def State.tempValid (s : State) (d : Nat) : Bool := s.bit (THERM_READING d) THERM_READING_VALID

/-! ### Shutdown (R458 to R460) -/

/-- SHUT_REC at the beginning of a shutdown. -/
def State.recordShut (s : State) (d : Nat) (crit : Bool) : State :=
  s.setReg THERM_SHUT_REC (BitVec.ofNat 32 (2 ^ 31 + b2n crit * 2 ^ 30 + d * 2 ^ 27 + unsigned 16 (s.dieTemp d)))

/-- A shutdown begins: mute, shutdown requests to every quad, the record; a transition is cut short and the command that asked for it gets
STATUS 3; a start in progress ends uncounted (R427). -/
def State.beginShut (s : State) (d : Nat) (crit : Bool) : State :=
  let u := ({ s with thermShut := true, shut := some ⟨s.now, crit⟩, priorShut := true, trans := none, asked := none, autoQuiet := false,
                     startCal := none, rilynRun := none, restartAt := none, starting := none, startDue := none }.recordShut d crit).raise Ev.THERM_SHUTDOWN
  let v := match s.rilynRun with
    | some c => (u.respond c 3).dropUnknown 8
    | none => u
  v.shutdownAll

/-- A reading at or above the level, or a critical trip, of a die. -/
def State.shutAt (s : State) (d : Nat) (crit : Bool) : State :=
  match s.shut with
  | none => s.beginShut d crit
  | some x =>
    if crit ∧ !x.crit then { s with shut := some ⟨s.now, true⟩ }.setBit THERM_SHUT_REC THERM_SHUT_REC_CRIT true
    else if x.began = s.now ∧ d < s.fld THERM_SHUT_REC THERM_SHUT_REC_DIE then s.recordShut d x.crit
    else s

/-- SHUTDOWN_POWER_DOWN, `after` Tc on (the end of a page program): once every quad is down, and within 5 ms; within 10 µs when critical. -/
def State.shutPowerDown (s : State) (after : Nat) : State :=
  match s.shut with
  | none => s
  | some x =>
    let limit := x.began + (if x.crit then usTc 10 else 5 * msTc)
    let t := if x.crit ∨ s.allDown then min (s.now + after) limit else limit
    { (s.advance t).enterStandby true with shut := none, thermShut := false }

/-- CRITICAL_TRIP: the comparator of a diode that is not suspect trips; the part is in Standby within 10 µs. -/
def State.criticalTrip (s : State) (d after : Nat) : State :=
  if !s.diePowered d || s.isSuspect d then s else (s.shutAt d true).shutPowerDown (min after (usTc 10))

/-! ### Readings and thresholds (R451 to R453) -/

/-- The reading of a die: the raw one, or while its diode is suspect the highest of its neighbours that are not, plus MARGIN (R452, R457). -/
def State.readingOf (s : State) (d : Nat) : Int :=
  let raw := s.rawTemp d
  if s.isSuspect d then
    match ((neighbours d).filter fun n => !s.isSuspect n && s.tempValid n && s.diePowered n).map s.dieTemp with
    | [] => raw
    | t :: ts => ts.foldl max t + 8 * (s.fld THERM_XCHK_CFG THERM_XCHK_CFG_MARGIN : Int)
  else raw

/-- A threshold changes state. -/
def State.thrChange (s : State) (d k : Nat) (above : Bool) : State :=
  (((s.setBit (THERM_THR d k) THERM_THR_STATE above).setFld THERM_EVT_SRC THERM_EVT_SRC_DIE d).setFld THERM_EVT_SRC THERM_EVT_SRC_THR k).raise
    (if above then Ev.THERM_THRESH_UP else Ev.THERM_THRESH_DOWN)

/-- Threshold k of a die is judged at an update (R453). -/
def State.judgeThr (s : State) (d k : Nat) : State :=
  let a := THERM_THR d k
  if !s.bit a THERM_THR_EN then s.setThrRun (4 * d + k) 0
  else
    let level := 8 * signed 9 (s.fld a THERM_THR_LEVEL)
    let above := s.bit a THERM_THR_STATE
    let t := s.dieTemp d
    let meets := if above then decide (t < level - 8 * (s.fld a THERM_THR_HYST + 1 : Nat)) else decide (level ≤ t)
    let n := s.thrRun (4 * d + k) + 1
    if !meets then s.setThrRun (4 * d + k) 0
    else if max 1 (s.fld a THERM_THR_PERSIST) ≤ n then (s.setThrRun (4 * d + k) 0).thrChange d k !above
    else s.setThrRun (4 * d + k) n

/-- DRAM_RETRAIN_DUE: the hub diode has moved more than RETRAIN_TEMP since the last sweep (R372). -/
def State.judgeRetrain (s : State) : State :=
  let lim := s.fld DRAMC_CFG DRAMC_CFG_RETRAIN_TEMP
  let due := decide (lim ≠ 0) && s.dramSwept.any fun r => decide ((16 * lim : Int) < |s.dieTemp 0 - r|)
  let u := s.setBit DRAMC_STATUS DRAMC_STATUS_RETRAIN_DUE (due || s.bit DRAMC_STATUS DRAMC_STATUS_RETRAIN_DUE)
  if due && !s.dramDueTold then { u with dramDueTold := true }.raise Ev.DRAM_RETRAIN_DUE else u

/-- What depends on a reading: calibrations due, retraining; the bound of R197 is looked at with it. -/
def State.judgeTemp (s : State) (d : Nat) : State :=
  if d = 0 then s.judgeRetrain
  else ((((s.dacBound (d - 1)).judgeRecal (d - 1)).judgeCalDue (d - 1)).judgeImage (d - 1) 0).judgeImage (d - 1) 1

/-- The first valid reading of a die stands for the temperature of what was calibrated before it (log entry 48). -/
def State.firstReading (s : State) (d : Nat) : State :=
  let t := s.dieTemp d
  if d = 0 then { s with dramSwept := s.dramSwept.orElse fun _ => some t }
  else s.each [d, 3 + 2 * d, 4 + 2 * d] fun s k => s.modPll k fun p => { p with calTemp := t }

/-- THERMAL_UPDATE: a conversion of a die's diode, in 1/16 °C. -/
def State.thermalUpdate (s : State) (d : Nat) (conv : BitVec 16) : State :=
  if !s.diePowered d then s
  else
    let u := (s.modDiode d fun x => { x with conv := (conv.toInt :: x.conv).take 16 }).setHkAt (64 * d + 40) s.now
    let l := (u.diode d).conv
    if l.length < 16 then u
    else
      let v := u.setFld (THERM_RAW d) THERM_RAW_RAW (unsigned 16 (tempDiv l.sum 16))
      let was := v.tempValid d
      let w := ((v.setFld (THERM_READING d) THERM_READING_TEMP (unsigned 16 (clampI (-32768) 32767 (v.readingOf d)))).setBit (THERM_READING d)
        THERM_READING_VALID true).setBit (THERM_READING d) THERM_READING_SUSPECT (v.isSuspect d)
      let x := if was then w else w.firstReading d
      let y := (x.each [0, 1, 2, 3] fun x k => x.judgeThr d k).judgeTemp d
      let t := y.dieTemp d
      if 16 * 130 ≤ t then y.shutAt d true
      else if 8 * (clampN 200 250 (y.fld THERM_SHUT_CFG THERM_SHUT_CFG_LEVEL) : Int) ≤ t then y.shutAt d false
      else y

/-! ### Rate (R454) -/

/-- RATE_RECORD: a die records its reading and judges the rate over the window. -/
def State.rateRecord (s : State) (d : Nat) : State :=
  if !s.diePowered d || !s.tempValid d || !s.bit (THERM_RATE_CFG d) THERM_RATE_CFG_EN then s
  else
    let n := max 1 (s.fld (THERM_RATE_CFG d) THERM_RATE_CFG_WIN)
    let now := s.dieTemp d
    let then_ := (s.diode d).recs.drop (n - 1)
    let u := s.modDiode d fun x => { x with recs := (now :: x.recs).take 255 }
    match then_ with
    | [] => u.setFld (THERM_RATE_STAT d) THERM_RATE_STAT_RATE 0
    | t :: _ =>
      let diff := 10 * (now - t)
      let limit := (u.fld (THERM_RATE_CFG d) THERM_RATE_CFG_LIMIT * n : Nat)
      let above := u.bit (THERM_RATE_STAT d) THERM_RATE_STAT_ABOVE
      let v := u.setFld (THERM_RATE_STAT d) THERM_RATE_STAT_RATE (unsigned 16 (clampI (-32768) 32767 (tempDiv diff n)))
      if above then (if 2 * diff < (limit : Int) then v.setBit (THERM_RATE_STAT d) THERM_RATE_STAT_ABOVE false else v)
      else if (limit : Int) ≤ diff then (v.setBit (THERM_RATE_STAT d) THERM_RATE_STAT_ABOVE true).raise Ev.THERM_RATE
      else v

/-- A write of RATE_CFG: the records begin anew. -/
def State.rateCfg (s : State) (d : Nat) (w : Word) : State :=
  ((s.plainWrite (THERM_RATE_CFG d) w).modDiode d fun x => { x with recs := [] }).setFld (THERM_RATE_STAT d) THERM_RATE_STAT_RATE 0

/-! ### Cross-check (R455 to R457) -/

/-- e_dn in 1/4096 °C. -/
def State.disagreement (s : State) (d n : Nat) : Int :=
  let rise := fun (k : Nat) => (s.fld (THERM_THETA k) THERM_THETA_THETA * s.fld (THERM_PWR k) THERM_PWR_PWR : Nat)
  256 * (s.rawTemp d - s.rawTemp n) - ((rise d : Int) - rise n)

/-- TOL in 1/4096 °C. -/
def State.xTol (s : State) : Nat := 2048 * max 1 (s.fld THERM_XCHK_CFG THERM_XCHK_CFG_TOL)
def State.checked (s : State) (d : Nat) : Bool := s.diePowered d && s.tempValid d
def State.disagrees (s : State) (d n : Nat) : Bool :=
  s.checked d && s.checked n && decide ((s.xTol : Int) < |s.disagreement d n|)

/-- The condition of R456 holds for a diode now. -/
def State.looksWrong (s : State) (d : Nat) : Bool :=
  decide (2 ≤ ((neighbours d).filter fun n => s.disagrees d n && !s.isSuspect n && ((neighbours n).all fun m => m == d || !s.disagrees n m)).length)

/-- A diode agrees within TOL / 2 with every neighbour that is not suspect. -/
def State.looksRight (s : State) (d : Nat) : Bool :=
  (neighbours d).all fun n => s.isSuspect n || !s.checked n || decide (2 * |s.disagreement d n| ≤ (s.xTol : Int))

/-- A diode is marked, or its mark is cleared. -/
def State.setSuspect (s : State) (d : Nat) (b : Bool) : State :=
  (((s.setMaskBit THERM_XCHK_STAT THERM_XCHK_STAT_SUSPECT d b).setBit (THERM_READING d) THERM_READING_SUSPECT b).modDiode d fun x =>
    { x with marks := 0, clears := 0 }).raise Ev.THERM_SUSPECT

def State.suspects (s : State) : Nat := (dies.filter s.isSuspect).length

/-- The condition has held for TIME on a diode. -/
def State.longWrong (s : State) (d : Nat) : Bool :=
  !s.isSuspect d && decide (max 1 (s.fld THERM_XCHK_CFG THERM_XCHK_CFG_TIME) < (s.diode d).marks)

/-- XCHK_EVAL, once every 100 ms: the estimated powers of the dies in 1/16 W; marks and clearings follow. -/
def State.xchkEval (s : State) (powers : List (BitVec 16)) : State :=
  if s.mode = .standby then s
  else
    let u := s.each dies fun s d => s.setFld (THERM_PWR d) THERM_PWR_PWR (powers.getD d 0).toNat
    let u := u.each dies fun v d => v.setMaskBit THERM_XCHK_STAT THERM_XCHK_STAT_DISAGREE d ((neighbours d).any fun n => v.disagrees d n)
    if !u.bit THERM_XCHK_CFG THERM_XCHK_CFG_EN then u
    else
      let v := dies.foldl (fun (v : State) d => v.modDiode d fun x =>
        { x with marks := if u.looksWrong d then x.marks + 1 else 0, clears := if u.isSuspect d && u.looksRight d then x.clears + 1 else 0 }) u
      let v := v.each dies fun v d => if v.isSuspect d ∧ 600 < (v.diode d).clears then v.setSuspect d false else v
      let w := v.each dies fun v d => if v.longWrong d ∧ v.suspects < 2 then v.setSuspect d true else v
      let third := dies.any w.longWrong
      if third && !w.xAmbig then { w with xAmbig := true }.raise Ev.THERM_XCHK_AMBIGUOUS
      else { w with xAmbig := third }

/-- A write of XCHK_CFG: EN = 0 clears every mark. -/
def State.xchkCfg (s : State) (w : Word) : State :=
  let u := s.plainWrite THERM_XCHK_CFG w
  if u.bit THERM_XCHK_CFG THERM_XCHK_CFG_EN then u
  else { u.each dies (fun (u : State) d => if u.isSuspect d then u.setSuspect d false else u.modDiode d fun x => { x with marks := 0, clears := 0 }) with xAmbig := false }

/-! ### Ageing (R461 to R463) -/

/-- CICADA_READ: readings of the 20 monitors of each die; those of powered dies are taken. -/
def State.cicadaRead (s : State) (readings : List (List Word)) : State :=
  if s.mode.code < 3 then s
  else s.each (dies.filter s.diePowered) fun s d => s.each (List.range 20) fun s k => s.setMon (32 * d + k) ((readings.getD d []).getD k 0)

/-- STRESS_RATE_RECORD: a second's stress factors, by die, in 1/65536; 24 hours of them are kept, hour by hour. -/
def State.stressRecord (s : State) (factors : List Nat) : State :=
  if s.mode.code < 3 then s
  else
    let u := s.each (dies.filter s.diePowered) fun s d => s.modStress d fun l =>
      let f := factors.getD d 0
      match l with
      | (sum, n) :: rest => if n < 3600 then (sum + f, n + 1) :: rest else (f, 1) :: l.take 23
      | [] => [(f, 1)]
    { u with stressSecs := min 86400 (u.stressSecs + 1) }

def insertNat (x : Nat) : List Nat → List Nat
  | [] => [x]
  | y :: l => if x ≤ y then x :: y :: l else y :: insertNat x l
def sortNat (l : List Nat) : List Nat := l.foldr insertNat []

/-- (20 years - half/2) / (sum / n) in 0.1 year, rounded down, held within 0 to 1,023; `half`: twice an age in 1/65536 year. -/
def lifeOf (half sum n : Nat) : Nat :=
  let left : Int := (20 * 65536 * 2 : Nat) - (half : Int)
  if left ≤ 0 then 0 else if sum = 0 then 1023 else min 1023 (left.toNat * 10 * n / (2 * sum))

/-- The greatest number below 2^b past `acc` that passes a test, bit by bit from the highest. -/
def greatest (ok : Nat → Bool) : Nat → Nat → Nat
  | 0, acc => acc
  | b + 1, acc => greatest ok b (if ok (acc + 2 ^ b) then acc + 2 ^ b else acc)

/-- age(k) of a monitor in 1/65536 year, up to 20 years: the greatest A with (A / 20 years)^n at most f = (data - ref) / fail (R462; widths: log entry 56). -/
def wearAge (d m : Nat) (data ref : Word) : Nat :=
  let years := 20 * 65536
  let diff : Int := (data.toNat : Int) - ref.toNat
  let fail := Config.wearFail d m
  let (p, q) := Config.wearPower d m
  if diff * fail ≤ 0 then 0
  else greatest (fun A => decide (A ≤ years) && decide (A ^ p * fail.natAbs ^ q ≤ years ^ p * diff.natAbs ^ q)) 21 0

/-- LOW, EST and HIGH of a die, in 0.1 year (R462). -/
def State.lifeBounds (s : State) (d : Nat) : Nat × Nat × Nat :=
  let hours : List (Nat × Nat) := if s.stressSecs < 86400 then [(65536, 1)] else s.stress d
  let sum := (hours.map (·.1)).sum
  let n := (hours.map (·.2)).sum
  let mech := fun (m : Nat) =>
    let ks := if m = 2 then [16, 17, 18, 19] else (List.range 8).map (8 * m + ·)
    let ages := sortNat (ks.map fun k => wearAge d m (s.mon (32 * d + k)) (Config.monRef d k))
    let mid := ages.length / 2
    let low := (hours.map fun h => lifeOf (2 * ages.getLastD 0) h.1 h.2).foldl min 1023
    let high := (hours.map fun h => lifeOf (2 * ages.headD 0) h.1 h.2).foldl max 0
    (low, lifeOf (ages.getD (mid - 1) 0 + ages.getD mid 0) sum n, high)
  let a := mech 0
  let b := mech 1
  let c := mech 2
  (min a.1 (min b.1 c.1), min a.2.1 (min b.2.1 c.2.1), min a.2.2 (min b.2.2 c.2.2))

/-- LIFE_PREDICTION, once an hour. -/
def State.lifePrediction (s : State) : State :=
  if s.mode.code < 3 then s
  else
    let prov := decide (s.stressSecs < 86400)
    let u := s.each (dies.filter s.diePowered) fun s d =>
      let (low, est, high) := s.lifeBounds d
      s.setReg (CICADA_LIFE d) (BitVec.ofNat 32 (2 ^ 31 + b2n prov * 2 ^ 30 + high * 2 ^ 20 + est * 2 ^ 10 + low))
    let est := fun (s : State) (d : Nat) => s.fld (CICADA_LIFE d) CICADA_LIFE_EST
    match dies.filter fun d => u.bit (CICADA_LIFE d) CICADA_LIFE_VALID with
    | [] => u
    | d :: ds =>
      let worst := ds.foldl (fun b x => if est u x < est u b then x else b) d
      let v := (u.setReg CICADA_PART_LIFE (u.reg (CICADA_LIFE worst))).setFld CICADA_LIFE_STAT CICADA_LIFE_STAT_DIE worst
      if prov then v
      else v.each [0, 1] fun v k =>
        let en := v.bit CICADA_LIFE_THR (if k = 0 then CICADA_LIFE_THR_EN_0 else CICADA_LIFE_THR_EN_1)
        let thr := v.fld CICADA_LIFE_THR (if k = 0 then CICADA_LIFE_THR_THR_0 else CICADA_LIFE_THR_THR_1)
        let e := est v worst
        if !en then v
        else if v.maskBit CICADA_LIFE_STAT CICADA_LIFE_STAT_CROSSED k then
          (if thr + 5 ≤ e then v.setMaskBit CICADA_LIFE_STAT CICADA_LIFE_STAT_CROSSED k false else v)
        else if e < thr then (v.setMaskBit CICADA_LIFE_STAT CICADA_LIFE_STAT_CROSSED k true).raise Ev.CICADA_LIFE
        else v

/-- MON_DATA and MON_REF as MON_SEL selects them. -/
def State.monIndex (s : State) (d : Nat) : Nat := min 19 (s.fld (CICADA_MON_SEL d) CICADA_MON_SEL_INDEX)

end Sys2Proof.Machine
end

