-- ==== Sys2Proof/Machine/Hive.lean ====
section
/-!
DEFINITION. Writes of the Hive and counter-flag registers, the MSI capability, the debug UART, the test access port, PCIE_PERST_N (R467 to R471,
R479, R484 to R487).
-/
namespace Sys2Proof.Machine
open Reg F

/-! ### Hive registers (R467 to R470) -/

/-- HIVE_SRC_CFG_WRITE: a source that leaves level mode while asserted keeps its status bit at 1 (Table 21-4). -/
def State.srcCfgWrite (s : State) (src : Nat) (w : Word) : State :=
  let u := if s.follows src then s.setStored src (s.levelCond src) else s
  u.plainWrite (HIVE_SRC_CFG src) w

/-- HIVE_STATUS_WRITE: bits written 1 clear, but of sources that follow a condition, and those set in the same cycle (R12); vectors left pending are sent
again. -/
def State.statusWrite (s : State) (k : Nat) (w : Word) : State :=
  let u := s.each ((onesOf 32 (w &&& ~~~ s.racing).toNat).filter fun j => !s.follows (32 * k + j)) fun s j => s.setStored (32 * k + j) false
  u.each (onesOf 32 (s.msiPend &&& u.pendingVectors).toNat) State.sendMsi

/-- MSI_CAPABILITY_WRITE: a vector pending when MSI is enabled is sent then. -/
def State.msiCapability (s : State) (on : Bool) (granted : Nat) : State :=
  let u := { s with msiOn := on, msiGranted := clampN 1 32 granted }
  if on && !s.msiOn then u.each (onesOf 32 s.msiPend.toNat) State.sendMsi else u

/-! ### Counter flags (R471) -/

/-- The counter that a bit of a CNT_FLAGS register belongs to. -/
def flagCounter (a bit : Nat) : Option (Nat × Fld) :=
  let d := dieOf a
  let t := d - 1
  let full : Fld := ⟨0, 32⟩
  let run := fun (first n : Nat) => if bit < n then some (first + 4 * bit, full) else none
  if a = GLIDE_CNT_FLAGS d then (match bit with | 0 => some (GLIDE_LATE_COUNT d, full) | 1 => some (GLIDE_IMEM_CORRECTED d, full) | _ => none)
  else if d ≠ 0 then
    if a = TXCH_CNT_FLAGS t then
      (if bit < 16 then some (TXCH_CLIP_COUNT t bit, full) else match bit with
        | 16 => some (TXCH_REFUSED_COUNT t, full) | 17 => some (TXCH_LATE_DATA_COUNT t, full) | _ => none)
    else if a = RXCH_CNT_FLAGS t then
      (if bit < 16 then some (RXCH_CLIP_COUNT t bit, full) else if bit < 32 then some (RXCH_CAP_STAT t (bit - 16), RXCH_CAP_STAT_GRANULES) else none)
    else if a = DFLY_CNT_FLAGS t then run (DFLY_ACQ_REJECT_COUNT t) 2
    else if a = DFLY_CAL_CNT_FLAGS t then (if bit = 0 then some (DFLY_FAIL_COUNT t, DFLY_FAIL_COUNT_COUNT) else none)
    else if a = SEQ_CNT_FLAGS t then run (SEQ_REFUSED_COUNT t) 1
    else none
  else if a = SLALOM_CNT_FLAGS then run SLALOM_FALLBACK_COUNT 13
  else if a = HDPD_CNT_FLAGS then run HDPD_JOB_COUNT 2
  else if a = LANEQ_CNT_FLAGS then (if bit < 16 then some (LANEQ_PRBS_ERR bit, full) else if bit = 16 then some (LANEQ_EYE_ERR, full) else none)
  else if blockOf a = 0x03 ∧ a % 64 = 0x3C ∧ a < MAC_FH_MODE_DISCARD then run (a - 0x1C) 7
  else if a = MAC_FH_CNT_FLAGS then run MAC_FH_MODE_DISCARD 12
  else if a = BUROG_CNT_FLAGS then
    (match bit with
      | 0 => some (BUROG_CRC_ERR 0, full) | 1 => some (BUROG_RETRY_COUNT 0, full) | 2 => some (BUROG_CRC_ERR 1, full)
      | 3 => some (BUROG_RETRY_COUNT 1, full) | 4 => some (BUROG_PSUM_DISCARD, full) | _ => none)
  else if a = CU_CNT_FLAGS then
    (if bit < 16 then some (CU_MISMATCH bit, full) else if bit = 16 then some (CU_CHK_MISMATCH, full) else none)
  else if a = TIME_CNT_FLAGS then run TIME_REFUSED_COUNT 1
  else if a = DRAMC_CNT_FLAGS then run DRAMC_NREF_COUNT 7
  else if a = SCARAB_CNT_FLAGS then run SCARAB_PMEM_CORRECTED 4
  else if a = PMU_CNT_FLAGS then run PMU_WARN_COUNT 3
  else if a = RILYN_CNT_FLAGS then run RILYN_MPLANE_DISCARD 4
  else if a = HIVE_CNT_FLAGS then run (HIVE_D2D_CORRECTED 0) 4
  else none

/-- The register is a CNT_FLAGS register. -/
def isCntFlags (a : Nat) : Bool := (flagCounter a 0).isSome

/-- COUNTER_FLAG_CLEAR: each flag written 1 clears, and its counter is 0.  Where the counter counts in the same cycle, a flag that was set stays, and the
counter with it; else the counter counts from 0 (R471). -/
def State.flagsWrite (s : State) (a : Nat) (w : Word) : State :=
  (s.plainWrite a w).each (onesOf 32 w.toNat) fun u b =>
    match flagCounter a b with
    | some (c, f) => if !s.racing.getLsbD b then u.setFld c f 0 else if (s.reg a).getLsbD b then u else u.setFld c f 1
    | none => u

/-! ### Debug UART (R484, R485) -/

/-- Scarab uses the UART from Configure onward. -/
def State.uartOpen (s : State) : Bool := decide (3 ≤ s.mode.code)
def uartDepth : Nat := 1024

/-- Instant at which n bytes of ten bits each have been sent at 921,600 baud from an instant on. -/
def uartDone (from_ n : Nat) : Nat := from_ + (n * 64000 + 2) / 3

/-- Bytes whose last bit has been sent by now leave the transmit FIFO. -/
def State.uartDrain (s : State) : State :=
  let n := min s.uartTx.length ((s.now - s.uartAt) * 3 / 64000)
  let u := s.each (s.uartTx.take n) fun s b => s.emit (.uart b)
  { u with uartTx := s.uartTx.drop n, uartAt := uartDone s.uartAt n }

/-- Bytes enter the transmit FIFO, as many as it has room for. -/
def State.uartSend (s : State) (bs : List Byte) : State :=
  let u := s.uartDrain
  { u with uartTx := (u.uartTx ++ bs).take uartDepth, uartAt := if u.uartTx = [] then u.now else u.uartAt }

/-- UART_RX_BYTE; `stop`: its stop bit. -/
def State.uartByte (s : State) (b : Byte) (stop : Bool) : State :=
  if s.uartOpen && stop && decide (s.uartRx.length < uartDepth) then { s with uartRx := s.uartRx ++ [b] } else s

/-! ### Test access port and PCIe (R479, R486, R487) -/

/-- The TAP executes an instruction; it is unpowered in Standby. -/
def State.tapTo (s : State) (t : Tap) : State := if s.mode = .standby then s else { s with tap := t }
/-- EXTEST in Configure and Recovery only; elsewhere it is BYPASS. -/
def State.tapExtest (s : State) : State :=
  s.tapTo (if s.mode = .configure ∨ s.mode = .recovery then .extest else .bypass)
/-- SAMPLE/PRELOAD: the boundary register takes what is shifted in. -/
def State.tapPreload (s : State) (cells : List Bool) : State :=
  if s.mode = .standby then s else { s with tap := .sample, boundary := cells }

/-- IDCODE (R486). -/
def idcode : Word := if Config.steppingA1 then 0x164649C7 else 0x264649C7

end Sys2Proof.Machine
end

