-- ==== Sys2Proof/Machine/Scarab.lean ====
section
/-!
DEFINITION. Scarab: channels, instructions, transfers, requests, records (R379 to R395).
-/
namespace Sys2Proof.Machine
open Reg F

/-! ### Instruction words (Table 16-2) -/

/-- The opcode of a word. -/
def opOf (w : BitVec 64) : Nat := wbits w 56 8
def opStop : Nat := 0x00
def opMove : Nat := 0x01
def opMovex : Nat := 0x02
def opSwap : Nat := 0x03
def opLoop : Nat := 0x08
def opEndl : Nat := 0x09
def opWait : Nat := 0x0A
def opSignal : Nat := 0x0B
def opJump : Nat := 0x0C

/-- Words of an instruction; none for an opcode that is not assigned. -/
def scWords (op : Nat) : Option Nat :=
  if op = opMove ∨ op = opSwap then some 3 else if op = opMovex then some 4
  else if op = opStop ∨ (opLoop ≤ op ∧ op ≤ opJump) then some 1 else none

/-- The bits of word 0 below the opcode that an instruction assigns. -/
def assigned (op : Nat) : Nat :=
  let f := fun (hi lo : Nat) => 2 ^ (hi + 1) - 2 ^ lo
  if op = opStop then f 55 55
  else if op = opMove then f 55 49 + f 46 44 + f 31 0
  else if op = opMovex then f 55 50 + f 47 44 + f 31 0
  else if op = opSwap then f 55 52 + f 31 0
  else if op = opLoop then f 31 0
  else if op = opEndl then 0
  else if op = opWait then f 55 54 + f 47 40 + f 31 0
  else if op = opSignal then f 55 48
  else f 12 0

/-- A reserved field is not 0. -/
def reservedSet (w : BitVec 64) : Bool := w.toNat % 2 ^ 56 &&& (2 ^ 56 - 1 - assigned (opOf w)) != 0

/-- C of an instruction. -/
def cBit (w : BitVec 64) : Bool := wbits w 55 1 == 1

/-! ### Channels (Table 16-1) -/

namespace ScSt
@[reducible] def idle : Nat := 0
@[reducible] def run : Nat := 1
@[reducible] def wait : Nat := 2
@[reducible] def parked : Nat := 3
@[reducible] def stall : Nat := 4
@[reducible] def error : Nat := 5
end ScSt

def State.scState (s : State) (n : Nat) : Nat := s.fld (SCARAB_CH_STAT n) SCARAB_CH_STAT_STATE
def State.scPc (s : State) (n : Nat) : Nat := s.fld (SCARAB_CH_STAT n) SCARAB_CH_STAT_PC
def State.setSc (s : State) (n st : Nat) : State := s.setFld (SCARAB_CH_STAT n) SCARAB_CH_STAT_STATE st
def State.setScPc (s : State) (n pc : Nat) : State := s.setFld (SCARAB_CH_STAT n) SCARAB_CH_STAT_PC pc

/-! ### Records (R390, R391, Table 16-6) -/

/-- N of a channel's ring. -/
def State.ringSize (s : State) (n : Nat) : Nat := 2 ^ max 1 (s.fld (SCARAB_RING_HI n) SCARAB_RING_HI_RLOG)
def State.prodIdx (s : State) (n : Nat) : Nat := s.fld (SCARAB_PROD_IDX n) SCARAB_PROD_IDX_IDX
def State.ringFull (s : State) (n : Nat) : Bool :=
  (s.prodIdx n + 65536 - s.fld (SCARAB_CONS_IDX n) SCARAB_CONS_IDX_IDX) % 65536 == s.ringSize n

/-- The 32 bytes of a record, its words little-endian. -/
def State.recordBytes (s : State) (n : Nat) (r : ScRec) : List Byte :=
  let p := s.prodIdx n
  let w0 := p / s.ringSize n % 2 * 2 ^ 31 + n * 2 ^ 27 + r.kind * 2 ^ 24 + r.code * 2 ^ 16 + b2n r.withdrawn * 2 ^ 15 + b2n r.ecc * 2 ^ 14
    + b2n r.lost * 2 ^ 13 + b2n r.acc * 2 ^ 12
  leNat 4 w0 ++ leNat 4 r.index ++ leNat 4 r.bytes ++ leNat 4 p ++ leNat 8 s.tb.toNat ++ leNat 8 r.result.toNat

/-- A record goes to its slot; one whose DRAM write is discarded is lost and counted. -/
def State.writeRecord (s : State) (n : Nat) (r : ScRec) : State :=
  let bs := s.recordBytes n r
  let base := s.fld (SCARAB_RING_HI n) SCARAB_RING_HI_ADDR * 2 ^ 32 + s.fld (SCARAB_RING_LO n) SCARAB_RING_LO_ADDR * 32
  let a := base + 32 * (s.prodIdx n % s.ringSize n)
  let u :=
    if s.bit (SCARAB_RING_HI n) SCARAB_RING_HI_SPACE then s.sramStore (a % 2 ^ 22) bs
    else
      let lost := !(s.bit DRAMC_STATUS DRAMC_STATUS_AVAIL && s.dramWithin a 32)
      (s.bulkWrite 2 a bs).when lost fun s => s.bump SCARAB_RING_LOST SCARAB_CNT_FLAGS 3 1
  (u.setFld (SCARAB_PROD_IDX n) SCARAB_PROD_IDX_IDX (s.prodIdx n + 1)).raise Ev.SCARAB_RECORD

/-- What follows a record: the channel's state; an error is raised and counted once its record is appended (R395). -/
def State.afterRecord (s : State) (n st : Nat) : State :=
  let u := s.setSc n st
  if st = ScSt.error then (u.raise Ev.SCARAB_ERROR).bump SCARAB_ERROR_COUNT SCARAB_CNT_FLAGS 2 1 else u

/-- A record falls due: it is appended, or the channel stalls on a full ring. -/
def State.appendRecord (s : State) (n : Nat) (r : ScRec) (pc st : Nat) : State :=
  if s.ringFull n then
    ((s.modScChan n fun c => { c with due := some (r, pc, st) }).setSc n ScSt.stall).raise Ev.SCARAB_RING_FULL
  else ((s.writeRecord n r).setScPc n (min 8191 pc)).afterRecord n st

/-- The unit attached to the channel, and its result. -/
def State.attached (s : State) (n : Nat) : List Nat :=
  (List.range 16).filter fun u => !s.cuBound u && s.bit (CU_CFG u) CU_CFG_SRC && s.fld (CU_CFG u) CU_CFG_CHAN == n
def State.attachedResult (s : State) (n : Nat) : BitVec 64 :=
  match s.attached n with
  | [] => 0
  | u :: _ => s.cuResult u

/-- An error stops the channel: its record, of the transfer in progress too, then ERROR with PC at the failing instruction. -/
def State.scError (s : State) (n code : Nat) : State :=
  let c := s.scChan n
  let r : ScRec := match c.xfer with
    | some x => { kind := 3, code := code, withdrawn := x.withdrawn, ecc := x.ecc, lost := x.lost, acc := x.acc, index := s.scPc n, bytes := x.written,
                  result := s.attachedResult n }
    | none => { kind := 3, code := code, index := s.scPc n, result := s.attachedResult n }
  (s.modScChan n fun c => { c with xfer := none, wait := none, waitEnd := none }).appendRecord n r (s.scPc n) ScSt.error

/-- The error with which the word at an index stops a channel that fetches it (codes 7, 1, 2). -/
def State.fetchError (s : State) (pc : Nat) : Option Nat :=
  if 8191 < pc then some 7
  else
    let w := s.pmemWord pc
    match scWords (opOf w) with
    | none => some 1
    | some k => if 8191 < pc + k - 1 then some 7 else if reservedSet w then some 2 else none

/-- Words are fetched in order: those with a corrected error are counted, up to one whose error is uncorrectable; whether there is one (R379). -/
def State.scEcc (s : State) (l : List Ecc) : State × Bool :=
  let n := (l.takeWhile (· != .fatal)).count .corrected
  (if n = 0 then s else s.bump SCARAB_PMEM_CORRECTED SCARAB_CNT_FLAGS 0 n, l.contains .fatal)

/-- The error that a word shows where no command carries it: a free value (log entry 73). -/
def State.freeEcc (s : State) : Ecc := if s.freeNow.getLsbD 0 then .fatal else if s.freeNow.getLsbD 1 then .corrected else .clean

/-- The channel runs on at an index; a word it cannot execute stops it, once it is read. -/
def State.runOn (s : State) (n pc : Nat) : State :=
  let u := (s.setScPc n (min 8191 pc)).setSc n ScSt.run
  match u.fetchError pc with
  | some e =>
    if 8191 < pc then u.scError n e
    else
      let (v, bad) := u.scEcc [u.freeEcc]
      v.useFree.scError n (if bad then 5 else e)
  | none => u

/-- A record and what comes after it: the channel goes on at an index. -/
def State.recordAndRun (s : State) (n : Nat) (r : ScRec) (pc : Nat) : State :=
  let u := s.appendRecord n r pc ScSt.run
  if u.scState n = ScSt.run then u.runOn n pc else u

/-- Channels run in every mode from Configure onward (R382). -/
def State.scOn (s : State) : Bool := decide (3 ≤ s.mode.code)

/-- The channel fetches an instruction of the given opcode, whose words show the errors of a list in order, and executes it by `f`; a word with an uncorrectable error
stops it, corrected ones are counted (R379).  Where the word is another instruction, the command does not occur (log entry 8). -/
def State.scStep (s : State) (n op : Nat) (ecc : List Ecc) (f : State → BitVec 64 → State) : State :=
  if !s.scOn ∨ s.scState n ≠ ScSt.run ∨ (s.scChan n).xfer.isSome then s
  else
    let w := s.pmemWord (s.scPc n)
    let (u, bad) := s.scEcc (ecc.take 1)
    if bad then u.scError n 5
    else match u.fetchError (s.scPc n) with
      | some e => u.scError n e
      | none =>
        if opOf w ≠ op then s
        else
          let (v, bad) := u.scEcc ((ecc.take ((scWords op).getD 1)).drop 1)
          if bad then v.scError n 5 else f v w

/-! ### STOP, SIGNAL, JUMP, LOOP, ENDL (R384, R393) -/

/-- SCARAB_STOP. -/
def State.scStop (s : State) (n : Nat) (ecc : List Ecc) : State :=
  s.scStep n opStop ecc fun s w =>
    if cBit w then s.appendRecord n { kind := 2, index := s.scPc n, result := s.attachedResult n } (s.scPc n) ScSt.parked
    else s.setSc n ScSt.parked

/-- SCARAB_SIGNAL_INSTR. -/
def State.scSignal (s : State) (n : Nat) (ecc : List Ecc) : State :=
  s.scStep n opSignal ecc fun s w =>
    (s.raise Ev.SCARAB_SIGNAL).recordAndRun n { kind := 1, code := wbits w 48 8, index := s.scPc n, result := s.attachedResult n } (s.scPc n + 1)

/-- SCARAB_JUMP. -/
def State.scJump (s : State) (n : Nat) (ecc : List Ecc) : State := s.scStep n opJump ecc fun s w => s.runOn n (wbits w 0 13)

/-- The index after the ENDL that matches a LOOP, scanning word by word from `pc` with `depth` loops open (R384). -/
def State.afterEndl (s : State) : Nat → Nat → Nat → Nat
  | 0, _, _ => 8192
  | fuel + 1, pc, depth =>
    if 8191 < pc then 8192
    else
      let op := opOf (s.pmemWord pc)
      if op = opEndl then (if depth = 0 then pc + 1 else s.afterEndl fuel (pc + 1) (depth - 1))
      else if op = opLoop then s.afterEndl fuel (pc + 1) (depth + 1)
      else s.afterEndl fuel (pc + 1) depth

/-- SCARAB_LOOP; the words it scans come after its own in the list of errors. -/
def State.scLoop (s : State) (n : Nat) (ecc : List Ecc) : State :=
  s.scStep n opLoop ecc fun s w =>
    let count := wbits w 0 32
    let pc := s.scPc n
    if count = 0 then
      let next := s.afterEndl 8192 (pc + 1) 0
      let (u, bad) := s.scEcc ((ecc.drop 1).take (next - pc - 1))
      if bad then u.scError n 5 else u.runOn n next
    else if 2 ≤ (s.scChan n).loops.length then s.scError n 4
    else (s.modScChan n fun c => { c with loops := (pc + 1, count, 0) :: c.loops }).runOn n (pc + 1)

/-- SCARAB_ENDL. -/
def State.scEndl (s : State) (n : Nat) (ecc : List Ecc) : State :=
  s.scStep n opEndl ecc fun s _ =>
    match (s.scChan n).loops with
    | [] => s.scError n 4
    | (start, count, i) :: rest =>
      if i + 1 < count then (s.modScChan n fun c => { c with loops := (start, count, i + 1) :: rest }).runOn n start
      else (s.modScChan n fun c => { c with loops := rest }).runOn n (s.scPc n + 1)

/-! ### Address spaces (Table 16-3) -/

/-- The iteration index of the innermost loop. -/
def Chan.iter (c : Chan) : Nat := match c.loops with | (_, _, i) :: _ => i | [] => 0

/-- The effective address of an operand word; in DRAM modulo 2^36. -/
def effective (w : BitVec 64) (i : Nat) : Int :=
  let a : Int := (wbits w 0 36 : Int) + (i : Int) * signed 24 (wbits w 40 24)
  if spaceOf w = 0 then a % 2 ^ 36 else a

/-- Size of an on-die space. -/
def spaceSize (sp : Nat) : Option Nat :=
  match sp with | 1 => some (4 * 2 ^ 20) | 2 => some (48 * 2 ^ 20) | 3 => some (16 * 2 ^ 20) | 4 => some 65536 | _ => none

/-- An operand of n bytes may be read, or written. -/
def operandOk (w : BitVec 64) (i n : Nat) (write : Bool) : Bool :=
  let sp := spaceOf w
  let a := effective w i
  if 6 ≤ sp then false
  else if sp = 5 then (if write then [1, 3] else [0, 2]).contains (wbits w 0 4)
  else if write && (sp == 2 || sp == 3) then false
  else match spaceSize sp with
    | some z => decide (0 ≤ a) && decide (a + n ≤ z)
    | none => true

/-- n bytes of a space: DRAM in accesses of 64 bytes through BULK0 (R383). -/
def State.scRead (s : State) (sp a n : Nat) : State × List Byte :=
  match sp with
  | 0 => (List.range ((n + 63) / 64)).foldl (fun x k =>
      let (u, bs) := x.1.bulkRead 2 (a + 64 * k) (min 64 (n - 64 * k))
      (u, x.2 ++ bs)) (s, [])
  | 1 => (s, s.sramLoad a n)
  | 2 => (s, (List.range n).map fun k => (s.symRead ((a + k) / 4 * 4) >>> (8 * ((a + k) % 4))).setWidth 8)
  | 3 => (s, (List.range n).map fun k => (s.weight ((a + k) / 4) >>> (8 * ((a + k) % 4))).setWidth 8)
  | _ => (s, (List.range n).map fun k => (s.pmemWord ((a + k) / 8) >>> (8 * ((a + k) % 8))).setWidth 8)

/-- Bytes into a space. -/
def State.scWrite (s : State) (sp a : Nat) (bs : List Byte) : State :=
  match sp with
  | 0 => s.each (List.range ((bs.length + 63) / 64)) fun s k => s.bulkWrite 2 (a + 64 * k) (slice bs (64 * k) 64)
  | 1 => s.sramStore a bs
  | _ => s.each (List.range bs.length) fun s k => s.pmemPut (a + k) (bs.getD k 0)

/-- An access of n bytes at a DRAM address would not be performed (R362, R363). -/
def State.accOf (s : State) (sp a n : Nat) : Bool :=
  sp == 0 && n != 0 && !(s.bit DRAMC_STATUS DRAMC_STATUS_AVAIL && s.dramWithin a n)

/-! ### Ports and request lines (Table 16-5, R444, R485) -/

/-- Bytes a port can supply now, or room it has. -/
def State.portLevel (s : State) (p : Nat) : Nat :=
  match p with
  | 0 => (match s.qspi with | some q => if q.write then 0 else min 4096 q.left | none => 0)
  | 1 => (match s.qspi with | some q => if q.write then min 4096 q.left else 0 | none => 0)
  | 2 => if s.uartOpen then s.uartRx.length else 0
  | 3 => if s.uartOpen then uartDepth - s.uartDrain.uartTx.length else 0
  | _ => 0

/-- A stream moves on; it ends after its length. -/
def State.streamOn (s : State) (q : Qspi) (n : Nat) : State :=
  { s with qspi := if q.left ≤ n then none else some { q with addr := q.addr + n, left := q.left - n } }.storeDelays
def flashAddr (q : Qspi) : Nat := q.cs * 2 ^ 32 + q.addr

/-- Byte k of a stream from flash; the formats of the slot table, the start record and the delay set are not printed, so their bytes are free values
(log entry 67). -/
def State.streamByte (s : State) (q : Qspi) (k : Nat) : Byte :=
  if q.cs = 0 ∧ q.addr + k < 0x50000 then (Config.freeValue (s.free + k)).setWidth 8 else s.flashByte (flashAddr q + k)

/-- A port supplies n bytes; zeros where it holds none. -/
def State.portRead (s : State) (p n : Nat) : State × List Byte :=
  let pad := fun (bs : List Byte) => bs ++ List.replicate (n - bs.length) 0
  match p with
  | 0 => (match s.qspi with
    | some q => ({ s.streamOn q (min n q.left) with free := s.free + n }, pad ((List.range (min n q.left)).map (s.streamByte q)))
    | none => (s, pad []))
  | _ => ({ s with uartRx := s.uartRx.drop n }, pad (s.uartRx.take n))

/-- A port takes bytes. -/
def State.portWrite (s : State) (p : Nat) (bs : List Byte) : State :=
  match p with
  | 1 => (match s.qspi with | some q => (s.flashStore (flashAddr q) (bs.take q.left)).streamOn q (min bs.length q.left) | none => s)
  | _ => s.uartSend bs

/-- Length of the next burst of a transfer. -/
def Xfer.burstLen (x : Xfer) : Nat := min (64 * 2 ^ wbits (x.words.headD 0) 44 3) (x.len - x.done)
/-- Line of a MOVE; it is asserted for a burst of so many bytes. -/
def Xfer.line (x : Xfer) : Nat := wbits (x.words.headD 0) 50 4
def State.lineUp (s : State) (p n : Nat) : Bool := p < 4 && n != 0 && decide (n ≤ s.portLevel p)

/-! ### Transfers (R384 to R389) -/

def reverseElems (k : Nat) (bs : List Byte) : List Byte := (List.range (bs.length / k)).flatMap fun i => (slice bs (k * i) k).reverse

/-- Bytes from the first of a run of rows to the last. -/
def rowsSpan (shape : Nat × Nat) (pitch : Nat) : Nat := if shape.1 = 0 ∨ shape.2 = 0 then 0 else (shape.1 - 1) * pitch + shape.2

/-- The destination rows of a MOVEX from its source rows (R386). -/
def reshuffle (w : BitVec 64) (rows : List (List Byte)) : List (List Byte) :=
  let cols := wbits w 0 16
  let e := 2 ^ wbits w 50 2
  let wd := wbits w 44 4 + 1
  match wbits w 52 2 with
  | 0 => (List.range cols).map fun c => rows.flatMap fun r => slice r (e * c) e
  | 1 => rows.map fun r =>
      let v := packBits ((List.range cols).map fun c => (wd, natLe (slice r (2 * c) 2)))
      let n := (cols * wd + 7) / 8
      beNat n (v * 2 ^ (8 * n - cols * wd))
  | _ => rows.map fun r =>
      let total := 8 * ((cols * wd + 7) / 8)
      (List.range cols).flatMap fun c => leNat 2 (unsigned 16 (signed wd (takeBits (natOf r) total (c * wd) wd)))

/-- The operands of the instruction are right: else the error code (R384 to R388). -/
def scOperands (ws : List (BitVec 64)) (i : Nat) : Option Nat :=
  let w := ws.headD 0
  let src := ws.getD 1 0
  let dst := ws.getD 2 0
  let op := opOf w
  let n := wbits w 0 32
  let ports := spaceOf src == 5 || spaceOf dst == 5
  let bad := fun (a b : Bool) => if a && b then none else some 3
  if op = opMovex then
    if wbits w 52 2 = 3 ∨ ports then some 2
    else
      let sh := movexShape w
      let p := ws.getD 3 0
      bad (operandOk src i (rowsSpan sh.1 (wbits p 32 32)) false) (operandOk dst i (rowsSpan sh.2 (wbits p 0 32)) true)
  else if op = opSwap then
    let e := 2 ^ wbits w 52 2
    if e = 1 ∨ n % e ≠ 0 ∨ ports then some 2 else bad (operandOk src i n false) (operandOk dst i n true)
  else
    let r := wbits w 49 1 == 1
    let line := wbits w 50 4
    let own := fun (x : BitVec 64) => spaceOf x != 5 || (r && line == wbits x 0 4)
    if !(operandOk src i n false && operandOk dst i n true) then some 3
    else if !own src || !own dst then some 2
    else none

/-- With F = 1 bytes read are folded into the unit attached to the channel as they are (R304, R384). -/
def State.scFold (s : State) (x : Xfer) (n : Nat) (bs : List Byte) : State :=
  if wbits (x.words.headD 0) 54 1 = 1 then s.each (s.attached n) fun s u => s.cuFold u bs else s

/-- A MOVE of so many bytes from the point the transfer has reached; overlapping ranges copy in ascending address order. -/
def State.moveBytes (s : State) (n : Nat) (x : Xfer) (len : Nat) : State × Xfer :=
  let srcW := x.words.getD 1 0
  let dstW := x.words.getD 2 0
  let a := x.src + x.done
  let b := x.dst + x.done
  let have_ := x.kept.getD len
  let ahead := b - a
  let (s1, bs) :=
    if spaceOf srcW = 5 then
      let (u, l) := s.portRead (wbits srcW 0 4) have_
      (u, l ++ List.replicate (len - l.length) 0)
    else
      let (u, l) := s.scRead (spaceOf srcW) a len
      if spaceOf srcW = spaceOf dstW ∧ a < b ∧ b < a + len then (u, (List.range len).map fun k => l.getD (k % ahead) 0) else (u, l)
  let acc := s.accOf (spaceOf srcW) a len || s1.accOf (spaceOf dstW) b len
  let s2 := s1.scFold x n bs
  let s3 := if spaceOf dstW = 5 then s2.portWrite (wbits dstW 0 4) (bs.take have_) else s2.scWrite (spaceOf dstW) b bs
  let out := if spaceOf dstW = 5 then min have_ len else len
  (s3, { x with done := x.done + len, written := x.written + out, burst := none, kept := none, acc := x.acc || acc })

/-- A SWAP of so many bytes, whole elements, from the point it has reached. -/
def State.swapBytes (s : State) (n : Nat) (x : Xfer) (len : Nat) : State × Xfer :=
  let w := x.words.headD 0
  let src := spaceOf (x.words.getD 1 0)
  let dst := spaceOf (x.words.getD 2 0)
  let (u, bs) := s.scRead src (x.src + x.done) len
  let acc := s.accOf src (x.src + x.done) len || u.accOf dst (x.dst + x.done) len
  ((u.scFold x n bs).scWrite dst (x.dst + x.done) (reverseElems (2 ^ wbits w 52 2) bs),
    { x with done := x.done + len, written := x.written + len, acc := x.acc || acc })

/-- A MOVEX, whole: the rows read, and the rows written. -/
def State.movexBytes (s : State) (n : Nat) (x : Xfer) : State × Xfer :=
  let w := x.words.headD 0
  let src := spaceOf (x.words.getD 1 0)
  let dst := spaceOf (x.words.getD 2 0)
  let p := x.words.getD 3 0
  let sh := movexShape w
  let (u, rows) := (List.range sh.1.1).foldl (fun (y : State × List (List Byte)) r =>
    let (v, bs) := y.1.scRead src (x.src + r * wbits p 32 32) sh.1.2
    (v, y.2 ++ [bs])) (s, [])
  let acc := s.accOf src x.src (rowsSpan sh.1 (wbits p 32 32)) || u.accOf dst x.dst (rowsSpan sh.2 (wbits p 0 32))
  let outRows := reshuffle w rows
  let v := (u.scFold x n rows.flatten).each (List.range outRows.length) fun s r => s.scWrite dst (x.dst + r * wbits p 0 32) (outRows.getD r [])
  (v, { x with done := sh.2.1 * sh.2.2, written := sh.2.1 * sh.2.2, acc := x.acc || acc })

/-- The instruction ends: its record if one is due, then the next instruction. -/
def State.xferEnd (s : State) (n : Nat) (x : Xfer) : State :=
  let w := x.words.headD 0
  let next := s.scPc n + x.words.length
  let u := s.modScChan n fun c => { c with xfer := none }
  if cBit w || x.withdrawn then
    u.recordAndRun n { kind := if cBit w then 0 else 4, withdrawn := x.withdrawn, ecc := x.ecc, lost := x.lost, acc := x.acc, index := s.scPc n,
                       bytes := x.written, result := s.attachedResult n } next
  else u.runOn n next

/-- SCARAB_MOVE, SCARAB_MOVEX, SCARAB_SWAP: operands are checked at their effective addresses before any byte moves. -/
def State.scXfer (s : State) (n op : Nat) (ecc : List Ecc) : State :=
  s.scStep n op ecc fun s w =>
    let k := (scWords op).getD 1
    let ws := (List.range k).map fun j => s.pmemWord (s.scPc n + j)
    let i := (s.scChan n).iter
    let len := if op = opMovex then (let sh := (movexShape w).2; sh.1 * sh.2) else wbits w 0 32
    let at_ := fun (j : Nat) => (effective (ws.getD j 0) i).toNat
    let x : Xfer := { words := ws, src := at_ 1, dst := at_ 2, len := len, began := s.now }
    if len = 0 ∧ (op = opMove ∨ op = opSwap) ∧ (op ≠ opSwap ∨ wbits w 52 2 ≠ 0) then s.xferEnd n x
    else match scOperands ws i with
      | some e => s.scError n e
      | none =>
        let u := s.modScChan n fun c => { c with xfer := some x }
        if op = opMove ∧ wbits w 49 1 = 1 then u.setSc n ScSt.wait else u

/-- A transfer has read a word with an uncorrectable error. -/
def Xfer.mark (x : Xfer) (ecc : Bool) : Xfer := { x with ecc := x.ecc || ecc }

/-- The burst in progress runs to its length; then the channel waits for the line, or the transfer has moved every byte. -/
def State.burstEnd (s : State) (n : Nat) (x : Xfer) (ecc : Bool) : State :=
  match x.burst with
  | none => s
  | some len =>
    let (u, y) := s.moveBytes n x len
    (u.modScChan n fun c => { c with xfer := some (y.mark ecc) }).setSc n ScSt.wait

/-- SCARAB_BURST_START: the burst before it ends, and the next begins once the line is asserted. -/
def State.burstBegin (s : State) (n : Nat) (ecc : Bool) : State :=
  match if s.scOn then (s.scChan n).xfer else none with
  | none => s
  | some x =>
    if wbits (x.words.headD 0) 49 1 ≠ 1 ∨ opOf (x.words.headD 0) ≠ opMove then s
    else
      let u := s.burstEnd n x ecc
      match (u.scChan n).xfer with
      | none => u
      | some y =>
        if y.burstLen ≠ 0 ∧ u.lineUp y.line y.burstLen then
          (u.modScChan n fun c => { c with xfer := some { y with burst := some y.burstLen } }).setSc n ScSt.run
        else u

/-- SCARAB_REQ_WITHDRAW: the peripheral serves only `kept` bytes of the burst in progress; the UART never withdraws. -/
def State.reqWithdraw (s : State) (n kept : Nat) : State :=
  match if s.scOn then (s.scChan n).xfer else none with
  | none => s
  | some x =>
    match x.burst with
    | some len =>
      if len ≤ kept ∨ x.withdrawn ∧ x.kept.isSome ∨ 1 < x.line then s
      else (s.modScChan n fun c => { c with xfer := some { x with kept := some kept, withdrawn := true } }).bump SCARAB_WITHDRAWN_COUNT
        SCARAB_CNT_FLAGS 1 1
    | none => s

/-- So many bytes of a transfer without requests move on; a MOVEX is only counted, its rows are written when it ends. -/
def State.moveOn (s : State) (n : Nat) (x : Xfer) (len : Nat) : State × Xfer :=
  let op := opOf (x.words.headD 0)
  if op = opMovex then (s, { x with done := x.done + len })
  else if op = opSwap then s.swapBytes n x len
  else s.moveBytes n x len

/-- The transfer of a channel that shares Scarab's rate: one in progress that waits for no line (R383, R388). -/
def State.sharing (s : State) (n : Nat) : Option Xfer :=
  if s.scState n ≠ ScSt.run then none
  else (s.scChan n).xfer.filter fun x => !(opOf (x.words.headD 0) == opMove && wbits (x.words.headD 0) 49 1 == 1)

/-- Bytes that another channel moves while channel n moves the last of its own (R383): all it has left at a higher priority, as many segments of 512 bytes at the same
one, none at a lower one. -/
def State.shareOf (s : State) (n left m : Nat) : Nat :=
  let pri := fun (k : Nat) => s.bit (SCARAB_CH_CTRL k) SCARAB_CH_CTRL_PRI
  match if m = n then none else s.sharing m with
  | none => 0
  | some y =>
    let has := y.len - y.done
    if pri m && !pri n then has else if pri m == pri n then min has (512 * ((left + 511) / 512)) else 0

/-- The other channels move their share, and the time it takes at 128 bytes in 4 Tc has gone by (log entry 99). -/
def State.shareRate (s : State) (n : Nat) (x : Xfer) : State :=
  let left := x.len - x.done
  let shares := (List.range 16).map fun m => (m, s.shareOf n left m)
  let total := left + (shares.map Prod.snd).sum
  let u := s.advance (max s.scBusy x.began + 4 * ((total + 127) / 128))
  { u.each (shares.filter fun y => y.2 != 0) (fun u y => match (u.scChan y.1).xfer with
      | some z => let (v, z') := u.moveOn y.1 z y.2; v.modScChan y.1 fun c => { c with xfer := some z' }
      | none => u) with scBusy := u.now }

/-- SCARAB_TRANSFER_DONE: the last byte of a transfer moves. -/
def State.xferDone (s : State) (n : Nat) (ecc : Bool) : State :=
  match if s.scOn then (s.scChan n).xfer else none with
  | none => s
  | some x =>
    let w := x.words.headD 0
    if opOf w = opMove ∧ wbits w 49 1 = 1 then
      match x.burst with
      | some len => if x.done + len = x.len then let (u, y) := s.moveBytes n x len; u.xferEnd n (y.mark ecc) else s
      | none => if x.done = x.len then s.xferEnd n (x.mark ecc) else s
    else
      let s := s.shareRate n x
      let (u, y) := if opOf w = opMovex then s.movexBytes n x else if opOf w = opSwap then s.swapBytes n x (x.len - x.done) else s.moveBytes n x (x.len - x.done)
      u.xferEnd n (y.mark ecc)

/-! ### WAIT (R387) -/

/-- The condition of a WAIT holds; a request line without a MOVE is judged for the smallest burst. -/
def State.waitHolds (s : State) (w : BitVec 64) : Bool :=
  if wbits w 55 1 = 1 then s.lineUp (wbits w 40 8) 64 else s.status (wbits w 40 8)

/-- A WAIT completes; with X = 1 it clears the status bit of its source. -/
def State.waitEnds (s : State) (n : Nat) (w : BitVec 64) : State :=
  let src := wbits w 40 8
  let u := if wbits w 55 1 = 0 ∧ wbits w 54 1 = 1 then s.statusWrite (src / 32) (BitVec.ofNat 32 (2 ^ (src % 32))) else s
  (u.modScChan n fun c => { c with wait := none, waitEnd := none }).runOn n (s.scPc n + 1)

/-- SCARAB_WAIT: it completes at once where its condition holds. -/
def State.scWait (s : State) (n : Nat) (ecc : List Ecc) : State :=
  s.scStep n opWait ecc fun s w =>
    let tmo := wbits w 0 32
    if s.waitHolds w then s.waitEnds n w
    else (s.modScChan n fun c => { c with wait := some w, waitEnd := if tmo = 0 then none else some (s.now + usTc tmo) }).setSc n ScSt.wait

/-- The time of a WAIT has run out. -/
def State.waitOver (s : State) (n : Nat) : Bool := (s.scChan n).waitEnd.any fun e => decide (e < s.now)

/-- SCARAB_WAIT_DONE: its condition holds, and its time has not run out before. -/
def State.scWaitDone (s : State) (n : Nat) : State :=
  match if s.scOn then (s.scChan n).wait else none with
  | none => s
  | some w => if s.waitOver n then s.scError n 6 else if s.waitHolds w then s.waitEnds n w else s

/-- SCARAB_WAIT_TIMEOUT: the time of a WAIT runs out; one whose condition holds then completes. -/
def State.scWaitTimeout (s : State) (n : Nat) : State :=
  match if s.scOn then (s.scChan n).wait else none, (s.scChan n).waitEnd with
  | some w, some e =>
    let u := s.advance e
    if u.waitHolds w && !u.waitOver n then u.waitEnds n w else u.scError n 6
  | _, _ => s

/-! ### Registers (R380, R382, R391 to R393) -/

/-- SCARAB_ENABLE, SCARAB_DISABLE: a write of CH_CTRL. -/
def State.chCtrl (s : State) (n : Nat) (w : Word) : State :=
  let was := s.bit (SCARAB_CH_CTRL n) SCARAB_CH_CTRL_EN
  let u := s.plainWrite (SCARAB_CH_CTRL n) w
  if bitF w SCARAB_CH_CTRL_EN then
    if was then u else (u.setScChan n {}).runOn n (u.fld (SCARAB_CH_CTRL n) SCARAB_CH_CTRL_START_PC)
  else u.scDisable n

/-- SCARAB_DOORBELL: parked channels read their word again; where it is still STOP no command carries what error it shows. -/
def State.doorbell (s : State) (w : Word) : State :=
  s.each ((onesOf 16 w.toNat).filter fun n => s.scState n == ScSt.parked) fun s n =>
    if opOf (s.pmemWord (s.scPc n)) = opStop then
      let (u, bad) := s.scEcc [s.freeEcc]
      if bad then u.useFree.scError n 5 else u.useFree
    else s.runOn n (s.scPc n)

/-- SCARAB_CONS_IDX_WRITE: a stalled channel resumes once its ring has room. -/
def State.consIdx (s : State) (n : Nat) (w : Word) : State :=
  let u := s.plainWrite (SCARAB_CONS_IDX n) w
  match (u.scChan n).due with
  | some (r, pc, st) =>
    if u.ringFull n then u
    else
      let v := (((u.modScChan n fun c => { c with due := none }).writeRecord n r).setScPc n (min 8191 pc)).afterRecord n st
      if st = ScSt.run then v.runOn n pc else v
  | none => u

/-- The program-memory window. -/
def State.pmemAddr (s : State) : Nat := s.fld SCARAB_PMEM_ADDR SCARAB_PMEM_ADDR_ADDR
def State.pmemAdvance (s : State) : State := s.setFld SCARAB_PMEM_ADDR SCARAB_PMEM_ADDR_ADDR (s.pmemAddr + 1)
/-- SCARAB_PMEM_DATA_HI_WRITE. -/
def State.pmemHiWrite (s : State) (w : Word) : State :=
  ((s.setReg SCARAB_PMEM_DATA_HI w).setPmemWord s.pmemAddr (w ++ s.reg SCARAB_PMEM_DATA_LO)).pmemAdvance
/-- SCARAB_PMEM_DATA_LO_READ. -/
def State.pmemLoRead (s : State) : State :=
  let w := s.pmemWord s.pmemAddr
  { (s.setReg SCARAB_PMEM_DATA_LO (w.setWidth 32)).setReg SCARAB_PMEM_DATA_HI ((w >>> 32).setWidth 32) with reply := w.setWidth 32 }
/-- SCARAB_PMEM_DATA_HI_READ. -/
def State.pmemHiRead (s : State) : State := { s.pmemAdvance with reply := s.reg SCARAB_PMEM_DATA_HI }

end Sys2Proof.Machine
end

