-- ==== Sys2Proof/Machine/Access.lean ====
section
/-!
DEFINITION. Register accesses: what a write and a read of each register do (R8 to R13, R25 to R29).  Every requester comes through here: the
host, Rilyn, SET and GET, and the start record.
-/
namespace Sys2Proof.Machine
open Reg F

/-! ### Writes, block by block.  `off` is the offset in the block, `a` the device address. -/

/-- GLIDE of die p (R70). -/
def State.writeGlide (s : State) (p off a : Nat) (w : Word) : State :=
  if off = 0x00 then s.glideCtrlWrite p w
  else if off = 0x28 then s.imemHiWrite p w
  else if off = 0x80 then s.tileEnWrite w
  else s.plainWrite a w

/-- TXCH of tile t (R99). -/
def State.writeTxch (s : State) (t off a : Nat) (w : Word) : State :=
  if off = 0x00 then s.txCtrl t w
  else if off = 0x08 then s.configOnly fun s => s.plainWrite a w
  else if off = 0x0C then s.txRfHi t w
  else if 0x10 ≤ off ∧ off < 0x20 then s.carConfig a t false w
  else if off = 0x20 then s.txTrimArm t (getF w TXCH_TRIM_ARM_PMASK)
  else if off = 0x24 then s.patgen t w
  else if off = 0x34 then s.txNcoHi t w
  else if off = 0x38 then s.txFilt t w
  else if 0x180 ≤ off ∧ off < 0x1C0 then s.txGainWrite t ((off - 0x180) / 4) w
  else s.plainWrite a w

/-- RXCH of tile t (R130). -/
def State.writeRxch (s : State) (t off a : Nat) (w : Word) : State :=
  if off = 0x08 then s.configOnly fun s => s.plainWrite a w
  else if off = 0x0C then s.rxRfHi t w
  else if 0x10 ≤ off ∧ off < 0x20 then s.carConfig a t true w
  else if (0x20 ≤ off ∧ off < 0x30) ∨ off = 0x34 then s.configOnly fun s => (s.plainWrite a w).recheckRx t
  else if off = 0x30 then s.rxTrimArm t (getF w RXCH_TRIM_ARM_PMASK)
  else if off = 0x40 then s.rxNcoHi t w
  else if off = 0x44 then s.rxFilt t w
  else if off = 0x54 then s.pmCfg t w
  else if off = 0x58 then s.wpdCfg t w
  else if off = 0x60 then s.rxZone t w
  else if off = 0x00 ∨ off = 0x48 then (s.keepRxCtl t).plainWrite a w
  else s.plainWrite a w

/-- SLALOM (R162). -/
def State.writeSlalom (s : State) (off a : Nat) (w : Word) : State :=
  if off = 0x00 then s.configOnly fun s => s.plainWrite a w
  else if off = 0x10 then s.beamCmdWrite (getF w SLALOM_BEAM_CMD_OP) (getF w SLALOM_BEAM_CMD_ID)
  else if 0x400 ≤ off then s.beamDataWrite a w
  else s.plainWrite a w

/-- DPD of tile t, and of the hub (R194). -/
def State.writeTdpd (s : State) (t off a : Nat) (w : Word) : State :=
  if off = 0x00 then s.tdpdCtrl t w
  else if off = 0x08 then s.swapArm t (getF w TDPD_SWAP_ARM_PMASK)
  else if off = 0x14 then s.tblWrite t w
  else if 0x20 ≤ off then s.configOnly fun s => s.plainWrite a w
  else s.plainWrite a w
def State.writeHdpd (s : State) (off a : Nat) (w : Word) : State :=
  if off = 0x00 then s.hdpdCtrl w
  else if off = 0x08 then s.coefStart (getF w HDPD_COEF_CMD_OP) (getF w HDPD_COEF_CMD_PATH)
  else if off = 0x0C then s.coefAddr w
  else if off = 0x10 then s.coefWrite w
  else s.plainWrite a w

/-- CAL_CMD: only GO starts a burst (R201). -/
def State.calCmdWrite (s : State) (t : Nat) (w : Word) : State :=
  if bitF w DFLY_CAL_CMD_GO then s.calCmd t (getF w DFLY_CAL_CMD_KIND) (BitVec.ofNat 16 (getF w DFLY_CAL_CMD_PMASK)) else s

/-- DFLY of tile t (R194, R210); a change of a trigger is judged at once. -/
def State.writeDfly (s : State) (t off a : Nat) (w : Word) : State :=
  if off = 0x00 then s.dflyCtrl t w
  else if off = 0x204 then s.calCmdWrite t w
  else s.plainWrite a w

/-- SEQ, BIASOUT and RFFE of tile t (R231). -/
def State.writeSeq (s : State) (t off a : Nat) (w : Word) : State :=
  if off = 0x00 then s.seqCmd t w
  else if 0x10 ≤ off ∧ off % 0x10 < 0x0C then s.seqCfg t ((off - 0x10) / 0x10) a w
  else s.plainWrite a w
def State.writeBias (s : State) (t off a : Nat) (w : Word) : State :=
  if 0x100 ≤ off ∧ off < 0x140 then s.biasCfg t ((off - 0x100) / 4) w
  else if 0x180 ≤ off ∧ off < 0x1C0 then s.biasCode t ((off - 0x180) / 4) w
  else s.plainWrite a w
def rffeCmdOf (w : Word) : RffeCmd :=
  ⟨BitVec.ofNat 4 (getF w RFFE_CMD_OP), BitVec.ofNat 4 (getF w RFFE_CMD_USID), BitVec.ofNat 16 (getF w RFFE_CMD_ADDR),
   BitVec.ofNat 8 (getF w RFFE_CMD_DATA)⟩
def State.writeRffe (s : State) (t off a : Nat) (w : Word) : State :=
  if off % 0x10 = 0x04 then s.rffeCmd t (off / 0x10) (rffeCmdOf w)
  else if off % 0x10 = 0x00 then s.rffeCfg t (off / 0x10) a w
  else s.plainWrite a w

/-- SPLL and LPLL of tile t, and HPLL (R357); `ofs`: the phase in ps an input switch meets. -/
def State.writeSpll (s : State) (t off a : Nat) (w : Word) : State :=
  if off = 0x00 then (s.plainWrite a w).judgeRecal t
  else if off = 0x04 then s.spllCmd t w
  else s.plainWrite a w
def State.writeLpll (s : State) (t off a : Nat) (w : Word) : State := if off = 0x20 then s.pllArm (1 + t) w else s.plainWrite a w
def State.writeHpll (s : State) (off a : Nat) (w : Word) (ofs : Int) : State :=
  if off = 0x00 then s.hpllCtrl w ofs
  else if off = 0x08 ∨ off = 0x0C then s.configOnly fun s => s.plainWrite a w
  else if off = 0x10 then s.pllArm 0 w
  else s.plainWrite a w

/-- LANEQ, MAC and BUROG (R251, R282, R300). -/
def State.writeLaneq (s : State) (off a : Nat) (w : Word) : State :=
  if off < 0x10 then s.qcfgWrite (off / 4) w
  else if off = 0x84 then s.eyeGo w
  else if 0x100 ≤ off ∧ off % 0x10 = 0 then s.lctrlWrite ((off - 0x100) / 0x10) w
  else s.plainWrite a w

/-- FH_JRN_CFG, Configure only: EN binds check-value unit 8 (R301, R306), and the journal is judged (R275, R313). -/
def State.jrnCfgWrite (s : State) (w : Word) : State :=
  s.configOnly fun s =>
    let u := s.plainWrite MAC_FH_JRN_CFG w
    (if u.bit MAC_FH_JRN_CFG MAC_FH_JRN_CFG_EN = s.bit MAC_FH_JRN_CFG MAC_FH_JRN_CFG_EN then u else u.cuReset 8).judgeJournal
def State.writeMac (s : State) (off a : Nat) (w : Word) : State :=
  if 0x100 ≤ off ∧ off < 0x300 ∧ off % 0x40 = 0 then s.pcfgWrite ((off - 0x100) / 0x40) w
  else if off = 0x1008 then s.jrnCfgWrite w
  else if off = 0x1004 ∨ (0x1020 ≤ off ∧ off < 0x1030) then s.configOnly fun s => s.plainWrite a w
  else s.plainWrite a w
def State.writeBurog (s : State) (off a : Nat) (w : Word) : State :=
  if off = 0x00 then s.burogCfgWrite w else if off = 0x04 then s.burogCmd w else s.plainWrite a w

/-- CU: unit u at 0x100 + 0x80 u (R315). -/
def State.writeCu (s : State) (off a : Nat) (w : Word) : State :=
  if off < 0x100 then s.plainWrite a w
  else
    let u := (off - 0x100) / 0x80
    match off % 0x80 with
    | 0x00 => s.cuCfgWrite u w
    | 0x04 => s.cuCmd u w
    | 0x08 | 0x0C | 0x10 | 0x14 | 0x18 => s.cuParam a u w
    | 0x1C => s.cuDataW u w
    | 0x20 => s.cuDataB u w
    | 0x24 => s.cuRunLoWrite u w
    | 0x28 => s.cuRunHiWrite u w
    | _ => s.plainWrite a w

/-- TIME (R334). -/
def State.writeTimeRegs (s : State) (off a : Nat) (w : Word) : State :=
  if off = 0x00 then s.timeCtrl w
  else if off = 0x08 then s.newEpoch w
  else if off = 0x20 then s.keepCfg w
  else if off = 0x44 then s.setReg a w
  else if off = 0x48 then s.ofsHi w
  else s.plainWrite a w

/-- CMD of DRAMC (R372). -/
def State.dramCmdWrite (s : State) (w : Word) : State :=
  let mask := getF w DRAMC_CMD_CHMASK
  match getF w DRAMC_CMD_OP with
  | 1 => s.dramCmd false mask
  | 2 => s.dramCmd true mask
  | _ => s

/-- DRAMC (R378).  The delays are written in Configure (R371). -/
def State.writeDramc (s : State) (off a : Nat) (w : Word) : State :=
  if off = 0x00 then (s.dramCfgWrite w).judgeRetrain
  else if off = 0x08 then s.dramCmdWrite w
  else if off = 0x14 then ((s.plainWrite a w).judgePanic 0).judgePanic 1
  else if off = 0x2C then s.winWrite w
  else if 0x100 ≤ off ∧ off % 0x40 ≤ 0x10 then s.configOnly fun s => s.plainWrite a w
  else s.plainWrite a w

/-- SCARAB (R396). -/
def State.writeScarab (s : State) (off a : Nat) (w : Word) : State :=
  if off = 0x00 then s.doorbell w
  else if off = 0x0C then s.pmemHiWrite w
  else if 0x100 ≤ off ∧ off % 0x20 = 0x00 then s.chCtrl ((off - 0x100) / 0x20) w
  else if 0x100 ≤ off ∧ off % 0x20 = 0x14 then s.consIdx ((off - 0x100) / 0x20) w
  else s.plainWrite a w

/-- HIVE (R474). -/
def State.writeHive (s : State) (off a : Nat) (w : Word) : State :=
  if off < 0x20 then s.statusWrite (off / 4) w
  else if 0x400 ≤ off then s.srcCfgWrite ((off - 0x400) / 4) w
  else s.plainWrite a w

/-- PMU (R415); `lat`: always-on cycles before a domain request takes effect. -/
def State.writePmu (s : State) (off a : Nat) (w : Word) (lat : Nat) : State :=
  if off = 0x0C ∨ off = 0x1C then s.wakeRegWrite a w
  else if off = 0x14 then s.timerCfg w
  else if 0x100 ≤ off ∧ off < 0x200 then s.domWrite ((off - 0x100) / 4) w lat
  else s.plainWrite a w

/-- RILYN, HKADC and THERM (R450, R464). -/
def State.writeRilyn (s : State) (off a : Nat) (w : Word) : State :=
  if off = 0x14 then s.mbxCtrl w
  else if off = 0x20 then s.bufWrite w
  else if off = 0x1C ∨ (0x100 ≤ off ∧ off < 0x200) then s.mbxFree fun s => s.plainWrite a w
  else s.plainWrite a w
def State.writeHkadc (s : State) (d off a : Nat) (w : Word) : State :=
  if 0x100 ≤ off ∧ off < 0x200 then s.hkChcfg d ((off - 0x100) / 4) w else s.plainWrite a w
def State.writeTherm (s : State) (d off a : Nat) (w : Word) : State :=
  if off = 0x08 then s.rateCfg d w else if off = 0x40 then s.xchkCfg w else s.plainWrite a w

/-- What a write of a register that answers does; `lat` and `ofs` as above. -/
def State.writeAt (s : State) (a : Nat) (w : Word) (lat : Nat) (ofs : Int) : State :=
  let off := offOf a
  let d := dieOf a
  let t := d - 1
  if isCntFlags a then s.flagsWrite a w
  else match blockOf a with
  | 0x01 => s.writeGlide d off a w
  | 0x02 => s.writeSlalom off a w
  | 0x03 => s.writeMac off a w
  | 0x04 => s.writeLaneq off a w
  | 0x05 => s.writeBurog off a w
  | 0x06 => s.writeCu off a w
  | 0x07 => s.writeTimeRegs off a w
  | 0x08 => s.writeHpll off a w ofs
  | 0x09 => s.writeDramc off a w
  | 0x0A => s.writeScarab off a w
  | 0x0B => s.writeHive off a w
  | 0x0C => s.writePmu off a w lat
  | 0x0D => s.writeRilyn off a w
  | 0x0E => s.writeTherm d off a w
  | 0x10 => s.writeHkadc d off a w
  | 0x18 => s.writeTxch t off a w
  | 0x19 => s.writeRxch t off a w
  | 0x1A => if d = 0 then s.writeHdpd off a w else s.writeTdpd t off a w
  | 0x1B => s.writeDfly t off a w
  | 0x1C => s.writeSeq t off a w
  | 0x1D => s.writeBias t off a w
  | 0x1E => s.writeRffe t off a w
  | 0x1F => s.writeSpll t off a w
  | 0x20 => s.writeLpll t off a w
  | _ => s.plainWrite a w

/-- A write of one die by any requester: discarded with REG_ACCESS_ERROR where nothing answers (R9, R29). -/
def State.writeOne (s : State) (a : Nat) (w : Word) (lat : Nat) (ofs : Int) : State := s.guarded a fun s => s.writeAt a w lat ofs

/-- A write that crosses the link of a tile: where an uncorrectable error has struck it, it is discarded (R16). -/
def State.linkWrite (s : State) (a : Nat) (w : Word) (lat : Nat) (ofs : Int) : State :=
  let t := dieOf a - 1
  if 1 ≤ dieOf a ∧ dieOf a ≤ 4 ∧ s.struck.getLsbD t then { s with struck := s.struck &&& ~~~ BitVec.ofNat 4 (2 ^ t) }.accessError
  else s.writeOne a w lat ofs

/-- A write through TILE_ALL reaches the four tiles; to a block that tiles do not have it is discarded with one REG_ACCESS_ERROR (R27). -/
def State.broadcast (s : State) (a : Nat) (w : Word) : State :=
  if tileRegs (blockOf a) = [] then s.accessError
  else s.each tiles fun s t => s.linkWrite ((1 + t) * 0x1000000 + a % 0x1000000) w 0 0

/-- A write to any device address, from the hub, and to a register of the own die; what it leaves open is a free value (log entry 3). -/
def State.writeReg (s : State) (a : Nat) (w : Word) : State :=
  if dieOf a = 15 then s.broadcast a w
  else s.useFree.linkWrite a w (s.freeNow.toNat % 4) (s.freeNow.toInt)
def State.ownWrite (s : State) (a : Nat) (w : Word) : State := s.useFree.writeOne a w (s.freeNow.toNat % 4) (s.freeNow.toInt)

/-- REGISTER_WRITE: by the host or Rilyn, with its byte enables: a partial write is discarded (R8). -/
def State.hostWrite (s : State) (a : BitVec 28) (w : Word) (bytes : BitVec 4) (lat : Nat) (ofs : Int) : State :=
  if bytes = 0xF ∧ a.toNat % 4 = 0 then (if dieOf a.toNat = 15 then s.broadcast a.toNat w else s.linkWrite a.toNat w lat ofs)
  else s.accessError

/-! ### Reads -/

/-- The selected carrier of CARSEL, in either direction. -/
def State.txShown (s : State) (t : Nat) : Carrier := let (i, c) := s.txSel t; s.txCar (carKey t i c)
def State.rxShown (s : State) (t : Nat) : Carrier := let (i, c) := s.rxSel t; s.rxCar (carKey t i c)

/-- CAR_FILT of a carrier. -/
def Carrier.filtWord (k : Carrier) : Word :=
  putF (putF (putF 0 TXCH_CAR_FILT_RESP k.resp.toNat) TXCH_CAR_FILT_GATE (b2n k.gate)) TXCH_CAR_FILT_RATIO k.ratio.toNat
def Carrier.twLo (k : Carrier) : Word := k.tw.setWidth 32
def Carrier.twHi (k : Carrier) : Word := (k.tw >>> 32).setWidth 32

/-- Bits of a word, lowest first, by a test of 32 indices. -/
def wordBits (f : Nat → Bool) : Word := (List.range 32).foldl (fun w i => if f i then w ||| BitVec.ofNat 32 (2 ^ i) else w) 0

/-- Fields a unit bound to a protocol shows (Table 12-3): the CRC-32C of R307. -/
def State.cuShown (s : State) (u off : Nat) (w : Word) : Word :=
  if !s.cuBound u then w
  else match off with
    | 0x00 => putF (putF (putF (putF (putF 0 CU_CFG_REFIN 1) CU_CFG_REFOUT 1) CU_CFG_INV 1) CU_CFG_PREFIX_EN 1) CU_CFG_WIDTH 32
    | 0x08 => BitVec.ofNat 32 crc32c.poly
    | 0x10 => BitVec.ofNat 32 crc32c.init
    | _ => 0

/-- STATUS of the hub's DPD. -/
def State.hdpdStatus (s : State) : Word :=
  let path := match s.solver with
    | some (.accumulate p _ _ _) | some (.solve p _) | some (.await p _ _) | some (.write p _ _ _) => p
    | none => 0
  let busy := match s.solver with | none | some (.await _ _ _) => false | _ => true
  putF (putF (putF (putF (putF 0 HDPD_STATUS_BUSY (b2n busy)) HDPD_STATUS_CMD_BUSY (b2n s.coefCmd.isSome)) HDPD_STATUS_OPEN
    s.jobs.length) HDPD_STATUS_PATH path) HDPD_STATUS_WAITING s.readyList.length

/-- The value a read of a register returns: the stored word, and for fields that follow the state, what they follow.  WO fields read 0. -/
def State.regView (s : State) (a : Nat) : Word :=
  let w := s.reg a
  let off := offOf a
  let d := dieOf a
  let t := d - 1
  match blockOf a with
  | 0x01 =>
    if off = 0x04 then s.glideStatus d
    else if off = 0x34 then ((s.glide d).reg (s.fld (GLIDE_GREG_SEL d) GLIDE_GREG_SEL_SEL)).setWidth 32
    else if off = 0x38 then (s.glide d).gregHi
    else if off = 0x40 then (s.glide d).bt.setWidth 32
    else if off = 0x44 then (s.glide d).btHi
    else if 0x90 ≤ off ∧ off < 0xA0 then BitVec.ofNat 32 (s.fifoLevel ((off - 0x90) / 4))
    else w
  | 0x02 =>
    if off = 0x04 then putF (putF w SLALOM_STATUS_POOL_FREE s.poolFree) SLALOM_STATUS_ENTRIES_USED s.entriesUsed
    else if off = 0x1C then
      (s.tlBeam (32 * s.fld SLALOM_TL_SEL SLALOM_TL_SEL_D + s.fld SLALOM_TL_SEL SLALOM_TL_SEL_LAYER)).setWidth 32
    else w
  | 0x03 => if off = 0x1010 then BitVec.ofNat 32 s.jrnNext else w
  | 0x06 =>
    if off < 0x100 then w
    else
      let u := (off - 0x100) / 0x80
      match off % 0x80 with
      | 0x00 | 0x08 | 0x0C | 0x10 | 0x14 => s.cuShown u (off % 0x80) w
      | 0x24 => (s.cuRun u).setWidth 32
      | 0x2C => (s.cuResult u).setWidth 32
      | 0x34 => s.cuStat u
      | _ => w
  | 0x07 =>
    if off = 0x0C then s.tb.setWidth 32
    else if off = 0x30 then s.ppsTs.setWidth 32
    else if off = 0x38 then s.tsyncTs.setWidth 32
    else if off = 0x44 ∨ off = 0x48 then 0
    else w
  | 0x09 => if off = 0x38 then putF w DRAMC_STORE_STAT_SYM_FREE (storeUnits - s.unitsHeld) else w
  | 0x0B =>
    if off < 0x20 then wordBits fun j => s.status (off / 4 * 32 + j)
    else if off < 0x40 then wordBits fun j => hasLevel ((off - 0x20) / 4 * 32 + j) && s.levelCond ((off - 0x20) / 4 * 32 + j)
    else if off = 0x40 then wordBits fun n => n < 4 && s.intLow n
    else if off = 0x44 then s.pendingVectors
    else w
  | 0x0F =>
    if off = 0x04 then s.mon (32 * d + s.monIndex d)
    else if off = 0x08 then Config.monRef d (s.monIndex d)
    else w
  | 0x18 => if off = 0x30 then (s.txShown t).twLo else if off = 0x34 then (s.txShown t).twHi else if off = 0x38 then (s.txShown t).filtWord else w
  | 0x19 => if off = 0x3C then (s.rxShown t).twLo else if off = 0x40 then (s.rxShown t).twHi else if off = 0x44 then (s.rxShown t).filtWord else w
  | 0x1A => if d = 0 ∧ off = 0x04 then s.hdpdStatus else w
  | 0x1B =>
    if off = 0x04 then putF w DFLY_STATUS_BUSY (b2n (s.dflyOccupied t 0) + 2 * b2n (s.dflyOccupied t 1)) else w
  | 0x1C =>
    if 0x10 ≤ off ∧ off % 0x10 = 0x0C then
      let q := (off - 0x10) / 0x10
      putF (putF w SEQ_STAT_PAEN_PIN (s.paenPins t q)) SEQ_STAT_DRAINEN (b2n (s.drainEn t q))
    else w
  | 0x1D =>
    if 0x1C0 ≤ off ∧ off < 0x200 then putF w BIASOUT_STAT_LEVEL (s.bias (biasKey t ((off - 0x1C0) / 4))).queue.length else w
  | 0x1E =>
    if off % 0x10 = 0x08 then
      let m := s.rffe (quadKey t (off / 0x10))
      putF (putF (putF w RFFE_STAT_BUSY (b2n (m.bus.isSome && !m.held s.now))) RFFE_STAT_RD_LEVEL m.fifo.length) RFFE_STAT_QLEVEL (m.queued s.now)
    else w
  | 0x1F => if off = 0x10 then (s.ta t).setWidth 32 else if off = 0x14 then s.taHi t else w
  | _ => w

/-- FH_JRN_NEXT_LO: the low half, bits [39:32] captured. -/
def State.jrnNextRead (s : State) : State := s.loRead (BitVec.ofNat 64 s.jrnNext) MAC_FH_JRN_NEXT_HI

/-- Saturations are counted up to now before a CLIP_COUNT is read (R77, R101). -/
def State.clipRead (s : State) (a t i : Nat) (rx : Bool) : State :=
  let u := if rx then s.countRx t i else s.countTx t i
  { u with reply := u.regView a }

/-- A read of a register that answers: its data in `reply`, and what the read itself does. -/
def State.readAt (s : State) (a : Nat) : State :=
  let off := offOf a
  let d := dieOf a
  let t := d - 1
  let plain := { s with reply := s.regView a }
  match blockOf a with
  | 0x01 =>
    if off = 0x24 then s.imemLoRead d else if off = 0x28 then s.imemHiRead d
    else if off = 0x34 then s.gregLoRead d else if off = 0x40 then s.btLoRead d else plain
  | 0x03 => if off = 0x1010 then s.jrnNextRead else plain
  | 0x06 =>
    if 0x100 ≤ off ∧ off % 0x80 = 0x24 then s.cuRunLoRead ((off - 0x100) / 0x80)
    else if 0x100 ≤ off ∧ off % 0x80 = 0x2C then s.cuResultLoRead ((off - 0x100) / 0x80)
    else plain
  | 0x07 =>
    if off = 0x0C then s.tbLoRead
    else if off = 0x30 then s.loRead s.ppsTs TIME_PPS_IN_TS_HI
    else if off = 0x38 then s.loRead s.tsyncTs TIME_TSYNC_IN_TS_HI
    else plain
  | 0x09 => if off = 0x2C then s.winRead else plain
  | 0x0A => if off = 0x08 then s.pmemLoRead else if off = 0x0C then s.pmemHiRead else plain
  | 0x0D => if off = 0x20 then s.bufRead else plain
  | 0x18 | 0x19 => if 0x1C0 ≤ off ∧ off < 0x200 then s.clipRead a t ((off - 0x1C0) / 4) (blockOf a == 0x19) else plain
  | 0x1A => if d = 0 then (if off = 0x10 then s.coefRead else plain) else (if off = 0x14 then s.tblRead t else plain)
  | 0x1E => if off % 0x10 = 0x0C then s.rffeRead t (off / 0x10) else plain
  | 0x1F => if off = 0x10 then s.taLoRead t else plain
  | _ => plain

/-- A read of any device address by any requester; partial byte enables change nothing (R8), and TILE_ALL is for writes only (R10). -/
def State.readReg (s : State) (a : Nat) : State :=
  if dieOf a = 15 then { s.accessError with reply := 0 } else s.guardedRead a fun s => s.readAt a

/-- UNOCCUPIED_READ and TILE_ALL_READ: reads of an address where nothing answers, and through TILE_ALL; with another address the event
does not occur (log entry 8). -/
def State.unoccupiedRead (s : State) (a : Nat) : State :=
  if dieOf a ≠ 15 ∧ !s.answers a then { s.accessError with reply := 0 } else s
def State.tileAllRead (s : State) : State := { s.accessError with reply := 0 }

end Sys2Proof.Machine
end

