-- ==== Sys2Proof/Machine/Glide.lean ====
section
/-!
DEFINITION. The Glide processors at work: fetch and faults, flow, arithmetic, bundles, waits, fences, register access, and the radio
instructions at their effect instants (R40 to R69).
-/
namespace Sys2Proof.Machine
open Reg F

/-! ### Fields of a word (Table 2-4) -/

def gBits (w : BitVec 64) (lo width : Nat) : Nat := w.toNat / 2 ^ lo % 2 ^ width
def gBit (w : BitVec 64) (i : Nat) : Bool := w.getLsbD i
def gOp (w : BitVec 64) : Nat := gBits w 56 8

/-- Bits `lo` to `hi` of a word are zero. -/
def gZero (w : BitVec 64) (hi lo : Nat) : Bool := gBits w lo (hi + 1 - lo) == 0

/-- Opcodes of radio instructions, and every opcode of Table 2-3. -/
def gRadio (op : Nat) : Bool := decide (0x10 ≤ op) && decide (op ≤ 0x1A)
def gValid (op : Nat) : Bool :=
  [0x01, 0x02, 0x03, 0x08, 0x09, 0x20, 0x21, 0x22].contains op || gRadio op || (decide (0x28 ≤ op) && decide (op ≤ 0x2D))
    || (decide (0x30 ≤ op) && decide (op ≤ 0x38)) || op == 0x3F

/-- The operand b of ADD to CMP leaves no bit reserved set. -/
def gOperandOk (w : BitVec 64) : Bool := gZero w 42 32 && if gBit w 43 then gZero w 47 44 else gZero w 31 0

/-- No reserved field is set and no selector holds a reserved value (R47, Table 2-4); `hub` on GLIDE_H. -/
def gWellFormed (hub : Bool) (w : BitVec 64) : Bool :=
  match gOp w with
  | 0x02 => gZero w 51 48
  | 0x03 => decide (gBits w 52 4 ≤ 2) && gZero w 47 0 && (hub || gZero w 51 48)
  | 0x09 => gZero w 51 48 && decide (gBits w 52 4 ≤ if hub then 0 else 2)
  | 0x10 | 0x11 | 0x12 | 0x13 => gZero w 51 48 && gZero w 31 0
  | 0x14 => gZero w 53 48 && gZero w 31 16 && if gBit w 55 then gZero w 15 6 else !gBit w 54
  | 0x15 => !gBit w 54 && gZero w 31 0
  | 0x16 => (gBit w 55 || !gBit w 54) && gZero w 30 12
  | 0x17 => gZero w 49 15
  | 0x18 => gZero w 53 52 && gZero w 31 0 && if gBit w 54 then gZero w 47 32 else gZero w 51 48
  | 0x19 => decide (gBits w 52 4 ≤ 9) && gZero w 43 32
  | 0x1A => decide (gBits w 52 4 ≤ 3) && gZero w 51 48
  | 0x20 | 0x21 => gZero w 47 28
  | 0x22 => gZero w 47 0
  | 0x28 => gZero w 54 52 && gZero w 47 45
  | 0x29 | 0x2C | 0x2D => gZero w 55 0
  | 0x2A | 0x2B => gZero w 54 52 && gZero w 47 13 && if gBit w 55 then gZero w 12 0 else gZero w 51 48
  | 0x30 =>
    gZero w 51 50 && match gBits w 48 2 with
      | 0 => true
      | 1 => gZero w 43 0
      | 2 => gZero w 47 16
      | _ => gZero w 47 0
  | 0x31 | 0x32 | 0x33 | 0x34 => gOperandOk w
  | 0x35 | 0x36 => gOperandOk w && (!gBit w 43 || gZero w 31 6)
  | 0x37 => gZero w 55 52 && gOperandOk w
  | 0x38 => decide (gBits w 52 4 ≤ 5) && gZero w 51 13
  | 0x3F => gZero w 52 0 && (hub || !gBit w 53)
  | _ => true

/-! ### Faults, and going on (R46) -/

def GLIDE_IMEM_FLAG : Nat := 1

/-- The processor faults with a code at an index. -/
def State.gFault (s : State) (p code at_ : Nat) : State :=
  (s.modGlide p fun g => { g with st := .fault, fault := code, pc := at_, held := none, waitEnd := none }).raise (Ev.GLIDE_FAULT p)

/-- The processor runs on at index `pc` after the instruction at `at_`, `cost` Tc after its issue; past 8,191 it faults with code 9. -/
def State.gGoto (s : State) (p at_ pc cost : Nat) : State :=
  if 8191 < pc then s.gFault p 9 at_
  else s.modGlide p fun g => { g with st := .running, pc := pc, nextIssue := max g.nextIssue s.now + cost, waitEnd := none }

/-- The instruction after the one at hand; a jump taken, one cycle more (R41). -/
def State.gNext (s : State) (p : Nat) : State := s.gGoto p (s.glide p).pc ((s.glide p).pc + 1) 4
def State.gJump (s : State) (p pc : Nat) : State := s.gGoto p (s.glide p).pc pc 8

/-- A processor issues the instruction at its pc, which is the one of opcode `op`, by `f`: at its next issue cycle it fetches the word, counts
a corrected error, and faults with the lowest code that applies (R41, R43, R46, R47).  Where the word is another instruction that may issue,
the command does not occur (log entry 8). -/
def State.gIssue (s : State) (p op : Nat) (ecc : Ecc) (f : State → BitVec 64 → State) : State :=
  let g := s.glide p
  if g.st ≠ .running ∨ !s.mode.runsGlide ∨ !s.domOn (glideDomain p) ∨ 5 ≤ p then s
  else
    let w := s.imemWord p g.pc
    let u := s.advance g.nextIssue
    let u := if ecc = .corrected then u.bump (GLIDE_IMEM_CORRECTED p) (GLIDE_CNT_FLAGS p) GLIDE_IMEM_FLAG 1 else u
    if ecc = .fatal then u.gFault p 8 g.pc
    else if !gValid (gOp w) then u.gFault p 1 g.pc
    else if gRadio (gOp w) then u.gFault p (if gWellFormed (p == 0) w then 3 else 2) g.pc
    else if gOp w ≠ op then s
    else if !gWellFormed (p == 0) w then u.gFault p 2 g.pc
    else f u w

/-- Register operands. -/
def State.gReg (s : State) (p n : Nat) : BitVec 64 := (s.glide p).reg n
def State.setGReg (s : State) (p n : Nat) (v : BitVec 64) : State := s.modGlide p fun g => g.setReg n v

/-! ### Arithmetic (R48) -/

/-- Operand b: an immediate, sign-extended, or a register. -/
def State.gB (s : State) (p : Nat) (w : BitVec 64) : BitVec 64 :=
  if gBit w 43 then (BitVec.ofNat 32 (gBits w 0 32)).signExtend 64 else s.gReg p (gBits w 44 4)

/-- ADD, SUB, AND, OR, SHL, SHR: g[RD] from g[RS] and b. -/
def State.gAlu (s : State) (p op : Nat) (ecc : Ecc) (f : BitVec 64 → BitVec 64 → BitVec 64) : State :=
  s.gIssue p op ecc fun s w => (s.setGReg p (gBits w 52 4) (f (s.gReg p (gBits w 48 4)) (s.gB p w))).gNext p

/-- MOV. -/
def State.gMov (s : State) (p : Nat) (ecc : Ecc) : State :=
  s.gIssue p 0x30 ecc fun s w =>
    let rd := gBits w 52 4
    let v : BitVec 64 :=
      match gBits w 48 2 with
      | 0 => (BitVec.ofNat 48 (gBits w 0 48)).signExtend 64
      | 1 => s.gReg p (gBits w 44 4)
      | 2 => BitVec.ofNat 16 (gBits w 0 16) ++ (s.gReg p rd).setWidth 48
      | _ => s.tb
    (s.setGReg p rd v).gNext p

/-- CMP. -/
def State.gCmp (s : State) (p : Nat) (ecc : Ecc) : State :=
  s.gIssue p 0x37 ecc fun s w =>
    let a := s.gReg p (gBits w 48 4)
    let b := s.gB p w
    (s.modGlide p fun g => { g with z := a == b, lt := decide (a.toInt < b.toInt), ltu := decide (a.toNat < b.toNat) }).gNext p

/-- BR. -/
def State.gBr (s : State) (p : Nat) (ecc : Ecc) : State :=
  s.gIssue p 0x38 ecc fun s w =>
    let g := s.glide p
    let c := match gBits w 52 4 with
      | 0 => g.z | 1 => !g.z | 2 => g.lt | 3 => !g.lt | 4 => g.ltu | _ => !g.ltu
    if c then s.gJump p (gBits w 0 13) else s.gNext p

/-! ### Flow (R48) -/

def gTarget (s : State) (p : Nat) (w : BitVec 64) : Nat :=
  if gBit w 55 then (s.gReg p (gBits w 48 4)).toNat % 2 ^ 13 else gBits w 0 13

/-- JMP, CALL, RET. -/
def State.gJmp (s : State) (p : Nat) (ecc : Ecc) : State := s.gIssue p 0x2A ecc fun s w => s.gJump p (gTarget s p w)
def State.gCall (s : State) (p : Nat) (ecc : Ecc) : State :=
  s.gIssue p 0x2B ecc fun s w =>
    let g := s.glide p
    if 8 ≤ g.calls.length then s.gFault p 6 g.pc
    else (s.modGlide p fun g => { g with calls := (g.pc + 1) :: g.calls }).gJump p (gTarget s p w)
def State.gRet (s : State) (p : Nat) (ecc : Ecc) : State :=
  s.gIssue p 0x2C ecc fun s _ =>
    match (s.glide p).calls with
    | [] => s.gFault p 7 (s.glide p).pc
    | a :: rest => (s.modGlide p fun g => { g with calls := rest }).gJump p a

/-- LOOP and ENDL. -/
def State.gLoop (s : State) (p : Nat) (ecc : Ecc) : State :=
  s.gIssue p 0x28 ecc fun s w =>
    let g := s.glide p
    let e := gBits w 32 13
    let n : BitVec 32 := if gBit w 55 then BitVec.ofNat 32 (gBits w 0 32) else (s.gReg p (gBits w 48 4)).setWidth 32
    if n ≠ 0 ∧ 4 ≤ g.loops.length then s.gFault p 4 g.pc
    else if e ≤ g.pc ∨ gOp (s.imemWord p e) ≠ 0x29 then s.gFault p 10 g.pc
    else if n = 0 then s.gGoto p g.pc (e + 1) 4
    else (s.modGlide p fun g => { g with loops := ⟨g.pc + 1, e, n⟩ :: g.loops }).gNext p
def State.gEndl (s : State) (p : Nat) (ecc : Ecc) : State :=
  s.gIssue p 0x29 ecc fun s _ =>
    let g := s.glide p
    match g.loops with
    | [] => s.gFault p 5 g.pc
    | l :: rest =>
      if l.end_ ≠ g.pc then s.gFault p 5 g.pc
      else if l.n = 1 then (s.modGlide p fun g => { g with loops := rest }).gNext p
      else (s.modGlide p fun g => { g with loops := { l with n := l.n - 1 } :: rest }).gJump p l.start

/-- HALT.  At index 8,191 it halts with a program counter of 8,192, which STATUS.PC shows as 0, and takes no fault 9 (DESIGN CHOICE, log entry 51:
the spec does not say whether the counter has passed 8,191 there). -/
def State.gHalt (s : State) (p : Nat) (ecc : Ecc) : State :=
  s.gIssue p 0x2D ecc fun s _ => s.modGlide p fun g => { g with st := .halted, pc := g.pc + 1 }

/-! ### Register access and SIG (R48, R67) -/

/-- The effective address of SET and GET: a tile processor always reaches its own die. -/
def State.gAddr (s : State) (p : Nat) (w : BitVec 64) : Nat :=
  let a := (gBits w 0 28 + (s.gReg p (gBits w 48 4)).toNat) % 2 ^ 28
  if p = 0 then a else p * 0x1000000 + a % 0x1000000

/-- SET: posted; it completes within 64 Tc in the same die, within 512 Tc in another. -/
def State.gSet (s : State) (p : Nat) (ecc : Ecc) : State :=
  s.gIssue p 0x20 ecc fun s w =>
    let a := s.gAddr p w
    let v : Word := (s.gReg p (gBits w 52 4)).setWidth 32
    let u := if a % 4 ≠ 0 then s.accessError else if p = 0 then s.writeReg a v else s.ownWrite a v
    let done := s.now + if p ≠ 0 ∨ dieOf a = 0 then 64 else 512
    (u.modGlide p fun g => { g with setDone := max g.setDone done, sets := (256 * dieOf a + blockOf a, done) :: g.sets.filter fun x => decide (s.now < x.2) }).gNext p

/-- GET stalls until its data returns. -/
def State.gGet (s : State) (p : Nat) (ecc : Ecc) : State :=
  s.gIssue p 0x21 ecc fun s w => s.modGlide p fun g => { g with st := .waitGet, waitRd := gBits w 52 4, getAddr := s.gAddr p w }

/-- The data of a GET is there. -/
def State.gGot (s : State) (p : Nat) (v : Word) : State := (s.setGReg p (s.glide p).waitRd (v.setWidth 64)).gNext p

/-- GET_RETURN, `after` Tc on, at most 1,024 after the GET and every earlier SET. -/
def State.getReturn (s : State) (p after : Nat) : State :=
  let g := s.glide p
  if g.st ≠ .waitGet then s
  else
    let u := s.advance (max s.now (max g.nextIssue g.setDone) + min after 1024)
    let v := if g.getAddr % 4 = 0 then u.readReg g.getAddr else { u.accessError with reply := 0 }
    v.gGot p v.reply

/-- SIG. -/
def State.gSig (s : State) (p : Nat) (ecc : Ecc) : State :=
  s.gIssue p 0x22 ecc fun s w => ((s.setFld (GLIDE_SIG_CODE p) GLIDE_SIG_CODE_CODE (gBits w 48 8)).raise (Ev.GLIDE_SIG p)).gNext p

/-- ALIGN. -/
def State.gAlign (s : State) (p : Nat) (ecc : Ecc) : State :=
  s.gIssue p 0x03 ecc fun s w => (s.armAlign (gBits w 52 4) (if p = 0 then gBits w 48 4 else 2 ^ (p - 1)) (p == 0)).gNext p

/-! ### Waits (R64, R65, R343) -/

/-- A Hive source is routed to the processor, and the event it waits for is there. -/
def State.gRouted (s : State) (p src : Nat) : Bool := sourceExists src && s.maskBit (HIVE_SRC_CFG src) HIVE_SRC_CFG_GLIDE p
def State.gEvent (s : State) (p src : Nat) : Bool :=
  s.gRouted p src && if s.bit (HIVE_SRC_CFG src) HIVE_SRC_CFG_MODE then s.status src else (s.glide p).flags.contains src

/-- The event is taken: an edge flag is cleared, a level is left. -/
def State.gTake (s : State) (p src : Nat) : State :=
  if s.bit (HIVE_SRC_CFG src) HIVE_SRC_CFG_MODE then s else s.modGlide p fun g => { g with flags := g.flags.filter (· != src) }

/-- A wait ends with an outcome in g[RD]. -/
def State.gWaited (s : State) (p outcome : Nat) : State := (s.setGReg p (s.glide p).waitRd (BitVec.ofNat 64 outcome)).gNext p

/-- A wait begins, with TMO rounded up to whole cycles; 0 is without limit. -/
def State.gWait (s : State) (p : Nat) (w : BitVec 64) (st : GState) (what : Nat) : State :=
  let tmo := gBits w 0 44
  s.modGlide p fun g =>
    { g with st := st, waitRd := gBits w 44 4, waitFor := what, waitEnd := if tmo = 0 then none else some (s.now + (tmo + 3) / 4 * 4) }

/-- WAITEV_COMPLETE: the event has come. -/
def State.waitevDone (s : State) (p : Nat) : State :=
  let g := s.glide p
  if g.st = .waitEvent ∧ s.gEvent p g.waitFor then (s.gTake p g.waitFor).gWaited p 0 else s

/-- WAITEV. -/
def State.gWaitev (s : State) (p : Nat) (ecc : Ecc) : State :=
  s.gIssue p 0x08 ecc fun s w => (s.gWait p w .waitEvent (gBits w 48 8)).waitevDone p

/-- The synthesiser a WAITLOCK selects, and its block as SETs are kept: die and block code. -/
def gPll (p sel : Nat) : Nat := if p = 0 then 0 else if sel = 0 then p else 5 + 2 * (p - 1) + (sel - 1)
def gPllBlock (p sel : Nat) : Nat := if p = 0 then 0x08 else 256 * p + if sel = 0 then 0x1F else 0x20

/-- The instant at which every earlier SET to the selected synthesiser's block has completed (R343); HPLL is the hub's, so that none through TILE_ALL
reaches it. -/
def State.gSetBy (s : State) (p sel : Nat) : Nat := ((s.glide p).sets.filter fun x => x.1 == gPllBlock p sel).foldl (fun m x => max m x.2) 0

/-- WAITLOCK_COMPLETE: the SETs have completed and the synthesiser is locked.  Where they complete only after the timeout, the wait ends with that. -/
def State.waitlockDone (s : State) (p : Nat) : State :=
  let g := s.glide p
  if g.st = .waitLock ∧ s.pllState (gPll p g.waitFor) = pllLocked then
    match g.waitEnd with
    | some e => if e < s.gSetBy p g.waitFor then (s.advance e).gWaited p 1 else (s.advance (s.gSetBy p g.waitFor)).gWaited p 0
    | none => (s.advance (s.gSetBy p g.waitFor)).gWaited p 0
  else s

/-- WAITLOCK: at once only where nothing is left to wait for. -/
def State.gWaitlock (s : State) (p : Nat) (ecc : Ecc) : State :=
  s.gIssue p 0x09 ecc fun s w =>
    let u := s.gWait p w .waitLock (gBits w 52 4)
    if u.gSetBy p (gBits w 52 4) ≤ u.now then u.waitlockDone p else u

/-- What a processor waits for is there: the event, or lock with its SETs complete by an instant (R64, R65). -/
def State.gMet (s : State) (p by_ : Nat) : Bool :=
  let g := s.glide p
  (g.st == .waitEvent && s.gEvent p g.waitFor)
    || (g.st == .waitLock && s.pllState (gPll p g.waitFor) == pllLocked && decide (s.gSetBy p g.waitFor ≤ by_))

/-- GLIDE_WAIT_TIMEOUT: a wait whose end has come already ends with it, not with the timeout. -/
def State.waitTimeout (s : State) (p : Nat) : State :=
  let g := s.glide p
  match g.waitEnd with
  | some e =>
    if s.gMet p e then (if g.st = .waitEvent then s.waitevDone p else s.waitlockDone p)
    else if g.st = .waitEvent ∨ g.st = .waitLock then (s.advance e).gWaited p 1
    else s
  | none => s

/-! ### FENCE (R66) -/

/-- The tiles that remote bundles reach (R63). -/
def State.fifoEnabled (s : State) (t : Nat) : Bool := s.maskBit GLIDE_TILE_EN GLIDE_TILE_EN_EN t && s.tileOn t

/-- A GAIN with D = 1 and S = 1: its effect instant is not T + 256 Tc but the symbol boundary it is armed for there (Table 2-6). -/
def Radio.isSync : Radio → Bool | .gain true true _ _ => true | _ => false

/-- Step-attenuator changes by GAIN with S = 1 that wait for their boundary, by tile and processor: that armed on a path, and one that another GAIN has
replaced, until its own boundary. -/
def State.gainWaits (s : State) (q : Nat → Nat → Bool) : Bool :=
  (List.range 64).any fun k =>
    (match (s.rxPath k).gain with
      | some (g, _) => !g.byAgc && q (k / 16) g.proc
      | none => false)
    || (s.rxPath k).replaced.any fun x => q (k / 16) x.1 && decide (s.tb.toNat < x.2)

/-- Every condition of the FENCE in progress holds. -/
def State.fenceHolds (s : State) (p : Nat) : Bool :=
  let g := s.glide p
  let passed := fun (q : Nat → Nat → Bool) => (s.effects.all fun e => !q e.die e.proc || (!e.radio.isSync && decide (e.at_ ≤ s.now))) && !s.gainWaits q
  (!g.fenceB || (g.queue == [] && passed fun _ x => x == p)) && (!g.fenceW || decide (g.setDone ≤ s.now))
    && (!g.fenceF || ((tiles.all fun t => !s.fifoEnabled t || s.fifo t == []) && passed fun t x => x == 5 && s.fifoEnabled t))

/-- FENCE_RELEASE: the conditions hold, at the latest once every SET has completed. -/
def State.fenceRelease (s : State) (p : Nat) : State :=
  let g := s.glide p
  if g.st ≠ .waitFence then s
  else
    let u := if g.fenceW then s.advance g.setDone else s
    if u.fenceHolds p then u.gNext p else s

/-- FENCE. -/
def State.gFence (s : State) (p : Nat) (ecc : Ecc) : State :=
  s.gIssue p 0x3F ecc fun s w =>
    let u := s.modGlide p fun g => { g with st := .waitFence, fenceB := gBit w 55, fenceW := gBit w 54, fenceF := gBit w 53 }
    if u.fenceHolds p then u.gNext p else u

/-! ### Bundles (R50 to R52, R60, R63) -/

/-- A radio instruction with its operands. -/
def State.gMember (s : State) (p : Nat) (w : BitVec 64) : Radio :=
  let pm := BitVec.ofNat 16 (gBits w 32 16)
  let cm := BitVec.ofNat 4 (gBits w 52 4)
  match gOp w with
  | 0x10 => .txon cm pm
  | 0x11 => .txoff cm pm
  | 0x12 => .rxon cm pm
  | 0x13 => .rxoff cm pm
  | 0x14 => .gain (gBit w 55) (gBit w 54) pm (BitVec.ofNat 16 (gBits w 0 16))
  | 0x15 => .nco (gBit w 55) (BitVec.ofNat 2 (gBits w 52 2)) ((s.gReg p (gBits w 48 4)).setWidth 48) pm
  | 0x16 => .filt (gBit w 55) (gBit w 54) (BitVec.ofNat 2 (gBits w 52 2)) (BitVec.ofNat 4 (gBits w 48 4)) pm (gBit w 31) (BitVec.ofNat 12 (gBits w 0 12))
  | 0x17 => .beamset (gBit w 55) (BitVec.ofNat 5 (gBits w 50 5)) (BitVec.ofNat 15 (gBits w 0 15))
  | 0x18 => .paen (gBit w 55) (gBit w 54) (BitVec.ofNat 4 (gBits w 48 4)) pm
  | 0x19 => .capt cm (BitVec.ofNat 4 (gBits w 48 4)) (BitVec.ofNat 4 (gBits w 44 4)) (BitVec.ofNat 32 (gBits w 0 32))
  | _ => .calb cm pm (BitVec.ofNat 32 (gBits w 0 32))

/-- The lowest fault of a member in a bundle with destination `dst` (R46, R50). -/
def gMemberFault (p dst : Nat) (w : BitVec 64) (ecc : Ecc) : Option Nat :=
  if ecc = .fatal then some 8
  else if !gValid (gOp w) then some 1
  else if !gWellFormed (p == 0) w then some 2
  else if !gRadio (gOp w) || ((gOp w == 0x17) != (p == 0 && dst == 0)) then some 3
  else none

/-- A whole bundle is pushed, or waits with its processor at its AT. -/
def State.gPush (s : State) (p : Nat) (b : Bundle) (dst : BitVec 4) : State :=
  let n := b.members.length
  let after := fun (s : State) => s.gGoto p (b.pc + n) (b.pc + n + 1) 4
  let t := s.now + 4 * n
  if p = 0 ∧ dst ≠ 0 then
    let ts := (onesOf 4 dst.toNat).filter s.fifoEnabled
    if ts.any fun k => decide (256 < s.fifoLevel k + b.words) then
      let u := s.modGlide p fun g => { g with st := .stallFifo, held := some (b, dst) }
      if (s.glide p).st = .stallFifo then u else u.raise Ev.GLIDE_FIFO_FULL
    else
      let u := (s.advance t).each ts fun u k => u.setFifo k (u.fifo k ++ [{ b with avail := t + 192 }])
      after (u.modGlide p fun g => { g with held := none })
  else if 8 ≤ (s.glide p).queue.length then s.modGlide p fun g => { g with st := .stallQueue, held := some (b, dst) }
  else after ((s.advance t).modGlide p fun g => { g with queue := g.queue ++ [{ b with avail := t }], held := none })

/-- AT and AT_REL: BT is set; the members are fetched and checked in order, then the bundle is pushed.  `eccs`: how each member's word was
found, in order. -/
def State.gAt (s : State) (p op : Nat) (ecc : Ecc) (eccs : List Ecc) : State :=
  s.gIssue p op ecc fun s w =>
    let g := s.glide p
    let n := gBits w 52 3 + 1
    let dst := gBits w 44 4
    let T : BitVec 64 :=
      if op = 1 then s.gReg p (gBits w 48 4) + (BitVec.ofNat 44 (gBits w 0 44)).signExtend 64 else g.bt + BitVec.ofNat 64 (gBits w 0 44)
    if p ≠ 0 ∧ dst ≠ 0 then s.gFault p 3 g.pc
    else if 8191 < g.pc + n then s.gFault p 9 g.pc
    else
      let u := s.modGlide p fun g => { g with bt := T }
      let ws := (List.range n).map fun k => s.imemWord p (g.pc + 1 + k)
      let bad := (List.range n).find? fun k => (gMemberFault p dst (ws.getD k 0) (eccs.getD k .clean)).isSome
      let fixed := (List.range (min n ((bad.getD n) + 1))).filter fun k => eccs.getD k .clean = .corrected
      let u := if fixed = [] then u else u.bump (GLIDE_IMEM_CORRECTED p) (GLIDE_CNT_FLAGS p) GLIDE_IMEM_FLAG fixed.length
      match bad with
      | some k => (u.advance (u.now + 4 * (k + 1))).gFault p ((gMemberFault p dst (ws.getD k 0) (eccs.getD k .clean)).getD 0) (g.pc + 1 + k)
      | none => u.gPush p ⟨T, gBit w 55, g.pc, ws.map (s.gMember p), 0⟩ (BitVec.ofNat 4 dst)

/-- AT_QUEUE_STALL_RELEASE: there is room for the bundle held. -/
def State.stallRelease (s : State) (p : Nat) : State :=
  let g := s.glide p
  match g.held with
  | some (b, dst) => if g.st = .stallQueue ∨ g.st = .stallFifo then s.gPush p b dst else s
  | none => s

/-! ### Dispatch (R53, R54, R56, R57, R61, R62) -/

/-- Latency of Table 2-6. -/
def Radio.latency : Radio → Nat
  | .txon .. | .txoff .. | .paen .. | .calb .. => 2048
  | .rxon .. | .rxoff .. => 256
  | .gain rx .. | .nco rx .. | .filt rx .. => if rx then 256 else 2048
  | .capt src .. => if src = 6 then 2048 else 256
  | .beamset .. => 64

/-- Order of effects: by instant, then by the instant their bundle was applied, then remote before local (R56). -/
def Effect.before (e x : Effect) : Bool :=
  decide (e.at_ < x.at_) || (e.at_ == x.at_ && (decide (e.at_ - e.radio.latency < x.at_ - x.radio.latency)
    || (e.at_ - e.radio.latency == x.at_ - x.radio.latency && e.proc == 5 && x.proc != 5)))

/-- An effect takes its place behind those it does not precede. -/
def insertEffect (e : Effect) : List Effect → List Effect
  | [] => [e]
  | x :: l => if e.before x then e :: x :: l else x :: insertEffect e l

/-- A bundle is applied at an instant: its effects are fixed, and its captures armed (R54, R125). -/
def State.applyBundle (s : State) (die proc : Nat) (b : Bundle) (at_ : Nat) : State :=
  s.each b.members fun (s : State) (r : Radio) =>
    let u := { s with effects := insertEffect ⟨at_ + r.latency, die, proc, r⟩ s.effects }
    match r with
    | .capt _ _ desc len => u.armCapture die desc.toNat len.toNat
    | _ => u

/-- A late bundle is counted and recorded (R53), at the processor whose dispatcher found it. -/
def State.bundleLate (s : State) (p : Nat) (remote : Bool) (b : Bundle) : State :=
  let u := (s.raise (Ev.GLIDE_LATE p)).bump (GLIDE_LATE_COUNT p) (GLIDE_CNT_FLAGS p) 0 1
  let info := putF (putF (putF 0 GLIDE_LATE_INFO_SRC (b2n remote)) GLIDE_LATE_INFO_ACTION (b2n b.applyLate)) GLIDE_LATE_INFO_PC
    (if remote then 0 else b.pc)
  ((u.setReg (GLIDE_LATE_TIME_LO p) (b.time.setWidth 32)).setReg (GLIDE_LATE_TIME_HI p) ((b.time >>> 32).setWidth 32)).setReg
    (GLIDE_LATE_INFO p) info

/-- The head of a dispatcher, judged against the timebase as it stands (R57); answers the state and the instant it left.  A late bundle is applied
or skipped at the instant A at which it reached the head (R53), which a step of the timebase that makes it late sets anew. -/
def State.judgeBundle (s : State) (p die proc : Nat) (b : Bundle) : State × Nat :=
  if s.tbAt b.avail ≤ b.time.toNat then
    let u := s.advance (s.instantOf b.time.toNat)
    (u.applyBundle die proc b (s.instantOf b.time.toNat), s.instantOf b.time.toNat)
  else
    let u := (s.advance b.avail).bundleLate p (proc == 5) b
    (if b.applyLate then u.applyBundle die proc b b.avail else u, b.avail)

/-- The bundle now at the head reached it no earlier than the one before left. -/
def reachHead (x : Nat) : List Bundle → List Bundle
  | [] => []
  | b :: l => { b with avail := max b.avail x } :: l

/-- BUNDLE_DISPATCH: the head of the local queue of a processor, or of the command FIFO of a tile whose hub link is up. -/
def State.dispatchLocal (s : State) (p : Nat) : State :=
  match (s.glide p).queue with
  | [] => s
  | b :: rest =>
    let (u, x) := s.judgeBundle p (if p = 0 then 4 else p - 1) p b
    u.modGlide p fun g => { g with queue := reachHead x rest }
def State.dispatchFifo (s : State) (t : Nat) : State :=
  match s.fifo t with
  | [] => s
  | b :: rest =>
    if !s.fifoEnabled t || s.bit (TXCH_STATUS t) TXCH_STATUS_MUTE_LINK then s
    else
      let (u, x) := s.judgeBundle (1 + t) t 5 b
      u.setFifo t (reachHead x rest)

/-! ### Effects (R54, R55, R58, R59) -/

/-- TXON on a tile: refused in an unlocked interval (R98); a gate it opens disturbs a transmit burst (R203). -/
def State.txonAt (s : State) (t : Nat) (cmask : BitVec 4) (pmask : BitVec 16) : State :=
  if s.bit (TXCH_STATUS t) TXCH_STATUS_UNLOCK_HOLD then
    (s.raise (Ev.TX_REFUSED_UNLOCKED t)).bump (TXCH_REFUSED_COUNT t) (TXCH_CNT_FLAGS t) 16 1
  else
    (s.eachCar cmask pmask fun s i c =>
      if (s.txCar (carKey t i c)).gate then s else (s.openTxGate t i c).calHit t i fun b => b.measures false s.now).wakeDacs t pmask.toNat

/-- What a radio instruction of a processor (5: a bundle of a command FIFO) does at its effect instant. -/
def State.radioAt (s : State) (t proc : Nat) (r : Radio) : State :=
  match r with
  | .txon cm pm => s.txonAt t cm pm
  | .txoff cm pm => s.eachCar cm pm fun s i c => s.closeTxGate t i c
  | .rxon cm pm => s.eachCar cm pm fun s i c => s.openRxGate t i c
  | .rxoff cm pm => s.eachCar cm pm fun s i c => s.closeRxGate t i c
  | .gain rx sync pm v =>
    if !rx then s.each (onesOf 16 pm.toNat) fun s i => s.setTrim t i v
    else if sync then s.gainSync t pm (v.setWidth 6) proc
    else s.each (onesOf 16 pm.toNat) fun s i => s.gainNow t i (v.setWidth 6)
  | .nco rx car tw pm =>
    if rx then (s.each (onesOf 16 pm.toNat) fun s i => s.tuneRx t i car.toNat tw).recheckRx t
    else (s.each (onesOf 16 pm.toNat) fun s i => s.tuneTx t i car.toNat tw).recheckTx t
  | .filt rx z car resp pm zone ratio =>
    if rx then
      ((s.each (onesOf 16 pm.toNat) fun s i => s.filterRx t i car.toNat resp ratio).each (if z then onesOf 16 pm.toNat else [])
        fun s i => s.setZone t i zone).recheckRx t
    else (s.each (onesOf 16 pm.toNat) fun s i => s.filterTx t i car.toNat resp ratio).recheckTx t
  | .beamset ul layer beam => s.beamset ul layer beam
  | .paen v q qm pm => s.paen t v q qm pm
  | .capt src pidx desc len => s.captAt t src.toNat pidx.toNat desc.toNat len.toNat
  | .calb kind pm dur => s.burstAt t ⟨kind.toNat, pm, s.now, dur.toNat, false, false, 0, 0⟩

/-- The next effect of a die (4: the hub) comes, if it is of the kind `sel` and none of another die lies before it (R56). -/
def State.atEffect (s : State) (die : Nat) (sel : Radio → Bool) : State :=
  match s.effects.find? fun (e : Effect) => e.die == die with
  | some e =>
    if sel e.radio && s.effects.all fun (x : Effect) => decide (e.at_ ≤ x.at_) then
      ({ s with effects := s.effects.erase e }.advance e.at_).radioAt die e.proc e.radio
    else s
  | none => s

def Radio.isTxon : Radio → Bool | .txon .. => true | _ => false
def Radio.isTxoff : Radio → Bool | .txoff .. => true | _ => false
def Radio.isRxon : Radio → Bool | .rxon .. => true | _ => false
def Radio.isRxoff : Radio → Bool | .rxoff .. => true | _ => false
def Radio.isGain : Radio → Bool | .gain .. => true | _ => false
def Radio.isNco : Radio → Bool | .nco .. => true | _ => false
def Radio.isFilt : Radio → Bool | .filt .. => true | _ => false
def Radio.isBeamset : Radio → Bool | .beamset .. => true | _ => false
def Radio.isPaen : Radio → Bool | .paen .. => true | _ => false
def Radio.isCapt : Radio → Bool | .capt .. => true | _ => false
def Radio.isCalb : Radio → Bool | .calb .. => true | _ => false

/-! ### The die-to-die links and PCIe (R16 to R18, R479) -/

/-- D2D_WORD_ERROR on the link of tile t. -/
def State.d2dError (s : State) (t : Nat) (hit : D2dHit) : State :=
  let bad := s.raise Ev.D2D_UNCORRECTABLE
  match hit with
  | .corrected => s.bump (HIVE_D2D_CORRECTED t) HIVE_CNT_FLAGS t 1
  | .txSample sym car path sc =>
    (bad.modTxSym (symKey sym car t) fun x =>
      { x with invalid := x.invalid ||| BitVec.ofNat 16 (2 ^ path.toNat), struck := (4096 * path.val + sc.val) :: x.struck }).setTxWord
      (dlKey sym car (16 * t + path) sc) none
  | .rxSample sym car path => bad.setPathMark (ulSymKey sym car (16 * t + path)) (some true)
  | .bundle =>
    match (s.fifo t).getLast? with
    | some b => if s.now ≤ b.avail then bad.setFifo t (s.fifo t).dropLast else s
    | none => s
  | .read => { bad.accessError with reply := 0 }
  | .get => if (s.glide 0).st = .waitGet ∧ dieOf (s.glide 0).getAddr = 1 + t then (({ bad.accessError with reply := 0 } : State).gGot 0 0) else s
  | .write => bad.accessError
  | .nextWrite => { bad with struck := bad.struck ||| BitVec.ofNat 4 (2 ^ t) }

/-- HUB_LINK_TIMEOUT: the tile's DACs and PAEN pins are muted, then its quads shut down; D2D_LINK_DOWN.  A further silence of a link whose tile is
muted already raises nothing again (DESIGN CHOICE, log entry 112: R18 does not say). -/
def State.linkTimeout (s : State) (t : Nat) : State :=
  if !s.tileOn t || s.bit (TXCH_STATUS t) TXCH_STATUS_MUTE_LINK then s
  else ((s.setBit (TXCH_STATUS t) TXCH_STATUS_MUTE_LINK true).shutdown t 0xF).raise (Ev.D2D_LINK_DOWN t)

/-- PCIE_PERST_N_RELEASE. -/
def State.perstRelease (s : State) : State := { s with pcieUp := true }

end Sys2Proof.Machine
end

