-- ==== Sys2Proof/Machine/Start.lean ====
section
/-!
DEFINITION. The starts: what a start keeps and what it builds, the start record, and completion (R13, R402, R416, R417, R419 to R423, R460).
-/
namespace Sys2Proof.Machine
open Reg F

/-- The always-on registers whose descriptions keep them across a start (R13, R334, R402, R428, R460), and LOG_STAT (R439). -/
def keptAtStart (a : Nat) : Bool := [PMU_BOOT_STAT, PMU_BOOT_CFG, TIME_KEEP_CFG, THERM_SHUT_REC, RILYN_LOG_STAT].contains a

/-- What a warm start keeps besides: the HPLL block, TB_HI, FREQ and UNC (R334, R357, R421), the DRAM configuration and delays (R371). -/
def keptWarm (a : Nat) : Bool :=
  inBlock 0 0x08 a || a == TIME_FREQ || a == TIME_UNC || a == TIME_TB_HI || a == DRAMC_CFG
    || [0, 1].any fun c => [DRAMC_RDLY_LO c, DRAMC_RDLY_HI c, DRAMC_WDLY_LO c, DRAMC_WDLY_HI c, DRAMC_CADLY c].contains a

/-- The state from which a start builds: what lies outside the powered domains, every register at its reset value but the kept ones,
every domain ON; AON_BOR stays (R402). -/
def State.startFresh (s : State) (warm : Bool) : State :=
  let u := { s.fresh with
    regs := (s.regs.filter fun x => keptAtStart x.1 || (warm && keptWarm x.1)),
    dramSwept := s.dramSwept, keeper := { s.keeper with started := s.keeper.stored.isSome }, origins := [], startDue := none,
    hkTrims := (List.range 5).map fun d => (d, Config.hkTrim d) }
  let v := (u.setBit PMU_STATUS PMU_STATUS_AON_BOR (s.bit PMU_STATUS PMU_STATUS_AON_BOR)).setFld RILYN_MODE RILYN_MODE_MODE Mode.boot.code
  let v := v.each tiles State.seeGates
  if warm then
    ({ v with
      tb := s.tb, ownQual := s.ownQual, refForces := s.refForces, hpllArm := s.hpllArm, plls := s.plls.filter fun x => x.1 == 0,
      detLost := s.detLost, detBack := s.detBack } : State).setFld TIME_STATUS TIME_STATUS_QUAL s.qual |>.beginEpoch
  else v

/-- DRAM at a start: without retention every channel is OFF and empty; a warm start leaves what is in self-refresh
(Table 18-2, R375), and a FAILED channel FAILED (R373). -/
def State.startDram (s old : State) (keep : Bool) : State :=
  let held := fun (c : Nat) => keep && old.chanState c == dramSelfRefresh
  let u : State := { s with dram := old.dram.filter fun (x : Nat × Option Byte) => held (x.1 % 2) }
  u.each [0, 1] fun u c =>
    if held c then (u.setDramCh c (old.dramCh c)).setChan c dramSelfRefresh
    else if keep && old.chanState c == dramFailed then (u.setDramCh c { losses := (old.dramCh c).losses + 1 }).setChan c dramFailed
    else (u.setDramCh c { losses := (old.dramCh c).losses + 1 }).setChan c dramOff

/-- Steps 3 and 4: the delay set, then the start record, whose values take effect as in Configure; without one REC_BAD is set (R371,
R417). -/
def State.applyRecord (s : State) (delays : Bool) : State :=
  let u := s.each (if delays then s.delaySet else []) fun (u : State) (x : Nat × Word) => u.setReg x.1 x.2
  match u.record with
  | some es => { ({ u with mode := .configure }.each es fun (u : State) (x : Nat × Word) => u.writeReg x.1 x.2) with mode := .boot }
  | none => u.setBit PMU_BOOT_STAT PMU_BOOT_STAT_REC_BAD true

/-- The lanes as Boot holds them: a retained one, whose quad the record gives the same USE and RATE, in LANE_SLEEP (R234, R420). -/
def State.startLanes (s old : State) (keep : Bool) : State :=
  let same := fun (n : Nat) => s.fld (LANEQ_QCFG n) LANEQ_QCFG_USE == old.fld (LANEQ_QCFG n) LANEQ_QCFG_USE
    && s.fld (LANEQ_QCFG n) LANEQ_QCFG_RATE == old.fld (LANEQ_QCFG n) LANEQ_QCFG_RATE
  let u : State := { s with lanes := [], eye := none }
  let v := u.each (List.range 16) fun (u : State) (l : Nat) =>
    let r := keep && (old.lane l).kept && same (l / 4)
    let w := if r then u.setLane l { coef := true, trained := (old.lane l).trained, since := u.now, asked := u.now } else u
    (w.setReg (LANEQ_LSTAT l) 0).setFld (LANEQ_LSTAT l) LANEQ_LSTAT_STATE (if r then laneSleep else laneDisabled)
  v.each [0, 1, 2, 3] fun v n => (v.setBit (LANEQ_QSTAT n) LANEQ_QSTAT_PLL_ON false).setBit (LANEQ_QSTAT n) LANEQ_QSTAT_PLL_LOCK false

/-- The power domain of a synthesiser (R407). -/
def pllDomain (k : Nat) : Nat := if k = 0 then 1 else if k ≤ 4 then 10 + (k - 1) else 18 + pllTile k

/-- A value of an LPLL is in force, if it is in range. -/
def State.forceLpll (s : State) (j x : Nat) : State :=
  if lpllInRange x then s.setLpllForce j (BitVec.ofNat 32 x) else s.raise Ev.LPLL_RANGE
/-- The written value of an LPLL is in force. -/
def State.startLpll (s : State) (j : Nat) : State := s.forceLpll j (s.lpllShadow (j / 2) (j % 2))

/-- Step 5: dividers are in force as written; bands are calibrated, or retained and the synthesiser acquires; HPLL of a warm start goes on
as it was (Table 18-2, R344, R421). -/
def State.startPlls (s : State) (warm asCold : Bool) : State :=
  let u := if warm then s else s.each [0, 1] fun s b => s.setRefForce b (s.reg (if b = 0 then HPLL_REFA_DIV else HPLL_REFB_DIV))
  let v := u.each (List.range 8) State.startLpll
  v.each (List.range 13) fun v k =>
    if asCold then (v.pllEnter k pllOff).pllCalibrate k
    else if k = 0 then
      if v.hpllState ≠ pllOff then v
      else if v.wentOff.contains 1 then v.pllCalibrate 0
      else if v.refOk v.activeRef then v.pllEnter 0 pllAcq else v
    else if v.wentOff.contains (pllDomain k) then v.pllCalibrate k
    else v.pllEnter k pllAcq

/-- Rilyn's boot messages on the debug UART, if GPIO_31 was sampled as 1; what they say is free (R483, R484). -/
def State.bootTalk (s : State) : State :=
  s.when (s.strap.getLsbD 1) fun s => s.useFree.each (Config.bootMessage s.free) fun s b => s.emit (.uart b)

/-- COLD_START and WARM_START: steps 1 to 5 and the beginning of step 6.  A warm start without RETAIN_OK runs as a cold one. -/
def State.startBegin (s : State) (warm : Bool) : State :=
  let asCold := !warm || s.boot PMU_BOOT_STAT_RETAIN_OK = 0
  let u := ((s.startFresh warm).startDram s !asCold).setBoot PMU_BOOT_STAT_KIND (if !warm then 0 else if asCold then 2 else 1)
  let u := (u.setBoot PMU_BOOT_STAT_REC_BAD 0).setBoot PMU_BOOT_STAT_RETAIN_OK (b2n (warm && u.boot PMU_BOOT_STAT_RETAIN_OK == 1))
  let u := u.when s.borDue fun u => { u with borDue := false }.raise Ev.AON_BROWNOUT
  let u := ({ u with starting := some ⟨warm, asCold, u.now⟩ }.logKind 3).each tiles State.reloadTile
  let held := fun (c : Nat) => u.chanState c == dramSelfRefresh
  let v := (u.applyRecord !warm).each [0, 1] fun v c =>
    if held c then v.setChan c dramSelfRefresh else (v.setDramCh c { losses := (u.dramCh c).losses }).setChan c dramOff
  ((v.startLanes s !asCold).startPlls warm asCold).judgeDram.bootTalk

/-- A start that is due begins; one that RESTART has asked for is triggered first. -/
def State.startNow (s : State) (warm : Bool) : State :=
  let u := if s.startDue.isNone ∧ s.restartAt.map Prod.fst = some warm then s.restartBegin else s
  if u.startDue = some warm then u.startBegin warm else s

/-- The slot of the image in use. -/
def State.bootSlot (s : State) : Nat := if s.boot PMU_BOOT_STAT_IMAGE = 0 then s.slotA else 1 - s.slotA

/-- Steps 3, 5 and 6 are done: the image in use is valid (R443), no synthesiser is being calibrated, every SPLL is locked, every channel in use has ended its training (R416, R418). -/
def State.startReady (s : State) : Bool :=
  (s.validImage s.bootSlot).isSome && ((List.range 13).all fun k => s.pllState k != pllCal) &&
  (tiles.all fun t => !s.tileOn t || s.spllState t == pllLocked) &&
    [0, 1].all fun c => !s.dramUses c || s.chanState c == dramActive || s.chanState c == dramFailed

/-- START_COMPLETE, `after` Tc on: the counters clear, the part enters Configure, and steps 7 and 8 begin (R416, R422, R423, R425, R430,
R460). -/
def State.startComplete (s : State) (after : Nat) : State :=
  match s.starting with
  | none => s
  | some _ =>
    if !s.startReady then s
    else
      let u := ((s.advance (s.now + after)).setBoot PMU_BOOT_STAT_WARM_FAILS 0).setBoot PMU_BOOT_STAT_COLD_FAILS 0
      let u := { u.setBoot PMU_BOOT_STAT_RETAIN_OK 1 with
        starting := none, wentOff := [],
        ranSlot := some u.bootSlot,
        startCal := if u.bit PMU_BOOT_CFG PMU_BOOT_CFG_AUTOCAL then some { began := u.now } else none }
      let u := (u.enterMode .configure).raise Ev.START_DONE
      let u := u.when u.startFailed fun u => u.raise Ev.START_FAILED
      let u := u.when (u.fellBack && u.boot PMU_BOOT_STAT_IMAGE == 1) fun u => (u.setBoot PMU_BOOT_STAT_FALLBACK 1).raise Ev.IMAGE_FALLBACK
      let u := u.when u.lockstepDue fun u => (u.setBit RILYN_STATUS RILYN_STATUS_LOCKSTEP true).raise Ev.RILYN_LOCKSTEP
      let u := u.when u.priorShut fun u => (u.logKind 5).raise Ev.THERM_PRIOR_SHUTDOWN
      { u with startFailed := false, fellBack := false, lockstepDue := false, priorShut := false }.startCalTry

/-- START_FAILURE: codes 1 to 3 fail their own steps, and only where the start runs them; code 4 with an SPLL not locked, and code 5, in the
step named (R418). -/
def State.startFailure (s : State) (code step : Nat) : State :=
  match s.starting with
  | none => s
  | some st =>
    match code with
    | 1 => if st.asCold then s.failStart 1 1 else s
    | 2 => if st.asCold then s.failStart 2 2 else s
    | 3 => s.failStart 3 3
    | 4 => if tiles.any fun t => s.tileOn t && s.spllState t != pllLocked then s.failStart 4 step else s
    | 5 => s.failStart 5 step
    | _ => s

end Sys2Proof.Machine
end

