-- ==== Sys2Proof/Machine/ExecBeam.lean ====
section
/-!
DEFINITION. The meanings of the commands, one definition each. Beamforming and Slalom (chapter 05).
-/
namespace Sys2Proof.Machine
open Reg F

/-- SLALOM_ITEM_START (R146). -/
def execSlalomItemStart (s : State) : Host.Outcome State Fault Refusal :=
  done <| s.itemStart

/-- SLALOM_ITEM_COMPLETE (R146). -/
def execSlalomItemComplete (s : State) : Host.Outcome State Fault Refusal :=
  done <| s.itemComplete

/-- COMMIT_HORIZON (R149). -/
def execCommitHorizon (ul : Bool) (c : Fin 4) (s : State) : Host.Outcome State Fault Refusal :=
  done <| s.commitDue ul c

/-- DL_DISPATCH_DONE (R145). -/
def execDlDispatchDone (c : Fin 4) (after : Nat) (s : State) : Host.Outcome State Fault Refusal :=
  done <| s.dlDispatchDone c after

/-- UL_HANDOVER (R138). -/
def execUlHandover (c : Fin 4) (layer : Fin 32) (after : Nat) (s : State) : Host.Outcome State Fault Refusal :=
  done <| s.ulHandover c layer after

/-- ENGINE_SOFT_ERROR (R155). -/
def execEngineSoftError (hit : SoftErr) (s : State) : Host.Outcome State Fault Refusal :=
  done <| s.engineError hit

/-- BEAM_DEFINE (R143). -/
def execBeamDefine (id : BitVec 15) (s : State) : Host.Outcome State Fault Refusal :=
  done <| s.guarded (SLALOM_BEAM_CMD) fun s => s.beamCmdWrite 1 id.toNat

/-- BEAM_DEFINE_PINNED (R141). -/
def execBeamDefinePinned (id : BitVec 15) (s : State) : Host.Outcome State Fault Refusal :=
  done <| s.guarded (SLALOM_BEAM_CMD) fun s => s.beamCmdWrite 2 id.toNat

/-- BEAM_DELETE (R143). -/
def execBeamDelete (id : BitVec 15) (s : State) : Host.Outcome State Fault Refusal :=
  done <| s.guarded (SLALOM_BEAM_CMD) fun s => s.beamCmdWrite 3 id.toNat

/-- BEAM_READ (R143). -/
def execBeamRead (id : BitVec 15) (s : State) : Host.Outcome State Fault Refusal :=
  done <| s.guarded (SLALOM_BEAM_CMD) fun s => s.beamCmdWrite 4 id.toNat

/-- BEAM_CMD_DONE (R143). -/
def execBeamCmdDone (after : Fin 1025) (s : State) : Host.Outcome State Fault Refusal :=
  done <| s.hostBeamDone after

/-- PSUM_WAIT_EXPIRY (R161). -/
def execPsumWaitExpiry (s : State) : Host.Outcome State Fault Refusal :=
  done <| s.psumWaitExpiry

end Sys2Proof.Machine
end

