-- ==== Sys2Proof/Machine/ExecBurogCmd.lean ====
section
/-!
DEFINITION. The meanings of the commands, one definition each. The Burog cascade link (chapter 11).
-/
namespace Sys2Proof.Machine
open Reg F

/-- BUROG_FLIT_RECEIVE (R287). -/
def execBurogFlitReceive (k : Fin 2) (lane : Fin 4) (header : Word) (payload : BitVec 256) (crc : Word) (s : State) : Host.Outcome State Fault Refusal :=
  done <| s.flitReceive k lane header payload crc

/-- BUROG_NAK_REPEAT (R290). -/
def execBurogNakRepeat (k : Fin 2) (s : State) : Host.Outcome State Fault Refusal :=
  done <| s.burogNakRepeat k

/-- BUROG_NAK (R291). -/
def execBurogNak (k : Fin 2) (n : BitVec 12) (s : State) : Host.Outcome State Fault Refusal :=
  done <| s.burogNak k n.toNat

/-- BUROG_RETRY_TIMEOUT (R291). -/
def execBurogRetryTimeout (k : Fin 2) (s : State) : Host.Outcome State Fault Refusal :=
  done <| s.burogTimeout k

/-- BUROG_TRAIN_COMPLETE (R297). -/
def execBurogTrainComplete (k : Fin 2) (skew : Nat) (s : State) : Host.Outcome State Fault Refusal :=
  done <| s.burogTrained k skew

/-- PSUM_MESSAGE (R295). -/
def execPsumMessage (s : State) : Host.Outcome State Fault Refusal :=
  done <| s.psumMessage

/-- GROUP_MESSAGE (R298). -/
def execGroupMessage (s : State) : Host.Outcome State Fault Refusal :=
  done <| s.groupMessage

/-- TIME_MESSAGE (R333). -/
def execTimeMessage (ago : Nat) (s : State) : Host.Outcome State Fault Refusal :=
  done <| s.timeMessage ago

/-- TIME_MESSAGE_SEND (R333). -/
def execTimeMessageSend (s : State) : Host.Outcome State Fault Refusal :=
  done <| s.timeSend

/-- MPLANE_RELAY_MESSAGE (R436). -/
def execMplaneRelayMessage (k : Fin 2) (msg : BitVec 4) (s : State) : Host.Outcome State Fault Refusal :=
  done <| s.relayMessage k msg.toNat

/-- BUROG_RETRAIN (R297). -/
def execBurogRetrain (s : State) : Host.Outcome State Fault Refusal :=
  done <| s.guarded (BUROG_CMD) fun s => s.burogRetrain

/-- BUROG_CLEAR_IDS (R298). -/
def execBurogClearIds (s : State) : Host.Outcome State Fault Refusal :=
  done <| s.guarded (BUROG_CMD) fun s => s.burogClearIds

/-- BUROG_FLIT_SEND (R289). -/
def execBurogFlitSend (k : Fin 2) (s : State) : Host.Outcome State Fault Refusal :=
  done <| s.flitSend k

end Sys2Proof.Machine
end

