-- ==== Sys2Proof/Machine/ExecCal.lean ====
section
/-!
DEFINITION. The meanings of the commands, one definition each. Calibration (chapter 07).
-/
namespace Sys2Proof.Machine
open Reg F

/-- CAL_CMD_ARRAY_TX (R201). -/
def execCalCmdArrayTx (t : Fin 4) (pmask : BitVec 16) (s : State) : Host.Outcome State Fault Refusal :=
  done <| s.guarded (DFLY_CAL_CMD t) fun s => s.calCmd t 0 pmask

/-- CAL_CMD_ARRAY_RX (R201). -/
def execCalCmdArrayRx (t : Fin 4) (pmask : BitVec 16) (s : State) : Host.Outcome State Fault Refusal :=
  done <| s.guarded (DFLY_CAL_CMD t) fun s => s.calCmd t 1 pmask

/-- CAL_CMD_RECIPROCITY (R201). -/
def execCalCmdReciprocity (t : Fin 4) (pmask : BitVec 16) (s : State) : Host.Outcome State Fault Refusal :=
  done <| s.guarded (DFLY_CAL_CMD t) fun s => s.calCmd t 2 pmask

/-- CAL_CMD_IMAGE (R201). -/
def execCalCmdImage (t : Fin 4) (pmask : BitVec 16) (s : State) : Host.Outcome State Fault Refusal :=
  done <| s.guarded (DFLY_CAL_CMD t) fun s => s.calCmd t 3 pmask

/-- CAL_BURST_START (R201). -/
def execCalBurstStart (t : Fin 4) (s : State) : Host.Outcome State Fault Refusal :=
  done <| (s.burstStart t).startCalFollow t

/-- CAL_BURST_RESULTS (R205). -/
def execCalBurstResults (t : Fin 4) (after : Fin 16385) (tx : List CalMeas) (rx : List CalMeas) (s : State) : Host.Outcome State Fault Refusal :=
  done <| (s.burstResults t after tx rx).startCalFollow t

/-- ADC_CAL_UPDATE (R195). -/
def execAdcCalUpdate (t : Fin 4) (i : Fin 16) (corrections : List Int) (converged : Bool) (s : State) : Host.Outcome State Fault Refusal :=
  done <| s.adcCal t i corrections converged

/-- DAC_CELL_CAL_DONE (R197). -/
def execDacCellCalDone (t : Fin 4) (i : Fin 16) (s : State) : Host.Outcome State Fault Refusal :=
  done <| s.dacCal t i

end Sys2Proof.Machine
end

