-- ==== Sys2Proof/Machine/ExecCheckValue.lean ====
section
/-!
DEFINITION. The meanings of the commands, one definition each. Check-value units (chapter 12).
-/
namespace Sys2Proof.Machine
open Reg F

/-- CU_START (R303). -/
def execCuStart (u : Fin 16) (s : State) : Host.Outcome State Fault Refusal :=
  done <| s.guarded (CU_CMD u) fun s => s.cuStart u

/-- CU_FOLD_PREFIX (R303). -/
def execCuFoldPrefix (u : Fin 16) (s : State) : Host.Outcome State Fault Refusal :=
  done <| s.guarded (CU_CMD u) fun s => s.cuFoldPrefix u

/-- CU_DATA_W_WRITE (R304). -/
def execCuDataWWrite (u : Fin 16) (w : Word) (s : State) : Host.Outcome State Fault Refusal :=
  done <| s.guarded (CU_DATA_W u) fun s => s.cuDataW u w

/-- CU_DATA_B_WRITE (R304). -/
def execCuDataBWrite (u : Fin 16) (w : Word) (s : State) : Host.Outcome State Fault Refusal :=
  done <| s.guarded (CU_DATA_B u) fun s => s.cuDataB u w

/-- CU_RUN_HI_WRITE (R305). -/
def execCuRunHiWrite (u : Fin 16) (w : Word) (s : State) : Host.Outcome State Fault Refusal :=
  done <| s.guarded (CU_RUN_HI u) fun s => s.cuRunHiWrite u w

/-- CU_RUN_LO_READ (R305). -/
def execCuRunLoRead (u : Fin 16) (s : State) : Host.Outcome State Fault Refusal :=
  done <| s.guardedRead (CU_RUN_LO u) fun s => s.cuRunLoRead u

/-- CU_RESULT_LO_READ (R305). -/
def execCuResultLoRead (u : Fin 16) (s : State) : Host.Outcome State Fault Refusal :=
  done <| s.guardedRead (CU_RESULT_LO u) fun s => s.cuResultLoRead u

end Sys2Proof.Machine
end

