-- ==== Sys2Proof/Machine/ExecClock.lean ====
section
/-!
DEFINITION. The meanings of the commands, one definition each. Synthesisers and alignment (chapter 14).
-/
namespace Sys2Proof.Machine
open Reg F

/-- REF_LOSS (R337). -/
def execRefLoss (b : Fin 2) (ofs : Int) (s : State) : Host.Outcome State Fault Refusal :=
  done <| s.refLoss b ofs

/-- REF_PRESENT (R352). -/
def execRefPresent (b : Fin 2) (ofs : Int) (s : State) : Host.Outcome State Fault Refusal :=
  done <| s.refPresent b ofs

/-- REF_SELECT_WRITE (R337). -/
def execRefSelectWrite (w : Word) (ofs : Int) (s : State) : Host.Outcome State Fault Refusal :=
  done <| s.guarded (HPLL_CTRL) fun s => s.hpllCtrl w ofs

/-- LOCK_WINDOW (R341). -/
def execLockWindow (k : Fin 14) (err : Nat) (ofs : Int) (s : State) : Host.Outcome State Fault Refusal :=
  done <| s.lockWindow k err ofs

/-- PLL_LOCK_FAIL_TIMEOUT (R342). -/
def execPllLockFailTimeout (k : Fin 13) (s : State) : Host.Outcome State Fault Refusal :=
  done <| s.lockFail k

/-- BAND_CAL_DONE (R335). -/
def execBandCalDone (k : Fin 13) (s : State) : Host.Outcome State Fault Refusal :=
  done <| s.bandCalDone k

/-- COAST_LIMIT (R351). -/
def execCoastLimit (k : Fin 5) (s : State) : Host.Outcome State Fault Refusal :=
  done <| s.coastLimitAt k

/-- PLL_ARM_WRITE (R344). -/
def execPllArmWrite (target : Fin 5) (w : Word) (s : State) : Host.Outcome State Fault Refusal :=
  done <| s.guarded (if target = 0 then HPLL_ARM else LPLL_ARM (target - 1)) fun s => s.pllArm target w

/-- DIVIDER_APPLY (R344). -/
def execDividerApply (target : Fin 5) (s : State) : Host.Outcome State Fault Refusal :=
  done <| s.dividerApply target

/-- SPLL_RECAL (R340). -/
def execSpllRecal (t : Fin 4) (s : State) : Host.Outcome State Fault Refusal :=
  done <| s.guarded (SPLL_CMD t) fun s => s.spllCmd t (putF 0 SPLL_CMD_RECAL 1)

/-- TA_LO_READ (R347). -/
def execTaLoRead (t : Fin 4) (s : State) : Host.Outcome State Fault Refusal :=
  done <| s.guardedRead (SPLL_TA_LO t) fun s => s.taLoRead t

/-- ALIGN_REFERENCE (R348). -/
def execAlignReference (s : State) : Host.Outcome State Fault Refusal :=
  done <| s.alignReference

/-- ALIGN_COMPLETE (R348). -/
def execAlignComplete (t : Fin 4) (s : State) : Host.Outcome State Fault Refusal :=
  done <| s.alignComplete t

end Sys2Proof.Machine
end

