-- ==== Sys2Proof/Machine/ExecDpd.lean ====
section
/-!
DEFINITION. The meanings of the commands, one definition each. Predistortion and Dragonfly (chapter 06).
-/
namespace Sys2Proof.Machine
open Reg F

/-- DPD_SWAP_ARM_WRITE (R169). -/
def execDpdSwapArmWrite (t : Fin 4) (pmask : BitVec 16) (s : State) : Host.Outcome State Fault Refusal :=
  done <| s.guarded (TDPD_SWAP_ARM t) fun s => s.swapArm t pmask.toNat

/-- DPD_SWAP_APPLY (R169). -/
def execDpdSwapApply (t : Fin 4) (s : State) : Host.Outcome State Fault Refusal :=
  done <| s.swapApply t

/-- DPD_TBL_DATA_WRITE (R167). -/
def execDpdTblDataWrite (t : Fin 4) (w : Word) (s : State) : Host.Outcome State Fault Refusal :=
  done <| s.guarded (TDPD_TBL_DATA t) fun s => s.tblWrite t w

/-- DPD_TBL_DATA_READ (R167). -/
def execDpdTblDataRead (t : Fin 4) (s : State) : Host.Outcome State Fault Refusal :=
  done <| s.guardedRead (TDPD_TBL_DATA t) fun s => s.tblRead t

/-- TRAINING_BUFFER_READY (R179). -/
def execTrainingBufferReady (t : Fin 4) (r : Fin 2) (s : State) : Host.Outcome State Fault Refusal :=
  done <| s.trainReady t r

/-- DPD_ACCUMULATION_DONE (R185). -/
def execDpdAccumulationDone (s : State) : Host.Outcome State Fault Refusal :=
  done <| s.accumulationDone

/-- DPD_SOLVE_DONE (R186). -/
def execDpdSolveDone (s : State) : Host.Outcome State Fault Refusal :=
  done <| s.solveDone

/-- DPD_TABLE_WRITE_DONE (R186). -/
def execDpdTableWriteDone (s : State) : Host.Outcome State Fault Refusal :=
  done <| s.tableWriteDone

/-- COEF_IDENTITY (R189). -/
def execCoefIdentity (path : Fin 64) (s : State) : Host.Outcome State Fault Refusal :=
  done <| s.guarded (HDPD_COEF_CMD) fun s => s.coefStart 1 path

/-- COEF_TABLES_FROM_COEF (R189). -/
def execCoefTablesFromCoef (path : Fin 64) (s : State) : Host.Outcome State Fault Refusal :=
  done <| s.guarded (HDPD_COEF_CMD) fun s => s.coefStart 2 path

/-- COEF_CMD_DONE (R189). -/
def execCoefCmdDone (s : State) : Host.Outcome State Fault Refusal :=
  done <| s.coefDone

/-- COEF_DATA_ACCESS (R189). -/
def execCoefDataAccess (write : Option Word) (s : State) : Host.Outcome State Fault Refusal :=
  done <| match write with | some w => s.guarded (HDPD_COEF_DATA) (fun s => s.coefWrite w) | none => s.guardedRead (HDPD_COEF_DATA) (fun s => s.coefRead)

/-- DFLY_CTRL_WRITE (R172). -/
def execDflyCtrlWrite (t : Fin 4) (w : Word) (s : State) : Host.Outcome State Fault Refusal :=
  done <| s.guarded (DFLY_CTRL t) fun s => s.dflyCtrl t w

/-- IMAGE_CAL_END (R176). -/
def execImageCalEnd (t : Fin 4) (r : Fin 2) (rej : BitVec 8) (taps : List (Int × Int)) (s : State) : Host.Outcome State Fault Refusal :=
  done <| s.imageEnd t r rej taps

end Sys2Proof.Machine
end

