-- ==== Sys2Proof/Machine/ExecFrontend.lean ====
section
/-!
DEFINITION. The meanings of the commands, one definition each. PA sequencers, bias outputs and RFFE (chapter 08).
-/
namespace Sys2Proof.Machine
open Reg F

/-- SEQ_POWER_UP (R215). -/
def execSeqPowerUp (t : Fin 4) (qmask : BitVec 4) (s : State) : Host.Outcome State Fault Refusal :=
  done <| s.guarded (SEQ_CMD t) fun s => s.powerUp t qmask

/-- SEQ_SHUTDOWN (R215). -/
def execSeqShutdown (t : Fin 4) (qmask : BitVec 4) (s : State) : Host.Outcome State Fault Refusal :=
  done <| s.guarded (SEQ_CMD t) fun s => s.shutdown t qmask

/-- SEQ_CLEAR_FAULT (R215). -/
def execSeqClearFault (t : Fin 4) (qmask : BitVec 4) (s : State) : Host.Outcome State Fault Refusal :=
  done <| s.guarded (SEQ_CMD t) fun s => s.clearFault t qmask

/-- GATEOK_CHANGE (R213). -/
def execGateokChange (t : Fin 4) (q : Fin 4) (level : Bool) (ago : Fin 33) (brief : Bool) (s : State) : Host.Outcome State Fault Refusal :=
  done <| s.gateOk t q level ago brief

/-- SEQ_GATE_SETTLE_END (R214). -/
def execSeqGateSettleEnd (t : Fin 4) (q : Fin 4) (s : State) : Host.Outcome State Fault Refusal :=
  done <| s.gateSettleEnd t q

/-- SEQ_DRAIN_SETTLE_END (R214). -/
def execSeqDrainSettleEnd (t : Fin 4) (q : Fin 4) (s : State) : Host.Outcome State Fault Refusal :=
  done <| s.drainSettleEnd t q

/-- SEQ_PAOFF_END (R214). -/
def execSeqPaoffEnd (t : Fin 4) (q : Fin 4) (s : State) : Host.Outcome State Fault Refusal :=
  done <| s.paoffEnd t q

/-- SEQ_DRAINOFF_END (R219). -/
def execSeqDrainoffEnd (t : Fin 4) (q : Fin 4) (s : State) : Host.Outcome State Fault Refusal :=
  done <| s.drainoffEnd t q

/-- SEQ_GOK_TIMEOUT (R214). -/
def execSeqGokTimeout (t : Fin 4) (q : Fin 4) (s : State) : Host.Outcome State Fault Refusal :=
  done <| s.gokTimeout t q

/-- SEQ_FAULT_ENTRY (R218). -/
def execSeqFaultEntry (t : Fin 4) (q : Fin 4) (s : State) : Host.Outcome State Fault Refusal :=
  done <| s.faultEntry t q

/-- BIAS_CFG_WRITE (R221). -/
def execBiasCfgWrite (t : Fin 4) (i : Fin 16) (w : Word) (s : State) : Host.Outcome State Fault Refusal :=
  done <| s.guarded (BIASOUT_CFG t i) fun s => s.biasCfg t i w

/-- BIAS_RANGE_CHANGE_END (R221). -/
def execBiasRangeChangeEnd (t : Fin 4) (i : Fin 16) (s : State) : Host.Outcome State Fault Refusal :=
  done <| s.rangeChangeEnd t i

/-- BIAS_CODE_WRITE (R223). -/
def execBiasCodeWrite (t : Fin 4) (i : Fin 16) (w : Word) (s : State) : Host.Outcome State Fault Refusal :=
  done <| s.guarded (BIASOUT_CODE t i) fun s => s.biasCode t i w

/-- BIAS_UPDATE_TICK (R223). -/
def execBiasUpdateTick (t : Fin 4) (i : Fin 16) (s : State) : Host.Outcome State Fault Refusal :=
  done <| s.biasTick t i

/-- BIAS_READBACK (R226). -/
def execBiasReadback (t : Fin 4) (i : Fin 16) (reading : BitVec 12) (s : State) : Host.Outcome State Fault Refusal :=
  done <| s.biasReadback t i reading

/-- RFFE_REGISTER0_WRITE (R228). -/
def execRffeRegister0Write (t : Fin 4) (q : Fin 4) (usid : BitVec 4) (addr : BitVec 16) (data : Byte) (s : State) : Host.Outcome State Fault Refusal :=
  done <| s.guarded (RFFE_CMD t q) fun s => s.rffeCmd t q ⟨1, usid, addr, data⟩

/-- RFFE_REGISTER_WRITE (R228). -/
def execRffeRegisterWrite (t : Fin 4) (q : Fin 4) (usid : BitVec 4) (addr : BitVec 16) (data : Byte) (s : State) : Host.Outcome State Fault Refusal :=
  done <| s.guarded (RFFE_CMD t q) fun s => s.rffeCmd t q ⟨2, usid, addr, data⟩

/-- RFFE_REGISTER_READ (R228). -/
def execRffeRegisterRead (t : Fin 4) (q : Fin 4) (usid : BitVec 4) (addr : BitVec 16) (data : Byte) (s : State) : Host.Outcome State Fault Refusal :=
  done <| s.guarded (RFFE_CMD t q) fun s => s.rffeCmd t q ⟨3, usid, addr, data⟩

/-- RFFE_EXT_REGISTER_WRITE (R228). -/
def execRffeExtRegisterWrite (t : Fin 4) (q : Fin 4) (usid : BitVec 4) (addr : BitVec 16) (data : Byte) (s : State) : Host.Outcome State Fault Refusal :=
  done <| s.guarded (RFFE_CMD t q) fun s => s.rffeCmd t q ⟨4, usid, addr, data⟩

/-- RFFE_EXT_REGISTER_READ (R228). -/
def execRffeExtRegisterRead (t : Fin 4) (q : Fin 4) (usid : BitVec 4) (addr : BitVec 16) (data : Byte) (s : State) : Host.Outcome State Fault Refusal :=
  done <| s.guarded (RFFE_CMD t q) fun s => s.rffeCmd t q ⟨5, usid, addr, data⟩

/-- RFFE_EXT_LONG_WRITE (R228). -/
def execRffeExtLongWrite (t : Fin 4) (q : Fin 4) (usid : BitVec 4) (addr : BitVec 16) (data : Byte) (s : State) : Host.Outcome State Fault Refusal :=
  done <| s.guarded (RFFE_CMD t q) fun s => s.rffeCmd t q ⟨6, usid, addr, data⟩

/-- RFFE_EXT_LONG_READ (R228). -/
def execRffeExtLongRead (t : Fin 4) (q : Fin 4) (usid : BitVec 4) (addr : BitVec 16) (data : Byte) (s : State) : Host.Outcome State Fault Refusal :=
  done <| s.guarded (RFFE_CMD t q) fun s => s.rffeCmd t q ⟨7, usid, addr, data⟩

/-- RFFE_FRAME_DONE (R228). -/
def execRffeFrameDone (t : Fin 4) (q : Fin 4) (data : Byte) (bad : Bool) (s : State) : Host.Outcome State Fault Refusal :=
  done <| s.frameDone t q data bad

/-- RFFE_TIMED_FRAME_START (R229). -/
def execRffeTimedFrameStart (t : Fin 4) (q : Fin 4) (s : State) : Host.Outcome State Fault Refusal :=
  done <| s.timedStart t q

/-- RFFE_RD_READ (R228). -/
def execRffeRdRead (t : Fin 4) (q : Fin 4) (s : State) : Host.Outcome State Fault Refusal :=
  done <| s.guardedRead (RFFE_RD t q) fun s => s.rffeRead t q

end Sys2Proof.Machine
end

