-- ==== Sys2Proof/Machine/ExecFronthaul.lean ====
section
/-!
DEFINITION. The meanings of the commands, one definition each. Frames and the fronthaul protocol (chapters 09 and 10).
-/
namespace Sys2Proof.Machine
open Reg F

/-- ETH_FRAME_RECEIVE (R239). -/
def execEthFrameReceive (p : Fin 8) (bytes : List Byte) (fcsError : Bool) (ago : Nat) (s : State) : Host.Outcome State Fault Refusal :=
  done <| s.ethReceive p bytes fcsError ago

/-- FH_DATA_MESSAGE (R263). -/
def execFhDataMessage (s : State) : Host.Outcome State Fault Refusal :=
  done <| s.fhData

/-- FH_CONTROL_MESSAGE (R265). -/
def execFhControlMessage (s : State) : Host.Outcome State Fault Refusal :=
  done <| s.fhControl

/-- SECTION_CMD (R266). -/
def execSectionCmd (s : State) : Host.Outcome State Fault Refusal :=
  done <| s.sectionCmd

/-- CANCEL_CMD (R268). -/
def execCancelCmd (s : State) : Host.Outcome State Fault Refusal :=
  done <| s.cancelCmd

/-- BEAM_DEF_CMD (R269). -/
def execBeamDefCmd (s : State) : Host.Outcome State Fault Refusal :=
  done <| s.beamDefCmd

/-- BEAM_DEL_CMD (R269). -/
def execBeamDelCmd (s : State) : Host.Outcome State Fault Refusal :=
  done <| s.beamDelCmd

/-- RESEND_CMD (R277). -/
def execResendCmd (s : State) : Host.Outcome State Fault Refusal :=
  done <| s.resendCommand

/-- RESEND_SERVE (R278). -/
def execResendServe (s : State) : Host.Outcome State Fault Refusal :=
  done <| s.resendServe

/-- DL_STATUS_SEND (R274). -/
def execDlStatusSend (c : Fin 4) (s : State) : Host.Outcome State Fault Refusal :=
  done <| s.dlStatusSend c

/-- ECPRI_DELAY_REQUEST (R281). -/
def execEcpriDelayRequest (s : State) : Host.Outcome State Fault Refusal :=
  done <| s.delayRequest

/-- ECPRI_DELAY_REMOTE_REQUEST (R281). -/
def execEcpriDelayRemoteRequest (s : State) : Host.Outcome State Fault Refusal :=
  done <| s.delayRemote

/-- ECPRI_DELAY_RESPONSE (R281). -/
def execEcpriDelayResponse (s : State) : Host.Outcome State Fault Refusal :=
  done <| s.delayResponse

/-- ECPRI_DELAY_FOLLOW_UP (R281). -/
def execEcpriDelayFollowUp (s : State) : Host.Outcome State Fault Refusal :=
  done <| s.delayFollowUp

/-- ETH_FRAME_TRANSMIT (R240). -/
def execEthFrameTransmit (p : Fin 8) (s : State) : Host.Outcome State Fault Refusal :=
  done <| s.ethTransmit p

end Sys2Proof.Machine
end

