-- ==== Sys2Proof/Machine/ExecGlide.lean ====
section
/-!
DEFINITION. The meanings of the commands, one definition each. Glide instructions and what ends their waits (chapter 02).
-/
namespace Sys2Proof.Machine
open Reg F

/-- AT (R48). -/
def execGlideAt (p : Fin 5) (ecc : Ecc) (eccs : List Ecc) (s : State) : Host.Outcome State Fault Refusal :=
  done <| s.gAt p 1 ecc eccs

/-- AT_REL (R48). -/
def execGlideAtRel (p : Fin 5) (ecc : Ecc) (eccs : List Ecc) (s : State) : Host.Outcome State Fault Refusal :=
  done <| s.gAt p 2 ecc eccs

/-- AT_QUEUE_STALL_RELEASE (R52). -/
def execAtQueueStallRelease (p : Fin 5) (s : State) : Host.Outcome State Fault Refusal :=
  done <| s.stallRelease p

/-- BUNDLE_DISPATCH (R53). -/
def execBundleDispatch (remote : Bool) (n : Fin 5) (s : State) : Host.Outcome State Fault Refusal :=
  done <| if remote then s.dispatchFifo (n % 4) else s.dispatchLocal n

/-- ALIGN (R68). -/
def execGlideAlign (p : Fin 5) (ecc : Ecc) (s : State) : Host.Outcome State Fault Refusal :=
  done <| s.gAlign p ecc

/-- WAITEV (R64). -/
def execGlideWaitev (p : Fin 5) (ecc : Ecc) (s : State) : Host.Outcome State Fault Refusal :=
  done <| s.gWaitev p ecc

/-- WAITEV_COMPLETE (R64). -/
def execWaitevComplete (p : Fin 5) (s : State) : Host.Outcome State Fault Refusal :=
  done <| s.waitevDone p

/-- WAITLOCK (R65). -/
def execGlideWaitlock (p : Fin 5) (ecc : Ecc) (s : State) : Host.Outcome State Fault Refusal :=
  done <| s.gWaitlock p ecc

/-- WAITLOCK_COMPLETE (R65). -/
def execWaitlockComplete (p : Fin 5) (s : State) : Host.Outcome State Fault Refusal :=
  done <| s.waitlockDone p

/-- GLIDE_WAIT_TIMEOUT (R65). -/
def execGlideWaitTimeout (p : Fin 5) (s : State) : Host.Outcome State Fault Refusal :=
  done <| s.waitTimeout p

/-- SET (R67). -/
def execGlideSet (p : Fin 5) (ecc : Ecc) (s : State) : Host.Outcome State Fault Refusal :=
  done <| s.gSet p ecc

/-- GET (R67). -/
def execGlideGet (p : Fin 5) (ecc : Ecc) (s : State) : Host.Outcome State Fault Refusal :=
  done <| s.gGet p ecc

/-- GET_RETURN (R67). -/
def execGetReturn (p : Fin 5) (after : Fin 1025) (s : State) : Host.Outcome State Fault Refusal :=
  done <| s.getReturn p after

/-- SIG (R48). -/
def execGlideSig (p : Fin 5) (ecc : Ecc) (s : State) : Host.Outcome State Fault Refusal :=
  done <| s.gSig p ecc

/-- LOOP (R48). -/
def execGlideLoop (p : Fin 5) (ecc : Ecc) (s : State) : Host.Outcome State Fault Refusal :=
  done <| s.gLoop p ecc

/-- ENDL (R48). -/
def execGlideEndl (p : Fin 5) (ecc : Ecc) (s : State) : Host.Outcome State Fault Refusal :=
  done <| s.gEndl p ecc

/-- JMP (R48). -/
def execGlideJmp (p : Fin 5) (ecc : Ecc) (s : State) : Host.Outcome State Fault Refusal :=
  done <| s.gJmp p ecc

/-- CALL (R48). -/
def execGlideCall (p : Fin 5) (ecc : Ecc) (s : State) : Host.Outcome State Fault Refusal :=
  done <| s.gCall p ecc

/-- RET (R48). -/
def execGlideRet (p : Fin 5) (ecc : Ecc) (s : State) : Host.Outcome State Fault Refusal :=
  done <| s.gRet p ecc

/-- HALT (R45). -/
def execGlideHalt (p : Fin 5) (ecc : Ecc) (s : State) : Host.Outcome State Fault Refusal :=
  done <| s.gHalt p ecc

/-- MOV (R48). -/
def execGlideMov (p : Fin 5) (ecc : Ecc) (s : State) : Host.Outcome State Fault Refusal :=
  done <| s.gMov p ecc

/-- ADD (R48). -/
def execGlideAdd (p : Fin 5) (ecc : Ecc) (s : State) : Host.Outcome State Fault Refusal :=
  done <| s.gAlu p 0x31 ecc fun a b => a + b

/-- SUB (R48). -/
def execGlideSub (p : Fin 5) (ecc : Ecc) (s : State) : Host.Outcome State Fault Refusal :=
  done <| s.gAlu p 0x32 ecc fun a b => a - b

/-- AND (R48). -/
def execGlideAnd (p : Fin 5) (ecc : Ecc) (s : State) : Host.Outcome State Fault Refusal :=
  done <| s.gAlu p 0x33 ecc fun a b => a &&& b

/-- OR (R48). -/
def execGlideOr (p : Fin 5) (ecc : Ecc) (s : State) : Host.Outcome State Fault Refusal :=
  done <| s.gAlu p 0x34 ecc fun a b => a ||| b

/-- SHL (R48). -/
def execGlideShl (p : Fin 5) (ecc : Ecc) (s : State) : Host.Outcome State Fault Refusal :=
  done <| s.gAlu p 0x35 ecc fun a b => a <<< (b.toNat % 64)

/-- SHR (R48). -/
def execGlideShr (p : Fin 5) (ecc : Ecc) (s : State) : Host.Outcome State Fault Refusal :=
  done <| s.gAlu p 0x36 ecc fun a b => a >>> (b.toNat % 64)

/-- CMP (R48). -/
def execGlideCmp (p : Fin 5) (ecc : Ecc) (s : State) : Host.Outcome State Fault Refusal :=
  done <| s.gCmp p ecc

/-- BR (R48). -/
def execGlideBr (p : Fin 5) (ecc : Ecc) (s : State) : Host.Outcome State Fault Refusal :=
  done <| s.gBr p ecc

/-- FENCE (R66). -/
def execGlideFence (p : Fin 5) (ecc : Ecc) (s : State) : Host.Outcome State Fault Refusal :=
  done <| s.gFence p ecc

/-- FENCE_RELEASE (R66). -/
def execFenceRelease (p : Fin 5) (s : State) : Host.Outcome State Fault Refusal :=
  done <| s.fenceRelease p

end Sys2Proof.Machine
end

