-- ==== Sys2Proof/Machine/ExecGlideReg.lean ====
section
/-!
DEFINITION. The meanings of the commands, one definition each. Registers of the Glide processors (R44, R45, R63, R70).
-/
namespace Sys2Proof.Machine
open Reg F

/-- GLIDE_GO (R45). -/
def execGlideGo (p : Fin 5) (w : Word) (s : State) : Host.Outcome State Fault Refusal :=
  done <| s.guarded (GLIDE_CTRL p) fun s => s.glideCtrlWrite p (putF w GLIDE_CTRL_GO 1)

/-- GLIDE_IMEM_DATA_HI_WRITE (R44). -/
def execGlideImemDataHiWrite (p : Fin 5) (w : Word) (s : State) : Host.Outcome State Fault Refusal :=
  done <| s.guarded (GLIDE_IMEM_DATA_HI p) fun s => s.imemHiWrite p w

/-- GLIDE_IMEM_DATA_LO_READ (R44). -/
def execGlideImemDataLoRead (p : Fin 5) (s : State) : Host.Outcome State Fault Refusal :=
  done <| s.guardedRead (GLIDE_IMEM_DATA_LO p) fun s => s.imemLoRead p

/-- GLIDE_IMEM_DATA_HI_READ (R44). -/
def execGlideImemDataHiRead (p : Fin 5) (s : State) : Host.Outcome State Fault Refusal :=
  done <| s.guardedRead (GLIDE_IMEM_DATA_HI p) fun s => s.imemHiRead p

/-- GLIDE_GREG_LO_READ (R70). -/
def execGlideGregLoRead (p : Fin 5) (s : State) : Host.Outcome State Fault Refusal :=
  done <| s.guardedRead (GLIDE_GREG_LO p) fun s => s.gregLoRead p

/-- GLIDE_BT_LO_READ (R70). -/
def execGlideBtLoRead (p : Fin 5) (s : State) : Host.Outcome State Fault Refusal :=
  done <| s.guardedRead (GLIDE_BT_LO p) fun s => s.btLoRead p

/-- TILE_EN_WRITE (R63). -/
def execTileEnWrite (w : Word) (s : State) : Host.Outcome State Fault Refusal :=
  done <| s.guarded (GLIDE_TILE_EN) fun s => s.tileEnWrite w

end Sys2Proof.Machine
end

