-- ==== Sys2Proof/Machine/ExecHiveCmd.lean ====
section
/-!
DEFINITION. The meanings of the commands, one definition each. Events, UART and the test access port (chapters 21 and 22).
-/
namespace Sys2Proof.Machine
open Reg F

/-- HIVE_SRC_CFG_WRITE (R470). -/
def execHiveSrcCfgWrite (src : Fin 256) (w : Word) (s : State) : Host.Outcome State Fault Refusal :=
  done <| s.guarded (HIVE_SRC_CFG src) fun s => s.srcCfgWrite src w

/-- HIVE_STATUS_WRITE (R469). -/
def execHiveStatusWrite (k : Fin 8) (w raced : Word) (s : State) : Host.Outcome State Fault Refusal :=
  done <| s.guarded (HIVE_STATUS k) fun s => s.withRace raced fun s => s.statusWrite k w

/-- COUNTER_FLAG_CLEAR (R471). -/
def execCounterFlagClear (a : BitVec 28) (w raced : Word) (s : State) : Host.Outcome State Fault Refusal :=
  done <| if isCntFlags a.toNat then s.guarded a.toNat fun s => s.withRace raced fun s => s.flagsWrite a.toNat w else s

/-- UART_RX_BYTE (R484). -/
def execUartRxByte (b : Byte) (stop : Bool) (s : State) : Host.Outcome State Fault Refusal :=
  done <| s.uartByte b stop

/-- TAP_BYPASS (R486). -/
def execTapBypass (s : State) : Host.Outcome State Fault Refusal :=
  done <| s.tapTo .bypass

/-- TAP_SAMPLE_PRELOAD (R486). -/
def execTapSamplePreload (cells : List Bool) (s : State) : Host.Outcome State Fault Refusal :=
  done <| s.tapPreload cells

/-- TAP_EXTEST (R487). -/
def execTapExtest (s : State) : Host.Outcome State Fault Refusal :=
  done <| s.tapExtest

/-- TAP_IDCODE (R486). -/
def execTapIdcode (s : State) : Host.Outcome State Fault Refusal :=
  done <| s.tapTo .idcode

/-- MSI_CAPABILITY_WRITE (R469). -/
def execMsiCapabilityWrite (on : Bool) (log2 : Fin 6) (s : State) : Host.Outcome State Fault Refusal :=
  done <| s.msiCapability on (2 ^ log2.val)

/-- TAP_TEST_LOGIC_RESET (R486). -/
def execTapTestLogicReset (s : State) : Host.Outcome State Fault Refusal :=
  done <| s.tapTo .idcode

end Sys2Proof.Machine
end

