-- ==== Sys2Proof/Machine/ExecLane.lean ====
section
/-!
DEFINITION. The meanings of the commands, one definition each. Serial lanes and Ethernet links (chapter 09).
-/
namespace Sys2Proof.Machine
open Reg F

/-- LANE_REQ_WRITE (R248). -/
def execLaneReqWrite (l : Fin 16) (w : Word) (s : State) : Host.Outcome State Fault Refusal :=
  done <| s.guarded (LANEQ_LCTRL l) fun s => s.lctrlWrite l w

/-- LANE_FULL_ADAPT (R249). -/
def execLaneFullAdapt (l : Fin 16) (w : Word) (s : State) : Host.Outcome State Fault Refusal :=
  done <| s.guarded (LANEQ_LCTRL l) fun s => s.lctrlWrite l (putF w LANEQ_LCTRL_FULL_ADAPT 1)

/-- LANE_EPOCH (R242). -/
def execLaneEpoch (l : Fin 16) (fom : BitVec 8) (signal : Bool) (cdr : Bool) (errors : Nat) (s : State) : Host.Outcome State Fault Refusal :=
  done <| s.laneEpoch l fom signal cdr errors

/-- LANE_RESUME_TIMEOUT (R249). -/
def execLaneResumeTimeout (l : Fin 16) (s : State) : Host.Outcome State Fault Refusal :=
  done <| s.laneResumeTimeout l

/-- LANE_ADAPT_DONE (R249). -/
def execLaneAdaptDone (l : Fin 16) (s : State) : Host.Outcome State Fault Refusal :=
  done <| s.laneAdaptDone l

/-- LANEQ_PLL_LOCK_CHANGE (R250). -/
def execLaneqPllLockChange (n : Fin 4) (locked : Bool) (s : State) : Host.Outcome State Fault Refusal :=
  done <| s.quadPllLock n locked

/-- EYE_SCAN_GO (R244). -/
def execEyeScanGo (w : Word) (s : State) : Host.Outcome State Fault Refusal :=
  done <| s.guarded (LANEQ_EYE_CTRL) fun s => s.eyeGo w

/-- EYE_SCAN_DONE (R244). -/
def execEyeScanDone (errors : Nat) (s : State) : Host.Outcome State Fault Refusal :=
  done <| s.eyeDone errors

/-- MAC_LINK_CHANGE (R238). -/
def execMacLinkChange (p : Fin 8) (aligned : Bool) (localFault : Bool) (remoteFault : Bool) (skew : Nat) (s : State) : Host.Outcome State Fault Refusal :=
  done <| s.macLink p aligned localFault remoteFault skew

end Sys2Proof.Machine
end

