-- ==== Sys2Proof/Machine/ExecMemory.lean ====
section
/-!
DEFINITION. The meanings of the commands, one definition each. Stores and DRAM (chapter 15).
-/
namespace Sys2Proof.Machine
open Reg F

/-- WIN_DATA_READ (R361). -/
def execWinDataRead (s : State) : Host.Outcome State Fault Refusal :=
  done <| s.guardedRead (DRAMC_WIN_DATA) fun s => s.winRead

/-- WIN_DATA_WRITE (R361). -/
def execWinDataWrite (w : Word) (s : State) : Host.Outcome State Fault Refusal :=
  done <| s.guarded (DRAMC_WIN_DATA) fun s => s.winWrite w

/-- DRAM_VERIFY (R372). -/
def execDramVerify (mask : BitVec 2) (s : State) : Host.Outcome State Fault Refusal :=
  done <| s.guarded (DRAMC_CMD) fun s => s.dramCmd false mask.toNat

/-- DRAM_SWEEP (R372). -/
def execDramSweep (mask : BitVec 2) (s : State) : Host.Outcome State Fault Refusal :=
  done <| s.guarded (DRAMC_CMD) fun s => s.dramCmd true mask.toNat

/-- DRAM_TRAINING_END (R373). -/
def execDramTrainingEnd (c : Fin 2) (read : List (BitVec 256)) (write : List (BitVec 256)) (pick : Nat) (after : Nat) (s : State) : Host.Outcome State Fault Refusal :=
  done <| s.trainingEnd c read write pick after

/-- DRAM_PORT_REQUEST (R365). -/
def execDramPortRequest (p : Fin 4) (write : Bool) (a : BitVec 40) (bytes : List Byte) (s : State) : Host.Outcome State Fault Refusal :=
  done <| s.portRequest p write a.toNat bytes

/-- REFRESH_INTERVAL (R369). -/
def execRefreshInterval (c : Fin 2) (s : State) : Host.Outcome State Fault Refusal :=
  done <| s.refreshInterval c

/-- PAGE_IDLE_CLOSE (R367). -/
def execPageIdleClose (c : Fin 2) (bank : Nat) (s : State) : Host.Outcome State Fault Refusal :=
  done <| s.pageIdleClose c bank

/-- STORE_ECC_ERROR (R359). -/
def execStoreEccError (store : Fin 3) (found : StoreErr) (word : Nat) (s : State) : Host.Outcome State Fault Refusal :=
  done <| match found with
    | .corrected => s.storeError store false word
    | .uncorrectable held => (s.storeStruck store held).storeError store true word

/-- DRAM_COMMAND_SLOT (R365). -/
def execDramCommandSlot (c : Fin 2) (use : DramSlot) (s : State) : Host.Outcome State Fault Refusal :=
  done <| s.commandSlot c use

/-- DRAM_INIT_DONE (R374). -/
def execDramInitDone (c : Fin 2) (s : State) : Host.Outcome State Fault Refusal :=
  done <| s.dramInitDone c

end Sys2Proof.Machine
end

