-- ==== Sys2Proof/Machine/ExecPart.lean ====
section
/-!
DEFINITION. The meanings of the commands, one definition each. Registers at large, the die-to-die links, the resets and the modes (chapters 00 and 01).
-/
namespace Sys2Proof.Machine
open Reg F

/-- REGISTER_WRITE (R11). -/
def execRegisterWrite (a : BitVec 28) (w : Word) (bytes : BitVec 4) (lat : Fin 4) (ofs : Int) (raced : Word) (s : State) : Host.Outcome State Fault Refusal :=
  done <| s.withRace raced fun s => s.hostWrite a w bytes lat ofs

/-- UNOCCUPIED_READ (R9). -/
def execUnoccupiedRead (a : BitVec 28) (s : State) : Host.Outcome State Fault Refusal :=
  done <| s.unoccupiedRead a.toNat

/-- TILE_ALL_READ (R10). -/
def execTileAllRead (_ofs : BitVec 24) (s : State) : Host.Outcome State Fault Refusal :=
  done <| s.tileAllRead

/-- BROADCAST_WRITE (R27). -/
def execBroadcastWrite (ofs : BitVec 24) (w : Word) (s : State) : Host.Outcome State Fault Refusal :=
  done <| s.broadcast (0xF000000 + ofs.toNat) w

/-- D2D_WORD_ERROR (R16). -/
def execD2dWordError (t : Fin 4) (hit : D2dHit) (s : State) : Host.Outcome State Fault Refusal :=
  done <| s.d2dError t hit

/-- HUB_LINK_TIMEOUT (R18). -/
def execHubLinkTimeout (t : Fin 4) (s : State) : Host.Outcome State Fault Refusal :=
  done <| s.linkTimeout t

/-- POR_N_ASSERT (R32). -/
def execPorNAssert (s : State) : Host.Outcome State Fault Refusal :=
  done <| s.porAssert

/-- POR_N_RELEASE (R32). -/
def execPorNRelease (gpio : BitVec 2) (s : State) : Host.Outcome State Fault Refusal :=
  done <| s.porRelease gpio

/-- WARM_N_PULSE (R32). -/
def execWarmNPulse (s : State) : Host.Outcome State Fault Refusal :=
  done <| s.warmPulse

/-- MODE_TRANSITION_DONE (R36). -/
def execModeTransitionDone (after : Nat) (s : State) : Host.Outcome State Fault Refusal :=
  done <| s.transDone after

/-- QUIET_RESUME_BOUNDARY (R35). -/
def execQuietResumeBoundary (s : State) : Host.Outcome State Fault Refusal :=
  done <| s.quietResume

/-- PCIE_PERST_N_RELEASE (R479). -/
def execPciePerstNRelease (s : State) : Host.Outcome State Fault Refusal :=
  done <| s.perstRelease

end Sys2Proof.Machine
end

