-- ==== Sys2Proof/Machine/ExecPowerCmd.lean ====
section
/-!
DEFINITION. The meanings of the commands, one definition each. Domains, wake and supplies (chapter 17).
-/
namespace Sys2Proof.Machine
open Reg F

/-- DOMAIN_REQUEST (R404). -/
def execDomainRequest (d : Fin 54) (w : Word) (lat : Fin 4) (s : State) : Host.Outcome State Fault Refusal :=
  done <| s.guarded (PMU_DOM d) fun s => s.domWrite d w lat

/-- DOMAIN_WINDOW_END (R409). -/
def execDomainWindowEnd (d : Fin 54) (s : State) : Host.Outcome State Fault Refusal :=
  done <| s.windowEnd d

/-- DOMAIN_TRANSITION_END (R405). -/
def execDomainTransitionEnd (d : Fin 54) (after : Nat) (s : State) : Host.Outcome State Fault Refusal :=
  done <| s.domEnd d after

/-- WAKE_PIN_EVENT (R408). -/
def execWakePinEvent (n : Fin 4) (level : Bool) (s : State) : Host.Outcome State Fault Refusal :=
  done <| s.wakePin n level

/-- WAKE_TIMER_EXPIRY (R408). -/
def execWakeTimerExpiry (s : State) : Host.Outcome State Fault Refusal :=
  done <| s.timerExpiry

/-- TIMER_CFG_WRITE (R408). -/
def execTimerCfgWrite (w : Word) (s : State) : Host.Outcome State Fault Refusal :=
  done <| s.guarded (PMU_TIMER_CFG) fun s => s.timerCfg w

/-- SUPPLY_DIP_BEGIN (R412). -/
def execSupplyDipBegin (rails : BitVec 7) (s : State) : Host.Outcome State Fault Refusal :=
  done <| s.dipBegin rails

/-- SUPPLY_DIP_END (R413). -/
def execSupplyDipEnd (below : Bool) (s : State) : Host.Outcome State Fault Refusal :=
  done <| s.dipEnd below

/-- WARN_FREEZE_END (R413). -/
def execWarnFreezeEnd (s : State) : Host.Outcome State Fault Refusal :=
  done <| s.freezeDone

/-- RAIL_RESET_TIMEOUT (R399). -/
def execRailResetTimeout (s : State) : Host.Outcome State Fault Refusal :=
  done <| s.railReset

/-- RAILS_VALID (R399). -/
def execRailsValid (s : State) : Host.Outcome State Fault Refusal :=
  done <| s.railsValid

/-- AON_BROWNOUT_DETECT (R402). -/
def execAonBrownoutDetect (s : State) : Host.Outcome State Fault Refusal :=
  done <| s.brownout

/-- AON_POWER_UP (R428). -/
def execAonPowerUp (s : State) : Host.Outcome State Fault Refusal :=
  done <| s.aonPowerUp

end Sys2Proof.Machine
end

