-- ==== Sys2Proof/Machine/ExecRadio.lean ====
section
/-!
DEFINITION. The meanings of the commands, one definition each. Radio instructions at their effect instants (R54, Table 2-6).
-/
namespace Sys2Proof.Machine
open Reg F

/-- TXON (R84). -/
def execRadioTxon (t : Fin 4) (s : State) : Host.Outcome State Fault Refusal :=
  done <| s.atEffect t Radio.isTxon

/-- TXOFF (R84). -/
def execRadioTxoff (t : Fin 4) (s : State) : Host.Outcome State Fault Refusal :=
  done <| s.atEffect t Radio.isTxoff

/-- RXON (R113). -/
def execRadioRxon (t : Fin 4) (s : State) : Host.Outcome State Fault Refusal :=
  done <| s.atEffect t Radio.isRxon

/-- RXOFF (R113). -/
def execRadioRxoff (t : Fin 4) (s : State) : Host.Outcome State Fault Refusal :=
  done <| s.atEffect t Radio.isRxoff

/-- GAIN (R117). -/
def execRadioGain (t : Fin 4) (s : State) : Host.Outcome State Fault Refusal :=
  done <| s.atEffect t Radio.isGain

/-- NCO (R80). -/
def execRadioNco (t : Fin 4) (s : State) : Host.Outcome State Fault Refusal :=
  done <| s.atEffect t Radio.isNco

/-- FILT (R78). -/
def execRadioFilt (t : Fin 4) (s : State) : Host.Outcome State Fault Refusal :=
  done <| s.atEffect t Radio.isFilt

/-- BEAMSET (R55). -/
def execRadioBeamset (s : State) : Host.Outcome State Fault Refusal :=
  done <| s.atEffect 4 Radio.isBeamset

/-- PAEN (R216). -/
def execRadioPaen (t : Fin 4) (s : State) : Host.Outcome State Fault Refusal :=
  done <| s.atEffect t Radio.isPaen

/-- CAPT (R125). -/
def execRadioCapt (t : Fin 4) (s : State) : Host.Outcome State Fault Refusal :=
  done <| s.atEffect t Radio.isCapt

/-- CALB (R201). -/
def execRadioCalb (t : Fin 4) (s : State) : Host.Outcome State Fault Refusal :=
  done <| s.atEffect t Radio.isCalb

end Sys2Proof.Machine
end

