-- ==== Sys2Proof/Machine/ExecReceive.lean ====
section
/-!
DEFINITION. The meanings of the commands, one definition each. The receive chains (chapter 04).
-/
namespace Sys2Proof.Machine
open Reg F

/-- RX_RF_HI_WRITE (R104). -/
def execRxRfHiWrite (t : Fin 4) (w : Word) (s : State) : Host.Outcome State Fault Refusal :=
  done <| s.guarded (RXCH_RF_HI t) fun s => s.rxRfHi t w

/-- RX_CAR_NCO_HI_WRITE (R109). -/
def execRxCarNcoHiWrite (t : Fin 4) (w : Word) (s : State) : Host.Outcome State Fault Refusal :=
  done <| s.guarded (RXCH_CAR_NCO_HI t) fun s => s.rxNcoHi t w

/-- RX_CAR_FILT_WRITE (R110). -/
def execRxCarFiltWrite (t : Fin 4) (w : Word) (s : State) : Host.Outcome State Fault Refusal :=
  done <| s.guarded (RXCH_CAR_FILT t) fun s => s.rxFilt t w

/-- RX_ZONE_WRITE (R105). -/
def execRxZoneWrite (t : Fin 4) (w : Word) (s : State) : Host.Outcome State Fault Refusal :=
  done <| s.guarded (RXCH_ZONE t) fun s => s.rxZone t w

/-- RX_TRIM_ARM_WRITE (R103). -/
def execRxTrimArmWrite (t : Fin 4) (pmask : BitVec 16) (s : State) : Host.Outcome State Fault Refusal :=
  done <| s.guarded (RXCH_TRIM_ARM t) fun s => s.rxTrimArm t pmask.toNat

/-- GAIN_BOUNDARY_APPLY (R118). -/
def execGainBoundaryApply (t : Fin 4) (i : Fin 16) (s : State) : Host.Outcome State Fault Refusal :=
  done <| s.gainApply t i

/-- AGC_DECISION (R119). -/
def execAgcDecision (t : Fin 4) (i : Fin 16) (s : State) : Host.Outcome State Fault Refusal :=
  done <| s.agcDecision t i

/-- POWER_BLOCK_RESULT (R121). -/
def execPowerBlockResult (t : Fin 4) (i : Fin 16) (wide : Bool) (s : State) : Host.Outcome State Fault Refusal :=
  done <| s.powerBlock t i wide

/-- PM_CFG_WRITE (R121). -/
def execPmCfgWrite (t : Fin 4) (wide : Bool) (w : Word) (s : State) : Host.Outcome State Fault Refusal :=
  done <| if wide then s.guarded (RXCH_WPD_CFG t) fun s => s.wpdCfg t w else s.guarded (RXCH_PM_CFG t) fun s => s.pmCfg t w

/-- RX_SYMBOL_DELIVER (R114). -/
def execRxSymbolDeliver (t : Fin 4) (i : Fin 16) (c : Fin 4) (sym : Nat) (s : State) : Host.Outcome State Fault Refusal :=
  done <| s.rxDeliver t i c sym

/-- CAPTURE_GRANULE (R128). -/
def execCaptureGranule (t : Fin 4) (d : Fin 16) (s : State) : Host.Outcome State Fault Refusal :=
  done <| s.granule t d

end Sys2Proof.Machine
end

