-- ==== Sys2Proof/Machine/ExecRilynCmd.lean ====
section
/-!
DEFINITION. The meanings of the commands, one definition each. Rilyn (chapter 19).
-/
namespace Sys2Proof.Machine
open Reg F

/-- GET_ID (R434). -/
def execGetId (s : State) : Host.Outcome State Fault Refusal :=
  done <| s.getId

/-- SET_MODE (R32). -/
def execSetMode (s : State) : Host.Outcome State Fault Refusal :=
  done <| s.setModeCmd

/-- RESTART (R434). -/
def execRestart (s : State) : Host.Outcome State Fault Refusal :=
  done <| s.restart

/-- REC_WRITE (R434). -/
def execRecWrite (ok : Bool) (s : State) : Host.Outcome State Fault Refusal :=
  done <| s.recWrite ok

/-- REC_READ (R434). -/
def execRecRead (s : State) : Host.Outcome State Fault Refusal :=
  done <| s.recRead

/-- IMG_BEGIN (R442). -/
def execImgBegin (ok : Bool) (s : State) : Host.Outcome State Fault Refusal :=
  done <| s.imgBegin ok

/-- IMG_CHUNK (R442). -/
def execImgChunk (ok : Bool) (s : State) : Host.Outcome State Fault Refusal :=
  done <| s.imgChunk ok

/-- IMG_END (R442). -/
def execImgEnd (img : Option (Word × Fin 64)) (s : State) : Host.Outcome State Fault Refusal :=
  done <| s.imgEnd (img.map fun x => (x.1, x.2.val))

/-- IMG_ABORT (R442). -/
def execImgAbort (s : State) : Host.Outcome State Fault Refusal :=
  done <| s.imgAbort

/-- ARB_COMMIT (R443). -/
def execArbCommit (s : State) : Host.Outcome State Fault Refusal :=
  done <| s.arbCommit

/-- LOG_INFO (R434). -/
def execLogInfo (s : State) : Host.Outcome State Fault Refusal :=
  done <| s.logInfo

/-- LOG_READ (R439). -/
def execLogRead (s : State) : Host.Outcome State Fault Refusal :=
  done <| s.logRead

/-- SENSOR_READ (R448). -/
def execSensorRead (s : State) : Host.Outcome State Fault Refusal :=
  done <| s.sensorRead

/-- PTP_GET (R434). -/
def execPtpGet (s : State) : Host.Outcome State Fault Refusal :=
  done <| s.ptpGet

/-- PTP_SET (R434). -/
def execPtpSet (s : State) : Host.Outcome State Fault Refusal :=
  done <| s.ptpSet

/-- DLY_RESULT (R434). -/
def execDlyResult (s : State) : Host.Outcome State Fault Refusal :=
  done <| s.dlyResult

/-- QSPI_STREAM (R444). -/
def execQspiStream (s : State) : Host.Outcome State Fault Refusal :=
  done <| s.qspiStream

/-- BUF_DATA_ACCESS (R433). -/
def execBufDataAccess (write : Option Word) (s : State) : Host.Outcome State Fault Refusal :=
  done <| match write with | some w => s.guarded (RILYN_BUF_DATA) (fun s => s.bufWrite w) | none => s.guardedRead (RILYN_BUF_DATA) (fun s => s.bufRead)

/-- MPLANE_FRAME (R435). -/
def execMplaneFrame (s : State) : Host.Outcome State Fault Refusal :=
  done <| s.mplaneFrame

/-- LOCKSTEP_MISMATCH (R430). -/
def execLockstepMismatch (step : Fin 16) (s : State) : Host.Outcome State Fault Refusal :=
  done <| s.lockstep step

/-- LOG_RECORD_WRITE (R440). -/
def execLogRecordWrite (s : State) : Host.Outcome State Fault Refusal :=
  done <| s.logWrite

/-- HKADC_RESULT (R447). -/
def execHkadcResult (die : Fin 5) (ch : Fin 64) (conv : BitVec 16) (s : State) : Host.Outcome State Fault Refusal :=
  done <| s.hkResult die ch conv

/-- HKADC_CHCFG_WRITE (R449). -/
def execHkadcChcfgWrite (die : Fin 5) (ch : Fin 64) (w : Word) (s : State) : Host.Outcome State Fault Refusal :=
  done <| s.guarded (HKADC_CHCFG die ch) fun s => s.hkChcfg die ch w

end Sys2Proof.Machine
end

