-- ==== Sys2Proof/Machine/ExecScarabCmd.lean ====
section
/-!
DEFINITION. The meanings of the commands, one definition each. Scarab (chapter 16).
-/
namespace Sys2Proof.Machine
open Reg F

/-- SCARAB_STOP (R393). -/
def execScarabStop (n : Fin 16) (ecc : List Ecc) (s : State) : Host.Outcome State Fault Refusal :=
  done <| s.scStop n ecc

/-- SCARAB_MOVE (R384). -/
def execScarabMove (n : Fin 16) (ecc : List Ecc) (s : State) : Host.Outcome State Fault Refusal :=
  done <| s.scXfer n opMove ecc

/-- SCARAB_MOVEX (R386). -/
def execScarabMovex (n : Fin 16) (ecc : List Ecc) (s : State) : Host.Outcome State Fault Refusal :=
  done <| s.scXfer n opMovex ecc

/-- SCARAB_SWAP (R384). -/
def execScarabSwap (n : Fin 16) (ecc : List Ecc) (s : State) : Host.Outcome State Fault Refusal :=
  done <| s.scXfer n opSwap ecc

/-- SCARAB_LOOP (R384). -/
def execScarabLoop (n : Fin 16) (ecc : List Ecc) (s : State) : Host.Outcome State Fault Refusal :=
  done <| s.scLoop n ecc

/-- SCARAB_ENDL (R384). -/
def execScarabEndl (n : Fin 16) (ecc : List Ecc) (s : State) : Host.Outcome State Fault Refusal :=
  done <| s.scEndl n ecc

/-- SCARAB_WAIT (R387). -/
def execScarabWait (n : Fin 16) (ecc : List Ecc) (s : State) : Host.Outcome State Fault Refusal :=
  done <| s.scWait n ecc

/-- SCARAB_WAIT_DONE (R387). -/
def execScarabWaitDone (n : Fin 16) (s : State) : Host.Outcome State Fault Refusal :=
  done <| s.scWaitDone n

/-- SCARAB_WAIT_TIMEOUT (R387). -/
def execScarabWaitTimeout (n : Fin 16) (s : State) : Host.Outcome State Fault Refusal :=
  done <| s.scWaitTimeout n

/-- SCARAB_SIGNAL_INSTR (R384). -/
def execScarabSignal (n : Fin 16) (ecc : List Ecc) (s : State) : Host.Outcome State Fault Refusal :=
  done <| s.scSignal n ecc

/-- SCARAB_JUMP (R384). -/
def execScarabJump (n : Fin 16) (ecc : List Ecc) (s : State) : Host.Outcome State Fault Refusal :=
  done <| s.scJump n ecc

/-- SCARAB_BURST_START (R388). -/
def execScarabBurstStart (n : Fin 16) (eccBad : Bool) (s : State) : Host.Outcome State Fault Refusal :=
  done <| s.burstBegin n eccBad

/-- SCARAB_REQ_WITHDRAW (R389). -/
def execScarabReqWithdraw (n : Fin 16) (kept : Nat) (s : State) : Host.Outcome State Fault Refusal :=
  done <| s.reqWithdraw n kept

/-- SCARAB_TRANSFER_DONE (R390). -/
def execScarabTransferDone (n : Fin 16) (eccBad : Bool) (s : State) : Host.Outcome State Fault Refusal :=
  done <| s.xferDone n eccBad

/-- SCARAB_ENABLE (R382). -/
def execScarabEnable (n : Fin 16) (w : Word) (s : State) : Host.Outcome State Fault Refusal :=
  done <| s.guarded (SCARAB_CH_CTRL n) fun s => s.chCtrl n (putF w SCARAB_CH_CTRL_EN 1)

/-- SCARAB_DISABLE (R392). -/
def execScarabDisable (n : Fin 16) (w : Word) (s : State) : Host.Outcome State Fault Refusal :=
  done <| s.guarded (SCARAB_CH_CTRL n) fun s => s.chCtrl n (putF w SCARAB_CH_CTRL_EN 0)

/-- SCARAB_DOORBELL (R393). -/
def execScarabDoorbell (w : Word) (s : State) : Host.Outcome State Fault Refusal :=
  done <| s.guarded (SCARAB_DOORBELL) fun s => s.doorbell w

/-- SCARAB_CONS_IDX_WRITE (R391). -/
def execScarabConsIdxWrite (n : Fin 16) (w : Word) (s : State) : Host.Outcome State Fault Refusal :=
  done <| s.guarded (SCARAB_CONS_IDX n) fun s => s.consIdx n w

/-- SCARAB_PMEM_DATA_HI_WRITE (R380). -/
def execScarabPmemDataHiWrite (w : Word) (s : State) : Host.Outcome State Fault Refusal :=
  done <| s.guarded (SCARAB_PMEM_DATA_HI) fun s => s.pmemHiWrite w

/-- SCARAB_PMEM_DATA_LO_READ (R380). -/
def execScarabPmemDataLoRead (s : State) : Host.Outcome State Fault Refusal :=
  done <| s.guardedRead (SCARAB_PMEM_DATA_LO) fun s => s.pmemLoRead

/-- SCARAB_PMEM_DATA_HI_READ (R380). -/
def execScarabPmemDataHiRead (s : State) : Host.Outcome State Fault Refusal :=
  done <| s.guardedRead (SCARAB_PMEM_DATA_HI) fun s => s.pmemHiRead

end Sys2Proof.Machine
end

