-- ==== Sys2Proof/Machine/ExecStartCmd.lean ====
section
/-!
DEFINITION. The meanings of the commands, one definition each. Starts and recovery (chapter 18).
-/
namespace Sys2Proof.Machine
open Reg F

/-- COLD_START (R416). -/
def execColdStart (s : State) : Host.Outcome State Fault Refusal :=
  done <| s.startNow false

/-- WARM_START (R419). -/
def execWarmStart (s : State) : Host.Outcome State Fault Refusal :=
  done <| s.startNow true

/-- START_COMPLETE (R416). -/
def execStartComplete (after : Nat) (s : State) : Host.Outcome State Fault Refusal :=
  done <| s.startComplete after

/-- START_FAILURE (R418). -/
def execStartFailure (code : Fin 8) (step : Fin 16) (s : State) : Host.Outcome State Fault Refusal :=
  done <| s.startFailure code step

/-- START_WATCHDOG (R418). -/
def execStartWatchdog (step : Fin 16) (s : State) : Host.Outcome State Fault Refusal :=
  done <| s.startWatchdog step

/-- START_CAL_PERMIT_TIMEOUT (R425). -/
def execStartCalPermitTimeout (s : State) : Host.Outcome State Fault Refusal :=
  done <| s.startCalTimeout

/-- RECOVERY_POLL (R424). -/
def execRecoveryPoll (img : Option (Word × Fin 64)) (s : State) : Host.Outcome State Fault Refusal :=
  done <| s.recoveryPoll (img.map fun x => (x.1, x.2.val))

end Sys2Proof.Machine
end

