-- ==== Sys2Proof/Machine/ExecThermalCmd.lean ====
section
/-!
DEFINITION. The meanings of the commands, one definition each. Temperature and ageing (chapter 20).
-/
namespace Sys2Proof.Machine
open Reg F

/-- THERMAL_UPDATE (R451). -/
def execThermalUpdate (d : Fin 5) (conv : BitVec 16) (s : State) : Host.Outcome State Fault Refusal :=
  done <| s.thermalUpdate d conv

/-- RATE_RECORD (R454). -/
def execRateRecord (d : Fin 5) (s : State) : Host.Outcome State Fault Refusal :=
  done <| s.rateRecord d

/-- XCHECK_EVAL (R456). -/
def execXcheckEval (powers : List (BitVec 16)) (s : State) : Host.Outcome State Fault Refusal :=
  done <| s.xchkEval powers

/-- SHUTDOWN_POWER_DOWN (R458). -/
def execShutdownPowerDown (after : Nat) (s : State) : Host.Outcome State Fault Refusal :=
  done <| s.shutPowerDown after

/-- CRITICAL_TRIP (R459). -/
def execCriticalTrip (d : Fin 5) (after : Nat) (s : State) : Host.Outcome State Fault Refusal :=
  done <| s.criticalTrip d after

/-- CICADA_READ (R461). -/
def execCicadaRead (readings : List (List Word)) (s : State) : Host.Outcome State Fault Refusal :=
  done <| s.cicadaRead readings

/-- STRESS_RATE_RECORD (R462). -/
def execStressRateRecord (factors : List Nat) (s : State) : Host.Outcome State Fault Refusal :=
  done <| s.stressRecord factors

/-- LIFE_PREDICTION (R462). -/
def execLifePrediction (s : State) : Host.Outcome State Fault Refusal :=
  done <| s.lifePrediction

end Sys2Proof.Machine
end

