-- ==== Sys2Proof/Machine/ExecTimeCmd.lean ====
section
/-!
DEFINITION. The meanings of the commands, one definition each. Timebase and network time (chapter 13).
-/
namespace Sys2Proof.Machine
open Reg F

/-- PTP_OFFSET_SAMPLE (R323). -/
def execPtpOffsetSample (theta : Int) (age : Nat) (gm : BitVec 64) (s : State) : Host.Outcome State Fault Refusal :=
  done <| s.ptpSample theta age gm

/-- OFS_IN_HI_WRITE (R321). -/
def execOfsInHiWrite (w : Word) (s : State) : Host.Outcome State Fault Refusal :=
  done <| s.guarded (TIME_OFS_IN_HI) fun s => s.ofsHi w

/-- TIME_NEW_EPOCH (R322). -/
def execTimeNewEpoch (s : State) : Host.Outcome State Fault Refusal :=
  done <| s.guarded (TIME_CMD) fun s => s.newEpoch (putF 0 TIME_CMD_NEW_EPOCH 1)

/-- TIME_CTRL_WRITE (R322). -/
def execTimeCtrlWrite (w : Word) (s : State) : Host.Outcome State Fault Refusal :=
  done <| s.guarded (TIME_CTRL) fun s => s.timeCtrl w

/-- TIME_SOURCE_LOSS (R321). -/
def execTimeSourceLoss (s : State) : Host.Outcome State Fault Refusal :=
  done <| s.sourceLost

/-- PPS_IN_EDGE (R331). -/
def execPpsInEdge (s : State) : Host.Outcome State Fault Refusal :=
  done <| s.ppsIn

/-- TSYNC_IN_EDGE (R332). -/
def execTsyncInEdge (delay : Nat) (s : State) : Host.Outcome State Fault Refusal :=
  done <| s.tsyncIn delay

/-- PPS_OUT_PULSE (R331). -/
def execPpsOutPulse (s : State) : Host.Outcome State Fault Refusal :=
  done <| s.ppsOut

/-- TSYNC_OUT_PULSE (R332). -/
def execTsyncOutPulse (s : State) : Host.Outcome State Fault Refusal :=
  done <| s.tsyncOut

/-- TB_LO_READ (R316). -/
def execTbLoRead (s : State) : Host.Outcome State Fault Refusal :=
  done <| s.guardedRead (TIME_TB_LO) fun s => s.tbLoRead

/-- KEEPER_RATIO_WINDOW (R328). -/
def execKeeperRatioWindow (tc : Nat) (s : State) : Host.Outcome State Fault Refusal :=
  done <| s.keeperRatio tc

/-- KEEPER_EXIT (R329). -/
def execKeeperExit (count : Nat) (stopped : Bool) (s : State) : Host.Outcome State Fault Refusal :=
  done <| s.keeperExit count stopped

/-- PTP_SYNC_SEND (R320). -/
def execPtpSyncSend (p : Fin 8) (header : List Byte) (s : State) : Host.Outcome State Fault Refusal :=
  done <| s.syncSend p header

end Sys2Proof.Machine
end

