-- ==== Sys2Proof/Machine/ExecTransmit.lean ====
section
/-!
DEFINITION. The meanings of the commands, one definition each. The transmit chains (chapter 03).
-/
namespace Sys2Proof.Machine
open Reg F

/-- TX_RF_HI_WRITE (R79). -/
def execTxRfHiWrite (t : Fin 4) (w : Word) (s : State) : Host.Outcome State Fault Refusal :=
  done <| s.guarded (TXCH_RF_HI t) fun s => s.txRfHi t w

/-- TX_CAR_NCO_HI_WRITE (R80). -/
def execTxCarNcoHiWrite (t : Fin 4) (w : Word) (s : State) : Host.Outcome State Fault Refusal :=
  done <| s.guarded (TXCH_CAR_NCO_HI t) fun s => s.txNcoHi t w

/-- TX_CAR_FILT_WRITE (R78). -/
def execTxCarFiltWrite (t : Fin 4) (w : Word) (s : State) : Host.Outcome State Fault Refusal :=
  done <| s.guarded (TXCH_CAR_FILT t) fun s => s.txFilt t w

/-- TX_TRIM_ARM_WRITE (R88). -/
def execTxTrimArmWrite (t : Fin 4) (pmask : BitVec 16) (s : State) : Host.Outcome State Fault Refusal :=
  done <| s.guarded (TXCH_TRIM_ARM t) fun s => s.txTrimArm t pmask.toNat

/-- TX_GAIN_TRIM_WRITE (R89). -/
def execTxGainTrimWrite (t : Fin 4) (i : Fin 16) (w : Word) (s : State) : Host.Outcome State Fault Refusal :=
  done <| s.guarded (TXCH_GAIN t i) fun s => s.txGainWrite t i w

/-- TRIM_APPLY (R88). -/
def execTrimApply (t : Fin 4) (rx : Bool) (s : State) : Host.Outcome State Fault Refusal :=
  done <| if rx then s.rxTrimApply t else s.txTrimApply t

/-- TX_SYMBOL_DEADLINE (R76). -/
def execTxSymbolDeadline (t : Fin 4) (c : Fin 4) (s : State) : Host.Outcome State Fault Refusal :=
  done <| s.symbolDeadline t c

/-- DAC_GATE_IDLE (R85). -/
def execDacGateIdle (t : Fin 4) (i : Fin 16) (s : State) : Host.Outcome State Fault Refusal :=
  done <| s.dacGateIdle t i

end Sys2Proof.Machine
end

