-- ==== Sys2Proof/Machine/Dispatch.lean ====
section
/-!
DEFINITION. From a command to its meaning: one arm for each constructor of Instr.
-/
namespace Sys2Proof.Machine

/-- The effect of a command on everything but the queue. -/
def exec (i : Instr) (s : State) : Host.Outcome State Fault Refusal :=
  match i with
  | .registerWrite a w bytes lat ofs raced => Sys2Proof.Machine.execRegisterWrite a w bytes lat ofs raced s
  | .unoccupiedRead a => Sys2Proof.Machine.execUnoccupiedRead a s
  | .tileAllRead ofs => Sys2Proof.Machine.execTileAllRead ofs s
  | .broadcastWrite ofs w => Sys2Proof.Machine.execBroadcastWrite ofs w s
  | .d2dWordError t hit => Sys2Proof.Machine.execD2dWordError t hit s
  | .hubLinkTimeout t => Sys2Proof.Machine.execHubLinkTimeout t s
  | .porNAssert => Sys2Proof.Machine.execPorNAssert s
  | .porNRelease gpio => Sys2Proof.Machine.execPorNRelease gpio s
  | .warmNPulse => Sys2Proof.Machine.execWarmNPulse s
  | .modeTransitionDone after => Sys2Proof.Machine.execModeTransitionDone after s
  | .quietResumeBoundary => Sys2Proof.Machine.execQuietResumeBoundary s
  | .glideAt p ecc eccs => Sys2Proof.Machine.execGlideAt p ecc eccs s
  | .glideAtRel p ecc eccs => Sys2Proof.Machine.execGlideAtRel p ecc eccs s
  | .atQueueStallRelease p => Sys2Proof.Machine.execAtQueueStallRelease p s
  | .bundleDispatch remote n => Sys2Proof.Machine.execBundleDispatch remote n s
  | .glideAlign p ecc => Sys2Proof.Machine.execGlideAlign p ecc s
  | .glideWaitev p ecc => Sys2Proof.Machine.execGlideWaitev p ecc s
  | .waitevComplete p => Sys2Proof.Machine.execWaitevComplete p s
  | .glideWaitlock p ecc => Sys2Proof.Machine.execGlideWaitlock p ecc s
  | .waitlockComplete p => Sys2Proof.Machine.execWaitlockComplete p s
  | .glideWaitTimeout p => Sys2Proof.Machine.execGlideWaitTimeout p s
  | .radioTxon t => Sys2Proof.Machine.execRadioTxon t s
  | .radioTxoff t => Sys2Proof.Machine.execRadioTxoff t s
  | .radioRxon t => Sys2Proof.Machine.execRadioRxon t s
  | .radioRxoff t => Sys2Proof.Machine.execRadioRxoff t s
  | .radioGain t => Sys2Proof.Machine.execRadioGain t s
  | .radioNco t => Sys2Proof.Machine.execRadioNco t s
  | .radioFilt t => Sys2Proof.Machine.execRadioFilt t s
  | .radioBeamset => Sys2Proof.Machine.execRadioBeamset s
  | .radioPaen t => Sys2Proof.Machine.execRadioPaen t s
  | .radioCapt t => Sys2Proof.Machine.execRadioCapt t s
  | .radioCalb t => Sys2Proof.Machine.execRadioCalb t s
  | .glideSet p ecc => Sys2Proof.Machine.execGlideSet p ecc s
  | .glideGet p ecc => Sys2Proof.Machine.execGlideGet p ecc s
  | .getReturn p after => Sys2Proof.Machine.execGetReturn p after s
  | .glideSig p ecc => Sys2Proof.Machine.execGlideSig p ecc s
  | .glideLoop p ecc => Sys2Proof.Machine.execGlideLoop p ecc s
  | .glideEndl p ecc => Sys2Proof.Machine.execGlideEndl p ecc s
  | .glideJmp p ecc => Sys2Proof.Machine.execGlideJmp p ecc s
  | .glideCall p ecc => Sys2Proof.Machine.execGlideCall p ecc s
  | .glideRet p ecc => Sys2Proof.Machine.execGlideRet p ecc s
  | .glideHalt p ecc => Sys2Proof.Machine.execGlideHalt p ecc s
  | .glideMov p ecc => Sys2Proof.Machine.execGlideMov p ecc s
  | .glideAdd p ecc => Sys2Proof.Machine.execGlideAdd p ecc s
  | .glideSub p ecc => Sys2Proof.Machine.execGlideSub p ecc s
  | .glideAnd p ecc => Sys2Proof.Machine.execGlideAnd p ecc s
  | .glideOr p ecc => Sys2Proof.Machine.execGlideOr p ecc s
  | .glideShl p ecc => Sys2Proof.Machine.execGlideShl p ecc s
  | .glideShr p ecc => Sys2Proof.Machine.execGlideShr p ecc s
  | .glideCmp p ecc => Sys2Proof.Machine.execGlideCmp p ecc s
  | .glideBr p ecc => Sys2Proof.Machine.execGlideBr p ecc s
  | .glideFence p ecc => Sys2Proof.Machine.execGlideFence p ecc s
  | .fenceRelease p => Sys2Proof.Machine.execFenceRelease p s
  | .glideGo p w => Sys2Proof.Machine.execGlideGo p w s
  | .glideImemDataHiWrite p w => Sys2Proof.Machine.execGlideImemDataHiWrite p w s
  | .glideImemDataLoRead p => Sys2Proof.Machine.execGlideImemDataLoRead p s
  | .glideImemDataHiRead p => Sys2Proof.Machine.execGlideImemDataHiRead p s
  | .glideGregLoRead p => Sys2Proof.Machine.execGlideGregLoRead p s
  | .glideBtLoRead p => Sys2Proof.Machine.execGlideBtLoRead p s
  | .tileEnWrite w => Sys2Proof.Machine.execTileEnWrite w s
  | .txRfHiWrite t w => Sys2Proof.Machine.execTxRfHiWrite t w s
  | .txCarNcoHiWrite t w => Sys2Proof.Machine.execTxCarNcoHiWrite t w s
  | .txCarFiltWrite t w => Sys2Proof.Machine.execTxCarFiltWrite t w s
  | .txTrimArmWrite t pmask => Sys2Proof.Machine.execTxTrimArmWrite t pmask s
  | .txGainTrimWrite t k w => Sys2Proof.Machine.execTxGainTrimWrite t k w s
  | .trimApply t rx => Sys2Proof.Machine.execTrimApply t rx s
  | .txSymbolDeadline t c => Sys2Proof.Machine.execTxSymbolDeadline t c s
  | .dacGateIdle t ix => Sys2Proof.Machine.execDacGateIdle t ix s
  | .rxRfHiWrite t w => Sys2Proof.Machine.execRxRfHiWrite t w s
  | .rxCarNcoHiWrite t w => Sys2Proof.Machine.execRxCarNcoHiWrite t w s
  | .rxCarFiltWrite t w => Sys2Proof.Machine.execRxCarFiltWrite t w s
  | .rxZoneWrite t w => Sys2Proof.Machine.execRxZoneWrite t w s
  | .rxTrimArmWrite t pmask => Sys2Proof.Machine.execRxTrimArmWrite t pmask s
  | .gainBoundaryApply t ix => Sys2Proof.Machine.execGainBoundaryApply t ix s
  | .agcDecision t ix => Sys2Proof.Machine.execAgcDecision t ix s
  | .powerBlockResult t ix wide => Sys2Proof.Machine.execPowerBlockResult t ix wide s
  | .pmCfgWrite t wide w => Sys2Proof.Machine.execPmCfgWrite t wide w s
  | .rxSymbolDeliver t ix c sym => Sys2Proof.Machine.execRxSymbolDeliver t ix c sym s
  | .captureGranule t d => Sys2Proof.Machine.execCaptureGranule t d s
  | .slalomItemStart => Sys2Proof.Machine.execSlalomItemStart s
  | .slalomItemComplete => Sys2Proof.Machine.execSlalomItemComplete s
  | .commitHorizon ul c => Sys2Proof.Machine.execCommitHorizon ul c s
  | .dlDispatchDone c after => Sys2Proof.Machine.execDlDispatchDone c after s
  | .ulHandover c layer after => Sys2Proof.Machine.execUlHandover c layer after s
  | .engineSoftError hit => Sys2Proof.Machine.execEngineSoftError hit s
  | .beamDefine id => Sys2Proof.Machine.execBeamDefine id s
  | .beamDefinePinned id => Sys2Proof.Machine.execBeamDefinePinned id s
  | .beamDelete id => Sys2Proof.Machine.execBeamDelete id s
  | .beamRead id => Sys2Proof.Machine.execBeamRead id s
  | .beamCmdDone after => Sys2Proof.Machine.execBeamCmdDone after s
  | .psumWaitExpiry => Sys2Proof.Machine.execPsumWaitExpiry s
  | .dpdSwapArmWrite t pmask => Sys2Proof.Machine.execDpdSwapArmWrite t pmask s
  | .dpdSwapApply t => Sys2Proof.Machine.execDpdSwapApply t s
  | .dpdTblDataWrite t w => Sys2Proof.Machine.execDpdTblDataWrite t w s
  | .dpdTblDataRead t => Sys2Proof.Machine.execDpdTblDataRead t s
  | .trainingBufferReady t r => Sys2Proof.Machine.execTrainingBufferReady t r s
  | .dpdAccumulationDone => Sys2Proof.Machine.execDpdAccumulationDone s
  | .dpdSolveDone => Sys2Proof.Machine.execDpdSolveDone s
  | .dpdTableWriteDone => Sys2Proof.Machine.execDpdTableWriteDone s
  | .coefIdentity path => Sys2Proof.Machine.execCoefIdentity path s
  | .coefTablesFromCoef path => Sys2Proof.Machine.execCoefTablesFromCoef path s
  | .coefCmdDone => Sys2Proof.Machine.execCoefCmdDone s
  | .coefDataAccess write => Sys2Proof.Machine.execCoefDataAccess write s
  | .dflyCtrlWrite t w => Sys2Proof.Machine.execDflyCtrlWrite t w s
  | .imageCalEnd t r rej taps => Sys2Proof.Machine.execImageCalEnd t r rej taps s
  | .calCmdArrayTx t pmask => Sys2Proof.Machine.execCalCmdArrayTx t pmask s
  | .calCmdArrayRx t pmask => Sys2Proof.Machine.execCalCmdArrayRx t pmask s
  | .calCmdReciprocity t pmask => Sys2Proof.Machine.execCalCmdReciprocity t pmask s
  | .calCmdImage t pmask => Sys2Proof.Machine.execCalCmdImage t pmask s
  | .calBurstStart t => Sys2Proof.Machine.execCalBurstStart t s
  | .calBurstResults t after tx rx => Sys2Proof.Machine.execCalBurstResults t after tx rx s
  | .adcCalUpdate t ix corrections converged => Sys2Proof.Machine.execAdcCalUpdate t ix corrections converged s
  | .dacCellCalDone t ix => Sys2Proof.Machine.execDacCellCalDone t ix s
  | .seqPowerUp t qmask => Sys2Proof.Machine.execSeqPowerUp t qmask s
  | .seqShutdown t qmask => Sys2Proof.Machine.execSeqShutdown t qmask s
  | .seqClearFault t qmask => Sys2Proof.Machine.execSeqClearFault t qmask s
  | .gateokChange t q level ago brief => Sys2Proof.Machine.execGateokChange t q level ago brief s
  | .seqGateSettleEnd t q => Sys2Proof.Machine.execSeqGateSettleEnd t q s
  | .seqDrainSettleEnd t q => Sys2Proof.Machine.execSeqDrainSettleEnd t q s
  | .seqPaoffEnd t q => Sys2Proof.Machine.execSeqPaoffEnd t q s
  | .seqDrainoffEnd t q => Sys2Proof.Machine.execSeqDrainoffEnd t q s
  | .seqGokTimeout t q => Sys2Proof.Machine.execSeqGokTimeout t q s
  | .seqFaultEntry t q => Sys2Proof.Machine.execSeqFaultEntry t q s
  | .biasCfgWrite t ix w => Sys2Proof.Machine.execBiasCfgWrite t ix w s
  | .biasRangeChangeEnd t ix => Sys2Proof.Machine.execBiasRangeChangeEnd t ix s
  | .biasCodeWrite t ix w => Sys2Proof.Machine.execBiasCodeWrite t ix w s
  | .biasUpdateTick t ix => Sys2Proof.Machine.execBiasUpdateTick t ix s
  | .biasReadback t ix reading => Sys2Proof.Machine.execBiasReadback t ix reading s
  | .rffeRegister0Write t q usid addr data => Sys2Proof.Machine.execRffeRegister0Write t q usid addr data s
  | .rffeRegisterWrite t q usid addr data => Sys2Proof.Machine.execRffeRegisterWrite t q usid addr data s
  | .rffeRegisterRead t q usid addr data => Sys2Proof.Machine.execRffeRegisterRead t q usid addr data s
  | .rffeExtRegisterWrite t q usid addr data => Sys2Proof.Machine.execRffeExtRegisterWrite t q usid addr data s
  | .rffeExtRegisterRead t q usid addr data => Sys2Proof.Machine.execRffeExtRegisterRead t q usid addr data s
  | .rffeExtLongWrite t q usid addr data => Sys2Proof.Machine.execRffeExtLongWrite t q usid addr data s
  | .rffeExtLongRead t q usid addr data => Sys2Proof.Machine.execRffeExtLongRead t q usid addr data s
  | .rffeFrameDone t q data bad => Sys2Proof.Machine.execRffeFrameDone t q data bad s
  | .rffeTimedFrameStart t q => Sys2Proof.Machine.execRffeTimedFrameStart t q s
  | .rffeRdRead t q => Sys2Proof.Machine.execRffeRdRead t q s
  | .laneReqWrite l w => Sys2Proof.Machine.execLaneReqWrite l w s
  | .laneFullAdapt l w => Sys2Proof.Machine.execLaneFullAdapt l w s
  | .laneEpoch l fom signal cdr errors => Sys2Proof.Machine.execLaneEpoch l fom signal cdr errors s
  | .laneResumeTimeout l => Sys2Proof.Machine.execLaneResumeTimeout l s
  | .laneAdaptDone l => Sys2Proof.Machine.execLaneAdaptDone l s
  | .laneqPllLockChange n locked => Sys2Proof.Machine.execLaneqPllLockChange n locked s
  | .eyeScanGo w => Sys2Proof.Machine.execEyeScanGo w s
  | .eyeScanDone errors => Sys2Proof.Machine.execEyeScanDone errors s
  | .macLinkChange p aligned localFault remoteFault skew => Sys2Proof.Machine.execMacLinkChange p aligned localFault remoteFault skew s
  | .ethFrameReceive p bytes fcsError ago => Sys2Proof.Machine.execEthFrameReceive p bytes fcsError ago s
  | .fhDataMessage => Sys2Proof.Machine.execFhDataMessage s
  | .fhControlMessage => Sys2Proof.Machine.execFhControlMessage s
  | .sectionCmd => Sys2Proof.Machine.execSectionCmd s
  | .cancelCmd => Sys2Proof.Machine.execCancelCmd s
  | .beamDefCmd => Sys2Proof.Machine.execBeamDefCmd s
  | .beamDelCmd => Sys2Proof.Machine.execBeamDelCmd s
  | .resendCmd => Sys2Proof.Machine.execResendCmd s
  | .resendServe => Sys2Proof.Machine.execResendServe s
  | .dlStatusSend c => Sys2Proof.Machine.execDlStatusSend c s
  | .ecpriDelayRequest => Sys2Proof.Machine.execEcpriDelayRequest s
  | .ecpriDelayRemoteRequest => Sys2Proof.Machine.execEcpriDelayRemoteRequest s
  | .ecpriDelayResponse => Sys2Proof.Machine.execEcpriDelayResponse s
  | .ecpriDelayFollowUp => Sys2Proof.Machine.execEcpriDelayFollowUp s
  | .burogFlitReceive k lane header payload crc => Sys2Proof.Machine.execBurogFlitReceive k lane header payload crc s
  | .burogNakRepeat k => Sys2Proof.Machine.execBurogNakRepeat k s
  | .burogNak k n => Sys2Proof.Machine.execBurogNak k n s
  | .burogRetryTimeout k => Sys2Proof.Machine.execBurogRetryTimeout k s
  | .burogTrainComplete k skew => Sys2Proof.Machine.execBurogTrainComplete k skew s
  | .psumMessage => Sys2Proof.Machine.execPsumMessage s
  | .groupMessage => Sys2Proof.Machine.execGroupMessage s
  | .timeMessage ago => Sys2Proof.Machine.execTimeMessage ago s
  | .timeMessageSend => Sys2Proof.Machine.execTimeMessageSend s
  | .mplaneRelayMessage k msg => Sys2Proof.Machine.execMplaneRelayMessage k msg s
  | .burogRetrain => Sys2Proof.Machine.execBurogRetrain s
  | .burogClearIds => Sys2Proof.Machine.execBurogClearIds s
  | .cuStart u => Sys2Proof.Machine.execCuStart u s
  | .cuFoldPrefix u => Sys2Proof.Machine.execCuFoldPrefix u s
  | .cuDataWWrite u w => Sys2Proof.Machine.execCuDataWWrite u w s
  | .cuDataBWrite u w => Sys2Proof.Machine.execCuDataBWrite u w s
  | .cuRunHiWrite u w => Sys2Proof.Machine.execCuRunHiWrite u w s
  | .cuRunLoRead u => Sys2Proof.Machine.execCuRunLoRead u s
  | .cuResultLoRead u => Sys2Proof.Machine.execCuResultLoRead u s
  | .ptpOffsetSample theta age gm => Sys2Proof.Machine.execPtpOffsetSample theta age gm s
  | .ofsInHiWrite w => Sys2Proof.Machine.execOfsInHiWrite w s
  | .timeNewEpoch => Sys2Proof.Machine.execTimeNewEpoch s
  | .timeCtrlWrite w => Sys2Proof.Machine.execTimeCtrlWrite w s
  | .timeSourceLoss => Sys2Proof.Machine.execTimeSourceLoss s
  | .ppsInEdge => Sys2Proof.Machine.execPpsInEdge s
  | .tsyncInEdge delay => Sys2Proof.Machine.execTsyncInEdge delay s
  | .ppsOutPulse => Sys2Proof.Machine.execPpsOutPulse s
  | .tsyncOutPulse => Sys2Proof.Machine.execTsyncOutPulse s
  | .tbLoRead => Sys2Proof.Machine.execTbLoRead s
  | .keeperRatioWindow tc => Sys2Proof.Machine.execKeeperRatioWindow tc s
  | .keeperExit count stopped => Sys2Proof.Machine.execKeeperExit count stopped s
  | .refLoss b ofs => Sys2Proof.Machine.execRefLoss b ofs s
  | .refPresent b ofs => Sys2Proof.Machine.execRefPresent b ofs s
  | .refSelectWrite w ofs => Sys2Proof.Machine.execRefSelectWrite w ofs s
  | .lockWindow k err ofs => Sys2Proof.Machine.execLockWindow k err ofs s
  | .pllLockFailTimeout k => Sys2Proof.Machine.execPllLockFailTimeout k s
  | .bandCalDone k => Sys2Proof.Machine.execBandCalDone k s
  | .coastLimit k => Sys2Proof.Machine.execCoastLimit k s
  | .pllArmWrite target w => Sys2Proof.Machine.execPllArmWrite target w s
  | .dividerApply target => Sys2Proof.Machine.execDividerApply target s
  | .spllRecal t => Sys2Proof.Machine.execSpllRecal t s
  | .taLoRead t => Sys2Proof.Machine.execTaLoRead t s
  | .alignReference => Sys2Proof.Machine.execAlignReference s
  | .alignComplete t => Sys2Proof.Machine.execAlignComplete t s
  | .winDataRead => Sys2Proof.Machine.execWinDataRead s
  | .winDataWrite w => Sys2Proof.Machine.execWinDataWrite w s
  | .dramVerify mask => Sys2Proof.Machine.execDramVerify mask s
  | .dramSweep mask => Sys2Proof.Machine.execDramSweep mask s
  | .dramTrainingEnd c ok width rdly wdly => Sys2Proof.Machine.execDramTrainingEnd c ok width rdly wdly s
  | .dramPortRequest p write a bytes => Sys2Proof.Machine.execDramPortRequest p write a bytes s
  | .refreshInterval c => Sys2Proof.Machine.execRefreshInterval c s
  | .pageIdleClose c bank => Sys2Proof.Machine.execPageIdleClose c bank s
  | .storeEccError store found word => Sys2Proof.Machine.execStoreEccError store found word s
  | .scarabStop n ecc => Sys2Proof.Machine.execScarabStop n ecc s
  | .scarabMove n ecc => Sys2Proof.Machine.execScarabMove n ecc s
  | .scarabMovex n ecc => Sys2Proof.Machine.execScarabMovex n ecc s
  | .scarabSwap n ecc => Sys2Proof.Machine.execScarabSwap n ecc s
  | .scarabLoop n ecc => Sys2Proof.Machine.execScarabLoop n ecc s
  | .scarabEndl n ecc => Sys2Proof.Machine.execScarabEndl n ecc s
  | .scarabWait n ecc => Sys2Proof.Machine.execScarabWait n ecc s
  | .scarabWaitDone n => Sys2Proof.Machine.execScarabWaitDone n s
  | .scarabWaitTimeout n => Sys2Proof.Machine.execScarabWaitTimeout n s
  | .scarabSignal n ecc => Sys2Proof.Machine.execScarabSignal n ecc s
  | .scarabJump n ecc => Sys2Proof.Machine.execScarabJump n ecc s
  | .scarabBurstStart n eccBad => Sys2Proof.Machine.execScarabBurstStart n eccBad s
  | .scarabReqWithdraw n kept => Sys2Proof.Machine.execScarabReqWithdraw n kept s
  | .scarabTransferDone n eccBad => Sys2Proof.Machine.execScarabTransferDone n eccBad s
  | .scarabEnable n w => Sys2Proof.Machine.execScarabEnable n w s
  | .scarabDisable n w => Sys2Proof.Machine.execScarabDisable n w s
  | .scarabDoorbell w => Sys2Proof.Machine.execScarabDoorbell w s
  | .scarabConsIdxWrite n w => Sys2Proof.Machine.execScarabConsIdxWrite n w s
  | .scarabPmemDataHiWrite w => Sys2Proof.Machine.execScarabPmemDataHiWrite w s
  | .scarabPmemDataLoRead => Sys2Proof.Machine.execScarabPmemDataLoRead s
  | .scarabPmemDataHiRead => Sys2Proof.Machine.execScarabPmemDataHiRead s
  | .domainRequest d w lat => Sys2Proof.Machine.execDomainRequest d w lat s
  | .domainWindowEnd d => Sys2Proof.Machine.execDomainWindowEnd d s
  | .domainTransitionEnd d after => Sys2Proof.Machine.execDomainTransitionEnd d after s
  | .wakePinEvent n level => Sys2Proof.Machine.execWakePinEvent n level s
  | .wakeTimerExpiry => Sys2Proof.Machine.execWakeTimerExpiry s
  | .timerCfgWrite w => Sys2Proof.Machine.execTimerCfgWrite w s
  | .supplyDipBegin rails => Sys2Proof.Machine.execSupplyDipBegin rails s
  | .supplyDipEnd below => Sys2Proof.Machine.execSupplyDipEnd below s
  | .warnFreezeEnd => Sys2Proof.Machine.execWarnFreezeEnd s
  | .railResetTimeout => Sys2Proof.Machine.execRailResetTimeout s
  | .railsValid => Sys2Proof.Machine.execRailsValid s
  | .aonBrownoutDetect => Sys2Proof.Machine.execAonBrownoutDetect s
  | .aonPowerUp => Sys2Proof.Machine.execAonPowerUp s
  | .coldStart => Sys2Proof.Machine.execColdStart s
  | .warmStart => Sys2Proof.Machine.execWarmStart s
  | .startComplete after => Sys2Proof.Machine.execStartComplete after s
  | .startFailure code step => Sys2Proof.Machine.execStartFailure code step s
  | .startWatchdog step => Sys2Proof.Machine.execStartWatchdog step s
  | .startCalPermitTimeout => Sys2Proof.Machine.execStartCalPermitTimeout s
  | .recoveryPoll img => Sys2Proof.Machine.execRecoveryPoll img s
  | .getId => Sys2Proof.Machine.execGetId s
  | .setMode => Sys2Proof.Machine.execSetMode s
  | .restart => Sys2Proof.Machine.execRestart s
  | .recWrite ok => Sys2Proof.Machine.execRecWrite ok s
  | .recRead => Sys2Proof.Machine.execRecRead s
  | .imgBegin ok => Sys2Proof.Machine.execImgBegin ok s
  | .imgChunk ok => Sys2Proof.Machine.execImgChunk ok s
  | .imgEnd img => Sys2Proof.Machine.execImgEnd img s
  | .imgAbort => Sys2Proof.Machine.execImgAbort s
  | .arbCommit => Sys2Proof.Machine.execArbCommit s
  | .logInfo => Sys2Proof.Machine.execLogInfo s
  | .logRead => Sys2Proof.Machine.execLogRead s
  | .sensorRead => Sys2Proof.Machine.execSensorRead s
  | .ptpGet => Sys2Proof.Machine.execPtpGet s
  | .ptpSet => Sys2Proof.Machine.execPtpSet s
  | .dlyResult => Sys2Proof.Machine.execDlyResult s
  | .qspiStream => Sys2Proof.Machine.execQspiStream s
  | .bufDataAccess write => Sys2Proof.Machine.execBufDataAccess write s
  | .mplaneFrame => Sys2Proof.Machine.execMplaneFrame s
  | .lockstepMismatch step => Sys2Proof.Machine.execLockstepMismatch step s
  | .logRecordWrite => Sys2Proof.Machine.execLogRecordWrite s
  | .hkadcResult die ch conv => Sys2Proof.Machine.execHkadcResult die ch conv s
  | .hkadcChcfgWrite die ch w => Sys2Proof.Machine.execHkadcChcfgWrite die ch w s
  | .thermalUpdate d conv => Sys2Proof.Machine.execThermalUpdate d conv s
  | .rateRecord d => Sys2Proof.Machine.execRateRecord d s
  | .xcheckEval powers => Sys2Proof.Machine.execXcheckEval powers s
  | .shutdownPowerDown after => Sys2Proof.Machine.execShutdownPowerDown after s
  | .criticalTrip d after => Sys2Proof.Machine.execCriticalTrip d after s
  | .cicadaRead readings => Sys2Proof.Machine.execCicadaRead readings s
  | .stressRateRecord factors => Sys2Proof.Machine.execStressRateRecord factors s
  | .lifePrediction => Sys2Proof.Machine.execLifePrediction s
  | .hiveSrcCfgWrite src w => Sys2Proof.Machine.execHiveSrcCfgWrite src w s
  | .hiveStatusWrite k w raced => Sys2Proof.Machine.execHiveStatusWrite k w raced s
  | .counterFlagClear a w raced => Sys2Proof.Machine.execCounterFlagClear a w raced s
  | .uartRxByte b stop => Sys2Proof.Machine.execUartRxByte b stop s
  | .tapBypass => Sys2Proof.Machine.execTapBypass s
  | .tapSamplePreload cells => Sys2Proof.Machine.execTapSamplePreload cells s
  | .tapExtest => Sys2Proof.Machine.execTapExtest s
  | .tapIdcode => Sys2Proof.Machine.execTapIdcode s
  | .msiCapabilityWrite on log2 => Sys2Proof.Machine.execMsiCapabilityWrite on log2 s
  | .burogFlitSend k => Sys2Proof.Machine.execBurogFlitSend k s
  | .ethFrameTransmit p => Sys2Proof.Machine.execEthFrameTransmit p s
  | .dramCommandSlot c use => Sys2Proof.Machine.execDramCommandSlot c use s
  | .dramInitDone c => Sys2Proof.Machine.execDramInitDone c s
  | .ptpSyncSend p header => Sys2Proof.Machine.execPtpSyncSend p header s
  | .pciePerstNRelease => Sys2Proof.Machine.execPciePerstNRelease s
  | .tapTestLogicReset => Sys2Proof.Machine.execTapTestLogicReset s

end Sys2Proof.Machine
end

