-- ==== Sys2Proof/Safety.lean ====
section
/-!
DEFINITION. What the statements call safe: the invariants of a state, the answers of a run, and what a command leaves as it was.
-/
namespace Sys2Proof.Machine

/-- MSI_PEND as last judged shows exactly the vectors to which some source delivers (R469). -/
def State.MsiSettled (s : State) : Prop := s.msiPend = s.pendingVectors

/-- A command answers a next state of which Q holds: it neither faults nor is refused. -/
def Answers (i : Instr) (s : State) (Q : State → Prop) : Prop := ∃ t, exec i s = .next t ∧ Q t

/-- The registers an event can change: Hive's status words, and the count of log records lost with its flag (R440, R467, R471). -/
def eventReg (a : Nat) : Bool :=
  (0xB0000 ≤ a && a < 0xB0020) || a == Reg.RILYN_LOG_DROP || a == Reg.RILYN_CNT_FLAGS

/-- A processor without its event flags (R64). -/
def Glide.quiet (g : Glide) : Glide := { g with flags := [] }

/-- What neither a register write, nor an event, nor the judging of MSI vectors can change. -/
def State.core (s : State) : State := { s with regs := [], glides := [], logQ := [], loggedAts := [], out := [], msiPend := 0 }

/-- An occurrence of a source that may assert shows in its status bit (R466 to R468). -/
def Told (s t : State) (src : Nat) : Prop := s.mayAssert src = true → t.status src = true

/-- Frame: `t` is `s` but for the registers listed, and for what events do: event flags, the log, what is sent, and their own registers. -/
def Frame (l : List Nat) (s t : State) : Prop :=
  t.core = s.core ∧ (∀ p, (t.glide p).quiet = (s.glide p).quiet) ∧ ∀ a, a ∉ l → eventReg a = false → t.reg a = s.reg a

/-- Every addressed memory reads as before: capture SRAM, DRAM, weight store, predistortion tables and coefficients, Scarab's program memory, the bulk
buffer, flash, the instruction memories. -/
def SameMemory (s t : State) : Prop :=
  t.capSram = s.capSram ∧ t.dram = s.dram ∧ t.weights = s.weights ∧ t.dpdTbl = s.dpdTbl ∧ t.coefs = s.coefs ∧ t.pmem = s.pmem ∧
    t.bufWords = s.bufWords ∧ t.flash = s.flash ∧ ∀ p, (t.glide p).imem = (s.glide p).imem

/-- No register but those listed and those of events changes, and no memory. -/
def Keeps (l : List Nat) (s t : State) : Prop := (∀ a, a ∉ l → eventReg a = false → t.reg a = s.reg a) ∧ SameMemory s t

/-- Processor p runs, and the next instruction it issues is the word `w` of opcode `op`, which breaks no rule of Table 2-4 (R41, R45, R47); another
follows it in the instruction memory. -/
def State.Ready (s : State) (p op : Nat) (w : BitVec 64) : Prop :=
  (s.glide p).st = .running ∧ s.mode.runsGlide = true ∧ s.domOn (glideDomain p) = true ∧ s.imemWord p (s.glide p).pc = w ∧ gOp w = op ∧
    gWellFormed (p == 0) w = true ∧ (s.glide p).pc < 8191

/-- The state at the next issue cycle of a processor, a corrected error of the word it fetches counted (R41, R43). -/
def State.atIssue (s : State) (p : Nat) (ecc : Ecc) : State :=
  let u := s.advance (s.glide p).nextIssue
  if ecc = .corrected then u.bump (Reg.GLIDE_IMEM_CORRECTED p) (Reg.GLIDE_CNT_FLAGS p) GLIDE_IMEM_FLAG 1 else u

/-- A processor that has gone on to `pc` and issues again `cost` Tc after its last issue, or after `now` if that is later. -/
def Glide.went (g : Glide) (now pc cost : Nat) : Glide :=
  { g with st := .running, pc := pc, nextIssue := max g.nextIssue now + cost, waitEnd := none }

/-- A Glide command by its opcode (Table 2-3). -/
def glideCommands (p : Fin 5) (ecc : Ecc) : List (Nat × Instr) :=
  [(0x01, .glideAt p ecc []), (0x02, .glideAtRel p ecc []), (0x03, .glideAlign p ecc), (0x08, .glideWaitev p ecc), (0x09, .glideWaitlock p ecc),
   (0x20, .glideSet p ecc), (0x21, .glideGet p ecc), (0x22, .glideSig p ecc), (0x28, .glideLoop p ecc), (0x29, .glideEndl p ecc),
   (0x2A, .glideJmp p ecc), (0x2B, .glideCall p ecc), (0x2C, .glideRet p ecc), (0x2D, .glideHalt p ecc), (0x30, .glideMov p ecc),
   (0x31, .glideAdd p ecc), (0x32, .glideSub p ecc), (0x33, .glideAnd p ecc), (0x34, .glideOr p ecc), (0x35, .glideShl p ecc),
   (0x36, .glideShr p ecc), (0x37, .glideCmp p ecc), (0x38, .glideBr p ecc), (0x3F, .glideFence p ecc)]

/-- `e` is the next effect of a die (4: the hub), and none of another die lies before it (R54, R56). -/
def State.NextEffect (s : State) (die : Nat) (e : Effect) : Prop :=
  (s.effects.find? fun (x : Effect) => x.die == die) = some e ∧ ∀ x ∈ s.effects, e.at_ ≤ x.at_

/-- The state at the instant of an effect, which no longer waits. -/
def State.atInstant (s : State) (e : Effect) : State := { s with effects := s.effects.erase e }.advance e.at_

/-- A path or a carrier named by a mask of tile t and its key in the arrays of carriers and paths. -/
def inMasks (t : Nat) (cm : BitVec 4) (pm : BitVec 16) (key : Nat) : Bool :=
  key / 64 == t && pm.getLsbD (key / 4 % 16) && cm.getLsbD (key % 4)

/-- Channel n runs, in a mode in which channels do, and the next instruction it fetches is the word `w` of opcode `op`, which breaks no rule (R381 to R384). -/
def State.ScReady (s : State) (n op : Nat) (w : BitVec 64) : Prop :=
  s.scOn = true ∧ s.scState n = ScSt.run ∧ (s.scChan n).xfer = none ∧ s.pmemWord (s.scPc n) = w ∧ opOf w = op ∧ s.fetchError (s.scPc n) = none

/-- A channel has gone on to an index and runs (R383). -/
def State.ScAt (t : State) (n pc : Nat) : Prop := t.scState n = ScSt.run ∧ t.scPc n = pc

/-- The RFFE command rows and the command each queues (Table 8-6). -/
def rffeCommands (t q : Fin 4) (usid : BitVec 4) (addr : BitVec 16) (data : Byte) : List (Instr × RffeCmd) :=
  [(.rffeRegister0Write t q usid addr data, ⟨1, usid, addr, data⟩), (.rffeRegisterWrite t q usid addr data, ⟨2, usid, addr, data⟩),
   (.rffeRegisterRead t q usid addr data, ⟨3, usid, addr, data⟩), (.rffeExtRegisterWrite t q usid addr data, ⟨4, usid, addr, data⟩),
   (.rffeExtRegisterRead t q usid addr data, ⟨5, usid, addr, data⟩), (.rffeExtLongWrite t q usid addr data, ⟨6, usid, addr, data⟩),
   (.rffeExtLongRead t q usid addr data, ⟨7, usid, addr, data⟩)]

/-- Rilyn is free and takes the command `c` with this OP next; `u` is the state as it takes it, its trailer in the buffer (R435, R437). -/
def State.Takes (s : State) (op : Nat) (c : RilynCmd) (u : State) : Prop :=
  s.rilynRun = none ∧ c.op = op ∧ ∃ v, s.rilynNext = some (c, v) ∧ u = v.bufLoad c.trailer

/-- `i` is the command of Rilyn with this OP (Table 19-4). -/
def RilynOp (ok : Bool) (img : Option (Word × Fin 64)) (op : Nat) (i : Instr) : Prop :=
  (op, i) ∈ [(0x01, Instr.getId), (0x02, .setMode), (0x03, .restart), (0x10, .recWrite ok), (0x11, .recRead), (0x20, .imgBegin ok),
    (0x21, .imgChunk ok), (0x22, .imgEnd img), (0x23, .imgAbort), (0x24, .arbCommit), (0x30, .logInfo), (0x31, .logRead), (0x40, .sensorRead),
    (0x50, .ptpGet), (0x51, .ptpSet), (0x52, .dlyResult), (0x60, .qspiStream)]

/-- The answer to a command; those at the head that no row of Table 19-4 names are answered with it (R434). -/
def State.answered (u : State) (c : RilynCmd) (status : Nat) (data : List Word) (bulk : Nat) : State :=
  (u.respond c status data bulk).dropUnknown 8

end Sys2Proof.Machine
end

