-- ==== Sys2Proof/Certificates/Slice0/Obligations.lean ====
section
/-!
DEFINITION. The statements for the provers, from the numbered rules of the spec, in the order of its chapters; the model's own step, invariants and stores
last.
-/
open Sys2Proof Sys2Proof.Machine Sys2Proof.Machine.Reg Sys2Proof.Machine.F

/-- R8 to R11, R27, R29: an access that no register answers is discarded; it raises REG_ACCESS_ERROR, a read returns 0, and no register and no memory
changes, nor anything else where no struck write is due on the link; so is a partial write, any read through TILE_ALL, and a write through it to a
block no tile has. A whole write of a parameter register of a processor stores its data there alone, and through TILE_ALL on all four tiles, where
no write is struck (R16). The model's choices in it: log entries 79, 80, 104. -/
def Obligations.RegisterAccess : Prop := ∀ s : State,
  (∀ a w bytes lat ofs raced, bytes ≠ 0xF ∨ (s.struck = 0 ∧ dieOf a.toNat ≠ 15 ∧ s.answers a.toNat = false) →
    Answers (.registerWrite a w bytes lat ofs raced) s fun t => Frame [] s t ∧ t.stored Ev.REG_ACCESS_ERROR = true) ∧
  (∀ (a : BitVec 28) w bytes lat ofs raced, dieOf a.toNat ≠ 15 → s.answers a.toNat = false →
    Answers (.registerWrite a w bytes lat ofs raced) s fun t => Keeps [] s t ∧ t.stored Ev.REG_ACCESS_ERROR = true) ∧
  (∀ a : BitVec 28, dieOf a.toNat ≠ 15 → s.answers a.toNat = false →
    Answers (.unoccupiedRead a) s fun t => Frame [] { s with reply := 0 } t ∧ t.reply = 0 ∧ t.stored Ev.REG_ACCESS_ERROR = true) ∧
  (∀ ofs, Answers (.tileAllRead ofs) s fun t => Frame [] { s with reply := 0 } t ∧ t.reply = 0 ∧ t.stored Ev.REG_ACCESS_ERROR = true) ∧
  (∀ (ofs : BitVec 24) w, tileRegs (blockOf ofs.toNat) = [] →
    Answers (.broadcastWrite ofs w) s fun t => Frame [] s t ∧ t.stored Ev.REG_ACCESS_ERROR = true) ∧
  (s.struck = 0 → ∀ (k : Fin 8) (w : Word), (∀ p : Fin 5, s.answers (GLIDE_PARAM p k) = true → ∀ lat ofs raced,
      Answers (.registerWrite (BitVec.ofNat 28 (GLIDE_PARAM p k)) w 0xF lat ofs raced) s fun t =>
        t.reg (GLIDE_PARAM p k) = w ∧ Frame [GLIDE_PARAM p k] s t) ∧
    ((∀ p : Fin 4, s.answers (GLIDE_PARAM (1 + p) k) = true) →
      Answers (.broadcastWrite (BitVec.ofNat 24 (GLIDE_PARAM 0 k)) w) s fun t =>
        (∀ p : Fin 4, t.reg (GLIDE_PARAM (1 + p) k) = w) ∧ Frame [GLIDE_PARAM 1 k, GLIDE_PARAM 2 k, GLIDE_PARAM 3 k, GLIDE_PARAM 4 k] s t))

/-- R16, R18, R479, R32, R35, R36, R419, R460. A corrected word of a die-to-die link is counted; an uncorrectable read, GET of GLIDE_H or write
answers 0 or does nothing, with D2D_UNCORRECTABLE and REG_ACCESS_ERROR; a sample word is lost and its symbol marked on its path; a bundle still
crossing is lost, with D2D_UNCORRECTABLE; a struck write that Glide or a broadcast is yet to make is discarded with REG_ACCESS_ERROR when it is
made. A silent link of a tile that is ON and not muted sets MUTE_LINK, shuts its quads down and raises D2D_LINK_DOWN; of another it does nothing.
PERST_N released brings PCIe up. POR_N low leads to Boot, or leaves Standby, with no start due. Its release, with valid rails, leads to Boot with
a cold start due, else it takes the straps; WARM_N, with POR_N high, valid rails and no thermal shutdown in progress (R458) or holding Standby, to
Boot with a warm start due. A transition that need not wait for a quad ends in its mode; the mute of Quiet ends at its boundary. Where there is
nothing to release, restart, end or resume, nothing happens. The model's choices in it: log entries 2, 47, 58, 60, 104, 112, 114. -/
def Obligations.PartEvents : Prop :=
  (∀ (s : State) (t : Fin 4),
    Answers (.d2dWordError t .corrected) s (fun u =>
      u.fld (HIVE_D2D_CORRECTED t) HIVE_D2D_CORRECTED_COUNT = min (s.fld (HIVE_D2D_CORRECTED t) HIVE_D2D_CORRECTED_COUNT + 1) (2 ^ 32 - 1) ∧
      Frame [HIVE_D2D_CORRECTED t, HIVE_CNT_FLAGS] s u) ∧
    Answers (.d2dWordError t .read) s (fun u =>
      u.reply = 0 ∧ u.stored Ev.D2D_UNCORRECTABLE = true ∧ u.stored Ev.REG_ACCESS_ERROR = true ∧ Frame [] { s with reply := 0 } u) ∧
    Answers (.d2dWordError t .write) s (fun u =>
      u.stored Ev.D2D_UNCORRECTABLE = true ∧ u.stored Ev.REG_ACCESS_ERROR = true ∧ Frame [] s u) ∧
    (∀ sym (car : Fin 4) (path : Fin 16) (sc : Fin 4096), Answers (.d2dWordError t (.txSample sym car path sc)) s fun u =>
      u.stored Ev.D2D_UNCORRECTABLE = true ∧ u.txWord (dlKey sym car (16 * t + path) sc) = none ∧
      (u.txSym (symKey sym car t)).invalid.getLsbD path = true ∧ Keeps [] s u) ∧
    (∀ sym (car : Fin 4) (path : Fin 16), Answers (.d2dWordError t (.rxSample sym car path)) s fun u =>
      u.stored Ev.D2D_UNCORRECTABLE = true ∧ u.pathMark (ulSymKey sym car (16 * t + path)) = some true ∧ Keeps [] s u) ∧
    (∀ b, (s.fifo t).getLast? = some b → s.now ≤ b.avail → Answers (.d2dWordError t .bundle) s fun u =>
      u.stored Ev.D2D_UNCORRECTABLE = true ∧ u.fifo t = (s.fifo t).dropLast ∧ Keeps [] s u) ∧
    ((∀ b, (s.fifo t).getLast? = some b → b.avail < s.now) → exec (.d2dWordError t .bundle) s = .next s.settle) ∧
    ((s.glide 0).st = .waitGet → dieOf (s.glide 0).getAddr = 1 + (t : Nat) →
      exec (.d2dWordError t .get) s =
        .next (({ (s.raise Ev.D2D_UNCORRECTABLE).accessError with reply := 0 } : State).gGot 0 0).settle) ∧
    ((s.glide 0).st ≠ .waitGet ∨ dieOf (s.glide 0).getAddr ≠ 1 + (t : Nat) → exec (.d2dWordError t .get) s = .next s.settle) ∧
    (s.tileOn t = true → s.bit (TXCH_STATUS t) TXCH_STATUS_MUTE_LINK = false →
      exec (.hubLinkTimeout t) s =
        .next (((s.setBit (TXCH_STATUS t) TXCH_STATUS_MUTE_LINK true).shutdown t 0xF).raise (Ev.D2D_LINK_DOWN t)).settle) ∧
    (s.tileOn t = false ∨ s.bit (TXCH_STATUS t) TXCH_STATUS_MUTE_LINK = true → exec (.hubLinkTimeout t) s = .next s.settle) ∧
    (∀ (a : BitVec 28) w lat ofs raced, a.toNat % 4 = 0 → dieOf a.toNat = 1 + (t : Nat) → s.struck.getLsbD t = true →
      Answers (.registerWrite a w 0xF lat ofs raced) s fun u => u.struck.getLsbD t = false ∧ u.stored Ev.REG_ACCESS_ERROR = true ∧
        ∀ x, eventReg x = false → u.reg x = s.reg x) ∧
    (exec (.d2dWordError t .nextWrite) s =
      .next ({ s.raise Ev.D2D_UNCORRECTABLE with struck := s.struck ||| BitVec.ofNat 4 (2 ^ (t : Nat)) } : State).settle) ∧
    exec .pciePerstNRelease s = .next ({ s with pcieUp := true } : State).settle) ∧
  (∀ s : State,
    Answers .porNAssert s (fun u => u.porHigh = false ∧ u.startDue = none ∧ u.fellBack = false ∧
      u.mode = if s.mode = .standby then .standby else .boot) ∧
    (s.porHigh = false → s.railsIn = true → ∀ gpio, Answers (.porNRelease gpio) s fun u => u.mode = .boot ∧ u.startDue = some false) ∧
    (s.porHigh = false → s.railsIn = false → ∀ gpio,
      exec (.porNRelease gpio) s = .next ({ s with porHigh := true, strap := gpio } : State).settle) ∧
    (s.porHigh = true → s.railsIn = true → s.standbyHeld = false → s.thermShut = false →
      Answers .warmNPulse s fun u => u.mode = .boot ∧ u.startDue = some true) ∧
    (s.porHigh = true → ∀ gpio, exec (.porNRelease gpio) s = .next s.settle) ∧
    (s.porHigh = false ∨ s.railsIn = false ∨ s.standbyHeld = true ∨ s.thermShut = true → exec .warmNPulse s = .next s.settle) ∧
    (s.resumeAt = none ∨ s.mode ≠ .onAir → exec .quietResumeBoundary s = .next s.settle) ∧
    (s.trans = none ∨ (∃ tr, s.trans = some tr ∧ tr.shutdown = true ∧ s.allDown = false) → ∀ after,
      exec (.modeTransitionDone after) s = .next s.settle) ∧
    (∀ b, s.resumeAt = some b → s.mode = .onAir →
      exec .quietResumeBoundary s = .next (({ s.advanceTb b with quietMute := false, resumeAt := none } : State).each tiles State.judgePins).settle) ∧
    (∀ tr after, s.trans = some tr → (tr.shutdown = false ∨ s.allDown = true) →
      Answers (.modeTransitionDone after) s fun u => u.mode = tr.target))

/-- R41, R42, Table 2-4: the arithmetic instructions write g[RD] (a write to g0 is discarded by `Glide.setReg`), CMP the condition flags; each takes
one issue cycle and changes nothing else. -/
def Obligations.GlideArithmetic : Prop := ∀ (s : State) (p : Fin 5) (w : BitVec 64) (ecc : Ecc), ecc ≠ .fatal →
  let u := s.atIssue p ecc
  let rd := gBits w 52 4
  let a := u.gReg p (gBits w 48 4)
  let b := u.gB p w
  let next := fun (t : State) => t.modGlide p fun g => g.went u.now (g.pc + 1) 4
  (s.Ready p 0x31 w → exec (.glideAdd p ecc) s = .next (next (u.setGReg p rd (a + b))).settle) ∧
  (s.Ready p 0x32 w → exec (.glideSub p ecc) s = .next (next (u.setGReg p rd (a - b))).settle) ∧
  (s.Ready p 0x33 w → exec (.glideAnd p ecc) s = .next (next (u.setGReg p rd (a &&& b))).settle) ∧
  (s.Ready p 0x34 w → exec (.glideOr p ecc) s = .next (next (u.setGReg p rd (a ||| b))).settle) ∧
  (s.Ready p 0x35 w → exec (.glideShl p ecc) s = .next (next (u.setGReg p rd (a <<< (b.toNat % 64)))).settle) ∧
  (s.Ready p 0x36 w → exec (.glideShr p ecc) s = .next (next (u.setGReg p rd (a >>> (b.toNat % 64)))).settle) ∧
  (s.Ready p 0x37 w → exec (.glideCmp p ecc) s =
    .next (next (u.modGlide p fun g => { g with z := a == b, lt := decide (a.toInt < b.toInt), ltu := decide (a.toNat < b.toNat) })).settle) ∧
  (s.Ready p 0x30 w → gBits w 48 2 = 0 →
    exec (.glideMov p ecc) s = .next (next (u.setGReg p rd ((BitVec.ofNat 48 (gBits w 0 48)).signExtend 64))).settle) ∧
  (s.Ready p 0x30 w → gBits w 48 2 = 1 → exec (.glideMov p ecc) s = .next (next (u.setGReg p rd (u.gReg p (gBits w 44 4)))).settle) ∧
  (s.Ready p 0x30 w → gBits w 48 2 = 2 →
    exec (.glideMov p ecc) s = .next (next (u.setGReg p rd (BitVec.ofNat 16 (gBits w 0 16) ++ (u.gReg p rd).setWidth 48))).settle) ∧
  (s.Ready p 0x30 w → gBits w 48 2 = 3 → exec (.glideMov p ecc) s = .next (next (u.setGReg p rd u.tb)).settle)

/-- R41, R42, R45, Table 2-4: where the flow instructions go on, what LOOP, ENDL, CALL and RET do to their stacks, and HALT. The model's choices in
it: log entries 51, 85. -/
def Obligations.GlideFlow : Prop := ∀ (s : State) (p : Fin 5) (w : BitVec 64) (ecc : Ecc), ecc ≠ .fatal →
  let u := s.atIssue p ecc
  let g := s.glide p
  let go := fun (t : State) (pc cost : Nat) => t.modGlide p fun g => g.went u.now pc cost
  let n : BitVec 32 := if gBit w 55 then BitVec.ofNat 32 (gBits w 0 32) else (u.gReg p (gBits w 48 4)).setWidth 32
  (s.Ready p 0x38 w →
    exec (.glideBr p ecc) s =
      .next (if [g.z, !g.z, g.lt, !g.lt, g.ltu, !g.ltu].getD (gBits w 52 4) false then go u (gBits w 0 13) 8 else go u (g.pc + 1) 4).settle) ∧
  (s.Ready p 0x2A w → exec (.glideJmp p ecc) s = .next (go u (gTarget u p w) 8).settle) ∧
  (s.Ready p 0x2B w → g.calls.length < 8 →
    exec (.glideCall p ecc) s = .next (go (u.modGlide p fun g => { g with calls := (g.pc + 1) :: g.calls }) (gTarget u p w) 8).settle) ∧
  (∀ a rest, s.Ready p 0x2C w → g.calls = a :: rest → a ≤ 8191 →
    exec (.glideRet p ecc) s = .next (go (u.modGlide p fun g => { g with calls := rest }) a 8).settle) ∧
  (s.Ready p 0x28 w → n ≠ 0 → g.loops.length < 4 → g.pc < gBits w 32 13 → gOp (s.imemWord p (gBits w 32 13)) = 0x29 →
    exec (.glideLoop p ecc) s =
      .next (go (u.modGlide p fun g => { g with loops := ⟨g.pc + 1, gBits w 32 13, n⟩ :: g.loops }) (g.pc + 1) 4).settle) ∧
  (∀ l rest, s.Ready p 0x29 w → g.loops = l :: rest → l.end_ = g.pc → l.start ≤ 8191 →
    exec (.glideEndl p ecc) s =
      .next (if l.n = 1 then go (u.modGlide p fun g => { g with loops := rest }) (g.pc + 1) 4
        else go (u.modGlide p fun g => { g with loops := { l with n := l.n - 1 } :: rest }) l.start 8).settle) ∧
  (s.Ready p 0x2D w → exec (.glideHalt p ecc) s = .next (u.modGlide p fun g => { g with st := .halted, pc := g.pc + 1 }).settle)

/-- R47, R48, R67, R68: what SET, GET, the return of a GET, SIG and ALIGN do; a SET or GET of an address that is not a multiple of 4 is an access
error. The model's choices in it: log entries 3, 101. -/
def Obligations.GlideAccess : Prop := ∀ (s : State) (p : Fin 5) (w : BitVec 64) (ecc : Ecc), ecc ≠ .fatal →
  let u := s.atIssue p ecc
  let a := u.gAddr p w
  let next := fun (t : State) => t.modGlide p fun g => g.went t.now (g.pc + 1) 4
  (s.Ready p 0x20 w →
    let v := (u.gReg p (gBits w 52 4)).setWidth 32
    exec (.glideSet p ecc) s =
      .next (((if a % 4 ≠ 0 then u.accessError else if (p : Nat) = 0 then u.writeReg a v else u.ownWrite a v).modGlide p fun g =>
        let done := u.now + if (p : Nat) ≠ 0 ∨ dieOf a = 0 then 64 else 512
        { g with setDone := max g.setDone done,
                 sets := (256 * dieOf a + blockOf a, done) :: g.sets.filter fun x => decide (u.now < x.2) }).gNext p).settle) ∧
  (s.Ready p 0x21 w →
    exec (.glideGet p ecc) s = .next (u.modGlide p fun g => { g with st := .waitGet, waitRd := gBits w 52 4, getAddr := a }).settle) ∧
  (∀ after : Fin 1025, (s.glide p).st = .waitGet →
    let g := s.glide p
    let x := s.advance (max s.now (max g.nextIssue g.setDone) + (after : Nat))
    let v := if g.getAddr % 4 = 0 then x.readReg g.getAddr else { x.accessError with reply := 0 }
    exec (.getReturn p after) s = .next ((v.setGReg p (v.glide p).waitRd (v.reply.setWidth 64)).gNext p).settle) ∧
  (s.Ready p 0x22 w →
    exec (.glideSig p ecc) s =
      .next (((u.setFld (GLIDE_SIG_CODE p) GLIDE_SIG_CODE_CODE (gBits w 48 8)).raise (Ev.GLIDE_SIG p)).gNext p).settle) ∧
  (s.Ready p 0x03 w → (p : Nat) ≠ 0 →
    exec (.glideAlign p ecc) s = .next ((u.armAlign (gBits w 52 4) (2 ^ ((p : Nat) - 1)) false).gNext p).settle) ∧
  (s.Ready p 0x03 w → (p : Nat) = 0 →
    exec (.glideAlign p ecc) s = .next (next (u.armAlign (gBits w 52 4) (gBits w 48 4) true)).settle)

/-- R64, R65, R66: a wait begins with its timeout rounded up to whole cycles, and ends at once where the event or the lock is there; it ends with 0
when they come, with 1 at the timeout where they have not; a FENCE ends when its conditions hold. The model's choices in it: log entries 100, 101. -/
def Obligations.GlideWaits : Prop := ∀ (s : State) (p : Fin 5) (w : BitVec 64) (ecc : Ecc), ecc ≠ .fatal →
  let u := s.atIssue p ecc
  let g := s.glide p
  let tmo := gBits w 0 44
  let ends := fun (t : State) (v : BitVec 64) => (t.setGReg p g.waitRd v).modGlide p fun x => x.went t.now (x.pc + 1) 4
  let waits := fun (st : GState) (what : Nat) => u.modGlide p fun x =>
    { x with st := st, waitRd := gBits w 44 4, waitFor := what, waitEnd := if tmo = 0 then none else some (u.now + (tmo + 3) / 4 * 4) }
  (s.Ready p 0x08 w → (waits .waitEvent (gBits w 48 8)).gEvent p (gBits w 48 8) = false →
    exec (.glideWaitev p ecc) s = .next (waits .waitEvent (gBits w 48 8)).settle) ∧
  (s.Ready p 0x08 w → (waits .waitEvent (gBits w 48 8)).gEvent p (gBits w 48 8) = true →
    exec (.glideWaitev p ecc) s = .next (((waits .waitEvent (gBits w 48 8)).gTake p (gBits w 48 8)).gWaited p 0).settle) ∧
  (g.st = .waitEvent → g.pc < 8191 → s.gEvent p g.waitFor = true →
    exec (.waitevComplete p) s = .next (ends (s.gTake p g.waitFor) 0).settle) ∧
  (s.Ready p 0x09 w → u.now < (waits .waitLock (gBits w 52 4)).gSetBy p (gBits w 52 4) →
    exec (.glideWaitlock p ecc) s = .next (waits .waitLock (gBits w 52 4)).settle) ∧
  (s.Ready p 0x09 w → (waits .waitLock (gBits w 52 4)).gSetBy p (gBits w 52 4) ≤ u.now →
    exec (.glideWaitlock p ecc) s = .next ((waits .waitLock (gBits w 52 4)).waitlockDone p).settle) ∧
  (g.st = .waitLock → g.pc < 8191 → s.pllState (gPll p g.waitFor) = pllLocked → (∀ e, g.waitEnd = some e → s.gSetBy p g.waitFor ≤ e) →
    exec (.waitlockComplete p) s = .next (ends (s.advance (s.gSetBy p g.waitFor)) 0).settle) ∧
  (∀ e, g.st = .waitLock → g.pc < 8191 → s.pllState (gPll p g.waitFor) = pllLocked → g.waitEnd = some e → e < s.gSetBy p g.waitFor →
    exec (.waitlockComplete p) s = .next (ends (s.advance e) 1).settle) ∧
  (∀ e, g.st = .waitEvent ∨ g.st = .waitLock → g.waitEnd = some e → g.pc < 8191 → s.gMet p e = false →
    exec (.glideWaitTimeout p) s = .next (ends (s.advance e) 1).settle) ∧
  (∀ e, g.st = .waitEvent → g.waitEnd = some e → g.pc < 8191 → s.gEvent p g.waitFor = true →
    exec (.glideWaitTimeout p) s = .next (ends (s.gTake p g.waitFor) 0).settle) ∧
  (∀ e, g.st = .waitLock → g.waitEnd = some e → g.pc < 8191 → s.pllState (gPll p g.waitFor) = pllLocked → s.gSetBy p g.waitFor ≤ e →
    exec (.glideWaitTimeout p) s = .next (ends (s.advance (s.gSetBy p g.waitFor)) 0).settle) ∧
  (s.Ready p 0x3F w →
    let v := u.modGlide p fun x => { x with st := .waitFence, fenceB := gBit w 55, fenceW := gBit w 54, fenceF := gBit w 53 }
    exec (.glideFence p ecc) s = .next (if v.fenceHolds p then v.modGlide p fun x => x.went u.now (x.pc + 1) 4 else v).settle) ∧
  (g.st = .waitFence → g.pc < 8191 → ∀ x, x = (if g.fenceW then s.advance g.setDone else s) → x.fenceHolds p = true →
    exec (.fenceRelease p) s = .next (x.modGlide p fun y => y.went x.now (y.pc + 1) 4).settle)

/-- R50, R52, R53, R60, R63: AT and AT_REL with good members set BT. Their bundle joins the local queue where it holds fewer than 8 bundles, and the
FIFOs of the enabled tiles it names where each has room, 192 Tc later; without room the processor waits at its AT, and AT_QUEUE_STALL_RELEASE
pushes the bundle once there is room. A bundle at the head of its queue or FIFO on time leaves it, the effects of its members fixed from its
instant on; a late one is counted, and applied at once only with L = 1. The model's choices in it: log entries 84, 101, 102. -/
def Obligations.GlideBundles : Prop := ∀ (s : State) (p : Fin 5) (w : BitVec 64) (ecc : Ecc) (eccs : List Ecc), ecc ≠ .fatal → (∀ x ∈ eccs, x ≠ .fatal) →
  let u := s.atIssue p ecc
  let g := s.glide p
  let n := gBits w 52 3 + 1
  let ws := (List.range n).map fun k => s.imemWord p (g.pc + 1 + k)
  let dst := gBits w 44 4
  let bundle := fun (T : BitVec 64) (at_ : Nat) => (⟨T, gBit w 55, g.pc, ws.map (u.gMember p), at_⟩ : Bundle)
  let room := fun (d words : Nat) => ∀ k : Fin 4, d.testBit k = true → s.fifoEnabled k = true → s.fifoLevel k + words ≤ 256
  let good := (p ≠ 0 → dst = 0) ∧ g.pc + n < 8191 ∧ ∀ x ∈ ws, gMemberFault p dst x .clean = none
  let on := fun (v : State) (T : BitVec 64) => (v.glide p).st = .running ∧ (v.glide p).pc = g.pc + n + 1 ∧ (v.glide p).bt = T ∧ (v.glide p).held = none
  let die := if (p : Nat) = 0 then 4 else (p : Nat) - 1
  (∀ i T, (i = .glideAt p ecc eccs ∧ s.Ready p 0x01 w ∧ T = u.gReg p (gBits w 48 4) + (BitVec.ofNat 44 (gBits w 0 44)).signExtend 64) ∨
      (i = .glideAtRel p ecc eccs ∧ s.Ready p 0x02 w ∧ T = g.bt + BitVec.ofNat 64 (gBits w 0 44)) → good →
    (dst = 0 → g.queue.length < 8 → Answers i s fun v =>
      (v.glide p).queue = g.queue ++ [bundle T (u.now + 4 * n)] ∧ v.fifos = s.fifos ∧ on v T) ∧
    (dst ≠ 0 → room dst (n + 1) → Answers i s fun v =>
      (∀ k : Fin 4, v.fifo k = if dst.testBit k && s.fifoEnabled k then s.fifo k ++ [bundle T (u.now + 4 * n + 192)] else s.fifo k) ∧
      (v.glide p).queue = g.queue ∧ on v T) ∧
    (dst = 0 → 8 ≤ g.queue.length → Answers i s fun v =>
      (v.glide p).st = .stallQueue ∧ (v.glide p).held = some (bundle T 0, 0) ∧ (v.glide p).bt = T ∧ (v.glide p).queue = g.queue) ∧
    (dst ≠ 0 → ¬ room dst (n + 1) → Answers i s fun v =>
      (v.glide p).st = .stallFifo ∧ (v.glide p).held = some (bundle T 0, BitVec.ofNat 4 dst) ∧ (v.glide p).bt = T ∧ v.fifos = s.fifos ∧
      v.stored Ev.GLIDE_FIFO_FULL = true)) ∧
  (∀ b d, g.held = some (b, d) → g.st = .stallQueue ∨ g.st = .stallFifo → b.pc + b.members.length < 8191 →
    (d = 0 → g.queue.length < 8 → Answers (.atQueueStallRelease p) s fun v =>
      (v.glide p).queue = g.queue ++ [{ b with avail := s.now + 4 * b.members.length }] ∧ (v.glide p).st = .running ∧
      (v.glide p).pc = b.pc + b.members.length + 1 ∧ (v.glide p).held = none) ∧
    (p = 0 → d ≠ 0 → room d.toNat b.words → Answers (.atQueueStallRelease p) s fun v =>
      (∀ k : Fin 4, v.fifo k = if d.getLsbD k && s.fifoEnabled k then s.fifo k ++ [{ b with avail := s.now + 4 * b.members.length + 192 }]
        else s.fifo k) ∧ (v.glide p).st = .running ∧ (v.glide p).pc = b.pc + b.members.length + 1 ∧ (v.glide p).held = none)) ∧
  (∀ b rest, g.queue = b :: rest →
    (s.tbAt b.avail ≤ b.time.toNat → Answers (.bundleDispatch false p) s fun v =>
      (v.glide p).queue = reachHead (s.instantOf b.time.toNat) rest ∧
      ∀ r ∈ b.members, (⟨s.instantOf b.time.toNat + r.latency, die, p, r⟩ : Effect) ∈ v.effects) ∧
    (b.time.toNat < s.tbAt b.avail → Answers (.bundleDispatch false p) s fun v =>
      (v.glide p).queue = reachHead b.avail rest ∧
      v.fld (GLIDE_LATE_COUNT p) ⟨0, 32⟩ = min (s.fld (GLIDE_LATE_COUNT p) ⟨0, 32⟩ + 1) (2 ^ 32 - 1) ∧
      if b.applyLate then ∀ r ∈ b.members, (⟨b.avail + r.latency, die, p, r⟩ : Effect) ∈ v.effects else v.effects = s.effects)) ∧
  (∀ (t : Fin 4) b rest, s.fifo t = b :: rest → s.fifoEnabled t = true → s.bit (TXCH_STATUS t) TXCH_STATUS_MUTE_LINK = false →
    (s.tbAt b.avail ≤ b.time.toNat → Answers (.bundleDispatch true t.castSucc) s fun v =>
      v.fifo t = reachHead (s.instantOf b.time.toNat) rest ∧
      ∀ r ∈ b.members, (⟨s.instantOf b.time.toNat + r.latency, t, 5, r⟩ : Effect) ∈ v.effects) ∧
    (b.time.toNat < s.tbAt b.avail → Answers (.bundleDispatch true t.castSucc) s fun v =>
      v.fifo t = reachHead b.avail rest ∧
      v.fld (GLIDE_LATE_COUNT (1 + t)) ⟨0, 32⟩ = min (s.fld (GLIDE_LATE_COUNT (1 + t)) ⟨0, 32⟩ + 1) (2 ^ 32 - 1) ∧
      if b.applyLate then ∀ r ∈ b.members, (⟨b.avail + r.latency, t, 5, r⟩ : Effect) ∈ v.effects else v.effects = s.effects))

/-- R43, R46, R47, R50: whatever instruction issues, a word that cannot be corrected faults with code 8, an opcode of no instruction with 1, a radio
instruction outside a bundle with 3 or 2, a set reserved field with 2; the processor stops at that word and raises its event. The model's choices
in it: log entry 83. -/
def Obligations.GlideFaults : Prop := ∀ (s : State) (p : Fin 5) (op : Nat) (i : Ecc → Instr),
  (∀ ecc, (op, i ecc) ∈ glideCommands p ecc) →
  (s.glide p).st = .running → s.mode.runsGlide = true → s.domOn (glideDomain p) = true → ∀ ecc : Ecc,
  let u := s.atIssue p ecc
  let w := s.imemWord p (s.glide p).pc
  let fails := fun code => (u.gFault p code (s.glide p).pc).settle
  (ecc = .fatal → exec (i ecc) s = .next (fails 8)) ∧
  (ecc ≠ .fatal → gValid (gOp w) = false → exec (i ecc) s = .next (fails 1)) ∧
  (ecc ≠ .fatal → gRadio (gOp w) = true → exec (i ecc) s = .next (fails (if gWellFormed (p == 0) w then 3 else 2))) ∧
  (ecc ≠ .fatal → gOp w = op → gWellFormed (p == 0) w = false → exec (i ecc) s = .next (fails 2)) ∧
  (∀ code, ((u.gFault p code (s.glide p).pc).settle.glide p).st = .fault ∧ ((u.gFault p code (s.glide p).pc).settle.glide p).fault = code ∧
    ((u.gFault p code (s.glide p).pc).settle.glide p).pc = (s.glide p).pc)

/-- R84, R98, R113: TXON opens the gates of the carriers and paths it names, or is refused and counted in an unlocked interval; TXOFF, RXON and RXOFF
close and open theirs; no other gate changes, no register but those of events and of the refusal, and no memory. The model's choices in it: log
entries 88, 103. -/
def Obligations.RadioGates : Prop := ∀ (s : State) (t : Fin 4) (e : Effect) (cm : BitVec 4) (pm : BitVec 16), s.NextEffect t e →
  let u := s.atInstant e
  (e.radio = .txon cm pm → u.bit (TXCH_STATUS t) TXCH_STATUS_UNLOCK_HOLD = false → Answers (.radioTxon t) s fun v =>
    (∀ k < 256, (v.txCar k).gate = ((s.txCar k).gate || inMasks t cm pm k)) ∧ v.rxCars = s.rxCars ∧ Keeps [] s v) ∧
  (e.radio = .txon cm pm → u.bit (TXCH_STATUS t) TXCH_STATUS_UNLOCK_HOLD = true → Answers (.radioTxon t) s fun v =>
    v.fld (TXCH_REFUSED_COUNT t) TXCH_REFUSED_COUNT_COUNT = min (s.fld (TXCH_REFUSED_COUNT t) TXCH_REFUSED_COUNT_COUNT + 1) (2 ^ 32 - 1) ∧
    Frame [TXCH_REFUSED_COUNT t, TXCH_CNT_FLAGS t] u v) ∧
  (e.radio = .txoff cm pm → Answers (.radioTxoff t) s fun v =>
    (∀ k < 256, (v.txCar k).gate = ((s.txCar k).gate && !inMasks t cm pm k)) ∧ v.rxCars = s.rxCars ∧ Keeps [] s v) ∧
  (e.radio = .rxon cm pm → Answers (.radioRxon t) s fun v =>
    (∀ k < 256, (v.rxCar k).gate = ((s.rxCar k).gate || inMasks t cm pm k)) ∧ v.txCars = s.txCars ∧ Keeps [] s v) ∧
  (e.radio = .rxoff cm pm → Answers (.radioRxoff t) s fun v =>
    (∀ k < 256, (v.rxCar k).gate = ((s.rxCar k).gate && !inMasks t cm pm k)) ∧ v.txCars = s.txCars ∧ Keeps [] s v)

/-- R78, R80, R86, R105, R109, R110, R117, R118: GAIN, NCO and FILT set the trims, codes, armed changes, tuning words, responses, ratios and zones of
the paths they name and of no other path; the other direction keeps its carriers; no register changes but these, the STATUS registers and those of
events, and no memory. The model's choices in it: log entries 49, 56, 103. -/
def Obligations.RadioSettings : Prop := ∀ (s : State) (t : Fin 4) (e : Effect) (pm : BitVec 16), s.NextEffect t e →
  let u := s.atInstant e
  let one := fun (car : BitVec 2) => BitVec.ofNat 4 (2 ^ car.toNat)
  (∀ sync v, e.radio = .gain false sync pm v → Answers (.radioGain t) s fun x => (∀ i : Fin 16,
    x.fld (TXCH_GAIN t i) TXCH_GAIN_GAIN = if pm.getLsbD i then v.toNat else s.fld (TXCH_GAIN t i) TXCH_GAIN_GAIN) ∧
    Keeps ((List.range 16).map fun i => TXCH_GAIN t i) s x) ∧
  (∀ v, e.radio = .gain true false pm v → Answers (.radioGain t) s fun x => (∀ i : Fin 16,
    x.fld (RXCH_STEP_CFG t i) RXCH_STEP_CFG_CODE = if pm.getLsbD i then v.toNat % 64 else s.fld (RXCH_STEP_CFG t i) RXCH_STEP_CFG_CODE) ∧
    Keeps ((List.range 16).map fun i => RXCH_STEP_CFG t i) s x) ∧
  (∀ v c, e.radio = .gain true true pm v → u.refCar t = some c → Answers (.radioGain t) s fun x => (∀ i : Fin 16,
    (x.rxPath (pathKey t i)).gain =
      if pm.getLsbD i then some (⟨v.setWidth 6, false, e.proc⟩, u.rxBoundary t (u.rxCfg t c) u.tb.toNat) else (s.rxPath (pathKey t i)).gain) ∧
    Keeps [] s x) ∧
  (∀ v, e.radio = .gain true true pm v → u.refCar t = none → exec (.radioGain t) s = .next (u.raise (Ev.RX_GAIN_CP_OVERRUN t)).settle) ∧
  (∀ rx car tw, e.radio = .nco rx car tw pm → Answers (.radioNco t) s fun x =>
    (if rx then (∀ k < 256, (x.rxCar k).tw = if inMasks t (one car) pm k then tw else (s.rxCar k).tw) ∧ x.txCars = s.txCars
      else (∀ k < 256, (x.txCar k).tw = if inMasks t (one car) pm k then tw else (s.txCar k).tw) ∧ x.rxCars = s.rxCars) ∧
    Keeps [if rx then RXCH_STATUS t else TXCH_STATUS t] s x) ∧
  (∀ rx z car resp zone ratio, e.radio = .filt rx z car resp pm zone ratio → Answers (.radioFilt t) s fun x =>
    (if rx then
      (∀ k < 256, ((x.rxCar k).resp, (x.rxCar k).ratio) = if inMasks t (one car) pm k then (resp, ratio) else ((s.rxCar k).resp, (s.rxCar k).ratio)) ∧
      (∀ i : Fin 16, x.maskBit (RXCH_ZONE t) RXCH_ZONE_Z i = if z && pm.getLsbD i then zone else s.maskBit (RXCH_ZONE t) RXCH_ZONE_Z i) ∧
      x.txCars = s.txCars
    else
      (∀ k < 256, ((x.txCar k).resp, (x.txCar k).ratio) = if inMasks t (one car) pm k then (resp, ratio) else ((s.txCar k).resp, (s.txCar k).ratio)) ∧
      x.rxCars = s.rxCars) ∧
    Keeps (if rx then [RXCH_STATUS t, RXCH_ZONE t] else [TXCH_STATUS t]) s x)

/-- R55, R125, R201, R216: BEAMSET sets the beam of its layer and direction and no other. PAEN with Q = 0 sets the recorded bits of the paths it
names, a 1 only in quads that are READY, and is counted once where it leaves one out; with Q = 1 it requests a power-up or shutdown of its quads;
with V = 1 it is refused in Calibrate and Test. CAPT acts on its descriptor: with LEN = 0 one that is not capturing is left as it is; one without
a region is rejected; one into capture SRAM of a source up to 6 begins. CALB begins a burst or is refused. The model's choices in it: log entries
89, 103. -/
def Obligations.RadioRequests : Prop := ∀ (s : State) (t : Fin 4) (e : Effect) (pm : BitVec 16),
  let u := s.atInstant e
  (∀ ul layer beam, s.NextEffect 4 e → e.radio = .beamset ul layer beam → Answers .radioBeamset s fun v =>
    (∀ k, v.tlBeam k = if k = 32 * b2n ul + layer.toNat then beam else s.tlBeam k) ∧ Keeps [] s v) ∧
  (∀ v q qm, s.NextEffect t e → e.radio = .paen v q qm pm →
    let refused := v && (s.mode == .calibrate || s.mode == .test)
    let takes := fun (i : Fin 16) => pm.getLsbD i && (!v || s.fld (SEQ_STAT t ((i : Nat) / 4)) SEQ_STAT_STATE == Seq.ready)
    (refused = true → exec (.radioPaen t) s = .next (u.seqRefused t (Ev.PAEN_REFUSED t)).settle) ∧
    (refused = false → q = true → exec (.radioPaen t) s = .next (if v then u.powerUp t qm else u.shutdown t qm).settle) ∧
    (refused = false → q = false → Answers (.radioPaen t) s fun x =>
      (∀ i : Fin 16, x.maskBit (SEQ_STAT t ((i : Nat) / 4)) SEQ_STAT_PAEN_REC ((i : Nat) % 4) =
        if takes i then v else s.maskBit (SEQ_STAT t ((i : Nat) / 4)) SEQ_STAT_PAEN_REC ((i : Nat) % 4)) ∧
      x.fld (SEQ_REFUSED_COUNT t) SEQ_REFUSED_COUNT_COUNT =
        (if ∀ i : Fin 16, pm.getLsbD i = takes i then s.fld (SEQ_REFUSED_COUNT t) SEQ_REFUSED_COUNT_COUNT
          else min (s.fld (SEQ_REFUSED_COUNT t) SEQ_REFUSED_COUNT_COUNT + 1) (2 ^ 32 - 1)) ∧
      Keeps [SEQ_STAT t 0, SEQ_STAT t 1, SEQ_STAT t 2, SEQ_STAT t 3, SEQ_REFUSED_COUNT t, SEQ_CNT_FLAGS t] s x)) ∧
  (∀ src pidx d len, s.NextEffect t e → e.radio = .capt src pidx d len →
    let st := RXCH_CAP_STAT t d.toNat
    let size := s.fld (RXCH_CAP_SIZE t d.toNat) RXCH_CAP_SIZE_SIZE * 64
    let base := s.fld (RXCH_CAP_BASE_HI t d.toNat) RXCH_CAP_BASE_HI_BASE * 2 ^ 32 + s.fld (RXCH_CAP_BASE_LO t d.toNat) RXCH_CAP_BASE_LO_BASE * 64
    let cfg := RXCH_CAP_CFG t d.toNat
    exec (.radioCapt t) s = .next (u.captAt t src.toNat pidx.toNat d.toNat len.toNat).settle ∧
    (len = 0 → s.capturing t d.toNat = false → exec (.radioCapt t) s = .next u.settle) ∧
    (len ≠ 0 → s.capturing t d.toNat = false → size = 0 → Answers (.radioCapt t) s fun v =>
      v.fld st RXCH_CAP_STAT_STATE = 3 ∧ v.fld st RXCH_CAP_STAT_END = 6 ∧ v.fld st RXCH_CAP_STAT_GRANULES = 0 ∧ Frame [st] u v) ∧
    (len ≠ 0 → s.capturing t d.toNat = false → src.toNat ≤ 6 → (src = 5 → (s.rxCfg t (s.fld cfg RXCH_CAP_CFG_CAR)).timeDomain = false) →
      s.bit cfg RXCH_CAP_CFG_DEST = false → base + size ≤ 2 ^ 22 → (if s.bit cfg RXCH_CAP_CFG_HDR then 128 else 64) ≤ size →
      Answers (.radioCapt t) s fun v =>
        v.fld st RXCH_CAP_STAT_STATE = 2 ∧ v.fld st RXCH_CAP_STAT_END = 0 ∧ v.fld st RXCH_CAP_STAT_GRANULES = 0 ∧
        (v.cap (16 * (t : Nat) + d.toNat)).src = src.toNat ∧ (v.cap (16 * (t : Nat) + d.toNat)).pidx = pidx.toNat ∧
        (v.cap (16 * (t : Nat) + d.toNat)).len = len.toNat ∧ (v.cap (16 * (t : Nat) + d.toNat)).done = 0 ∧
        (v.cap (16 * (t : Nat) + d.toNat)).at_ = u.now)) ∧
  (∀ kind dur, s.NextEffect t e → e.radio = .calb kind pm dur →
    let b : Burst := ⟨kind.toNat, pm, u.now, dur.toNat, false, false, 0, 0⟩
    (u.burstRefused t b = true → exec (.radioCalb t) s = .next (u.raise (Ev.CALB_REFUSED t)).settle) ∧
    (u.burstRefused t b = false → Answers (.radioCalb t) s fun v =>
      v.bit (DFLY_CAL_STAT t) DFLY_CAL_STAT_BUSY = true ∧ v.fld (DFLY_CAL_STAT t) DFLY_CAL_STAT_KIND = kind.toNat % 4 ∧
      (v.cal t).burst = some { b with running := true, at_ := u.now }))

/-- R43 to R45, R63, R70: GO starts a processor with its state zero, the memory windows store and fetch whole words, the windows on registers and
bundle time capture their high halves, and a tile disabled loses its FIFO. -/
def Obligations.GlideRegisters : Prop := ∀ (s : State) (p : Fin 5) (w : Word),
  (s.answers (GLIDE_CTRL p) = true → s.mode.runsGlide = true → (s.glide p).st = .halted ∨ (s.glide p).st = .fault →
    Answers (.glideGo p w) s fun t => (t.glide p).st = .running ∧ (t.glide p).pc = getF w GLIDE_CTRL_START_PC ∧ (t.glide p).g = [] ∧
      (t.glide p).loops = [] ∧ (t.glide p).calls = [] ∧ (t.glide p).bt = 0 ∧ (t.glide p).imem = (s.glide p).imem ∧
      t.bit (GLIDE_CTRL p) GLIDE_CTRL_ENABLE = bitF w GLIDE_CTRL_ENABLE ∧ ∀ a, a ≠ GLIDE_CTRL p → t.reg a = s.reg a) ∧
  (s.answers (GLIDE_IMEM_DATA_HI p) = true → Answers (.glideImemDataHiWrite p w) s fun t =>
    (∀ n, t.imemWord p n = if n = s.imemAddr p then w ++ s.reg (GLIDE_IMEM_DATA_LO p) else s.imemWord p n) ∧
    t.imemAddr p = (s.imemAddr p + 1) % 8192 ∧ ∀ a, a ≠ GLIDE_IMEM_DATA_HI p → a ≠ GLIDE_IMEM_ADDR p → t.reg a = s.reg a) ∧
  (s.answers (GLIDE_IMEM_DATA_LO p) = true →
    let v := s.imemWord p (s.imemAddr p)
    exec (.glideImemDataLoRead p) s =
      .next ({ (s.setReg (GLIDE_IMEM_DATA_LO p) (v.setWidth 32)).setReg (GLIDE_IMEM_DATA_HI p) ((v >>> 32).setWidth 32) with
        reply := v.setWidth 32 } : State).settle) ∧
  (s.answers (GLIDE_IMEM_DATA_HI p) = true →
    exec (.glideImemDataHiRead p) s =
      .next ({ s.setFld (GLIDE_IMEM_ADDR p) GLIDE_IMEM_ADDR_ADDR (s.imemAddr p + 1) with reply := s.reg (GLIDE_IMEM_DATA_HI p) } : State).settle) ∧
  (s.answers (GLIDE_GREG_LO p) = true →
    let v := (s.glide p).reg (s.fld (GLIDE_GREG_SEL p) GLIDE_GREG_SEL_SEL)
    exec (.glideGregLoRead p) s =
      .next ({ s.modGlide p fun g => { g with gregHi := (v >>> 32).setWidth 32 } with reply := v.setWidth 32 } : State).settle) ∧
  (s.answers (GLIDE_BT_LO p) = true →
    exec (.glideBtLoRead p) s =
      .next ({ s.modGlide p fun g => { g with btHi := (g.bt >>> 32).setWidth 32 } with reply := (s.glide p).bt.setWidth 32 } : State).settle) ∧
  (s.answers GLIDE_TILE_EN = true → Answers (.tileEnWrite w) s fun t =>
    t.fld GLIDE_TILE_EN GLIDE_TILE_EN_EN = w.toNat % 16 ∧ (∀ k : Fin 4, t.fifo k = if w.getLsbD k then s.fifo k else []) ∧
    ∀ a, a ≠ GLIDE_TILE_EN → t.reg a = s.reg a)

/-- R78 to R80, R86, R88, R89, R207, R208: writes of the transmit registers. RF_HI commits the RF word in Configure, and a changed word ends the
calibrations that rest on it; in another mode it is an access error. CAR_NCO_HI applies the whole tuning word, CAR_FILT response and ratio, to the
carrier that CARSEL names and no other. TRIM_ARM arms the paths of PMASK for the next trim boundary, GAIN sets the gain trim. The model's choices
in it: log entries 10, 49, 50. -/
def Obligations.TransmitWrites : Prop := ∀ (s : State) (t : Fin 4) (w : Word),
  (s.answers (TXCH_RF_HI t) = true → s.mode = .configure → Answers (.txRfHiWrite t w) s fun u =>
    (∀ k : Fin 4, u.txRf k = if k = t then w.setWidth 16 ++ s.reg (TXCH_RF_LO t) else s.txRf k) ∧
    (u.txRf t ≠ s.txRf t → u.bit (DFLY_CAL_STAT t) DFLY_CAL_STAT_TX_VALID = false ∧ u.bit (DFLY_CAL_STAT t) DFLY_CAL_STAT_RCP_VALID = false) ∧
    (u.txRf t = s.txRf t → u.reg (DFLY_CAL_STAT t) = s.reg (DFLY_CAL_STAT t)) ∧ Keeps [TXCH_RF_HI t, DFLY_CAL_STAT t, TXCH_STATUS t] s u) ∧
  (s.answers (TXCH_RF_HI t) = true → s.mode ≠ .configure → Answers (.txRfHiWrite t w) s fun u =>
    Frame [] s u ∧ u.stored Ev.REG_ACCESS_ERROR = true) ∧
  (s.answers (TXCH_CAR_NCO_HI t) = true → Answers (.txCarNcoHiWrite t w) s fun u => (∀ k,
    (u.txCar k).tw = if k = carKey t (s.txSel t).1 (s.txSel t).2 then w.setWidth 16 ++ s.reg (TXCH_CAR_NCO_LO t) else (s.txCar k).tw) ∧
    Keeps [TXCH_CAR_NCO_HI t, TXCH_STATUS t] s u) ∧
  (s.answers (TXCH_CAR_FILT t) = true → Answers (.txCarFiltWrite t w) s fun u => (∀ k, ((u.txCar k).resp, (u.txCar k).ratio) =
    if k = carKey t (s.txSel t).1 (s.txSel t).2
      then (BitVec.ofNat 4 (getF w TXCH_CAR_FILT_RESP), BitVec.ofNat 12 (getF w TXCH_CAR_FILT_RATIO))
      else ((s.txCar k).resp, (s.txCar k).ratio)) ∧ Keeps [TXCH_STATUS t] s u) ∧
  (s.answers (TXCH_TRIM_ARM t) = true → ∀ pm : BitVec 16, Answers (.txTrimArmWrite t pm) s fun u =>
    (∀ i : Fin 16, pm.getLsbD i = true → ∀ B, B ∈ (u.txPath (pathKey t i)).armed ↔ B ∈ (s.txPath (pathKey t i)).armed ∨ B = s.trimBoundary) ∧
    (∀ i : Fin 16, pm.getLsbD i = false → u.txPath (pathKey t i) = s.txPath (pathKey t i)) ∧
    (pm ≠ 0 → u.bit (TXCH_STATUS t) TXCH_STATUS_TRIM_PENDING = true) ∧ Keeps [TXCH_STATUS t] s u) ∧
  (∀ i : Fin 16, s.answers (TXCH_GAIN t i) = true → Answers (.txGainTrimWrite t i w) s fun u =>
    u.fld (TXCH_GAIN t i) TXCH_GAIN_GAIN = w.toNat % 65536 ∧ Keeps [TXCH_GAIN t i] s u)

/-- R76, R77, R85, R88, R103, R494: at the earliest armed boundary the trims of the paths armed for it take their shadows, and those of the others
stay. At the start of a symbol of a carrier the tile must hold every word of the next symbol; else it is counted late once, and the symbol is
marked invalid on the paths that lack words. A path idle with gating on has its DAC stopped, 2,048 Tc after it became idle, and in its quad's
turn. The model's choices in it: log entries 86, 88, 115, 121. -/
def Obligations.TransmitTimes : Prop := ∀ (s : State) (t : Fin 4),
  let clips := TXCH_CNT_FLAGS t :: (List.range 16).map fun i => TXCH_CLIP_COUNT t i
  (∀ B, s.txTrimDue t = some B → Answers (.trimApply t false) s fun u => (∀ i : Fin 16,
    if B ∈ (s.txPath (pathKey t i)).armed
      then ((u.txPath (pathKey t i)).delay.toNat, (u.txPath (pathKey t i)).phase.toNat) =
        (s.fld (TXCH_DELAY t i) TXCH_DELAY_DELAY, s.fld (TXCH_PHASE t i) TXCH_PHASE_PHASE)
      else u.txPath (pathKey t i) = s.txPath (pathKey t i)) ∧ Keeps [TXCH_STATUS t] s u) ∧
  (∀ B, s.rxTrimDue t = some B → Answers (.trimApply t true) s fun u => (∀ i : Fin 16,
    if B ∈ (s.rxPath (pathKey t i)).armed
      then ((u.rxPath (pathKey t i)).delay.toNat, (u.rxPath (pathKey t i)).phase.toNat) =
        (s.fld (RXCH_DELAY t i) RXCH_DELAY_DELAY, s.fld (RXCH_PHASE t i) RXCH_PHASE_PHASE)
      else u.rxPath (pathKey t i) = s.rxPath (pathKey t i)) ∧ Keeps [] s u) ∧
  (∀ c : Fin 4, (s.txCfg t c).en = true → (s.txCfg t c).ok = true → s.mode = .onAir ∨ s.mode = .quiet ∨ s.mode = .test →
    let k := s.txCfg t c
    let b := k.nextBoundary (s.tb.toNat + 1)
    let sym := k.symAt b + 1
    let x := s.txSym (symKey sym c t)
    let v := s.advanceTb b
    (x.lacking = 0 → Answers (.txSymbolDeadline t c) s fun u => u.txSym (symKey sym c t) = {} ∧ Keeps clips s u) ∧
    (x.lacking ≠ 0 → Answers (.txSymbolDeadline t c) s fun u => u.txSym (symKey sym c t) = {} ∧
      u.fld (TXCH_LATE_DATA_COUNT t) TXCH_LATE_DATA_COUNT_COUNT =
        min (s.fld (TXCH_LATE_DATA_COUNT t) TXCH_LATE_DATA_COUNT_COUNT + 1) (2 ^ 32 - 1) ∧
      (∀ i : Fin 16, x.lacking.getLsbD i = true →
        ({ first := v.sampleAt t (v.instantOf (k.symStart sym)), stop := v.sampleAt t (v.instantOf (k.symStart (sym + 1))) } : Run) ∈
          (u.txCar (carKey t i c)).runs) ∧ Keeps (TXCH_LATE_DATA_COUNT t :: clips) s u)) ∧
  (∀ i : Fin 16, s.bit (TXCH_CTRL t) TXCH_CTRL_DAC_GATE = true → s.dacIdle t i = true → Answers (.dacGateIdle t i) s fun u =>
    (u.txPath (pathKey t i)).gated = true ∧ u.now = max s.now (max ((s.txPath (pathKey t i)).idleSince + 2048) (s.quadTurn t (i / 4))) ∧ Keeps [] s u)

/-- R103 to R105, R109, R110, R121, R122, R207, R208: writes of the receive registers. RF_HI commits the RF word in Configure, and a changed word ends
the calibrations that rest on it; in another mode it is an access error. CAR_NCO_HI and CAR_FILT act on the carrier that CARSEL names and no
other; ZONE sets the zones, TRIM_ARM arms the paths of PMASK, PM_CFG and WPD_CFG start their measurement anew on the 16 paths. The model's choices
in it: log entries 10, 49, 50, 53. -/
def Obligations.ReceiveWrites : Prop := ∀ (s : State) (t : Fin 4) (w : Word),
  (s.answers (RXCH_RF_HI t) = true → s.mode = .configure → Answers (.rxRfHiWrite t w) s fun u =>
    (∀ k : Fin 4, u.rxRf k = if k = t then w.setWidth 16 ++ s.reg (RXCH_RF_LO t) else s.rxRf k) ∧
    (u.rxRf t ≠ s.rxRf t → u.bit (DFLY_CAL_STAT t) DFLY_CAL_STAT_RX_VALID = false ∧ u.bit (DFLY_CAL_STAT t) DFLY_CAL_STAT_RCP_VALID = false) ∧
    (u.rxRf t = s.rxRf t → u.reg (DFLY_CAL_STAT t) = s.reg (DFLY_CAL_STAT t)) ∧ Keeps [RXCH_RF_HI t, DFLY_CAL_STAT t, RXCH_STATUS t] s u) ∧
  (s.answers (RXCH_RF_HI t) = true → s.mode ≠ .configure → Answers (.rxRfHiWrite t w) s fun u =>
    Frame [] s u ∧ u.stored Ev.REG_ACCESS_ERROR = true) ∧
  (s.answers (RXCH_CAR_NCO_HI t) = true → Answers (.rxCarNcoHiWrite t w) s fun u => (∀ k,
    (u.rxCar k).tw = if k = carKey t (s.rxSel t).1 (s.rxSel t).2 then w.setWidth 16 ++ s.reg (RXCH_CAR_NCO_LO t) else (s.rxCar k).tw) ∧
    Keeps [RXCH_CAR_NCO_HI t, RXCH_STATUS t] s u) ∧
  (s.answers (RXCH_CAR_FILT t) = true → Answers (.rxCarFiltWrite t w) s fun u => (∀ k, ((u.rxCar k).resp, (u.rxCar k).ratio) =
    if k = carKey t (s.rxSel t).1 (s.rxSel t).2
      then (BitVec.ofNat 4 (getF w RXCH_CAR_FILT_RESP), BitVec.ofNat 12 (getF w RXCH_CAR_FILT_RATIO))
      else ((s.rxCar k).resp, (s.rxCar k).ratio)) ∧ Keeps [RXCH_STATUS t] s u) ∧
  (s.answers (RXCH_ZONE t) = true → Answers (.rxZoneWrite t w) s fun u =>
    u.fld (RXCH_ZONE t) RXCH_ZONE_Z = w.toNat % 65536 ∧ Keeps [RXCH_ZONE t, RXCH_STATUS t] s u) ∧
  (s.answers (RXCH_TRIM_ARM t) = true → ∀ pm : BitVec 16, Answers (.rxTrimArmWrite t pm) s fun u =>
    (∀ i : Fin 16, pm.getLsbD i = true → ∀ B, B ∈ (u.rxPath (pathKey t i)).armed ↔ B ∈ (s.rxPath (pathKey t i)).armed ∨ B = s.trimBoundary) ∧
    (∀ i : Fin 16, pm.getLsbD i = false → u.rxPath (pathKey t i) = s.rxPath (pathKey t i)) ∧ Keeps [] s u) ∧
  (s.answers (RXCH_PM_CFG t) = true → Answers (.pmCfgWrite t false w) s fun u => (∀ i : Fin 16,
    (u.rxPath (pathKey t i)).pm = { next := s.sampleAt t s.now } ∧ u.bit (RXCH_PM_RESULT t i) RXCH_PM_RESULT_VALID = false) ∧
    Keeps (RXCH_PM_CFG t :: (List.range 16).map fun i => RXCH_PM_RESULT t i) s u) ∧
  (s.answers (RXCH_WPD_CFG t) = true → Answers (.pmCfgWrite t true w) s fun u => (∀ i : Fin 16,
    (u.rxPath (pathKey t i)).wpd = { next := (15 * ((s.now : Int) - s.origin t) + 1) / 2, above := (s.rxPath (pathKey t i)).wpd.above } ∧
    u.bit (RXCH_WPD_RESULT t i) RXCH_WPD_RESULT_VALID = false) ∧
    Keeps (RXCH_WPD_CFG t :: (List.range 16).map fun i => RXCH_WPD_RESULT t i) s u)

/-- R101, R112 to R114, R118 to R122, R124, R126, R128: an armed code starts at its boundary, its compensation STEP_SETTLE later. Gain control decides
at a boundary of the reference carrier: above HIGH it raises the code by STEP, below LOW for HOLD boundaries it lowers it, from the next boundary
on. A block of valid samples of the carrier that PM_CFG selects enters its meter and shows the result; a wideband block shows its peak. A symbol
whose gate was open throughout reaches the hub with its words and its mark, one whose gate was not does not. A granule of a carrier's samples is
written to capture SRAM, in the order in which the tile's granules complete, and the capture goes on or ends. A path whose domain is not ON
delivers nothing and is marked (R406). The model's choices in it: log entries 11, 53, 86, 89, 113, 115. -/
def Obligations.ReceiveTimes : Prop := ∀ (s : State) (t : Fin 4) (i : Fin 16),
  let clips := RXCH_CNT_FLAGS t :: (List.range 16).map fun i => RXCH_CLIP_COUNT t i
  (∀ g B, (s.rxPath (pathKey t i)).gain = some (g, B) → Answers (.gainBoundaryApply t i) s fun u =>
    u.fld (RXCH_STEP_CFG t i) RXCH_STEP_CFG_CODE = g.code.toNat ∧ (u.rxPath (pathKey t i)).gain = none ∧
    (u.rxPath (pathKey t i)).comps.head? = some ((s.advanceTb B).now + s.fld (RXCH_GAINCFG t) RXCH_GAINCFG_STEP_SETTLE, g.code) ∧
    Keeps [RXCH_STEP_CFG t i] s u) ∧
  (∀ c, s.refCar t = some c → s.maskBit (RXCH_AGC_EN t) RXCH_AGC_EN_PMASK i = true → s.rxRuns t i = true →
    let p := s.rxPath (pathKey t i)
    let b := s.rxBoundary t (s.rxCfg t c) (max s.tb.toNat (s.tbAt p.decided + 1))
    let next := s.rxBoundary t (s.rxCfg t c) (b + 1)
    let W := signed 16 (s.fld (RXCH_WPD_RESULT t i) RXCH_WPD_RESULT_POWER)
    let step := max 1 (s.fld (RXCH_AGC_CFG t) RXCH_AGC_CFG_STEP)
    let code := s.fld (RXCH_STEP_CFG t i) RXCH_STEP_CFG_CODE
    let judges := p.gain = none ∧ (s.advanceTb b).agcFrozen t i = false ∧ s.bit (RXCH_WPD_RESULT t i) RXCH_WPD_RESULT_VALID = true
    ((∀ g B, p.gain = some (g, B) → b < B) → Answers (.agcDecision t i) s fun u => (u.rxPath (pathKey t i)).decided = (s.advanceTb b).now ∧ Keeps [] s u) ∧
    (judges → -256 * (s.fld (RXCH_AGC_CFG t) RXCH_AGC_CFG_HIGH : Int) < W → min 63 (code + step) ≠ code → Answers (.agcDecision t i) s fun u =>
      (u.rxPath (pathKey t i)).gain = some (⟨BitVec.ofNat 6 (min 63 (code + step)), true, 6⟩, next)) ∧
    (judges → W ≤ -256 * (s.fld (RXCH_AGC_CFG t) RXCH_AGC_CFG_HIGH : Int) → W < -256 * (s.fld (RXCH_AGC_CFG t) RXCH_AGC_CFG_LOW : Int) →
      max 1 (s.fld (RXCH_AGC_CFG t) RXCH_AGC_CFG_HOLD) ≤ p.hold + 1 → code - step ≠ code → Answers (.agcDecision t i) s fun u =>
      (u.rxPath (pathKey t i)).gain = some (⟨BitVec.ofNat 6 (code - step), true, 6⟩, next))) ∧
  (let c := s.fld (RXCH_PM_CFG t) RXCH_PM_CFG_SRC
   s.rxRuns t i = true → c < 4 → (s.rxCfg t c).en = true →
   let m := (s.rxPath (pathKey t i)).pm
   let B := blkLog2 (s.fld (RXCH_PM_CFG t) RXCH_PM_CFG_BLK_LOG2)
   let avg := s.fld (RXCH_PM_CFG t) RXCH_PM_CFG_AVG_LOG2
   let ns := s.outputsFrom t i c (2 ^ B) m.next
   let last := ns.getLastD m.next
   let v := s.advance ((s.sampleTime t last + 14) / 15).toNat
   let block := (ns.map fun j => (v.carrierOut t i c j).norm2).sum
   ∀ m' sum n, (∀ j ∈ ns, v.carrierValid t i c j = true) →
     m.step (s.fld (RXCH_PM_CFG t) RXCH_PM_CFG_WIN) (s.fld (RXCH_PM_CFG t) RXCH_PM_CFG_RANK) avg block = (m', some (sum, n)) →
     Answers (.powerBlockResult t i false) s fun u =>
       (u.rxPath (pathKey t i)).pm = { m' with next := last + 1 } ∧
       u.fld (RXCH_PM_RESULT t i) RXCH_PM_RESULT_POWER = unsigned 16 (decibels 256 sum (n * 2 ^ (B + 30))) ∧
       u.bit (RXCH_PM_RESULT t i) RXCH_PM_RESULT_FRESH = true ∧
       u.bit (RXCH_PM_RESULT t i) RXCH_PM_RESULT_VALID = (n == 2 ^ min avg 8) ∧ Keeps (RXCH_PM_RESULT t i :: clips) s u) ∧
  (s.rxRuns t i = true →
    let m := (s.rxPath (pathKey t i)).wpd
    let B := blkLog2 (s.fld (RXCH_WPD_CFG t) RXCH_WPD_CFG_BLK_LOG2)
    let v := s.advance ((s.adcTime t (m.next + 2 ^ B - 1) + 14) / 15).toNat
    Answers (.powerBlockResult t i true) s fun u =>
      u.fld (RXCH_WPD_RESULT t i) RXCH_WPD_RESULT_PEAK =
        min 8191 (((List.range (2 ^ B)).map fun (j : Nat) => (v.adcSample t i (m.next + j)).natAbs).foldl max 0) ∧
      (u.rxPath (pathKey t i)).wpd.next = m.next + 2 ^ B ∧ Keeps (RXCH_WPD_RESULT t i :: clips) s u) ∧
  (∀ (c : Fin 4) sym, (s.rxCfg t c).en = true → (s.rxCfg t c).timeDomain = false → s.mode = .onAir ∨ s.mode = .quiet →
    s.domOn (38 + 4 * (t : Nat) + (i : Nat) / 4) = true →
    let v := s.advanceTb ((s.rxSymSpan t c sym).2.2 + 6144)
    let w := (v.countRx t i).rxClips t i (v.symClips t i c sym)
    let key := ulSymKey sym c (16 * (t : Nat) + i)
    let open_ := (s.rxCar (carKey t i c)).openThrough (v.instantOf (s.rxSymSpan t c sym).1) (v.instantOf (s.rxSymSpan t c sym).2.1)
    (open_ = true → Answers (.rxSymbolDeliver t i c sym) s fun u =>
      u.pathMark key = some (w.symMarked t i c sym || s.pathMark key == some true) ∧
      (∀ j < 12 * (s.rxCfg t c).nrb, u.pathWord (ulWordKey sym c (16 * (t : Nat) + i) j) = some (w.fftWord t i c sym j)) ∧ Keeps clips s u) ∧
    (open_ = false → Answers (.rxSymbolDeliver t i c sym) s fun u => u.pathMark key = some false ∧ u.pathData = s.pathData ∧ Keeps clips s u)) ∧
  (∀ (c : Fin 4) sym, (s.rxCfg t c).en = true → (s.rxCfg t c).timeDomain = false → s.mode = .onAir ∨ s.mode = .quiet →
    s.domOn (38 + 4 * (t : Nat) + (i : Nat) / 4) = false → Answers (.rxSymbolDeliver t i c sym) s fun u =>
      u.pathMark (ulSymKey sym c (16 * (t : Nat) + i)) = some true ∧ u.pathData = s.pathData ∧ Keeps [] s u) ∧
  (∀ d : Fin 16, s.capturing t d = true →
    let k := s.cap (16 * (t : Nat) + d)
    let st := RXCH_CAP_STAT t d
    let num := min 15 (k.len - k.done)
    let at_ := s.capTime t (5, 4) (s.capIndex t k (num - 1))
    let v := s.advance at_
    k.src ≤ 3 → (s.rxCfg t k.src).en = true → k.dram = false → s.granuleFirst t d at_ = true → v.sramRoom t = true → Answers (.captureGranule t d) s fun u =>
      (u.cap (16 * (t : Nat) + d)).done = k.done + num ∧
      (∀ a, u.capByte a = if k.base + k.offset ≤ a ∧ a < k.base + k.offset + 64
        then (v.granuleBytes t k num num).getD (a - (k.base + k.offset)) 0 else s.capByte a) ∧
      (if k.len ≤ k.done + num then u.fld st RXCH_CAP_STAT_STATE = 3 ∧ u.fld st RXCH_CAP_STAT_END = 0
        else if k.ring = false ∧ k.size < k.offset + 128 then u.fld st RXCH_CAP_STAT_STATE = 3 ∧ u.fld st RXCH_CAP_STAT_END = 3
        else u.capturing t d = true) ∧
      ∀ a, a ∉ [st, RXCH_CNT_FLAGS t] → eventReg a = false → u.reg a = s.reg a)

/-- R138, R140, R141, R143, R144: a host beam command is taken unless one is in progress, when it and writes of BEAM_DATA are access errors. It
completes at most 1,024 Tc after its write, the control commands accepted by then first; where none waits, with the beam defined from BEAM_DATA in
the lowest free entry, deleted or read, or with the result that says why not. -/
def Obligations.BeamCommands : Prop := ∀ (s : State) (id : BitVec 15) (after : Fin 1025),
  let a := SLALOM_BEAM_STAT
  let taken := fun (op : Nat) => ({ s.setBit a SLALOM_BEAM_STAT_BUSY true with beamCmd := some (op, id.toNat, s.now) } : State).settle
  (s.answers SLALOM_BEAM_CMD = true → s.bit a SLALOM_BEAM_STAT_BUSY = false →
    exec (.beamDefine id) s = .next (taken 1) ∧ exec (.beamDefinePinned id) s = .next (taken 2) ∧
    exec (.beamDelete id) s = .next (taken 3) ∧ exec (.beamRead id) s = .next (taken 4)) ∧
  (s.answers SLALOM_BEAM_CMD = true → s.bit a SLALOM_BEAM_STAT_BUSY = true →
    ∀ i ∈ [Instr.beamDefine id, .beamDefinePinned id, .beamDelete id, .beamRead id], exec i s = .next s.accessError.settle) ∧
  (∀ w : Fin 64, s.answers (SLALOM_BEAM_DATA w) = true → s.bit a SLALOM_BEAM_STAT_BUSY = true → ∀ x lat ofs raced,
    exec (.registerWrite (BitVec.ofNat 28 (SLALOM_BEAM_DATA w)) x 0xF lat ofs raced) s = .next s.accessError.settle) ∧
  (∀ op t, s.beamCmd = some (op, id.toNat, t) →
    let v := s.advance (t + (after : Nat))
    exec (.beamCmdDone after) s = .next ((v.ctrlDue v.tb.toNat).beamCmdDone after).settle ∧
    (1 ≤ op → op ≤ 4 → s.ctrlCmds = [] → Answers (.beamCmdDone after) s fun u =>
      u.beamCmd = none ∧ u.bit a SLALOM_BEAM_STAT_BUSY = false ∧ u.now = max s.now (t + (after : Nat)) ∧
      (∀ e, op ≤ 2 → s.freeEntry = some e →
        u.beam id.toNat = some ⟨e, op == 2⟩ ∧ (∀ w < 64, u.weight (beamWordAt e w) = s.reg (SLALOM_BEAM_DATA w)) ∧
        (∀ k, (∀ w < 64, k ≠ beamWordAt e w) → u.weight k = s.weight k) ∧
        u.fld a SLALOM_BEAM_STAT_RESULT = 0 ∧ u.fld a SLALOM_BEAM_STAT_ENTRY = e) ∧
      (op ≤ 2 → s.freeEntry = none → u.beamMap = s.beamMap ∧ u.weights = s.weights ∧ u.fld a SLALOM_BEAM_STAT_RESULT = 1) ∧
      (∀ b, op = 3 → s.beam id.toNat = some b → u.beam id.toNat = none ∧ u.weights = s.weights ∧ u.fld a SLALOM_BEAM_STAT_RESULT = 0) ∧
      (∀ b, op = 4 → s.beam id.toNat = some b → (∀ w < 64, u.reg (SLALOM_BEAM_DATA w) = s.weight (beamWordAt b.entry w)) ∧
        u.weights = s.weights ∧ u.beamMap = s.beamMap ∧ u.fld a SLALOM_BEAM_STAT_RESULT = 0) ∧
      (3 ≤ op → s.beam id.toNat = none → u.beamMap = s.beamMap ∧ u.weights = s.weights ∧ u.fld a SLALOM_BEAM_STAT_RESULT = 2)))

/-- R146, R149, R151, R153: the one waiting item enters the pipeline when its window is open, its beams resolved, with the free pages it needs, or
waits for them; an item is complete at its time. At a horizon the one section-symbol to be judged commits: its result if that was complete by
then, else it is counted as a fallback. The model's choices in it: log entries 17, 18, 21, 90, 112. -/
def Obligations.SlalomWork : Prop := ∀ (s : State) (x : SecSym), s.slalomOn = true → s.sec x.key = some x →
  let slot := max s.now s.pipeFree
  let d := x.desc
  let at_ := max slot (s.instantOf (s.windowAt x.key.ul x.key.car x.key.sym))
  let r := s.resolve x.key.ul d
  ((s.secs.filter fun y => y.waits && (y.stage == .committed || s.tbAt slot < s.itemKey y)) = [x] → x.stage = .queued →
    (d.mode < modeInterp → exec .slalomItemStart s =
      .next ({ s.advance at_ with pipeFree := at_ + 8 }.modSec x.key fun y =>
        { y with stage := .computing, doneAt := at_ + 64, ids := r.1, ents := r.2.1, unknown := r.2.2,
                 weights := match r.2.1 with | e :: _ => .entry e | [] => .muted }).settle) ∧
    (modeInterp ≤ d.mode → (s.freePages d.pages).length = d.pages → Answers .slalomItemStart s fun u =>
      u.sec x.key = some { x with stage := .computing, doneAt := at_ + (512 + 2 * d.groups), ids := r.1, ents := r.2.1, unknown := r.2.2,
                                  weights := .pages (s.freePages d.pages) } ∧
      (∀ p ∈ s.freePages d.pages, u.page p = .speculative) ∧ u.pipeFree = at_ + 2 * d.groups ∧ u.now = at_) ∧
    ((s.freePages d.pages).length < d.pages → exec .slalomItemStart s = .next s.settle)) ∧
  (∀ t, (s.secs.filterMap fun y => y.completesAt.map fun t => (t, y)) = [(t, x)] → x.stage = .computing →
    exec .slalomItemComplete s =
      .next (((s.advance t).writePages d x.ents x.weights.pageList).modSec x.key fun y => { y with stage := .complete, replay := .none }).settle) ∧
  (∀ (ul : Bool) (c : Fin 4), (s.secs.filter fun y => y.stage.pending && y.key.ul == ul && y.key.car == (c : Nat)) = [x] → x.rejected = false →
    x.unknown = false → s.ctrlCmds = [] → (∀ e ∈ s.effects, e.die ≠ 4) →
    let h := s.horizonAt ul c x.key.sym
    let inTime := (x.stage = .computing ∨ x.stage = .complete) ∧ (s.advanceTb h).tbAt x.doneAt ≤ h
    Answers (.commitHorizon ul c) s fun u => u.tb = (s.advanceTb h).tb ∧ (∃ y, u.sec x.key = some y ∧ y.stage = .committed ∧
      (inTime → y.used = d ∧ y.weights = x.weights ∧ y.ents = x.ents ∧ y.fallback = false)) ∧
      (inTime → u.fld SLALOM_FALLBACK_COUNT SLALOM_FALLBACK_COUNT_COUNT = s.fld SLALOM_FALLBACK_COUNT SLALOM_FALLBACK_COUNT_COUNT) ∧
      (¬ inTime → u.stored Ev.SLALOM_FALLBACK = true ∧ u.fld SLALOM_FALLBACK_COUNT SLALOM_FALLBACK_COUNT_COUNT =
        min (s.fld SLALOM_FALLBACK_COUNT SLALOM_FALLBACK_COUNT_COUNT + 1) (2 ^ 32 - 1)))

/-- R134, R138, R145, R155, R158, R161, R314: where no replay is open, the words of a downlink symbol dispatched in time are at the tiles that take
the carrier, words too late are counted, and the symbol's section-symbols are done; before A(s-1) an open replay holds dispatch up. A symbol of an
uplink flow with no replay open and no upstream part is handed over, its section-symbols done. An error in the work on a section-symbol queues it
again or queues a replay, the changes accepted by then first; one in an entry loses it; one in layer data loses its words; these two are store
errors (R359). The wait for an upstream record ends WAIT Tc after the part's own sum, or at once where the UP port is not in RUN (R293). The
model's choices in it: log entries 3, 19, 21, 22, 23, 112, 118. -/
def Obligations.SlalomOutput : Prop := ∀ (s : State) (c : Fin 4),
  (∀ after, s.slalomOn = true → (s.fhTile false c).isSome = true →
    let n := (s.secs.filter fun x => x.stage == .committed && !x.key.ul && x.key.car == (c : Nat)).foldl (fun m x => min m x.key.sym)
      ((s.secCfg false c).symAt s.tb.toNat + 2)
    let xs := s.secs.filter fun x => x.stage == .committed && !x.key.ul && x.key.car == (c : Nat) && x.key.sym == n
    let v := s.advanceTb (s.horizonAt false c n + after)
    let inTime := v.tb.toNat < s.airAt false c (n - 1)
    ((∀ x ∈ xs, x.replay = .none) → Answers (.dlDispatchDone c after) s fun u =>
      (inTime → ∀ t : Fin 4, (s.txCfg t c).en = true → s.domOn (10 + t) = true → s.bit (TXCH_STATUS t) TXCH_STATUS_MUTE_LINK = false →
        (u.txSym ((n * 4 + c) * 4 + t)).held = true ∧
        ∀ i < 16, ∀ k < 12 * (s.txCfg t c).nrb, u.txWord (dlKey n c (16 * t + i) k) =
          if (s.txSym ((n * 4 + c) * 4 + t)).struck.contains (4096 * i + k) then s.txWord (dlKey n c (16 * t + i) k)
            else some (v.dlWord xs c n (16 * t + i) k).1) ∧
      (¬ inTime → u.txSyms = s.txSyms ∧ u.fld SLALOM_DISPATCH_LATE_COUNT SLALOM_DISPATCH_LATE_COUNT_COUNT =
        min (s.fld SLALOM_DISPATCH_LATE_COUNT SLALOM_DISPATCH_LATE_COUNT_COUNT + 1) (2 ^ 32 - 1)) ∧
      ∀ x ∈ u.secs, x.key.ul = false → x.key.car = (c : Nat) → x.key.sym = n → x.stage ≠ .committed) ∧
    ((∃ x ∈ xs, x.replay ≠ .none) → inTime → exec (.dlDispatchDone c after) s = .next v.settle)) ∧
  (∀ (layer : Fin 32) after x l,
    (s.secs.filter fun x => x.key.ul && x.stage == .committed && x.key.car == (c : Nat) && x.used.layer == (layer : Nat)) = x :: l →
    s.hasUpstream = false → (s.burog 0).sending = none →
    let n := l.foldl (fun m y => min m y.key.sym) x.key.sym
    (∀ y ∈ x :: l, y.key.sym = n → y.replay = .none) → Answers (.ulHandover c layer after) s fun u =>
      ∀ y ∈ u.secs, y.key.ul = true → y.key.car = (c : Nat) → y.used.layer = (layer : Nat) → y.key.sym = n → y.stage ≠ .committed) ∧
  (let v := (s.ctrlDue s.tb.toNat).beamsetsDue s.tb.toNat
   let counted := fun (u : State) => u.stored Ev.STORE_UNCORRECTABLE = true ∧
     u.fld DRAMC_STORE_UNCORR DRAMC_STORE_UNCORR_COUNT = min (v.fld DRAMC_STORE_UNCORR DRAMC_STORE_UNCORR_COUNT + 1) (2 ^ 32 - 1)
   (∀ k x, v.sec k = some x →
     (x.stage = .computing ∨ x.stage = .complete → exec (.engineSoftError (.work k)) s =
       .next ((v.dropItem k).countReplay.modSec k fun y => { y with stage := .queued, replay := .queued }).settle) ∧
     (x.stage = .committed → exec (.engineSoftError (.work k)) s =
       .next ((v.labelPages x.replay.pageList .free).countReplay.modSec k fun y => { y with replay := .queued }).settle)) ∧
   (∀ e id b, (v.beamMap.find? fun x => x.2.map (·.entry) == some e) = some (id, b) → Answers (.engineSoftError (.entry e)) s fun u =>
     u.entry e = .lost id ∧ u.beam id = none ∧ u.stored Ev.SLALOM_ENTRY_LOST = true ∧ counted u) ∧
   (∀ layer sym rb, Answers (.engineSoftError (.layerData c layer sym rb)) s fun u =>
     (∀ k < 12, u.layerWord (layerKey sym c layer (12 * rb + k)) = none) ∧ counted u)) ∧
  (∀ x, s.hasUpstream = true → (s.secs.filter fun x => x.awaits && x.replay == .none) = [x] →
    exec .psumWaitExpiry s = .next ((s.advanceTb (s.sumAt x + if s.burogState 1 = burogRun then s.fld SLALOM_CASC_CFG SLALOM_CASC_CFG_WAIT else 0)).expirePsum x.key).settle)

/-- R201, R195, R197, R201, R203. A burst commanded in Calibrate or On-air waits for the first multiple of 4 Tc at least 2,048 Tc ahead; in another
mode the command raises REG_ACCESS_ERROR. The first burst that waits is refused at its instant, with CALB_REFUSED, or runs and makes the port
busy; the results of a burst of KIND 0 to 2 free the port with CAL_DONE, and a path struck while its direction was measured has code 5. An update
of an ADC's estimates, 1,024 Tc after the latest, is held in force unless the path's calibration is held; a DAC's cells are calibrated when all
are measured and the DAC runs. The model's choices in it: log entries 81, 86, 87, 95. -/
def Obligations.Calibrations : Prop :=
  (∀ (s : State) (t : Fin 4) (pm : BitVec 16), s.answers (DFLY_CAL_CMD t) = true →
    let waits := fun (kind : Nat) => (s.modCal t fun c =>
      { c with pend := c.pend ++ [⟨kind, pm, (s.now + 2048 + 3) / 4 * 4, s.fld (DFLY_CAL_DUR t) DFLY_CAL_DUR_DUR, true, false, 0, 0⟩] }).settle
    (s.mode = .calibrate ∨ s.mode = .onAir →
      exec (.calCmdArrayTx t pm) s = .next (waits 0) ∧ exec (.calCmdArrayRx t pm) s = .next (waits 1) ∧
      exec (.calCmdReciprocity t pm) s = .next (waits 2) ∧ exec (.calCmdImage t pm) s = .next (waits 3)) ∧
    (s.mode ≠ .calibrate → s.mode ≠ .onAir → ∀ i ∈ [Instr.calCmdArrayTx t pm, .calCmdArrayRx t pm, .calCmdReciprocity t pm, .calCmdImage t pm],
      Answers i s fun u => Frame [] s u ∧ u.stored Ev.REG_ACCESS_ERROR = true)) ∧
  (∀ (s : State) (t : Fin 4) (i : Fin 16),
    (s.startCal = none → ∀ b rest, (s.cal t).pend = b :: rest →
      let u := (s.advance b.at_).modCal t fun c => { c with pend := rest }
      (u.burstRefused t b = true → exec (.calBurstStart t) s = .next (u.raise (Ev.CALB_REFUSED t)).settle) ∧
      (u.burstRefused t b = false → Answers (.calBurstStart t) s fun v =>
        (v.cal t).burst = some { b with running := true, at_ := u.now } ∧ (v.cal t).pend = rest ∧
        v.bit (DFLY_CAL_STAT t) DFLY_CAL_STAT_BUSY = true ∧ v.now = u.now)) ∧
    (s.startCal = none → ∀ after tx rx b, (s.cal t).burst = some b → b.kind ≤ 2 → Answers (.calBurstResults t after tx rx) s fun v =>
      (v.cal t).burst = none ∧ v.bit (DFLY_CAL_STAT t) DFLY_CAL_STAT_BUSY = false ∧ Told s v (Ev.CAL_DONE t) ∧
      v.now = max s.now (b.at_ + 4096 * (b.dur / 4096) + after) ∧ SameMemory s v ∧
      ∀ k : Fin 16, b.pmask.getLsbD k = true → (if b.kind = 1 then b.hitRx else b.hit).getLsbD k = true → v.fld (calR t b.kind k) DFLY_TXR_CODE = 5) ∧
    (∀ (corrections : List Int) (ok : Bool), s.mode.runsGlide = true → s.domOn (38 + 4 * t + i / 4) = true →
      let p := (s.advance (s.adcAt (pathKey t i) + 1024)).adcBlockPower t i
      let held := s.bit (RXCH_STATUS t) RXCH_STATUS_UNLOCK = true ∨ s.aligningTo t ≠ none ∨
        s.maskBit (DFLY_CONV_CTRL t) DFLY_CONV_CTRL_FREEZE i = true ∨ p < -50 * 256 ∨ -1 * 256 < p
      Answers (.adcCalUpdate t i corrections ok) s fun u => u.now = max s.now (s.adcAt (pathKey t i) + 1024) ∧ Keeps [DFLY_CONV_STAT t] s u ∧
        (held → u.adcInForce t i = s.adcInForce t i ∧ u.reg (DFLY_CONV_STAT t) = s.reg (DFLY_CONV_STAT t)) ∧
        (¬ held → u.adcInForce t i = corrections ∧ u.maskBit (DFLY_CONV_STAT t) DFLY_CONV_STAT_ADC_CONV i = ok ∧
          (s.maskBit (DFLY_CONV_STAT t) DFLY_CONV_STAT_ADC_CONV i = true → ok = false → Told s u (Ev.CONV_LOST t)))) ∧
    (s.dacRuns t i = true → Answers (.dacCellCalDone t i) s fun u =>
      u.maskBit (DFLY_CONV_STAT t) DFLY_CONV_STAT_DAC_OK i = true ∧ Frame [DFLY_CONV_STAT t] s u) ∧
    (s.dacRuns t i = false → exec (.dacCellCalDone t i) s = .next s.settle))

/-- R167 to R170, R188: a path not yet armed is armed for the next swap boundary; at the earliest boundary armed on a tile the banks of a path armed
for it change places and its ACTIVE bit takes SHADOW, unless updates are frozen. The table window reads either bank and writes the shadow bank
unless the path is locked, its word moving on with each access. -/
def Obligations.Predistortion : Prop := ∀ (s : State) (t : Fin 4) (w : Word),
  let a := TDPD_TBL_ADDR t
  let i := s.fld a TDPD_TBL_ADDR_PIDX
  let n := s.fld a TDPD_TBL_ADDR_WORD
  let bank := s.bit a TDPD_TBL_ADDR_BANK
  let locked := s.maskBit (TDPD_SWAP_STAT t) TDPD_SWAP_STAT_LOCK i
  (s.answers (TDPD_SWAP_ARM t) = true → ∀ pm : BitVec 16, Answers (.dpdSwapArmWrite t pm) s fun u => Keeps [TDPD_SWAP_STAT t] s u ∧ ∀ k : Fin 16,
    (s.swapPending t k = false → u.swapPending t k = pm.getLsbD k ∧ (pm.getLsbD k = true → u.dpdSwapAt (pathKey t k) = s.swapBoundary t)) ∧
    (s.swapPending t k = true → u.swapPending t k = true ∧ u.dpdSwapAt (pathKey t k) = s.dpdSwapAt (pathKey t k))) ∧
  (∀ k : Fin 16, s.swapPending t k = true → (∀ j : Fin 16, j ≠ k → s.swapPending t j = false) →
    (s.dpdFrozen = true → exec (.dpdSwapApply t) s = .next s.settle) ∧
    (s.dpdFrozen = false → Answers (.dpdSwapApply t) s fun u =>
      u.dpdSel (pathKey t k) = !s.dpdSel (pathKey t k) ∧ u.swapPending t k = false ∧
      u.maskBit (TDPD_ENABLE t) TDPD_ENABLE_ACTIVE k = s.maskBit (TDPD_ENABLE t) TDPD_ENABLE_SHADOW k ∧
      u.tb = (s.advanceTb (s.dpdSwapAt (pathKey t k))).tb ∧ SameMemory s u)) ∧
  (s.answers (TDPD_TBL_DATA t) = true →
    (bank = false → locked = false → n < 1920 → exec (.dpdTblDataWrite t w) s =
      .next ((s.setDpdEntry (s.tblKey (pathKey t i) false n) w).setFld a TDPD_TBL_ADDR_WORD (n + 1)).settle) ∧
    (bank = false → locked = false → 1920 ≤ n → exec (.dpdTblDataWrite t w) s = .next (s.setFld a TDPD_TBL_ADDR_WORD (n + 1)).settle) ∧
    (bank = true ∨ locked = true → Answers (.dpdTblDataWrite t w) s fun u =>
      u.stored Ev.REG_ACCESS_ERROR = true ∧ u.fld a TDPD_TBL_ADDR_WORD = (n + 1) % 2048 ∧ Frame [a] s u) ∧
    exec (.dpdTblDataRead t) s = .next ({ s.setFld a TDPD_TBL_ADDR_WORD (n + 1) with
      reply := if n < 1920 then s.dpdEntry (s.tblKey (pathKey t i) bank n) else 0 } : State).settle)

/-- R181 to R183, R185, R186, R189. An acquisition is judged, and rejected with its reason or held ready with its valid pairs. The solver adds an
acquisition to the job of its path and frees the buffer; a solve ends its job with its outcome, or its table write follows; a table write leaves
the coefficients found and the entries they give in the shadow bank, and the swap armed or reported. A coefficient command is taken unless one
runs or the path has an open job, else it is an access error; OP 1 leaves the identity coefficients and tables, OP 2 the tables that the
coefficients held give, and neither touches another path's coefficients. The window on the coefficients moves on with each access, a discarded one
too. The model's choices in it: log entries 3, 13, 14, 86. -/
def Obligations.DpdSolver : Prop :=
  (∀ s : State,
    (∀ (t : Fin 4) (r : Fin 2) (i : Fin 16) at_, (s.dfly (2 * t + r)).train = some i.val → (s.dfly (2 * t + r)).trainAt = some at_ →
      let x := s.dfly (2 * t + r)
      let z := (s.advance at_).acquire t r i x.trainFirst x.trainLen
      let reason := if z.1 = [] ∨ z.1.length < 256 * s.fld HDPD_CTRL HDPD_CTRL_MIN_VALID then 2 else if z.2.2 = false then 3
        else if s.maskBit (DFLY_STATUS t) DFLY_STATUS_STALE r then 4 else if s.bandCovers t r i = false then 5 else if x.swapped then 6 else 0
      Answers (.trainingBufferReady t r) s fun u => u.now = max s.now at_ ∧ u.fld (DFLY_ACQ_STAT t r) DFLY_ACQ_STAT_REASON = reason ∧
        u.fld (DFLY_ACQ_STAT t r) DFLY_ACQ_STAT_PIDX = i ∧ u.fld (DFLY_ACQ_DLY t r) DFLY_ACQ_DLY_DELAY = unsigned 16 z.2.1 ∧
        (reason = 0 → (u.dfly (2 * t + r)).ready = true ∧ (u.dfly (2 * t + r)).pairs = z.1) ∧
        (reason ≠ 0 → (u.dfly (2 * t + r)).train = none ∧ Told s u (Ev.DPD_ACQ_REJECTED t) ∧
          u.fld (DFLY_ACQ_REJECT_COUNT t) DFLY_ACQ_REJECT_COUNT_COUNT =
            min (s.fld (DFLY_ACQ_REJECT_COUNT t) DFLY_ACQ_REJECT_COUNT_COUNT + 1) (2 ^ 32 - 1))) ∧
    (∀ path t r stop, s.solver = some (.accumulate path t r stop) → Answers .dpdAccumulationDone s fun u =>
      (u.dfly (2 * t + r)).train = none ∧ u.now = max s.now stop ∧ ∀ j ∈ s.jobs, ∃ j' ∈ u.jobs, j'.path = j.path ∧
        j'.count = (if j.path = path then j.count + 1 else j.count) ∧
        j'.pairs = if j.path = path then j.pairs ++ (s.dfly (2 * t + r)).pairs else j.pairs) ∧
    (∀ path stop, path < 64 → s.solver = some (.solve path stop) →
      let swapped := s.jobs.any fun (j : Job) => j.path == path && j.swapped
      let conv : Int := -16 * s.fld HDPD_CTRL HDPD_CTRL_CONV
      let ends := fun (u : State) (code : Nat) => u.fld (HDPD_RESULT path) HDPD_RESULT_OUTCOME = code ∧ u.stored Ev.DPD_JOB_DONE = true
      Answers .dpdSolveDone s fun u => u.now = max s.now stop ∧ (swapped = true → ends u 5) ∧
        (swapped = false → match (s.advance stop).solve path with
          | none => ends u 2
          | some (nmse, coefs) => (nmse ≤ conv → ends u 1 ∧ u.fld (HDPD_RESULT path) HDPD_RESULT_NMSE = unsigned 16 nmse) ∧
              (conv < nmse → coefs = none → ends u 3) ∧
              (∀ c, conv < nmse → coefs = some c → outOfRange s.solverK c (s.tablesInUse (path / 16) (path % 16)) = true → ends u 4) ∧
              (∀ c, conv < nmse → coefs = some c → outOfRange s.solverK c (s.tablesInUse (path / 16) (path % 16)) = false →
                (s.swapPending (path / 16) (path % 16) = true → u.solver = some (.await path nmse c)) ∧
                (s.swapPending (path / 16) (path % 16) = false → s.dpdFrozen = false →
                  u.solver = some (.write path (u.now + s.writeTime path) nmse c))))) ∧
    (∀ path stop nmse coefs, path < 64 → s.solver = some (.write path stop nmse coefs) →
      (s.jobs.any fun (j : Job) => j.path == path && j.swapped) = false → Answers .dpdTableWriteDone s fun u =>
        u.fld (HDPD_RESULT path) HDPD_RESULT_OUTCOME = 0 ∧ u.stored Ev.DPD_JOB_DONE = true ∧
        (s.bit HDPD_CTRL HDPD_CTRL_AUTO_SWAP = false → u.stored Ev.DPD_UPDATE_READY = true) ∧
        (s.bit HDPD_CTRL HDPD_CTRL_AUTO_SWAP = true → u.swapPending (path / 16) (path % 16) = true) ∧
        (∀ w < 480, u.coef (coefKey path w) = BitVec.ofInt 32 (coefs.getD w 0)) ∧
        ∀ j ∈ s.tablesInUse (path / 16) (path % 16), ∀ e < 64, ∀ part ≤ 1,
          let v := entryPart s.solverK (u.coefWords path) j e part
          v ≤ 32767 → -32768 ≤ v → (u.dpdEntry (s.tblKey path false (64 * j + e))).extractLsb' (16 * part) 16 = BitVec.ofInt 16 v)) ∧
  (∀ (s : State) (path : Fin 64),
    (s.answers HDPD_COEF_CMD = true → s.coefBusy path = false →
      exec (.coefIdentity path) s = .next ({ s with coefCmd := some ⟨path, 1, none⟩ } : State).beginWrites.settle ∧
      exec (.coefTablesFromCoef path) s = .next ({ s with coefCmd := some ⟨path, 2, none⟩ } : State).beginWrites.settle) ∧
    (s.answers HDPD_COEF_CMD = true → s.coefBusy path = true →
      exec (.coefIdentity path) s = .next s.accessError.settle ∧ exec (.coefTablesFromCoef path) s = .next s.accessError.settle) ∧
    (∀ op stop, op = 1 ∨ op = 2 → s.coefCmd = some ⟨path, op, some stop⟩ → Answers .coefCmdDone s fun u => u.coefCmd = none ∧ u.now = max s.now stop ∧
      (∀ p w, p ≠ path.val → w < 480 → u.coef (coefKey p w) = s.coef (coefKey p w)) ∧
      (op = 1 → (∀ w < 480, u.coef (coefKey path w) = if w = 0 then 0x01000000 else 0) ∧
        ∀ j < 30, ∀ e < 64, u.dpdEntry (s.tblKey path false (64 * j + e)) = if j = 0 then 0x00004000 else 0) ∧
      (op = 2 → (∀ w < 480, u.coef (coefKey path w) = s.coef (coefKey path w)) ∧
        ∀ j ∈ s.tablesInUse (path / 16) (path % 16), ∀ e < 64, ∀ part ≤ 1,
          let v := entryPart s.solverK (s.coefWords path) j e part
          v ≤ 32767 → -32768 ≤ v → (u.dpdEntry (s.tblKey path false (64 * j + e))).extractLsb' (16 * part) 16 = BitVec.ofInt 16 v)) ∧
    (let p := s.fld HDPD_COEF_ADDR HDPD_COEF_ADDR_PATH
     let w := s.fld HDPD_COEF_ADDR HDPD_COEF_ADDR_WORD
     let next := if 479 ≤ w then 0 else w + 1
     s.answers HDPD_COEF_DATA = true →
      exec (.coefDataAccess none) s =
        .next ({ s.setFld HDPD_COEF_ADDR HDPD_COEF_ADDR_WORD next with reply := s.coef (coefKey p w) } : State).settle ∧
      (s.coefBusy p = false → ∀ v, exec (.coefDataAccess (some v)) s =
        .next ((s.setCoef (coefKey p w) v).setFld HDPD_COEF_ADDR HDPD_COEF_ADDR_WORD next).settle) ∧
      (s.coefBusy p = true → ∀ v, Answers (.coefDataAccess (some v)) s fun u => u.stored Ev.REG_ACCESS_ERROR = true ∧
        u.fld HDPD_COEF_ADDR HDPD_COEF_ADDR_WORD = next ∧ Frame [HDPD_COEF_ADDR] s u)))

/-- R172, R176, R201: SIDE bits change only in Configure, the training enables in every mode; the end of a receiver's image calibration applies and
stamps its correction, or keeps the earlier one and raises DFLY_IMGCAL_FAIL, and with a burst's last receiver its port is free. -/
def Obligations.DragonflyRegisters : Prop := ∀ (s : State) (t : Fin 4) (w : Word),
  (s.answers (DFLY_CTRL t) = true → s.mode = .configure → exec (.dflyCtrlWrite t w) s = .next (s.plainWrite (DFLY_CTRL t) w).settle) ∧
  (s.answers (DFLY_CTRL t) = true → s.mode ≠ .configure → Answers (.dflyCtrlWrite t w) s fun u =>
    u.fld (DFLY_CTRL t) ⟨0, 2⟩ = s.fld (DFLY_CTRL t) ⟨0, 2⟩ ∧
    u.fld (DFLY_CTRL t) DFLY_CTRL_TRAIN_EN_0 = getF w DFLY_CTRL_TRAIN_EN_0 ∧
    u.fld (DFLY_CTRL t) DFLY_CTRL_TRAIN_EN_1 = getF w DFLY_CTRL_TRAIN_EN_1 ∧
    (getF w ⟨0, 2⟩ ≠ s.fld (DFLY_CTRL t) ⟨0, 2⟩ → u.stored Ev.REG_ACCESS_ERROR = true) ∧ Frame [DFLY_CTRL t] s u) ∧
  (∀ (r : Fin 2) (rej : BitVec 8) taps, (s.dfly (2 * t + r)).imaging = true →
    let min_ := s.fld (DFLY_IMG_CFG t) DFLY_IMG_CFG_IMG_MIN
    Answers (.imageCalEnd t r rej taps) s fun u =>
      (u.dfly (2 * t + r)).imaging = false ∧ u.now = max s.now (s.dfly (2 * t + r)).imgStop ∧
      (min_ ≤ rej.toNat → u.maskBit (DFLY_STATUS t) DFLY_STATUS_IMG_VALID r = true ∧ u.maskBit (DFLY_STATUS t) DFLY_STATUS_IMG_DUE r = false ∧
        u.maskBit (DFLY_STATUS t) DFLY_STATUS_STALE r = false ∧ u.fld (DFLY_IMG_STAT t r) DFLY_IMG_STAT_REJ = rej.toNat ∧
        (u.dfly (2 * t + r)).taps = taps ∧ (u.dfly (2 * t + r)).imgAt = some u.now) ∧
      (rej.toNat < min_ → Told s u (Ev.DFLY_IMGCAL_FAIL t) ∧ u.reg (DFLY_IMG_STAT t r) = s.reg (DFLY_IMG_STAT t r) ∧
        u.reg (DFLY_STATUS t) = s.reg (DFLY_STATUS t) ∧ (u.dfly (2 * t + r)).taps = (s.dfly (2 * t + r)).taps) ∧
      (∀ b, (s.cal t).burst = some b → b.kind = 3 → b.pmask.toNat = 2 ^ r.val → (u.cal t).burst = none ∧ Told s u (Ev.CAL_DONE t) ∧
        u.bit (DFLY_CAL_STAT t) DFLY_CAL_STAT_BUSY = false) ∧
      Keeps ([DFLY_IMG_STAT t r, DFLY_STATUS t, DFLY_CAL_STAT t, TXCH_CNT_FLAGS t] ++ (List.range 16).map fun i => TXCH_CLIP_COUNT t i) s u) ∧
  (∀ (r : Fin 2) (rej : BitVec 8) taps, (s.dfly (2 * t + r)).imaging = false → exec (.imageCalEnd t r rej taps) s = .next s.settle)

/-- R213, R215, R218, Table 8-2: a power-up in On-air or Quiet takes quads that are OFF to wait for gate bias, their gate outputs enabled; one that
some quad refuses is counted once and leaves that quad as it is. A shutdown moves each quad as its state says, OP 3 takes quads in FAULT to OFF,
and a request that must wait is held. The model's choices in it: log entry 10. -/
def Obligations.SequencerRequests : Prop := ∀ (s : State) (t : Fin 4) (qm : BitVec 4), s.answers (SEQ_CMD t) = true →
  (s.mode = .onAir ∨ s.mode = .quiet → (∀ q : Fin 4, qm.getLsbD q = true → s.seqState t q = Seq.off) →
    Answers (.seqPowerUp t qm) s fun u => SameMemory s u ∧ ∀ q : Fin 4, qm.getLsbD q = true →
      (u.seqState t q = Seq.gateWait ∨ u.seqState t q = Seq.gateSettle) ∧
      ∀ i : Fin 16, (s.gateMask t q).testBit i = true → u.biasState t i ≠ BiasSt.hiz) ∧
  ((∃ q : Fin 4, qm.getLsbD q = true ∧ s.refusesUp t q = true) → Answers (.seqPowerUp t qm) s fun u =>
    u.fld (SEQ_REFUSED_COUNT t) SEQ_REFUSED_COUNT_COUNT = min (s.fld (SEQ_REFUSED_COUNT t) SEQ_REFUSED_COUNT_COUNT + 1) (2 ^ 32 - 1) ∧
    Told s u (Ev.SEQ_REQ_REFUSED t) ∧ SameMemory s u ∧
    ∀ q : Fin 4, qm.getLsbD q = true → s.refusesUp t q = true → u.seqState t q = s.seqState t q) ∧
  (Answers (.seqShutdown t qm) s fun u => SameMemory s u ∧ ∀ q : Fin 4, (u.seqState t q =
    if qm.getLsbD q then
      match s.seqState t q with
      | 1 | 2 => Seq.sdDrain
      | 3 | 4 => Seq.sdPa
      | 7 => if (s.quad (quadKey t q)).ends.isSome then Seq.fault else Seq.off
      | k => k
    else s.seqState t q) ∧
    (qm.getLsbD q = true → s.seqState t q = Seq.fault → (s.quad (quadKey t q)).ends.isSome = true → (u.quad (quadKey t q)).heldReq = true)) ∧
  (Answers (.seqClearFault t qm) s fun u => SameMemory s u ∧ ∀ q : Fin 4,
    (qm.getLsbD q = true → s.seqState t q = Seq.fault →
      if (s.quad (quadKey t q)).ends.isSome then u.seqState t q = Seq.fault ∧ (u.quad (quadKey t q)).heldReq = true
      else u.seqState t q = Seq.off ∧ u.fld (SEQ_STAT t q) SEQ_STAT_PAEN_REC = 0) ∧
    (qm.getLsbD q = true → s.seqState t q ≠ Seq.fault →
      u.seqState t q = s.seqState t q ∧ ((s.quad (quadKey t q)).seen.isSome = true → (u.quad (quadKey t q)).heldReq = true)) ∧
    (qm.getLsbD q = false → u.seqState t q = s.seqState t q ∧ u.quad (quadKey t q) = s.quad (quadKey t q)))

/-- R213, R214, R218, R219, Table 8-1: a GATEOK pin's level is seen 32 Tc after it changed, a brief low never; each step of the sequencer at the end
of its delay; the entry to FAULT with its cause. While an entry to FAULT is due DRAIN_SETTLE does not end. The model's choices in it: log entries
12, 52. -/
def Obligations.SequencerSteps : Prop := ∀ (s : State) (t q : Fin 4) (e : Nat),
  let k := quadKey t q
  (∀ (level : Bool) (ago : Fin 33) (brief : Bool),
    let bit := BitVec.ofNat 16 (2 ^ k)
    let v := { s.advance (s.now + 32 - ago) with gatePins := if level then s.gatePins ||| bit else s.gatePins &&& ~~~ bit }
    (brief = true → level = false → exec (.gateokChange t q level ago brief) s = .next s.settle) ∧
    (brief = false ∨ level = true → s.domOn (10 + t) = true → s.bit (SEQ_STAT t q) SEQ_STAT_GATEOK ≠ level →
      exec (.gateokChange t q level ago brief) s = .next ((v.setBit (SEQ_STAT t q) SEQ_STAT_GATEOK level).judgeQuad t q).settle) ∧
    (brief = false ∨ level = true → s.domOn (10 + t) = false ∨ s.bit (SEQ_STAT t q) SEQ_STAT_GATEOK = level →
      exec (.gateokChange t q level ago brief) s = .next v.settle)) ∧
  ((s.quad k).ends = some e →
    (s.seqState t q = Seq.gateSettle → exec (.seqGateSettleEnd t q) s =
      .next (((s.advance e).setSeqState t q Seq.drainSettle).setEnds t q
        (some (delayEnd (s.advance e).now (s.fld (SEQ_DLY_A t q) SEQ_DLY_A_T_DRAIN)))).settle) ∧
    (s.seqState t q = Seq.drainSettle → (s.quad k).seen = none → exec (.seqDrainSettleEnd t q) s =
      .next ((((s.advance e).setSeqState t q Seq.ready).setEnds t q none).raise (Ev.SEQ_READY t)).settle) ∧
    ((s.quad k).seen ≠ none → exec (.seqDrainSettleEnd t q) s = .next s.settle) ∧
    (s.seqState t q = Seq.sdPa → exec (.seqPaoffEnd t q) s =
      .next (((s.advance e).setSeqState t q Seq.sdDrain).setEnds t q
        (some (delayEnd (s.advance e).now (s.fld (SEQ_DLY_B t q) SEQ_DLY_B_T_DRAINOFF)))).settle) ∧
    (s.seqState t q = Seq.sdDrain → Answers (.seqDrainoffEnd t q) s fun u =>
      u.seqState t q = Seq.off ∧ u.fld (SEQ_STAT t q) SEQ_STAT_PAEN_REC = 0 ∧ (u.quad k).ends = none ∧ Told s u (Ev.SEQ_OFF t) ∧
      ((∀ p : Fin 4, s.seqState t p ≠ Seq.gateSettle) → ∀ i : Fin 16, (s.gateMask t q).testBit i = true →
        u.biasState t i = if s.bit (SEQ_CFG t q) SEQ_CFG_GATE_KEEP then s.biasState t i else BiasSt.hiz)) ∧
    (s.seqState t q = Seq.fault → Answers (.seqDrainoffEnd t q) s fun u =>
      u.seqState t q = (if (s.quad k).heldReq then Seq.off else Seq.fault) ∧ (u.quad k).ends = none) ∧
    (s.seqState t q = Seq.gateWait → exec (.seqGokTimeout t q) s = .next (((s.advance e).seeCause t q 1).setEnds t q none).settle)) ∧
  (∀ cause, (s.quad k).seen = some (cause, e) → cause < 8 → Answers (.seqFaultEntry t q) s fun u =>
    u.seqState t q = Seq.fault ∧ u.fld (SEQ_STAT t q) SEQ_STAT_CAUSE = cause ∧ u.fld (SEQ_STAT t q) SEQ_STAT_PAEN_REC = 0 ∧
    Told s u (Ev.SEQ_FAULT t) ∧ (u.quad k).seen = none ∧
    (u.quad k).ends = some (delayEnd (s.advance e).now (s.fld (SEQ_DLY_B t q) SEQ_DLY_B_T_DRAINOFF)))

/-- R221 to R226: a write that would disable a locked output or change its range is an access error; else an output enabled drives its SAFE code, a
change of range passes RANGE_CHANGE and ends in DRIVE with SAFE, an output no quad locks is disabled. Codes queue up to 16, and one goes out, or a
step of the sine, at each tick of the update clock; a read-back within tolerance clears MM, one beyond it counts towards MM. The model's choices
in it: log entries 52, 56. -/
def Obligations.BiasOutputs : Prop := ∀ (s : State) (t : Fin 4) (i : Fin 16) (w : Word),
  let k := biasKey t i
  let cfg := BIASOUT_CFG t i
  let stat := BIASOUT_STAT t i
  let moved := getF w BIASOUT_CFG_RANGE ≠ s.fld cfg BIASOUT_CFG_RANGE
  let barred := s.biasLocked t i = true ∧ ((s.bit cfg BIASOUT_CFG_EN = true ∧ bitF w BIASOUT_CFG_EN = false) ∨ moved)
  let sine := s.bit cfg BIASOUT_CFG_SINE
  (s.answers cfg = true →
    (barred → exec (.biasCfgWrite t i w) s = .next (s.accessError.raise (Ev.SEQ_BIAS_LOCKED t)).settle) ∧
    (¬ barred → bitF w BIASOUT_CFG_EN = true → s.biasState t i = BiasSt.hiz → Answers (.biasCfgWrite t i w) s fun u =>
      u.biasState t i = BiasSt.drive ∧ u.fld stat BIASOUT_STAT_PIN_CODE = s.fld (BIASOUT_SAFE t i) BIASOUT_SAFE_CODE ∧ (u.bias k).since = s.now) ∧
    (¬ barred → bitF w BIASOUT_CFG_EN = true → s.biasState t i ≠ BiasSt.hiz → moved → Answers (.biasCfgWrite t i w) s fun u =>
      u.biasState t i = BiasSt.rangeChange ∧ (u.bias k).rangeEnd = s.now + 49152) ∧
    (¬ barred → (bitF w BIASOUT_CFG_EN = true ↔ s.biasState t i ≠ BiasSt.hiz) → ¬ moved →
      exec (.biasCfgWrite t i w) s = .next (s.plainWrite cfg w).settle) ∧
    (s.biasLocked t i = false → bitF w BIASOUT_CFG_EN = false → Answers (.biasCfgWrite t i w) s fun u => u.biasState t i = BiasSt.hiz)) ∧
  (s.biasState t i = BiasSt.rangeChange → Answers (.biasRangeChangeEnd t i) s fun u => u.biasState t i = BiasSt.drive ∧
    u.fld stat BIASOUT_STAT_PIN_CODE = s.fld (BIASOUT_SAFE t i) BIASOUT_SAFE_CODE ∧ u.now = max s.now (s.bias k).rangeEnd) ∧
  (s.answers (BIASOUT_CODE t i) = true → (s.bias k).queue.length < 16 →
    exec (.biasCodeWrite t i w) s = .next (s.modBias k fun b => { b with queue := b.queue ++ [w.setWidth 16] }).settle) ∧
  (s.answers (BIASOUT_CODE t i) = true → 16 ≤ (s.bias k).queue.length →
    exec (.biasCodeWrite t i w) s = .next ((s.setBit stat BIASOUT_STAT_QFULL true).raise (Ev.BIAS_QUEUE_FULL t)).settle) ∧
  (s.biasState t i = BiasSt.drive → Answers (.biasUpdateTick t i) s fun u =>
    u.now = max s.now (s.bias k).tick ∧ (u.bias k).tick = (s.bias k).tick + s.biasStep t i ∧ Keeps [stat] s u ∧
    (∀ c rest, sine = false → (s.bias k).queue = c :: rest → u.fld stat BIASOUT_STAT_PIN_CODE = c.toNat ∧ (u.bias k).queue = rest) ∧
    (sine = false → (s.bias k).queue = [] → u.reg stat = s.reg stat) ∧
    (sine = true → let φ := (if (s.bias k).sine then (s.bias k).phase else 0) + s.reg (BIASOUT_SINE_INC t i)
      (u.bias k).phase = φ ∧ u.fld stat BIASOUT_STAT_PIN_CODE = sineCode (s.reg (BIASOUT_SINE_AO t i)) φ)) ∧
  (∀ reading : BitVec 12,
    let compared := s.biasState t i = BiasSt.drive ∧ sine = false ∧
      196608 * s.fld (BIASOUT_RB_CFG t) BIASOUT_RB_CFG_SETTLE ≤ 100 * (s.now - (s.bias k).since)
    let within := |16 * (reading.toNat : Int) - (s.fld stat BIASOUT_STAT_PIN_CODE : Int)| ≤ 16 * (s.fld (BIASOUT_RB_CFG t) BIASOUT_RB_CFG_TOL : Int)
    let cnt := max 1 (s.fld (BIASOUT_RB_CFG t) BIASOUT_RB_CFG_CNT)
    (compared → within →
      exec (.biasReadback t i reading) s = .next ((s.setBit stat BIASOUT_STAT_MM false).modBias k fun b => { b with off := 0 }).settle) ∧
    (compared → ¬ within → Answers (.biasReadback t i reading) s fun u => (u.bias k).off = min cnt ((s.bias k).off + 1) ∧ Keeps [stat] s u ∧
      u.bit stat BIASOUT_STAT_MM = (s.bit stat BIASOUT_STAT_MM || decide (cnt ≤ (s.bias k).off + 1)) ∧
      (cnt ≤ (s.bias k).off + 1 → s.bit stat BIASOUT_STAT_MM = false → Told s u (Ev.BIAS_MISMATCH t))) ∧
    (¬ compared → exec (.biasReadback t i reading) s = .next s.settle))

/-- R227 to R230: a command finds its master's queue full, one that the guard holds among its 32, or joins the queue, or is bad and an access error. A
frame done goes out, and a read's result joins the FIFO; after a flush the queues are empty. The next timed frame starts at its instant on a free
bus, or as the bus becomes free and is reported. A read of RD takes the oldest result. The model's choices in it: log entry 57. -/
def Obligations.RffeMasters : Prop := ∀ (s : State) (t q : Fin 4) (data : Byte),
  let k := quadKey t q
  (∀ usid addr i c, (i, c) ∈ rffeCommands t q usid addr data → s.answers (RFFE_CMD t q) = true →
    (32 ≤ (s.rffe k).queued s.now → Answers i s fun u => u.bit (RFFE_STAT t q) RFFE_STAT_QFULL = true ∧ u.stored Ev.REG_ACCESS_ERROR = true ∧
      Told s u (Ev.RFFE_QUEUE_FULL t) ∧ Frame [RFFE_STAT t q] s u) ∧
    ((s.rffe k).queued s.now < 32 → c.ok = true →
      exec i s = .next ((s.modRffe k fun m => { m with queue := m.queue ++ [c] }).rffeKick t q).settle) ∧
    ((s.rffe k).queued s.now < 32 → c.ok = false → exec i s = .next s.accessError.settle)) ∧
  (∀ f bad, (s.rffe k).bus = some f → Answers (.rffeFrameDone t q data bad) s fun u =>
    Out.rffe k f.cmd ∈ u.out ∧ f.stop ≤ u.now ∧ (u.rffe k).freeAt = f.stop ∧
    (rffeReads f.cmd.op = true → bad = true → u.bit (RFFE_STAT t q) RFFE_STAT_PARERR = true ∧ Told s u (Ev.RFFE_PARITY t)) ∧
    ((s.rffe k).flush = false → (u.rffe k).fifo =
      if rffeReads f.cmd.op then (s.rffe k).fifo ++ [⟨bad, f.cmd.usid, f.cmd.addr, data⟩] else (s.rffe k).fifo) ∧
    ((s.rffe k).flush = true → (u.rffe k).bus = none ∧ (u.rffe k).queue = [] ∧ (u.rffe k).timed = [] ∧ (u.rffe k).fifo = [])) ∧
  (∀ x, firstTimed (s.rffe k).timed = some x →
    let m := (s.rffe k).recall (max x.at_ s.now - 1)
    (m.bus = none → m.freeAt ≤ x.at_ → m.lastDue ≠ some x.at_ → exec (.rffeTimedFrameStart t q) s =
      .next (((s.advance x.at_).setRffe k { m with timed := m.timed.erase x, lastDue := some x.at_, late := false }).startFrame
        t q x.cmd x.at_ (some x.at_)).settle) ∧
    (m.bus = none → x.at_ < m.freeAt → m.lastDue ≠ some x.at_ → Answers (.rffeTimedFrameStart t q) s fun u =>
      Told s u (Ev.RFFE_STEP_DELAYED t) ∧ u.now = max s.now m.freeAt ∧ (u.rffe k).timed = m.timed.erase x ∧
      (u.rffe k).bus = some ⟨x.cmd, m.freeAt, m.freeAt + s.rffeTime t q x.cmd.op, some x.at_⟩) ∧
    (m.bus ≠ none → exec (.rffeTimedFrameStart t q) s = .next s.settle)) ∧
  (s.answers (RFFE_RD t q) = true → (s.rffe k).fifo = [] → exec (.rffeRdRead t q) s = .next ({ s with reply := 0 } : State).settle) ∧
  (∀ r rest, s.answers (RFFE_RD t q) = true → (s.rffe k).fifo = r :: rest → Answers (.rffeRdRead t q) s fun u =>
    getF u.reply RFFE_RD_VALID = 1 ∧ getF u.reply RFFE_RD_PAR = b2n r.bad ∧ getF u.reply RFFE_RD_USID = r.usid.toNat ∧
    getF u.reply RFFE_RD_DATA = r.data.toNat ∧ getF u.reply RFFE_RD_ADDR = r.addr.toNat ∧ (u.rffe k).fifo = rest)

/-- R242, R245, R247 to R250: what a request, a full adaptation, an epoch and the end of adaptation make of a lane, and what the PLL of a quad does to
its lanes. A lane goes where it is asked to, through RESUMING where it holds coefficients or else ADAPTING; an epoch of a running lane gives its
figure of merit; a resume that succeeds, or an adaptation done, makes it ACTIVE or idle; a resume timed out adapts. The model's choices in it: log
entry 29. -/
def Obligations.SerialLanes : Prop := ∀ (s : State) (l : Fin 16) (w : Word),
  let a := LANEQ_LSTAT l
  let quad := (l : Nat) / 4
  let cur := s.laneState l
  let req := getF w LANEQ_LCTRL_REQ
  let want := if s.quadRuns quad = false then laneDisabled else if s.domOn (6 + quad) = false then laneSleep else req
  let lock := s.bit (LANEQ_QSTAT quad) LANEQ_QSTAT_PLL_LOCK
  let runs := if s.laneTarget l = laneIdle then laneIdle else laneActive
  (s.answers (LANEQ_LCTRL l) = true → req < 3 →
    (bitF w LANEQ_LCTRL_FULL_ADAPT = false → Answers (.laneReqWrite l w) s fun u => u.laneState l =
      if want = laneDisabled ∨ want = laneSleep then want
      else if cur = laneActive ∨ cur = laneIdle then (if want = laneActive ∧ lock = false then cur else want)
      else if cur = laneSleep then (if (s.lane l).coef ∧ !Config.steppingA1 then laneResuming else laneAdapting)
      else if cur = laneDisabled then laneAdapting else cur) ∧
    (bitF w LANEQ_LCTRL_FULL_ADAPT = true → exec (.laneReqWrite l w) s = exec (.laneFullAdapt l w) s) ∧
    (cur ≠ laneDisabled → Answers (.laneFullAdapt l w) s fun u => (u.lane l).coef = false ∧ u.bit a LANEQ_LSTAT_ADAPTED = false ∧
      u.laneState l = if want = laneActive ∨ want = laneIdle then laneAdapting else want)) ∧
  (∀ (fom : BitVec 8) sig cdr errors, (∀ e, s.eye = some e → e.lane ≠ (l : Nat)) → (s.lane l).scanned = false →
    (cur = laneSleep ∨ cur = laneDisabled → exec (.laneEpoch l fom sig cdr errors) s = .next s.settle) ∧
    (cur = laneActive ∨ cur = laneIdle → Answers (.laneEpoch l fom sig cdr errors) s fun u => u.laneState l = cur ∧
      u.fld a LANEQ_LSTAT_FOM = (if sig && cdr then fom.toNat else 0) ∧ u.bit a LANEQ_LSTAT_SIGNAL = sig ∧ u.bit a LANEQ_LSTAT_CDR_LOCK = cdr ∧
      u.bit a LANEQ_LSTAT_ADAPTED = (sig && cdr && (s.lane l).coef) ∧
      (cur = laneActive → s.patternOf l LANEQ_LCTRL_PAT_RX ≠ 0 →
        (u.reg (LANEQ_PRBS_ERR l)).toNat = min ((s.reg (LANEQ_PRBS_ERR l)).toNat + errors) (2 ^ 32 - 1)) ∧
      Keeps [a, LANEQ_PRBS_ERR l, LANEQ_CNT_FLAGS] s u) ∧
    (cur = laneResuming → sig = true → cdr = true → lock = true → s.fld LANEQ_ADAPT_CFG LANEQ_ADAPT_CFG_FOM_MIN ≤ fom.toNat →
      Answers (.laneEpoch l fom sig cdr errors) s fun u => u.laneState l = runs ∧ u.bit a LANEQ_LSTAT_ADAPTED = true)) ∧
  (cur = laneResuming → Answers (.laneResumeTimeout l) s fun u => u.laneState l = laneAdapting ∧ (u.lane l).coef = false ∧
    u.stored Ev.LANE_ADAPT_FALLBACK = true ∧ u.now = max s.now ((s.lane l).asked + usTc 2000)) ∧
  (cur ≠ laneResuming → exec (.laneResumeTimeout l) s = .next s.settle) ∧
  (cur = laneAdapting → lock = true → Answers (.laneAdaptDone l) s fun u => u.laneState l = runs ∧ (u.lane l).coef = true ∧
    u.bit a LANEQ_LSTAT_ADAPTED = (s.bit a LANEQ_LSTAT_SIGNAL && s.bit a LANEQ_LSTAT_CDR_LOCK)) ∧
  (cur ≠ laneAdapting ∨ lock = false → exec (.laneAdaptDone l) s = .next s.settle) ∧
  (∀ n : Fin 4,
    let q := LANEQ_QSTAT n
    (s.bit q LANEQ_QSTAT_PLL_ON = false → ∀ locked, exec (.laneqPllLockChange n locked) s = .next s.settle) ∧
    (s.bit q LANEQ_QSTAT_PLL_ON = true → Answers (.laneqPllLockChange n false) s fun u => u.bit q LANEQ_QSTAT_PLL_LOCK = false ∧
      ∀ i < 4, s.laneState (4 * n + i) = laneActive → (u.lane (4 * n + i)).lost = true) ∧
    (s.bit q LANEQ_QSTAT_PLL_ON = true → (∃ i < 4, s.laneState (4 * n + i) = laneActive ∧ s.laneTarget (4 * n + i) = laneActive) →
      Answers (.laneqPllLockChange n true) s fun u => u.bit q LANEQ_QSTAT_PLL_LOCK = true ∧
        ∀ i < 4, s.laneState (4 * n + i) = laneActive → (s.lane (4 * n + i)).lost = true → u.laneState (4 * n + i) = laneResuming))

/-- R237, R238, R244, R245: an eye-scan point begins on an ACTIVE, locked lane that a loop leaves its receiver, and ends with its count; on another
lane it ends at once with result 1; while one runs the write is an access error. A port's alignment needs usable lanes that carry traffic, and its
link follows alignment and faults. The model's choices in it: log entry 97. -/
def Obligations.EyeAndLinks : Prop := ∀ (s : State) (w : Word),
  let st := LANEQ_EYE_STAT
  (s.answers LANEQ_EYE_CTRL = true → s.bit st LANEQ_EYE_STAT_BUSY = true → exec (.eyeScanGo w) s = .next s.accessError.settle) ∧
  (s.answers LANEQ_EYE_CTRL = true → s.bit st LANEQ_EYE_STAT_BUSY = false →
    let l := getF w LANEQ_EYE_CTRL_LANE
    let bad := s.laneState l ≠ laneActive ∨ s.bit (LANEQ_LSTAT l) LANEQ_LSTAT_CDR_LOCK = false ∨
      (s.mode = .test ∧ s.fld (LANEQ_LCTRL l) LANEQ_LCTRL_LOOP = 2)
    (bitF w LANEQ_EYE_CTRL_GO = false → exec (.eyeScanGo w) s = .next (s.plainWrite LANEQ_EYE_CTRL w).settle) ∧
    (bitF w LANEQ_EYE_CTRL_GO = true → ¬ bad → Answers (.eyeScanGo w) s fun u => u.bit st LANEQ_EYE_STAT_BUSY = true ∧ u.reg LANEQ_EYE_ERR = 0 ∧
      u.bit (LANEQ_LSTAT l) LANEQ_LSTAT_FOM_STALE = true ∧ ∃ e, u.eye = some e ∧ e.lane = l ∧
        let rate := symbolRate (s.fld (LANEQ_QCFG (l / 4)) LANEQ_QCFG_RATE)
        e.stop = s.now + (2 ^ clampN 16 36 (getF w LANEQ_EYE_CTRL_DWELL_LOG2) * 196608 + rate - 1) / rate + usTc 2) ∧
    (bitF w LANEQ_EYE_CTRL_GO = true → bad → Answers (.eyeScanGo w) s fun u => u.bit st LANEQ_EYE_STAT_BUSY = false ∧
      u.bit st LANEQ_EYE_STAT_DONE = true ∧ u.fld st LANEQ_EYE_STAT_RESULT = 1 ∧ u.stored Ev.EYESCAN_DONE = true)) ∧
  (∀ e n, s.eye = some e → Answers (.eyeScanDone n) s fun u => u.eye = none ∧ u.now = max s.now e.stop ∧
    u.bit st LANEQ_EYE_STAT_BUSY = false ∧ u.bit st LANEQ_EYE_STAT_DONE = true ∧ u.fld st LANEQ_EYE_STAT_RESULT = 0 ∧
    u.stored Ev.EYESCAN_DONE = true ∧ (u.reg LANEQ_EYE_ERR).toNat = min ((s.reg LANEQ_EYE_ERR).toNat + n) (2 ^ 32 - 1)) ∧
  (s.eye = none → ∀ n, exec (.eyeScanDone n) s = .next s.settle) ∧
  (∀ (p : Fin 8) aligned lf rf skew,
    let ready := s.portUsable p && s.lanesUp p && aligned && (typeLanes (portType s p) == 1 || decide (skew ≤ 64))
    Answers (.macLinkChange p aligned lf rf skew) s fun u =>
      u.bit (MAC_PSTAT p) MAC_PSTAT_ALIGNED = ready ∧ u.bit (MAC_PSTAT p) MAC_PSTAT_LOCAL_FAULT = lf ∧
      u.bit (MAC_PSTAT p) MAC_PSTAT_REMOTE_FAULT = rf ∧ u.bit (MAC_PSTAT p) MAC_PSTAT_LINK = (ready && !lf && !rf) ∧
      (s.bit (MAC_PSTAT p) MAC_PSTAT_LINK = true → (ready && !lf && !rf) = false →
        (u.port p).sending = none ∧
        (s.follows Ev.MAC_LINK_DOWN = false ∨ s.bit (MAC_PCFG p) MAC_PCFG_EN = true → u.status Ev.MAC_LINK_DOWN = true)))

/-- R238 to R241, R246, Tables 9-3 and 9-4: a near-end loop ignores the RX pins, and a far-end loop sends back what they bring, whatever the link; a
frame cut by its link is discarded, one on a port whose link is down is nothing; else one received is counted or handed on as the first row of
Table 9-3 that fits it says, after the codewords of RS-FEC, whose numbers are free values. The frame being sent is counted and goes out, and the
next of its port, the first of the highest priority, is taken for sending with its timestamp. The model's choices in it: log entries 24, 25, 97,
116, 119. -/
def Obligations.EthernetFrames : Prop := ∀ (s : State) (p : Fin 8) (bytes : List Byte) (ago : Nat),
  let count := fun (x : State) (a k : Nat) => x.bump a (MAC_CNT_FLAGS p) k 1
  let link := s.bit (MAC_PSTAT p) MAC_PSTAT_LINK
  let near := (s.portLanes p).any s.nearEnd
  let v := if (s.portLanes p).all s.farEnd then s.emit (.frame p bytes) else s
  let w := v.fecCount p
  let discard := Host.Outcome.next (count w (MAC_RX_DISCARD p) 3).settle
  let outer := num bytes 12 2
  let inner := num bytes 16 2
  let tagged := outer = 0x8100 ∧ inner ≠ 0x8100 ∧ inner ≠ 0x88A8 ∧ inner ≠ 0x9100
  let etype := if tagged then inner else outer
  let dest := slice bytes 0 6
  let sized := 60 ≤ bytes.length ∧ bytes.length + 4 ≤ s.maxFrame p
  let mine := dest = s.portAddr p ∨ natOf dest = 0xFFFFFFFFFFFF ∨ natOf dest = 0x011B19000000 ∨ natOf dest = 0x0180C200000E
  let ours := if s.bit (MAC_VLAN p) MAC_VLAN_FH_TAG then tagged ∧ num bytes 14 2 % 4096 = s.fld (MAC_VLAN p) MAC_VLAN_FH_VID else ¬ tagged
  let get := exec (.ethFrameReceive p bytes false ago) s
  (near = true → ∀ bad, exec (.ethFrameReceive p bytes bad ago) s = .next s.settle) ∧
  (near = false → s.cutByDown p ago = true → ∀ bad, exec (.ethFrameReceive p bytes bad ago) s = .next (count v (MAC_RX_DISCARD p) 3).settle) ∧
  (near = false → s.cutByDown p ago = false → link = false → ∀ bad, exec (.ethFrameReceive p bytes bad ago) s = .next v.settle) ∧
  (near = false → s.cutByDown p ago = false → link = true →
    exec (.ethFrameReceive p bytes true ago) s = .next (count w (MAC_RX_FCS_ERR p) 2).settle ∧
    (¬ sized ∨ ¬ mine ∨ etype = 0x8808 → get = discard) ∧
    (sized → mine → etype = 0xAEFE → ours →
      get = .next ((count w (MAC_RX_FRAMES p) 0).fhReceive p ago (bytes.drop (if tagged then 18 else 14))).settle) ∧
    (sized → mine → etype = 0x88F7 → get = .next ((count w (MAC_RX_FRAMES p) 0).ptpReceive p ago bytes).settle) ∧
    (sized → mine → etype ≠ 0x8808 → ¬ (etype = 0xAEFE ∧ ours) → etype ≠ 0x88F7 →
      get = if s.bit (MAC_PCFG p) MAC_PCFG_MGMT_EN then
        .next ({ count w (MAC_RX_FRAMES p) 0 with mgmtIn := s.mgmtIn ++ [⟨p, s.now, bytes⟩] } : State).settle else discard)) ∧
  (link = false → exec (.ethFrameTransmit p) s = .next s.settle) ∧
  (∀ f, link = true → (s.port p).sending = none → (s.port p).next = some f →
    let z := (s.modPort p fun q => { q with queue := q.queue.erase f }).stampFrame p f
    exec (.ethFrameTransmit p) s = .next (z.1.modPort p fun q => { q with sending := some z.2, sentAt := z.1.now }).settle) ∧
  (∀ f, link = true → s.mode ≠ .test → (s.port p).sending = some f → (s.port p).queue = [] → exec (.ethFrameTransmit p) s =
    .next (((s.modPort p fun q => { q with sending := none }).bump (MAC_TX_FRAMES p) (MAC_CNT_FLAGS p) 1 1).emit (.frame p f.bytes)).settle)

/-- R254, R258, R259, R262 to R265: a message whose checks fail leaves what its check says. An accepted data message of one section stores its words;
early it is only counted, late counted and reported. An accepted control message hands on its listed commands, with its time fields and acceptance
instant. The model's choices in it: log entries 24, 35, 105. -/
def Obligations.FronthaulMessages : Prop := ∀ (s u v : State) (m : EcpriMsg) (b : List Byte),
  let c := num b 0 2 / 4096 % 4
  let t := timeFields b
  let sub := t.2.1
  let slot := t.2.2.1
  let data := s.takeFh (fun m => m.type == 0)
  let ctrl := s.takeFh (fun m => m.type == 2)
  (data = none → exec .fhDataMessage s = .next s.settle) ∧ (ctrl = none → exec .fhControlMessage s = .next s.settle) ∧
  (data = some (m, u) → u.fhAccept m = .inl v → exec .fhDataMessage s = .next v.settle) ∧
  (ctrl = some (m, u) → u.fhAccept m = .inl v → exec .fhControlMessage s = .next v.settle) ∧
  (u.fhModeOk = false → u.fhAccept m = .inl (u.fhCount MAC_FH_MODE_DISCARD 1)) ∧
  (∀ d, data = some (m, u) → u.fhAccept m = .inr (v, b) → num b 4 1 / 16 = 1 → sub ≤ 9 → (v.secCfg false c).slotOk slot = true →
    t.2.2.2 < (v.secCfg false c).perSlot →
    dataSections (v.secCfg false c).nrb b.length (slice b 12 (b.length - 16)) = some [d] →
    let n := v.symNamed false c t.1 sub slot t.2.2.2 v.tb.toNat
    let early := v.tb.toNat + usTc (v.fld MAC_FH_WIN MAC_FH_WIN_DL_EARLY) < v.airAt false c n
    (early → exec .fhDataMessage s = .next (v.fhCount MAC_FH_DL_EARLY 1).settle) ∧
    (¬ early → v.horizonAt false c n ≤ v.tb.toNat → exec .fhDataMessage s = .next ((v.fhCount MAC_FH_DL_LATE 1).raise Ev.FH_DL_LATE).settle) ∧
    (¬ early → v.tb.toNat < v.horizonAt false c n → v.unitsHeld + (8 + d.bytes.length + 63) / 64 ≤ storeUnits → d.start + d.nrb ≤ 341 →
      Answers .fhDataMessage s fun x => ∀ r < d.nrb, ∀ k < 12,
        x.layerWord (layerKey n c (num b 0 2 / 128 % 32) (12 * (d.start + r) + k)) = (d.words r)[k]?)) ∧
  (∀ cs, ctrl = some (m, u) → u.fhAccept m = .inr (v, b) → num b 4 1 / 16 = 1 → sub ≤ 9 →
    ([false, true].any fun ul => (v.fhTile ul c).isSome && (v.secCfg ul c).slotOk slot) = true →
    commands (wordsOf (slice b 12 (b.length - 16))).length (wordsOf (slice b 12 (b.length - 16))) = some cs →
    v.unitsHeld + (b.length + 63) / 64 ≤ storeUnits →
    Answers .fhControlMessage s fun x => x.ctrlCmds =
      v.ctrlCmds ++ (cs.filter cmdListed).mapIdx fun i y => ⟨c, t.1, sub, slot, v.tb.toNat, i == 0, y⟩)

/-- R266 to R270, R277, R279: the command in front acts if it keeps its checks, and is rejected and counted if not; a pinned beam is neither redefined
nor deleted by the baseband. A request for resending that names a flow, with at most 8 open, is kept, and served number by number, whole with
reason 3 while the journal is not active. The model's choices in it: log entries 32, 33, 34. -/
def Obligations.ControlCommands : Prop := ∀ (s u : State) (x : CtrlCmd),
  let ws := x.words
  let id := word ws 1 % 2 ^ 15
  let reject := Host.Outcome.next (u.fhCount MAC_FH_CMD_REJECT 1).settle
  let barred := Host.Outcome.next ((u.bump SLALOM_REJECT_COUNT SLALOM_CNT_FLAGS 5 1).raise Ev.SLALOM_CTRL_REJECTED).settle
  (∀ k ∈ [(1, Instr.sectionCmd), (2, .cancelCmd), (3, .beamDefCmd), (4, .beamDelCmd), (0x10, .resendCmd)],
    s.takeCmd k.1 = none → exec k.2 s = .next s.settle) ∧
  (s.takeCmd 1 = some (x, u) →
    let d := sectionDesc ws
    let ul := word ws 1 / 2 ^ 31 == 1
    let span := u.spanOk x ul (word ws 2 / 2 ^ 28) (word ws 2 / 2 ^ 24 % 16)
    let good := d.nrb ≠ 0 ∧ d.startRb + d.nrb ≤ (u.secCfg ul x.car).nrb ∧ d.gran ≤ 4 ∧
      ws.length = (if d.mode = modeVector then 4 + 64 * d.groups else 4)
    (∀ n, span = some n → good →
      exec .sectionCmd s = .next (u.describeRun x.accepted ul x.car (word ws 1 / 2 ^ 16 % 2 ^ 12) n (word ws 2 / 2 ^ 24 % 16) d false).settle) ∧
    (span = none ∨ ¬ good → exec .sectionCmd s = reject)) ∧
  (s.takeCmd 2 = some (x, u) →
    let span := u.spanOk x (word ws 1 / 2 ^ 31 == 1) (word ws 1 / 2 ^ 8 % 16) (word ws 1 / 2 ^ 4 % 16)
    (∀ n, ws.length = 2 → span = some n →
      exec .cancelCmd s = .next (u.describeRun x.accepted (word ws 1 / 2 ^ 31 == 1) x.car (word ws 1 / 2 ^ 16 % 2 ^ 12) n
        (word ws 1 / 2 ^ 4 % 16) { version := word ws 1 / 2 ^ 12 % 16 } true).settle) ∧
    (ws.length ≠ 2 ∨ span = none → exec .cancelCmd s = reject)) ∧
  (s.takeCmd 3 = some (x, u) →
    (ws.length = 66 → (∀ b, u.beam id = some b → b.pinned = false) → ∀ e, u.freeEntry = some e → Answers .beamDefCmd s fun t =>
      t.beam id = some ⟨e, false⟩ ∧ ∀ p < 64, t.weight (beamWordAt e p) = (ws.drop 2).getD p 0) ∧
    (ws.length = 66 → ∀ b, u.beam id = some b → b.pinned = true → exec .beamDefCmd s = barred) ∧
    (ws.length ≠ 66 → exec .beamDefCmd s = reject)) ∧
  (s.takeCmd 4 = some (x, u) →
    (ws.length = 2 → (∀ b, u.beam id = some b → b.pinned = false) → Answers .beamDelCmd s fun t => t.beam id = none) ∧
    (ws.length = 2 → ∀ b, u.beam id = some b → b.pinned = true → exec .beamDelCmd s = barred) ∧
    (ws.length ≠ 2 → exec .beamDelCmd s = reject)) ∧
  (s.takeCmd 0x10 = some (x, u) → (ws.length = 3 → exec .resendCmd s =
      .next (u.resendCmd (word ws 1 / 65536) (word ws 1 % 65536) (word ws 2 / 65536)).settle) ∧
    (ws.length ≠ 3 → exec .resendCmd s = reject)) ∧
  (s.resends = [] → exec .resendServe s = .next s.settle) ∧
  (∀ r rest, s.resends = r :: rest → Answers .resendServe s fun t => t.resends = rest ∨ ∃ done run, r.done < done ∧ done < r.count ∧
    t.resends = { r with done := done, run := run } :: rest) ∧
  (∀ r rest, s.resends = r :: rest → s.bit MAC_FH_JRN_STAT MAC_FH_JRN_STAT_ACTIVE = false → r.run = none → r.done < r.count →
    exec .resendServe s = .next ({ s.flushGone r.pcId.toNat (some (3, (r.first.toNat + r.done) % 65536, r.count - r.done)) with
      resends := rest } : State).settle) ∧
  (∀ pcId first count, 0 < count → count ≤ 1024 → (s.ulFlow pcId).isSome = true → s.resends.length < 8 →
    s.resendCmd pcId first count = { s with resends := s.resends ++ [{ pcId := BitVec.ofNat 16 pcId, first := BitVec.ofNat 16 first, count := count }] })

/-- R274, R281: where DLST_EN is set, the status of the one marked downlink section-symbol of the next symbol goes out at its A(s-1), and nothing
where none is marked. Delay requests are answered, remote requests turned into requests, a response is kept for Rilyn, a follow-up is dropped. The
model's choices in it: log entries 24, 31, 34. -/
def Obligations.FronthaulServices : Prop := ∀ (s u : State) (m : EcpriMsg),
  (∀ c : Fin 4, s.slalomOn = true → (s.fhTile false c).isSome = true →
    let b := (s.secCfg false c).nextBoundary s.tb.toNat
    let n := (s.secCfg false c).symAt b + 1
    let xs := s.secs.filter fun y => !y.key.ul && y.key.car == (c : Nat) && y.key.sym == n && (y.stage == .committed || y.stage == .dispatched)
    let on := s.bit MAC_FH_CFG MAC_FH_CFG_DLST_EN
    (∀ x why, on = true → xs = [x] → x.stage = .dispatched → x.reasons = [why] → exec (.dlStatusSend c) s =
      .next ((s.advanceTb b).sendControl c ((s.advanceTb b).symName false c n)
        [0x12 * 2 ^ 24 + 2, x.key.id * 2 ^ 20 + x.used.version * 2 ^ 16 + why * 2 ^ 12]).settle) ∧
    (on = false ∨ (∀ x ∈ xs, x.stage = .dispatched ∧ x.reasons = []) → exec (.dlStatusSend c) s = .next (s.advanceTb b).settle)) ∧
  (let got := s.takeFh fun m => m.type == 5 && (m.action == 0 || m.action == 1)
   (got = none → exec .ecpriDelayRequest s = .next s.settle) ∧
   (got = some (m, u) → exec .ecpriDelayRequest s =
      .next (u.sendDelay m.port m.measure 2 (stampBytes (u.ingressTime m.port m.at_)) (u.reg MAC_FH_DLY_COMP) .none).settle)) ∧
  (let got := s.takeFh fun m => m.type == 5 && (m.action == 3 || m.action == 4)
   (got = none → exec .ecpriDelayRemoteRequest s = .next s.settle) ∧
   (got = some (m, u) → m.action = 3 → exec .ecpriDelayRemoteRequest s =
      .next (u.sendDelay m.port m.measure 0 (List.replicate 10 0) (u.reg MAC_FH_DLY_COMP) .delayFollow).settle) ∧
   (got = some (m, u) → m.action = 4 → exec .ecpriDelayRemoteRequest s =
      .next (u.sendDelay m.port m.measure 1 (List.replicate 10 0) 0 .delayFollow).settle)) ∧
  (let got := s.takeFh fun m => m.type == 5 && m.action == 2
   (got = none → exec .ecpriDelayResponse s = .next s.settle) ∧
   (got = some (m, u) → exec .ecpriDelayResponse s = .next (u.modDlyRes (256 * m.port + m.measure) fun r =>
      { r with t2 := (num m.bytes 6 6, num m.bytes 12 4), comp := num m.bytes 16 8, present := true }).settle)) ∧
  (let got := s.takeFh fun m => m.type == 5 && m.action == 5
   (got = none → exec .ecpriDelayFollowUp s = .next s.settle) ∧ (got = some (m, u) → exec .ecpriDelayFollowUp s = .next u.settle))

/-- R286 to R291: in RUN and outside Test, a flit that fails its check is counted and, unless the port recovers already, begins a recovery that asks
for a replay; a good DATA flit ends it and is taken in order. A NAK that names a held flit, or a silence, replays the held flits from it, and a
port that has replayed RETRY_MAX times in vain goes DOWN. What leaves the port: a null flit where one is due, a NAK, a replay, new data of VC 0,
or a null flit. The model's choices in it: log entry 30. -/
def Obligations.BurogFlits : Prop := ∀ (s : State) (k : Fin 2), s.burogState k = burogRun →
  let b := s.burog k
  let rec_ := s.bit (BUROG_PSTAT k) BUROG_PSTAT_RECOVERY
  let most := max 1 (s.fld BUROG_TMO BUROG_TMO_RETRY_MAX)
  let seq := (b.next + 4096 - b.again % 4096) % 4096
  let counted := s.bump (BUROG_CRC_ERR k) BUROG_CNT_FLAGS (2 * k) 1
  (∀ (lane : Fin 4) (header : Word) payload crc, s.mode ≠ .test →
    let good := header.toNat / 2 ^ 28 ≤ 3 ∧ crc = flitCrc s.partId b.expect header payload
    (¬ good → rec_ = true → exec (.burogFlitReceive k lane header payload crc) s = .next counted.settle) ∧
    (¬ good → rec_ = false → Answers (.burogFlitReceive k lane header payload crc) s fun t =>
      t.burog k = { b with nak := true, nakAt := s.now } ∧ t.bit (BUROG_PSTAT k) BUROG_PSTAT_RECOVERY = true ∧
      t.fld (BUROG_CRC_ERR k) ⟨0, 32⟩ = min (s.fld (BUROG_CRC_ERR k) ⟨0, 32⟩ + 1) (2 ^ 32 - 1)) ∧
    (good → header.toNat / 2 ^ 28 = 1 → Answers (.burogFlitReceive k lane header payload crc) s fun t =>
      (t.burog k).expect = (b.expect + 1) % 4096 ∧ t.bit (BUROG_PSTAT k) BUROG_PSTAT_RECOVERY = false ∧
      Frame [BUROG_PSTAT k] { s with burogs := t.burogs } t)) ∧
  (∀ n : BitVec 12, let d := (n.toNat + 4096 - b.oldest) % 4096
    (0 < d → d < b.retry.length → Answers (.burogNak k n) s fun t =>
      (t.burog k).retry = b.retry.drop d ∧ (t.burog k).again = b.retry.length - d ∧ (t.burog k).replays = 1) ∧
    (d = 0 → b.retry ≠ [] → b.replays < most → Answers (.burogNak k n) s fun t =>
      (t.burog k).retry = b.retry ∧ (t.burog k).again = b.retry.length ∧ (t.burog k).replays = b.replays + 1) ∧
    (b.retry.length ≤ d → exec (.burogNak k n) s = .next s.settle)) ∧
  (b.retry ≠ [] → b.replays < most → Answers (.burogRetryTimeout k) s fun t =>
      (t.burog k).again = b.retry.length ∧ (t.burog k).retry = b.retry ∧ (t.burog k).replays = b.replays + 1 ∧
      t.now = max s.now (b.ackAt + tmoTc (s.fld BUROG_TMO BUROG_TMO_RETRY_TMO))) ∧
  (b.retry ≠ [] → most ≤ b.replays → Answers (.burogRetryTimeout k) s fun t =>
      t.burogState k ≠ burogRun ∧ t.burog k = {} ∧ 
      (s.follows Ev.BUROG_LINK_DOWN = false ∨ s.burogExists k = true → t.status Ev.BUROG_LINK_DOWN = true)) ∧
  (b.retry = [] → exec (.burogRetryTimeout k) s = .next s.settle) ∧
  (rec_ = true → Answers (.burogNakRepeat k) s fun t => t.now = max s.now (b.nakAt + tmoTc (s.fld BUROG_TMO BUROG_TMO_NAK_TMO)) ∧
      t.burog k = { b with nak := true, nakAt := t.now }) ∧
  (rec_ = false → exec (.burogNakRepeat k) s = .next s.settle) ∧
  (let due := (b.sent / max 1 (s.burogNum k) + 1) % 1024 = 0
   let null : Flit := ⟨0, false, false, 0⟩
   (due → exec (.burogFlitSend k) s = .next (s.emitFlit k 0 null seq).settle) ∧
   (¬ due → b.nak = true → exec (.burogFlitSend k) s = .next (((s.modBurog k fun b => { b with nak := false }).emitFlit k 2
      ⟨0, false, false, BitVec.ofNat 256 (2 ^ 252 + b.expect * 2 ^ 240)⟩ seq).settle)) ∧
   (¬ due → b.nak = false → 0 < b.again → b.again ≤ b.retry.length → ∀ f, b.retry[b.retry.length - b.again]? = some f →
      exec (.burogFlitSend k) s = .next ((s.emitFlit k 1 f seq).modBurog k fun b => { b with again := b.again - 1 }).settle) ∧
   (¬ due → s.mode ≠ .test → b.nak = false → b.again = 0 → ∀ f q, b.retry.length < min (512 * s.burogNum k) 2048 → b.q0 = f :: q →
      b.used.getD 0 0 < 64 + b.returned.getD 0 0 → Answers (.burogFlitSend k) s fun t =>
        (t.burog k).q0 = q ∧ (t.burog k).retry = b.retry ++ [f] ∧ (t.burog k).next = (b.next + 1) % 4096 ∧
        (f.isTime = false → ∃ i h c, Out.flit k i h f.payload c ∈ t.out)) ∧
   (¬ due → b.nak = false → b.again = 0 → b.newData (s.burogNum k) = none →
      exec (.burogFlitSend k) s = .next (s.emitFlit k 0 null seq).settle))

/-- R288, R290, R293, R297, R298: a port in training keeps the TRAIN flits in a row of each lane, outside Test, deletes a filler, and counts a flit
that fails; a port that is not DOWN nor in RUN sends TRAIN flits, and a filler stripe in place of every 1,024th. When 64 in a row have passed on
every lane, training ends in RUN with the IDs settled, or in REFUSED with its reason, which any lane may give, or waits for an ID. The group's
size arrives, is kept, or conflicts; a retraining takes the ports down; the IDs are cleared in Configure. The model's choices in it: log entries
27, 30, 98. -/
def Obligations.BurogPorts : Prop := ∀ s : State,
  (∀ k : Fin 2, (s.burogState k = burogDown → exec (.burogFlitSend k) s = .next s.settle) ∧
    (s.burogState k = burogTraining ∨ s.burogState k = burogRefused →
      let due := ((s.burog k).sent / max 1 (s.burogNum k) + 1) % 1024 = 0
      exec (.burogFlitSend k) s = .next (if due then s.emitFlit k 0 ⟨0, false, false, 0⟩ 0
        else s.emitFlit k 3 ⟨0, false, false, s.trainPayload k ((s.burog k).sent % max 1 (s.burogNum k))⟩ 0).settle) ∧
    (s.burogState k = burogTraining → s.mode ≠ .test → ∀ (lane : Fin 4) (header : Word) payload crc,
      let passes := header.toNat / 2 ^ 28 ≤ 3 ∧ crc = flitCrc 15 0 header payload
      let x := (s.burog k).trainLane lane
      (passes → header.toNat / 2 ^ 28 = 0 → exec (.burogFlitReceive k lane header payload crc) s = .next s.settle) ∧
      (passes → header.toNat / 2 ^ 28 = 3 → Answers (.burogFlitReceive k lane header payload crc) s fun t =>
        (t.burog k).trainLane lane = ⟨x.run + 1, true, payload, s.tb⟩ ∧ Frame [] { s with burogs := t.burogs } t) ∧
      (passes → header.toNat / 2 ^ 28 ≠ 0 → header.toNat / 2 ^ 28 ≠ 3 → Answers (.burogFlitReceive k lane header payload crc) s fun t =>
        (t.burog k).trainLane lane = { x with run := 0 } ∧ Frame [] { s with burogs := t.burogs } t) ∧
      (¬ passes → Answers (.burogFlitReceive k lane header payload crc) s fun t =>
        (t.burog k).trainLane lane = { x with run := 0 } ∧
        t.fld (BUROG_CRC_ERR k) ⟨0, 32⟩ = min (s.fld (BUROG_CRC_ERR k) ⟨0, 32⟩ + 1) (2 ^ 32 - 1) ∧
        Frame [BUROG_CRC_ERR k, BUROG_CNT_FLAGS] { s with burogs := t.burogs } t))) ∧
  (∀ (k : Fin 2) (skew : Nat), s.burogState k = burogTraining →
    let L := s.burogNum k
    let lane := (s.burog k).trainLane
    let f := pbits (lane 0).payload
    let passed := ∀ i < L, 64 ≤ (lane i).run
    let g := fun i => pbits (lane i).payload
    let side := ∀ i < L, g i 252 4 = if k = 0 then 2 else 1
    let matched := ∀ i < L, g i 249 3 = L ∧ g i 247 2 = i
    let fine := passed ∧ side ∧ matched ∧ skew ≤ 64 ∧ ∀ i < L, g i 243 1 ≠ 1
    let refused := fun (t : State) (why : Nat) => t.burogState k = burogRefused ∧ t.fld (BUROG_PSTAT k) BUROG_PSTAT_REASON = why
    let runs := fun (t : State) => t.burogState k = burogRun ∧ t.reg (BUROG_LINK_DLY k) = (lane 0).delay.setWidth 32 ∧
      t.stored Ev.BUROG_LINK_UP = true
    let does := Answers (.burogTrainComplete k skew) s
    let waits := exec (.burogTrainComplete k skew) s = .next s.settle
    (¬ passed → waits) ∧
    (passed → ¬ side → does (refused · 1)) ∧
    (passed → side → ¬ matched → does (refused · 2)) ∧
    (passed → side → matched → 64 < skew → does (refused · 5)) ∧
    (∀ i < L, passed → side → matched → skew ≤ 64 → g i 243 1 = 1 → (∀ j < i, g j 243 1 ≠ 1) → does (refused · (g i 240 3))) ∧
    (fine → k = 1 →
      (s.idValid = false → waits) ∧
      (s.idValid = true → s.idsSpent = true → does (refused · 3)) ∧
      (s.idValid = true → s.idsSpent = false → f 246 1 = 1 → f 244 2 ≠ s.partId + 1 → does (refused · 4)) ∧
      (s.idValid = true → s.idsSpent = false → f 246 1 = 0 ∨ f 244 2 = s.partId + 1 → does runs)) ∧
    (fine → k = 0 →
      (f 246 1 = 0 → waits) ∧
      (f 246 1 = 1 → s.idValid = false → f 244 2 < 3 → does fun t => runs t ∧ t.partId = f 244 2 + 1 ∧ t.idValid = true) ∧
      (f 246 1 = 1 → s.idValid = true → s.partId = f 244 2 + 1 → does runs) ∧
      (f 246 1 = 1 → s.idValid = true → s.partId ≠ f 244 2 + 1 → does (refused · 4)))) ∧
  (s.burogTake 1 0 2 = none → exec .groupMessage s = .next s.settle) ∧
  (∀ l u, s.burogTake 1 0 2 = some (l, u) →
    let size := pbits (l.headD 0) 250 2 + 1
    (u.kValid = false → Answers .groupMessage s fun t => t.groupSize = size ∧ t.kValid = true) ∧
    (u.kValid = true → u.groupSize = size → exec .groupMessage s = .next u.settle) ∧
    (u.kValid = true → u.groupSize ≠ size → exec .groupMessage s = .next (u.raise Ev.BUROG_ID_CONFLICT).settle)) ∧
  (s.answers BUROG_CMD = true → Answers .burogRetrain s fun t => ∀ k : Fin 2, t.burogState k = burogDown ∨ t.burogState k = burogTraining) ∧
  (s.answers BUROG_CMD = true → s.mode = .configure → Answers .burogClearIds s fun t =>
    t.idValid = false ∧ t.kValid = false ∧ t.partId = 0 ∧ t.groupSize = 1 ∧ Frame [BUROG_STATUS, SLALOM_CASC_CFG] s t) ∧
  (s.answers BUROG_CMD = true → s.mode ≠ .configure → exec .burogClearIds s = .next s.accessError.settle)

/-- R295, R333, R436: a partial sum is kept for the section-symbol that waits for it, and counted if none does; a TIME message is judged as a sample
where it is the source, and discarded where it is not; one is sent 1 ms after the one before, in RUN, of a quality not untraceable; a relayed
message for another part goes on towards it, one for this part is used, with its trailer where one follows. The model's choices in it: log entries
3, 30, 41. -/
def Obligations.BurogMessages : Prop := ∀ (s u : State) (l : List (BitVec 256)),
  (s.burogTake 1 1 1 = none → exec .psumMessage s = .next s.settle) ∧
  (s.burogTake 1 1 1 = some (l, u) →
    let header := takeBits (payloadsNat l) (256 * l.length) 0 64
    (∀ x, u.hasUpstream = true → (u.secs.find? fun x => x.awaits && u.psumHeader x == header) = some x →
      exec .psumMessage s = .next (u.modSec x.key fun y =>
        { y with upstream := some (psumExpand u.psumW y.used.nrb (payloadsNat l) (256 * l.length) 64) }).settle) ∧
    (u.hasUpstream = false ∨ (∀ x ∈ u.secs, x.awaits = true → u.psumHeader x ≠ header) →
      exec .psumMessage s = .next (u.bump BUROG_PSUM_DISCARD BUROG_CNT_FLAGS 4 1).settle)) ∧
  (∀ ago, (s.burogTake 0 0 3 = none → exec (.timeMessage ago) s = .next s.settle) ∧
    (s.burogTake 0 0 3 = some (l, u) → u.timeSrc ≠ 1 → exec (.timeMessage ago) s = .next u.settle) ∧
    (s.burogTake 0 0 3 = some (l, u) → u.timeSrc = 1 →
      let sent : Int := (pbits (l.headD 0) 128 64 : Nat) * 65536 + (pbits (l.headD 0) 124 4 : Nat) * 4096
      let th := ((u.tb.toNat : Int) - ago - (u.fld (BUROG_LINK_DLY 0) BUROG_LINK_DLY_DELAY : Nat)) * 65536 - sent
      exec (.timeMessage ago) s =
        .next (({ u with carried := some (pbits (l.headD 0) 250 2), srcAt := u.now } : State).showQual.sample th ago none).settle)) ∧
  (s.qual ≠ untraceable → s.burogState 1 = burogRun → Answers .timeMessageSend s fun t =>
    (t.burog 1).q0 = (s.burog 1).q0 ++ [⟨0, true, true, headed (3 * 2 ^ 60 + s.qual * 2 ^ 58)⟩] ∧ (t.burog 1).timeSent = some t.now ∧
    t.now = (match (s.burog 1).timeSent with | some x => max s.now (x + msTc) | none => s.now) ∧ Keeps [] s t) ∧
  (s.qual = untraceable ∨ s.burogState 1 ≠ burogRun → exec .timeMessageSend s = .next s.settle) ∧
  (∀ (k : Fin 2) (msg : BitVec 4), msg = 4 ∨ msg = 5 ∨ msg = 6 →
    let vc := if msg = 6 then 3 else 2
    let r := relayedOf l
    let does := exec (.mplaneRelayMessage k msg) s
    (s.burogTake k vc msg.toNat = none → does = .next s.settle) ∧
    (s.burogTake k vc msg.toNat = some (l, u) →
      (r.dest ≠ u.partId → does = .next (u.burogPost (u.wayTo r.dest) vc l).settle) ∧
      (r.dest = u.partId → msg ≠ 6 → r.more = true → does = .next ({ u with relayIn := u.relayIn ++ [(k.val, r.header ++ r.bytes)] } : State).settle) ∧
      (r.dest = u.partId → msg ≠ 6 → r.more = false → does = .next (u.relayDone k r []).settle) ∧
      (∀ x, r.dest = u.partId → msg = 6 → (u.relayIn.find? fun x => x.1 == k.val) = some x →
        does = .next (({ u with relayIn := u.relayIn.erase x } : State).relayDone k (relayedBack x.2) r.bytes).settle)))

/-- R302 to R306: a free unit that no channel feeds starts, folds its prefix and, where SRC is 0, its data, and takes a whole run value; reads show
the low half and capture the high half; a unit that is bound or fed discards the writes as access errors. The model's choices in it: log entry 16. -/
def Obligations.CheckValues : Prop := ∀ (s : State) (u : Fin 16) (w : Word),
  let k := s.cuCrc u
  let run := (s.cuRun u).toNat
  let pre := beBytes (s.reg (CU_PREFIX u))
  (s.answers (CU_CMD u) = true → s.cuBound u = false → s.cuFeed u = false →
    Answers (.cuStart u) s (fun t =>
      (t.cuRun u).toNat = (if s.bit (CU_CFG u) CU_CFG_PREFIX_EN = true then crcBytes k (k.init % 2 ^ k.width) pre else k.init % 2 ^ k.width) ∧
      Frame [] { s with cuRuns := t.cuRuns } t) ∧
    (Answers (.cuFoldPrefix u) s fun t =>
      (t.cuRun u).toNat = crcBytes k run pre ∧ Frame [] { s with cuRuns := t.cuRuns } t)) ∧
  (s.answers (CU_DATA_W u) = true → s.answers (CU_DATA_B u) = true → s.cuBound u = false → s.bit (CU_CFG u) CU_CFG_SRC = false →
    Answers (.cuDataWWrite u w) s (fun t =>
      (t.cuRun u).toNat = crcByte k (crcByte k (crcByte k (crcByte k run (w.setWidth 8)) ((w >>> 8).setWidth 8)) ((w >>> 16).setWidth 8))
        ((w >>> 24).setWidth 8) ∧ Frame [] { s with cuRuns := t.cuRuns } t) ∧
    Answers (.cuDataBWrite u w) s (fun t => (t.cuRun u).toNat = crcByte k run (w.setWidth 8) ∧ Frame [] { s with cuRuns := t.cuRuns } t)) ∧
  (s.answers (CU_DATA_W u) = true → s.answers (CU_DATA_B u) = true → s.cuBound u = false → s.bit (CU_CFG u) CU_CFG_SRC = true → s.cuFeed u = false →
    exec (.cuDataWWrite u w) s = .next s.settle ∧ exec (.cuDataBWrite u w) s = .next s.settle) ∧
  (s.answers (CU_RUN_HI u) = true → s.cuBound u = false → s.cuFeed u = false →
    Answers (.cuRunHiWrite u w) s fun t =>
      (t.cuRun u).toNat = (w.toNat * 2 ^ 32 + (s.cuLo u).toNat) % 2 ^ k.width ∧ Frame [] { s with cuRuns := t.cuRuns } t) ∧
  (s.answers (CU_RUN_LO u) = true → Answers (.cuRunLoRead u) s fun t =>
    t.reply = (s.cuRun u).setWidth 32 ∧ t.reg (CU_RUN_HI u) = (s.cuRun u >>> 32).setWidth 32 ∧ Frame [CU_RUN_HI u] { s with reply := t.reply } t) ∧
  (s.answers (CU_RESULT_LO u) = true → Answers (.cuResultLoRead u) s fun t =>
    t.reply.toNat = crcResult k run % 2 ^ 32 ∧ (t.reg (CU_RESULT_HI u)).toNat = crcResult k run / 2 ^ 32 % 2 ^ 32 ∧
    Frame [CU_RESULT_HI u] { s with reply := t.reply } t) ∧
  (s.cuBound u = true ∨ s.cuFeed u = true → ∀ c ∈ [Instr.cuStart u, .cuFoldPrefix u, .cuDataWWrite u w, .cuDataBWrite u w, .cuRunHiWrite u w],
    exec c s = .next s.accessError.settle)

/-- R321, R323 to R325: a sample of another source does nothing; one of PTP while HPLL is unlocked, a master is held, or that began before the latest
step changes neither timebase nor rate. Else, from the reference master, it steps the timebase where a step is allowed, is refused and counted
beyond the threshold, or is accepted with the rate update of R324, the 16th good one in a row locking the servo. A write of OFS_IN_HI is a sample
where the host is the source. The model's choices in it: log entries 36, 37. -/
def Obligations.TimeSamples : Prop := ∀ (s : State) (th : Int) (gm : BitVec 64),
  (s.timeSrc ≠ 0 → ∀ age, exec (.ptpOffsetSample th age gm) s = .next s.settle) ∧
  (∀ age, s.timeSrc = 0 → s.hpllState ≠ pllLocked ∨ (∃ t, s.stepDone = some t ∧ s.now ≤ t + age) ∨
    s.bit TIME_STATUS TIME_STATUS_MASTER_HELD = true → Answers (.ptpOffsetSample th age gm) s fun t =>
    t.tb = s.tb ∧ t.reg TIME_FREQ = s.reg TIME_FREQ ∧ t.servo = s.servo ∧ t.ownQual = s.ownQual) ∧
  (∀ age : Nat, s.timeSrc = 0 → s.hpllState = pllLocked → (∀ t, s.stepDone = some t → t + age < s.now) →
    s.refMaster = none ∨ s.refMaster = some gm → s.bit TIME_STATUS TIME_STATUS_MASTER_HELD = false →
    let step := s.bit TIME_STATUS TIME_STATUS_STEP_USED = false ∧ s.mode ≠ .onAir ∧ s.mode ≠ .quiet
    let int := s.fld TIME_SERVO TIME_SERVO_INT
    let integ := s.integ - th * 2 ^ (int + 15 - s.fld TIME_SERVO TIME_SERVO_KI)
    let jump := beyondNs th (s.fld TIME_CTRL TIME_CTRL_JUMP_THRESH)
    (step → Answers (.ptpOffsetSample th age gm) s fun t =>
      t.tb = s.tb - BitVec.ofInt 64 (roundDiv th 65536) ∧ t.bit TIME_STATUS TIME_STATUS_STEP_USED = true ∧ t.reg TIME_FREQ = s.reg TIME_FREQ ∧
      (∀ i : Fin 4, t.ta i = s.ta i - BitVec.ofInt 64 (roundDiv th 65536)) ∧ t.stored Ev.TIME_STEP = true) ∧
    (¬ step → jump = true → Answers (.ptpOffsetSample th age gm) s fun t =>
      t.tb = s.tb ∧ t.reg TIME_FREQ = s.reg TIME_FREQ ∧ t.bit TIME_STATUS TIME_STATUS_REFUSING = true ∧
      t.servo = (if s.servo = servoLocked then servoHoldover else s.servo) ∧
      t.fld TIME_REFUSED_COUNT ⟨0, 32⟩ = min (s.fld TIME_REFUSED_COUNT ⟨0, 32⟩ + 1) (2 ^ 32 - 1)) ∧
    (¬ step → jump = false → Answers (.ptpOffsetSample th age gm) s fun t =>
      t.tb = s.tb ∧ t.integ = integ ∧ t.bit TIME_STATUS TIME_STATUS_REFUSING = false ∧
      t.reg TIME_FREQ = BitVec.ofInt 32 (clampI (-429496) 429496
        (roundDiv (integ - th * 2 ^ (int + 15 - s.fld TIME_SERVO TIME_SERVO_KP)) integUnit)) ∧
      (beyondNs th (s.fld TIME_SERVO TIME_SERVO_LOCK_THR) = false → 15 ≤ s.goodRun → t.servo = servoLocked ∧ t.qual = traceable))) ∧
  (∀ w, s.answers TIME_OFS_IN_HI = true →
    exec (.ofsInHiWrite w) s = .next (if s.timeSrc = 3 then
      (s.setReg TIME_OFS_IN_HI w).sample (signed 64 (w.toNat * 2 ^ 32 + (s.reg TIME_OFS_IN_LO).toNat) * 65536) 0 none
      else s.setReg TIME_OFS_IN_HI w).settle)

/-- R316, R320 to R322, R325, R328 to R332: NEW_EPOCH, or a write that changes SRC or COMPAT, begins an epoch; a source silent for its time is lost. A
PPS edge is timestamped, and a sample where it is the source; a TSYNC edge is timestamped and begins the alignments that wait for it. Pulses leave
at their instants, TB_LO captures TB_HI, a Sync frame joins the queue of a port that is a master; all of this only while the timebase runs. As a
sleep ends the keeper's count restores the timebase, or leaves it with an untraceable quality. The model's choices in it: log entries 26, 40, 110,
119. -/
def Obligations.TimeEvents : Prop := ∀ s : State,
  let epoch := fun t : State => t.servo = servoAcquiring ∧ t.bit TIME_STATUS TIME_STATUS_STEP_USED = false ∧
    t.bit TIME_STATUS TIME_STATUS_REFUSING = false ∧ t.bit TIME_STATUS TIME_STATUS_MASTER_HELD = false ∧ t.goodRun = 0 ∧
    t.reg TIME_FREQ = s.reg TIME_FREQ ∧ t.integ = s.freq * integUnit
  (s.answers TIME_CMD = true → Answers .timeNewEpoch s fun t =>
    epoch t ∧ t.ownQual = (if s.ownQual = traceable then holdover else s.ownQual)) ∧
  (∀ w, s.answers TIME_CTRL = true →
    (getF w TIME_CTRL_SRC ≠ s.timeSrc ∨ bitF w TIME_CTRL_COMPAT ≠ s.bit TIME_CTRL TIME_CTRL_COMPAT → Answers (.timeCtrlWrite w) s fun t =>
      epoch t ∧ (getF w TIME_CTRL_SRC ≠ s.timeSrc → t.bit TIME_STATUS TIME_STATUS_SRC_LOST = false)) ∧
    (getF w TIME_CTRL_SRC = s.timeSrc → bitF w TIME_CTRL_COMPAT = s.bit TIME_CTRL TIME_CTRL_COMPAT → Answers (.timeCtrlWrite w) s fun t =>
      Frame [TIME_CTRL] s t ∧ t.fld TIME_CTRL TIME_CTRL_JUMP_THRESH = getF w TIME_CTRL_JUMP_THRESH)) ∧
  (s.timeSrc ≠ 3 → s.bit TIME_STATUS TIME_STATUS_SRC_LOST = false → Answers .timeSourceLoss s fun t =>
    t.bit TIME_STATUS TIME_STATUS_SRC_LOST = true ∧ t.stored Ev.TIME_SOURCE_LOST = true ∧ t.reg TIME_FREQ = s.reg TIME_FREQ ∧
    t.now = (if s.timeSrc = 0 then s.now else max s.now (s.srcAt + sourceSilence s.timeSrc)) ∧
    t.servo = (if s.servo = servoLocked then servoHoldover else s.servo)) ∧
  (s.timeSrc = 3 ∨ s.bit TIME_STATUS TIME_STATUS_SRC_LOST = true → exec .timeSourceLoss s = .next s.settle) ∧
  (s.tbRuns = false → exec .ppsInEdge s = .next s.settle ∧ exec .ppsOutPulse s = .next s.settle ∧ exec .tsyncOutPulse s = .next s.settle ∧
    (∀ delay, exec (.tsyncInEdge delay) s = .next s.settle) ∧ ∀ count stopped, exec (.keeperExit count stopped) s = .next s.settle) ∧
  (s.tbRuns = true → s.timeSrc ≠ 2 → exec .ppsInEdge s = .next (({ s with ppsTs := s.tb } : State).raise Ev.TIME_PPS_IN).settle) ∧
  (s.tbRuns = true → s.timeSrc = 2 → let r := s.tb.toNat % secondTc;
    exec .ppsInEdge s = .next ((({ s with ppsTs := s.tb, srcAt := s.now } : State).raise Ev.TIME_PPS_IN).sample
      ((if 2 * r ≤ secondTc then (r : Int) else (r : Int) - secondTc) * 65536) 0 none).settle) ∧
  (∀ delay, s.tbRuns = true → (∀ k < 5, (s.armOf k).map Prod.fst ≠ some 1) → let u := ({ s with tsyncTs := s.tb } : State)
    exec (.tsyncInEdge delay) s = .next (match u.alignTiles fun a => a.src == 0 with
      | [] => u
      | ts => (u.advance (s.now + delay)).alignNow ts 0).settle) ∧
  (let t := s.nextPulse secondTc (signed 16 (s.fld TIME_PPS_CFG TIME_PPS_CFG_OFS));
    s.tbRuns = true → exec .ppsOutPulse s = .next (if s.bit TIME_PPS_CFG TIME_PPS_CFG_GATE ∧ s.qual = untraceable then s.advanceTb t
      else (s.advanceTb t).emit (.pulse false (t % 2 ^ 64) (usTc (s.fld TIME_PPS_CFG TIME_PPS_CFG_WIDTH)))).settle) ∧
  (let t := s.nextPulse (s.fld TIME_TSYNC_CFG TIME_TSYNC_CFG_PER * frameTc) (signed 16 (s.fld TIME_TSYNC_CFG TIME_TSYNC_CFG_OFS));
    s.tbRuns = true → exec .tsyncOutPulse s = .next (if s.fld TIME_TSYNC_CFG TIME_TSYNC_CFG_PER = 0 then s else (s.advanceTb t).emit (.pulse true (t % 2 ^ 64) 64)).settle) ∧
  (s.answers TIME_TB_LO = true → Answers .tbLoRead s fun t => t.reply = s.tb.setWidth 32 ∧ t.reg TIME_TB_HI = (s.tb >>> 32).setWidth 32 ∧
    Frame [TIME_TB_HI] { s with reply := t.reply } t) ∧
  (∀ tc, s.domOn 1 = false → exec (.keeperRatioWindow tc) s = .next s.settle) ∧
  (∀ tc, s.domOn 1 = true → exec (.keeperRatioWindow tc) s = .next ({ s with keeper := { s.keeper with ratio := some tc } } : State).settle) ∧
  (∀ v r count, s.tbRuns = true → s.keeper.stored = some v → s.keeper.ratio = some r → s.keeper.lost = false → count < 2 ^ 48 - 1 →
    Answers (.keeperExit count false) s fun t => t.tb = v + BitVec.ofInt 64 (roundDiv ((count * r : Nat) : Int) 65536) ∧
      t.ownQual = estimated ∧ t.qual = estimated ∧ t.keeper.stored = none ∧ epoch t) ∧
  (∀ v count stopped, s.tbRuns = true → s.keeper.stored = some v → s.keeper.ratio = none ∨ s.keeper.lost = true ∨ stopped = true ∨ 2 ^ 48 - 1 ≤ count →
    Answers (.keeperExit count stopped) s fun t => t.tb = (if s.keeper.started then s.tb else v) ∧ t.ownQual = untraceable ∧ t.keeper.stored = none ∧ epoch t) ∧
  (s.keeper.stored = none → ∀ count stopped, exec (.keeperExit count stopped) s = .next s.settle) ∧
  (∀ (p : Fin 8) header, s.portUsable p = false → exec (.ptpSyncSend p header) s = .next s.settle) ∧
  (∀ (p : Fin 8) header, s.portUsable p = true → header.length = 34 → exec (.ptpSyncSend p header) s =
    .next (if s.ptpRole p = .master then s.sendFrame p (s.fld (MAC_PRIO p) MAC_PRIO_PCP_PTP)
      (s.ethHeader p (beNat 6 0x011B19000000) false 0 0x88F7 ++ header ++ List.replicate 10 0)
      (if s.maskBit TIME_CTRL TIME_CTRL_ONE_STEP p then .oneStep else .twoStep) else s).settle)

/-- R337, R340 to R342, R345, R351, R352, Tables 14-3 and 14-4: the loss and return of a reference, the input in use and a switch of it; what a lock
window makes of HPLL, of another synthesiser and of the DRAM PLL by its state; a band calibration done, a lock time that has passed, a
recalibration and the limit of a coast. The model's choices in it: log entries 43, 44, 114. -/
def Obligations.SynthesiserLock : Prop := ∀ s : State,
  (∀ (b : Fin 2) ofs, s.activeRef ≠ b → Answers (.refLoss b ofs) s fun t => t.refOk b = false ∧ Frame [HPLL_STATUS] s t) ∧
  (∀ (b : Fin 2) ofs, s.activeRef = b → s.bit HPLL_CTRL HPLL_CTRL_AUTO = false ∨ s.refOk (1 - b) = false →
    s.hpllState = pllAcq ∨ s.hpllState = pllLocked → Answers (.refLoss b ofs) s fun t => t.refOk b = false ∧ t.hpllState = coasting) ∧
  (∀ (b : Fin 2) ofs, s.activeRef = b → s.bit HPLL_CTRL HPLL_CTRL_AUTO = true → s.refOk (1 - b) = true →
    s.hpllState = pllAcq ∨ s.hpllState = pllLocked ∨ s.hpllState = coasting → Answers (.refLoss b ofs) s fun t =>
      t.refOk b = false ∧ t.activeRef = 1 - b ∧ t.hpllState = pllAcq ∧ t.stored Ev.HPLL_REF_SWITCH = true) ∧
  (∀ (b : Fin 2) ofs, s.activeRef = b → s.hpllState = coasting → Answers (.refPresent b ofs) s fun t =>
    t.refOk b = true ∧ t.hpllState = pllAcq ∧
    (s.bit HPLL_CTRL HPLL_CTRL_BUILDOUT = true → t.reg HPLL_BO_OFS =
      BitVec.ofInt 32 (clampI (-2147483648) 2147483647 (signed 32 (s.reg HPLL_BO_OFS).toNat + ofs)))) ∧
  (∀ (b : Fin 2) ofs, s.activeRef = b → s.hpllState = pllOff → s.startDue = none → s.mode ≠ .standby → Answers (.refPresent b ofs) s fun t =>
    t.refOk b = true ∧ t.hpllState = pllAcq) ∧
  (∀ (b : Fin 2) ofs, s.activeRef ≠ b → s.bit HPLL_CTRL HPLL_CTRL_AUTO = false ∨ s.hpllState ≠ coasting → Answers (.refPresent b ofs) s fun t =>
    t.refOk b = true ∧ Frame [HPLL_STATUS] s t) ∧
  (∀ (b : Fin 2) ofs, s.activeRef = 1 - b → s.bit HPLL_CTRL HPLL_CTRL_AUTO = true → s.hpllState = coasting → s.refOk (1 - b) = false →
    Answers (.refPresent b ofs) s fun t => t.refOk b = true ∧ t.activeRef = b ∧ t.hpllState = pllAcq ∧ t.stored Ev.HPLL_REF_SWITCH = true) ∧
  (∀ w ofs, s.answers HPLL_CTRL = true →
    (getF w HPLL_CTRL_SEL ≠ s.fld HPLL_CTRL HPLL_CTRL_SEL → getF w HPLL_CTRL_SEL ≠ s.activeRef → Answers (.refSelectWrite w ofs) s fun t =>
      t.activeRef = getF w HPLL_CTRL_SEL ∧ t.stored Ev.HPLL_REF_SWITCH = true) ∧
    (getF w HPLL_CTRL_SEL = s.fld HPLL_CTRL HPLL_CTRL_SEL ∨ getF w HPLL_CTRL_SEL = s.activeRef → Answers (.refSelectWrite w ofs) s fun t =>
      Frame [HPLL_CTRL, HPLL_STATUS] s t ∧
      t.bit HPLL_STATUS HPLL_STATUS_DET = (!bitF w HPLL_CTRL_DCO && !s.detLost && (s.hpllState == pllLocked ||
        ((s.hpllState == coasting || s.hpllState == pllAcq) && s.bit HPLL_STATUS HPLL_STATUS_DET))))) ∧
  (s.refOk s.activeRef = false → ∀ err ofs, exec (.lockWindow 0 err ofs) s = .next s.settle) ∧
  (∀ (k : Fin 14) err ofs, (k : Nat) = 0 → s.refOk s.activeRef = true →
    (s.pllState k = pllLocked → 4 * s.pllTol k < err → Answers (.lockWindow k err ofs) s fun t => t.pllState k = coasting) ∧
    (s.pllState k = pllLocked → err ≤ 4 * s.pllTol k → exec (.lockWindow k err ofs) s = .next s.settle) ∧
    (s.pllState k = pllAcq → err ≤ s.pllTol k → s.pllCnt k ≤ (s.pll k).passes + 1 → Answers (.lockWindow k err ofs) s fun t =>
      t.pllState k = pllLocked) ∧
    (s.pllState k = pllAcq → err ≤ s.pllTol k → (s.pll k).passes + 1 < s.pllCnt k → Answers (.lockWindow k err ofs) s fun t =>
      (t.pll k).passes = (s.pll k).passes + 1 ∧ t.regs = s.regs) ∧
    (s.pllState k = pllAcq → s.pllTol k < err → Answers (.lockWindow k err ofs) s fun t => (t.pll k).passes = 0 ∧ t.regs = s.regs) ∧
    (s.pllState k = coasting → err ≤ s.pllTol k → Answers (.lockWindow k err ofs) s fun t => t.pllState k = pllAcq) ∧
    (s.pllState k = coasting → s.pllTol k < err → exec (.lockWindow k err ofs) s = .next s.settle)) ∧
  (∀ (k : Fin 14) err ofs, (k : Nat) ≠ 13 → (k : Nat) ≠ 0 →
    (s.pllState k = pllLocked → 4 * s.pllTol k < err → Answers (.lockWindow k err ofs) s fun t => t.pllState k = coasting) ∧
    (s.pllState k = pllAcq → err ≤ s.pllTol k → s.pllCnt k ≤ (s.pll k).passes + 1 → 4 < (k : Nat) ∨ s.spllBlocked = false →
      Answers (.lockWindow k err ofs) s fun t => t.pllState k = pllLocked) ∧
    (s.pllState k = pllAcq → err ≤ s.pllTol k → (s.pll k).passes + 1 < s.pllCnt k ∨ ((k : Nat) ≤ 4 ∧ s.spllBlocked = true) →
      Answers (.lockWindow k err ofs) s fun t => (t.pll k).passes = (s.pll k).passes + 1 ∧ t.regs = s.regs) ∧
    (s.pllState k = pllAcq → s.pllTol k < err → Answers (.lockWindow k err ofs) s fun t => (t.pll k).passes = 0 ∧ t.regs = s.regs) ∧
    (s.pllState k = coasting → err ≤ s.pllTol k → Answers (.lockWindow k err ofs) s fun t => t.pllState k = pllAcq ∧ (t.pll k).passes = 1) ∧
    (s.pllState k = coasting ∧ s.pllTol k < err ∨ s.pllState k = pllLocked ∧ err ≤ 4 * s.pllTol k →
      exec (.lockWindow k err ofs) s = .next s.settle)) ∧
  (∀ ofs, (s.dramLock = true → ∀ err, err ≠ 0 → exec (.lockWindow 13 err ofs) s = .next s.dramUnlock.settle) ∧
    (s.dramLock = false → Answers (.lockWindow 13 0 ofs) s fun t => t.dramLock = true) ∧
    (∀ err, (err = 0 ↔ s.dramLock = true) → exec (.lockWindow 13 err ofs) s = .next s.settle)) ∧
  (∀ (k : Fin 13) d, (s.pll k).lockBy = some d → (k : Nat) ≠ 0 → s.pllState k = pllCal ∨ s.pllState k = pllAcq →
    Answers (.pllLockFailTimeout k) s fun t => t.pllState k = pllCal ∧ t.now = max s.now d ∧ (t.pll k).lockBy =
      if (k : Nat) ≤ 4 ∧ s.spllBlocked = true then none else some (t.now + 2 * pllLockTime k)) ∧
  (∀ k : Fin 13, (s.pll k).lockBy = none ∨ (k : Nat) = 0 ∨ (s.pllState k ≠ pllCal ∧ s.pllState k ≠ pllAcq) →
    exec (.pllLockFailTimeout k) s = .next s.settle) ∧
  (∀ k : Fin 13, s.pllState k ≠ pllCal → exec (.bandCalDone k) s = .next s.settle) ∧
  (∀ k : Fin 13, s.pllState k = pllCal → Answers (.bandCalDone k) s fun t =>
    t.pllState k = (if (k : Nat) = 0 ∧ s.refOk s.activeRef = false then pllOff else pllAcq)) ∧
  (∀ t : Fin 4, s.answers (SPLL_CMD t) = true → Answers (.spllRecal t) s fun u => u.pllState (1 + t) = pllCal) ∧
  (∀ k : Fin 5, s.pllState k = coasting → s.bit (pllStatus k) (if (k : Nat) = 0 then HPLL_STATUS_COAST_LIM else SPLL_STATUS_COAST_LIM) = false →
    Answers (.coastLimit k) s fun t => t.now = max s.now ((s.pll k).since + s.coastTime k) ∧ t.pllState k = coasting ∧
      t.bit (pllStatus k) (if (k : Nat) = 0 then HPLL_STATUS_COAST_LIM else SPLL_STATUS_COAST_LIM) = true ∧
      (0 < (k : Nat) → t.bit (TXCH_STATUS (k - 1)) TXCH_STATUS_MUTE_COAST = true))

/-- R336, R339, R344, R347 to R350: a change of dividers applies at once, or is armed for the TSYNC edge or the next frame boundary and applies there;
HPLL's only in Configure and with settings in range. The one alignment armed for the earliest boundary re-phases its tile there or fails, and
ends; a read of t_A captures its high half. The model's choices in it: log entries 45, 114. -/
def Obligations.DividersAndAlignment : Prop := ∀ s : State,
  (∀ w, s.answers HPLL_ARM = true →
    (s.mode ≠ .configure → exec (.pllArmWrite 0 w) s = .next s.accessError.settle) ∧
    (s.mode = .configure → bitF w HPLL_ARM_GO = true →
      (∃ a ∈ [HPLL_REFA_DIV, HPLL_REFB_DIV], s.fld a HPLL_REFA_DIV_R = 0 ∨ s.fld a HPLL_REFA_DIV_N % 16 ≠ 0) →
        exec (.pllArmWrite 0 w) s = .next s.accessError.settle) ∧
    (s.mode = .configure → bitF w HPLL_ARM_GO = false → exec (.pllArmWrite 0 w) s = .next s.settle) ∧
    (s.mode = .configure → bitF w HPLL_ARM_GO = true →
      (∀ a ∈ [HPLL_REFA_DIV, HPLL_REFB_DIV], s.fld a HPLL_REFA_DIV_R ≠ 0 ∧ s.fld a HPLL_REFA_DIV_N % 16 = 0) →
        (∀ evt ∈ [(1, 0), (2, s.nextBoundaryOf frameTc)], getF w HPLL_ARM_EVT = evt.1 → Answers (.pllArmWrite 0 w) s fun t =>
          t.hpllArm = some evt ∧ t.bit HPLL_ARM HPLL_ARM_PENDING = true ∧ Frame [HPLL_ARM] { s with hpllArm := some evt } t) ∧
        (getF w HPLL_ARM_EVT ≠ 1 → getF w HPLL_ARM_EVT ≠ 2 → exec (.pllArmWrite 0 w) s = .next s.applyHpll.settle))) ∧
  (∀ (k : Fin 4) w, s.answers (LPLL_ARM k) = true →
    (bitF w HPLL_ARM_GO = false → exec (.pllArmWrite (k.succ) w) s = .next s.settle) ∧
    (bitF w HPLL_ARM_GO = true → (∀ evt ∈ [(1, 0), (2, s.nextBoundaryOf frameTc)], getF w HPLL_ARM_EVT = evt.1 →
      Answers (.pllArmWrite k.succ w) s fun t => t.lpllArm k = some evt ∧ t.bit (LPLL_ARM k) LPLL_ARM_PENDING = true ∧
        Frame [LPLL_ARM k] { s with lpllArms := t.lpllArms } t) ∧
      (getF w HPLL_ARM_EVT ≠ 1 → getF w HPLL_ARM_EVT ≠ 2 → exec (.pllArmWrite k.succ w) s = .next (s.applyLpll k).settle))) ∧
  (∀ (k : Fin 5) b, s.armOf k = some (2, b) → Answers (.dividerApply k) s fun t =>
    t.armOf k = none ∧ t.now = (s.advanceTb (s.firstBoundary b frameTc)).now ∧
    t.bit (if (k : Nat) = 0 then HPLL_ARM else LPLL_ARM (k - 1)) (if (k : Nat) = 0 then HPLL_ARM_PENDING else LPLL_ARM_PENDING) = false ∧
    ((k : Nat) = 0 → t.refForce 0 = s.reg HPLL_REFA_DIV ∧ t.refForce 1 = s.reg HPLL_REFB_DIV)) ∧
  (∀ k : Fin 5, (∀ b, s.armOf k ≠ some (2, b)) → exec (.dividerApply k) s = .next s.settle) ∧
  ((∀ (t : Fin 4) a, s.alignArm t = some a → a.src = 0) → exec .alignReference s = .next s.settle) ∧
  (∀ (t : Fin 4) a, s.alignArm t = some a → a.src ≠ 0 →
    let due := fun (x : Align) => s.firstBoundary x.at_ (if x.src = 1 then frameTc else subframeTc)
    (∀ (i : Fin 4) b, s.alignArm i = some b → b.src ≠ 0 → i = t ∨ due a < due b) →
    Answers .alignReference s fun u => u.alignArm t = none ∧ u.tb = (s.advanceTb (due a)).tb ∧
      (s.alignFails t a.src = false → u.ta t = u.tb ∧ u.aligningTo t = some (u.now + 8192)) ∧
      (s.alignFails t a.src = true → u.ta t = s.ta t ∧ u.aligningTo t = s.aligningTo t)) ∧
  (∀ t : Fin 4, s.aligningTo t = none → exec (.alignComplete t) s = .next s.settle) ∧
  (∀ (t : Fin 4) e, s.aligningTo t = some e → Answers (.alignComplete t) s fun u => u.aligningTo t = none ∧ u.now = max s.now e ∧ u.ta t = s.ta t) ∧
  (∀ t : Fin 4, s.answers (SPLL_TA_LO t) = true → Answers (.taLoRead t) s fun u =>
    u.reply = (s.ta t).setWidth 32 ∧ u.taHi t = (s.ta t >>> 32).setWidth 32 ∧ u.regs = s.regs)

/-- R359, R362, R363, R365 to R369, Table 15-3: a request beyond the fitted size, or a bulk one while DRAM is unavailable, is refused, a read of it
answered with zeros; else it enters the buffer of its port, cut where the channels alternate, waits before a full bulk port, or is not written
where a real-time port is full. A command slot performs the request picked, its bytes stored or read and sent, its row open after it or, with IDLE
0, closed, and owing the refresh of its neighbours where its activate is chosen; refresh debt, forced refreshes, refreshed banks, and the closing
of an idle page with what its row owes. The model's choices in it: log entries 5, 9, 117. -/
def Obligations.DramAccess : Prop := ∀ s : State,
  (∀ (p : Fin 4) write (a : BitVec 40) bytes,
    let rs := if write then s.writeReqs a.toNat bytes false else s.readReqs a.toNat 64
    let fits := a.toNat + (if write then max 1 bytes.length else 64) ≤ s.dramFitted
    let open' := (p : Nat) < 2 ∨ s.bit DRAMC_STATUS DRAMC_STATUS_AVAIL = true
    (¬ (fits ∧ open') → Answers (.dramPortRequest p write a bytes) s fun t => t.stored Ev.DRAM_ACCESS_ERROR = true ∧
      (write = false → Out.dramRead p a.toNat (List.replicate 64 0) ∈ t.out) ∧ t.dramPort p = s.dramPort p ∧ t.dram = s.dram) ∧
    (fits → open' → (s.dramPort p).waiting = [] → s.portFits p rs = true →
      Answers (.dramPortRequest p write a bytes) s fun t => (t.dramPort p).queue = (s.dramPort p).queue ++ rs ∧ t.dram = s.dram) ∧
    (fits → open' → s.portFits p rs = false ∨ (s.dramPort p).waiting ≠ [] →
      ((p : Nat) < 2 → exec (.dramPortRequest p write a bytes) s = .next s.settle) ∧
      (2 ≤ (p : Nat) → Answers (.dramPortRequest p write a bytes) s fun t =>
        (t.dramPort p).waiting = (s.dramPort p).waiting ++ rs ∧ (t.dramPort p).queue = (s.dramPort p).queue))) ∧
  (∀ (c : Fin 2) random, s.bit DRAMC_STATUS DRAMC_STATUS_AVAIL = false ∨ s.pickPort c = none →
    exec (.dramCommandSlot c (.request random)) s = .next s.settle) ∧
  (∀ (c : Fin 2) p r random, s.bit DRAMC_STATUS DRAMC_STATUS_AVAIL = true → s.pickPort c = some p → (s.dramPort p).next c = some r →
    let place := Config.dramPlace (s.chanAddr r.addr)
    let within := r.addr + (if r.write then r.bytes.length else r.len) ≤ s.dramFitted
    let isOpen := ∃ x ∈ (s.dramCh c).rows, x.1 = place.1 ∧ x.2.1 = place.2
    let idle := s.fld DRAMC_PAGE_CFG DRAMC_PAGE_CFG_IDLE
    Answers (.dramCommandSlot c (.request random)) s fun t =>
      ((s.dramPort p).waiting = [] → (t.dramPort p).queue = (s.dramPort p).queue.erase r) ∧
      (within → r.write = true → (∀ k < r.bytes.length, t.dramByte (r.addr + k) = r.bytes.getD k 0) ∧
        ∀ x, x < r.addr ∨ r.addr + r.bytes.length ≤ x → t.dramByte x = s.dramByte x) ∧
      (within → r.write = false → t.dram = s.dram ∧ Out.dramRead p r.addr (s.dramLoad r.addr r.len) ∈ t.out) ∧
      (¬ within → t.stored Ev.DRAM_ACCESS_ERROR = true ∧ t.dram = s.dram) ∧
      (idle ≠ 0 → (t.dramCh c).rows.head? = some (place.1, place.2, s.now) ∧
        (¬ isOpen → s.bit DRAMC_RH_CFG DRAMC_RH_CFG_EN = true → random % 2 ^ clampN 4 16 (s.fld DRAMC_RH_CFG DRAMC_RH_CFG_K) = 0 →
          place ∈ (t.dramCh c).owed)) ∧
      (idle = 0 → ∀ x ∈ (t.dramCh c).rows, x.1 ≠ place.1)) ∧
  (∀ (c : Fin 2), s.refreshes c = true → let d := s.fld DRAMC_STATUS (debtField c)
    (d < 7 → Answers (.refreshInterval c) s fun t => t.fld DRAMC_STATUS (debtField c) = d + 1 ∧ Frame [DRAMC_STATUS] s t) ∧
    (7 ≤ d → Answers (.refreshInterval c) s fun t => t.fld DRAMC_STATUS (debtField c) = 7 ∧ (t.dramCh c).rows = [] ∧
      t.stored Ev.DRAM_REFRESH_FORCED = true) ∧
    (d ≠ 0 → ∀ bank, s.bankWanted c bank = false → Answers (.dramCommandSlot c (.refreshBank bank)) s fun t =>
      let whole := ∀ b < Config.dramBanks, b = bank ∨ b ∈ (s.dramCh c).covered
      (t.dramCh c).rows = ((s.dramCh c).rows.filter fun x => x.1 != bank) ∧
      (whole → t.fld DRAMC_STATUS (debtField c) = d - 1 ∧ (t.dramCh c).covered = []) ∧
      (¬ whole → t.fld DRAMC_STATUS (debtField c) = d ∧ bank ∈ (t.dramCh c).covered))) ∧
  (∀ c : Fin 2, (s.refreshes c = false → exec (.refreshInterval c) s = .next s.settle) ∧
    ∀ bank, s.refreshes c = false ∨ s.fld DRAMC_STATUS (debtField c) = 0 ∨ s.bankWanted c bank = true →
      exec (.dramCommandSlot c (.refreshBank bank)) s = .next s.settle) ∧
  (∀ (c : Fin 2) bank, ((s.dramCh c).rows.find? fun x => x.1 == bank) = none → exec (.pageIdleClose c bank) s = .next s.settle) ∧
  (∀ (c : Fin 2) bank x, ((s.dramCh c).rows.find? fun x => x.1 == bank) = some x → Answers (.pageIdleClose c bank) s fun t =>
    (t.dramCh c).rows = (s.dramCh c).rows.filter (fun y => y.1 != bank) ∧
    t.now = max s.now (x.2.2 + nsTc (s.fld DRAMC_PAGE_CFG DRAMC_PAGE_CFG_IDLE)) ∧
    ∀ row, (bank, row) ∈ (s.dramCh c).owed → (0 < row → Out.rowRefresh c bank (row - 1) ∈ t.out) ∧
      (row < Config.dramLastRow → Out.rowRefresh c bank (row + 1) ∈ t.out))

/-- R314, R359, R361, R362, R371 to R374, R413: a verify or a sweep starts on the channels named that are ACTIVE or FAILED; a sweep passes where the
window of every lane has 8 steps, and centres the delays in the windows; a verify passes where every lane does at 4 steps about its delays. A
channel that has been initialised is verified. Errors of the stores are counted, the first uncorrectable one recorded, after what the word struck
held is lost. The window reads and writes its target, the DRAM through its port, and its address moves on; beyond the target it reads 0 and is an
access error. The model's choices in it: log entries 5, 48, 56, 76, 77, 117, 118. -/
def Obligations.DramTraining : Prop := ∀ s : State,
  (s.answers DRAMC_CMD = true → ∀ mask : BitVec 2,
    let starts := fun c : Fin 2 => mask.getLsbD c = true ∧ s.dramUses c = true ∧ (s.chanState c = dramActive ∨ s.chanState c = dramFailed)
    ∀ i ∈ [(false, Instr.dramVerify mask), (true, .dramSweep mask)], Answers i.2 s fun t => ∀ c : Fin 2,
      (starts c → t.chanState c = dramSweeping ∧ (t.dramCh c).sweep = i.1 ∧ (t.dramCh c).host = true ∧ (t.dramCh c).began = s.now ∧
        (t.dramCh c).failed = (s.chanState c == dramFailed)) ∧
      (¬ starts c → t.chanState c = s.chanState c ∧ t.dramCh c = s.dramCh c)) ∧
  (∀ (c : Fin 2) (read write : List (BitVec 256)) pick after,
    let k := s.dramCh c
    let trains := s.chanState c = dramSweeping ∧ s.dramLock = true
    let rd := fun (l : Nat) => widest (read.getD l 0) pick
    let wr := fun (l : Nat) => widest (write.getD l 0) pick
    let width := fun (l : Nat) => min (rd l).2 (wr l).2
    let wide := ∀ l < 8, 8 ≤ width l
    let ok := ∀ l < 8, passesAbout (read.getD l 0) (s.laneDelay (DRAMC_RDLY_LO c) (DRAMC_RDLY_HI c) l) = true ∧
      passesAbout (write.getD l 0) (s.laneDelay (DRAMC_WDLY_LO c) (DRAMC_WDLY_HI c) l) = true
    let does := Answers (.dramTrainingEnd c read write pick after) s
    (¬ trains → exec (.dramTrainingEnd c read write pick after) s = .next s.settle) ∧
    (trains → does fun t => t.stored Ev.DRAM_TRAIN_DONE = true ∧ t.now = max s.now (k.began + min after (usTc (if k.sweep then 5000 else 200)))) ∧
    (trains → k.sweep = true → does fun t =>
      t.bit DRAMC_STATUS DRAMC_STATUS_RETRAIN_DUE = false ∧ t.reg (DRAMC_WINW_LO c) = laneWord width 0 ∧ t.reg (DRAMC_WINW_HI c) = laneWord width 1 ∧
      (wide → t.chanState c = dramActive ∧ t.reg (DRAMC_RDLY_LO c) = laneWord (centre ∘ rd) 0 ∧ t.reg (DRAMC_RDLY_HI c) = laneWord (centre ∘ rd) 1 ∧
        t.reg (DRAMC_WDLY_LO c) = laneWord (centre ∘ wr) 0 ∧ t.reg (DRAMC_WDLY_HI c) = laneWord (centre ∘ wr) 1 ∧
        (s.bit PMU_WARN_STAT PMU_WARN_STAT_FROZEN = true → t.delaySet = s.delaySet)) ∧
      (¬ wide → t.chanState c = dramFailed ∧ t.status Ev.DRAM_CHANNEL_FAILED = true ∧ t.reg (DRAMC_RDLY_LO c) = s.reg (DRAMC_RDLY_LO c) ∧
        (s.dramUses c = true → t.bit DRAMC_STATUS DRAMC_STATUS_AVAIL = false))) ∧
    (trains → k.sweep = false → k.host = false → does fun t =>
      (ok → t.chanState c = dramActive) ∧ (¬ ok → t.chanState c = dramSweeping ∧ (t.dramCh c).sweep = true ∧ (t.dramCh c).host = false)) ∧
    (trains → k.sweep = false → k.host = true → does fun t =>
      t.chanState c = (if k.failed then dramFailed else dramActive) ∧
      (t.bit DRAMC_STATUS (if (c : Nat) = 0 then DRAMC_STATUS_VFAIL_0 else DRAMC_STATUS_VFAIL_1) = false ↔ ok))) ∧
  (∀ c : Fin 2, s.chanState c = dramInit → s.dramLock = true → Answers (.dramInitDone c) s fun t =>
    t.chanState c = dramSweeping ∧ (t.dramCh c).sweep = false ∧ (t.dramCh c).host = false ∧ (t.dramCh c).began = s.now) ∧
  (∀ c : Fin 2, s.chanState c ≠ dramInit ∨ s.dramLock = false → exec (.dramInitDone c) s = .next s.settle) ∧
  (∀ (store : Fin 3) held word, let u := s.storeStruck store held
    ((∀ hit, held = some hit → (storeOfHit hit).getD 2 ≠ (store : Nat)) → u = s) ∧
    Answers (.storeEccError store (.uncorrectable held) word) s fun t =>
      t.fld DRAMC_STORE_UNCORR ⟨0, 32⟩ = min (u.fld DRAMC_STORE_UNCORR ⟨0, 32⟩ + 1) (2 ^ 32 - 1) ∧
      t.bit DRAMC_ECC_STAT DRAMC_ECC_STAT_UNCORR = true ∧ t.stored Ev.STORE_UNCORRECTABLE = true ∧
      (u.bit DRAMC_ECC_STAT DRAMC_ECC_STAT_UNCORR = true → t.reg DRAMC_ECC_STAT = u.reg DRAMC_ECC_STAT) ∧
      (u.bit DRAMC_ECC_STAT DRAMC_ECC_STAT_UNCORR = false → t.fld DRAMC_ECC_STAT DRAMC_ECC_STAT_STORE = store ∧
        t.fld DRAMC_ECC_STAT DRAMC_ECC_STAT_WORD = word % 2 ^ 23)) ∧
  (∀ (store : Fin 3) word, (store : Nat) ≠ 2 → Answers (.storeEccError store .corrected word) s fun t =>
    t.fld DRAMC_STORE_CORR ⟨0, 32⟩ = min (s.fld DRAMC_STORE_CORR ⟨0, 32⟩ + 1) (2 ^ 32 - 1) ∧ t.reg DRAMC_ECC_STAT = s.reg DRAMC_ECC_STAT) ∧
  (∀ word, Answers (.storeEccError 2 .corrected word) s fun t => t.fld SLALOM_ECC_CORRECTED ⟨0, 32⟩ =
    min (s.fld SLALOM_ECC_CORRECTED ⟨0, 32⟩ + 1) (2 ^ 32 - 1) ∧ t.reg DRAMC_ECC_STAT = s.reg DRAMC_ECC_STAT) ∧
  (s.answers DRAMC_WIN_DATA = true →
    let a := s.winAddr
    let tgt := s.fld DRAMC_WIN_CTRL DRAMC_WIN_CTRL_TGT
    let on := s.bit DRAMC_STATUS DRAMC_STATUS_AVAIL = true ∧ a + 4 ≤ s.dramFitted
    let idle := (s.dramPort 3).queue = [] ∧ (s.dramPort 3).waiting = []
    let moved := fun t : State => t.winAddr = (a + 4) % 2 ^ 36
    (s.winSize ≤ a → Answers .winDataRead s fun t => t.reply = 0 ∧ t.stored Ev.REG_ACCESS_ERROR = true ∧ moved t ∧
      (tgt = 3 → t.stored Ev.DRAM_ACCESS_ERROR = true)) ∧
    (a < s.winSize → Answers .winDataRead s fun t => moved t ∧ (tgt ≠ 3 ∨ ¬ on ∨ idle → SameMemory s t) ∧ (tgt = 0 → t.reply = s.symRead a) ∧
      (tgt = 1 → t.reply = s.weight (a / 4)) ∧ (tgt = 2 → t.reply = wordOf (s.sramLoad a 4)) ∧
      (tgt = 3 → on → t.reply = wordOf ((s.portAccess 3 (s.readReqs a 4)).dramLoad a 4) ∧ (idle → t.reply = wordOf (s.dramLoad a 4))) ∧
      (tgt = 3 → ¬ on → t.reply = 0 ∧ t.stored Ev.DRAM_ACCESS_ERROR = true)) ∧
    ∀ w, (s.winSize ≤ a ∨ tgt < 2 → Answers (.winDataWrite w) s fun t => t.stored Ev.REG_ACCESS_ERROR = true ∧ moved t ∧ SameMemory s t ∧
        (tgt = 3 → t.stored Ev.DRAM_ACCESS_ERROR = true)) ∧
      (a < s.winSize → tgt = 2 → Answers (.winDataWrite w) s fun t => moved t ∧
        wordOf (t.sramLoad a 4) = w ∧ (∀ b, b < a ∨ a + 4 ≤ b → t.capByte b = s.capByte b) ∧ t.dram = s.dram) ∧
      (a < s.winSize → tgt = 3 → on → Answers (.winDataWrite w) s fun t => moved t ∧
        wordOf (t.dramLoad a 4) = w ∧ (idle → ∀ b, b < a ∨ a + 4 ≤ b → t.dramByte b = s.dramByte b) ∧ t.capSram = s.capSram) ∧
      (a < s.winSize → tgt = 3 → ¬ on → Answers (.winDataWrite w) s fun t => moved t ∧ t.stored Ev.DRAM_ACCESS_ERROR = true ∧ SameMemory s t))

/-- R379, R382 to R384, R387, R390, R393, R395: on a channel that runs and fetches it, in a mode from Configure onward, STOP parks, with a record
where C is set, JUMP, LOOP and ENDL go on at their index, where that can be executed, a third loop or an ENDL without one stops the channel,
SIGNAL reports and records, WAIT is done where its condition holds, at once or later, unless its time is over before. A record that finds its ring
full stalls the channel; a word with an uncorrectable error stops it, an operand word too. Corrected errors are counted, word by word. The model's
choices in it: log entries 8, 73, 74. -/
def Obligations.ScarabProgram : Prop := ∀ (s : State) (n : Fin 16) (w : BitVec 64) (ecc : List Ecc), Ecc.fatal ∉ ecc →
  let pc := s.scPc n
  let p := s.prodIdx n
  (s.ScReady n opStop w →
    (cBit w = false → Answers (.scarabStop n ecc) s fun t => t.scState n = ScSt.parked ∧ t.scPc n = pc ∧
      (ecc.head? = some .corrected → t.fld SCARAB_PMEM_CORRECTED ⟨0, 32⟩ = min (s.fld SCARAB_PMEM_CORRECTED ⟨0, 32⟩ + 1) (2 ^ 32 - 1)) ∧
      Frame [SCARAB_CH_STAT n, SCARAB_PMEM_CORRECTED, SCARAB_CNT_FLAGS] s t) ∧
    (cBit w = true → s.ringFull n = false → Answers (.scarabStop n ecc) s fun t =>
      t.scState n = ScSt.parked ∧ t.prodIdx n = (p + 1) % 65536 ∧ t.stored Ev.SCARAB_RECORD = true) ∧
    (cBit w = true → s.ringFull n = true → Answers (.scarabStop n ecc) s fun t =>
      t.scState n = ScSt.stall ∧ t.prodIdx n = p ∧ t.stored Ev.SCARAB_RING_FULL = true)) ∧
  (s.ScReady n opJump w → s.fetchError (wbits w 0 13) = none → Answers (.scarabJump n ecc) s fun t => t.ScAt n (wbits w 0 13) ∧
      Frame [SCARAB_CH_STAT n, SCARAB_PMEM_CORRECTED, SCARAB_CNT_FLAGS] s t) ∧
  (s.ScReady n opLoop w →
    (wbits w 0 32 ≠ 0 → (s.scChan n).loops.length < 2 → s.fetchError (pc + 1) = none → Answers (.scarabLoop n ecc) s fun t =>
      t.ScAt n (pc + 1) ∧ (t.scChan n).loops = (pc + 1, wbits w 0 32, 0) :: (s.scChan n).loops) ∧
    (wbits w 0 32 = 0 → s.fetchError (s.afterEndl 8192 (pc + 1) 0) = none → Answers (.scarabLoop n ecc) s fun t =>
      t.ScAt n (s.afterEndl 8192 (pc + 1) 0) ∧ (t.scChan n).loops = (s.scChan n).loops) ∧
    (wbits w 0 32 ≠ 0 → 2 ≤ (s.scChan n).loops.length → s.ringFull n = false → Answers (.scarabLoop n ecc) s fun t =>
      t.scState n = ScSt.error ∧ t.scPc n = pc ∧ t.prodIdx n = (p + 1) % 65536)) ∧
  (s.ScReady n opEndl w →
    (∀ start count i rest, (s.scChan n).loops = (start, count, i) :: rest →
      (i + 1 < count → s.fetchError start = none → Answers (.scarabEndl n ecc) s fun t =>
        t.ScAt n start ∧ (t.scChan n).loops = (start, count, i + 1) :: rest) ∧
      (count ≤ i + 1 → s.fetchError (pc + 1) = none → Answers (.scarabEndl n ecc) s fun t => t.ScAt n (pc + 1) ∧ (t.scChan n).loops = rest)) ∧
    ((s.scChan n).loops = [] → s.ringFull n = false → Answers (.scarabEndl n ecc) s fun t => t.scState n = ScSt.error ∧ t.scPc n = pc)) ∧
  (s.ScReady n opSignal w →
    (s.ringFull n = false → s.fetchError (pc + 1) = none → Answers (.scarabSignal n ecc) s fun t =>
      t.ScAt n (pc + 1) ∧ t.prodIdx n = (p + 1) % 65536 ∧ t.stored Ev.SCARAB_SIGNAL = true ∧ t.stored Ev.SCARAB_RECORD = true) ∧
    (s.ringFull n = true → Answers (.scarabSignal n ecc) s fun t =>
      t.scState n = ScSt.stall ∧ t.prodIdx n = p ∧ t.stored Ev.SCARAB_SIGNAL = true ∧ t.stored Ev.SCARAB_RING_FULL = true)) ∧
  (s.ScReady n opWait w →
    (s.waitHolds w = false → Answers (.scarabWait n ecc) s fun t => t.scState n = ScSt.wait ∧ t.scPc n = pc ∧ (t.scChan n).wait = some w ∧
      (t.scChan n).waitEnd = if wbits w 0 32 = 0 then none else some (s.now + usTc (wbits w 0 32))) ∧
    (s.waitHolds w = true → s.fetchError (pc + 1) = none → Answers (.scarabWait n ecc) s fun t =>
      t.ScAt n (pc + 1) ∧ (t.scChan n).wait = none ∧ t.now = s.now)) ∧
  (s.scOn = true → (s.scChan n).wait = some w →
    (s.waitOver n = false → s.waitHolds w = true → s.fetchError (pc + 1) = none → Answers (.scarabWaitDone n) s fun t =>
      t.ScAt n (pc + 1) ∧ (t.scChan n).wait = none ∧ (t.scChan n).waitEnd = none) ∧
    (s.waitOver n = false → s.waitHolds w = false → exec (.scarabWaitDone n) s = .next s.settle) ∧
    (s.waitOver n = true → s.ringFull n = false → Answers (.scarabWaitDone n) s fun t =>
      t.scState n = ScSt.error ∧ t.scPc n = pc ∧ (t.scChan n).wait = none ∧ t.stored Ev.SCARAB_ERROR = true) ∧
    ((s.scChan n).waitEnd = none → exec (.scarabWaitTimeout n) s = .next s.settle) ∧
    (∀ e, (s.scChan n).waitEnd = some e → (s.advance e).waitHolds w = true → s.now ≤ e → s.fetchError (pc + 1) = none →
      Answers (.scarabWaitTimeout n) s fun t => t.ScAt n (pc + 1) ∧ t.now = e ∧ (t.scChan n).wait = none) ∧
    (∀ e, (s.scChan n).waitEnd = some e → (s.advance e).waitHolds w = false ∨ e < s.now → s.ringFull n = false →
      Answers (.scarabWaitTimeout n) s fun t =>
        t.scState n = ScSt.error ∧ t.scPc n = pc ∧ t.now = max s.now e ∧ (t.scChan n).wait = none ∧ t.stored Ev.SCARAB_ERROR = true)) ∧
  (s.scOn = false ∨ (s.scChan n).wait = none →
    exec (.scarabWaitDone n) s = .next s.settle ∧ exec (.scarabWaitTimeout n) s = .next s.settle) ∧
  (s.scOn = false ∨ s.scState n ≠ ScSt.run →
    ∀ c ∈ [Instr.scarabStop n ecc, .scarabMove n ecc, .scarabMovex n ecc, .scarabSwap n ecc, .scarabLoop n ecc, .scarabEndl n ecc,
      .scarabWait n ecc, .scarabSignal n ecc, .scarabJump n ecc], exec c s = .next s.settle) ∧
  (s.scOn = true → s.scState n = ScSt.run → (s.scChan n).xfer = none → s.ringFull n = false → ∀ l : List Ecc,
    let c := fun (x : Instr) => Answers x s fun t =>
      t.scState n = ScSt.error ∧ t.scPc n = pc ∧ t.prodIdx n = (p + 1) % 65536 ∧ t.stored Ev.SCARAB_ERROR = true
    (l.head? = some .fatal → ∀ x ∈ [Instr.scarabStop n l, .scarabMove n l, .scarabMovex n l, .scarabSwap n l, .scarabLoop n l,
      .scarabEndl n l, .scarabWait n l, .scarabSignal n l, .scarabJump n l], c x) ∧
    (s.ScReady n opMove w → Ecc.fatal ∈ l.take 3 → c (.scarabMove n l)) ∧
    (s.ScReady n opSwap w → Ecc.fatal ∈ l.take 3 → c (.scarabSwap n l)) ∧
    (s.ScReady n opMovex w → Ecc.fatal ∈ l.take 4 → c (.scarabMovex n l)))

/-- R382 to R389: MOVE, SWAP and MOVEX whose operands are right begin a transfer at their effective addresses, a MOVE with R waiting for its line; a
MOVE of no bytes is done at once; a wrong operand stops the channel before a byte moves. The last byte of a transfer without R moves once its
share of Scarab's rate has let it, the others moving theirs; without C it moves, reverses or reshuffles its bytes and goes on; a burst begins when
the line is up for it, the one before it done, ends the transfer with the last byte, or is withdrawn. The model's choices in it: log entries 74,
99. -/
def Obligations.ScarabTransfers : Prop := ∀ (s : State) (n : Fin 16) (w : BitVec 64),
  let pc := s.scPc n
  let i := (s.scChan n).iter
  let ws := fun k => (List.range k).map fun j => s.pmemWord (pc + j)
  let at_ := fun (k j : Nat) => (effective ((ws k).getD j 0) i).toNat
  let started := fun (t : State) (k len : Nat) => ∃ x, (t.scChan n).xfer = some x ∧ x.words = ws k ∧ x.src = at_ k 1 ∧ x.dst = at_ k 2 ∧
    x.len = len ∧ x.done = 0 ∧ x.began = s.now ∧ t.scPc n = pc
  (∀ ecc : List Ecc, Ecc.fatal ∉ ecc →
    (s.ScReady n opMove w → wbits w 0 32 ≠ 0 → scOperands (ws 3) i = none → Answers (.scarabMove n ecc) s fun t =>
      started t 3 (wbits w 0 32) ∧ t.scState n = if wbits w 49 1 = 1 then ScSt.wait else ScSt.run) ∧
    (s.ScReady n opSwap w → wbits w 0 32 ≠ 0 → scOperands (ws 3) i = none → Answers (.scarabSwap n ecc) s fun t =>
      started t 3 (wbits w 0 32) ∧ t.scState n = ScSt.run) ∧
    (s.ScReady n opMovex w → scOperands (ws 4) i = none → Answers (.scarabMovex n ecc) s fun t =>
      started t 4 ((movexShape w).2.1 * (movexShape w).2.2) ∧ t.scState n = ScSt.run) ∧
    (s.ScReady n opMove w → wbits w 0 32 = 0 → cBit w = false → s.fetchError (pc + 3) = none → Answers (.scarabMove n ecc) s fun t =>
      t.ScAt n (pc + 3) ∧ (t.scChan n).xfer = none ∧ SameMemory s t) ∧
    (s.ScReady n opMove w → wbits w 0 32 ≠ 0 → ∀ e, scOperands (ws 3) i = some e → s.ringFull n = false → Answers (.scarabMove n ecc) s fun t =>
      t.scState n = ScSt.error ∧ t.scPc n = pc ∧ (s.bit (SCARAB_RING_HI n) SCARAB_RING_HI_SPACE = false → t.capSram = s.capSram))) ∧
  (s.scOn = true → ∀ x ecc, (s.scChan n).xfer = some x → x.words.headD 0 = w → cBit w = false → x.withdrawn = false →
    (∀ m < 16, m ≠ (n : Nat) → s.sharing m = none) →
    s.fetchError (pc + x.words.length) = none → spaceOf (x.words.getD 1 0) = 1 → spaceOf (x.words.getD 2 0) = 1 →
    let left := x.len - x.done
    let old := fun k => s.capByte (x.src + x.done + (if x.src < x.dst ∧ x.dst < x.src + left then k % (x.dst - x.src) else k))
    (opOf w = opMove → wbits w 49 1 = 0 → Answers (.scarabTransferDone n ecc) s fun t =>
      t.ScAt n (pc + x.words.length) ∧ (t.scChan n).xfer = none ∧ (∀ k < left, t.capByte (x.dst + x.done + k) = old k) ∧
      ∀ a, a < x.dst + x.done ∨ x.dst + x.done + left ≤ a → t.capByte a = s.capByte a) ∧
    (opOf w = opSwap → left % 2 ^ wbits w 52 2 = 0 → Answers (.scarabTransferDone n ecc) s fun t =>
      t.ScAt n (pc + x.words.length) ∧ (t.scChan n).xfer = none ∧
      t.sramLoad (x.dst + x.done) left = reverseElems (2 ^ wbits w 52 2) (s.sramLoad (x.src + x.done) left) ∧
      ∀ a, a < x.dst + x.done ∨ x.dst + x.done + left ≤ a → t.capByte a = s.capByte a)) ∧
  (s.scOn = true → ∀ x ecc, (s.scChan n).xfer = some x → x.words.headD 0 = w → ¬ (opOf w = opMove ∧ wbits w 49 1 = 1) →
    let u := s.shareRate n x
    let left := x.len - x.done
    (opOf w = opMovex → exec (.scarabTransferDone n ecc) s = .next ((u.movexBytes n x).1.xferEnd n ((u.movexBytes n x).2.mark ecc)).settle) ∧
    (opOf w = opSwap → exec (.scarabTransferDone n ecc) s = .next ((u.swapBytes n x left).1.xferEnd n ((u.swapBytes n x left).2.mark ecc)).settle) ∧
    (opOf w = opMove → exec (.scarabTransferDone n ecc) s = .next ((u.moveBytes n x left).1.xferEnd n ((u.moveBytes n x left).2.mark ecc)).settle) ∧
    Answers (.scarabTransferDone n ecc) s fun t =>
      t.now = max s.now (max s.scBusy x.began + 4 * ((left + ((List.range 16).map (s.shareOf n left)).sum + 127) / 128)) ∧ t.scBusy = t.now ∧
      ∀ m < 16, m ≠ (n : Nat) → ∀ y, s.sharing m = some y → ∃ z, (t.scChan m).xfer = some z ∧ z.done = y.done + s.shareOf n left m) ∧
  (s.scOn = true → ∀ x ecc, (s.scChan n).xfer = some x → x.words.headD 0 = w → opOf w = opMove → wbits w 49 1 = 1 →
    (∀ len, x.burst = some len → x.done + len = x.len → exec (.scarabTransferDone n ecc) s =
      .next ((s.moveBytes n x len).1.xferEnd n ((s.moveBytes n x len).2.mark ecc)).settle) ∧
    (x.burst = none → x.burstLen ≠ 0 → s.lineUp x.line x.burstLen = true → Answers (.scarabBurstStart n ecc) s fun t =>
      t.scState n = ScSt.run ∧ (t.scChan n).xfer = some { x with burst := some x.burstLen }) ∧
    (x.burst = none → s.lineUp x.line x.burstLen = false → exec (.scarabBurstStart n ecc) s = .next s.settle) ∧
    (∀ len, x.burst = some len →
      let z := s.moveBytes n x len
      let y := z.2.mark ecc
      Answers (.scarabBurstStart n ecc) s fun t =>
        if y.burstLen ≠ 0 ∧ z.1.lineUp y.line y.burstLen = true then
          t.scState n = ScSt.run ∧ (t.scChan n).xfer = some { y with burst := some y.burstLen }
        else t.scState n = ScSt.wait ∧ (t.scChan n).xfer = some y) ∧
    (∀ len kept, x.burst = some len → len ≤ kept ∨ 1 < x.line ∨ (x.withdrawn = true ∧ x.kept ≠ none) →
      exec (.scarabReqWithdraw n kept) s = .next s.settle) ∧
    (∀ len kept, x.burst = some len → kept < len → x.line < 2 → x.withdrawn = false ∨ x.kept = none → Answers (.scarabReqWithdraw n kept) s fun t =>
      (t.scChan n).xfer = some { x with kept := some kept, withdrawn := true } ∧
      t.fld SCARAB_WITHDRAWN_COUNT ⟨0, 32⟩ = min (s.fld SCARAB_WITHDRAWN_COUNT ⟨0, 32⟩ + 1) (2 ^ 32 - 1))) ∧
  (s.scOn = false ∨ (s.scChan n).xfer = none → ∀ ecc kept, ∀ c ∈ [Instr.scarabTransferDone n ecc, .scarabBurstStart n ecc, .scarabReqWithdraw n kept],
    exec c s = .next s.settle)

/-- R379, R380, R382, R391, R392: a channel enabled runs at START_PC where that can be executed, else stops with an error, one enabled again goes on,
one disabled is idle; the doorbell sets going a parked channel whose word is no STOP; the consumer index makes room for a record that waits, after
which the channel parks or goes on; the window on the program memory. The model's choices in it: log entries 73, 75. -/
def Obligations.ScarabRegisters : Prop := ∀ (s : State) (n : Fin 16) (w : Word),
  (s.answers (SCARAB_CH_CTRL n) = true →
    (s.bit (SCARAB_CH_CTRL n) SCARAB_CH_CTRL_EN = false → s.fetchError (getF w SCARAB_CH_CTRL_START_PC) = none →
      Answers (.scarabEnable n w) s fun t => t.ScAt n (getF w SCARAB_CH_CTRL_START_PC) ∧ t.scChan n = {} ∧
        t.bit (SCARAB_CH_CTRL n) SCARAB_CH_CTRL_EN = true ∧ Frame [SCARAB_CH_CTRL n, SCARAB_CH_STAT n] { s with chans := t.chans } t) ∧
    (s.bit (SCARAB_CH_CTRL n) SCARAB_CH_CTRL_EN = false → s.fetchError (getF w SCARAB_CH_CTRL_START_PC) ≠ none → s.ringFull n = false →
      Answers (.scarabEnable n w) s fun t => t.scState n = ScSt.error ∧ t.scPc n = getF w SCARAB_CH_CTRL_START_PC ∧ t.stored Ev.SCARAB_ERROR = true) ∧
    (s.bit (SCARAB_CH_CTRL n) SCARAB_CH_CTRL_EN = true → Answers (.scarabEnable n w) s fun t => Frame [SCARAB_CH_CTRL n] s t) ∧
    Answers (.scarabDisable n w) s (fun t => t.scState n = ScSt.idle ∧ t.scChan n = {} ∧ t.bit (SCARAB_CH_CTRL n) SCARAB_CH_CTRL_EN = false)) ∧
  (s.answers SCARAB_DOORBELL = true → s.scState n = ScSt.parked →
    (w.getLsbD n = true → opOf (s.pmemWord (s.scPc n)) ≠ opStop → s.fetchError (s.scPc n) = none → Answers (.scarabDoorbell w) s fun t =>
      t.ScAt n (s.scPc n)) ∧
    (w.getLsbD n = false → Answers (.scarabDoorbell w) s fun t => t.scState n = ScSt.parked) ∧
    (opOf (s.pmemWord (s.scPc n)) = opStop → (s.freeEcc ≠ .fatal → Answers (.scarabDoorbell (BitVec.ofNat 32 (2 ^ (n : Nat)))) s fun t =>
        t.scState n = ScSt.parked) ∧
      (s.freeEcc = .fatal → s.ringFull n = false → Answers (.scarabDoorbell (BitVec.ofNat 32 (2 ^ (n : Nat)))) s fun t =>
        t.scState n = ScSt.error ∧ t.stored Ev.SCARAB_ERROR = true))) ∧
  (s.answers (SCARAB_CONS_IDX n) = true →
    ((s.scChan n).due = none → Answers (.scarabConsIdxWrite n w) s fun t =>
      t.fld (SCARAB_CONS_IDX n) SCARAB_CONS_IDX_IDX = w.toNat % 65536 ∧ Frame [SCARAB_CONS_IDX n] s t) ∧
    (∀ r pc st, (s.scChan n).due = some (r, pc, st) → pc < 8192 → st = ScSt.parked ∨ (st = ScSt.run ∧ s.fetchError pc = none) →
      (s.prodIdx n + 65536 - w.toNat % 65536) % 65536 ≠ s.ringSize n → Answers (.scarabConsIdxWrite n w) s fun t =>
        t.scState n = st ∧ t.scPc n = pc ∧ t.prodIdx n = (s.prodIdx n + 1) % 65536 ∧ (t.scChan n).due = none)) ∧
  (s.answers SCARAB_PMEM_DATA_HI = true → Answers (.scarabPmemDataHiWrite w) s fun t =>
    t.pmemWord s.pmemAddr = w ++ s.reg SCARAB_PMEM_DATA_LO ∧ (∀ a, a ≠ s.pmemAddr → t.pmemWord a = s.pmemWord a) ∧
    t.pmemAddr = (s.pmemAddr + 1) % 8192) ∧
  (s.answers SCARAB_PMEM_DATA_LO = true → Answers .scarabPmemDataLoRead s fun t =>
    t.reply = (s.pmemWord s.pmemAddr).setWidth 32 ∧ t.reg SCARAB_PMEM_DATA_HI = (s.pmemWord s.pmemAddr >>> 32).setWidth 32 ∧
    t.pmemAddr = s.pmemAddr) ∧
  (s.answers SCARAB_PMEM_DATA_HI = true → Answers .scarabPmemDataHiRead s fun t =>
    t.reply = s.reg SCARAB_PMEM_DATA_HI ∧ t.pmemAddr = (s.pmemAddr + 1) % 8192 ∧ Frame [SCARAB_PMEM_ADDR] { s with reply := t.reply } t)

/-- R403 to R411. With no domain moving and no wake level asserted, DOMAIN_REQUEST of RET, OFF or ON: of 3 or the state that stands nothing changes
but DOM_d; one against R404 sets REFUSED and PMU_REQ_REFUSED; out of ON it opens the window, else the transition begins. The window ends after 4
always-on cycles and the transition begins; it ends no later than Table 17-5 says, and a tile off has every register but Glide's and the lost-link
mute at reset. A pin shows its level, and its active edge, or the timer's expiry, acts outside Standby: a domain a pin wakes whose parent is ON
begins to rise; the timer reloads and, in level mode, sets its flag. TIMER_CFG starts or stops the timer. A window, transition or expiry that is
not there does nothing. The model's choices in it: log entries 46, 107. -/
def Obligations.PowerDomains : Prop := ∀ s : State,
  let quiet := ∀ n < 5, s.wakeAsserted n = false
  (∀ (d : Fin 54) w (lat : Fin 4), s.answers (PMU_DOM d) = true → quiet → (∀ e : Fin 54, s.domMove e = none) → let v := getF w PMU_DOM_REQ
    (v = domMoving ∨ v = s.domState d → Answers (.domainRequest d w lat) s fun t => Frame [PMU_DOM d] s t ∧ t.domState d = s.domState d) ∧
    (v ≠ domMoving → v ≠ s.domState d → s.domJudge d v = false → Answers (.domainRequest d w lat) s fun t =>
      t.bit (PMU_DOM d) PMU_DOM_REFUSED = true ∧ t.stored Ev.PMU_REQ_REFUSED = true ∧ t.domState d = s.domState d ∧ t.domMoves = s.domMoves) ∧
    (v ≠ domMoving → v ≠ s.domState d → s.domJudge d v = true → s.domOn d = true → Answers (.domainRequest d w lat) s fun t =>
      t.domMove d = some ⟨some (s.now + usTc lat), v, s.now, false⟩ ∧ t.domState d = domIsOn ∧ t.fld (PMU_DOM d) PMU_DOM_REQ = v) ∧
    (v ≠ domMoving → v ≠ s.domState d → s.domJudge d v = true → s.domOn d = false → Answers (.domainRequest d w lat) s fun t =>
      t.domMove d = some ⟨none, v, s.now, s.domState d == domRet⟩ ∧ t.domState d = domMoving ∧ t.fld (PMU_DOM d) PMU_DOM_REQ = v)) ∧
  (∀ (d : Fin 54) w target began ret, s.domMove d = some ⟨some w, target, began, ret⟩ → quiet → Answers (.domainWindowEnd d) s fun t =>
    t.domState d = domMoving ∧ t.now = max s.now (w + usTc 4) ∧ t.domMove d = some ⟨none, target, t.now, s.domState d == domRet⟩) ∧
  (∀ (d : Fin 54) target began ret after, s.domMove d = some ⟨none, target, began, ret⟩ → quiet → s.rising = [] → s.domWait d = none → target < 3 →
    Answers (.domainTransitionEnd d after) s fun t => t.domState d = target ∧ t.domMove d = none ∧
      t.now = max s.now (min (s.now + after) (began + usTc (if target ≠ domIsOn then (domTimes d).1 else if ret then (domTimes d).2.1 else (domTimes d).2.2))) ∧
      (target = domOff → ∀ i : Fin 4, (d : Nat) = 10 + i →
        t.bit (TXCH_STATUS i) TXCH_STATUS_MUTE_LINK = s.bit (TXCH_STATUS i) TXCH_STATUS_MUTE_LINK ∧
        ∀ a, dieOf a = 1 + i → blockOf a ≠ 0x01 → a ≠ TXCH_STATUS i → t.reg a = resetWord a)) ∧
  (∀ d : Fin 54, (∀ w target began ret, s.domMove d ≠ some ⟨some w, target, began, ret⟩) → exec (.domainWindowEnd d) s = .next s.settle) ∧
  (∀ (d : Fin 54) after, (∀ target began ret, s.domMove d ≠ some ⟨none, target, began, ret⟩) →
    exec (.domainTransitionEnd d after) s = .next s.settle) ∧
  (∀ (n : Fin 4) level, (∀ e : Fin 54, s.domMove e = none) → Answers (.wakePinEvent n level) s fun t =>
    t.wakePins.getLsbD n = level ∧
    (level ≠ s.wakePins.getLsbD n → level ≠ s.bit PMU_WAKE_CFG (wakePol n) → s.mode ≠ .standby → s.rising = [] → ∀ d : Fin 54,
      s.wakeEn d n = true → s.domOn d = false → (parentOf d).all s.domOn = true →
        t.domState d = domMoving ∧ (t.domMove d).map DomMove.target = some domIsOn ∧ t.stored Ev.PMU_WAKE = true)) ∧
  (∀ e, s.timerEnd = some e → s.mode ≠ .standby → (∀ e : Fin 54, s.domMove e = none) → Answers .wakeTimerExpiry s fun t =>
    t.timerEnd = some (e + s.timerTc) ∧ t.now = max s.now e ∧
    (s.bit PMU_TIMER_CFG PMU_TIMER_CFG_MODE = true → t.bit PMU_TIMER_STAT PMU_TIMER_STAT_FLAG = true)) ∧
  (s.timerEnd = none ∨ s.mode = .standby → exec .wakeTimerExpiry s = .next s.settle) ∧
  (∀ w, s.answers PMU_TIMER_CFG = true → Answers (.timerCfgWrite w) s fun t =>
    t.timerEnd = (if bitF w PMU_TIMER_CFG_EN = true then some (s.now + s.timerTc) else none) ∧
    t.bit PMU_TIMER_CFG PMU_TIMER_CFG_EN = bitF w PMU_TIMER_CFG_EN)

/-- R399, R400, R402, R412, R413, R428. SUPPLY_DIP_BEGIN outside a dip records the rails, freezes, counts and raises SUPPLY_WARN; within one it adds
its rails; with TX_MUTE_ON_WARN On-air begins to go to Quiet. SUPPLY_DIP_END records the length in units of 0.1 us and the freeze ends 1 ms later.
RAIL_RESET_TIMEOUT leads to Standby, every domain OFF, no register kept but the always-on and MODE, the regulator in its low-power mode;
RAILS_VALID ends that, and with POR_N high leads from a Standby that no shutdown holds to Boot with a cold start due. AON_BROWNOUT_DETECT acts
with REG_LP only: AON_BOR set, the keeper's ratio, the timer, KEEP_CFG, BOOT_CFG and every WAKE_EN reset. AON_POWER_UP gives Standby with every
domain OFF. The model's choices in it: log entries 62, 92, 107, 108, 114. -/
def Obligations.Supplies : Prop := ∀ s : State,
  (∀ rails, s.dip = none → s.bit PMU_WARN_CFG PMU_WARN_CFG_TX_MUTE_ON_WARN = false → Answers (.supplyDipBegin rails) s fun t =>
    t.fld PMU_WARN_STAT PMU_WARN_STAT_RAIL = rails.toNat ∧ t.bit PMU_WARN_STAT PMU_WARN_STAT_FROZEN = true ∧ t.dip = some s.now ∧
    t.freezeEnd = none ∧ t.fld PMU_WARN_COUNT ⟨0, 32⟩ = min (s.fld PMU_WARN_COUNT ⟨0, 32⟩ + 1) (2 ^ 32 - 1) ∧ t.mode = s.mode ∧ t.trans = s.trans ∧
    t.status Ev.SUPPLY_WARN = true ∧ SameMemory s t) ∧
  (∀ rails b, s.dip = some b → Answers (.supplyDipBegin rails) s fun t =>
    t.fld PMU_WARN_STAT PMU_WARN_STAT_RAIL = s.fld PMU_WARN_STAT PMU_WARN_STAT_RAIL ||| rails.toNat ∧ Frame [PMU_WARN_STAT] s t) ∧
  (∀ rails, s.dip = none → s.bit PMU_WARN_CFG PMU_WARN_CFG_TX_MUTE_ON_WARN = true → s.mode = .onAir → s.trans = none → s.thermShut = false →
    Answers (.supplyDipBegin rails) s fun t => t.trans = some ⟨.quiet, false, s.now⟩) ∧
  (∀ b below, s.dip = some b → Answers (.supplyDipEnd below) s fun t =>
    t.dip = none ∧ t.freezeEnd = some (s.now + msTc) ∧ t.bit PMU_WARN_STAT PMU_WARN_STAT_BELOW_RESET = below ∧
    t.fld PMU_WARN_STAT PMU_WARN_STAT_DURATION = min 65535 ((s.now - b) * 10000000 / 1966080000)) ∧
  (s.dip = none → ∀ below, exec (.supplyDipEnd below) s = .next s.settle) ∧
  (s.freezeEnd = none → exec .warnFreezeEnd s = .next s.settle) ∧
  (∀ e, s.freezeEnd = some e → Answers .warnFreezeEnd s fun t =>
    t.bit PMU_WARN_STAT PMU_WARN_STAT_FROZEN = false ∧ t.freezeEnd = none ∧ t.now = max s.now e) ∧
  (s.mode ≠ .standby → Answers .railResetTimeout s fun t => t.mode = .standby ∧ t.railsIn = false ∧ t.startDue = none ∧
    t.bit PMU_STATUS PMU_STATUS_REG_LP = true ∧ (∀ d : Fin 54, t.domState d = domOff) ∧ t.boot PMU_BOOT_STAT_RETAIN_OK = 0 ∧ t.regs.filter (fun x => !alwaysOn x.1 && x.1 != RILYN_MODE) = []) ∧
  (s.mode = .standby → exec .railResetTimeout s = .next ({ s with railsIn := false, standbyHeld := false } : State).settle) ∧
  (s.mode = .standby → s.porHigh = true → s.standbyHeld = false → Answers .railsValid s fun t =>
    t.mode = .boot ∧ t.startDue = some false ∧ t.railsIn = true ∧ t.bit PMU_STATUS PMU_STATUS_REG_LP = false) ∧
  (s.mode ≠ .standby ∨ s.porHigh = false ∨ s.standbyHeld = true → Answers .railsValid s fun t => t.railsIn = true ∧ t.mode = s.mode ∧
    t.bit PMU_STATUS PMU_STATUS_REG_LP = false ∧ Frame [PMU_STATUS] { s with railsIn := true } t) ∧
  (s.bit PMU_STATUS PMU_STATUS_REG_LP = true → Answers .aonBrownoutDetect s fun t =>
    t.bit PMU_STATUS PMU_STATUS_AON_BOR = true ∧ t.boot PMU_BOOT_STAT_RETAIN_OK = 0 ∧ t.keeper.ratio = none ∧ t.timerEnd = none ∧
    t.reg TIME_KEEP_CFG = resetWord TIME_KEEP_CFG ∧ t.reg PMU_BOOT_CFG = resetWord PMU_BOOT_CFG ∧ t.mode = s.mode ∧
    ∀ d : Fin 54, t.domState d = s.domState d ∧ t.fld (PMU_DOM d) PMU_DOM_WAKE_EN = 0) ∧
  (s.bit PMU_STATUS PMU_STATUS_REG_LP = false → exec .aonBrownoutDetect s = .next s.settle) ∧
  Answers .aonPowerUp s (fun t => t.mode = .standby ∧ t.railsIn = false ∧ t.porHigh = false ∧ t.keeper = {} ∧ t.startDue = none ∧
    ∀ d : Fin 54, t.domState d = domOff)

/-- R416, R418, R419, R421 to R425. COLD_START and WARM_START begin the start that is due, or the one RESTART has asked for at its instant; with none
due they do nothing. A cold start begun in Boot with no record has KIND 0, REC_BAD, RETAIN_OK 0, timebase 0 and no DRAM contents; a warm one KIND
1, or 2 without RETAIN_OK, and keeps RETAIN_OK, timebase and FREQ. START_COMPLETE waits for SPLLs and DRAM, then: Configure, RETAIN_OK, both
counters 0, START_DONE. START_FAILURE with code 5, 4 (an SPLL of an ON tile not locked), 3, and 1 or 2 (their step run) records code and step;
START_WATCHDOG at TMO records 6. A warm start's first two failures are followed by a warm start, the third by a cold one; the third cold one, and
code 3 at once, by image B, or on B by Recovery. Every other case of these rows does nothing. Start calibration not permitted within 10 s ends. In
Recovery an image at or above the fuse level, while flash may be written, gives a cold start on image A. The model's choices in it: log entries
47, 62, 63, 64, 65, 82, 120. -/
def Obligations.Starts : Prop := ∀ s : State,
  (s.startDue = some false → exec .coldStart s = .next (s.startBegin false).settle) ∧
  (s.startDue = some true → exec .warmStart s = .next (s.startBegin true).settle) ∧
  (∀ d, s.startDue = none → s.restartAt = some (false, d) → exec .coldStart s = .next (((s.advance d).trigger false).startBegin false).settle) ∧
  (∀ d, s.startDue = none → s.restartAt = some (true, d) →
    exec .warmStart s = .next ((((s.advance d).selfRefresh).trigger true).startBegin true).settle) ∧
  (∀ warm, s.startDue ≠ some warm → s.startDue ≠ none ∨ s.restartAt.map Prod.fst ≠ some warm →
    exec (if warm then .warmStart else .coldStart) s = .next s.settle) ∧
  (s.startDue = some false → s.mode = .boot → s.record = none → (∀ x ∈ s.delaySet, x.1 ≠ PMU_BOOT_STAT) → Answers .coldStart s fun t =>
    t.mode = .boot ∧ t.starting = some ⟨false, true, s.now⟩ ∧ t.boot PMU_BOOT_STAT_KIND = 0 ∧ t.boot PMU_BOOT_STAT_REC_BAD = 1 ∧
    t.boot PMU_BOOT_STAT_RETAIN_OK = 0 ∧ t.tb = 0 ∧ t.dram = []) ∧
  (s.startDue = some true → s.mode = .boot → s.record = none → Answers .warmStart s fun t =>
    t.mode = .boot ∧ t.boot PMU_BOOT_STAT_KIND = (if s.boot PMU_BOOT_STAT_RETAIN_OK = 1 then 1 else 2) ∧
    t.boot PMU_BOOT_STAT_RETAIN_OK = s.boot PMU_BOOT_STAT_RETAIN_OK ∧ t.tb = s.tb ∧ t.reg TIME_FREQ = s.reg TIME_FREQ ∧
    t.starting = some ⟨true, s.boot PMU_BOOT_STAT_RETAIN_OK == 0, s.now⟩) ∧
  (∀ st after, s.starting = some st →
    (s.startReady = false → exec (.startComplete after) s = .next s.settle) ∧
    (s.startReady = true → Answers (.startComplete after) s fun t =>
      t.mode = .configure ∧ t.starting = none ∧ t.boot PMU_BOOT_STAT_RETAIN_OK = 1 ∧ t.boot PMU_BOOT_STAT_WARM_FAILS = 0 ∧
      t.boot PMU_BOOT_STAT_COLD_FAILS = 0 ∧ t.stored Ev.START_DONE = true)) ∧
  (s.starting = none → (∀ after, exec (.startComplete after) s = .next s.settle) ∧ (∀ step, exec (.startWatchdog step) s = .next s.settle) ∧
    ∀ code step, exec (.startFailure code step) s = .next s.settle) ∧
  (∀ st (step : Fin 16), s.starting = some st →
    let recorded := fun (code n : Nat) => Answers (.startFailure (Fin.ofNat 8 code) step) s fun t =>
      t.boot PMU_BOOT_STAT_FAIL = code ∧ t.boot PMU_BOOT_STAT_STEP = n ∧ t.starting = none
    let nothing := fun code : Fin 8 => exec (.startFailure code step) s = .next s.settle
    let unlocked := ∃ i ∈ tiles, s.tileOn i = true ∧ s.spllState i ≠ pllLocked
    (if st.asCold then recorded 1 1 ∧ recorded 2 2 else nothing 1 ∧ nothing 2) ∧ recorded 3 3 ∧ (unlocked → recorded 4 step) ∧
    (¬ unlocked → nothing 4) ∧ nothing 0 ∧ nothing 6 ∧ nothing 7 ∧
    Answers (.startFailure 3 step) s (fun t =>
      if s.boot PMU_BOOT_STAT_IMAGE = 0 then t.boot PMU_BOOT_STAT_IMAGE = 1 ∧ t.boot PMU_BOOT_STAT_COLD_FAILS = 0 ∧ t.startDue = some false
      else t.mode = .recovery ∧ t.boot PMU_BOOT_STAT_COLD_FAILS = 3 ∧ t.stored Ev.START_RECOVERY = true) ∧
    Answers (.startFailure 5 step) s (fun t => t.boot PMU_BOOT_STAT_FAIL = 5 ∧ t.boot PMU_BOOT_STAT_STEP = step) ∧
    Answers (.startWatchdog step) s (fun t => t.boot PMU_BOOT_STAT_FAIL = 6 ∧ t.boot PMU_BOOT_STAT_STEP = step ∧
      t.now = max s.now (st.began + msTc * max 200 (s.fld PMU_BOOT_CFG PMU_BOOT_CFG_TMO))) ∧
    (st.warm = true → s.boot PMU_BOOT_STAT_WARM_FAILS < 2 → Answers (.startFailure 5 step) s fun t =>
      t.boot PMU_BOOT_STAT_WARM_FAILS = s.boot PMU_BOOT_STAT_WARM_FAILS + 1 ∧ t.startDue = some true ∧ t.mode = s.mode) ∧
    (st.warm = true → 2 ≤ s.boot PMU_BOOT_STAT_WARM_FAILS → Answers (.startFailure 5 step) s fun t =>
      t.boot PMU_BOOT_STAT_WARM_FAILS = 0 ∧ t.startDue = some false ∧ t.mode = s.mode) ∧
    (st.warm = false → s.boot PMU_BOOT_STAT_COLD_FAILS < 2 → Answers (.startFailure 5 step) s fun t =>
      t.boot PMU_BOOT_STAT_COLD_FAILS = s.boot PMU_BOOT_STAT_COLD_FAILS + 1 ∧ t.startDue = some false ∧ t.mode = s.mode) ∧
    (st.warm = false → 2 ≤ s.boot PMU_BOOT_STAT_COLD_FAILS → s.boot PMU_BOOT_STAT_IMAGE = 0 → Answers (.startFailure 5 step) s fun t =>
      t.boot PMU_BOOT_STAT_IMAGE = 1 ∧ t.boot PMU_BOOT_STAT_COLD_FAILS = 0 ∧ t.startDue = some false ∧ t.fellBack = true) ∧
    (st.warm = false → 2 ≤ s.boot PMU_BOOT_STAT_COLD_FAILS → s.boot PMU_BOOT_STAT_IMAGE = 1 → Answers (.startFailure 5 step) s fun t =>
      t.mode = .recovery ∧ t.startDue = none ∧ t.boot PMU_BOOT_STAT_COLD_FAILS = 3 ∧ t.stored Ev.START_RECOVERY = true)) ∧
  (s.startCal = none ∨ (∃ c, s.startCal = some c ∧ c.running = true) ∨ s.trans.map Trans.target = some Mode.calibrate →
    exec .startCalPermitTimeout s = .next s.settle) ∧
  (∀ c, s.startCal = some c → c.running = false → s.trans.map Trans.target ≠ some Mode.calibrate → Answers .startCalPermitTimeout s fun t =>
    t.startCal = none ∧ t.now = max s.now (c.began + 10 * 1966080000) ∧ t.stored Ev.START_CAL_DONE = true) ∧
  (∀ v (level : Fin 64), s.mode = .recovery → s.flashFree = true → s.fuseLevel ≤ level → Answers (.recoveryPoll (some (v, level))) s fun t =>
    t.mode = .boot ∧ t.startDue = some false ∧ t.boot PMU_BOOT_STAT_IMAGE = 0 ∧ t.boot PMU_BOOT_STAT_WARM_FAILS = 0 ∧
    t.boot PMU_BOOT_STAT_COLD_FAILS = 0) ∧
  exec (.recoveryPoll none) s = .next s.settle ∧
  (∀ img, s.mode ≠ .recovery ∨ s.flashFree = false → exec (.recoveryPoll img) s = .next s.settle) ∧
  (∀ v (level : Fin 64), (level : Nat) < s.fuseLevel → exec (.recoveryPoll (some (v, level))) s = .next s.settle)

/-- R432, R434, R435, R437. A command of Rilyn does nothing while Rilyn runs one, while none or another waits, or while flash, if it uses it, is not
free. One that is turned away is answered with its STATUS and, but for the log record of one marked FULL, has no other effect; for the mailbox,
with no other waiting, the response stands in its registers with DONE set, BUSY clear and RILYN_MBX_DONE set, and nothing else changes. The
STATUS: 3 in a thermal shutdown; else over the M-plane 7 for QSPI_STREAM, and for those marked FULL without FULL; else 3 in a mode the table does
not name, else 2 for a wrong LEN; else none. The model's choices in it: log entries 59, 106. -/
def Obligations.RilynQueue : Prop := ∀ (s u : State) (c : RilynCmd) ok img op i, RilynOp ok img op i →
  (s.rilynRun.isSome = true ∨ s.rilynNext = none ∨ (∃ d v, s.rilynNext = some (d, v) ∧ d.op ≠ op) → exec i s = .next s.settle) ∧
  ([0x10, 0x20, 0x21, 0x22].contains op = true → s.flashFree = false → exec i s = .next s.settle) ∧
  ([0x11, 0x30, 0x31].contains op = true → s.flashOpen = false → exec i s = .next s.settle) ∧
  (s.flashFree = true → s.Takes op c u → ∀ st, u.turnedAway c = some st →
    let v := if fullOps.contains op then u.logKind 6 else u
    exec i s = .next (v.answered c st [] 0).settle ∧
    (c.origin = .mailbox → u.rilynQ = [] → u.mbxCmd = none → Answers i s fun t =>
      t.reg (RILYN_MBX_RSP 0) = c.head st ∧ t.reg (RILYN_MBX_RSP 1) = 0 ∧ t.bit RILYN_MBX_STAT RILYN_MBX_STAT_BUSY = false ∧
      t.bit RILYN_MBX_STAT RILYN_MBX_STAT_DONE = true ∧ t.stored Ev.RILYN_MBX_DONE = true ∧
      Frame [RILYN_MBX_RSP 0, RILYN_MBX_RSP 1, RILYN_MBX_STAT] v t)) ∧
  (s.Takes op c u → (u.thermShut = true → u.turnedAway c = some 3) ∧
    (u.thermShut = false → c.origin ≠ .mailbox →
      op = 0x60 ∨ (fullOps.contains op = true ∧ u.bit RILYN_MPLANE_CFG RILYN_MPLANE_CFG_FULL = false) → u.turnedAway c = some 7) ∧
    (u.thermShut = false →
      c.origin = .mailbox ∨ (op ≠ 0x60 ∧ (fullOps.contains op = false ∨ u.bit RILYN_MPLANE_CFG RILYN_MPLANE_CFG_FULL = true)) →
      u.turnedAway c = if (opModes op).contains u.mode = false then some 3 else if c.len ≠ 4 * opParams op then some 2 else none))

/-- R309, R424, R434, R439, R441 to R444, Table 19-4. What each command that is not turned away does, and its response: SET_MODE begins the
transition, waits or is refused; RESTART begins a start 1 ms later; REC_WRITE, IMG_BEGIN, IMG_CHUNK, IMG_END, IMG_ABORT and ARB_COMMIT change
record, slots, update, image A, the fused level; the reading commands return identity, record, log, sensors, PTP fields and delay results;
QSPI_STREAM opens or ends a stream. A parameter out of range is answered with 2, a missing update, a RESTART from Recovery that is not cold and a
second stream with 3, flash that does not verify with 4. The model's choices in it: log entries 59, 67, 68, 69, 70, 106. -/
def Obligations.RilynCommands : Prop := ∀ (s u : State) (c : RilynCmd), u.turnedAway c = none →
  let p := c.param 0
  let w := u.logKind 6
  let version := fun slot => ((u.validImage slot).map Image.version).getD 0
  (s.Takes 0x01 c u → exec .getId s = .next (u.answered c 0 [u.reg RILYN_IDENT, u.reg RILYN_SERIAL_LO, u.reg RILYN_SERIAL_HI,
      version u.slotA, version (1 - u.slotA), BitVec.ofNat 32 (u.fuseLevel + 256 * u.boot PMU_BOOT_STAT_IMAGE)] 0).settle) ∧
  (s.Takes 0x02 c u → p < 8 →
    (w.trans = none → w.grants (Mode.ofCode p) = true → Answers .setMode s fun t =>
      t.trans.map Trans.target = some (Mode.ofCode p) ∧ t.rilynRun = some c ∧ t.mode = s.mode) ∧
    (w.trans = none → w.grants (Mode.ofCode p) = false → exec .setMode s = .next (({ w with rilynRun := none } : State).answered c 3 [] 0).settle) ∧
    (w.trans ≠ none → exec .setMode s = .next ({ w with rilynRun := some c, asked := some (Mode.ofCode p) } : State).settle)) ∧
  (s.Takes 0x03 c u → p < 2 → ¬ (u.mode = .recovery ∧ p = 0) →
    exec .restart s = .next (({ w.respond c 0 with restartAt := some (p == 0, w.now + msTc), rilynQ := [] } : State).dropUnknown 8).settle) ∧
  (s.flashFree = true → s.Takes 0x10 c u → p ≤ 4096 →
    let es := (List.range p).map fun i => ((u.bufWord (2 * i)).toNat % 2 ^ 28, u.bufWord (2 * i + 1))
    (∀ e ∈ es, recordBlock e.1 = true) →
    exec (.recWrite true) s = .next (({ w with record := some es } : State).answered c 0 [] 0).settle ∧
    exec (.recWrite false) s = .next (w.answered c 4 [] 0).settle) ∧
  (s.flashOpen = true → s.Takes 0x11 c u → ∀ es, u.record = some es → es.length ≤ 4096 → c.origin = .mailbox → u.rilynQ = [] → u.mbxCmd = none →
    Answers .recRead s fun t => t.reg (RILYN_MBX_RSP 2) = BitVec.ofNat 32 es.length ∧
      ∀ i < es.length, t.bufWord (2 * i) = BitVec.ofNat 32 (es.getD i (0, 0)).1 ∧ t.bufWord (2 * i + 1) = (es.getD i (0, 0)).2) ∧
  (s.flashFree = true → s.Takes 0x20 c u → p ≠ 0 → p ≤ 0x800000 →
    let x := (w.eraseFlash (slotBase (1 - w.slotA)) 0x800000).setImage (1 - w.slotA) none
    exec (.imgBegin true) s = .next (((x.setUpdate (some p)).logKind 4).answered c 0 [] 0).settle ∧
    exec (.imgBegin false) s = .next (((x.setUpdate none).logKind 4).answered c 4 [] 0).settle) ∧
  (s.flashFree = true → s.Takes 0x21 c u → ∀ len, w.update = some len → 4 ≤ c.param 1 → c.param 1 ≤ (if c.origin = .mailbox then 65536 else 8192) →
    p + c.param 1 ≤ len → exec (.imgChunk true) s =
      .next (((w.flashStore (slotBase (1 - w.slotA) + p) (w.bufBytes (c.param 1))).logKind 4).answered c 0 [] 0).settle ∧
      exec (.imgChunk false) s = .next ((({ w.flashStore (slotBase (1 - w.slotA) + p)
        ((List.range (c.param 1)).map fun j => (Config.freeValue (w.free + j)).setWidth 8) with free := w.free + c.param 1 } : State).logKind 4).answered c 4 [] 0).settle) ∧
  (s.flashFree = true → s.Takes 0x22 c u → ∀ len, w.update = some len → let x := (w.setUpdate none).logKind 4
    exec (.imgEnd none) s = .next (x.answered c 5 [] 0).settle ∧
    ∀ v (level : Fin 64), ((level : Nat) < u.fuseLevel → exec (.imgEnd (some (v, level))) s = .next (x.answered c 6 [] 0).settle) ∧
      (u.fuseLevel ≤ level → u.mode ≠ .recovery →
        exec (.imgEnd (some (v, level))) s = .next ((x.switchSlots ⟨v, level⟩).answered c 0 [v, BitVec.ofNat 32 level] 0).settle)) ∧
  (s.Takes 0x23 c u → exec .imgAbort s = .next (((w.setUpdate none).logKind 4).answered c 0 [] 0).settle) ∧
  (s.Takes 0x24 c u →
    (u.ranSlot = some u.slotA → let level := max u.fuseLevel (((u.image u.slotA).map Image.level).getD 0)
      exec .arbCommit s = .next (({ w with fuseLevel := level } : State).answered c 0 [BitVec.ofNat 32 level] 0).settle) ∧
    (u.ranSlot ≠ some u.slotA → exec .arbCommit s = .next (w.answered c 3 [] 0).settle)) ∧
  (s.flashOpen = true → s.Takes 0x30 c u → c.origin = .mailbox → u.rilynQ = [] → u.mbxCmd = none →
    let good := (u.logSlots.map u.logAt).filter fun r => r.2.2
    Answers .logInfo s fun t => t.reg (RILYN_MBX_RSP 0) = c.head 0 ∧ (good = [] → t.reg (RILYN_MBX_RSP 2) = 0) ∧
      t.reg (RILYN_MBX_RSP 3) = u.reg RILYN_LOG_STAT ∧ t.reg (RILYN_MBX_RSP 4) = BitVec.ofNat 32 good.length ∧
      t.fld RILYN_LOG_BAD ⟨0, 32⟩ = min (u.fld RILYN_LOG_BAD ⟨0, 32⟩ + ((u.logSlots.map u.logAt).filter fun r => !r.2.2).length) (2 ^ 32 - 1)) ∧
  (s.flashOpen = true → s.Takes 0x31 c u → 0 < c.param 1 → c.param 1 ≤ (if c.origin = .mailbox then 1024 else 128) →
    let all := (u.logSlots.map u.logAt).filter fun r => decide (logAge r.1 p < c.param 1)
    let good := (all.filter fun r => r.2.2).foldr (insertRec p) []
    let checked := (all.foldr (insertRec p) []).foldl State.logCheck u
    exec .logRead s = .next ((checked.bufLoad (good.flatMap fun r => r.2.1)).answered c 0 [BitVec.ofNat 32 good.length] (64 * good.length)).settle ∧
    checked.fld RILYN_LOG_BAD ⟨0, 32⟩ = min (u.fld RILYN_LOG_BAD ⟨0, 32⟩ + (all.length - good.length)) (2 ^ 32 - 1) ∧
    (good.length < all.length → checked.bit (CU_STAT 9) CU_STAT_MM = true)) ∧
  (s.Takes 0x40 c u → ∀ die < 5, ∀ ch < 64, p = die * 65536 + ch →
    let valid := if ch = 40 then u.bit (THERM_READING die) THERM_READING_VALID else u.bit (HKADC_RES die ch) HKADC_RES_VALID
    exec .sensorRead s = .next (u.answered c 0 [BitVec.ofInt 32 (u.sensorValue die ch), BitVec.ofNat 32
      (b2n valid * 2 ^ 31 + min (2 ^ 31 - 1) ((u.now - u.hkAt (64 * die + ch)) * 100 / 196608))] 0).settle) ∧
  (s.Takes 0x50 c u → p < 8 → c.param 1 < 6 → exec .ptpGet s = .next (u.answered c 0 [u.ptp (8 * p + c.param 1)] 0).settle) ∧
  (s.Takes 0x51 c u → p < 8 → c.param 1 < 6 →
    exec .ptpSet s = .next (({ w.setPtp (8 * p + c.param 1) (BitVec.ofNat 32 (c.param 2)) with ptpEvents := w.ptpEvents + 1 } : State).answered c 0 [] 0).settle) ∧
  (s.Takes 0x52 c u → p < 8 → c.param 1 < 256 → let r := u.dlyRes (256 * p + c.param 1)
    exec .dlyResult s = .next (u.answered c 0 [BitVec.ofNat 32 (r.t1.1 / 2 ^ 32), BitVec.ofNat 32 r.t1.1, BitVec.ofNat 32 r.t1.2,
      BitVec.ofNat 32 (r.t2.1 / 2 ^ 32), BitVec.ofNat 32 r.t2.1, BitVec.ofNat 32 r.t2.2, BitVec.ofNat 32 (r.comp / 2 ^ 32), BitVec.ofNat 32 r.comp,
      BitVec.ofNat 32 (b2n r.present)] 0).settle) ∧
  (s.Takes 0x60 c u → p < 4 → p ≠ 2 →
    (u.qspi = none → exec .qspiStream s = .next (({ u with qspi := if c.param 2 = 0 then none else some ⟨p % 2, p == 3, c.param 1, c.param 2⟩ } :
      State).answered c 0 [] 0).settle) ∧
    (u.qspi ≠ none → exec .qspiStream s = .next (u.answered c 3 [] 0).settle)) ∧
  (s.flashFree = true → s.Takes 0x22 c u → u.update ≠ none → u.mode = .recovery → ∀ v (level : Fin 64), u.fuseLevel ≤ level →
    Answers (.imgEnd (some (v, level))) s fun t => t.mode = .boot ∧ t.startDue = some false ∧ t.slotA = 1 - u.slotA ∧ t.update = none) ∧
  (s.flashFree = true → ∀ (ok : Bool) (img : Option (Word × Fin 64)),
    let most := fun m f : Nat => if c.origin = .mailbox then m else f
    let sized := 4 ≤ c.param 1 ∧ c.param 1 ≤ most 65536 8192 ∧ ∃ len, u.update = some len ∧ p + c.param 1 ≤ len
    let badRecord := 4096 < p ∨ ∃ k < p, recordBlock ((u.bufWord (2 * k)).toNat % 2 ^ 28) = false
    let bad : List (Nat × Instr × Prop × Nat) :=
      [(0x02, .setMode, 8 ≤ p, 2), (0x03, .restart, 2 ≤ p, 2), (0x03, .restart, u.mode = .recovery ∧ p = 0, 3), (0x10, .recWrite ok, badRecord, 2),
        (0x20, .imgBegin ok, p = 0 ∨ 0x800000 < p, 2), (0x21, .imgChunk ok, u.update = none, 3), (0x21, .imgChunk ok, u.update ≠ none ∧ ¬ sized, 2),
        (0x22, .imgEnd img, u.update = none, 3), (0x31, .logRead, c.param 1 = 0 ∨ most 1024 128 < c.param 1, 2),
        (0x40, .sensorRead, 5 ≤ p / 65536 % 16, 2), (0x50, .ptpGet, 8 ≤ p ∨ 6 ≤ c.param 1, 2), (0x51, .ptpSet, 8 ≤ p ∨ 6 ≤ c.param 1, 2),
        (0x52, .dlyResult, 8 ≤ p ∨ 256 ≤ c.param 1, 2), (0x60, .qspiStream, 4 ≤ p ∨ p = 2, 2)]
    ∀ x ∈ bad, s.Takes x.1 c u → x.2.2.1 →
      exec x.2.1 s = .next ((if fullOps.contains x.1 then w else u).answered c x.2.2.2 [] 0).settle)

/-- R430, R433, R435, R440, R446 to R449. An access of BUF_DATA returns or writes the word at BUF_ADDR and moves it on; BUSY discards a write. Of an
M-plane frame: one not addressed or not typed as configured, too short, or in Boot, Recovery or Standby is discarded and counted; one for another
part is relayed; one already answered is answered again; a fifth is dropped, counted and reported; else it waits while Rilyn runs a command. A
lockstep mismatch outside a start and a thermal shutdown begins an uncounted warm start, in one fails it with code 5; in Standby, in a thermal
shutdown, while POR_N is low or a start is due it does nothing. The oldest log record is written with the next number at its place while flash is
free. A conversion is corrected, averaged over 2^AVG_LOG2 and its mean placed in RES; a write of CHCFG begins the average anew. The model's
choices in it: log entries 8, 24, 63, 66, 67, 94, 106. -/
def Obligations.RilynEvents : Prop := ∀ s : State,
  (s.answers RILYN_BUF_DATA = true →
    Answers (.bufDataAccess none) s (fun t => t.reply = s.bufWord s.bufIndex ∧ t.bufIndex = (s.bufIndex + 1) % 16384 ∧
      Frame [RILYN_BUF_ADDR] { s with reply := t.reply } t) ∧
    ∀ w, (s.bit RILYN_MBX_STAT RILYN_MBX_STAT_BUSY = false → Answers (.bufDataAccess (some w)) s fun t =>
        t.bufWord s.bufIndex = w ∧ t.bufIndex = (s.bufIndex + 1) % 16384 ∧ ∀ k, k ≠ s.bufIndex → t.bufWord k = s.bufWord k) ∧
      (s.bit RILYN_MBX_STAT RILYN_MBX_STAT_BUSY = true → exec (.bufDataAccess (some w)) s = .next s.accessError.settle)) ∧
  (s.mgmtIn = [] → exec .mplaneFrame s = .next s.settle) ∧
  (∀ m rest, s.mgmtIn = m :: rest →
    let u := ({ s with mgmtIn := rest } : State)
    let body := m.bytes.drop (payloadAt m.bytes)
    (slice m.bytes 0 6 ≠ s.portAddr m.port ∨ num m.bytes (payloadAt m.bytes - 2) 2 ≠ s.fld RILYN_MPLANE_CFG RILYN_MPLANE_CFG_ETYPE ∨
        body.length < 8 ∨ s.mode.code < 3 →
      exec .mplaneFrame s = .next (u.bump RILYN_MPLANE_DISCARD RILYN_CNT_FLAGS 0 1).settle) ∧
    (slice m.bytes 0 6 = s.portAddr m.port → num m.bytes (payloadAt m.bytes - 2) 2 = s.fld RILYN_MPLANE_CFG RILYN_MPLANE_CFG_ETYPE →
      8 ≤ body.length → 3 ≤ s.mode.code → num body 0 4 / 2 ^ 30 ≠ s.partId → let request := body.drop 4; let k := requestLen request
      exec .mplaneFrame s = .next (u.relay 4 (num body 0 4 / 2 ^ 30) s.partId m.port (num body 0 4 % 65536) (slice m.bytes 6 6 ++ request.take k)
        ((request.drop k).take 8192)).settle) ∧
    (slice m.bytes 0 6 = s.portAddr m.port → num m.bytes (payloadAt m.bytes - 2) 2 = s.fld RILYN_MPLANE_CFG RILYN_MPLANE_CFG_ETYPE →
      8 ≤ body.length → 3 ≤ s.mode.code → num body 0 4 / 2 ^ 30 = s.partId →
      (∀ d, (s.mpDone.find? fun x => x.src == slice m.bytes 6 6 && x.seq == num body 0 4 % 65536) = some d →
        exec .mplaneFrame s = .next (u.sendMplane m.port (slice m.bytes 6 6) s.partId (num body 0 4 % 65536) d.reply).settle) ∧
      ((∀ d ∈ s.mpDone, d.src ≠ slice m.bytes 6 6) → 4 ≤ s.rilynQ.length → Answers .mplaneFrame s fun t =>
        t.rilynQ = s.rilynQ ∧ t.stored Ev.MPLANE_DROP = true ∧
        t.fld RILYN_MPLANE_DROP ⟨0, 32⟩ = min (s.fld RILYN_MPLANE_DROP ⟨0, 32⟩ + 1) (2 ^ 32 - 1)) ∧
      ((∀ d ∈ s.mpDone, d.src ≠ slice m.bytes 6 6) → s.rilynQ.length < 4 → s.rilynRun ≠ none → Answers .mplaneFrame s fun t =>
        t.rilynQ = s.rilynQ ++ [requestOf (.frame m.port (slice m.bytes 6 6) s.partId (num body 0 4 % 65536))
          ((body.drop 4).take (requestLen (body.drop 4))) (((body.drop 4).drop (requestLen (body.drop 4))).take 8192) m.at_]))) ∧
  (∀ step, (s.mode = .standby ∨ s.thermShut = true ∨ s.porHigh = false ∨ s.startDue ≠ none → exec (.lockstepMismatch step) s = .next s.settle) ∧
    (s.mode ≠ .standby → s.thermShut = false → s.porHigh = true → s.startDue = none → s.starting = none → Answers (.lockstepMismatch step) s fun t =>
      t.mode = .boot ∧ t.startDue = some true ∧ t.lockstepDue = true ∧ t.boot PMU_BOOT_STAT_WARM_FAILS = s.boot PMU_BOOT_STAT_WARM_FAILS) ∧
    (s.mode ≠ .standby → s.thermShut = false → s.porHigh = true → s.startDue = none → s.starting ≠ none → exec (.lockstepMismatch step) s = .next (s.failStart 5 step).settle)) ∧
  (∀ r rest, s.logQ = r :: rest → s.flashFree = true → s.mode ≠ .standby → Answers .logRecordWrite s fun t =>
    let number := if (s.reg RILYN_LOG_STAT).toNat + 1 = 2 ^ 32 then 1 else (s.reg RILYN_LOG_STAT).toNat + 1
    (t.reg RILYN_LOG_STAT).toNat = number ∧ t.logPos = (s.logPos + 1) % logRing ∧
    ∃ detail, detail.length = 40 ∧ t.flashLoad (logBase + 64 * s.logPos) 64 = logBytes number r detail) ∧
  (s.flashFree = false ∨ s.mode = .standby ∨ s.logQ = [] → exec .logRecordWrite s = .next s.settle) ∧
  (∀ (die : Fin 5) (ch : Fin 64) conv, let diff := (ch : Nat) < 32 && (ch : Nat) % 2 == 0 && s.bit (HKADC_CHCFG die ch) HKADC_CHCFG_DIFF
    (s.hkConverts die ch = false → exec (.hkadcResult die ch conv) s = .next s.settle) ∧
    let v := if diff then clampI (-4096) 4095 (s.hkTrimmed die conv.toInt) else clampI 0 4095 (s.hkTrimmed die (conv.toNat % 4096 : Nat));
    let n := 2 ^ min 8 (s.fld (HKADC_CHCFG die ch) HKADC_CHCFG_AVG_LOG2);
    let acc := s.hkAcc (64 * die + ch);
    (s.hkConverts die ch = true → acc.1 + 1 < n → exec (.hkadcResult die ch conv) s = .next (s.setHkAcc (64 * die + ch) (acc.1 + 1, acc.2 + v)).settle) ∧
    (s.hkConverts die ch = true → n ≤ acc.1 + 1 → Answers (.hkadcResult die ch conv) s fun t =>
        t.fld (HKADC_RES die ch) HKADC_RES_VALUE = unsigned 16 ((acc.2 + v) / n) ∧ t.hkAcc (64 * die + ch) = (0, 0) ∧
        t.bit (HKADC_RES die ch) HKADC_RES_VALID = true ∧ t.bit (HKADC_RES die ch) HKADC_RES_FRESH = true ∧ t.hkAt (64 * die + ch) = s.now ∧
        Keeps [HKADC_RES die ch] s t)) ∧
  (∀ (die : Fin 5) (ch : Fin 64) w, s.answers (HKADC_CHCFG die ch) = true → Answers (.hkadcChcfgWrite die ch w) s fun t =>
    t.hkAcc (64 * die + ch) = (0, 0) ∧ t.fld (HKADC_CHCFG die ch) HKADC_CHCFG_AVG_LOG2 = getF w HKADC_CHCFG_AVG_LOG2 ∧
    Frame [HKADC_CHCFG die ch, HKADC_RES die (ch + 1)] { s with hkAccs := t.hkAccs } t)

/-- R451 to R457. A conversion of a powered die's diode is kept; the mean of 16 stands in RAW, the reading (the raw one, or of a suspect diode R457's)
in READING, and each enabled threshold crosses once its condition has held for PERSIST updates, with its event. RATE_RECORD keeps the reading and
compares it with that WIN seconds before, ABOVE set at LIMIT and cleared below half of it. XCHECK_EVAL keeps the powers and DISAGREE; marks follow
the condition of R456 while EN is set, the first diode for which it has held TIME evaluations becoming suspect. A die without power, a rate not
enabled or without a reading, and Standby, leave all as it was. The model's choices in it: log entries 48, 71. -/
def Obligations.Temperatures : Prop := ∀ (s : State) (d : Fin 5),
  (∀ conv, s.diePowered d = false → exec (.thermalUpdate d conv) s = .next s.settle) ∧
  (∀ conv : BitVec 16, s.diePowered d = true → (s.diode d).conv.length < 15 → Answers (.thermalUpdate d conv) s fun t =>
    (t.diode d).conv = conv.toInt :: (s.diode d).conv ∧ t.hkAt (64 * (d : Nat) + 40) = s.now ∧ t.regs = s.regs) ∧
  (∀ conv : BitVec 16, s.diePowered d = true → 15 ≤ (s.diode d).conv.length → Answers (.thermalUpdate d conv) s fun t =>
    let raw := unsigned 16 (tempDiv (conv.toInt :: (s.diode d).conv.take 15).sum 16)
    t.fld (THERM_RAW d) THERM_RAW_RAW = raw ∧ t.tempValid d = true ∧
    t.fld (THERM_READING d) THERM_READING_TEMP =
      (if s.isSuspect d then unsigned 16 (clampI (-32768) 32767 ((s.setFld (THERM_RAW d) THERM_RAW_RAW raw).readingOf d)) else raw) ∧
    ∀ k : Fin 4, s.bit (THERM_THR d k) THERM_THR_EN = true → let level := 8 * signed 9 (s.fld (THERM_THR d k) THERM_THR_LEVEL)
      let persists := max 1 (s.fld (THERM_THR d k) THERM_THR_PERSIST) ≤ s.thrRun (4 * d + k) + 1
      (s.bit (THERM_THR d k) THERM_THR_STATE = false → (t.bit (THERM_THR d k) THERM_THR_STATE = true ↔ level ≤ t.dieTemp d ∧ persists) ∧
        (t.bit (THERM_THR d k) THERM_THR_STATE = true → t.status Ev.THERM_THRESH_UP = true)) ∧
      (s.bit (THERM_THR d k) THERM_THR_STATE = true → (t.bit (THERM_THR d k) THERM_THR_STATE = false ↔
        t.dieTemp d < level - 8 * (s.fld (THERM_THR d k) THERM_THR_HYST + 1 : Nat) ∧ persists))) ∧
  (s.diePowered d = false ∨ s.tempValid d = false ∨ s.bit (THERM_RATE_CFG d) THERM_RATE_CFG_EN = false → exec (.rateRecord d) s = .next s.settle) ∧
  (s.mode = .standby → ∀ powers, exec (.xcheckEval powers) s = .next s.settle) ∧
  (s.diePowered d = true → s.tempValid d = true → s.bit (THERM_RATE_CFG d) THERM_RATE_CFG_EN = true →
    let n := max 1 (s.fld (THERM_RATE_CFG d) THERM_RATE_CFG_WIN)
    Answers (.rateRecord d) s fun t => (t.diode d).recs = (s.dieTemp d :: (s.diode d).recs).take 255 ∧
      ((s.diode d).recs.length < n → t.fld (THERM_RATE_STAT d) THERM_RATE_STAT_RATE = 0) ∧
      ∀ old, (s.diode d).recs[n - 1]? = some old → let diff := 10 * (s.dieTemp d - old)
        t.fld (THERM_RATE_STAT d) THERM_RATE_STAT_RATE = unsigned 16 (clampI (-32768) 32767 (tempDiv diff n)) ∧
        (s.bit (THERM_RATE_STAT d) THERM_RATE_STAT_ABOVE = false →
          (t.bit (THERM_RATE_STAT d) THERM_RATE_STAT_ABOVE = true ↔ (s.fld (THERM_RATE_CFG d) THERM_RATE_CFG_LIMIT * n : Nat) ≤ diff)) ∧
        (s.bit (THERM_RATE_STAT d) THERM_RATE_STAT_ABOVE = true →
          (t.bit (THERM_RATE_STAT d) THERM_RATE_STAT_ABOVE = false ↔ 2 * diff < (s.fld (THERM_RATE_CFG d) THERM_RATE_CFG_LIMIT * n : Nat)))) ∧
  (∀ powers : List (BitVec 16), s.mode ≠ .standby →
    let u := s.each dies fun s d => s.setFld (THERM_PWR d) THERM_PWR_PWR (powers.getD d 0).toNat
    Answers (.xcheckEval powers) s fun t => t.fld (THERM_PWR d) THERM_PWR_PWR = (powers.getD d 0).toNat ∧
      (t.maskBit THERM_XCHK_STAT THERM_XCHK_STAT_DISAGREE d = true ↔ ∃ n ∈ neighbours d, u.disagrees d n = true) ∧
      (s.bit THERM_XCHK_CFG THERM_XCHK_CFG_EN = false → t.isSuspect d = s.isSuspect d ∧ t.diodes = s.diodes) ∧
      (s.bit THERM_XCHK_CFG THERM_XCHK_CFG_EN = true → s.isSuspect d = false → u.looksWrong d = false →
        t.isSuspect d = false ∧ (t.diode d).marks = 0) ∧
      (s.bit THERM_XCHK_CFG THERM_XCHK_CFG_EN = true → s.suspects = 0 → u.looksWrong d = true →
        max 1 (s.fld THERM_XCHK_CFG THERM_XCHK_CFG_TIME) ≤ (s.diode d).marks → (∀ e < 5, e ≠ d → u.looksWrong e = false) →
        t.isSuspect d = true ∧ t.bit (THERM_READING d) THERM_READING_SUSPECT = true))

/-- R458 to R460, R461 to R463. An update that gives a reading of 130 C or more begins a critical shutdown, one at LEVEL or more a shutdown, recorded
in SHUT_REC with its die and kind; a lower one begins none. SHUTDOWN_POWER_DOWN leads to Standby within 5 ms, within 10 us of a critical one, held
there, every domain OFF; without a shutdown it does nothing. CRITICAL_TRIP of a powered diode that is not suspect leads there within 10 us and is
recorded; of another it does nothing. From Configure onward CICADA_READ takes the 20 monitors of each powered die; STRESS_RATE_RECORD adds a
second and its factor, at most 24 hours being kept; LIFE_PREDICTION writes LOW, EST and HIGH of each powered die, provisional for the first 86,400
s, and PART_LIFE is that of a die with the least EST. Before Configure each does nothing. The model's choices in it: log entries 56, 72, 107. -/
def Obligations.ShutdownAndAgeing : Prop :=
  (∀ s : State,
    (∀ (d : Fin 5) conv, s.diePowered d = true → 15 ≤ (s.diode d).conv.length → s.shut = none → Answers (.thermalUpdate d conv) s fun t =>
      (16 * 130 ≤ t.dieTemp d → t.thermShut = true ∧ t.shut = some ⟨s.now, true⟩ ∧ t.fld THERM_SHUT_REC THERM_SHUT_REC_DIE = d ∧
        t.bit THERM_SHUT_REC THERM_SHUT_REC_CRIT = true ∧ t.trans = none ∧ t.stored Ev.THERM_SHUTDOWN = true) ∧
      (8 * (clampN 200 250 (s.fld THERM_SHUT_CFG THERM_SHUT_CFG_LEVEL) : Int) ≤ t.dieTemp d → t.dieTemp d < 16 * 130 →
        t.thermShut = true ∧ t.shut = some ⟨s.now, false⟩ ∧ t.fld THERM_SHUT_REC THERM_SHUT_REC_DIE = d ∧
        t.bit THERM_SHUT_REC THERM_SHUT_REC_CRIT = false) ∧
      (t.dieTemp d < 8 * (clampN 200 250 (s.fld THERM_SHUT_CFG THERM_SHUT_CFG_LEVEL) : Int) → t.dieTemp d < 16 * 130 → t.thermShut = s.thermShut ∧
        t.shut = none)) ∧
    (∀ x after, s.shut = some x → let limit := x.began + (if x.crit then usTc 10 else 5 * msTc)
      Answers (.shutdownPowerDown after) s fun t => t.mode = .standby ∧ t.shut = none ∧ t.thermShut = false ∧
        t.now = max s.now (if x.crit = true ∨ s.allDown = true then min (s.now + after) limit else limit) ∧
        (s.mode ≠ .standby → t.standbyHeld = true ∧ ∀ e : Fin 54, t.domState e = domOff)) ∧
    (s.shut = none → ∀ after, exec (.shutdownPowerDown after) s = .next s.settle) ∧
    (∀ (d : Fin 5) after, s.diePowered d = true → s.isSuspect d = false → Answers (.criticalTrip d after) s fun t =>
      t.mode = .standby ∧ t.standbyHeld = true ∧ t.now ≤ s.now + usTc 10 ∧
      (s.shut = none → t.priorShut = true ∧ t.fld THERM_SHUT_REC THERM_SHUT_REC_DIE = d ∧ t.bit THERM_SHUT_REC THERM_SHUT_REC_CRIT = true)) ∧
    (∀ (d : Fin 5) after, s.diePowered d = false ∨ s.isSuspect d = true → exec (.criticalTrip d after) s = .next s.settle)) ∧
  (∀ s : State,
    (s.mode.code < 3 → (∀ readings, exec (.cicadaRead readings) s = .next s.settle) ∧ (∀ factors, exec (.stressRateRecord factors) s = .next s.settle) ∧
      exec .lifePrediction s = .next s.settle) ∧
    (3 ≤ s.mode.code →
    (∀ (readings : List (List Word)), Answers (.cicadaRead readings) s fun t => t.regs = s.regs ∧ ∀ d : Fin 5, ∀ k < 20,
      t.mon (32 * d + k) = if s.diePowered d = true then (readings.getD d []).getD k 0 else s.mon (32 * d + k)) ∧
    (∀ factors : List Nat, Answers (.stressRateRecord factors) s fun t => t.stressSecs = min 86400 (s.stressSecs + 1) ∧ t.regs = s.regs ∧
      ∀ d : Fin 5, (s.diePowered d = false → t.stress d = s.stress d) ∧
        (s.diePowered d = true → (s.stress d).length < 24 →
          ((t.stress d).map Prod.snd).sum = ((s.stress d).map Prod.snd).sum + 1 ∧
          ((t.stress d).map Prod.fst).sum = ((s.stress d).map Prod.fst).sum + factors.getD d 0)) ∧
    (Answers .lifePrediction s fun t => (∀ d : Fin 5, s.diePowered d = true →
        t.fld (CICADA_LIFE d) CICADA_LIFE_LOW = (s.lifeBounds d).1 ∧ t.fld (CICADA_LIFE d) CICADA_LIFE_EST = (s.lifeBounds d).2.1 ∧
        t.fld (CICADA_LIFE d) CICADA_LIFE_HIGH = (s.lifeBounds d).2.2 ∧ t.bit (CICADA_LIFE d) CICADA_LIFE_VALID = true ∧
        t.bit (CICADA_LIFE d) CICADA_LIFE_PROVISIONAL = decide (s.stressSecs < 86400)) ∧
      (∃ d : Fin 5, t.reg CICADA_PART_LIFE = t.reg (CICADA_LIFE d) ∧ ∀ e : Fin 5, t.bit (CICADA_LIFE e) CICADA_LIFE_VALID = true →
        t.fld (CICADA_LIFE d) CICADA_LIFE_EST ≤ t.fld (CICADA_LIFE e) CICADA_LIFE_EST))))

/-- R12, R467 to R471, R484 to R487. An event sets its bit (of a source that is not following a condition and may assert) and changes nothing else. A
write of SRC_CFG_s sets MODE and EN; a source in level mode shows its condition. A write of STATUS_k clears the bits written 1 but those set in
the same cycle and those of sources that follow a condition. A flag written 1 clears with its counter; counting in the same cycle, a flag that was
set stays with its counter, else the counter is 1. MSI: the vectors granted, and those pending are sent when it is enabled. A byte of the debug
port with its stop bit is kept, from Configure onward and while fewer than 1,024 wait; else it is lost. Outside Standby BYPASS, IDCODE,
SAMPLE/PRELOAD and the reset of the port are executed, EXTEST in Configure and Recovery, elsewhere as BYPASS; in Standby none is. The model's
choices in it: log entries 6, 79, 91, 93. -/
def Obligations.EventsAndPorts : Prop :=
  (∀ s : State,
    (∀ src : Fin 256, s.mayAssert src = true → s.follows src = false → (s.raise src).stored src = true ∧ Frame [] s (s.raise src)) ∧
    (∀ (src : Fin 256) w, s.answers (HIVE_SRC_CFG src) = true → Answers (.hiveSrcCfgWrite src w) s fun t =>
      t.bit (HIVE_SRC_CFG src) HIVE_SRC_CFG_MODE = bitF w HIVE_SRC_CFG_MODE ∧ t.bit (HIVE_SRC_CFG src) HIVE_SRC_CFG_EN = bitF w HIVE_SRC_CFG_EN ∧
      Frame [HIVE_SRC_CFG src] s t ∧ (s.follows src = true → t.stored src = s.levelCond src) ∧ (s.follows src = false → t.stored src = s.stored src)) ∧
    (∀ (k : Fin 8) (w raced : Word), s.answers (HIVE_STATUS k) = true → Answers (.hiveStatusWrite k w raced) s fun t => Frame [] s t ∧ ∀ j < 32,
      t.stored (32 * k + j) = (s.stored (32 * k + j) && !(w.getLsbD j && !raced.getLsbD j && !s.follows (32 * k + j)))) ∧
    (∀ (a : BitVec 28) (w raced : Word), isCntFlags a.toNat = true → s.answers a.toNat = true → Answers (.counterFlagClear a w raced) s fun t =>
      (∀ b < 32, w.getLsbD b = true → ∀ c f, flagCounter a.toNat b = some (c, f) → c ≠ a.toNat →
        t.fld c f = (if raced.getLsbD b = false then 0 else if (s.reg a.toNat).getLsbD b = true then s.fld c f else 1) ∧
        (t.reg a.toNat).getLsbD b = (raced.getLsbD b && (s.reg a.toNat).getLsbD b)) ∧
      (∀ x, x ≠ a.toNat → (∀ b < 32, w.getLsbD b = true → ∀ c f, flagCounter a.toNat b = some (c, f) → c ≠ x) → t.reg x = s.reg x)) ∧
    (∀ a w raced, isCntFlags a.toNat = false → exec (.counterFlagClear a w raced) s = .next s.settle) ∧
    (∀ on (log2 : Fin 6), Answers (.msiCapabilityWrite on log2) s fun t => t.msiOn = on ∧ t.msiGranted = 2 ^ (log2 : Nat) ∧ t.regs = s.regs ∧
      (on = true → s.msiOn = false → ∀ v < 32, s.msiPend.getLsbD v = true → Out.msi (v % 2 ^ (log2 : Nat)) ∈ t.out))) ∧
  (∀ s : State,
    (∀ b stop, 3 ≤ s.mode.code → stop = true → s.uartRx.length < 1024 → exec (.uartRxByte b stop) s =
      .next ({ s with uartRx := s.uartRx ++ [b] } : State).settle) ∧
    (∀ b stop, s.mode.code < 3 ∨ stop = false ∨ 1024 ≤ s.uartRx.length → exec (.uartRxByte b stop) s = .next s.settle) ∧
    (s.mode ≠ .standby →
      exec .tapBypass s = .next ({ s with tap := .bypass } : State).settle ∧ exec .tapIdcode s = .next ({ s with tap := .idcode } : State).settle ∧
      exec .tapTestLogicReset s = .next ({ s with tap := .idcode } : State).settle ∧
      (∀ cells, exec (.tapSamplePreload cells) s = .next ({ s with tap := .sample, boundary := cells } : State).settle) ∧
      (s.mode = .configure ∨ s.mode = .recovery → exec .tapExtest s = .next ({ s with tap := .extest } : State).settle) ∧
      (s.mode ≠ .configure → s.mode ≠ .recovery → exec .tapExtest s = .next ({ s with tap := .bypass } : State).settle)) ∧
    (s.mode = .standby → (∀ i ∈ [Instr.tapBypass, .tapIdcode, .tapTestLogicReset, .tapExtest], exec i s = .next s.settle) ∧
      ∀ cells, exec (.tapSamplePreload cells) s = .next s.settle))

/-- The model's step: the command at the front of the queue runs on the state with the queue's rest; an empty queue idles (log entry 4). -/
def Obligations.StepRunsFront : Prop := ∀ (s : State) (c : Instr) (rest : List Instr),
  (s.pending = c :: rest → step s = exec c { s with pending := rest }) ∧ (s.pending = [] → step s = .next s)

/-- R469: at reset MSI_PEND shows exactly the vectors to which some source delivers. -/
def Obligations.ResetSettled : Prop := State.reset.MsiSettled

/-- R469: after every command, whatever the state before, MSI_PEND shows exactly the vectors to which some source delivers; so every step keeps it,
and every command has a next state. The model's choices in it: log entry 6. -/
def Obligations.MsiStaysSettled : Prop := (∀ (i : Instr) (s : State), Answers i s State.MsiSettled) ∧
  ∀ s t : State, s.MsiSettled → step s = .next t → t.MsiSettled

/-- R30 to R36, R399, R419, R424, R427, R458: the mode changes by these commands alone, and to these modes. The model's choices in it: log entries 47,
70. -/
def Obligations.ModeChanges : Prop := ∀ (i : Instr) (s t : State), exec i s = .next t → t.mode ≠ s.mode →
  (t.mode = .standby ∧ (i = .railResetTimeout ∨ i = .aonPowerUp ∨ (∃ n, i = .shutdownPowerDown n) ∨ ∃ d n, i = .criticalTrip d n)) ∨
  (t.mode = .boot ∧ (i = .porNAssert ∨ (∃ g, i = .porNRelease g) ∨ i = .warmNPulse ∨ i = .coldStart ∨ i = .warmStart ∨ i = .railsValid ∨
    (∃ x, i = .recoveryPoll x) ∨ (∃ x, i = .imgEnd x) ∨ ∃ n, i = .lockstepMismatch n)) ∨
  (t.mode = .recovery ∧ ((∃ c n, i = .startFailure c n) ∨ (∃ n, i = .startWatchdog n) ∨ ∃ n, i = .lockstepMismatch n)) ∨
  (t.mode = .configure ∧ ∃ n, i = .startComplete n) ∨
  (∃ tr n, s.trans = some tr ∧ t.mode = tr.target ∧ i = .modeTransitionDone n)

/-- The stores' canonical form (the model's own): a write of a canonical store leaves it canonical, what is read back is what was written, and every
other element reads as before; the stores of the reset state are canonical. -/
def Obligations.StoresCanonical : Prop := (∀ (d : Nat → Byte) m a x, swf d m = true → swf d (sset d m a x) = true ∧ sget d (sset d m a x) a = x ∧
    ∀ b, b ≠ a → sget d (sset d m a x) b = sget d m b) ∧
  (∀ (d : Nat → Byte) m n, swf d m = true → swf d n = true → (∀ a, sget d m a = sget d n a) → m = n) ∧
  (∀ (s : State) a bs, swf (fun _ => none) s.dram = true → swf (fun _ => none) (s.dramStore a bs).dram = true) ∧
  (∀ (s : State) a bs, swf (fun _ => 0) s.capSram = true → swf (fun _ => 0) (s.sramStore a bs).capSram = true) ∧
  (∀ (s : State) a bs, swf (fun _ => 0) s.pmem = true → swf (fun _ => 0) (s.scWrite 4 a bs).pmem = true) ∧
  (∀ (s : State) a w, swf resetWord s.regs = true → swf resetWord (s.plainWrite a w).regs = true) ∧
  (∀ (s : State) p, swf resetWord s.regs = true → swf resetWord (s.clearRegs p).regs = true) ∧
  swf resetWord State.reset.regs = true ∧ swf (fun _ => none) State.reset.dram = true ∧ swf (fun _ => 0) State.reset.capSram = true ∧
  swf (fun _ => 0) State.reset.pmem = true
end

