-- ==== Sys2Proof/Laws/Store.lean ====
section
/-!
SUPPORT. The sparse stores: what a write does to a read, and that writes keep the canonical form; the fields of a word.
-/
namespace Sys2Proof.Machine

variable {α : Type}

theorem sget_sdel (d : Nat → α) (m : List (Nat × α)) (a b : Nat) :
    sget d (sdel m a) b = if b = a then d b else sget d m b := by
  induction m with
  | nil => simp [sdel, sget]
  | cons e m ih =>
    obtain ⟨k, v⟩ := e
    by_cases hk : k = a
    · subst hk
      simp only [sdel, if_true, ih, sget]
      by_cases hb : b = k
      · simp [hb]
      · have : ¬ k = b := fun h => hb h.symm
        simp [hb, this]
    · simp only [sdel, if_neg hk, sget, ih]
      by_cases hb : b = a
      · subst hb; simp [hk]
      · simp [hb]

theorem sget_sins (d : Nat → α) (m : List (Nat × α)) (a b : Nat) (x : α) :
    sget d (sins m a x) b = if b = a then x else sget d m b := by
  induction m with
  | nil =>
    by_cases hb : b = a
    · simp [sins, sget, hb]
    · have : ¬ a = b := fun h => hb h.symm
      simp [sins, sget, hb, this]
  | cons e m ih =>
    obtain ⟨k, v⟩ := e
    by_cases hk : k = a
    · subst hk
      by_cases hb : b = k
      · simp [sins, sget, hb]
      · have : ¬ k = b := fun h => hb h.symm
        simp [sins, sget, hb, this]
    · by_cases hlt : a < k
      · by_cases hb : b = a
        · simp [sins, sget, hk, hlt, hb]
        · have : ¬ a = b := fun h => hb h.symm
          simp [sins, sget, hk, hlt, hb, this]
      · simp only [sins, if_neg hk, if_neg hlt, sget, ih]
        by_cases hb : b = a
        · subst hb; simp [hk]
        · simp [hb]

/-- A read after a write: the value written, or what stood at another key. -/
theorem sget_sset [DecidableEq α] (d : Nat → α) (m : List (Nat × α)) (a b : Nat) (x : α) :
    sget d (sset d m a x) b = if b = a then x else sget d m b := by
  unfold sset
  split
  · rename_i h
    rw [sget_sdel]
    by_cases hb : b = a
    · simp [hb, h]
    · simp [hb]
  · exact sget_sins d m a b x

/-- The canonical form says: keys strictly rise, and no entry holds its default. -/
theorem swf_iff [DecidableEq α] (d : Nat → α) (m : List (Nat × α)) :
    swf d m = true ↔ (m.map Prod.fst).Pairwise (· < ·) ∧ ∀ e ∈ m, e.2 ≠ d e.1 := by
  induction m with
  | nil => simp [swf]
  | cons e m ih =>
    obtain ⟨k, v⟩ := e
    cases m with
    | nil => simp [swf]
    | cons e' m =>
      obtain ⟨k', v'⟩ := e'
      simp only [swf, Bool.and_eq_true, decide_eq_true_eq, ih, List.map_cons, List.pairwise_cons, List.mem_cons, forall_eq_or_imp]
      constructor
      · rintro ⟨⟨hk, hv⟩, ⟨⟨h1, h2⟩, h3⟩⟩
        refine ⟨⟨⟨hk, fun x hx => lt_trans hk (h1 x hx)⟩, h1, h2⟩, hv, h3⟩
      · rintro ⟨⟨⟨hk, -⟩, h1, h2⟩, hv, h3⟩
        exact ⟨⟨hk, hv⟩, ⟨h1, h2⟩, h3⟩

theorem mem_sdel {m : List (Nat × α)} {a : Nat} {e : Nat × α} (h : e ∈ sdel m a) : e ∈ m := by
  induction m with
  | nil => exact h
  | cons f m ih =>
    obtain ⟨k, v⟩ := f
    simp only [sdel] at h
    split at h
    · exact List.mem_cons_of_mem _ (ih h)
    · rcases List.mem_cons.mp h with h | h
      · exact h ▸ List.mem_cons_self ..
      · exact List.mem_cons_of_mem _ (ih h)

theorem pairwise_sdel {m : List (Nat × α)} (a : Nat) (h : (m.map Prod.fst).Pairwise (· < ·)) :
    ((sdel m a).map Prod.fst).Pairwise (· < ·) := by
  induction m with
  | nil => exact h
  | cons e m ih =>
    obtain ⟨k, v⟩ := e
    rw [List.map_cons, List.pairwise_cons] at h
    simp only [sdel]
    split
    · exact ih h.2
    · rw [List.map_cons, List.pairwise_cons]
      refine ⟨fun x hx => ?_, ih h.2⟩
      obtain ⟨e, he, rfl⟩ := List.mem_map.mp hx
      exact h.1 _ (List.mem_map_of_mem (mem_sdel he))

theorem mem_sins {m : List (Nat × α)} {a : Nat} {x : α} {e : Nat × α} (h : e ∈ sins m a x) : e = (a, x) ∨ e ∈ m := by
  induction m with
  | nil => exact Or.inl (by simpa [sins] using h)
  | cons f m ih =>
    obtain ⟨k, v⟩ := f
    simp only [sins] at h
    split at h
    · rcases List.mem_cons.mp h with h | h
      · exact Or.inl h
      · exact Or.inr (List.mem_cons_of_mem _ h)
    · split at h
      · rcases List.mem_cons.mp h with h | h
        · exact Or.inl h
        · exact Or.inr h
      · rcases List.mem_cons.mp h with h | h
        · exact Or.inr (h ▸ List.mem_cons_self ..)
        · exact (ih h).imp id (List.mem_cons_of_mem _)

theorem pairwise_sins {m : List (Nat × α)} (a : Nat) (x : α) (h : (m.map Prod.fst).Pairwise (· < ·)) :
    ((sins m a x).map Prod.fst).Pairwise (· < ·) := by
  induction m with
  | nil => simp [sins]
  | cons e m ih =>
    obtain ⟨k, v⟩ := e
    rw [List.map_cons, List.pairwise_cons] at h
    simp only [sins]
    split
    · rename_i hk
      subst hk
      rw [List.map_cons, List.pairwise_cons]
      exact h
    · split
      · rename_i hk hlt
        rw [List.map_cons, List.pairwise_cons, List.map_cons]
        refine ⟨fun y hy => ?_, List.pairwise_cons.mpr h⟩
        rcases List.mem_cons.mp hy with rfl | hy
        · exact hlt
        · exact lt_trans hlt (h.1 y hy)
      · rename_i hk hlt
        rw [List.map_cons, List.pairwise_cons]
        refine ⟨fun y hy => ?_, ih h.2⟩
        obtain ⟨e, he, rfl⟩ := List.mem_map.mp hy
        rcases mem_sins he with rfl | he
        · show k < a
          omega
        · exact h.1 _ (List.mem_map_of_mem he)

/-- A write keeps the canonical form. -/
theorem swf_sset [DecidableEq α] (d : Nat → α) (m : List (Nat × α)) (a : Nat) (x : α) (h : swf d m = true) :
    swf d (sset d m a x) = true := by
  rw [swf_iff] at h ⊢
  unfold sset
  split
  · exact ⟨pairwise_sdel a h.1, fun e he => h.2 e (mem_sdel he)⟩
  · rename_i hx
    refine ⟨pairwise_sins a x h.1, fun e he => ?_⟩
    rcases mem_sins he with rfl | he
    · exact hx
    · exact h.2 e he

/-- A selection of entries keeps the canonical form. -/
theorem swf_filter [DecidableEq α] (d : Nat → α) (m : List (Nat × α)) (p : Nat × α → Bool) (h : swf d m = true) :
    swf d (m.filter p) = true := by
  rw [swf_iff] at h ⊢
  exact ⟨h.1.sublist (List.filter_sublist.map _), fun e he => h.2 e (List.mem_of_mem_filter he)⟩

/-! ### Fields of a word -/

/-- A field reads what was put into it, modulo its width. -/
theorem getF_putF (w : Word) (f : Fld) (v : Nat) (h : f.lo + f.width ≤ 32) : getF (putF w f v) f = v % 2 ^ f.width := by
  obtain ⟨lo, n⟩ := f
  simp only at h
  apply Nat.eq_of_testBit_eq
  intro i
  unfold getF putF maskF
  rw [Nat.testBit_mod_two_pow, Nat.testBit_div_two_pow, Nat.testBit_mod_two_pow]
  by_cases hi : i < n
  · have h32 : i + lo < 32 := by omega
    simp only [hi, decide_true, Bool.true_and]
    rw [← BitVec.getLsbD, BitVec.getLsbD_or, BitVec.getLsbD_and, BitVec.getLsbD_not, BitVec.getLsbD_ofNat, BitVec.getLsbD_ofNat]
    simp only [h32, decide_true, Bool.true_and, Nat.testBit_mul_two_pow, Nat.testBit_two_pow_sub_one, Nat.testBit_mod_two_pow]
    have : lo ≤ i + lo := by omega
    simp [this, hi]
  · simp [hi]

/-- Another field, apart from it, reads as before. -/
theorem getF_putF_ne (w : Word) (f g : Fld) (v : Nat) (h : f.lo + f.width ≤ g.lo ∨ g.lo + g.width ≤ f.lo) (hg : g.lo + g.width ≤ 32) :
    getF (putF w f v) g = getF w g := by
  obtain ⟨lo, n⟩ := f
  obtain ⟨lo', n'⟩ := g
  simp only at h hg
  apply Nat.eq_of_testBit_eq
  intro i
  unfold getF putF maskF
  rw [Nat.testBit_mod_two_pow, Nat.testBit_div_two_pow, Nat.testBit_mod_two_pow, Nat.testBit_div_two_pow]
  by_cases hi : i < n'
  · have h32 : i + lo' < 32 := by omega
    simp only [hi, decide_true, Bool.true_and]
    rw [← BitVec.getLsbD, BitVec.getLsbD_or, BitVec.getLsbD_and, BitVec.getLsbD_not, BitVec.getLsbD_ofNat, BitVec.getLsbD_ofNat]
    simp only [h32, decide_true, Bool.true_and, Nat.testBit_mul_two_pow, Nat.testBit_two_pow_sub_one, Nat.testBit_mod_two_pow]
    rcases h with h | h
    · have h1 : ¬ (i + lo' - lo < n) := by omega
      simp [h1, BitVec.getLsbD]
    · have h1 : ¬ lo ≤ i + lo' := by omega
      simp [h1, BitVec.getLsbD]
  · simp [hi]

end Sys2Proof.Machine
end

