-- ==== Sys2Proof/Laws/State.lean ====
section
/-!
SUPPORT. The state's fields under the updates every family uses, one lemma per field per update, and the elements of its arrays.
-/
namespace Sys2Proof.Machine

variable (s : State)

/-! ### A register written -/

@[simp] theorem State.setReg_pending (a : Nat) (w : Word) : (s.setReg a w).pending = s.pending := rfl
@[simp] theorem State.setReg_now (a : Nat) (w : Word) : (s.setReg a w).now = s.now := rfl
@[simp] theorem State.setReg_tb (a : Nat) (w : Word) : (s.setReg a w).tb = s.tb := rfl
@[simp] theorem State.setReg_free (a : Nat) (w : Word) : (s.setReg a w).free = s.free := rfl
@[simp] theorem State.setReg_reply (a : Nat) (w : Word) : (s.setReg a w).reply = s.reply := rfl
@[simp] theorem State.setReg_out (a : Nat) (w : Word) : (s.setReg a w).out = s.out := rfl
@[simp] theorem State.setReg_mode (a : Nat) (w : Word) : (s.setReg a w).mode = s.mode := rfl
@[simp] theorem State.setReg_trans (a : Nat) (w : Word) : (s.setReg a w).trans = s.trans := rfl
@[simp] theorem State.setReg_asked (a : Nat) (w : Word) : (s.setReg a w).asked = s.asked := rfl
@[simp] theorem State.setReg_quietMute (a : Nat) (w : Word) : (s.setReg a w).quietMute = s.quietMute := rfl
@[simp] theorem State.setReg_resumeAt (a : Nat) (w : Word) : (s.setReg a w).resumeAt = s.resumeAt := rfl
@[simp] theorem State.setReg_glides (a : Nat) (w : Word) : (s.setReg a w).glides = s.glides := rfl
@[simp] theorem State.setReg_fifos (a : Nat) (w : Word) : (s.setReg a w).fifos = s.fifos := rfl
@[simp] theorem State.setReg_effects (a : Nat) (w : Word) : (s.setReg a w).effects = s.effects := rfl
@[simp] theorem State.setReg_txCars (a : Nat) (w : Word) : (s.setReg a w).txCars = s.txCars := rfl
@[simp] theorem State.setReg_rxCars (a : Nat) (w : Word) : (s.setReg a w).rxCars = s.rxCars := rfl
@[simp] theorem State.setReg_txPaths (a : Nat) (w : Word) : (s.setReg a w).txPaths = s.txPaths := rfl
@[simp] theorem State.setReg_rxCtls (a : Nat) (w : Word) : (s.setReg a w).rxCtls = s.rxCtls := rfl
@[simp] theorem State.setReg_rxPaths (a : Nat) (w : Word) : (s.setReg a w).rxPaths = s.rxPaths := rfl
@[simp] theorem State.setReg_txSyms (a : Nat) (w : Word) : (s.setReg a w).txSyms = s.txSyms := rfl
@[simp] theorem State.setReg_stepPins (a : Nat) (w : Word) : (s.setReg a w).stepPins = s.stepPins := rfl
@[simp] theorem State.setReg_caps (a : Nat) (w : Word) : (s.setReg a w).caps = s.caps := rfl
@[simp] theorem State.setReg_capSram (a : Nat) (w : Word) : (s.setReg a w).capSram = s.capSram := rfl
@[simp] theorem State.setReg_dram (a : Nat) (w : Word) : (s.setReg a w).dram = s.dram := rfl
@[simp] theorem State.setReg_weights (a : Nat) (w : Word) : (s.setReg a w).weights = s.weights := rfl
@[simp] theorem State.setReg_beamMap (a : Nat) (w : Word) : (s.setReg a w).beamMap = s.beamMap := rfl
@[simp] theorem State.setReg_entries (a : Nat) (w : Word) : (s.setReg a w).entries = s.entries := rfl
@[simp] theorem State.setReg_pagesSt (a : Nat) (w : Word) : (s.setReg a w).pagesSt = s.pagesSt := rfl
@[simp] theorem State.setReg_tlBeams (a : Nat) (w : Word) : (s.setReg a w).tlBeams = s.tlBeams := rfl
@[simp] theorem State.setReg_beamCmd (a : Nat) (w : Word) : (s.setReg a w).beamCmd = s.beamCmd := rfl
@[simp] theorem State.setReg_secs (a : Nat) (w : Word) : (s.setReg a w).secs = s.secs := rfl
@[simp] theorem State.setReg_lastCommits (a : Nat) (w : Word) : (s.setReg a w).lastCommits = s.lastCommits := rfl
@[simp] theorem State.setReg_pipeFree (a : Nat) (w : Word) : (s.setReg a w).pipeFree = s.pipeFree := rfl
@[simp] theorem State.setReg_layerData (a : Nat) (w : Word) : (s.setReg a w).layerData = s.layerData := rfl
@[simp] theorem State.setReg_pathData (a : Nat) (w : Word) : (s.setReg a w).pathData = s.pathData := rfl
@[simp] theorem State.setReg_pathMarks (a : Nat) (w : Word) : (s.setReg a w).pathMarks = s.pathMarks := rfl
@[simp] theorem State.setReg_held (a : Nat) (w : Word) : (s.setReg a w).held = s.held := rfl
@[simp] theorem State.setReg_symWrites (a : Nat) (w : Word) : (s.setReg a w).symWrites = s.symWrites := rfl
@[simp] theorem State.setReg_symClear (a : Nat) (w : Word) : (s.setReg a w).symClear = s.symClear := rfl
@[simp] theorem State.setReg_fhMsgs (a : Nat) (w : Word) : (s.setReg a w).fhMsgs = s.fhMsgs := rfl
@[simp] theorem State.setReg_ctrlCmds (a : Nat) (w : Word) : (s.setReg a w).ctrlCmds = s.ctrlCmds := rfl
@[simp] theorem State.setReg_ctrlLate (a : Nat) (w : Word) : (s.setReg a w).ctrlLate = s.ctrlLate := rfl
@[simp] theorem State.setReg_ctrlRejected (a : Nat) (w : Word) : (s.setReg a w).ctrlRejected = s.ctrlRejected := rfl
@[simp] theorem State.setReg_ctrlMine (a : Nat) (w : Word) : (s.setReg a w).ctrlMine = s.ctrlMine := rfl
@[simp] theorem State.setReg_flows (a : Nat) (w : Word) : (s.setReg a w).flows = s.flows := rfl
@[simp] theorem State.setReg_sfseqs (a : Nat) (w : Word) : (s.setReg a w).sfseqs = s.sfseqs := rfl
@[simp] theorem State.setReg_resends (a : Nat) (w : Word) : (s.setReg a w).resends = s.resends := rfl
@[simp] theorem State.setReg_jrnNext (a : Nat) (w : Word) : (s.setReg a w).jrnNext = s.jrnNext := rfl
@[simp] theorem State.setReg_jrnHead (a : Nat) (w : Word) : (s.setReg a w).jrnHead = s.jrnHead := rfl
@[simp] theorem State.setReg_jrnRecs (a : Nat) (w : Word) : (s.setReg a w).jrnRecs = s.jrnRecs := rfl
@[simp] theorem State.setReg_ports (a : Nat) (w : Word) : (s.setReg a w).ports = s.ports := rfl
@[simp] theorem State.setReg_lanes (a : Nat) (w : Word) : (s.setReg a w).lanes = s.lanes := rfl
@[simp] theorem State.setReg_logQ (a : Nat) (w : Word) : (s.setReg a w).logQ = s.logQ := rfl
@[simp] theorem State.setReg_loggedAts (a : Nat) (w : Word) : (s.setReg a w).loggedAts = s.loggedAts := rfl
@[simp] theorem State.setReg_msiOn (a : Nat) (w : Word) : (s.setReg a w).msiOn = s.msiOn := rfl
@[simp] theorem State.setReg_msiGranted (a : Nat) (w : Word) : (s.setReg a w).msiGranted = s.msiGranted := rfl
@[simp] theorem State.setReg_msiPend (a : Nat) (w : Word) : (s.setReg a w).msiPend = s.msiPend := rfl
@[simp] theorem State.setReg_thermShut (a : Nat) (w : Word) : (s.setReg a w).thermShut = s.thermShut := rfl
@[simp] theorem State.setReg_quadsSt (a : Nat) (w : Word) : (s.setReg a w).quadsSt = s.quadsSt := rfl
@[simp] theorem State.setReg_biases (a : Nat) (w : Word) : (s.setReg a w).biases = s.biases := rfl
@[simp] theorem State.setReg_rffes (a : Nat) (w : Word) : (s.setReg a w).rffes = s.rffes := rfl
@[simp] theorem State.setReg_dflies (a : Nat) (w : Word) : (s.setReg a w).dflies = s.dflies := rfl
@[simp] theorem State.setReg_fwdPowers (a : Nat) (w : Word) : (s.setReg a w).fwdPowers = s.fwdPowers := rfl
@[simp] theorem State.setReg_mmRuns (a : Nat) (w : Word) : (s.setReg a w).mmRuns = s.mmRuns := rfl
@[simp] theorem State.setReg_dpdTbl (a : Nat) (w : Word) : (s.setReg a w).dpdTbl = s.dpdTbl := rfl
@[simp] theorem State.setReg_dpdSels (a : Nat) (w : Word) : (s.setReg a w).dpdSels = s.dpdSels := rfl
@[simp] theorem State.setReg_dpdSwapAts (a : Nat) (w : Word) : (s.setReg a w).dpdSwapAts = s.dpdSwapAts := rfl
@[simp] theorem State.setReg_coefs (a : Nat) (w : Word) : (s.setReg a w).coefs = s.coefs := rfl
@[simp] theorem State.setReg_jobs (a : Nat) (w : Word) : (s.setReg a w).jobs = s.jobs := rfl
@[simp] theorem State.setReg_solver (a : Nat) (w : Word) : (s.setReg a w).solver = s.solver := rfl
@[simp] theorem State.setReg_cals (a : Nat) (w : Word) : (s.setReg a w).cals = s.cals := rfl
@[simp] theorem State.setReg_txRfs (a : Nat) (w : Word) : (s.setReg a w).txRfs = s.txRfs := rfl
@[simp] theorem State.setReg_rxRfs (a : Nat) (w : Word) : (s.setReg a w).rxRfs = s.rxRfs := rfl
@[simp] theorem State.setReg_origins (a : Nat) (w : Word) : (s.setReg a w).origins = s.origins := rfl
@[simp] theorem State.setReg_dramLock (a : Nat) (w : Word) : (s.setReg a w).dramLock = s.dramLock := rfl
@[simp] theorem State.setReg_dramPorts (a : Nat) (w : Word) : (s.setReg a w).dramPorts = s.dramPorts := rfl
@[simp] theorem State.setReg_dramChs (a : Nat) (w : Word) : (s.setReg a w).dramChs = s.dramChs := rfl
@[simp] theorem State.setReg_dramTurn (a : Nat) (w : Word) : (s.setReg a w).dramTurn = s.dramTurn := rfl
@[simp] theorem State.setReg_dramSwept (a : Nat) (w : Word) : (s.setReg a w).dramSwept = s.dramSwept := rfl
@[simp] theorem State.setReg_dramDueTold (a : Nat) (w : Word) : (s.setReg a w).dramDueTold = s.dramDueTold := rfl
@[simp] theorem State.setReg_jrnOldest (a : Nat) (w : Word) : (s.setReg a w).jrnOldest = s.jrnOldest := rfl
@[simp] theorem State.setReg_jrnOn (a : Nat) (w : Word) : (s.setReg a w).jrnOn = s.jrnOn := rfl
@[simp] theorem State.setReg_capBusys (a : Nat) (w : Word) : (s.setReg a w).capBusys = s.capBusys := rfl
@[simp] theorem State.setReg_adcCorrs (a : Nat) (w : Word) : (s.setReg a w).adcCorrs = s.adcCorrs := rfl
@[simp] theorem State.setReg_adcAts (a : Nat) (w : Word) : (s.setReg a w).adcAts = s.adcAts := rfl
@[simp] theorem State.setReg_coefCmd (a : Nat) (w : Word) : (s.setReg a w).coefCmd = s.coefCmd := rfl
@[simp] theorem State.setReg_plls (a : Nat) (w : Word) : (s.setReg a w).plls = s.plls := rfl
@[simp] theorem State.setReg_lpllForces (a : Nat) (w : Word) : (s.setReg a w).lpllForces = s.lpllForces := rfl
@[simp] theorem State.setReg_refForces (a : Nat) (w : Word) : (s.setReg a w).refForces = s.refForces := rfl
@[simp] theorem State.setReg_hpllArm (a : Nat) (w : Word) : (s.setReg a w).hpllArm = s.hpllArm := rfl
@[simp] theorem State.setReg_lpllArms (a : Nat) (w : Word) : (s.setReg a w).lpllArms = s.lpllArms := rfl
@[simp] theorem State.setReg_alignArms (a : Nat) (w : Word) : (s.setReg a w).alignArms = s.alignArms := rfl
@[simp] theorem State.setReg_hubAlign (a : Nat) (w : Word) : (s.setReg a w).hubAlign = s.hubAlign := rfl
@[simp] theorem State.setReg_aligning (a : Nat) (w : Word) : (s.setReg a w).aligning = s.aligning := rfl
@[simp] theorem State.setReg_tas (a : Nat) (w : Word) : (s.setReg a w).tas = s.tas := rfl
@[simp] theorem State.setReg_taHis (a : Nat) (w : Word) : (s.setReg a w).taHis = s.taHis := rfl
@[simp] theorem State.setReg_txData (a : Nat) (w : Word) : (s.setReg a w).txData = s.txData := rfl
@[simp] theorem State.setReg_eye (a : Nat) (w : Word) : (s.setReg a w).eye = s.eye := rfl
@[simp] theorem State.setReg_burogs (a : Nat) (w : Word) : (s.setReg a w).burogs = s.burogs := rfl
@[simp] theorem State.setReg_cuRuns (a : Nat) (w : Word) : (s.setReg a w).cuRuns = s.cuRuns := rfl
@[simp] theorem State.setReg_cuLos (a : Nat) (w : Word) : (s.setReg a w).cuLos = s.cuLos := rfl
@[simp] theorem State.setReg_integ (a : Nat) (w : Word) : (s.setReg a w).integ = s.integ := rfl
@[simp] theorem State.setReg_goodRun (a : Nat) (w : Word) : (s.setReg a w).goodRun = s.goodRun := rfl
@[simp] theorem State.setReg_badRun (a : Nat) (w : Word) : (s.setReg a w).badRun = s.badRun := rfl
@[simp] theorem State.setReg_ownQual (a : Nat) (w : Word) : (s.setReg a w).ownQual = s.ownQual := rfl
@[simp] theorem State.setReg_carried (a : Nat) (w : Word) : (s.setReg a w).carried = s.carried := rfl
@[simp] theorem State.setReg_refMaster (a : Nat) (w : Word) : (s.setReg a w).refMaster = s.refMaster := rfl
@[simp] theorem State.setReg_stepDone (a : Nat) (w : Word) : (s.setReg a w).stepDone = s.stepDone := rfl
@[simp] theorem State.setReg_srcAt (a : Nat) (w : Word) : (s.setReg a w).srcAt = s.srcAt := rfl
@[simp] theorem State.setReg_ppsTs (a : Nat) (w : Word) : (s.setReg a w).ppsTs = s.ppsTs := rfl
@[simp] theorem State.setReg_tsyncTs (a : Nat) (w : Word) : (s.setReg a w).tsyncTs = s.tsyncTs := rfl
@[simp] theorem State.setReg_keeper (a : Nat) (w : Word) : (s.setReg a w).keeper = s.keeper := rfl
@[simp] theorem State.setReg_mgmtIn (a : Nat) (w : Word) : (s.setReg a w).mgmtIn = s.mgmtIn := rfl
@[simp] theorem State.setReg_dlyRess (a : Nat) (w : Word) : (s.setReg a w).dlyRess = s.dlyRess := rfl
@[simp] theorem State.setReg_autoQuiet (a : Nat) (w : Word) : (s.setReg a w).autoQuiet = s.autoQuiet := rfl
@[simp] theorem State.setReg_startDue (a : Nat) (w : Word) : (s.setReg a w).startDue = s.startDue := rfl
@[simp] theorem State.setReg_starting (a : Nat) (w : Word) : (s.setReg a w).starting = s.starting := rfl
@[simp] theorem State.setReg_startFailed (a : Nat) (w : Word) : (s.setReg a w).startFailed = s.startFailed := rfl
@[simp] theorem State.setReg_fellBack (a : Nat) (w : Word) : (s.setReg a w).fellBack = s.fellBack := rfl
@[simp] theorem State.setReg_startCal (a : Nat) (w : Word) : (s.setReg a w).startCal = s.startCal := rfl
@[simp] theorem State.setReg_standbyHeld (a : Nat) (w : Word) : (s.setReg a w).standbyHeld = s.standbyHeld := rfl
@[simp] theorem State.setReg_porHigh (a : Nat) (w : Word) : (s.setReg a w).porHigh = s.porHigh := rfl
@[simp] theorem State.setReg_railsIn (a : Nat) (w : Word) : (s.setReg a w).railsIn = s.railsIn := rfl
@[simp] theorem State.setReg_restartAt (a : Nat) (w : Word) : (s.setReg a w).restartAt = s.restartAt := rfl
@[simp] theorem State.setReg_lockstepDue (a : Nat) (w : Word) : (s.setReg a w).lockstepDue = s.lockstepDue := rfl
@[simp] theorem State.setReg_strap (a : Nat) (w : Word) : (s.setReg a w).strap = s.strap := rfl
@[simp] theorem State.setReg_pcieUp (a : Nat) (w : Word) : (s.setReg a w).pcieUp = s.pcieUp := rfl
@[simp] theorem State.setReg_rilynQ (a : Nat) (w : Word) : (s.setReg a w).rilynQ = s.rilynQ := rfl
@[simp] theorem State.setReg_mbxCmd (a : Nat) (w : Word) : (s.setReg a w).mbxCmd = s.mbxCmd := rfl
@[simp] theorem State.setReg_rilynRun (a : Nat) (w : Word) : (s.setReg a w).rilynRun = s.rilynRun := rfl
@[simp] theorem State.setReg_tookMbx (a : Nat) (w : Word) : (s.setReg a w).tookMbx = s.tookMbx := rfl
@[simp] theorem State.setReg_mpDone (a : Nat) (w : Word) : (s.setReg a w).mpDone = s.mpDone := rfl
@[simp] theorem State.setReg_relayIn (a : Nat) (w : Word) : (s.setReg a w).relayIn = s.relayIn := rfl
@[simp] theorem State.setReg_bufWords (a : Nat) (w : Word) : (s.setReg a w).bufWords = s.bufWords := rfl
@[simp] theorem State.setReg_flash (a : Nat) (w : Word) : (s.setReg a w).flash = s.flash := rfl
@[simp] theorem State.setReg_record (a : Nat) (w : Word) : (s.setReg a w).record = s.record := rfl
@[simp] theorem State.setReg_delaySet (a : Nat) (w : Word) : (s.setReg a w).delaySet = s.delaySet := rfl
@[simp] theorem State.setReg_delayDue (a : Nat) (w : Word) : (s.setReg a w).delayDue = s.delayDue := rfl
@[simp] theorem State.setReg_ranSlot (a : Nat) (w : Word) : (s.setReg a w).ranSlot = s.ranSlot := rfl
@[simp] theorem State.setReg_slotA (a : Nat) (w : Word) : (s.setReg a w).slotA = s.slotA := rfl
@[simp] theorem State.setReg_images (a : Nat) (w : Word) : (s.setReg a w).images = s.images := rfl
@[simp] theorem State.setReg_update (a : Nat) (w : Word) : (s.setReg a w).update = s.update := rfl
@[simp] theorem State.setReg_fuseLevel (a : Nat) (w : Word) : (s.setReg a w).fuseLevel = s.fuseLevel := rfl
@[simp] theorem State.setReg_logPos (a : Nat) (w : Word) : (s.setReg a w).logPos = s.logPos := rfl
@[simp] theorem State.setReg_qspi (a : Nat) (w : Word) : (s.setReg a w).qspi = s.qspi := rfl
@[simp] theorem State.setReg_ptps (a : Nat) (w : Word) : (s.setReg a w).ptps = s.ptps := rfl
@[simp] theorem State.setReg_ptpEvents (a : Nat) (w : Word) : (s.setReg a w).ptpEvents = s.ptpEvents := rfl
@[simp] theorem State.setReg_hkTrims (a : Nat) (w : Word) : (s.setReg a w).hkTrims = s.hkTrims := rfl
@[simp] theorem State.setReg_racing (a : Nat) (w : Word) : (s.setReg a w).racing = s.racing := rfl
@[simp] theorem State.setReg_struck (a : Nat) (w : Word) : (s.setReg a w).struck = s.struck := rfl
@[simp] theorem State.setReg_hkAccs (a : Nat) (w : Word) : (s.setReg a w).hkAccs = s.hkAccs := rfl
@[simp] theorem State.setReg_hkAts (a : Nat) (w : Word) : (s.setReg a w).hkAts = s.hkAts := rfl
@[simp] theorem State.setReg_diodes (a : Nat) (w : Word) : (s.setReg a w).diodes = s.diodes := rfl
@[simp] theorem State.setReg_thrRuns (a : Nat) (w : Word) : (s.setReg a w).thrRuns = s.thrRuns := rfl
@[simp] theorem State.setReg_xAmbig (a : Nat) (w : Word) : (s.setReg a w).xAmbig = s.xAmbig := rfl
@[simp] theorem State.setReg_priorShut (a : Nat) (w : Word) : (s.setReg a w).priorShut = s.priorShut := rfl
@[simp] theorem State.setReg_shut (a : Nat) (w : Word) : (s.setReg a w).shut = s.shut := rfl
@[simp] theorem State.setReg_mons (a : Nat) (w : Word) : (s.setReg a w).mons = s.mons := rfl
@[simp] theorem State.setReg_stresses (a : Nat) (w : Word) : (s.setReg a w).stresses = s.stresses := rfl
@[simp] theorem State.setReg_stressSecs (a : Nat) (w : Word) : (s.setReg a w).stressSecs = s.stressSecs := rfl
@[simp] theorem State.setReg_domMoves (a : Nat) (w : Word) : (s.setReg a w).domMoves = s.domMoves := rfl
@[simp] theorem State.setReg_domWaits (a : Nat) (w : Word) : (s.setReg a w).domWaits = s.domWaits := rfl
@[simp] theorem State.setReg_rising (a : Nat) (w : Word) : (s.setReg a w).rising = s.rising := rfl
@[simp] theorem State.setReg_gatePins (a : Nat) (w : Word) : (s.setReg a w).gatePins = s.gatePins := rfl
@[simp] theorem State.setReg_wakePins (a : Nat) (w : Word) : (s.setReg a w).wakePins = s.wakePins := rfl
@[simp] theorem State.setReg_timerEnd (a : Nat) (w : Word) : (s.setReg a w).timerEnd = s.timerEnd := rfl
@[simp] theorem State.setReg_dip (a : Nat) (w : Word) : (s.setReg a w).dip = s.dip := rfl
@[simp] theorem State.setReg_freezeEnd (a : Nat) (w : Word) : (s.setReg a w).freezeEnd = s.freezeEnd := rfl
@[simp] theorem State.setReg_pmem (a : Nat) (w : Word) : (s.setReg a w).pmem = s.pmem := rfl
@[simp] theorem State.setReg_chans (a : Nat) (w : Word) : (s.setReg a w).chans = s.chans := rfl
@[simp] theorem State.setReg_scBusy (a : Nat) (w : Word) : (s.setReg a w).scBusy = s.scBusy := rfl
@[simp] theorem State.setReg_uartRx (a : Nat) (w : Word) : (s.setReg a w).uartRx = s.uartRx := rfl
@[simp] theorem State.setReg_uartTx (a : Nat) (w : Word) : (s.setReg a w).uartTx = s.uartTx := rfl
@[simp] theorem State.setReg_uartAt (a : Nat) (w : Word) : (s.setReg a w).uartAt = s.uartAt := rfl
@[simp] theorem State.setReg_tap (a : Nat) (w : Word) : (s.setReg a w).tap = s.tap := rfl
@[simp] theorem State.setReg_boundary (a : Nat) (w : Word) : (s.setReg a w).boundary = s.boundary := rfl
@[simp] theorem State.setReg_borDue (a : Nat) (w : Word) : (s.setReg a w).borDue = s.borDue := rfl
@[simp] theorem State.setReg_spllBlocked (a : Nat) (w : Word) : (s.setReg a w).spllBlocked = s.spllBlocked := rfl
@[simp] theorem State.setReg_detLost (a : Nat) (w : Word) : (s.setReg a w).detLost = s.detLost := rfl
@[simp] theorem State.setReg_detBack (a : Nat) (w : Word) : (s.setReg a w).detBack = s.detBack := rfl
@[simp] theorem State.setReg_wentOff (a : Nat) (w : Word) : (s.setReg a w).wentOff = s.wentOff := rfl

/-! ### Something sent -/

@[simp] theorem State.emit_pending (x : Out) : (s.emit x).pending = s.pending := rfl
@[simp] theorem State.emit_now (x : Out) : (s.emit x).now = s.now := rfl
@[simp] theorem State.emit_tb (x : Out) : (s.emit x).tb = s.tb := rfl
@[simp] theorem State.emit_free (x : Out) : (s.emit x).free = s.free := rfl
@[simp] theorem State.emit_reply (x : Out) : (s.emit x).reply = s.reply := rfl
@[simp] theorem State.emit_regs (x : Out) : (s.emit x).regs = s.regs := rfl
@[simp] theorem State.emit_mode (x : Out) : (s.emit x).mode = s.mode := rfl
@[simp] theorem State.emit_trans (x : Out) : (s.emit x).trans = s.trans := rfl
@[simp] theorem State.emit_asked (x : Out) : (s.emit x).asked = s.asked := rfl
@[simp] theorem State.emit_quietMute (x : Out) : (s.emit x).quietMute = s.quietMute := rfl
@[simp] theorem State.emit_resumeAt (x : Out) : (s.emit x).resumeAt = s.resumeAt := rfl
@[simp] theorem State.emit_glides (x : Out) : (s.emit x).glides = s.glides := rfl
@[simp] theorem State.emit_fifos (x : Out) : (s.emit x).fifos = s.fifos := rfl
@[simp] theorem State.emit_effects (x : Out) : (s.emit x).effects = s.effects := rfl
@[simp] theorem State.emit_txCars (x : Out) : (s.emit x).txCars = s.txCars := rfl
@[simp] theorem State.emit_rxCars (x : Out) : (s.emit x).rxCars = s.rxCars := rfl
@[simp] theorem State.emit_txPaths (x : Out) : (s.emit x).txPaths = s.txPaths := rfl
@[simp] theorem State.emit_rxCtls (x : Out) : (s.emit x).rxCtls = s.rxCtls := rfl
@[simp] theorem State.emit_rxPaths (x : Out) : (s.emit x).rxPaths = s.rxPaths := rfl
@[simp] theorem State.emit_txSyms (x : Out) : (s.emit x).txSyms = s.txSyms := rfl
@[simp] theorem State.emit_stepPins (x : Out) : (s.emit x).stepPins = s.stepPins := rfl
@[simp] theorem State.emit_caps (x : Out) : (s.emit x).caps = s.caps := rfl
@[simp] theorem State.emit_capSram (x : Out) : (s.emit x).capSram = s.capSram := rfl
@[simp] theorem State.emit_dram (x : Out) : (s.emit x).dram = s.dram := rfl
@[simp] theorem State.emit_weights (x : Out) : (s.emit x).weights = s.weights := rfl
@[simp] theorem State.emit_beamMap (x : Out) : (s.emit x).beamMap = s.beamMap := rfl
@[simp] theorem State.emit_entries (x : Out) : (s.emit x).entries = s.entries := rfl
@[simp] theorem State.emit_pagesSt (x : Out) : (s.emit x).pagesSt = s.pagesSt := rfl
@[simp] theorem State.emit_tlBeams (x : Out) : (s.emit x).tlBeams = s.tlBeams := rfl
@[simp] theorem State.emit_beamCmd (x : Out) : (s.emit x).beamCmd = s.beamCmd := rfl
@[simp] theorem State.emit_secs (x : Out) : (s.emit x).secs = s.secs := rfl
@[simp] theorem State.emit_lastCommits (x : Out) : (s.emit x).lastCommits = s.lastCommits := rfl
@[simp] theorem State.emit_pipeFree (x : Out) : (s.emit x).pipeFree = s.pipeFree := rfl
@[simp] theorem State.emit_layerData (x : Out) : (s.emit x).layerData = s.layerData := rfl
@[simp] theorem State.emit_pathData (x : Out) : (s.emit x).pathData = s.pathData := rfl
@[simp] theorem State.emit_pathMarks (x : Out) : (s.emit x).pathMarks = s.pathMarks := rfl
@[simp] theorem State.emit_held (x : Out) : (s.emit x).held = s.held := rfl
@[simp] theorem State.emit_symWrites (x : Out) : (s.emit x).symWrites = s.symWrites := rfl
@[simp] theorem State.emit_symClear (x : Out) : (s.emit x).symClear = s.symClear := rfl
@[simp] theorem State.emit_fhMsgs (x : Out) : (s.emit x).fhMsgs = s.fhMsgs := rfl
@[simp] theorem State.emit_ctrlCmds (x : Out) : (s.emit x).ctrlCmds = s.ctrlCmds := rfl
@[simp] theorem State.emit_ctrlLate (x : Out) : (s.emit x).ctrlLate = s.ctrlLate := rfl
@[simp] theorem State.emit_ctrlRejected (x : Out) : (s.emit x).ctrlRejected = s.ctrlRejected := rfl
@[simp] theorem State.emit_ctrlMine (x : Out) : (s.emit x).ctrlMine = s.ctrlMine := rfl
@[simp] theorem State.emit_flows (x : Out) : (s.emit x).flows = s.flows := rfl
@[simp] theorem State.emit_sfseqs (x : Out) : (s.emit x).sfseqs = s.sfseqs := rfl
@[simp] theorem State.emit_resends (x : Out) : (s.emit x).resends = s.resends := rfl
@[simp] theorem State.emit_jrnNext (x : Out) : (s.emit x).jrnNext = s.jrnNext := rfl
@[simp] theorem State.emit_jrnHead (x : Out) : (s.emit x).jrnHead = s.jrnHead := rfl
@[simp] theorem State.emit_jrnRecs (x : Out) : (s.emit x).jrnRecs = s.jrnRecs := rfl
@[simp] theorem State.emit_ports (x : Out) : (s.emit x).ports = s.ports := rfl
@[simp] theorem State.emit_lanes (x : Out) : (s.emit x).lanes = s.lanes := rfl
@[simp] theorem State.emit_logQ (x : Out) : (s.emit x).logQ = s.logQ := rfl
@[simp] theorem State.emit_loggedAts (x : Out) : (s.emit x).loggedAts = s.loggedAts := rfl
@[simp] theorem State.emit_msiOn (x : Out) : (s.emit x).msiOn = s.msiOn := rfl
@[simp] theorem State.emit_msiGranted (x : Out) : (s.emit x).msiGranted = s.msiGranted := rfl
@[simp] theorem State.emit_msiPend (x : Out) : (s.emit x).msiPend = s.msiPend := rfl
@[simp] theorem State.emit_thermShut (x : Out) : (s.emit x).thermShut = s.thermShut := rfl
@[simp] theorem State.emit_quadsSt (x : Out) : (s.emit x).quadsSt = s.quadsSt := rfl
@[simp] theorem State.emit_biases (x : Out) : (s.emit x).biases = s.biases := rfl
@[simp] theorem State.emit_rffes (x : Out) : (s.emit x).rffes = s.rffes := rfl
@[simp] theorem State.emit_dflies (x : Out) : (s.emit x).dflies = s.dflies := rfl
@[simp] theorem State.emit_fwdPowers (x : Out) : (s.emit x).fwdPowers = s.fwdPowers := rfl
@[simp] theorem State.emit_mmRuns (x : Out) : (s.emit x).mmRuns = s.mmRuns := rfl
@[simp] theorem State.emit_dpdTbl (x : Out) : (s.emit x).dpdTbl = s.dpdTbl := rfl
@[simp] theorem State.emit_dpdSels (x : Out) : (s.emit x).dpdSels = s.dpdSels := rfl
@[simp] theorem State.emit_dpdSwapAts (x : Out) : (s.emit x).dpdSwapAts = s.dpdSwapAts := rfl
@[simp] theorem State.emit_coefs (x : Out) : (s.emit x).coefs = s.coefs := rfl
@[simp] theorem State.emit_jobs (x : Out) : (s.emit x).jobs = s.jobs := rfl
@[simp] theorem State.emit_solver (x : Out) : (s.emit x).solver = s.solver := rfl
@[simp] theorem State.emit_cals (x : Out) : (s.emit x).cals = s.cals := rfl
@[simp] theorem State.emit_txRfs (x : Out) : (s.emit x).txRfs = s.txRfs := rfl
@[simp] theorem State.emit_rxRfs (x : Out) : (s.emit x).rxRfs = s.rxRfs := rfl
@[simp] theorem State.emit_origins (x : Out) : (s.emit x).origins = s.origins := rfl
@[simp] theorem State.emit_dramLock (x : Out) : (s.emit x).dramLock = s.dramLock := rfl
@[simp] theorem State.emit_dramPorts (x : Out) : (s.emit x).dramPorts = s.dramPorts := rfl
@[simp] theorem State.emit_dramChs (x : Out) : (s.emit x).dramChs = s.dramChs := rfl
@[simp] theorem State.emit_dramTurn (x : Out) : (s.emit x).dramTurn = s.dramTurn := rfl
@[simp] theorem State.emit_dramSwept (x : Out) : (s.emit x).dramSwept = s.dramSwept := rfl
@[simp] theorem State.emit_dramDueTold (x : Out) : (s.emit x).dramDueTold = s.dramDueTold := rfl
@[simp] theorem State.emit_jrnOldest (x : Out) : (s.emit x).jrnOldest = s.jrnOldest := rfl
@[simp] theorem State.emit_jrnOn (x : Out) : (s.emit x).jrnOn = s.jrnOn := rfl
@[simp] theorem State.emit_capBusys (x : Out) : (s.emit x).capBusys = s.capBusys := rfl
@[simp] theorem State.emit_adcCorrs (x : Out) : (s.emit x).adcCorrs = s.adcCorrs := rfl
@[simp] theorem State.emit_adcAts (x : Out) : (s.emit x).adcAts = s.adcAts := rfl
@[simp] theorem State.emit_coefCmd (x : Out) : (s.emit x).coefCmd = s.coefCmd := rfl
@[simp] theorem State.emit_plls (x : Out) : (s.emit x).plls = s.plls := rfl
@[simp] theorem State.emit_lpllForces (x : Out) : (s.emit x).lpllForces = s.lpllForces := rfl
@[simp] theorem State.emit_refForces (x : Out) : (s.emit x).refForces = s.refForces := rfl
@[simp] theorem State.emit_hpllArm (x : Out) : (s.emit x).hpllArm = s.hpllArm := rfl
@[simp] theorem State.emit_lpllArms (x : Out) : (s.emit x).lpllArms = s.lpllArms := rfl
@[simp] theorem State.emit_alignArms (x : Out) : (s.emit x).alignArms = s.alignArms := rfl
@[simp] theorem State.emit_hubAlign (x : Out) : (s.emit x).hubAlign = s.hubAlign := rfl
@[simp] theorem State.emit_aligning (x : Out) : (s.emit x).aligning = s.aligning := rfl
@[simp] theorem State.emit_tas (x : Out) : (s.emit x).tas = s.tas := rfl
@[simp] theorem State.emit_taHis (x : Out) : (s.emit x).taHis = s.taHis := rfl
@[simp] theorem State.emit_txData (x : Out) : (s.emit x).txData = s.txData := rfl
@[simp] theorem State.emit_eye (x : Out) : (s.emit x).eye = s.eye := rfl
@[simp] theorem State.emit_burogs (x : Out) : (s.emit x).burogs = s.burogs := rfl
@[simp] theorem State.emit_cuRuns (x : Out) : (s.emit x).cuRuns = s.cuRuns := rfl
@[simp] theorem State.emit_cuLos (x : Out) : (s.emit x).cuLos = s.cuLos := rfl
@[simp] theorem State.emit_integ (x : Out) : (s.emit x).integ = s.integ := rfl
@[simp] theorem State.emit_goodRun (x : Out) : (s.emit x).goodRun = s.goodRun := rfl
@[simp] theorem State.emit_badRun (x : Out) : (s.emit x).badRun = s.badRun := rfl
@[simp] theorem State.emit_ownQual (x : Out) : (s.emit x).ownQual = s.ownQual := rfl
@[simp] theorem State.emit_carried (x : Out) : (s.emit x).carried = s.carried := rfl
@[simp] theorem State.emit_refMaster (x : Out) : (s.emit x).refMaster = s.refMaster := rfl
@[simp] theorem State.emit_stepDone (x : Out) : (s.emit x).stepDone = s.stepDone := rfl
@[simp] theorem State.emit_srcAt (x : Out) : (s.emit x).srcAt = s.srcAt := rfl
@[simp] theorem State.emit_ppsTs (x : Out) : (s.emit x).ppsTs = s.ppsTs := rfl
@[simp] theorem State.emit_tsyncTs (x : Out) : (s.emit x).tsyncTs = s.tsyncTs := rfl
@[simp] theorem State.emit_keeper (x : Out) : (s.emit x).keeper = s.keeper := rfl
@[simp] theorem State.emit_mgmtIn (x : Out) : (s.emit x).mgmtIn = s.mgmtIn := rfl
@[simp] theorem State.emit_dlyRess (x : Out) : (s.emit x).dlyRess = s.dlyRess := rfl
@[simp] theorem State.emit_autoQuiet (x : Out) : (s.emit x).autoQuiet = s.autoQuiet := rfl
@[simp] theorem State.emit_startDue (x : Out) : (s.emit x).startDue = s.startDue := rfl
@[simp] theorem State.emit_starting (x : Out) : (s.emit x).starting = s.starting := rfl
@[simp] theorem State.emit_startFailed (x : Out) : (s.emit x).startFailed = s.startFailed := rfl
@[simp] theorem State.emit_fellBack (x : Out) : (s.emit x).fellBack = s.fellBack := rfl
@[simp] theorem State.emit_startCal (x : Out) : (s.emit x).startCal = s.startCal := rfl
@[simp] theorem State.emit_standbyHeld (x : Out) : (s.emit x).standbyHeld = s.standbyHeld := rfl
@[simp] theorem State.emit_porHigh (x : Out) : (s.emit x).porHigh = s.porHigh := rfl
@[simp] theorem State.emit_railsIn (x : Out) : (s.emit x).railsIn = s.railsIn := rfl
@[simp] theorem State.emit_restartAt (x : Out) : (s.emit x).restartAt = s.restartAt := rfl
@[simp] theorem State.emit_lockstepDue (x : Out) : (s.emit x).lockstepDue = s.lockstepDue := rfl
@[simp] theorem State.emit_strap (x : Out) : (s.emit x).strap = s.strap := rfl
@[simp] theorem State.emit_pcieUp (x : Out) : (s.emit x).pcieUp = s.pcieUp := rfl
@[simp] theorem State.emit_rilynQ (x : Out) : (s.emit x).rilynQ = s.rilynQ := rfl
@[simp] theorem State.emit_mbxCmd (x : Out) : (s.emit x).mbxCmd = s.mbxCmd := rfl
@[simp] theorem State.emit_rilynRun (x : Out) : (s.emit x).rilynRun = s.rilynRun := rfl
@[simp] theorem State.emit_tookMbx (x : Out) : (s.emit x).tookMbx = s.tookMbx := rfl
@[simp] theorem State.emit_mpDone (x : Out) : (s.emit x).mpDone = s.mpDone := rfl
@[simp] theorem State.emit_relayIn (x : Out) : (s.emit x).relayIn = s.relayIn := rfl
@[simp] theorem State.emit_bufWords (x : Out) : (s.emit x).bufWords = s.bufWords := rfl
@[simp] theorem State.emit_flash (x : Out) : (s.emit x).flash = s.flash := rfl
@[simp] theorem State.emit_record (x : Out) : (s.emit x).record = s.record := rfl
@[simp] theorem State.emit_delaySet (x : Out) : (s.emit x).delaySet = s.delaySet := rfl
@[simp] theorem State.emit_delayDue (x : Out) : (s.emit x).delayDue = s.delayDue := rfl
@[simp] theorem State.emit_ranSlot (x : Out) : (s.emit x).ranSlot = s.ranSlot := rfl
@[simp] theorem State.emit_slotA (x : Out) : (s.emit x).slotA = s.slotA := rfl
@[simp] theorem State.emit_images (x : Out) : (s.emit x).images = s.images := rfl
@[simp] theorem State.emit_update (x : Out) : (s.emit x).update = s.update := rfl
@[simp] theorem State.emit_fuseLevel (x : Out) : (s.emit x).fuseLevel = s.fuseLevel := rfl
@[simp] theorem State.emit_logPos (x : Out) : (s.emit x).logPos = s.logPos := rfl
@[simp] theorem State.emit_qspi (x : Out) : (s.emit x).qspi = s.qspi := rfl
@[simp] theorem State.emit_ptps (x : Out) : (s.emit x).ptps = s.ptps := rfl
@[simp] theorem State.emit_ptpEvents (x : Out) : (s.emit x).ptpEvents = s.ptpEvents := rfl
@[simp] theorem State.emit_hkTrims (x : Out) : (s.emit x).hkTrims = s.hkTrims := rfl
@[simp] theorem State.emit_racing (x : Out) : (s.emit x).racing = s.racing := rfl
@[simp] theorem State.emit_struck (x : Out) : (s.emit x).struck = s.struck := rfl
@[simp] theorem State.emit_hkAccs (x : Out) : (s.emit x).hkAccs = s.hkAccs := rfl
@[simp] theorem State.emit_hkAts (x : Out) : (s.emit x).hkAts = s.hkAts := rfl
@[simp] theorem State.emit_diodes (x : Out) : (s.emit x).diodes = s.diodes := rfl
@[simp] theorem State.emit_thrRuns (x : Out) : (s.emit x).thrRuns = s.thrRuns := rfl
@[simp] theorem State.emit_xAmbig (x : Out) : (s.emit x).xAmbig = s.xAmbig := rfl
@[simp] theorem State.emit_priorShut (x : Out) : (s.emit x).priorShut = s.priorShut := rfl
@[simp] theorem State.emit_shut (x : Out) : (s.emit x).shut = s.shut := rfl
@[simp] theorem State.emit_mons (x : Out) : (s.emit x).mons = s.mons := rfl
@[simp] theorem State.emit_stresses (x : Out) : (s.emit x).stresses = s.stresses := rfl
@[simp] theorem State.emit_stressSecs (x : Out) : (s.emit x).stressSecs = s.stressSecs := rfl
@[simp] theorem State.emit_domMoves (x : Out) : (s.emit x).domMoves = s.domMoves := rfl
@[simp] theorem State.emit_domWaits (x : Out) : (s.emit x).domWaits = s.domWaits := rfl
@[simp] theorem State.emit_rising (x : Out) : (s.emit x).rising = s.rising := rfl
@[simp] theorem State.emit_gatePins (x : Out) : (s.emit x).gatePins = s.gatePins := rfl
@[simp] theorem State.emit_wakePins (x : Out) : (s.emit x).wakePins = s.wakePins := rfl
@[simp] theorem State.emit_timerEnd (x : Out) : (s.emit x).timerEnd = s.timerEnd := rfl
@[simp] theorem State.emit_dip (x : Out) : (s.emit x).dip = s.dip := rfl
@[simp] theorem State.emit_freezeEnd (x : Out) : (s.emit x).freezeEnd = s.freezeEnd := rfl
@[simp] theorem State.emit_pmem (x : Out) : (s.emit x).pmem = s.pmem := rfl
@[simp] theorem State.emit_chans (x : Out) : (s.emit x).chans = s.chans := rfl
@[simp] theorem State.emit_scBusy (x : Out) : (s.emit x).scBusy = s.scBusy := rfl
@[simp] theorem State.emit_uartRx (x : Out) : (s.emit x).uartRx = s.uartRx := rfl
@[simp] theorem State.emit_uartTx (x : Out) : (s.emit x).uartTx = s.uartTx := rfl
@[simp] theorem State.emit_uartAt (x : Out) : (s.emit x).uartAt = s.uartAt := rfl
@[simp] theorem State.emit_tap (x : Out) : (s.emit x).tap = s.tap := rfl
@[simp] theorem State.emit_boundary (x : Out) : (s.emit x).boundary = s.boundary := rfl
@[simp] theorem State.emit_borDue (x : Out) : (s.emit x).borDue = s.borDue := rfl
@[simp] theorem State.emit_spllBlocked (x : Out) : (s.emit x).spllBlocked = s.spllBlocked := rfl
@[simp] theorem State.emit_detLost (x : Out) : (s.emit x).detLost = s.detLost := rfl
@[simp] theorem State.emit_detBack (x : Out) : (s.emit x).detBack = s.detBack := rfl
@[simp] theorem State.emit_wentOff (x : Out) : (s.emit x).wentOff = s.wentOff := rfl

/-! ### A free value used -/

@[simp] theorem State.useFree_pending : (s.useFree).pending = s.pending := rfl
@[simp] theorem State.useFree_now : (s.useFree).now = s.now := rfl
@[simp] theorem State.useFree_tb : (s.useFree).tb = s.tb := rfl
@[simp] theorem State.useFree_reply : (s.useFree).reply = s.reply := rfl
@[simp] theorem State.useFree_out : (s.useFree).out = s.out := rfl
@[simp] theorem State.useFree_regs : (s.useFree).regs = s.regs := rfl
@[simp] theorem State.useFree_mode : (s.useFree).mode = s.mode := rfl
@[simp] theorem State.useFree_trans : (s.useFree).trans = s.trans := rfl
@[simp] theorem State.useFree_asked : (s.useFree).asked = s.asked := rfl
@[simp] theorem State.useFree_quietMute : (s.useFree).quietMute = s.quietMute := rfl
@[simp] theorem State.useFree_resumeAt : (s.useFree).resumeAt = s.resumeAt := rfl
@[simp] theorem State.useFree_glides : (s.useFree).glides = s.glides := rfl
@[simp] theorem State.useFree_fifos : (s.useFree).fifos = s.fifos := rfl
@[simp] theorem State.useFree_effects : (s.useFree).effects = s.effects := rfl
@[simp] theorem State.useFree_txCars : (s.useFree).txCars = s.txCars := rfl
@[simp] theorem State.useFree_rxCars : (s.useFree).rxCars = s.rxCars := rfl
@[simp] theorem State.useFree_txPaths : (s.useFree).txPaths = s.txPaths := rfl
@[simp] theorem State.useFree_rxCtls : (s.useFree).rxCtls = s.rxCtls := rfl
@[simp] theorem State.useFree_rxPaths : (s.useFree).rxPaths = s.rxPaths := rfl
@[simp] theorem State.useFree_txSyms : (s.useFree).txSyms = s.txSyms := rfl
@[simp] theorem State.useFree_stepPins : (s.useFree).stepPins = s.stepPins := rfl
@[simp] theorem State.useFree_caps : (s.useFree).caps = s.caps := rfl
@[simp] theorem State.useFree_capSram : (s.useFree).capSram = s.capSram := rfl
@[simp] theorem State.useFree_dram : (s.useFree).dram = s.dram := rfl
@[simp] theorem State.useFree_weights : (s.useFree).weights = s.weights := rfl
@[simp] theorem State.useFree_beamMap : (s.useFree).beamMap = s.beamMap := rfl
@[simp] theorem State.useFree_entries : (s.useFree).entries = s.entries := rfl
@[simp] theorem State.useFree_pagesSt : (s.useFree).pagesSt = s.pagesSt := rfl
@[simp] theorem State.useFree_tlBeams : (s.useFree).tlBeams = s.tlBeams := rfl
@[simp] theorem State.useFree_beamCmd : (s.useFree).beamCmd = s.beamCmd := rfl
@[simp] theorem State.useFree_secs : (s.useFree).secs = s.secs := rfl
@[simp] theorem State.useFree_lastCommits : (s.useFree).lastCommits = s.lastCommits := rfl
@[simp] theorem State.useFree_pipeFree : (s.useFree).pipeFree = s.pipeFree := rfl
@[simp] theorem State.useFree_layerData : (s.useFree).layerData = s.layerData := rfl
@[simp] theorem State.useFree_pathData : (s.useFree).pathData = s.pathData := rfl
@[simp] theorem State.useFree_pathMarks : (s.useFree).pathMarks = s.pathMarks := rfl
@[simp] theorem State.useFree_held : (s.useFree).held = s.held := rfl
@[simp] theorem State.useFree_symWrites : (s.useFree).symWrites = s.symWrites := rfl
@[simp] theorem State.useFree_symClear : (s.useFree).symClear = s.symClear := rfl
@[simp] theorem State.useFree_fhMsgs : (s.useFree).fhMsgs = s.fhMsgs := rfl
@[simp] theorem State.useFree_ctrlCmds : (s.useFree).ctrlCmds = s.ctrlCmds := rfl
@[simp] theorem State.useFree_ctrlLate : (s.useFree).ctrlLate = s.ctrlLate := rfl
@[simp] theorem State.useFree_ctrlRejected : (s.useFree).ctrlRejected = s.ctrlRejected := rfl
@[simp] theorem State.useFree_ctrlMine : (s.useFree).ctrlMine = s.ctrlMine := rfl
@[simp] theorem State.useFree_flows : (s.useFree).flows = s.flows := rfl
@[simp] theorem State.useFree_sfseqs : (s.useFree).sfseqs = s.sfseqs := rfl
@[simp] theorem State.useFree_resends : (s.useFree).resends = s.resends := rfl
@[simp] theorem State.useFree_jrnNext : (s.useFree).jrnNext = s.jrnNext := rfl
@[simp] theorem State.useFree_jrnHead : (s.useFree).jrnHead = s.jrnHead := rfl
@[simp] theorem State.useFree_jrnRecs : (s.useFree).jrnRecs = s.jrnRecs := rfl
@[simp] theorem State.useFree_ports : (s.useFree).ports = s.ports := rfl
@[simp] theorem State.useFree_lanes : (s.useFree).lanes = s.lanes := rfl
@[simp] theorem State.useFree_logQ : (s.useFree).logQ = s.logQ := rfl
@[simp] theorem State.useFree_loggedAts : (s.useFree).loggedAts = s.loggedAts := rfl
@[simp] theorem State.useFree_msiOn : (s.useFree).msiOn = s.msiOn := rfl
@[simp] theorem State.useFree_msiGranted : (s.useFree).msiGranted = s.msiGranted := rfl
@[simp] theorem State.useFree_msiPend : (s.useFree).msiPend = s.msiPend := rfl
@[simp] theorem State.useFree_thermShut : (s.useFree).thermShut = s.thermShut := rfl
@[simp] theorem State.useFree_quadsSt : (s.useFree).quadsSt = s.quadsSt := rfl
@[simp] theorem State.useFree_biases : (s.useFree).biases = s.biases := rfl
@[simp] theorem State.useFree_rffes : (s.useFree).rffes = s.rffes := rfl
@[simp] theorem State.useFree_dflies : (s.useFree).dflies = s.dflies := rfl
@[simp] theorem State.useFree_fwdPowers : (s.useFree).fwdPowers = s.fwdPowers := rfl
@[simp] theorem State.useFree_mmRuns : (s.useFree).mmRuns = s.mmRuns := rfl
@[simp] theorem State.useFree_dpdTbl : (s.useFree).dpdTbl = s.dpdTbl := rfl
@[simp] theorem State.useFree_dpdSels : (s.useFree).dpdSels = s.dpdSels := rfl
@[simp] theorem State.useFree_dpdSwapAts : (s.useFree).dpdSwapAts = s.dpdSwapAts := rfl
@[simp] theorem State.useFree_coefs : (s.useFree).coefs = s.coefs := rfl
@[simp] theorem State.useFree_jobs : (s.useFree).jobs = s.jobs := rfl
@[simp] theorem State.useFree_solver : (s.useFree).solver = s.solver := rfl
@[simp] theorem State.useFree_cals : (s.useFree).cals = s.cals := rfl
@[simp] theorem State.useFree_txRfs : (s.useFree).txRfs = s.txRfs := rfl
@[simp] theorem State.useFree_rxRfs : (s.useFree).rxRfs = s.rxRfs := rfl
@[simp] theorem State.useFree_origins : (s.useFree).origins = s.origins := rfl
@[simp] theorem State.useFree_dramLock : (s.useFree).dramLock = s.dramLock := rfl
@[simp] theorem State.useFree_dramPorts : (s.useFree).dramPorts = s.dramPorts := rfl
@[simp] theorem State.useFree_dramChs : (s.useFree).dramChs = s.dramChs := rfl
@[simp] theorem State.useFree_dramTurn : (s.useFree).dramTurn = s.dramTurn := rfl
@[simp] theorem State.useFree_dramSwept : (s.useFree).dramSwept = s.dramSwept := rfl
@[simp] theorem State.useFree_dramDueTold : (s.useFree).dramDueTold = s.dramDueTold := rfl
@[simp] theorem State.useFree_jrnOldest : (s.useFree).jrnOldest = s.jrnOldest := rfl
@[simp] theorem State.useFree_jrnOn : (s.useFree).jrnOn = s.jrnOn := rfl
@[simp] theorem State.useFree_capBusys : (s.useFree).capBusys = s.capBusys := rfl
@[simp] theorem State.useFree_adcCorrs : (s.useFree).adcCorrs = s.adcCorrs := rfl
@[simp] theorem State.useFree_adcAts : (s.useFree).adcAts = s.adcAts := rfl
@[simp] theorem State.useFree_coefCmd : (s.useFree).coefCmd = s.coefCmd := rfl
@[simp] theorem State.useFree_plls : (s.useFree).plls = s.plls := rfl
@[simp] theorem State.useFree_lpllForces : (s.useFree).lpllForces = s.lpllForces := rfl
@[simp] theorem State.useFree_refForces : (s.useFree).refForces = s.refForces := rfl
@[simp] theorem State.useFree_hpllArm : (s.useFree).hpllArm = s.hpllArm := rfl
@[simp] theorem State.useFree_lpllArms : (s.useFree).lpllArms = s.lpllArms := rfl
@[simp] theorem State.useFree_alignArms : (s.useFree).alignArms = s.alignArms := rfl
@[simp] theorem State.useFree_hubAlign : (s.useFree).hubAlign = s.hubAlign := rfl
@[simp] theorem State.useFree_aligning : (s.useFree).aligning = s.aligning := rfl
@[simp] theorem State.useFree_tas : (s.useFree).tas = s.tas := rfl
@[simp] theorem State.useFree_taHis : (s.useFree).taHis = s.taHis := rfl
@[simp] theorem State.useFree_txData : (s.useFree).txData = s.txData := rfl
@[simp] theorem State.useFree_eye : (s.useFree).eye = s.eye := rfl
@[simp] theorem State.useFree_burogs : (s.useFree).burogs = s.burogs := rfl
@[simp] theorem State.useFree_cuRuns : (s.useFree).cuRuns = s.cuRuns := rfl
@[simp] theorem State.useFree_cuLos : (s.useFree).cuLos = s.cuLos := rfl
@[simp] theorem State.useFree_integ : (s.useFree).integ = s.integ := rfl
@[simp] theorem State.useFree_goodRun : (s.useFree).goodRun = s.goodRun := rfl
@[simp] theorem State.useFree_badRun : (s.useFree).badRun = s.badRun := rfl
@[simp] theorem State.useFree_ownQual : (s.useFree).ownQual = s.ownQual := rfl
@[simp] theorem State.useFree_carried : (s.useFree).carried = s.carried := rfl
@[simp] theorem State.useFree_refMaster : (s.useFree).refMaster = s.refMaster := rfl
@[simp] theorem State.useFree_stepDone : (s.useFree).stepDone = s.stepDone := rfl
@[simp] theorem State.useFree_srcAt : (s.useFree).srcAt = s.srcAt := rfl
@[simp] theorem State.useFree_ppsTs : (s.useFree).ppsTs = s.ppsTs := rfl
@[simp] theorem State.useFree_tsyncTs : (s.useFree).tsyncTs = s.tsyncTs := rfl
@[simp] theorem State.useFree_keeper : (s.useFree).keeper = s.keeper := rfl
@[simp] theorem State.useFree_mgmtIn : (s.useFree).mgmtIn = s.mgmtIn := rfl
@[simp] theorem State.useFree_dlyRess : (s.useFree).dlyRess = s.dlyRess := rfl
@[simp] theorem State.useFree_autoQuiet : (s.useFree).autoQuiet = s.autoQuiet := rfl
@[simp] theorem State.useFree_startDue : (s.useFree).startDue = s.startDue := rfl
@[simp] theorem State.useFree_starting : (s.useFree).starting = s.starting := rfl
@[simp] theorem State.useFree_startFailed : (s.useFree).startFailed = s.startFailed := rfl
@[simp] theorem State.useFree_fellBack : (s.useFree).fellBack = s.fellBack := rfl
@[simp] theorem State.useFree_startCal : (s.useFree).startCal = s.startCal := rfl
@[simp] theorem State.useFree_standbyHeld : (s.useFree).standbyHeld = s.standbyHeld := rfl
@[simp] theorem State.useFree_porHigh : (s.useFree).porHigh = s.porHigh := rfl
@[simp] theorem State.useFree_railsIn : (s.useFree).railsIn = s.railsIn := rfl
@[simp] theorem State.useFree_restartAt : (s.useFree).restartAt = s.restartAt := rfl
@[simp] theorem State.useFree_lockstepDue : (s.useFree).lockstepDue = s.lockstepDue := rfl
@[simp] theorem State.useFree_strap : (s.useFree).strap = s.strap := rfl
@[simp] theorem State.useFree_pcieUp : (s.useFree).pcieUp = s.pcieUp := rfl
@[simp] theorem State.useFree_rilynQ : (s.useFree).rilynQ = s.rilynQ := rfl
@[simp] theorem State.useFree_mbxCmd : (s.useFree).mbxCmd = s.mbxCmd := rfl
@[simp] theorem State.useFree_rilynRun : (s.useFree).rilynRun = s.rilynRun := rfl
@[simp] theorem State.useFree_tookMbx : (s.useFree).tookMbx = s.tookMbx := rfl
@[simp] theorem State.useFree_mpDone : (s.useFree).mpDone = s.mpDone := rfl
@[simp] theorem State.useFree_relayIn : (s.useFree).relayIn = s.relayIn := rfl
@[simp] theorem State.useFree_bufWords : (s.useFree).bufWords = s.bufWords := rfl
@[simp] theorem State.useFree_flash : (s.useFree).flash = s.flash := rfl
@[simp] theorem State.useFree_record : (s.useFree).record = s.record := rfl
@[simp] theorem State.useFree_delaySet : (s.useFree).delaySet = s.delaySet := rfl
@[simp] theorem State.useFree_delayDue : (s.useFree).delayDue = s.delayDue := rfl
@[simp] theorem State.useFree_ranSlot : (s.useFree).ranSlot = s.ranSlot := rfl
@[simp] theorem State.useFree_slotA : (s.useFree).slotA = s.slotA := rfl
@[simp] theorem State.useFree_images : (s.useFree).images = s.images := rfl
@[simp] theorem State.useFree_update : (s.useFree).update = s.update := rfl
@[simp] theorem State.useFree_fuseLevel : (s.useFree).fuseLevel = s.fuseLevel := rfl
@[simp] theorem State.useFree_logPos : (s.useFree).logPos = s.logPos := rfl
@[simp] theorem State.useFree_qspi : (s.useFree).qspi = s.qspi := rfl
@[simp] theorem State.useFree_ptps : (s.useFree).ptps = s.ptps := rfl
@[simp] theorem State.useFree_ptpEvents : (s.useFree).ptpEvents = s.ptpEvents := rfl
@[simp] theorem State.useFree_hkTrims : (s.useFree).hkTrims = s.hkTrims := rfl
@[simp] theorem State.useFree_racing : (s.useFree).racing = s.racing := rfl
@[simp] theorem State.useFree_struck : (s.useFree).struck = s.struck := rfl
@[simp] theorem State.useFree_hkAccs : (s.useFree).hkAccs = s.hkAccs := rfl
@[simp] theorem State.useFree_hkAts : (s.useFree).hkAts = s.hkAts := rfl
@[simp] theorem State.useFree_diodes : (s.useFree).diodes = s.diodes := rfl
@[simp] theorem State.useFree_thrRuns : (s.useFree).thrRuns = s.thrRuns := rfl
@[simp] theorem State.useFree_xAmbig : (s.useFree).xAmbig = s.xAmbig := rfl
@[simp] theorem State.useFree_priorShut : (s.useFree).priorShut = s.priorShut := rfl
@[simp] theorem State.useFree_shut : (s.useFree).shut = s.shut := rfl
@[simp] theorem State.useFree_mons : (s.useFree).mons = s.mons := rfl
@[simp] theorem State.useFree_stresses : (s.useFree).stresses = s.stresses := rfl
@[simp] theorem State.useFree_stressSecs : (s.useFree).stressSecs = s.stressSecs := rfl
@[simp] theorem State.useFree_domMoves : (s.useFree).domMoves = s.domMoves := rfl
@[simp] theorem State.useFree_domWaits : (s.useFree).domWaits = s.domWaits := rfl
@[simp] theorem State.useFree_rising : (s.useFree).rising = s.rising := rfl
@[simp] theorem State.useFree_gatePins : (s.useFree).gatePins = s.gatePins := rfl
@[simp] theorem State.useFree_wakePins : (s.useFree).wakePins = s.wakePins := rfl
@[simp] theorem State.useFree_timerEnd : (s.useFree).timerEnd = s.timerEnd := rfl
@[simp] theorem State.useFree_dip : (s.useFree).dip = s.dip := rfl
@[simp] theorem State.useFree_freezeEnd : (s.useFree).freezeEnd = s.freezeEnd := rfl
@[simp] theorem State.useFree_pmem : (s.useFree).pmem = s.pmem := rfl
@[simp] theorem State.useFree_chans : (s.useFree).chans = s.chans := rfl
@[simp] theorem State.useFree_scBusy : (s.useFree).scBusy = s.scBusy := rfl
@[simp] theorem State.useFree_uartRx : (s.useFree).uartRx = s.uartRx := rfl
@[simp] theorem State.useFree_uartTx : (s.useFree).uartTx = s.uartTx := rfl
@[simp] theorem State.useFree_uartAt : (s.useFree).uartAt = s.uartAt := rfl
@[simp] theorem State.useFree_tap : (s.useFree).tap = s.tap := rfl
@[simp] theorem State.useFree_boundary : (s.useFree).boundary = s.boundary := rfl
@[simp] theorem State.useFree_borDue : (s.useFree).borDue = s.borDue := rfl
@[simp] theorem State.useFree_spllBlocked : (s.useFree).spllBlocked = s.spllBlocked := rfl
@[simp] theorem State.useFree_detLost : (s.useFree).detLost = s.detLost := rfl
@[simp] theorem State.useFree_detBack : (s.useFree).detBack = s.detBack := rfl
@[simp] theorem State.useFree_wentOff : (s.useFree).wentOff = s.wentOff := rfl

/-! ### Elements of the arrays: a read after a write -/

theorem State.glide_setGlide (k : Nat) (x : Glide) (j : Nat) : (s.setGlide k x).glide j = if j = k then x else s.glide j :=
  sget_sset _ _ _ _ _
theorem State.fifo_setFifo (k : Nat) (x : List Bundle) (j : Nat) : (s.setFifo k x).fifo j = if j = k then x else s.fifo j :=
  sget_sset _ _ _ _ _
theorem State.txCar_setTxCar (k : Nat) (x : Carrier) (j : Nat) : (s.setTxCar k x).txCar j = if j = k then x else s.txCar j :=
  sget_sset _ _ _ _ _
theorem State.rxCar_setRxCar (k : Nat) (x : Carrier) (j : Nat) : (s.setRxCar k x).rxCar j = if j = k then x else s.rxCar j :=
  sget_sset _ _ _ _ _
theorem State.txPath_setTxPath (k : Nat) (x : TxPath) (j : Nat) : (s.setTxPath k x).txPath j = if j = k then x else s.txPath j :=
  sget_sset _ _ _ _ _
theorem State.rxPath_setRxPath (k : Nat) (x : RxPath) (j : Nat) : (s.setRxPath k x).rxPath j = if j = k then x else s.rxPath j :=
  sget_sset _ _ _ _ _
theorem State.rxCtl_setRxCtl (k : Nat) (x : List (Nat × Word × Bool)) (j : Nat) : (s.setRxCtl k x).rxCtl j = if j = k then x else s.rxCtl j :=
  sget_sset _ _ _ _ _
theorem State.txSym_setTxSym (k : Nat) (x : TxSymbol) (j : Nat) : (s.setTxSym k x).txSym j = if j = k then x else s.txSym j :=
  sget_sset _ _ _ _ _
theorem State.stepPin_setStepPin (k : Nat) (x : StepPin) (j : Nat) : (s.setStepPin k x).stepPin j = if j = k then x else s.stepPin j :=
  sget_sset _ _ _ _ _
theorem State.adcCorr_setAdcCorr (k : Nat) (x : Option (List Int)) (j : Nat) : (s.setAdcCorr k x).adcCorr j = if j = k then x else s.adcCorr j :=
  sget_sset _ _ _ _ _
theorem State.adcAt_setAdcAt (k : Nat) (x : Nat) (j : Nat) : (s.setAdcAt k x).adcAt j = if j = k then x else s.adcAt j :=
  sget_sset _ _ _ _ _
theorem State.capBusy_setCapBusy (k : Nat) (x : Nat) (j : Nat) : (s.setCapBusy k x).capBusy j = if j = k then x else s.capBusy j :=
  sget_sset _ _ _ _ _
theorem State.cap_setCap (k : Nat) (x : Capture) (j : Nat) : (s.setCap k x).cap j = if j = k then x else s.cap j :=
  sget_sset _ _ _ _ _
theorem State.capByte_setCapByte (k : Nat) (x : Byte) (j : Nat) : (s.setCapByte k x).capByte j = if j = k then x else s.capByte j :=
  sget_sset _ _ _ _ _
theorem State.dramCell_setDramCell (k : Nat) (x : Option Byte) (j : Nat) : (s.setDramCell k x).dramCell j = if j = k then x else s.dramCell j :=
  sget_sset _ _ _ _ _
theorem State.weight_setWeight (k : Nat) (x : Word) (j : Nat) : (s.setWeight k x).weight j = if j = k then x else s.weight j :=
  sget_sset _ _ _ _ _
theorem State.beam_setBeam (k : Nat) (x : Option BeamSlot) (j : Nat) : (s.setBeam k x).beam j = if j = k then x else s.beam j :=
  sget_sset _ _ _ _ _
theorem State.entry_setEntry (k : Nat) (x : EntryState) (j : Nat) : (s.setEntry k x).entry j = if j = k then x else s.entry j :=
  sget_sset _ _ _ _ _
theorem State.page_setPage (k : Nat) (x : PageState) (j : Nat) : (s.setPage k x).page j = if j = k then x else s.page j :=
  sget_sset _ _ _ _ _
theorem State.tlBeam_setTlBeam (k : Nat) (x : BitVec 15) (j : Nat) : (s.setTlBeam k x).tlBeam j = if j = k then x else s.tlBeam j :=
  sget_sset _ _ _ _ _
theorem State.layerWord_setLayerWord (k : Nat) (x : Option Word) (j : Nat) : (s.setLayerWord k x).layerWord j = if j = k then x else s.layerWord j :=
  sget_sset _ _ _ _ _
theorem State.pathWord_setPathWord (k : Nat) (x : Option Word) (j : Nat) : (s.setPathWord k x).pathWord j = if j = k then x else s.pathWord j :=
  sget_sset _ _ _ _ _
theorem State.pathMark_setPathMark (k : Nat) (x : Option Bool) (j : Nat) : (s.setPathMark k x).pathMark j = if j = k then x else s.pathMark j :=
  sget_sset _ _ _ _ _
theorem State.flow_setFlow (k : Nat) (x : Option Flow) (j : Nat) : (s.setFlow k x).flow j = if j = k then x else s.flow j :=
  sget_sset _ _ _ _ _
theorem State.sfseq_setSfseq (k : Nat) (x : Nat) (j : Nat) : (s.setSfseq k x).sfseq j = if j = k then x else s.sfseq j :=
  sget_sset _ _ _ _ _
theorem State.port_setPort (k : Nat) (x : Port) (j : Nat) : (s.setPort k x).port j = if j = k then x else s.port j :=
  sget_sset _ _ _ _ _
theorem State.lane_setLane (k : Nat) (x : Lane) (j : Nat) : (s.setLane k x).lane j = if j = k then x else s.lane j :=
  sget_sset _ _ _ _ _
theorem State.loggedAt_setLoggedAt (k : Nat) (x : Option (Nat × Nat)) (j : Nat) : (s.setLoggedAt k x).loggedAt j = if j = k then x else s.loggedAt j :=
  sget_sset _ _ _ _ _
theorem State.quad_setQuad (k : Nat) (x : Quad) (j : Nat) : (s.setQuad k x).quad j = if j = k then x else s.quad j :=
  sget_sset _ _ _ _ _
theorem State.bias_setBias (k : Nat) (x : Bias) (j : Nat) : (s.setBias k x).bias j = if j = k then x else s.bias j :=
  sget_sset _ _ _ _ _
theorem State.rffe_setRffe (k : Nat) (x : Rffe) (j : Nat) : (s.setRffe k x).rffe j = if j = k then x else s.rffe j :=
  sget_sset _ _ _ _ _
theorem State.dfly_setDfly (k : Nat) (x : Dfly) (j : Nat) : (s.setDfly k x).dfly j = if j = k then x else s.dfly j :=
  sget_sset _ _ _ _ _
theorem State.fwdPower_setFwdPower (k : Nat) (x : Option FwdPower) (j : Nat) : (s.setFwdPower k x).fwdPower j = if j = k then x else s.fwdPower j :=
  sget_sset _ _ _ _ _
theorem State.mmRun_setMmRun (k : Nat) (x : Nat) (j : Nat) : (s.setMmRun k x).mmRun j = if j = k then x else s.mmRun j :=
  sget_sset _ _ _ _ _
theorem State.dpdEntry_setDpdEntry (k : Nat) (x : Word) (j : Nat) : (s.setDpdEntry k x).dpdEntry j = if j = k then x else s.dpdEntry j :=
  sget_sset _ _ _ _ _
theorem State.dpdSel_setDpdSel (k : Nat) (x : Bool) (j : Nat) : (s.setDpdSel k x).dpdSel j = if j = k then x else s.dpdSel j :=
  sget_sset _ _ _ _ _
theorem State.dpdSwapAt_setDpdSwapAt (k : Nat) (x : Nat) (j : Nat) : (s.setDpdSwapAt k x).dpdSwapAt j = if j = k then x else s.dpdSwapAt j :=
  sget_sset _ _ _ _ _
theorem State.coef_setCoef (k : Nat) (x : Word) (j : Nat) : (s.setCoef k x).coef j = if j = k then x else s.coef j :=
  sget_sset _ _ _ _ _
theorem State.cal_setCal (k : Nat) (x : Cal) (j : Nat) : (s.setCal k x).cal j = if j = k then x else s.cal j :=
  sget_sset _ _ _ _ _
theorem State.txRf_setTxRf (k : Nat) (x : BitVec 48) (j : Nat) : (s.setTxRf k x).txRf j = if j = k then x else s.txRf j :=
  sget_sset _ _ _ _ _
theorem State.rxRf_setRxRf (k : Nat) (x : BitVec 48) (j : Nat) : (s.setRxRf k x).rxRf j = if j = k then x else s.rxRf j :=
  sget_sset _ _ _ _ _
theorem State.origin_setOrigin (k : Nat) (x : Int) (j : Nat) : (s.setOrigin k x).origin j = if j = k then x else s.origin j :=
  sget_sset _ _ _ _ _
theorem State.dramPort_setDramPort (k : Nat) (x : DramPort) (j : Nat) : (s.setDramPort k x).dramPort j = if j = k then x else s.dramPort j :=
  sget_sset _ _ _ _ _
theorem State.dramCh_setDramCh (k : Nat) (x : DramCh) (j : Nat) : (s.setDramCh k x).dramCh j = if j = k then x else s.dramCh j :=
  sget_sset _ _ _ _ _
theorem State.pll_setPll (k : Nat) (x : Pll) (j : Nat) : (s.setPll k x).pll j = if j = k then x else s.pll j :=
  sget_sset _ _ _ _ _
theorem State.lpllForce_setLpllForce (k : Nat) (x : BitVec 32) (j : Nat) : (s.setLpllForce k x).lpllForce j = if j = k then x else s.lpllForce j :=
  sget_sset _ _ _ _ _
theorem State.refForce_setRefForce (k : Nat) (x : Word) (j : Nat) : (s.setRefForce k x).refForce j = if j = k then x else s.refForce j :=
  sget_sset _ _ _ _ _
theorem State.lpllArm_setLpllArm (k : Nat) (x : Option (Nat × Nat)) (j : Nat) : (s.setLpllArm k x).lpllArm j = if j = k then x else s.lpllArm j :=
  sget_sset _ _ _ _ _
theorem State.alignArm_setAlignArm (k : Nat) (x : Option Align) (j : Nat) : (s.setAlignArm k x).alignArm j = if j = k then x else s.alignArm j :=
  sget_sset _ _ _ _ _
theorem State.aligningTo_setAligningTo (k : Nat) (x : Option Nat) (j : Nat) : (s.setAligningTo k x).aligningTo j = if j = k then x else s.aligningTo j :=
  sget_sset _ _ _ _ _
theorem State.ta_setTa (k : Nat) (x : BitVec 64) (j : Nat) : (s.setTa k x).ta j = if j = k then x else s.ta j :=
  sget_sset _ _ _ _ _
theorem State.taHi_setTaHi (k : Nat) (x : Word) (j : Nat) : (s.setTaHi k x).taHi j = if j = k then x else s.taHi j :=
  sget_sset _ _ _ _ _
theorem State.txWord_setTxWord (k : Nat) (x : Option Word) (j : Nat) : (s.setTxWord k x).txWord j = if j = k then x else s.txWord j :=
  sget_sset _ _ _ _ _
theorem State.burog_setBurog (k : Nat) (x : BPort) (j : Nat) : (s.setBurog k x).burog j = if j = k then x else s.burog j :=
  sget_sset _ _ _ _ _
theorem State.cuRun_setCuRun (k : Nat) (x : BitVec 64) (j : Nat) : (s.setCuRun k x).cuRun j = if j = k then x else s.cuRun j :=
  sget_sset _ _ _ _ _
theorem State.cuLo_setCuLo (k : Nat) (x : Word) (j : Nat) : (s.setCuLo k x).cuLo j = if j = k then x else s.cuLo j :=
  sget_sset _ _ _ _ _
theorem State.dlyRes_setDlyRes (k : Nat) (x : DlyRes) (j : Nat) : (s.setDlyRes k x).dlyRes j = if j = k then x else s.dlyRes j :=
  sget_sset _ _ _ _ _
theorem State.bufWord_setBufWord (k : Nat) (x : Word) (j : Nat) : (s.setBufWord k x).bufWord j = if j = k then x else s.bufWord j :=
  sget_sset _ _ _ _ _
theorem State.flashByte_setFlashByte (k : Nat) (x : Byte) (j : Nat) : (s.setFlashByte k x).flashByte j = if j = k then x else s.flashByte j :=
  sget_sset _ _ _ _ _
theorem State.image_setImage (k : Nat) (x : Option Image) (j : Nat) : (s.setImage k x).image j = if j = k then x else s.image j :=
  sget_sset _ _ _ _ _
theorem State.ptp_setPtp (k : Nat) (x : Word) (j : Nat) : (s.setPtp k x).ptp j = if j = k then x else s.ptp j :=
  sget_sset _ _ _ _ _
theorem State.hkAcc_setHkAcc (k : Nat) (x : Nat × Int) (j : Nat) : (s.setHkAcc k x).hkAcc j = if j = k then x else s.hkAcc j :=
  sget_sset _ _ _ _ _
theorem State.hkAt_setHkAt (k : Nat) (x : Nat) (j : Nat) : (s.setHkAt k x).hkAt j = if j = k then x else s.hkAt j :=
  sget_sset _ _ _ _ _
theorem State.diode_setDiode (k : Nat) (x : Diode) (j : Nat) : (s.setDiode k x).diode j = if j = k then x else s.diode j :=
  sget_sset _ _ _ _ _
theorem State.thrRun_setThrRun (k : Nat) (x : Nat) (j : Nat) : (s.setThrRun k x).thrRun j = if j = k then x else s.thrRun j :=
  sget_sset _ _ _ _ _
theorem State.mon_setMon (k : Nat) (x : Word) (j : Nat) : (s.setMon k x).mon j = if j = k then x else s.mon j :=
  sget_sset _ _ _ _ _
theorem State.stress_setStress (k : Nat) (x : List (Nat × Nat)) (j : Nat) : (s.setStress k x).stress j = if j = k then x else s.stress j :=
  sget_sset _ _ _ _ _
theorem State.domMove_setDomMove (k : Nat) (x : Option DomMove) (j : Nat) : (s.setDomMove k x).domMove j = if j = k then x else s.domMove j :=
  sget_sset _ _ _ _ _
theorem State.domWait_setDomWait (k : Nat) (x : Option Nat) (j : Nat) : (s.setDomWait k x).domWait j = if j = k then x else s.domWait j :=
  sget_sset _ _ _ _ _
theorem State.pmemWord_setPmemWord (k : Nat) (x : BitVec 64) (j : Nat) : (s.setPmemWord k x).pmemWord j = if j = k then x else s.pmemWord j :=
  sget_sset _ _ _ _ _
theorem State.scChan_setScChan (k : Nat) (x : Chan) (j : Nat) : (s.setScChan k x).scChan j = if j = k then x else s.scChan j :=
  sget_sset _ _ _ _ _

/-- A register after a write. -/
theorem State.reg_setReg (a : Nat) (w : Word) (b : Nat) : (s.setReg a w).reg b = if b = a then w else s.reg b := sget_sset _ _ _ _ _

end Sys2Proof.Machine
end

