-- ==== Sys2Proof/Laws/Ops.lean ====
section
/-!
SUPPORT. What the shared operations can do, said once: fields of registers, events, counters, access errors, and the judging of MSI vectors
with which every command ends.
-/
namespace Sys2Proof.Machine

variable (s : State)

/-! ### Registers and their fields -/

theorem State.setFld_eq (a : Nat) (f : Fld) (v : Nat) : s.setFld a f v = s.setReg a (putF (s.reg a) f v) := rfl
theorem State.setBit_eq (a : Nat) (f : Fld) (b : Bool) : s.setBit a f b = s.setReg a (putF (s.reg a) f (b2n b)) := rfl

theorem State.reg_setReg_same (a : Nat) (w : Word) : (s.setReg a w).reg a = w := by simp [State.reg_setReg]
theorem State.reg_setReg_ne {a b : Nat} (w : Word) (h : b ≠ a) : (s.setReg a w).reg b = s.reg b := by simp [State.reg_setReg, h]

/-- A field written, modulo its width. -/
theorem State.fld_setFld (a : Nat) (f : Fld) (v : Nat) (h : f.lo + f.width ≤ 32) : (s.setFld a f v).fld a f = v % 2 ^ f.width := by
  simp [State.fld, State.setFld_eq, State.reg_setReg_same, getF_putF _ _ _ h]

/-- A field of another register, and another field of the same one. -/
theorem State.fld_setFld_ne {a b : Nat} (f g : Fld) (v : Nat) (h : b ≠ a) : (s.setFld a f v).fld b g = s.fld b g := by
  simp [State.fld, State.setFld_eq, State.reg_setReg, h]
theorem State.fld_setFld_apart (a : Nat) (f g : Fld) (v : Nat) (h : f.lo + f.width ≤ g.lo ∨ g.lo + g.width ≤ f.lo) (hg : g.lo + g.width ≤ 32) :
    (s.setFld a f v).fld a g = s.fld a g := by
  simp [State.fld, State.setFld_eq, State.reg_setReg_same, getF_putF_ne _ _ _ _ h hg]

/-- A one-bit field written. -/
theorem State.bit_setBit (a : Nat) (f : Fld) (b : Bool) (h : f.lo + f.width ≤ 32) (hw : f.width = 1) : (s.setBit a f b).bit a f = b := by
  have := s.fld_setFld a f (b2n b) h
  unfold State.bit bitF
  unfold State.fld at this
  rw [State.setBit, this, hw]
  cases b <;> simp [b2n]

/-! ### Events (R467, R64, R440) -/

theorem State.each_nil {α : Type} (f : State → α → State) : s.each [] f = s := rfl
theorem State.each_cons {α : Type} (x : α) (l : List α) (f : State → α → State) : s.each (x :: l) f = (f s x).each l f := rfl

/-- A property that each step of a list keeps is kept by the whole. -/
theorem State.each_keeps {α : Type} {P : State → Prop} {f : State → α → State} (h : ∀ s x, P s → P (f s x)) (l : List α) :
    ∀ {s : State}, P s → P (s.each l f) := by
  induction l with
  | nil => intro s hs; exact hs
  | cons x l ih => intro s hs; rw [State.each_cons]; exact ih (h s x hs)

/-- The states an event can make of a state: registers, Glide flags and the log change, nothing else. -/
def State.EventOf (s t : State) : Prop := ∃ r g q l, t = { s with regs := r, glides := g, logQ := q, loggedAts := l }

theorem State.EventOf.refl : s.EventOf s := ⟨s.regs, s.glides, s.logQ, s.loggedAts, rfl⟩
theorem State.EventOf.trans {s t u : State} (h : s.EventOf t) (h' : t.EventOf u) : s.EventOf u := by
  obtain ⟨r, g, q, l, rfl⟩ := h
  obtain ⟨r', g', q', l', rfl⟩ := h'
  exact ⟨r', g', q', l', rfl⟩

theorem State.setReg_event (a : Nat) (w : Word) : s.EventOf (s.setReg a w) := ⟨_, s.glides, s.logQ, s.loggedAts, rfl⟩
theorem State.setFld_event (a : Nat) (f : Fld) (v : Nat) : s.EventOf (s.setFld a f v) := s.setReg_event _ _

theorem State.setStored_event (src : Nat) (b : Bool) : s.EventOf (s.setStored src b) := s.setFld_event _ _ _

theorem State.flagGlides_event (src : Nat) : s.EventOf (s.flagGlides src) :=
  State.each_keeps (P := fun t => s.EventOf t) (fun t _ h => h.trans ⟨t.regs, _, t.logQ, t.loggedAts, rfl⟩) _ (State.EventOf.refl s)

theorem State.raiseQuiet_event (src : Nat) : s.EventOf (s.raiseQuiet src) := by
  unfold State.raiseQuiet
  split
  · exact s.setStored_event _ _
  · exact (s.setStored_event _ _).trans (State.flagGlides_event _ _)

theorem State.bumpWith_event {alarm : State → State} (h : ∀ t : State, t.EventOf (alarm t)) (cnt : Nat) (f : Fld) (fr fb n : Nat) :
    s.EventOf (s.bumpWith alarm cnt f fr fb n) := by
  unfold State.bumpWith
  simp only
  split
  · exact ((s.setFld_event _ _ _).trans (State.setFld_event _ _ _ _)).trans (h _)
  · exact s.setFld_event _ _ _

theorem State.pushLog_event (r : LogRec) : s.EventOf (s.pushLog r) := by
  unfold State.pushLog
  split
  · exact ⟨s.regs, s.glides, _, s.loggedAts, rfl⟩
  · exact s.bumpWith_event (fun t => State.raiseQuiet_event t _) _ _ _ _ _

theorem State.setLoggedAt_event (k : Nat) (x : Option (Nat × Nat)) : s.EventOf (s.setLoggedAt k x) := ⟨s.regs, s.glides, s.logQ, _, rfl⟩

theorem State.logEvent_event (src : Nat) : s.EventOf (s.logEvent src) := by
  unfold State.logEvent
  split
  · split
    · split
      · exact s.setLoggedAt_event _ _
      · exact (s.setLoggedAt_event _ _).trans (State.pushLog_event _ _)
    · exact (s.setLoggedAt_event _ _).trans (State.pushLog_event _ _)
  · exact State.EventOf.refl s

/-- What raising an event can change. -/
theorem State.raise_event (src : Nat) : s.EventOf (s.raise src) := by
  unfold State.raise
  split
  · refine State.EventOf.trans ?_ (State.logEvent_event _ src)
    split
    · exact State.EventOf.refl s
    · split
      · exact s.setStored_event _ _
      · exact (s.setStored_event _ _).trans (State.flagGlides_event _ _)
  · exact State.EventOf.refl s

/-- What a counter that goes up can change. -/
theorem State.bump_event (cnt fr fb n : Nat) : s.EventOf (s.bump cnt fr fb n) := s.bumpWith_event (fun t => State.raise_event t _) _ _ _ _ _

/-- What an access error can change (R8 to R10, R29). -/
theorem State.accessError_event : s.EventOf s.accessError := s.raise_event _

/-! ### Status bits (R467) -/

theorem hive_status_inj {i j : Nat} (h : Reg.HIVE_STATUS i = Reg.HIVE_STATUS j) : i = j := by
  simp only [Reg.HIVE_STATUS] at h
  omega

/-- A status bit after a status bit was set or cleared. -/
theorem State.stored_setStored (a j : Nat) (b : Bool) : (s.setStored a b).stored j = if j = a then b else s.stored j := by
  unfold State.setStored State.stored
  by_cases hr : j / 32 = a / 32
  · rw [hr]
    simp only [State.setFld_eq, State.reg_setReg_same]
    have hlt : j % 32 < 32 := Nat.mod_lt _ (by decide)
    have hlt' : a % 32 < 32 := Nat.mod_lt _ (by decide)
    unfold putF maskF
    by_cases hj : j = a
    · subst hj
      simp only [BitVec.getLsbD_or, BitVec.getLsbD_and, BitVec.getLsbD_not, BitVec.getLsbD_ofNat, hlt, decide_true, Bool.true_and, if_true]
      cases b <;> simp [b2n]
    · have hne : j % 32 ≠ a % 32 := by omega
      have h1 : Nat.testBit ((2 ^ 1 - 1) * 2 ^ (a % 32)) (j % 32) = false := by
        rw [Nat.testBit_mul_two_pow]
        rcases Nat.lt_or_ge (j % 32) (a % 32) with h | h
        · simp; omega
        · have : ∃ m, j % 32 - a % 32 = m + 1 := ⟨j % 32 - a % 32 - 1, by omega⟩
          obtain ⟨m, hm⟩ := this
          simp [hm, Nat.testBit_succ]
      have h2 : Nat.testBit (b2n b % 2 ^ 1 * 2 ^ (a % 32)) (j % 32) = false := by
        rw [Nat.testBit_mul_two_pow]
        rcases Nat.lt_or_ge (j % 32) (a % 32) with h | h
        · simp; omega
        · have : ∃ m, j % 32 - a % 32 = m + 1 := ⟨j % 32 - a % 32 - 1, by omega⟩
          obtain ⟨m, hm⟩ := this
          rw [hm]
          cases b <;> simp [b2n, Nat.testBit_succ]
      simp only [BitVec.getLsbD_or, BitVec.getLsbD_and, BitVec.getLsbD_not, BitVec.getLsbD_ofNat, hlt, decide_true, Bool.true_and, h1, h2,
        Bool.not_false, Bool.and_true, Bool.or_false, if_neg hj]
  · have hne : Reg.HIVE_STATUS (j / 32) ≠ Reg.HIVE_STATUS (a / 32) := fun h => hr (hive_status_inj h)
    have hj : j ≠ a := fun h => hr (by rw [h])
    simp only [State.setFld_eq, State.reg_setReg, if_neg hne, if_neg hj]

/-- A write of a register that holds no status bits leaves them. -/
theorem State.stored_setReg (a : Nat) (w : Word) (j : Nat) (h : a ≠ Reg.HIVE_STATUS (j / 32)) : (s.setReg a w).stored j = s.stored j := by
  simp [State.stored, State.reg_setReg, Ne.symm h]

theorem State.stored_flagGlides (src j : Nat) : (s.flagGlides src).stored j = s.stored j := by
  refine State.each_keeps (P := fun t => t.stored j = s.stored j) (fun t _ h => ?_) _ rfl
  exact h

theorem State.stored_raiseQuiet (src j : Nat) (h : s.stored j = true) : (s.raiseQuiet src).stored j = true := by
  unfold State.raiseQuiet
  split <;> simp only [State.stored_flagGlides, State.stored_setStored] <;> split <;> simp_all

theorem State.stored_pushLog (r : LogRec) (j : Nat) (hj : j < 256) (h : s.stored j = true) : (s.pushLog r).stored j = true := by
  unfold State.pushLog
  split
  · exact h
  · unfold State.bumpWith
    have e : Reg.RILYN_LOG_DROP ≠ Reg.HIVE_STATUS (j / 32) := by simp only [Reg.RILYN_LOG_DROP, Reg.HIVE_STATUS]; omega
    have e' : Reg.RILYN_CNT_FLAGS ≠ Reg.HIVE_STATUS (j / 32) := by simp only [Reg.RILYN_CNT_FLAGS, Reg.HIVE_STATUS]; omega
    simp only
    split
    · apply State.stored_raiseQuiet
      simpa [State.setFld_eq, State.stored_setReg, e, e'] using h
    · simpa [State.setFld_eq, State.stored_setReg, e] using h

theorem State.stored_logEvent (src j : Nat) (hj : j < 256) (h : s.stored j = true) : (s.logEvent src).stored j = true := by
  unfold State.logEvent
  split
  · split
    · split
      · exact h
      · exact State.stored_pushLog _ _ _ hj h
    · exact State.stored_pushLog _ _ _ hj h
  · exact h

/-- An event that may assert and follows no condition sets its status bit. -/
theorem State.stored_raise (src : Nat) (ha : s.mayAssert src = true) (hf : s.follows src = false) : (s.raise src).stored src = true := by
  unfold State.raise
  rw [if_pos ha]
  have hj : src < 256 := by
    unfold State.mayAssert at ha
    split at ha
    · omega
    · simp only [Bool.and_eq_true, decide_eq_true_eq] at ha
      exact ha.1
  apply State.stored_logEvent _ _ _ hj
  simp only [hf, Bool.false_eq_true, if_false]
  split <;> simp [State.stored_flagGlides, State.stored_setStored]

/-- An access error sets its status bit. -/
theorem State.stored_accessError : s.accessError.stored Ev.REG_ACCESS_ERROR = true :=
  s.stored_raise _ (by simp [State.mayAssert, Ev.REG_ACCESS_ERROR])
    (by simp [State.follows, hasLevel, hubLevelSources, Ev.REG_ACCESS_ERROR])

/-- A source with a status bit set keeps it when another event comes. -/
theorem State.stored_raise_keep (src j : Nat) (hj : j < 256) (h : s.stored j = true) : (s.raise src).stored j = true := by
  unfold State.raise
  split
  · apply State.stored_logEvent _ _ _ hj
    split
    · exact h
    · split <;> simp only [State.stored_flagGlides, State.stored_setStored] <;> split <;> simp_all
  · exact h

/-! ### The judging of MSI vectors (R469) -/

theorem State.sendMsi_eq (v : Nat) : ∃ o, s.sendMsi v = { s with out := o } := by
  unfold State.sendMsi
  split
  · exact ⟨_, rfl⟩
  · exact ⟨s.out, rfl⟩

/-- What judging changes: the record of what was sent, and the vectors as last judged. -/
theorem State.settle_eq : ∃ o, s.settle = { s with out := o, msiPend := s.pendingVectors } := by
  have h : ∀ l : List Nat, ∃ o, s.each l State.sendMsi = { s with out := o } := fun l =>
    State.each_keeps (P := fun t => ∃ o, t = { s with out := o }) (fun t x ⟨o, ho⟩ => by
      subst ho
      obtain ⟨o', h'⟩ := State.sendMsi_eq { s with out := o } x
      exact ⟨o', by rw [h']⟩) l ⟨s.out, rfl⟩
  obtain ⟨o, ho⟩ := h (onesOf 32 (s.pendingVectors &&& ~~~ s.msiPend).toNat)
  refine ⟨o, ?_⟩
  unfold State.settle
  simp only [ho]

/-- Judging changes no vector. -/
theorem State.pendingVectors_settle : s.settle.pendingVectors = s.pendingVectors := by
  obtain ⟨o, h⟩ := s.settle_eq
  rw [h]
  rfl

theorem State.msiPend_settle : s.settle.msiPend = s.pendingVectors := by
  obtain ⟨o, h⟩ := s.settle_eq
  rw [h]

theorem State.reg_settle (a : Nat) : s.settle.reg a = s.reg a := by
  obtain ⟨o, h⟩ := s.settle_eq
  rw [h]
  rfl

theorem State.fld_settle (a : Nat) (f : Fld) : s.settle.fld a f = s.fld a f := by simp [State.fld, State.reg_settle]
theorem State.bit_settle (a : Nat) (f : Fld) : s.settle.bit a f = s.bit a f := by simp [State.bit, State.reg_settle]
theorem State.stored_settle (j : Nat) : s.settle.stored j = s.stored j := by simp [State.stored, State.reg_settle]

end Sys2Proof.Machine
end

