-- ==== Sys2Proof/Laws/Settle.lean ====
section
/-!
SUPPORT. The state's fields when a command has been judged, and when an event has been raised: those that stay.
-/
namespace Sys2Proof.Machine

variable (s : State)

@[simp] theorem State.settle_pending : s.settle.pending = s.pending := by obtain ⟨o, h⟩ := s.settle_eq; rw [h]
@[simp] theorem State.settle_now : s.settle.now = s.now := by obtain ⟨o, h⟩ := s.settle_eq; rw [h]
@[simp] theorem State.settle_tb : s.settle.tb = s.tb := by obtain ⟨o, h⟩ := s.settle_eq; rw [h]
@[simp] theorem State.settle_free : s.settle.free = s.free := by obtain ⟨o, h⟩ := s.settle_eq; rw [h]
@[simp] theorem State.settle_reply : s.settle.reply = s.reply := by obtain ⟨o, h⟩ := s.settle_eq; rw [h]
@[simp] theorem State.settle_regs : s.settle.regs = s.regs := by obtain ⟨o, h⟩ := s.settle_eq; rw [h]
@[simp] theorem State.settle_mode : s.settle.mode = s.mode := by obtain ⟨o, h⟩ := s.settle_eq; rw [h]
@[simp] theorem State.settle_trans : s.settle.trans = s.trans := by obtain ⟨o, h⟩ := s.settle_eq; rw [h]
@[simp] theorem State.settle_asked : s.settle.asked = s.asked := by obtain ⟨o, h⟩ := s.settle_eq; rw [h]
@[simp] theorem State.settle_quietMute : s.settle.quietMute = s.quietMute := by obtain ⟨o, h⟩ := s.settle_eq; rw [h]
@[simp] theorem State.settle_resumeAt : s.settle.resumeAt = s.resumeAt := by obtain ⟨o, h⟩ := s.settle_eq; rw [h]
@[simp] theorem State.settle_glides : s.settle.glides = s.glides := by obtain ⟨o, h⟩ := s.settle_eq; rw [h]
@[simp] theorem State.settle_fifos : s.settle.fifos = s.fifos := by obtain ⟨o, h⟩ := s.settle_eq; rw [h]
@[simp] theorem State.settle_effects : s.settle.effects = s.effects := by obtain ⟨o, h⟩ := s.settle_eq; rw [h]
@[simp] theorem State.settle_txCars : s.settle.txCars = s.txCars := by obtain ⟨o, h⟩ := s.settle_eq; rw [h]
@[simp] theorem State.settle_rxCars : s.settle.rxCars = s.rxCars := by obtain ⟨o, h⟩ := s.settle_eq; rw [h]
@[simp] theorem State.settle_txPaths : s.settle.txPaths = s.txPaths := by obtain ⟨o, h⟩ := s.settle_eq; rw [h]
@[simp] theorem State.settle_rxCtls : s.settle.rxCtls = s.rxCtls := by obtain ⟨o, h⟩ := s.settle_eq; rw [h]
@[simp] theorem State.settle_rxPaths : s.settle.rxPaths = s.rxPaths := by obtain ⟨o, h⟩ := s.settle_eq; rw [h]
@[simp] theorem State.settle_txSyms : s.settle.txSyms = s.txSyms := by obtain ⟨o, h⟩ := s.settle_eq; rw [h]
@[simp] theorem State.settle_stepPins : s.settle.stepPins = s.stepPins := by obtain ⟨o, h⟩ := s.settle_eq; rw [h]
@[simp] theorem State.settle_caps : s.settle.caps = s.caps := by obtain ⟨o, h⟩ := s.settle_eq; rw [h]
@[simp] theorem State.settle_capSram : s.settle.capSram = s.capSram := by obtain ⟨o, h⟩ := s.settle_eq; rw [h]
@[simp] theorem State.settle_dram : s.settle.dram = s.dram := by obtain ⟨o, h⟩ := s.settle_eq; rw [h]
@[simp] theorem State.settle_weights : s.settle.weights = s.weights := by obtain ⟨o, h⟩ := s.settle_eq; rw [h]
@[simp] theorem State.settle_beamMap : s.settle.beamMap = s.beamMap := by obtain ⟨o, h⟩ := s.settle_eq; rw [h]
@[simp] theorem State.settle_entries : s.settle.entries = s.entries := by obtain ⟨o, h⟩ := s.settle_eq; rw [h]
@[simp] theorem State.settle_pagesSt : s.settle.pagesSt = s.pagesSt := by obtain ⟨o, h⟩ := s.settle_eq; rw [h]
@[simp] theorem State.settle_tlBeams : s.settle.tlBeams = s.tlBeams := by obtain ⟨o, h⟩ := s.settle_eq; rw [h]
@[simp] theorem State.settle_beamCmd : s.settle.beamCmd = s.beamCmd := by obtain ⟨o, h⟩ := s.settle_eq; rw [h]
@[simp] theorem State.settle_secs : s.settle.secs = s.secs := by obtain ⟨o, h⟩ := s.settle_eq; rw [h]
@[simp] theorem State.settle_lastCommits : s.settle.lastCommits = s.lastCommits := by obtain ⟨o, h⟩ := s.settle_eq; rw [h]
@[simp] theorem State.settle_pipeFree : s.settle.pipeFree = s.pipeFree := by obtain ⟨o, h⟩ := s.settle_eq; rw [h]
@[simp] theorem State.settle_layerData : s.settle.layerData = s.layerData := by obtain ⟨o, h⟩ := s.settle_eq; rw [h]
@[simp] theorem State.settle_pathData : s.settle.pathData = s.pathData := by obtain ⟨o, h⟩ := s.settle_eq; rw [h]
@[simp] theorem State.settle_pathMarks : s.settle.pathMarks = s.pathMarks := by obtain ⟨o, h⟩ := s.settle_eq; rw [h]
@[simp] theorem State.settle_held : s.settle.held = s.held := by obtain ⟨o, h⟩ := s.settle_eq; rw [h]
@[simp] theorem State.settle_symWrites : s.settle.symWrites = s.symWrites := by obtain ⟨o, h⟩ := s.settle_eq; rw [h]
@[simp] theorem State.settle_symClear : s.settle.symClear = s.symClear := by obtain ⟨o, h⟩ := s.settle_eq; rw [h]
@[simp] theorem State.settle_fhMsgs : s.settle.fhMsgs = s.fhMsgs := by obtain ⟨o, h⟩ := s.settle_eq; rw [h]
@[simp] theorem State.settle_ctrlCmds : s.settle.ctrlCmds = s.ctrlCmds := by obtain ⟨o, h⟩ := s.settle_eq; rw [h]
@[simp] theorem State.settle_ctrlLate : s.settle.ctrlLate = s.ctrlLate := by obtain ⟨o, h⟩ := s.settle_eq; rw [h]
@[simp] theorem State.settle_ctrlRejected : s.settle.ctrlRejected = s.ctrlRejected := by obtain ⟨o, h⟩ := s.settle_eq; rw [h]
@[simp] theorem State.settle_ctrlMine : s.settle.ctrlMine = s.ctrlMine := by obtain ⟨o, h⟩ := s.settle_eq; rw [h]
@[simp] theorem State.settle_flows : s.settle.flows = s.flows := by obtain ⟨o, h⟩ := s.settle_eq; rw [h]
@[simp] theorem State.settle_sfseqs : s.settle.sfseqs = s.sfseqs := by obtain ⟨o, h⟩ := s.settle_eq; rw [h]
@[simp] theorem State.settle_resends : s.settle.resends = s.resends := by obtain ⟨o, h⟩ := s.settle_eq; rw [h]
@[simp] theorem State.settle_jrnNext : s.settle.jrnNext = s.jrnNext := by obtain ⟨o, h⟩ := s.settle_eq; rw [h]
@[simp] theorem State.settle_jrnHead : s.settle.jrnHead = s.jrnHead := by obtain ⟨o, h⟩ := s.settle_eq; rw [h]
@[simp] theorem State.settle_jrnRecs : s.settle.jrnRecs = s.jrnRecs := by obtain ⟨o, h⟩ := s.settle_eq; rw [h]
@[simp] theorem State.settle_ports : s.settle.ports = s.ports := by obtain ⟨o, h⟩ := s.settle_eq; rw [h]
@[simp] theorem State.settle_lanes : s.settle.lanes = s.lanes := by obtain ⟨o, h⟩ := s.settle_eq; rw [h]
@[simp] theorem State.settle_logQ : s.settle.logQ = s.logQ := by obtain ⟨o, h⟩ := s.settle_eq; rw [h]
@[simp] theorem State.settle_loggedAts : s.settle.loggedAts = s.loggedAts := by obtain ⟨o, h⟩ := s.settle_eq; rw [h]
@[simp] theorem State.settle_msiOn : s.settle.msiOn = s.msiOn := by obtain ⟨o, h⟩ := s.settle_eq; rw [h]
@[simp] theorem State.settle_msiGranted : s.settle.msiGranted = s.msiGranted := by obtain ⟨o, h⟩ := s.settle_eq; rw [h]
@[simp] theorem State.settle_thermShut : s.settle.thermShut = s.thermShut := by obtain ⟨o, h⟩ := s.settle_eq; rw [h]
@[simp] theorem State.settle_quadsSt : s.settle.quadsSt = s.quadsSt := by obtain ⟨o, h⟩ := s.settle_eq; rw [h]
@[simp] theorem State.settle_biases : s.settle.biases = s.biases := by obtain ⟨o, h⟩ := s.settle_eq; rw [h]
@[simp] theorem State.settle_rffes : s.settle.rffes = s.rffes := by obtain ⟨o, h⟩ := s.settle_eq; rw [h]
@[simp] theorem State.settle_dflies : s.settle.dflies = s.dflies := by obtain ⟨o, h⟩ := s.settle_eq; rw [h]
@[simp] theorem State.settle_fwdPowers : s.settle.fwdPowers = s.fwdPowers := by obtain ⟨o, h⟩ := s.settle_eq; rw [h]
@[simp] theorem State.settle_mmRuns : s.settle.mmRuns = s.mmRuns := by obtain ⟨o, h⟩ := s.settle_eq; rw [h]
@[simp] theorem State.settle_dpdTbl : s.settle.dpdTbl = s.dpdTbl := by obtain ⟨o, h⟩ := s.settle_eq; rw [h]
@[simp] theorem State.settle_dpdSels : s.settle.dpdSels = s.dpdSels := by obtain ⟨o, h⟩ := s.settle_eq; rw [h]
@[simp] theorem State.settle_dpdSwapAts : s.settle.dpdSwapAts = s.dpdSwapAts := by obtain ⟨o, h⟩ := s.settle_eq; rw [h]
@[simp] theorem State.settle_coefs : s.settle.coefs = s.coefs := by obtain ⟨o, h⟩ := s.settle_eq; rw [h]
@[simp] theorem State.settle_jobs : s.settle.jobs = s.jobs := by obtain ⟨o, h⟩ := s.settle_eq; rw [h]
@[simp] theorem State.settle_solver : s.settle.solver = s.solver := by obtain ⟨o, h⟩ := s.settle_eq; rw [h]
@[simp] theorem State.settle_cals : s.settle.cals = s.cals := by obtain ⟨o, h⟩ := s.settle_eq; rw [h]
@[simp] theorem State.settle_txRfs : s.settle.txRfs = s.txRfs := by obtain ⟨o, h⟩ := s.settle_eq; rw [h]
@[simp] theorem State.settle_rxRfs : s.settle.rxRfs = s.rxRfs := by obtain ⟨o, h⟩ := s.settle_eq; rw [h]
@[simp] theorem State.settle_origins : s.settle.origins = s.origins := by obtain ⟨o, h⟩ := s.settle_eq; rw [h]
@[simp] theorem State.settle_dramLock : s.settle.dramLock = s.dramLock := by obtain ⟨o, h⟩ := s.settle_eq; rw [h]
@[simp] theorem State.settle_dramPorts : s.settle.dramPorts = s.dramPorts := by obtain ⟨o, h⟩ := s.settle_eq; rw [h]
@[simp] theorem State.settle_dramChs : s.settle.dramChs = s.dramChs := by obtain ⟨o, h⟩ := s.settle_eq; rw [h]
@[simp] theorem State.settle_dramTurn : s.settle.dramTurn = s.dramTurn := by obtain ⟨o, h⟩ := s.settle_eq; rw [h]
@[simp] theorem State.settle_dramSwept : s.settle.dramSwept = s.dramSwept := by obtain ⟨o, h⟩ := s.settle_eq; rw [h]
@[simp] theorem State.settle_dramDueTold : s.settle.dramDueTold = s.dramDueTold := by obtain ⟨o, h⟩ := s.settle_eq; rw [h]
@[simp] theorem State.settle_jrnOldest : s.settle.jrnOldest = s.jrnOldest := by obtain ⟨o, h⟩ := s.settle_eq; rw [h]
@[simp] theorem State.settle_jrnOn : s.settle.jrnOn = s.jrnOn := by obtain ⟨o, h⟩ := s.settle_eq; rw [h]
@[simp] theorem State.settle_capBusys : s.settle.capBusys = s.capBusys := by obtain ⟨o, h⟩ := s.settle_eq; rw [h]
@[simp] theorem State.settle_adcCorrs : s.settle.adcCorrs = s.adcCorrs := by obtain ⟨o, h⟩ := s.settle_eq; rw [h]
@[simp] theorem State.settle_adcAts : s.settle.adcAts = s.adcAts := by obtain ⟨o, h⟩ := s.settle_eq; rw [h]
@[simp] theorem State.settle_coefCmd : s.settle.coefCmd = s.coefCmd := by obtain ⟨o, h⟩ := s.settle_eq; rw [h]
@[simp] theorem State.settle_plls : s.settle.plls = s.plls := by obtain ⟨o, h⟩ := s.settle_eq; rw [h]
@[simp] theorem State.settle_lpllForces : s.settle.lpllForces = s.lpllForces := by obtain ⟨o, h⟩ := s.settle_eq; rw [h]
@[simp] theorem State.settle_refForces : s.settle.refForces = s.refForces := by obtain ⟨o, h⟩ := s.settle_eq; rw [h]
@[simp] theorem State.settle_hpllArm : s.settle.hpllArm = s.hpllArm := by obtain ⟨o, h⟩ := s.settle_eq; rw [h]
@[simp] theorem State.settle_lpllArms : s.settle.lpllArms = s.lpllArms := by obtain ⟨o, h⟩ := s.settle_eq; rw [h]
@[simp] theorem State.settle_alignArms : s.settle.alignArms = s.alignArms := by obtain ⟨o, h⟩ := s.settle_eq; rw [h]
@[simp] theorem State.settle_hubAlign : s.settle.hubAlign = s.hubAlign := by obtain ⟨o, h⟩ := s.settle_eq; rw [h]
@[simp] theorem State.settle_aligning : s.settle.aligning = s.aligning := by obtain ⟨o, h⟩ := s.settle_eq; rw [h]
@[simp] theorem State.settle_tas : s.settle.tas = s.tas := by obtain ⟨o, h⟩ := s.settle_eq; rw [h]
@[simp] theorem State.settle_taHis : s.settle.taHis = s.taHis := by obtain ⟨o, h⟩ := s.settle_eq; rw [h]
@[simp] theorem State.settle_txData : s.settle.txData = s.txData := by obtain ⟨o, h⟩ := s.settle_eq; rw [h]
@[simp] theorem State.settle_eye : s.settle.eye = s.eye := by obtain ⟨o, h⟩ := s.settle_eq; rw [h]
@[simp] theorem State.settle_burogs : s.settle.burogs = s.burogs := by obtain ⟨o, h⟩ := s.settle_eq; rw [h]
@[simp] theorem State.settle_cuRuns : s.settle.cuRuns = s.cuRuns := by obtain ⟨o, h⟩ := s.settle_eq; rw [h]
@[simp] theorem State.settle_cuLos : s.settle.cuLos = s.cuLos := by obtain ⟨o, h⟩ := s.settle_eq; rw [h]
@[simp] theorem State.settle_integ : s.settle.integ = s.integ := by obtain ⟨o, h⟩ := s.settle_eq; rw [h]
@[simp] theorem State.settle_goodRun : s.settle.goodRun = s.goodRun := by obtain ⟨o, h⟩ := s.settle_eq; rw [h]
@[simp] theorem State.settle_badRun : s.settle.badRun = s.badRun := by obtain ⟨o, h⟩ := s.settle_eq; rw [h]
@[simp] theorem State.settle_ownQual : s.settle.ownQual = s.ownQual := by obtain ⟨o, h⟩ := s.settle_eq; rw [h]
@[simp] theorem State.settle_carried : s.settle.carried = s.carried := by obtain ⟨o, h⟩ := s.settle_eq; rw [h]
@[simp] theorem State.settle_refMaster : s.settle.refMaster = s.refMaster := by obtain ⟨o, h⟩ := s.settle_eq; rw [h]
@[simp] theorem State.settle_stepDone : s.settle.stepDone = s.stepDone := by obtain ⟨o, h⟩ := s.settle_eq; rw [h]
@[simp] theorem State.settle_srcAt : s.settle.srcAt = s.srcAt := by obtain ⟨o, h⟩ := s.settle_eq; rw [h]
@[simp] theorem State.settle_ppsTs : s.settle.ppsTs = s.ppsTs := by obtain ⟨o, h⟩ := s.settle_eq; rw [h]
@[simp] theorem State.settle_tsyncTs : s.settle.tsyncTs = s.tsyncTs := by obtain ⟨o, h⟩ := s.settle_eq; rw [h]
@[simp] theorem State.settle_keeper : s.settle.keeper = s.keeper := by obtain ⟨o, h⟩ := s.settle_eq; rw [h]
@[simp] theorem State.settle_mgmtIn : s.settle.mgmtIn = s.mgmtIn := by obtain ⟨o, h⟩ := s.settle_eq; rw [h]
@[simp] theorem State.settle_dlyRess : s.settle.dlyRess = s.dlyRess := by obtain ⟨o, h⟩ := s.settle_eq; rw [h]
@[simp] theorem State.settle_autoQuiet : s.settle.autoQuiet = s.autoQuiet := by obtain ⟨o, h⟩ := s.settle_eq; rw [h]
@[simp] theorem State.settle_startDue : s.settle.startDue = s.startDue := by obtain ⟨o, h⟩ := s.settle_eq; rw [h]
@[simp] theorem State.settle_starting : s.settle.starting = s.starting := by obtain ⟨o, h⟩ := s.settle_eq; rw [h]
@[simp] theorem State.settle_startFailed : s.settle.startFailed = s.startFailed := by obtain ⟨o, h⟩ := s.settle_eq; rw [h]
@[simp] theorem State.settle_fellBack : s.settle.fellBack = s.fellBack := by obtain ⟨o, h⟩ := s.settle_eq; rw [h]
@[simp] theorem State.settle_startCal : s.settle.startCal = s.startCal := by obtain ⟨o, h⟩ := s.settle_eq; rw [h]
@[simp] theorem State.settle_standbyHeld : s.settle.standbyHeld = s.standbyHeld := by obtain ⟨o, h⟩ := s.settle_eq; rw [h]
@[simp] theorem State.settle_porHigh : s.settle.porHigh = s.porHigh := by obtain ⟨o, h⟩ := s.settle_eq; rw [h]
@[simp] theorem State.settle_railsIn : s.settle.railsIn = s.railsIn := by obtain ⟨o, h⟩ := s.settle_eq; rw [h]
@[simp] theorem State.settle_restartAt : s.settle.restartAt = s.restartAt := by obtain ⟨o, h⟩ := s.settle_eq; rw [h]
@[simp] theorem State.settle_lockstepDue : s.settle.lockstepDue = s.lockstepDue := by obtain ⟨o, h⟩ := s.settle_eq; rw [h]
@[simp] theorem State.settle_strap : s.settle.strap = s.strap := by obtain ⟨o, h⟩ := s.settle_eq; rw [h]
@[simp] theorem State.settle_pcieUp : s.settle.pcieUp = s.pcieUp := by obtain ⟨o, h⟩ := s.settle_eq; rw [h]
@[simp] theorem State.settle_rilynQ : s.settle.rilynQ = s.rilynQ := by obtain ⟨o, h⟩ := s.settle_eq; rw [h]
@[simp] theorem State.settle_mbxCmd : s.settle.mbxCmd = s.mbxCmd := by obtain ⟨o, h⟩ := s.settle_eq; rw [h]
@[simp] theorem State.settle_rilynRun : s.settle.rilynRun = s.rilynRun := by obtain ⟨o, h⟩ := s.settle_eq; rw [h]
@[simp] theorem State.settle_tookMbx : s.settle.tookMbx = s.tookMbx := by obtain ⟨o, h⟩ := s.settle_eq; rw [h]
@[simp] theorem State.settle_mpDone : s.settle.mpDone = s.mpDone := by obtain ⟨o, h⟩ := s.settle_eq; rw [h]
@[simp] theorem State.settle_relayIn : s.settle.relayIn = s.relayIn := by obtain ⟨o, h⟩ := s.settle_eq; rw [h]
@[simp] theorem State.settle_bufWords : s.settle.bufWords = s.bufWords := by obtain ⟨o, h⟩ := s.settle_eq; rw [h]
@[simp] theorem State.settle_flash : s.settle.flash = s.flash := by obtain ⟨o, h⟩ := s.settle_eq; rw [h]
@[simp] theorem State.settle_record : s.settle.record = s.record := by obtain ⟨o, h⟩ := s.settle_eq; rw [h]
@[simp] theorem State.settle_delaySet : s.settle.delaySet = s.delaySet := by obtain ⟨o, h⟩ := s.settle_eq; rw [h]
@[simp] theorem State.settle_delayDue : s.settle.delayDue = s.delayDue := by obtain ⟨o, h⟩ := s.settle_eq; rw [h]
@[simp] theorem State.settle_ranSlot : s.settle.ranSlot = s.ranSlot := by obtain ⟨o, h⟩ := s.settle_eq; rw [h]
@[simp] theorem State.settle_slotA : s.settle.slotA = s.slotA := by obtain ⟨o, h⟩ := s.settle_eq; rw [h]
@[simp] theorem State.settle_images : s.settle.images = s.images := by obtain ⟨o, h⟩ := s.settle_eq; rw [h]
@[simp] theorem State.settle_update : s.settle.update = s.update := by obtain ⟨o, h⟩ := s.settle_eq; rw [h]
@[simp] theorem State.settle_fuseLevel : s.settle.fuseLevel = s.fuseLevel := by obtain ⟨o, h⟩ := s.settle_eq; rw [h]
@[simp] theorem State.settle_logPos : s.settle.logPos = s.logPos := by obtain ⟨o, h⟩ := s.settle_eq; rw [h]
@[simp] theorem State.settle_qspi : s.settle.qspi = s.qspi := by obtain ⟨o, h⟩ := s.settle_eq; rw [h]
@[simp] theorem State.settle_ptps : s.settle.ptps = s.ptps := by obtain ⟨o, h⟩ := s.settle_eq; rw [h]
@[simp] theorem State.settle_ptpEvents : s.settle.ptpEvents = s.ptpEvents := by obtain ⟨o, h⟩ := s.settle_eq; rw [h]
@[simp] theorem State.settle_hkTrims : s.settle.hkTrims = s.hkTrims := by obtain ⟨o, h⟩ := s.settle_eq; rw [h]
@[simp] theorem State.settle_racing : s.settle.racing = s.racing := by obtain ⟨o, h⟩ := s.settle_eq; rw [h]
@[simp] theorem State.settle_struck : s.settle.struck = s.struck := by obtain ⟨o, h⟩ := s.settle_eq; rw [h]
@[simp] theorem State.settle_hkAccs : s.settle.hkAccs = s.hkAccs := by obtain ⟨o, h⟩ := s.settle_eq; rw [h]
@[simp] theorem State.settle_hkAts : s.settle.hkAts = s.hkAts := by obtain ⟨o, h⟩ := s.settle_eq; rw [h]
@[simp] theorem State.settle_diodes : s.settle.diodes = s.diodes := by obtain ⟨o, h⟩ := s.settle_eq; rw [h]
@[simp] theorem State.settle_thrRuns : s.settle.thrRuns = s.thrRuns := by obtain ⟨o, h⟩ := s.settle_eq; rw [h]
@[simp] theorem State.settle_xAmbig : s.settle.xAmbig = s.xAmbig := by obtain ⟨o, h⟩ := s.settle_eq; rw [h]
@[simp] theorem State.settle_priorShut : s.settle.priorShut = s.priorShut := by obtain ⟨o, h⟩ := s.settle_eq; rw [h]
@[simp] theorem State.settle_shut : s.settle.shut = s.shut := by obtain ⟨o, h⟩ := s.settle_eq; rw [h]
@[simp] theorem State.settle_mons : s.settle.mons = s.mons := by obtain ⟨o, h⟩ := s.settle_eq; rw [h]
@[simp] theorem State.settle_stresses : s.settle.stresses = s.stresses := by obtain ⟨o, h⟩ := s.settle_eq; rw [h]
@[simp] theorem State.settle_stressSecs : s.settle.stressSecs = s.stressSecs := by obtain ⟨o, h⟩ := s.settle_eq; rw [h]
@[simp] theorem State.settle_domMoves : s.settle.domMoves = s.domMoves := by obtain ⟨o, h⟩ := s.settle_eq; rw [h]
@[simp] theorem State.settle_domWaits : s.settle.domWaits = s.domWaits := by obtain ⟨o, h⟩ := s.settle_eq; rw [h]
@[simp] theorem State.settle_rising : s.settle.rising = s.rising := by obtain ⟨o, h⟩ := s.settle_eq; rw [h]
@[simp] theorem State.settle_gatePins : s.settle.gatePins = s.gatePins := by obtain ⟨o, h⟩ := s.settle_eq; rw [h]
@[simp] theorem State.settle_wakePins : s.settle.wakePins = s.wakePins := by obtain ⟨o, h⟩ := s.settle_eq; rw [h]
@[simp] theorem State.settle_timerEnd : s.settle.timerEnd = s.timerEnd := by obtain ⟨o, h⟩ := s.settle_eq; rw [h]
@[simp] theorem State.settle_dip : s.settle.dip = s.dip := by obtain ⟨o, h⟩ := s.settle_eq; rw [h]
@[simp] theorem State.settle_freezeEnd : s.settle.freezeEnd = s.freezeEnd := by obtain ⟨o, h⟩ := s.settle_eq; rw [h]
@[simp] theorem State.settle_pmem : s.settle.pmem = s.pmem := by obtain ⟨o, h⟩ := s.settle_eq; rw [h]
@[simp] theorem State.settle_chans : s.settle.chans = s.chans := by obtain ⟨o, h⟩ := s.settle_eq; rw [h]
@[simp] theorem State.settle_scBusy : s.settle.scBusy = s.scBusy := by obtain ⟨o, h⟩ := s.settle_eq; rw [h]
@[simp] theorem State.settle_uartRx : s.settle.uartRx = s.uartRx := by obtain ⟨o, h⟩ := s.settle_eq; rw [h]
@[simp] theorem State.settle_uartTx : s.settle.uartTx = s.uartTx := by obtain ⟨o, h⟩ := s.settle_eq; rw [h]
@[simp] theorem State.settle_uartAt : s.settle.uartAt = s.uartAt := by obtain ⟨o, h⟩ := s.settle_eq; rw [h]
@[simp] theorem State.settle_tap : s.settle.tap = s.tap := by obtain ⟨o, h⟩ := s.settle_eq; rw [h]
@[simp] theorem State.settle_boundary : s.settle.boundary = s.boundary := by obtain ⟨o, h⟩ := s.settle_eq; rw [h]
@[simp] theorem State.settle_borDue : s.settle.borDue = s.borDue := by obtain ⟨o, h⟩ := s.settle_eq; rw [h]
@[simp] theorem State.settle_spllBlocked : s.settle.spllBlocked = s.spllBlocked := by obtain ⟨o, h⟩ := s.settle_eq; rw [h]
@[simp] theorem State.settle_detLost : s.settle.detLost = s.detLost := by obtain ⟨o, h⟩ := s.settle_eq; rw [h]
@[simp] theorem State.settle_detBack : s.settle.detBack = s.detBack := by obtain ⟨o, h⟩ := s.settle_eq; rw [h]
@[simp] theorem State.settle_wentOff : s.settle.wentOff = s.wentOff := by obtain ⟨o, h⟩ := s.settle_eq; rw [h]

@[simp] theorem State.raise_pending (e : Nat) : (s.raise e).pending = s.pending := by obtain ⟨r, g, q, l, h⟩ := s.raise_event e; rw [h]
@[simp] theorem State.raise_now (e : Nat) : (s.raise e).now = s.now := by obtain ⟨r, g, q, l, h⟩ := s.raise_event e; rw [h]
@[simp] theorem State.raise_tb (e : Nat) : (s.raise e).tb = s.tb := by obtain ⟨r, g, q, l, h⟩ := s.raise_event e; rw [h]
@[simp] theorem State.raise_free (e : Nat) : (s.raise e).free = s.free := by obtain ⟨r, g, q, l, h⟩ := s.raise_event e; rw [h]
@[simp] theorem State.raise_reply (e : Nat) : (s.raise e).reply = s.reply := by obtain ⟨r, g, q, l, h⟩ := s.raise_event e; rw [h]
@[simp] theorem State.raise_out (e : Nat) : (s.raise e).out = s.out := by obtain ⟨r, g, q, l, h⟩ := s.raise_event e; rw [h]
@[simp] theorem State.raise_mode (e : Nat) : (s.raise e).mode = s.mode := by obtain ⟨r, g, q, l, h⟩ := s.raise_event e; rw [h]
@[simp] theorem State.raise_trans (e : Nat) : (s.raise e).trans = s.trans := by obtain ⟨r, g, q, l, h⟩ := s.raise_event e; rw [h]
@[simp] theorem State.raise_asked (e : Nat) : (s.raise e).asked = s.asked := by obtain ⟨r, g, q, l, h⟩ := s.raise_event e; rw [h]
@[simp] theorem State.raise_quietMute (e : Nat) : (s.raise e).quietMute = s.quietMute := by obtain ⟨r, g, q, l, h⟩ := s.raise_event e; rw [h]
@[simp] theorem State.raise_resumeAt (e : Nat) : (s.raise e).resumeAt = s.resumeAt := by obtain ⟨r, g, q, l, h⟩ := s.raise_event e; rw [h]
@[simp] theorem State.raise_fifos (e : Nat) : (s.raise e).fifos = s.fifos := by obtain ⟨r, g, q, l, h⟩ := s.raise_event e; rw [h]
@[simp] theorem State.raise_effects (e : Nat) : (s.raise e).effects = s.effects := by obtain ⟨r, g, q, l, h⟩ := s.raise_event e; rw [h]
@[simp] theorem State.raise_txCars (e : Nat) : (s.raise e).txCars = s.txCars := by obtain ⟨r, g, q, l, h⟩ := s.raise_event e; rw [h]
@[simp] theorem State.raise_rxCars (e : Nat) : (s.raise e).rxCars = s.rxCars := by obtain ⟨r, g, q, l, h⟩ := s.raise_event e; rw [h]
@[simp] theorem State.raise_txPaths (e : Nat) : (s.raise e).txPaths = s.txPaths := by obtain ⟨r, g, q, l, h⟩ := s.raise_event e; rw [h]
@[simp] theorem State.raise_rxCtls (e : Nat) : (s.raise e).rxCtls = s.rxCtls := by obtain ⟨r, g, q, l, h⟩ := s.raise_event e; rw [h]
@[simp] theorem State.raise_rxPaths (e : Nat) : (s.raise e).rxPaths = s.rxPaths := by obtain ⟨r, g, q, l, h⟩ := s.raise_event e; rw [h]
@[simp] theorem State.raise_txSyms (e : Nat) : (s.raise e).txSyms = s.txSyms := by obtain ⟨r, g, q, l, h⟩ := s.raise_event e; rw [h]
@[simp] theorem State.raise_stepPins (e : Nat) : (s.raise e).stepPins = s.stepPins := by obtain ⟨r, g, q, l, h⟩ := s.raise_event e; rw [h]
@[simp] theorem State.raise_caps (e : Nat) : (s.raise e).caps = s.caps := by obtain ⟨r, g, q, l, h⟩ := s.raise_event e; rw [h]
@[simp] theorem State.raise_capSram (e : Nat) : (s.raise e).capSram = s.capSram := by obtain ⟨r, g, q, l, h⟩ := s.raise_event e; rw [h]
@[simp] theorem State.raise_dram (e : Nat) : (s.raise e).dram = s.dram := by obtain ⟨r, g, q, l, h⟩ := s.raise_event e; rw [h]
@[simp] theorem State.raise_weights (e : Nat) : (s.raise e).weights = s.weights := by obtain ⟨r, g, q, l, h⟩ := s.raise_event e; rw [h]
@[simp] theorem State.raise_beamMap (e : Nat) : (s.raise e).beamMap = s.beamMap := by obtain ⟨r, g, q, l, h⟩ := s.raise_event e; rw [h]
@[simp] theorem State.raise_entries (e : Nat) : (s.raise e).entries = s.entries := by obtain ⟨r, g, q, l, h⟩ := s.raise_event e; rw [h]
@[simp] theorem State.raise_pagesSt (e : Nat) : (s.raise e).pagesSt = s.pagesSt := by obtain ⟨r, g, q, l, h⟩ := s.raise_event e; rw [h]
@[simp] theorem State.raise_tlBeams (e : Nat) : (s.raise e).tlBeams = s.tlBeams := by obtain ⟨r, g, q, l, h⟩ := s.raise_event e; rw [h]
@[simp] theorem State.raise_beamCmd (e : Nat) : (s.raise e).beamCmd = s.beamCmd := by obtain ⟨r, g, q, l, h⟩ := s.raise_event e; rw [h]
@[simp] theorem State.raise_secs (e : Nat) : (s.raise e).secs = s.secs := by obtain ⟨r, g, q, l, h⟩ := s.raise_event e; rw [h]
@[simp] theorem State.raise_lastCommits (e : Nat) : (s.raise e).lastCommits = s.lastCommits := by obtain ⟨r, g, q, l, h⟩ := s.raise_event e; rw [h]
@[simp] theorem State.raise_pipeFree (e : Nat) : (s.raise e).pipeFree = s.pipeFree := by obtain ⟨r, g, q, l, h⟩ := s.raise_event e; rw [h]
@[simp] theorem State.raise_layerData (e : Nat) : (s.raise e).layerData = s.layerData := by obtain ⟨r, g, q, l, h⟩ := s.raise_event e; rw [h]
@[simp] theorem State.raise_pathData (e : Nat) : (s.raise e).pathData = s.pathData := by obtain ⟨r, g, q, l, h⟩ := s.raise_event e; rw [h]
@[simp] theorem State.raise_pathMarks (e : Nat) : (s.raise e).pathMarks = s.pathMarks := by obtain ⟨r, g, q, l, h⟩ := s.raise_event e; rw [h]
@[simp] theorem State.raise_held (e : Nat) : (s.raise e).held = s.held := by obtain ⟨r, g, q, l, h⟩ := s.raise_event e; rw [h]
@[simp] theorem State.raise_symWrites (e : Nat) : (s.raise e).symWrites = s.symWrites := by obtain ⟨r, g, q, l, h⟩ := s.raise_event e; rw [h]
@[simp] theorem State.raise_symClear (e : Nat) : (s.raise e).symClear = s.symClear := by obtain ⟨r, g, q, l, h⟩ := s.raise_event e; rw [h]
@[simp] theorem State.raise_fhMsgs (e : Nat) : (s.raise e).fhMsgs = s.fhMsgs := by obtain ⟨r, g, q, l, h⟩ := s.raise_event e; rw [h]
@[simp] theorem State.raise_ctrlCmds (e : Nat) : (s.raise e).ctrlCmds = s.ctrlCmds := by obtain ⟨r, g, q, l, h⟩ := s.raise_event e; rw [h]
@[simp] theorem State.raise_ctrlLate (e : Nat) : (s.raise e).ctrlLate = s.ctrlLate := by obtain ⟨r, g, q, l, h⟩ := s.raise_event e; rw [h]
@[simp] theorem State.raise_ctrlRejected (e : Nat) : (s.raise e).ctrlRejected = s.ctrlRejected := by obtain ⟨r, g, q, l, h⟩ := s.raise_event e; rw [h]
@[simp] theorem State.raise_ctrlMine (e : Nat) : (s.raise e).ctrlMine = s.ctrlMine := by obtain ⟨r, g, q, l, h⟩ := s.raise_event e; rw [h]
@[simp] theorem State.raise_flows (e : Nat) : (s.raise e).flows = s.flows := by obtain ⟨r, g, q, l, h⟩ := s.raise_event e; rw [h]
@[simp] theorem State.raise_sfseqs (e : Nat) : (s.raise e).sfseqs = s.sfseqs := by obtain ⟨r, g, q, l, h⟩ := s.raise_event e; rw [h]
@[simp] theorem State.raise_resends (e : Nat) : (s.raise e).resends = s.resends := by obtain ⟨r, g, q, l, h⟩ := s.raise_event e; rw [h]
@[simp] theorem State.raise_jrnNext (e : Nat) : (s.raise e).jrnNext = s.jrnNext := by obtain ⟨r, g, q, l, h⟩ := s.raise_event e; rw [h]
@[simp] theorem State.raise_jrnHead (e : Nat) : (s.raise e).jrnHead = s.jrnHead := by obtain ⟨r, g, q, l, h⟩ := s.raise_event e; rw [h]
@[simp] theorem State.raise_jrnRecs (e : Nat) : (s.raise e).jrnRecs = s.jrnRecs := by obtain ⟨r, g, q, l, h⟩ := s.raise_event e; rw [h]
@[simp] theorem State.raise_ports (e : Nat) : (s.raise e).ports = s.ports := by obtain ⟨r, g, q, l, h⟩ := s.raise_event e; rw [h]
@[simp] theorem State.raise_lanes (e : Nat) : (s.raise e).lanes = s.lanes := by obtain ⟨r, g, q, l, h⟩ := s.raise_event e; rw [h]
@[simp] theorem State.raise_msiOn (e : Nat) : (s.raise e).msiOn = s.msiOn := by obtain ⟨r, g, q, l, h⟩ := s.raise_event e; rw [h]
@[simp] theorem State.raise_msiGranted (e : Nat) : (s.raise e).msiGranted = s.msiGranted := by obtain ⟨r, g, q, l, h⟩ := s.raise_event e; rw [h]
@[simp] theorem State.raise_msiPend (e : Nat) : (s.raise e).msiPend = s.msiPend := by obtain ⟨r, g, q, l, h⟩ := s.raise_event e; rw [h]
@[simp] theorem State.raise_thermShut (e : Nat) : (s.raise e).thermShut = s.thermShut := by obtain ⟨r, g, q, l, h⟩ := s.raise_event e; rw [h]
@[simp] theorem State.raise_quadsSt (e : Nat) : (s.raise e).quadsSt = s.quadsSt := by obtain ⟨r, g, q, l, h⟩ := s.raise_event e; rw [h]
@[simp] theorem State.raise_biases (e : Nat) : (s.raise e).biases = s.biases := by obtain ⟨r, g, q, l, h⟩ := s.raise_event e; rw [h]
@[simp] theorem State.raise_rffes (e : Nat) : (s.raise e).rffes = s.rffes := by obtain ⟨r, g, q, l, h⟩ := s.raise_event e; rw [h]
@[simp] theorem State.raise_dflies (e : Nat) : (s.raise e).dflies = s.dflies := by obtain ⟨r, g, q, l, h⟩ := s.raise_event e; rw [h]
@[simp] theorem State.raise_fwdPowers (e : Nat) : (s.raise e).fwdPowers = s.fwdPowers := by obtain ⟨r, g, q, l, h⟩ := s.raise_event e; rw [h]
@[simp] theorem State.raise_mmRuns (e : Nat) : (s.raise e).mmRuns = s.mmRuns := by obtain ⟨r, g, q, l, h⟩ := s.raise_event e; rw [h]
@[simp] theorem State.raise_dpdTbl (e : Nat) : (s.raise e).dpdTbl = s.dpdTbl := by obtain ⟨r, g, q, l, h⟩ := s.raise_event e; rw [h]
@[simp] theorem State.raise_dpdSels (e : Nat) : (s.raise e).dpdSels = s.dpdSels := by obtain ⟨r, g, q, l, h⟩ := s.raise_event e; rw [h]
@[simp] theorem State.raise_dpdSwapAts (e : Nat) : (s.raise e).dpdSwapAts = s.dpdSwapAts := by obtain ⟨r, g, q, l, h⟩ := s.raise_event e; rw [h]
@[simp] theorem State.raise_coefs (e : Nat) : (s.raise e).coefs = s.coefs := by obtain ⟨r, g, q, l, h⟩ := s.raise_event e; rw [h]
@[simp] theorem State.raise_jobs (e : Nat) : (s.raise e).jobs = s.jobs := by obtain ⟨r, g, q, l, h⟩ := s.raise_event e; rw [h]
@[simp] theorem State.raise_solver (e : Nat) : (s.raise e).solver = s.solver := by obtain ⟨r, g, q, l, h⟩ := s.raise_event e; rw [h]
@[simp] theorem State.raise_cals (e : Nat) : (s.raise e).cals = s.cals := by obtain ⟨r, g, q, l, h⟩ := s.raise_event e; rw [h]
@[simp] theorem State.raise_txRfs (e : Nat) : (s.raise e).txRfs = s.txRfs := by obtain ⟨r, g, q, l, h⟩ := s.raise_event e; rw [h]
@[simp] theorem State.raise_rxRfs (e : Nat) : (s.raise e).rxRfs = s.rxRfs := by obtain ⟨r, g, q, l, h⟩ := s.raise_event e; rw [h]
@[simp] theorem State.raise_origins (e : Nat) : (s.raise e).origins = s.origins := by obtain ⟨r, g, q, l, h⟩ := s.raise_event e; rw [h]
@[simp] theorem State.raise_dramLock (e : Nat) : (s.raise e).dramLock = s.dramLock := by obtain ⟨r, g, q, l, h⟩ := s.raise_event e; rw [h]
@[simp] theorem State.raise_dramPorts (e : Nat) : (s.raise e).dramPorts = s.dramPorts := by obtain ⟨r, g, q, l, h⟩ := s.raise_event e; rw [h]
@[simp] theorem State.raise_dramChs (e : Nat) : (s.raise e).dramChs = s.dramChs := by obtain ⟨r, g, q, l, h⟩ := s.raise_event e; rw [h]
@[simp] theorem State.raise_dramTurn (e : Nat) : (s.raise e).dramTurn = s.dramTurn := by obtain ⟨r, g, q, l, h⟩ := s.raise_event e; rw [h]
@[simp] theorem State.raise_dramSwept (e : Nat) : (s.raise e).dramSwept = s.dramSwept := by obtain ⟨r, g, q, l, h⟩ := s.raise_event e; rw [h]
@[simp] theorem State.raise_dramDueTold (e : Nat) : (s.raise e).dramDueTold = s.dramDueTold := by obtain ⟨r, g, q, l, h⟩ := s.raise_event e; rw [h]
@[simp] theorem State.raise_jrnOldest (e : Nat) : (s.raise e).jrnOldest = s.jrnOldest := by obtain ⟨r, g, q, l, h⟩ := s.raise_event e; rw [h]
@[simp] theorem State.raise_jrnOn (e : Nat) : (s.raise e).jrnOn = s.jrnOn := by obtain ⟨r, g, q, l, h⟩ := s.raise_event e; rw [h]
@[simp] theorem State.raise_capBusys (e : Nat) : (s.raise e).capBusys = s.capBusys := by obtain ⟨r, g, q, l, h⟩ := s.raise_event e; rw [h]
@[simp] theorem State.raise_adcCorrs (e : Nat) : (s.raise e).adcCorrs = s.adcCorrs := by obtain ⟨r, g, q, l, h⟩ := s.raise_event e; rw [h]
@[simp] theorem State.raise_adcAts (e : Nat) : (s.raise e).adcAts = s.adcAts := by obtain ⟨r, g, q, l, h⟩ := s.raise_event e; rw [h]
@[simp] theorem State.raise_coefCmd (e : Nat) : (s.raise e).coefCmd = s.coefCmd := by obtain ⟨r, g, q, l, h⟩ := s.raise_event e; rw [h]
@[simp] theorem State.raise_plls (e : Nat) : (s.raise e).plls = s.plls := by obtain ⟨r, g, q, l, h⟩ := s.raise_event e; rw [h]
@[simp] theorem State.raise_lpllForces (e : Nat) : (s.raise e).lpllForces = s.lpllForces := by obtain ⟨r, g, q, l, h⟩ := s.raise_event e; rw [h]
@[simp] theorem State.raise_refForces (e : Nat) : (s.raise e).refForces = s.refForces := by obtain ⟨r, g, q, l, h⟩ := s.raise_event e; rw [h]
@[simp] theorem State.raise_hpllArm (e : Nat) : (s.raise e).hpllArm = s.hpllArm := by obtain ⟨r, g, q, l, h⟩ := s.raise_event e; rw [h]
@[simp] theorem State.raise_lpllArms (e : Nat) : (s.raise e).lpllArms = s.lpllArms := by obtain ⟨r, g, q, l, h⟩ := s.raise_event e; rw [h]
@[simp] theorem State.raise_alignArms (e : Nat) : (s.raise e).alignArms = s.alignArms := by obtain ⟨r, g, q, l, h⟩ := s.raise_event e; rw [h]
@[simp] theorem State.raise_hubAlign (e : Nat) : (s.raise e).hubAlign = s.hubAlign := by obtain ⟨r, g, q, l, h⟩ := s.raise_event e; rw [h]
@[simp] theorem State.raise_aligning (e : Nat) : (s.raise e).aligning = s.aligning := by obtain ⟨r, g, q, l, h⟩ := s.raise_event e; rw [h]
@[simp] theorem State.raise_tas (e : Nat) : (s.raise e).tas = s.tas := by obtain ⟨r, g, q, l, h⟩ := s.raise_event e; rw [h]
@[simp] theorem State.raise_taHis (e : Nat) : (s.raise e).taHis = s.taHis := by obtain ⟨r, g, q, l, h⟩ := s.raise_event e; rw [h]
@[simp] theorem State.raise_txData (e : Nat) : (s.raise e).txData = s.txData := by obtain ⟨r, g, q, l, h⟩ := s.raise_event e; rw [h]
@[simp] theorem State.raise_eye (e : Nat) : (s.raise e).eye = s.eye := by obtain ⟨r, g, q, l, h⟩ := s.raise_event e; rw [h]
@[simp] theorem State.raise_burogs (e : Nat) : (s.raise e).burogs = s.burogs := by obtain ⟨r, g, q, l, h⟩ := s.raise_event e; rw [h]
@[simp] theorem State.raise_cuRuns (e : Nat) : (s.raise e).cuRuns = s.cuRuns := by obtain ⟨r, g, q, l, h⟩ := s.raise_event e; rw [h]
@[simp] theorem State.raise_cuLos (e : Nat) : (s.raise e).cuLos = s.cuLos := by obtain ⟨r, g, q, l, h⟩ := s.raise_event e; rw [h]
@[simp] theorem State.raise_integ (e : Nat) : (s.raise e).integ = s.integ := by obtain ⟨r, g, q, l, h⟩ := s.raise_event e; rw [h]
@[simp] theorem State.raise_goodRun (e : Nat) : (s.raise e).goodRun = s.goodRun := by obtain ⟨r, g, q, l, h⟩ := s.raise_event e; rw [h]
@[simp] theorem State.raise_badRun (e : Nat) : (s.raise e).badRun = s.badRun := by obtain ⟨r, g, q, l, h⟩ := s.raise_event e; rw [h]
@[simp] theorem State.raise_ownQual (e : Nat) : (s.raise e).ownQual = s.ownQual := by obtain ⟨r, g, q, l, h⟩ := s.raise_event e; rw [h]
@[simp] theorem State.raise_carried (e : Nat) : (s.raise e).carried = s.carried := by obtain ⟨r, g, q, l, h⟩ := s.raise_event e; rw [h]
@[simp] theorem State.raise_refMaster (e : Nat) : (s.raise e).refMaster = s.refMaster := by obtain ⟨r, g, q, l, h⟩ := s.raise_event e; rw [h]
@[simp] theorem State.raise_stepDone (e : Nat) : (s.raise e).stepDone = s.stepDone := by obtain ⟨r, g, q, l, h⟩ := s.raise_event e; rw [h]
@[simp] theorem State.raise_srcAt (e : Nat) : (s.raise e).srcAt = s.srcAt := by obtain ⟨r, g, q, l, h⟩ := s.raise_event e; rw [h]
@[simp] theorem State.raise_ppsTs (e : Nat) : (s.raise e).ppsTs = s.ppsTs := by obtain ⟨r, g, q, l, h⟩ := s.raise_event e; rw [h]
@[simp] theorem State.raise_tsyncTs (e : Nat) : (s.raise e).tsyncTs = s.tsyncTs := by obtain ⟨r, g, q, l, h⟩ := s.raise_event e; rw [h]
@[simp] theorem State.raise_keeper (e : Nat) : (s.raise e).keeper = s.keeper := by obtain ⟨r, g, q, l, h⟩ := s.raise_event e; rw [h]
@[simp] theorem State.raise_mgmtIn (e : Nat) : (s.raise e).mgmtIn = s.mgmtIn := by obtain ⟨r, g, q, l, h⟩ := s.raise_event e; rw [h]
@[simp] theorem State.raise_dlyRess (e : Nat) : (s.raise e).dlyRess = s.dlyRess := by obtain ⟨r, g, q, l, h⟩ := s.raise_event e; rw [h]
@[simp] theorem State.raise_autoQuiet (e : Nat) : (s.raise e).autoQuiet = s.autoQuiet := by obtain ⟨r, g, q, l, h⟩ := s.raise_event e; rw [h]
@[simp] theorem State.raise_startDue (e : Nat) : (s.raise e).startDue = s.startDue := by obtain ⟨r, g, q, l, h⟩ := s.raise_event e; rw [h]
@[simp] theorem State.raise_starting (e : Nat) : (s.raise e).starting = s.starting := by obtain ⟨r, g, q, l, h⟩ := s.raise_event e; rw [h]
@[simp] theorem State.raise_startFailed (e : Nat) : (s.raise e).startFailed = s.startFailed := by obtain ⟨r, g, q, l, h⟩ := s.raise_event e; rw [h]
@[simp] theorem State.raise_fellBack (e : Nat) : (s.raise e).fellBack = s.fellBack := by obtain ⟨r, g, q, l, h⟩ := s.raise_event e; rw [h]
@[simp] theorem State.raise_startCal (e : Nat) : (s.raise e).startCal = s.startCal := by obtain ⟨r, g, q, l, h⟩ := s.raise_event e; rw [h]
@[simp] theorem State.raise_standbyHeld (e : Nat) : (s.raise e).standbyHeld = s.standbyHeld := by obtain ⟨r, g, q, l, h⟩ := s.raise_event e; rw [h]
@[simp] theorem State.raise_porHigh (e : Nat) : (s.raise e).porHigh = s.porHigh := by obtain ⟨r, g, q, l, h⟩ := s.raise_event e; rw [h]
@[simp] theorem State.raise_railsIn (e : Nat) : (s.raise e).railsIn = s.railsIn := by obtain ⟨r, g, q, l, h⟩ := s.raise_event e; rw [h]
@[simp] theorem State.raise_restartAt (e : Nat) : (s.raise e).restartAt = s.restartAt := by obtain ⟨r, g, q, l, h⟩ := s.raise_event e; rw [h]
@[simp] theorem State.raise_lockstepDue (e : Nat) : (s.raise e).lockstepDue = s.lockstepDue := by obtain ⟨r, g, q, l, h⟩ := s.raise_event e; rw [h]
@[simp] theorem State.raise_strap (e : Nat) : (s.raise e).strap = s.strap := by obtain ⟨r, g, q, l, h⟩ := s.raise_event e; rw [h]
@[simp] theorem State.raise_pcieUp (e : Nat) : (s.raise e).pcieUp = s.pcieUp := by obtain ⟨r, g, q, l, h⟩ := s.raise_event e; rw [h]
@[simp] theorem State.raise_rilynQ (e : Nat) : (s.raise e).rilynQ = s.rilynQ := by obtain ⟨r, g, q, l, h⟩ := s.raise_event e; rw [h]
@[simp] theorem State.raise_mbxCmd (e : Nat) : (s.raise e).mbxCmd = s.mbxCmd := by obtain ⟨r, g, q, l, h⟩ := s.raise_event e; rw [h]
@[simp] theorem State.raise_rilynRun (e : Nat) : (s.raise e).rilynRun = s.rilynRun := by obtain ⟨r, g, q, l, h⟩ := s.raise_event e; rw [h]
@[simp] theorem State.raise_tookMbx (e : Nat) : (s.raise e).tookMbx = s.tookMbx := by obtain ⟨r, g, q, l, h⟩ := s.raise_event e; rw [h]
@[simp] theorem State.raise_mpDone (e : Nat) : (s.raise e).mpDone = s.mpDone := by obtain ⟨r, g, q, l, h⟩ := s.raise_event e; rw [h]
@[simp] theorem State.raise_relayIn (e : Nat) : (s.raise e).relayIn = s.relayIn := by obtain ⟨r, g, q, l, h⟩ := s.raise_event e; rw [h]
@[simp] theorem State.raise_bufWords (e : Nat) : (s.raise e).bufWords = s.bufWords := by obtain ⟨r, g, q, l, h⟩ := s.raise_event e; rw [h]
@[simp] theorem State.raise_flash (e : Nat) : (s.raise e).flash = s.flash := by obtain ⟨r, g, q, l, h⟩ := s.raise_event e; rw [h]
@[simp] theorem State.raise_record (e : Nat) : (s.raise e).record = s.record := by obtain ⟨r, g, q, l, h⟩ := s.raise_event e; rw [h]
@[simp] theorem State.raise_delaySet (e : Nat) : (s.raise e).delaySet = s.delaySet := by obtain ⟨r, g, q, l, h⟩ := s.raise_event e; rw [h]
@[simp] theorem State.raise_delayDue (e : Nat) : (s.raise e).delayDue = s.delayDue := by obtain ⟨r, g, q, l, h⟩ := s.raise_event e; rw [h]
@[simp] theorem State.raise_ranSlot (e : Nat) : (s.raise e).ranSlot = s.ranSlot := by obtain ⟨r, g, q, l, h⟩ := s.raise_event e; rw [h]
@[simp] theorem State.raise_slotA (e : Nat) : (s.raise e).slotA = s.slotA := by obtain ⟨r, g, q, l, h⟩ := s.raise_event e; rw [h]
@[simp] theorem State.raise_images (e : Nat) : (s.raise e).images = s.images := by obtain ⟨r, g, q, l, h⟩ := s.raise_event e; rw [h]
@[simp] theorem State.raise_update (e : Nat) : (s.raise e).update = s.update := by obtain ⟨r, g, q, l, h⟩ := s.raise_event e; rw [h]
@[simp] theorem State.raise_fuseLevel (e : Nat) : (s.raise e).fuseLevel = s.fuseLevel := by obtain ⟨r, g, q, l, h⟩ := s.raise_event e; rw [h]
@[simp] theorem State.raise_logPos (e : Nat) : (s.raise e).logPos = s.logPos := by obtain ⟨r, g, q, l, h⟩ := s.raise_event e; rw [h]
@[simp] theorem State.raise_qspi (e : Nat) : (s.raise e).qspi = s.qspi := by obtain ⟨r, g, q, l, h⟩ := s.raise_event e; rw [h]
@[simp] theorem State.raise_ptps (e : Nat) : (s.raise e).ptps = s.ptps := by obtain ⟨r, g, q, l, h⟩ := s.raise_event e; rw [h]
@[simp] theorem State.raise_ptpEvents (e : Nat) : (s.raise e).ptpEvents = s.ptpEvents := by obtain ⟨r, g, q, l, h⟩ := s.raise_event e; rw [h]
@[simp] theorem State.raise_hkTrims (e : Nat) : (s.raise e).hkTrims = s.hkTrims := by obtain ⟨r, g, q, l, h⟩ := s.raise_event e; rw [h]
@[simp] theorem State.raise_racing (e : Nat) : (s.raise e).racing = s.racing := by obtain ⟨r, g, q, l, h⟩ := s.raise_event e; rw [h]
@[simp] theorem State.raise_struck (e : Nat) : (s.raise e).struck = s.struck := by obtain ⟨r, g, q, l, h⟩ := s.raise_event e; rw [h]
@[simp] theorem State.raise_hkAccs (e : Nat) : (s.raise e).hkAccs = s.hkAccs := by obtain ⟨r, g, q, l, h⟩ := s.raise_event e; rw [h]
@[simp] theorem State.raise_hkAts (e : Nat) : (s.raise e).hkAts = s.hkAts := by obtain ⟨r, g, q, l, h⟩ := s.raise_event e; rw [h]
@[simp] theorem State.raise_diodes (e : Nat) : (s.raise e).diodes = s.diodes := by obtain ⟨r, g, q, l, h⟩ := s.raise_event e; rw [h]
@[simp] theorem State.raise_thrRuns (e : Nat) : (s.raise e).thrRuns = s.thrRuns := by obtain ⟨r, g, q, l, h⟩ := s.raise_event e; rw [h]
@[simp] theorem State.raise_xAmbig (e : Nat) : (s.raise e).xAmbig = s.xAmbig := by obtain ⟨r, g, q, l, h⟩ := s.raise_event e; rw [h]
@[simp] theorem State.raise_priorShut (e : Nat) : (s.raise e).priorShut = s.priorShut := by obtain ⟨r, g, q, l, h⟩ := s.raise_event e; rw [h]
@[simp] theorem State.raise_shut (e : Nat) : (s.raise e).shut = s.shut := by obtain ⟨r, g, q, l, h⟩ := s.raise_event e; rw [h]
@[simp] theorem State.raise_mons (e : Nat) : (s.raise e).mons = s.mons := by obtain ⟨r, g, q, l, h⟩ := s.raise_event e; rw [h]
@[simp] theorem State.raise_stresses (e : Nat) : (s.raise e).stresses = s.stresses := by obtain ⟨r, g, q, l, h⟩ := s.raise_event e; rw [h]
@[simp] theorem State.raise_stressSecs (e : Nat) : (s.raise e).stressSecs = s.stressSecs := by obtain ⟨r, g, q, l, h⟩ := s.raise_event e; rw [h]
@[simp] theorem State.raise_domMoves (e : Nat) : (s.raise e).domMoves = s.domMoves := by obtain ⟨r, g, q, l, h⟩ := s.raise_event e; rw [h]
@[simp] theorem State.raise_domWaits (e : Nat) : (s.raise e).domWaits = s.domWaits := by obtain ⟨r, g, q, l, h⟩ := s.raise_event e; rw [h]
@[simp] theorem State.raise_rising (e : Nat) : (s.raise e).rising = s.rising := by obtain ⟨r, g, q, l, h⟩ := s.raise_event e; rw [h]
@[simp] theorem State.raise_gatePins (e : Nat) : (s.raise e).gatePins = s.gatePins := by obtain ⟨r, g, q, l, h⟩ := s.raise_event e; rw [h]
@[simp] theorem State.raise_wakePins (e : Nat) : (s.raise e).wakePins = s.wakePins := by obtain ⟨r, g, q, l, h⟩ := s.raise_event e; rw [h]
@[simp] theorem State.raise_timerEnd (e : Nat) : (s.raise e).timerEnd = s.timerEnd := by obtain ⟨r, g, q, l, h⟩ := s.raise_event e; rw [h]
@[simp] theorem State.raise_dip (e : Nat) : (s.raise e).dip = s.dip := by obtain ⟨r, g, q, l, h⟩ := s.raise_event e; rw [h]
@[simp] theorem State.raise_freezeEnd (e : Nat) : (s.raise e).freezeEnd = s.freezeEnd := by obtain ⟨r, g, q, l, h⟩ := s.raise_event e; rw [h]
@[simp] theorem State.raise_pmem (e : Nat) : (s.raise e).pmem = s.pmem := by obtain ⟨r, g, q, l, h⟩ := s.raise_event e; rw [h]
@[simp] theorem State.raise_chans (e : Nat) : (s.raise e).chans = s.chans := by obtain ⟨r, g, q, l, h⟩ := s.raise_event e; rw [h]
@[simp] theorem State.raise_scBusy (e : Nat) : (s.raise e).scBusy = s.scBusy := by obtain ⟨r, g, q, l, h⟩ := s.raise_event e; rw [h]
@[simp] theorem State.raise_uartRx (e : Nat) : (s.raise e).uartRx = s.uartRx := by obtain ⟨r, g, q, l, h⟩ := s.raise_event e; rw [h]
@[simp] theorem State.raise_uartTx (e : Nat) : (s.raise e).uartTx = s.uartTx := by obtain ⟨r, g, q, l, h⟩ := s.raise_event e; rw [h]
@[simp] theorem State.raise_uartAt (e : Nat) : (s.raise e).uartAt = s.uartAt := by obtain ⟨r, g, q, l, h⟩ := s.raise_event e; rw [h]
@[simp] theorem State.raise_tap (e : Nat) : (s.raise e).tap = s.tap := by obtain ⟨r, g, q, l, h⟩ := s.raise_event e; rw [h]
@[simp] theorem State.raise_boundary (e : Nat) : (s.raise e).boundary = s.boundary := by obtain ⟨r, g, q, l, h⟩ := s.raise_event e; rw [h]
@[simp] theorem State.raise_borDue (e : Nat) : (s.raise e).borDue = s.borDue := by obtain ⟨r, g, q, l, h⟩ := s.raise_event e; rw [h]
@[simp] theorem State.raise_spllBlocked (e : Nat) : (s.raise e).spllBlocked = s.spllBlocked := by obtain ⟨r, g, q, l, h⟩ := s.raise_event e; rw [h]
@[simp] theorem State.raise_detLost (e : Nat) : (s.raise e).detLost = s.detLost := by obtain ⟨r, g, q, l, h⟩ := s.raise_event e; rw [h]
@[simp] theorem State.raise_detBack (e : Nat) : (s.raise e).detBack = s.detBack := by obtain ⟨r, g, q, l, h⟩ := s.raise_event e; rw [h]
@[simp] theorem State.raise_wentOff (e : Nat) : (s.raise e).wentOff = s.wentOff := by obtain ⟨r, g, q, l, h⟩ := s.raise_event e; rw [h]

end Sys2Proof.Machine
end

