-- ==== Sys2Proof/Laws/Frame.lean ====
section
/-!
SUPPORT. Frames: what register writes, events, counters and the judging of MSI vectors leave as it was.
-/
namespace Sys2Proof.Machine

variable {l : List Nat} {s t u : State}

theorem Frame.refl (l : List Nat) (s : State) : Frame l s s := ⟨rfl, fun _ => rfl, fun _ _ _ => rfl⟩

theorem Frame.trans (h : Frame l s t) (h' : Frame l t u) : Frame l s u :=
  ⟨h'.1.trans h.1, fun p => (h'.2.1 p).trans (h.2.1 p), fun a ha he => (h'.2.2 a ha he).trans (h.2.2 a ha he)⟩

theorem Frame.setReg (h : Frame l s t) (a : Nat) (w : Word) (ha : a ∈ l) : Frame l s (t.setReg a w) := by
  refine ⟨h.1, h.2.1, fun b hb he => ?_⟩
  rw [← h.2.2 b hb he, State.reg_setReg, if_neg]
  rintro rfl
  exact hb ha

theorem Frame.setFld (h : Frame l s t) (a : Nat) (f : Fld) (v : Nat) (ha : a ∈ l) : Frame l s (t.setFld a f v) := h.setReg a _ ha
theorem Frame.setBit (h : Frame l s t) (a : Nat) (f : Fld) (v : Bool) (ha : a ∈ l) : Frame l s (t.setBit a f v) := h.setReg a _ ha

/-- A change of one of the event registers. -/
theorem Frame.setEvent (h : Frame l s t) (a : Nat) (w : Word) (ha : eventReg a = true) : Frame l s (t.setReg a w) := by
  refine ⟨h.1, h.2.1, fun b hb he => ?_⟩
  rw [← h.2.2 b hb he, State.reg_setReg, if_neg]
  rintro rfl
  simp [ha] at he

theorem Frame.flag (h : Frame l s t) (p : Nat) (f : Glide → Glide) (hf : ∀ g, (f g).quiet = g.quiet) : Frame l s (t.modGlide p f) := by
  refine ⟨h.1, fun q => ?_, h.2.2⟩
  rw [← h.2.1 q]
  unfold State.modGlide
  rw [State.glide_setGlide]
  split
  · next hq => subst hq; exact hf _
  · rfl

theorem Frame.setStored (h : Frame l s t) (src : Nat) (b : Bool) (hs : src < 256) : Frame l s (t.setStored src b) := by
  refine h.setEvent _ _ ?_
  simp only [eventReg, Reg.HIVE_STATUS, Bool.or_eq_true, Bool.and_eq_true, decide_eq_true_eq]
  omega

theorem Frame.flagGlides (h : Frame l s t) (src : Nat) : Frame l s (t.flagGlides src) := by
  refine State.each_keeps (P := fun t => Frame l s t) (fun t p h => h.flag p _ fun g => ?_) _ h
  split <;> rfl

theorem Frame.raiseQuiet (h : Frame l s t) (src : Nat) (hs : src < 256) : Frame l s (t.raiseQuiet src) := by
  unfold State.raiseQuiet
  split
  · exact h.setStored _ _ hs
  · exact (h.setStored _ _ hs).flagGlides _

theorem Frame.pushLog (h : Frame l s t) (r : LogRec) : Frame l s (t.pushLog r) := by
  unfold State.pushLog
  split
  · exact ⟨h.1, h.2.1, h.2.2⟩
  · unfold State.bumpWith
    simp only
    have e : eventReg Reg.RILYN_LOG_DROP = true := by decide
    have e' : eventReg Reg.RILYN_CNT_FLAGS = true := by decide
    split
    · exact ((h.setEvent _ _ e).setEvent _ _ e').raiseQuiet _ (by decide)
    · exact h.setEvent _ _ e

theorem Frame.logEvent (h : Frame l s t) (src : Nat) : Frame l s (t.logEvent src) := by
  have k : ∀ x, Frame l s (t.setLoggedAt src x) := fun x => ⟨h.1, h.2.1, h.2.2⟩
  unfold State.logEvent
  split
  · split
    · split
      · exact k _
      · exact (k _).pushLog _
    · exact (k _).pushLog _
  · exact h

/-- An event changes only what a frame leaves open. -/
theorem Frame.raise (h : Frame l s t) (src : Nat) : Frame l s (t.raise src) := by
  unfold State.raise
  split
  · next ha =>
    have hs : src < 256 := by
      unfold State.mayAssert at ha
      split at ha
      · omega
      · simp only [Bool.and_eq_true, decide_eq_true_eq] at ha
        exact ha.1
    refine Frame.logEvent ?_ src
    split
    · exact h
    · split
      · exact h.setStored _ _ hs
      · exact (h.setStored _ _ hs).flagGlides _
  · exact h

theorem Frame.accessError (h : Frame l s t) : Frame l s t.accessError := h.raise _

theorem Frame.bump (h : Frame l s t) (cnt fr fb n : Nat) (hc : cnt ∈ l) (hf : fr ∈ l) : Frame l s (t.bump cnt fr fb n) := by
  unfold State.bump State.bumpWith
  simp only
  split
  · exact ((h.setFld _ _ _ hc).setFld _ _ _ hf).raise _
  · exact h.setFld _ _ _ hc

theorem Frame.settle (h : Frame l s t) : Frame l s t.settle := by
  obtain ⟨o, e⟩ := t.settle_eq
  rw [e]
  exact ⟨h.1, h.2.1, h.2.2⟩

theorem Frame.when (h : Frame l s t) (c : Bool) (f : State → State) (hf : Frame l s (f t)) : Frame l s (t.when c f) := by
  unfold State.when
  split <;> assumption

/-- A longer list frames less. -/
theorem Frame.mono {l' : List Nat} (h : Frame l s t) (hl : ∀ a, a ∈ l → a ∈ l') : Frame l' s t :=
  ⟨h.1, h.2.1, fun a ha he => h.2.2 a (fun x => ha (hl a x)) he⟩

/-- A register that a frame does not list. -/
theorem Frame.reg (h : Frame l s t) {a : Nat} (ha : a ∉ l) (he : eventReg a = false) : t.reg a = s.reg a := h.2.2 a ha he

/-! ### Registers after an event -/

theorem State.reg_raise (s : State) (src a : Nat) (he : eventReg a = false) : (s.raise src).reg a = s.reg a :=
  ((Frame.refl [] s).raise src).2.2 a (by simp) he
theorem State.fld_raise (s : State) (src a : Nat) (f : Fld) (he : eventReg a = false) : (s.raise src).fld a f = s.fld a f := by
  simp only [State.fld, State.reg_raise s src a he]
theorem State.bit_raise (s : State) (src a : Nat) (f : Fld) (he : eventReg a = false) : (s.raise src).bit a f = s.bit a f := by
  simp only [State.bit, State.reg_raise s src a he]

end Sys2Proof.Machine
end

