-- ==== Sys2Proof/Laws/Glide.lean ====
section
/-!
SUPPORT. Glide processors: the clock leaves a processor as it is, a ready instruction issues, and where it goes on.
-/
namespace Sys2Proof.Machine

variable (s : State)

/-- The clock moves nothing but the instant and the timebase. -/
theorem State.advance_eq (t : Nat) : ∃ n b, s.advance t = { s with now := n, tb := b } := by
  unfold State.advance
  split
  · exact ⟨_, _, rfl⟩
  · exact ⟨s.now, s.tb, rfl⟩
theorem State.advance_glide (t p : Nat) : (s.advance t).glide p = s.glide p := by
  obtain ⟨_, _, h⟩ := s.advance_eq t; rw [h]; rfl
theorem State.advance_gReg (t p n : Nat) : (s.advance t).gReg p n = s.gReg p n := by
  unfold State.gReg; rw [s.advance_glide]
theorem State.advance_imemWord (t p n : Nat) : (s.advance t).imemWord p n = s.imemWord p n := by
  unfold State.imemWord; rw [s.advance_glide]
theorem State.advance_reg (t a : Nat) : (s.advance t).reg a = s.reg a := by
  obtain ⟨_, _, h⟩ := s.advance_eq t; rw [h]; rfl

theorem State.glide_modGlide (p : Nat) (f : Glide → Glide) (q : Nat) : (s.modGlide p f).glide q = if q = p then f (s.glide p) else s.glide q :=
  s.glide_setGlide _ _ _
theorem State.glide_modGlide_same (p : Nat) (f : Glide → Glide) : (s.modGlide p f).glide p = f (s.glide p) := by simp [State.glide_modGlide]
theorem State.modGlide_now (p : Nat) (f : Glide → Glide) : (s.modGlide p f).now = s.now := rfl

theorem Glide.setReg_pc (g : Glide) (n : Nat) (v : BitVec 64) : (g.setReg n v).pc = g.pc := by
  unfold Glide.setReg; split <;> rfl
theorem State.setGReg_pc (p n : Nat) (v : BitVec 64) : ((s.setGReg p n v).glide p).pc = (s.glide p).pc := by
  unfold State.setGReg; rw [s.glide_modGlide_same]; exact Glide.setReg_pc _ _ _
theorem State.setGReg_now (p n : Nat) (v : BitVec 64) : (s.setGReg p n v).now = s.now := rfl

/-- A ready instruction that is no radio instruction issues on its word. -/
theorem State.gIssue_ready {s : State} {p : Fin 5} {op : Nat} {w : BitVec 64} (h : s.Ready p op w) (hv : gValid op = true)
    (hr : gRadio op = false) {ecc : Ecc} (he : ecc ≠ .fatal) (f : State → BitVec 64 → State) : s.gIssue p op ecc f = f (s.atIssue p ecc) w := by
  obtain ⟨h1, h2, h3, h4, h5, h6, h7⟩ := h
  have hp : ¬ 5 ≤ (p : Nat) := by omega
  unfold State.gIssue State.atIssue
  simp only [h1, h2, h3, h4, h5, h6, hv, hr, hp]
  simp [he]

/-- Within the memory a processor goes on. -/
theorem State.gGoto_eq (p at_ pc cost : Nat) (h : pc ≤ 8191) : s.gGoto p at_ pc cost = s.modGlide p fun g => g.went s.now pc cost := by
  unfold State.gGoto
  rw [if_neg (by omega)]
  rfl
theorem State.gNext_eq (p : Nat) (h : (s.glide p).pc < 8191) : s.gNext p = s.modGlide p fun g => g.went s.now (g.pc + 1) 4 := by
  unfold State.gNext
  rw [s.gGoto_eq _ _ _ _ (by omega)]
  rfl
theorem State.gJump_eq (p pc : Nat) (h : pc ≤ 8191) : s.gJump p pc = s.modGlide p fun g => g.went s.now pc 8 := s.gGoto_eq _ _ _ _ h

end Sys2Proof.Machine
end

