-- ==== Sys2Proof/Laws/Modes.lean ====
section
/-!
SUPPORT. The mode under every operation that a change of mode, a trigger of a start, or an entry to Standby runs through.
-/
namespace Sys2Proof.Machine
open Reg F

theorem State.ite_mode (c : Prop) [Decidable c] (a b : State) : (if c then a else b).mode = if c then a.mode else b.mode := by split <;> rfl
theorem State.each_mode {α : Type} (s : State) (l : List α) (f : State → α → State) (h : ∀ s x, (f s x).mode = s.mode) :
    (s.each l f).mode = s.mode :=
  State.each_keeps (P := fun t => t.mode = s.mode) (fun t x e => (h t x).trans e) l rfl
@[simp] theorem State.when_mode (s : State) (c : Bool) (f : State → State) (h : ∀ s, (f s).mode = s.mode) : (s.when c f).mode = s.mode := by
  unfold State.when
  split
  · exact h s
  · rfl
@[simp] theorem State.setGlide_mode (s : State) (k : Nat) (x : Glide) : (State.setGlide s k x).mode = s.mode := by
  simp [State.setGlide]
@[simp] theorem State.modGlide_mode (s : State) (k : Nat) (f : Glide → Glide) : (State.modGlide s k f).mode = s.mode := by
  simp [State.modGlide]
@[simp] theorem State.setFifo_mode (s : State) (k : Nat) (x : List Bundle) : (State.setFifo s k x).mode = s.mode := by
  simp [State.setFifo]
@[simp] theorem State.setTxCar_mode (s : State) (k : Nat) (x : Carrier) : (State.setTxCar s k x).mode = s.mode := by
  simp [State.setTxCar]
@[simp] theorem State.modTxCar_mode (s : State) (k : Nat) (f : Carrier → Carrier) : (State.modTxCar s k f).mode = s.mode := by
  simp [State.modTxCar]
@[simp] theorem State.setRxCar_mode (s : State) (k : Nat) (x : Carrier) : (State.setRxCar s k x).mode = s.mode := by
  simp [State.setRxCar]
@[simp] theorem State.modRxCar_mode (s : State) (k : Nat) (f : Carrier → Carrier) : (State.modRxCar s k f).mode = s.mode := by
  simp [State.modRxCar]
@[simp] theorem State.setTxPath_mode (s : State) (k : Nat) (x : TxPath) : (State.setTxPath s k x).mode = s.mode := by
  simp [State.setTxPath]
@[simp] theorem State.modTxPath_mode (s : State) (k : Nat) (f : TxPath → TxPath) : (State.modTxPath s k f).mode = s.mode := by
  simp [State.modTxPath]
@[simp] theorem State.setRxPath_mode (s : State) (k : Nat) (x : RxPath) : (State.setRxPath s k x).mode = s.mode := by
  simp [State.setRxPath]
@[simp] theorem State.modRxPath_mode (s : State) (k : Nat) (f : RxPath → RxPath) : (State.modRxPath s k f).mode = s.mode := by
  simp [State.modRxPath]
@[simp] theorem State.setEntry_mode (s : State) (k : Nat) (x : EntryState) : (State.setEntry s k x).mode = s.mode := by
  simp [State.setEntry]
@[simp] theorem State.setPage_mode (s : State) (k : Nat) (x : PageState) : (State.setPage s k x).mode = s.mode := by
  simp [State.setPage]
@[simp] theorem State.setPort_mode (s : State) (k : Nat) (x : Port) : (State.setPort s k x).mode = s.mode := by
  simp [State.setPort]
@[simp] theorem State.modPort_mode (s : State) (k : Nat) (f : Port → Port) : (State.modPort s k f).mode = s.mode := by
  simp [State.modPort]
@[simp] theorem State.setLane_mode (s : State) (k : Nat) (x : Lane) : (State.setLane s k x).mode = s.mode := by
  simp [State.setLane]
@[simp] theorem State.modLane_mode (s : State) (k : Nat) (f : Lane → Lane) : (State.modLane s k f).mode = s.mode := by
  simp [State.modLane]
@[simp] theorem State.setLoggedAt_mode (s : State) (k : Nat) (x : Option (Nat × Nat)) : (State.setLoggedAt s k x).mode = s.mode := by
  simp [State.setLoggedAt]
@[simp] theorem State.setQuad_mode (s : State) (k : Nat) (x : Quad) : (State.setQuad s k x).mode = s.mode := by
  simp [State.setQuad]
@[simp] theorem State.modQuad_mode (s : State) (k : Nat) (f : Quad → Quad) : (State.modQuad s k f).mode = s.mode := by
  simp [State.modQuad]
@[simp] theorem State.setBias_mode (s : State) (k : Nat) (x : Bias) : (State.setBias s k x).mode = s.mode := by
  simp [State.setBias]
@[simp] theorem State.modBias_mode (s : State) (k : Nat) (f : Bias → Bias) : (State.modBias s k f).mode = s.mode := by
  simp [State.modBias]
@[simp] theorem State.setRffe_mode (s : State) (k : Nat) (x : Rffe) : (State.setRffe s k x).mode = s.mode := by
  simp [State.setRffe]
@[simp] theorem State.modRffe_mode (s : State) (k : Nat) (f : Rffe → Rffe) : (State.modRffe s k f).mode = s.mode := by
  simp [State.modRffe]
@[simp] theorem State.setDfly_mode (s : State) (k : Nat) (x : Dfly) : (State.setDfly s k x).mode = s.mode := by
  simp [State.setDfly]
@[simp] theorem State.modDfly_mode (s : State) (k : Nat) (f : Dfly → Dfly) : (State.modDfly s k f).mode = s.mode := by
  simp [State.modDfly]
@[simp] theorem State.setFwdPower_mode (s : State) (k : Nat) (x : Option FwdPower) : (State.setFwdPower s k x).mode = s.mode := by
  simp [State.setFwdPower]
@[simp] theorem State.setMmRun_mode (s : State) (k : Nat) (x : Nat) : (State.setMmRun s k x).mode = s.mode := by
  simp [State.setMmRun]
@[simp] theorem State.setCal_mode (s : State) (k : Nat) (x : Cal) : (State.setCal s k x).mode = s.mode := by
  simp [State.setCal]
@[simp] theorem State.modCal_mode (s : State) (k : Nat) (f : Cal → Cal) : (State.modCal s k f).mode = s.mode := by
  simp [State.modCal]
@[simp] theorem State.setDramPort_mode (s : State) (k : Nat) (x : DramPort) : (State.setDramPort s k x).mode = s.mode := by
  simp [State.setDramPort]
@[simp] theorem State.setDramCh_mode (s : State) (k : Nat) (x : DramCh) : (State.setDramCh s k x).mode = s.mode := by
  simp [State.setDramCh]
@[simp] theorem State.modDramCh_mode (s : State) (k : Nat) (f : DramCh → DramCh) : (State.modDramCh s k f).mode = s.mode := by
  simp [State.modDramCh]
@[simp] theorem State.setPll_mode (s : State) (k : Nat) (x : Pll) : (State.setPll s k x).mode = s.mode := by
  simp [State.setPll]
@[simp] theorem State.modPll_mode (s : State) (k : Nat) (f : Pll → Pll) : (State.modPll s k f).mode = s.mode := by
  simp [State.modPll]
@[simp] theorem State.setLpllForce_mode (s : State) (k : Nat) (x : BitVec 32) : (State.setLpllForce s k x).mode = s.mode := by
  simp [State.setLpllForce]
@[simp] theorem State.setRefForce_mode (s : State) (k : Nat) (x : Word) : (State.setRefForce s k x).mode = s.mode := by
  simp [State.setRefForce]
@[simp] theorem State.setLpllArm_mode (s : State) (k : Nat) (x : Option (Nat × Nat)) : (State.setLpllArm s k x).mode = s.mode := by
  simp [State.setLpllArm]
@[simp] theorem State.setAlignArm_mode (s : State) (k : Nat) (x : Option Align) : (State.setAlignArm s k x).mode = s.mode := by
  simp [State.setAlignArm]
@[simp] theorem State.setBurog_mode (s : State) (k : Nat) (x : BPort) : (State.setBurog s k x).mode = s.mode := by
  simp [State.setBurog]
@[simp] theorem State.modBurog_mode (s : State) (k : Nat) (f : BPort → BPort) : (State.modBurog s k f).mode = s.mode := by
  simp [State.modBurog]
@[simp] theorem State.setDomMove_mode (s : State) (k : Nat) (x : Option DomMove) : (State.setDomMove s k x).mode = s.mode := by
  simp [State.setDomMove]
@[simp] theorem State.setDomWait_mode (s : State) (k : Nat) (x : Option Nat) : (State.setDomWait s k x).mode = s.mode := by
  simp [State.setDomWait]
@[simp] theorem State.setFld_mode (s : State) (a : Nat) (f : Fld) (v : Nat) : (State.setFld s a f v).mode = s.mode := by
  simp [State.setFld]
@[simp] theorem State.setBit_mode (s : State) (a : Nat) (f : Fld) (b : Bool) : (State.setBit s a f b).mode = s.mode := by
  simp [State.setBit]
@[simp] theorem State.setMaskBit_mode (s : State) (a : Nat) (f : Fld) (i : Nat) (b : Bool) : (State.setMaskBit s a f i b).mode = s.mode := by
  simp [State.setMaskBit]
@[simp] theorem State.advance_mode (s : State) (t : Nat) : (State.advance s t).mode = s.mode := by
  simp [State.advance, State.ite_mode, State.each_mode]
@[simp] theorem State.setStored_mode (s : State) (src : Nat) (b : Bool) : (State.setStored s src b).mode = s.mode := by
  simp [State.setStored]
@[simp] theorem State.flagGlides_mode (s : State) (src : Nat) : (State.flagGlides s src).mode = s.mode := by
  simp [State.flagGlides, State.each_mode]
@[simp] theorem State.raiseQuiet_mode (s : State) (src : Nat) : (State.raiseQuiet s src).mode = s.mode := by
  simp [State.raiseQuiet, State.ite_mode, State.each_mode]
@[simp] theorem State.bumpWith_mode (alarm : State → State) (s : State) (cnt : Nat) (f : Fld) (flagReg flagBit n : Nat) (h0 : ∀ (s : State), (alarm s).mode = s.mode) : (State.bumpWith alarm s cnt f flagReg flagBit n).mode = s.mode := by
  unfold State.bumpWith
  (repeat' split) <;> simp [State.ite_mode, State.each_mode, *]
@[simp] theorem State.pushLog_mode (s : State) (r : LogRec) : (State.pushLog s r).mode = s.mode := by
  simp [State.pushLog, State.ite_mode, State.each_mode]
@[simp] theorem State.logEvent_mode (s : State) (src : Nat) : (State.logEvent s src).mode = s.mode := by
  unfold State.logEvent
  (repeat' split) <;> simp
@[simp] theorem State.bump_mode (s : State) (cnt flagReg flagBit n : Nat) : (State.bump s cnt flagReg flagBit n).mode = s.mode := by
  simp [State.bump]
@[simp] theorem State.accessError_mode (s : State) : (State.accessError s).mode = s.mode := by
  simp [State.accessError]
@[simp] theorem State.reclaim_mode (s : State) : (State.reclaim s).mode = s.mode := by
  simp [State.reclaim, State.each_mode]
@[simp] theorem State.slalomStop_mode (s : State) : (State.slalomStop s).mode = s.mode := by
  simp [State.slalomStop]
@[simp] theorem State.linkDown_mode (s : State) (p : Nat) : (State.linkDown s p).mode = s.mode := by
  simp [State.linkDown, State.ite_mode, State.each_mode]
@[simp] theorem State.trainPort_mode (s : State) (p : Nat) : (State.trainPort s p).mode = s.mode := by
  simp [State.trainPort, State.ite_mode, State.each_mode]
@[simp] theorem State.judgeLink_mode (s : State) (p : Nat) : (State.judgeLink s p).mode = s.mode := by
  simp [State.judgeLink, State.ite_mode, State.each_mode]
@[simp] theorem State.setAligned_mode (s : State) (p : Nat) (aligned : Bool) : (State.setAligned s p aligned).mode = s.mode := by
  simp [State.setAligned]
@[simp] theorem State.lanesChanged_mode (s : State) : (State.lanesChanged s).mode = s.mode := by
  simp [State.lanesChanged, State.ite_mode, State.each_mode]
@[simp] theorem State.sendFrame_mode (s : State) (p pcp : Nat) (bytes : List Byte) (stamp : Stamp := .none) : (State.sendFrame s p pcp bytes stamp).mode = s.mode := by
  simp [State.sendFrame]
@[simp] theorem State.setId_mode (s : State) (i : Nat) : (State.setId s i).mode = s.mode := by
  simp [State.setId]
@[simp] theorem State.setK_mode (s : State) (k : Nat) : (State.setK s k).mode = s.mode := by
  simp [State.setK]
@[simp] theorem State.burogQueue_mode (s : State) (k vc : Nat) (fs : List Flit) : (s.burogQueue k vc fs).mode = s.mode := by
  unfold State.burogQueue
  (repeat' split) <;> simp [State.ite_mode, State.each_mode]
@[simp] theorem State.burogPost_mode (s : State) (k vc : Nat) (ps : List (BitVec 256)) : (State.burogPost s k vc ps).mode = s.mode := by
  simp [State.burogPost]
@[simp] theorem State.sendGroup_mode (s : State) : (State.sendGroup s).mode = s.mode := by
  simp [State.sendGroup]
@[simp] theorem State.judgeTail_mode (s : State) : (State.judgeTail s).mode = s.mode := by
  simp [State.judgeTail, State.ite_mode, State.each_mode]
@[simp] theorem State.judgeHead_mode (s : State) : (State.judgeHead s).mode = s.mode := by
  simp [State.judgeHead, State.ite_mode, State.each_mode]
@[simp] theorem State.burogTrain_mode (s : State) (k : Nat) : (State.burogTrain s k).mode = s.mode := by
  simp [State.burogTrain, State.ite_mode, State.each_mode]
@[simp] theorem State.expirePsum_mode (s : State) (k : SecKey) : (s.expirePsum k).mode = s.mode := by
  simp [State.expirePsum, State.modSec]
@[simp] theorem State.expireWaits_mode (s : State) : (s.expireWaits).mode = s.mode := by
  unfold State.expireWaits
  split
  · exact State.each_mode _ _ _ fun s x => by simp
  · rfl
@[simp] theorem State.burogGoDown_mode (s : State) (k : Nat) : (s.burogGoDown k).mode = s.mode := by
  unfold State.burogGoDown
  split
  · rfl
  · simp [State.when_mode]
@[simp] theorem State.burogLanesChanged_mode (s : State) : (State.burogLanesChanged s).mode = s.mode := by
  simp [State.burogLanesChanged, State.ite_mode, State.each_mode]
@[simp] theorem State.eyeEnd_mode (s : State) (result : Nat) : (State.eyeEnd s result).mode = s.mode := by
  unfold State.eyeEnd
  split <;> simp
@[simp] theorem State.eyeAbort_mode (s : State) (l : Nat) : (State.eyeAbort s l).mode = s.mode := by
  unfold State.eyeAbort
  (repeat' split) <;> simp
@[simp] theorem State.judgeQuadPll_mode (s : State) (n : Nat) : (State.judgeQuadPll s n).mode = s.mode := by
  simp [State.judgeQuadPll, State.ite_mode, State.each_mode]
@[simp] theorem State.laneEnter_mode (s : State) (l st : Nat) : (State.laneEnter s l st).mode = s.mode := by
  simp [State.laneEnter, State.ite_mode, State.each_mode]
@[simp] theorem State.laneForget_mode (s : State) (l : Nat) : (State.laneForget s l).mode = s.mode := by
  simp [State.laneForget]
@[simp] theorem State.laneStart_mode (s : State) (l st : Nat) : (State.laneStart s l st).mode = s.mode := by
  simp [State.laneStart]
@[simp] theorem State.laneGo_mode (s : State) (l : Nat) : (State.laneGo s l).mode = s.mode := by
  simp [State.laneGo, State.ite_mode, State.each_mode]
@[simp] theorem State.lanesSettle_mode (s : State) : (State.lanesSettle s).mode = s.mode := by
  simp [State.lanesSettle]
@[simp] theorem State.quadGo_mode (s : State) (n : Nat) : (State.quadGo s n).mode = s.mode := by
  simp [State.quadGo, State.each_mode]
@[simp] theorem State.allLanesGo_mode (s : State) : (State.allLanesGo s).mode = s.mode := by
  simp [State.allLanesGo, State.each_mode]
@[simp] theorem State.loopsChange_mode (s : State) : (State.loopsChange s).mode = s.mode := by
  unfold State.loopsChange
  (repeat' split) <;> simp
@[simp] theorem State.lanesDown_mode (s : State) (keep : Bool) : (State.lanesDown s keep).mode = s.mode := by
  simp [State.lanesDown, State.ite_mode, State.each_mode]
@[simp] theorem State.openRxRuns_mode (s : State) (t cause : Nat) : (State.openRxRuns s t cause).mode = s.mode := by
  simp [State.openRxRuns, State.each_mode]
@[simp] theorem State.closeRxRuns_mode (s : State) (t cause : Nat) : (State.closeRxRuns s t cause).mode = s.mode := by
  simp [State.closeRxRuns, State.each_mode]
@[simp] theorem State.closeTxGate_mode (s : State) (t i c : Nat) : (State.closeTxGate s t i c).mode = s.mode := by
  simp [State.closeTxGate]
@[simp] theorem State.closeRxGate_mode (s : State) (t i c : Nat) : (State.closeRxGate s t i c).mode = s.mode := by
  simp [State.closeRxGate]
@[simp] theorem State.eachCar_mode (s : State) (cmask : BitVec 4) (pmask : BitVec 16) (f : State → Nat → Nat → State) (h0 : ∀ (s : State) (y0 : Nat) (y1 : Nat), (f s y0 y1).mode = s.mode) : (State.eachCar s cmask pmask f).mode = s.mode := by
  unfold State.eachCar
  (repeat' split) <;> simp [State.ite_mode, State.each_mode, *]
@[simp] theorem State.closeAllTx_mode (s : State) (t : Nat) : (State.closeAllTx s t).mode = s.mode := by
  simp [State.closeAllTx]
@[simp] theorem State.closeAllRx_mode (s : State) (t : Nat) : (State.closeAllRx s t).mode = s.mode := by
  simp [State.closeAllRx]
@[simp] theorem State.setSeqState_mode (s : State) (t q st : Nat) : (State.setSeqState s t q st).mode = s.mode := by
  simp [State.setSeqState]
@[simp] theorem State.judgePins_mode (s : State) (t : Nat) : (State.judgePins s t).mode = s.mode := by
  simp [State.judgePins, State.ite_mode, State.each_mode]
@[simp] theorem State.enterUnlock_mode (s : State) (t : Nat) : (State.enterUnlock s t).mode = s.mode := by
  simp [State.enterUnlock]
@[simp] theorem State.leaveUnlock_mode (s : State) (t : Nat) : (State.leaveUnlock s t).mode = s.mode := by
  simp [State.leaveUnlock]
@[simp] theorem State.wakeDacs_mode (s : State) (t : Nat) (pmask : Nat) : (State.wakeDacs s t pmask).mode = s.mode := by
  simp [State.wakeDacs, State.each_mode]
@[simp] theorem State.returnLoss_mode (s : State) (t i rl : Nat) (sim : Bool) : (State.returnLoss s t i rl sim).mode = s.mode := by
  simp [State.returnLoss, State.ite_mode, State.each_mode]
@[simp] theorem State.dflyEnd_mode (s : State) (t d : Nat) : (State.dflyEnd s t d).mode = s.mode := by
  have h0 : ∀ u v : State, u.mode = s.mode → v.mode = s.mode → ∀ c : Prop, [Decidable c] → (if c then u else v).mode = s.mode := by
    intro u v hu hv c _
    split <;> assumption
  unfold State.dflyEnd
  dsimp only
  apply h0
  · exact h0 _ _ (by simp) rfl _
  · apply h0
    · simp [State.ite_mode]
    · apply h0
      · split
        · apply h0 <;> simp [State.ite_mode]
        · simp [State.ite_mode]
      · simp [State.ite_mode]
@[simp] theorem State.endCapture_mode (s : State) (t d cause : Nat) : (State.endCapture s t d cause).mode = s.mode := by
  simp [State.endCapture, State.ite_mode, State.each_mode]
@[simp] theorem State.dramLose_mode (s : State) (c : Nat) : (State.dramLose s c).mode = s.mode := by
  simp [State.dramLose]
@[simp] theorem State.judgeJournal_mode (s : State) : (State.judgeJournal s).mode = s.mode := by
  simp [State.judgeJournal]
@[simp] theorem State.dramError_mode (s : State) : (s.dramError).mode = s.mode := by
  simp [State.dramError]
@[simp] theorem State.refuseReq_mode (s : State) (p : Nat) (r : DramReq) : (s.refuseReq p r).mode = s.mode := by
  unfold State.refuseReq
  dsimp only
  split <;> simp [State.emit]
@[simp] theorem State.judgeDram_mode (s : State) : (s.judgeDram).mode = s.mode := by
  unfold State.judgeDram
  dsimp only
  split
  · refine (State.each_mode _ _ _ fun u t => State.each_mode _ _ _ fun u d => by split <;> simp).trans ?_
    refine (State.each_mode _ _ _ fun u p => ?_).trans (by simp)
    refine (State.each_mode _ _ _ fun u r => by simp).trans ?_
    simp [State.setDramPort]
  · simp
@[simp] theorem State.setChan_mode (s : State) (c st : Nat) : (State.setChan s c st).mode = s.mode := by
  simp [State.setChan]
@[simp] theorem State.judgePanic_mode (s : State) (p : Nat) : (State.judgePanic s p).mode = s.mode := by
  simp [State.judgePanic, State.ite_mode, State.each_mode]
@[simp] theorem State.refreshPair_mode (s : State) (c bank row : Nat) : (s.refreshPair c bank row).mode = s.mode := by
  unfold State.refreshPair
  rw [State.bump_mode]
  exact State.each_mode _ _ _ fun s r => by simp [State.emit]
@[simp] theorem State.closeBank_mode (s : State) (c bank : Nat) : (s.closeBank c bank).mode = s.mode := by
  unfold State.closeBank
  refine (State.each_mode _ _ _ fun s x => by simp).trans ?_
  simp [State.modDramCh]
@[simp] theorem State.closeBanks_mode (s : State) (c : Nat) : (s.closeBanks c).mode = s.mode := by
  exact State.each_mode _ _ _ fun s b => by simp
@[simp] theorem State.abandonPorts_mode (s : State) : (s.abandonPorts).mode = s.mode := by
  exact State.each_mode _ _ _ fun s p => by simp [State.setDramPort]
@[simp] theorem State.selfRefresh_mode (s : State) : (s.selfRefresh).mode = s.mode := by
  unfold State.selfRefresh
  exact (State.each_mode _ _ _ fun s c => by (repeat' split) <;> simp).trans (by simp)
@[simp] theorem State.dramPowerOff_mode (s : State) : (s.dramPowerOff).mode = s.mode := by
  unfold State.dramPowerOff
  exact (State.each_mode _ _ _ fun s c => by simp [State.modDramCh]).trans (by simp)
@[simp] theorem State.sramStore_mode (l : List Byte) : ∀ (s : State) (a : Nat), (s.sramStore a l).mode = s.mode := by
  induction l with
  | nil => intro s a; rfl
  | cons b l ih => intro s a; rw [State.sramStore, ih]; simp [State.setCapByte]
@[simp] theorem State.portPush_mode (s : State) (p : Nat) (r : DramReq) : (s.portPush p r).mode = s.mode := by
  simp [State.portPush, State.modDramPort]
@[simp] theorem State.portPushAll_mode (s : State) (p : Nat) (rs : List DramReq) : (s.portPushAll p rs).mode = s.mode :=
  State.each_mode _ _ _ fun s r => State.portPush_mode s p r
@[simp] theorem State.capWrite_mode (s : State) (k : Capture) (o : Nat) (bs : List Byte) : (s.capWrite k o bs).mode = s.mode := by
  unfold State.capWrite
  split
  · exact State.portPushAll_mode _ _ _
  · simp
theorem State.putGranule_mode {s u : State} {t : Nat} {k : Capture} {bs : List Byte} (h : s.putGranule t k bs = some u) : u.mode = s.mode := by
  unfold State.putGranule at h
  (repeat' split at h) <;> cases h <;> simp [State.setCapBusy]
theorem State.takeGranule_mode {s u : State} {t d used num : Nat} (h : s.takeGranule t d used num = some u) : u.mode = s.mode := by
  unfold State.takeGranule at h
  obtain ⟨v, hv, rfl⟩ := Option.map_eq_some_iff.1 h
  rw [State.bumpWith_mode]
  · exact (show (v.setCap _ _).mode = v.mode by simp [State.setCap]).trans (State.putGranule_mode hv)
  · intro u; simp
theorem State.takeGranule_getD_mode (s : State) (t d used num : Nat) : ((s.takeGranule t d used num).getD s).mode = s.mode := by
  cases h : s.takeGranule t d used num with
  | none => rfl
  | some u => exact State.takeGranule_mode h
@[simp] theorem State.cutCapture_mode (s : State) (t d cause : Nat) : (State.cutCapture s t d cause).mode = s.mode := by
  have key : ∀ used num : Nat, (if used = 0 then s else (s.takeGranule t d used num).getD s).mode = s.mode := by
    intro used num
    split
    · rfl
    · exact State.takeGranule_getD_mode _ _ _ _ _
  exact (State.endCapture_mode _ _ _ _).trans (key _ _)
@[simp] theorem State.stopCaptures_mode (s : State) (armed : List Effect) (t : Nat) : (State.stopCaptures s armed t).mode = s.mode := by
  simp [State.stopCaptures, State.ite_mode, State.each_mode]
@[simp] theorem State.resetPm_mode (s : State) (t : Nat) : (State.resetPm s t).mode = s.mode := by
  simp [State.resetPm, State.each_mode]
@[simp] theorem State.resetWpd_mode (s : State) (t : Nat) : (State.resetWpd s t).mode = s.mode := by
  simp [State.resetWpd, State.each_mode]
@[simp] theorem State.logKind_mode (s : State) (kind : Nat) : (State.logKind s kind).mode = s.mode := by
  simp [State.logKind]
@[simp] theorem State.sendMplane_mode (s : State) (port : Nat) (src : List Byte) (part seq : Nat) (body : List Byte) : (State.sendMplane s port src part seq body).mode = s.mode := by
  simp [State.sendMplane]
@[simp] theorem State.relay_mode (s : State) (msg dest origin port seq : Nat) (body trailer : List Byte) : (State.relay s msg dest origin port seq body trailer).mode = s.mode := by
  simp [State.relay, State.ite_mode, State.each_mode]
@[simp] theorem State.respond_mode (s : State) (c : RilynCmd) (status : Nat) (data : List Word := []) (bulk : Nat := 0) : (State.respond s c status data bulk).mode = s.mode := by
  unfold State.respond
  dsimp only
  split
  · simp only [State.raise_mode, State.setBit_eq, State.setReg_mode]
    exact State.each_mode _ _ _ fun _ _ => rfl
  all_goals simp
@[simp] theorem State.fhConfigure_mode (s : State) : (State.fhConfigure s).mode = s.mode := by
  simp [State.fhConfigure]
@[simp] theorem State.setEnds_mode (s : State) (t q : Nat) (e : Option Nat) : (State.setEnds s t q e).mode = s.mode := by
  simp [State.setEnds]
@[simp] theorem State.disableBias_mode (s : State) (t i : Nat) : (State.disableBias s t i).mode = s.mode := by
  simp [State.disableBias]
@[simp] theorem State.clearRec_mode (s : State) (t q : Nat) : (State.clearRec s t q).mode = s.mode := by
  simp [State.clearRec]
@[simp] theorem State.enterOff_mode (s : State) (t q : Nat) : (State.enterOff s t q).mode = s.mode := by
  simp [State.enterOff]
@[simp] theorem State.enterSdDrain_mode (s : State) (t q delay : Nat) : (State.enterSdDrain s t q delay).mode = s.mode := by
  simp [State.enterSdDrain]
@[simp] theorem State.enterSdPa_mode (s : State) (t q : Nat) : (State.enterSdPa s t q).mode = s.mode := by
  simp [State.enterSdPa]
@[simp] theorem State.shutQuad_mode (s : State) (t q : Nat) : (State.shutQuad s t q).mode = s.mode := by
  have key : ∀ u : State, u.mode = s.mode → (match u.seqState t q with
      | 1 | 2 => u.enterSdDrain t q 0
      | 3 | 4 => (u.enterSdPa t q).modQuad (quadKey t q) fun k => { k with leftAt := some u.now }
      | 7 => if (s.quad (quadKey t q)).ends.isSome then u.modQuad (quadKey t q) fun k => { k with heldReq := true } else u.enterOff t q
      | _ => u).mode = s.mode := by
    intro u hu
    split <;> (try split) <;> simpa using hu
  unfold State.shutQuad
  apply key
  split <;> simp
@[simp] theorem State.shutdown_mode (s : State) (t : Nat) (qmask : BitVec 4) : (State.shutdown s t qmask).mode = s.mode := by
  simp [State.shutdown, State.each_mode]
@[simp] theorem State.shutdownAll_mode (s : State) : (State.shutdownAll s).mode = s.mode := by
  simp [State.shutdownAll, State.each_mode]
@[simp] theorem State.rffeFlush_mode (s : State) : (State.rffeFlush s).mode = s.mode := by
  simp [State.rffeFlush, State.each_mode]
@[simp] theorem State.endJob_mode (s : State) (path outcome : Nat) (nmse : Int) : (State.endJob s path outcome nmse).mode = s.mode := by
  simp [State.endJob, State.ite_mode, State.each_mode]
@[simp] theorem State.solverKick_mode (s : State) : (s.solverKick).mode = s.mode := by
  unfold State.solverKick
  (repeat' split) <;> rfl
@[simp] theorem State.lockPath_mode (s : State) (path : Nat) (b : Bool) : (State.lockPath s path b).mode = s.mode := by
  simp [State.lockPath]
@[simp] theorem State.beginWrites_mode (s : State) : (State.beginWrites s).mode = s.mode := by
  unfold State.beginWrites
  have key : ∀ u : State, u.mode = s.mode → (match u.coefCmd with
      | some c =>
        if (c.stop.isSome || u.swapPending (c.path / 16) (c.path % 16)) = true then u
        else ({ (u.lockPath c.path true) with coefCmd := some { c with stop := some (u.now + u.writeTime c.path) } } : State)
      | none => u).mode = s.mode := by
    intro u hu
    split
    · split
      · exact hu
      · simpa using hu
    · exact hu
  apply key
  (repeat' split) <;> simp
@[simp] theorem State.freeBuffer_mode (s : State) (t r : Nat) : (State.freeBuffer s t r).mode = s.mode := by
  simp [State.freeBuffer]
@[simp] theorem State.stopDpd_mode (s : State) : (State.stopDpd s).mode = s.mode := by
  have fold : ∀ (known : Nat → Option Int) (l : List Nat) (u : State), (l.foldl (fun (u : State) p => match known p with
      | some nmse => u.endJob p 7 nmse
      | none => (u.endJob p 7 (u.freeNow.setWidth 16).toInt).useFree) u).mode = u.mode := by
    intro known l
    induction l with
    | nil => intro u; rfl
    | cons x l ih =>
      intro u
      rw [List.foldl_cons, ih]
      split <;> simp
  unfold State.stopDpd
  dsimp only
  rw [State.beginWrites_mode, State.each_mode _ _ _ (fun s k => by simp)]
  refine (fold _ _ _).trans ?_
  show (match (s.each tiles fun s t => s.setFld (TDPD_SWAP_STAT t) TDPD_SWAP_STAT_PENDING 0).solver with
    | some (.write path _ _ _) => (s.each tiles fun s t => s.setFld (TDPD_SWAP_STAT t) TDPD_SWAP_STAT_PENDING 0).lockPath path false
    | _ => s.each tiles fun s t => s.setFld (TDPD_SWAP_STAT t) TDPD_SWAP_STAT_PENDING 0).mode = s.mode
  split <;> simp [State.each_mode]
@[simp] theorem State.occupy_mode (s : State) (t r stop : Nat) : (State.occupy s t r stop).mode = s.mode := by
  simp [State.occupy]
@[simp] theorem State.beginImage_mode (s : State) (t r stop : Nat) : (State.beginImage s t r stop).mode = s.mode := by
  simp [State.beginImage]
@[simp] theorem State.vacate_mode (s : State) (t r : Nat) : (State.vacate s t r).mode = s.mode := by
  simp [State.vacate]
@[simp] theorem State.endImage_mode (s : State) (t r : Nat) : (State.endImage s t r).mode = s.mode := by
  simp [State.endImage]
@[simp] theorem State.calCmd_mode (s : State) (t kind : Nat) (pmask : BitVec 16) : (State.calCmd s t kind pmask).mode = s.mode := by
  simp [State.calCmd, State.ite_mode, State.each_mode]
@[simp] theorem State.txClips_mode (s : State) (t i n : Nat) : (s.txClips t i n).mode = s.mode := by
  unfold State.txClips
  split <;> simp
@[simp] theorem State.countTx_mode (s : State) (t i : Nat) : (s.countTx t i).mode = s.mode := by
  unfold State.countTx
  split <;> simp
@[simp] theorem State.countTile_mode (s : State) (t : Nat) : (s.countTile t).mode = s.mode :=
  State.each_mode _ _ _ fun s i => State.countTx_mode s t i
@[simp] theorem State.portFree_mode (s : State) (t : Nat) : (State.portFree s t).mode = s.mode := by
  unfold State.portFree
  (repeat' split) <;> simp [State.ite_mode, State.each_mode]
@[simp] theorem State.burstCodes_mode (s : State) (t : Nat) (codes : List (Nat × Nat)) : (State.burstCodes s t codes).mode = s.mode := by
  simp [State.burstCodes, State.ite_mode, State.each_mode]
@[simp] theorem State.calRecord_mode (s : State) (t kind i code : Nat) (amp : Int) (phase : Nat) (delay : Int) : (State.calRecord s t kind i code amp phase delay).mode = s.mode := by
  simp [State.calRecord]
@[simp] theorem State.rxClips_mode (s : State) (t i n : Nat) : (s.rxClips t i n).mode = s.mode := by
  unfold State.rxClips
  split <;> simp
@[simp] theorem State.countRx_mode (s : State) (t i : Nat) : (s.countRx t i).mode = s.mode := by
  unfold State.countRx
  split
  · rfl
  · refine (State.each_mode _ _ _ fun u c => ?_).trans (by simp)
    dsimp only
    split <;> simp
@[simp] theorem State.txFresh_mode (s : State) (t i : Nat) : (s.txFresh t i).mode = s.mode := by
  simp [State.txFresh]
@[simp] theorem State.rxFresh_mode (s : State) (t i : Nat) : (s.rxFresh t i).mode = s.mode := by
  simp [State.rxFresh, State.each_mode]
@[simp] theorem State.countChains_mode (s : State) : (s.countChains).mode = s.mode := by
  simp [State.countChains, State.each_mode]
@[simp] theorem State.freshChains_mode (s : State) : (s.freshChains).mode = s.mode := by
  simp [State.freshChains, State.each_mode]
@[simp] theorem State.keepRxCtl_mode (s : State) (t : Nat) : (s.keepRxCtl t).mode = s.mode := by
  simp [State.keepRxCtl, State.setRxCtl]
@[simp] theorem State.dropArms_mode (s : State) : (s.dropArms).mode = s.mode := by
  have key : ∀ u : State, u.mode = s.mode → ({ u with hubAlign := none } : State).mode = s.mode := fun _ h => h
  unfold State.dropArms
  exact key _ (State.each_mode _ _ _ fun s t => by simp)
@[simp] theorem State.abortBurst_mode (s : State) (t : Nat) : (State.abortBurst s t).mode = s.mode := by
  unfold State.abortBurst
  (repeat' split) <;> simp [State.ite_mode, State.each_mode]
@[simp] theorem State.showQual_mode (s : State) : (State.showQual s).mode = s.mode := by
  simp [State.showQual, State.ite_mode, State.each_mode]
@[simp] theorem State.setOwn_mode (s : State) (q : Nat) : (State.setOwn s q).mode = s.mode := by
  simp [State.setOwn]
@[simp] theorem State.leaveLock_mode (s : State) : (State.leaveLock s).mode = s.mode := by
  simp [State.leaveLock, State.ite_mode, State.each_mode]
@[simp] theorem State.keeperEnter_mode (s : State) : (State.keeperEnter s).mode = s.mode := by
  simp [State.keeperEnter]
@[simp] theorem State.startGlide_mode (s : State) (p : Nat) : (State.startGlide s p).mode = s.mode := by
  simp [State.startGlide]
@[simp] theorem State.startGlides_mode (s : State) : (State.startGlides s).mode = s.mode := by
  simp [State.startGlides, State.ite_mode, State.each_mode]
@[simp] theorem State.stopGlides_mode (s : State) : (State.stopGlides s).mode = s.mode := by
  simp [State.stopGlides, State.each_mode]
@[simp] theorem State.leaveRun_mode (s : State) : (State.leaveRun s).mode = s.mode := by
  simp [State.leaveRun, State.each_mode]
@[simp] theorem State.leaveMode_mode (s : State) (m : Mode) : (s.leaveMode m).mode = s.mode := by
  simp [State.leaveMode, State.each_mode]
@[simp] theorem State.enterConfigure_mode (s : State) (fromBoot : Bool) : (State.enterConfigure s fromBoot).mode = s.mode := by
  simp [State.enterConfigure, State.ite_mode, State.each_mode]
@[simp] theorem State.beginTrans_mode (s : State) (m : Mode) : (State.beginTrans s m).mode = s.mode := by
  simp [State.beginTrans]
@[simp] theorem State.autoToQuiet_mode (s : State) : (State.autoToQuiet s).mode = s.mode := by
  simp [State.autoToQuiet, State.ite_mode, State.each_mode]
@[simp] theorem State.tryMode_mode (s : State) (c : RilynCmd) (m : Mode) : (State.tryMode s c m).mode = s.mode := by
  simp [State.tryMode, State.ite_mode, State.each_mode]
@[simp] theorem State.startCalStep_mode (s : State) (t : Nat) : (State.startCalStep s t).mode = s.mode := by
  unfold State.startCalStep
  (repeat' split) <;> simp [State.ite_mode, State.each_mode]
@[simp] theorem State.startCalReached_mode (s : State) : (State.startCalReached s).mode = s.mode := by
  unfold State.startCalReached
  (repeat' split) <;> simp [State.ite_mode, State.each_mode]
@[simp] theorem State.startCalFollow_mode (s : State) (t : Nat) : (State.startCalFollow s t).mode = s.mode := by
  simp [State.startCalFollow, State.ite_mode, State.each_mode]
@[simp] theorem State.answerAgain_mode (s : State) (c : RilynCmd) (d : MpDone) : (s.answerAgain c d).mode = s.mode := by
  unfold State.answerAgain; split <;> simp
theorem State.rilynNext_mode (s u : State) (c : RilynCmd) (h : s.rilynNext = some (c, u)) : u.mode = s.mode := by
  unfold State.rilynNext at h
  repeat' split at h
  all_goals simp at h
  all_goals obtain ⟨-, rfl⟩ := h; rfl
@[simp] theorem State.dropUnknown_mode (s : State) (n : Nat) : (s.dropUnknown n).mode = s.mode := by
  induction n generalizing s with
  | zero => rfl
  | succ n ih =>
    unfold State.dropUnknown
    repeat' split
    all_goals first | rfl | (rename_i h _ _; simpa [ih] using s.rilynNext_mode _ _ h) | (rename_i h _ _ _; simpa [ih] using s.rilynNext_mode _ _ h)
@[simp] theorem State.transAnswered_mode (s : State) : (State.transAnswered s).mode = s.mode := by
  have key : ∀ u : State, u.mode = s.mode → ∀ v : State, v.mode = s.mode →
      (if (u.autoQuiet && u.mode == .onAir) = true then v.beginTrans .quiet
      else match v.asked, v.rilynRun with
        | some m, some c => if v.trans.isSome = true then v else ({ v with asked := none } : State).tryMode c m
        | _, _ => v).mode = s.mode := by
    intro u hu v hv
    split
    · simpa using hv
    · split
      · split
        · exact hv
        · simpa using hv
      · exact hv
  unfold State.transAnswered
  dsimp only
  apply key
  · split <;> simp
  · show ((match s.asked, s.rilynRun with
      | none, some c => ({ s with rilynRun := none } : State).respond c 0
      | _, _ => s) : State).mode = s.mode
    split <;> simp
@[simp] theorem State.afterTrans_mode (s : State) : s.afterTrans.mode = s.mode := by simp [State.afterTrans]
@[simp] theorem State.cutShort_mode (s : State) : (State.cutShort s).mode = s.mode := by
  simp [State.cutShort]
@[simp] theorem State.judgeDet_mode (s : State) : (State.judgeDet s).mode = s.mode := by
  simp [State.judgeDet]
@[simp] theorem State.reloadTile_mode (s : State) (t : Nat) : (s.reloadTile t).mode = s.mode := by
  simp [State.reloadTile, State.setOrigin]
@[simp] theorem State.spllEffects_mode (s : State) (t st : Nat) : (State.spllEffects s t st).mode = s.mode := by
  simp [State.spllEffects, State.ite_mode, State.each_mode]
@[simp] theorem State.lpllEffects_mode (s : State) (k st : Nat) : (State.lpllEffects s k st).mode = s.mode := by
  simp [State.lpllEffects, State.ite_mode, State.each_mode]
@[simp] theorem State.hpllEffects_mode (s : State) (st : Nat) : (State.hpllEffects s st).mode = s.mode := by
  simp [State.hpllEffects, State.ite_mode, State.each_mode]
@[simp] theorem State.coastLimit_mode (s : State) (k : Nat) : (State.coastLimit s k).mode = s.mode := by
  simp [State.coastLimit, State.ite_mode, State.each_mode]
@[simp] theorem State.pllEnter_mode (s : State) (k st : Nat) : (State.pllEnter s k st).mode = s.mode := by
  simp [State.pllEnter, State.ite_mode, State.each_mode]
@[simp] theorem State.pllCalibrate_mode (s : State) (k : Nat) : (State.pllCalibrate s k).mode = s.mode := by
  simp [State.pllCalibrate]
@[simp] theorem State.applyHpll_mode (s : State) : (State.applyHpll s).mode = s.mode := by
  simp [State.applyHpll, State.ite_mode, State.each_mode]
@[simp] theorem State.clearRegs_mode (s : State) (p : Nat → Bool) : (State.clearRegs s p).mode = s.mode := by
  simp [State.clearRegs]
@[simp] theorem State.enableBias_mode (s : State) (t i : Nat) : (s.enableBias t i).mode = s.mode := by
  simp [State.enableBias, State.enterDrive, State.ite_mode]
@[simp] theorem State.enterGateWait_mode (s : State) (t q : Nat) : (s.enterGateWait t q).mode = s.mode := by
  simp [State.enterGateWait, State.each_mode]
@[simp] theorem State.enterGateSettle_mode (s : State) (t q : Nat) : (s.enterGateSettle t q).mode = s.mode := by
  simp [State.enterGateSettle]
@[simp] theorem State.seeCause_mode (s : State) (t q cause : Nat) : (s.seeCause t q cause).mode = s.mode := by
  simp [State.seeCause]
@[simp] theorem State.loseBias_mode (s : State) (t q : Nat) (driven : Bool) : (s.loseBias t q driven).mode = s.mode := by
  unfold State.loseBias
  dsimp only
  (repeat' split) <;> simp
@[simp] theorem State.gainBias_mode (s : State) (t q : Nat) : (s.gainBias t q).mode = s.mode := by
  unfold State.gainBias
  split <;> simp
@[simp] theorem State.judgeQuads_mode (s : State) (t : Nat) : (s.judgeQuads t).mode = s.mode := by
  simp [State.judgeQuads, State.each_mode]
@[simp] theorem State.domStops_mode (s : State) (d target : Nat) : (State.domStops s d target).mode = s.mode := by
  simp [State.domStops, State.ite_mode, State.each_mode]
@[simp] theorem State.domBegin_mode (s : State) (d target : Nat) : (State.domBegin s d target).mode = s.mode := by
  simp [State.domBegin, State.ite_mode, State.each_mode]
@[simp] theorem State.domRequest_mode (s : State) (d v lat : Nat) : (State.domRequest s d v lat).mode = s.mode := by
  simp [State.domRequest, State.ite_mode, State.each_mode]
@[simp] theorem State.riseAll_mode (s : State) : (State.riseAll s).mode = s.mode := by
  simp [State.riseAll, State.ite_mode, State.each_mode]
@[simp] theorem State.domAbort_mode (s : State) (d : Nat) : (State.domAbort s d).mode = s.mode := by
  unfold State.domAbort
  dsimp only
  split <;> simp
@[simp] theorem State.wake_mode (s : State) (n : Nat) (ds after : List Nat) : (State.wake s n ds after).mode = s.mode := by
  simp [State.wake, State.ite_mode, State.each_mode]
@[simp] theorem State.fresh_mode (s : State) : (State.fresh s).mode = s.mode := by
  simp [State.fresh]
@[simp] theorem State.outputsDown_mode (s : State) : (State.outputsDown s).mode = s.mode := by
  simp [State.outputsDown, State.each_mode]
@[simp] theorem State.setBoot_mode (s : State) (f : Fld) (v : Nat) : (State.setBoot s f v).mode = s.mode := by
  simp [State.setBoot]
@[simp] theorem State.startDram_mode (s old : State) (keep : Bool) : (State.startDram s old keep).mode = s.mode := by
  simp [State.startDram, State.ite_mode, State.each_mode]
@[simp] theorem State.startLanes_mode (s old : State) (keep : Bool) : (State.startLanes s old keep).mode = s.mode := by
  simp [State.startLanes, State.ite_mode, State.each_mode]
@[simp] theorem State.forceLpll_mode (s : State) (j x : Nat) : (s.forceLpll j x).mode = s.mode := by
  unfold State.forceLpll
  split <;> simp
@[simp] theorem State.startLpll_mode (s : State) (j : Nat) : (s.startLpll j).mode = s.mode := State.forceLpll_mode _ _ _
@[simp] theorem State.startPlls_mode (s : State) (warm asCold : Bool) : (State.startPlls s warm asCold).mode = s.mode := by
  unfold State.startPlls
  refine (State.each_mode _ _ _ fun v k => ?_).trans ((State.each_mode _ _ _ fun u j => ?_).trans ?_)
  · (repeat' split) <;> simp
  · simp
  · split <;> simp [State.each_mode]

@[simp] theorem State.dramStore_mode (l : List Byte) : ∀ (s : State) (a : Nat), (s.dramStore a l).mode = s.mode := by
  induction l with
  | nil => intro s a; rfl
  | cons b l ih => intro s a; rw [State.dramStore, ih]; simp [State.setDramCell]
@[simp] theorem State.pmemPut_mode (s : State) (a : Nat) (b : Byte) : (s.pmemPut a b).mode = s.mode := by
  simp [State.pmemPut, State.setPmemWord]
@[simp] theorem State.scribble_mode (s : State) (sp a n : Nat) : (s.scribble sp a n).mode = s.mode := by
  have key : ∀ u : State, u.mode = s.mode → ({ u with free := s.free + n } : State).mode = s.mode := fun _ h => h
  unfold State.scribble
  apply key
  split
  · split <;> simp
  · simp
  · simp [State.each_mode]
  · rfl
@[simp] theorem State.dropXfer_mode (s : State) (x : Xfer) : (s.dropXfer x).mode = s.mode := by
  unfold State.dropXfer
  dsimp only
  split
  · exact State.each_mode _ _ _ fun s r => State.scribble_mode _ _ _ _
  · simp
@[simp] theorem State.scDisable_mode (s : State) (n : Nat) : (s.scDisable n).mode = s.mode := by
  unfold State.scDisable
  dsimp only
  split <;> simp [State.setScChan]
@[simp] theorem State.scDisableAll_mode (s : State) : (s.scDisableAll).mode = s.mode := by
  simp [State.scDisableAll, State.each_mode]

/-! ### Those that change it -/

theorem State.enterMode_mode (s : State) (m : Mode) : (s.enterMode m).mode = m := by
  unfold State.enterMode
  split
  · assumption
  · have tail : ∀ u : State, u.mode = m →
        (if u.tap = .extest ∧ m ≠ .configure ∧ m ≠ .recovery then ({ u with tap := .bypass } : State) else u).mode = m := by
      intro u hu
      split <;> exact hu
    apply tail
    simp [State.when, State.ite_mode, State.each_mode]

@[simp] theorem State.trigger_mode (s : State) (warm : Bool) : (s.trigger warm).mode = .boot := by
  simp [State.trigger, State.enterMode_mode]

theorem State.domOff_mode (s : State) (l : List Nat) : (s.each l fun v d => v.setFld (PMU_DOM d) PMU_DOM_STATE domOff).mode = s.mode :=
  State.each_mode _ _ _ fun v _ => State.setReg_mode v _ _
theorem State.lowPower_mode (s : State) (held : Bool) (l : List Nat) :
    ({ s.setBit PMU_STATUS PMU_STATUS_REG_LP true with standbyHeld := held, wentOff := l } : State).mode = s.mode := State.setReg_mode s _ _
@[simp] theorem State.allOff_mode (s : State) (held : Bool) : (s.allOff held).mode = s.mode :=
  (State.lowPower_mode _ held (List.range 54)).trans (s.domOff_mode (List.range 54))

theorem State.enterStandby_mode (s : State) (held : Bool) : (s.enterStandby held).mode = .standby := by
  unfold State.enterStandby
  split
  · assumption
  · exact (State.allOff_mode _ _).trans ((State.setReg_mode _ _ _).trans ((State.fresh_mode _).trans (State.enterMode_mode _ _)))

end Sys2Proof.Machine
end

