-- ==== Sys2Proof/Laws/More.lean ====
section
/-!
SUPPORT. Small laws of guarded accesses and plain writes.
-/
namespace Sys2Proof.Machine

theorem State.guarded_of {s : State} {a : Nat} {f : State → State} (h : s.answers a = true) : s.guarded a f = f s := by
  simp [State.guarded, h]
theorem State.guarded_not {s : State} {a : Nat} {f : State → State} (h : s.answers a = false) : s.guarded a f = s.accessError := by
  simp [State.guarded, h]
theorem State.guardedRead_of {s : State} {a : Nat} {f : State → State} (h : s.answers a = true) : s.guardedRead a f = f s := by
  simp [State.guardedRead, h]
theorem State.configOnly_of {s : State} {f : State → State} (h : s.mode = .configure) : s.configOnly f = f s := by
  simp [State.configOnly, h]
theorem State.configOnly_not {s : State} {f : State → State} (h : s.mode ≠ .configure) : s.configOnly f = s.accessError := by
  simp [State.configOnly, h]

/-- A plain write changes one register. -/
theorem Frame.plainWrite {l : List Nat} {s t : State} (h : Frame l s t) (a : Nat) (w : Word) (ha : a ∈ l) : Frame l s (t.plainWrite a w) := by
  unfold State.plainWrite
  split
  · exact h.setReg _ _ ha
  · exact h

/-! ### Events and counters of the hub and of tiles -/

/-- A hub event without a condition sets its status bit. -/
theorem State.stored_raise_hub (s : State) (src : Nat) (h : src < 88) (hl : hasLevel src = false) : (s.raise src).stored src = true :=
  s.stored_raise src (by simp [State.mayAssert, show src < 96 by omega, h]) (by simp [State.follows, hl])

/-- A tile's event without a condition does so while the tile's domain is ON and its link up. -/
theorem State.stored_raise_tile (s : State) (t k : Nat) (ht : t < 4) (hk : k < 40) (hd : s.domOn (10 + t) = true)
    (hm : s.bit (Reg.TXCH_STATUS t) F.TXCH_STATUS_MUTE_LINK = false) (hl : hasLevel (96 + 40 * t + k) = false) :
    (s.raise (96 + 40 * t + k)).stored (96 + 40 * t + k) = true := by
  have e : (96 + 40 * t + k - 96) / 40 = t := by omega
  refine s.stored_raise _ ?_ (by simp [State.follows, hl])
  simp only [State.mayAssert, if_neg (show ¬ 96 + 40 * t + k < 96 by omega), e, hd, hm]
  simp
  omega

/-- A counter of 32 bits goes up and stops at its maximum. -/
theorem State.fld_bump (s : State) (cnt fr fb n : Nat) (hc : eventReg cnt = false) (hf : cnt ≠ fr) :
    (s.bump cnt fr fb n).fld cnt ⟨0, 32⟩ = min (s.fld cnt ⟨0, 32⟩ + n) (2 ^ 32 - 1) := by
  have hw : min (s.fld cnt ⟨0, 32⟩ + n) (2 ^ 32 - 1) % 2 ^ 32 = min (s.fld cnt ⟨0, 32⟩ + n) (2 ^ 32 - 1) := Nat.mod_eq_of_lt (by omega)
  unfold State.bump State.bumpWith
  simp only
  split
  · rw [State.fld_raise _ _ _ _ hc, State.fld_setFld_ne _ _ _ _ hf, State.fld_setFld _ _ _ _ (by decide)]
    exact hw
  · rw [State.fld_setFld _ _ _ _ (by decide)]
    exact hw

end Sys2Proof.Machine
end

