-- ==== Sys2Proof/Laws/Step.lean ====
section
/-!
SUPPORT. Commands and steps: every command ends with the judging of the MSI vectors.
-/
namespace Sys2Proof.Machine

/-- Every command has a next state, a judged one. -/
theorem exec_settles (i : Instr) (s : State) : ∃ t : State, exec i s = .next t.settle := by
  cases i <;> exact ⟨_, rfl⟩

/-- A step of a waiting command. -/
theorem step_cons (s : State) (c : Instr) (rest : List Instr) (h : s.pending = c :: rest) : step s = exec c { s with pending := rest } := by
  unfold step
  rw [h]

/-- A step on an empty queue. -/
theorem step_nil (s : State) (h : s.pending = []) : step s = .next s := by
  unfold step
  rw [h]

end Sys2Proof.Machine
end

