-- ==== Sys2Proof/Machine/Arbitration.lean ====
section
/-!
DEFINITION. The order in which register accesses of one cycle reach a block (R28).  Commands name no cycle: those that come in one cycle are
put into the queue together, each with its requester, and the queue runs them in turn, each whole (log entry 99).
-/
namespace Sys2Proof.Machine

/-- Who accesses a register: a Glide processor (0 GLIDE_H, 1 + t GLIDE_t), Rilyn, or the host. -/
inductive Requester where
  | glide (p : Fin 5) | rilyn | host
  deriving DecidableEq, Repr

/-- The place of a requester in the order of R28.  A broadcast write is its requester's access in each tile. -/
def Requester.rank : Requester → Nat
  | .glide p => p.val
  | .rilyn => 5
  | .host => 6

/-- An access of one cycle takes its place among those of the same cycle: after those of the same rank, before those of a later one. -/
def placeAccess (x : Requester × Instr) : List (Requester × Instr) → List (Requester × Instr)
  | [] => [x]
  | y :: l => if x.1.rank < y.1.rank then x :: y :: l else y :: placeAccess x l

/-- The accesses of one cycle in the order in which they reach the block. -/
def arbitrate (l : List (Requester × Instr)) : List (Requester × Instr) := l.foldl (fun done x => placeAccess x done) []

/-- Accesses that come in one cycle join the queue. -/
def State.submit (s : State) (l : List (Requester × Instr)) : State := { s with pending := s.pending ++ (arbitrate l).map Prod.snd }

end Sys2Proof.Machine
end

