-- ==== Sys2Proof/Machine/Pins.lean ====
section
/-!
DEFINITION. The balls (R476, R478) and what their groups carry (R398, R479, R480, R482, R483, R486, R487, Table 22-4), read from the state.
-/
namespace Sys2Proof.Machine
open Reg F

/-! ### Names of balls (R476, R478) -/

/-- The 19 letters of ball rows. -/
def rowLetters : List Char := "ABCDEFGHJKLMNPTUVWY".toList

/-- The name of ball row n, 1 to 64: a letter, or a pair of them with the first letter slow. -/
def rowName (n : Nat) : List Char :=
  let at_ := fun (k : Nat) => (rowLetters[k]?).toList
  if n ≤ 19 then at_ (n - 1) else at_ ((n - 20) / 19) ++ at_ ((n - 20) % 19)

/-- The number of a ball's row whose distance from its tile's package edge is k rows (Table 22-3): rows count from row A for TILE_0 and TILE_1,
from row CG, the 64th, for TILE_2 and TILE_3. -/
def edgeRow (t k : Nat) : Nat := if t < 2 then 1 + k else 64 - k

/-- Groups of RF balls at the edge. -/
inductive RfBall where
  | tx | rx | coupler
  deriving DecidableEq, Repr

/-- Row name and column of an RF ball of a path; `second`: its _N ball, or the CPLR ball. -/
def rfBall (g : RfBall) (t i : Nat) (second : Bool) : List Char × Nat :=
  (rowName (edgeRow t (match g with | .tx => 0 | .rx => 2 | .coupler => 4)), 32 * (t % 2) + 2 * i + 1 + b2n second)

/-! ### States of the pins (R479) -/

/-- The columns of Table 22-4. -/
inductive PinColumn where
  | unpowered | reset | boot | up
  deriving DecidableEq, Repr

/-- The column in force: the unpowered states hold in Standby, and after it until POR_N is released (R398); POR_N low at any other time is the
reset column. -/
def State.pinColumn (s : State) : PinColumn :=
  if s.mode = .standby then .unpowered
  else if !s.porHigh then .reset
  else if s.mode.code < 3 then .boot
  else .up

/-- The groups of Table 22-4. -/
inductive PinGroup where
  | tx | rx | paen | drainEn | bias | failSafeIn | laneTx | pcieTx | rffe | int | gpio | pulseOut | qspiCs | qspiClk | dramChannel | dramReset
  | uartTx | tdo
  deriving DecidableEq, Repr

/-- What a group carries; `owner`: what its own chapter gives; `scan`: what its cells of the boundary register hold. -/
inductive PinState where
  | undriven | pulledLow | low | high | commonMode | terminated | input | inputPulledDown | idle | released | owner | scan
  deriving DecidableEq, Repr

/-- Table 22-4. -/
def pinTable : PinGroup → PinColumn → PinState
  | .tx, .unpowered => .undriven
  | .tx, .reset => .commonMode
  | .tx, .boot => .commonMode
  | .tx, .up => .owner
  | .rx, .unpowered => .undriven
  | .rx, _ => .terminated
  | .paen, .unpowered => .pulledLow
  | .drainEn, .unpowered => .pulledLow
  | .paen, .up => .owner
  | .drainEn, .up => .owner
  | .paen, _ => .low
  | .drainEn, _ => .low
  | .bias, .up => .owner
  | .bias, _ => .undriven
  | .failSafeIn, _ => .input
  | .laneTx, .unpowered => .undriven
  | .laneTx, .up => .owner
  | .laneTx, _ => .idle
  | .pcieTx, .unpowered => .undriven
  | .pcieTx, .reset => .idle
  | .pcieTx, _ => .owner
  | .rffe, .unpowered => .undriven
  | .rffe, .up => .owner
  | .rffe, _ => .low
  | .int, .up => .owner
  | .int, _ => .released
  | .gpio, .unpowered => .undriven
  | .gpio, .up => .owner
  | .gpio, _ => .inputPulledDown
  | .pulseOut, .unpowered => .undriven
  | .pulseOut, .reset => .low
  | .pulseOut, _ => .owner
  | .qspiCs, .unpowered => .undriven
  | .qspiCs, .reset => .high
  | .qspiCs, _ => .owner
  | .qspiClk, .unpowered => .undriven
  | .qspiClk, .reset => .low
  | .qspiClk, _ => .owner
  | .dramChannel, .unpowered => .undriven
  | .dramChannel, .reset => .low
  | .dramChannel, _ => .owner
  | .dramReset, .unpowered => .undriven
  | .dramReset, .reset => .low
  | .dramReset, _ => .owner
  | .uartTx, .unpowered => .undriven
  | .uartTx, .reset => .high
  | .uartTx, _ => .owner
  | .tdo, _ => .undriven

/-- The groups whose outputs EXTEST drives: the digital outputs that the boundary register covers, but PAEN and DRAINEN, whose cells are
observe-only (R486, R487). -/
def scanGroup : PinGroup → Option Nat
  | .rffe => some 0
  | .int => some 1
  | .gpio => some 2
  | .pulseOut => some 3
  | .qspiCs => some 4
  | .qspiClk => some 5
  | .dramChannel => some 6
  | .dramReset => some 7
  | .uartTx => some 8
  | .tx | .rx | .paen | .drainEn | .bias | .failSafeIn | .laneTx | .pcieTx | .tdo => none

/-- What a group of pins carries; TDO outside Shift-DR and Shift-IR.  PCIE_TX stays idle until PCIE_PERST_N is released. -/
def State.pins (s : State) (g : PinGroup) : PinState :=
  match pinTable g s.pinColumn with
  | .owner => if g = .pcieTx ∧ !s.pcieUp then .idle else if s.tap = .extest ∧ (scanGroup g).isSome then .scan else .owner
  | x => if s.tap = .extest ∧ s.pinColumn = .boot ∧ (scanGroup g).isSome then .scan else x

/-- The level that EXTEST drives on ball n of a group: its cell of the boundary register. -/
def State.scanLevel (s : State) (g : PinGroup) (n : Nat) : Bool := s.boundary.getD (Config.scanCell ((scanGroup g).getD 0) n) false

/-- The data register between TDI and TDO that can be read without shifting a chain of cells (R486): the IDCODE. -/
def State.tapRegister (s : State) : Option Word := if s.tap = .idcode then some idcode else none

/-! ### Single pins -/

/-- PAEN_nn, DRAINEN_n: low but where the part is up and their rules raise them (R217, R480). -/
def State.paenPin (s : State) (t i : Nat) : Bool := s.pins .paen == .owner && (s.paenPins t (i / 4)).testBit (i % 4)
def State.drainPin (s : State) (t q : Nat) : Bool := s.pins .drainEn == .owner && s.drainEn t q
/-- INT_n is driven low (R469, R487). -/
def State.intPinLow (s : State) (n : Nat) : Bool :=
  match s.pins .int with
  | .owner => s.intLow n
  | .scan => !s.scanLevel .int n
  | _ => false

/-- The lines and the MHz with which Rilyn's boot ROM reads image A, by the strap GPIO_30 (R483). -/
def State.bootRead (s : State) : Nat × Nat := if s.strap.getLsbD 0 then (4, 100) else (1, 25)

/-- The paths whose GPIO route covers a ball, by part-wide number (R482). -/
def State.gpioPaths (s : State) (n : Nat) : List Nat :=
  (List.range 64).filter fun k =>
    let a := RXCH_STEP_CFG (k / 16) (k % 16)
    let base := min 26 (s.fld a RXCH_STEP_CFG_GPIO_BASE)
    s.tileOn (k / 16) && s.bit a RXCH_STEP_CFG_ROUTE && decide (base ≤ n) && decide (n ≤ base + 5)

/-- The level a GPIO ball drives, none while it is an input; in EXTEST its cell's (R487); else the bit of the latest change that covers it, or, before any, of the code in force of
the highest path that covers it (R115, R482). -/
def State.gpioPin (s : State) (n : Nat) : Option Bool :=
  match s.pins .gpio, (s.gpioPaths n).getLast? with
  | .owner, some k =>
    match s.stepPins.lookup n with
    | some p => some p.level
    | none =>
      let a := RXCH_STEP_CFG (k / 16) (k % 16)
      some ((s.fld a RXCH_STEP_CFG_CODE).testBit (n - min 26 (s.fld a RXCH_STEP_CFG_GPIO_BASE)))
  | .scan, _ => some (s.scanLevel .gpio n)
  | _, _ => none

end Sys2Proof.Machine
end

