-- ==== Sys2Proof/WellFormed.lean ====
section
/-!
DEFINITION. What the operands of a command must meet beyond their types: addresses aligned (R8), lists of the length the part gives them, codes
within the ranges the spec lists.  The meanings are total: an ill-formed command has a next state too, but stands for nothing the part meets.
-/
namespace Sys2Proof

/-- The paths named in a list of measurements are distinct. -/
def distinctPaths : List Nat → Bool
  | [] => true
  | a :: l => !l.contains a && distinctPaths l

/-- A command is well formed. -/
def Instr.wellFormed (i : Instr) : Bool :=
  match i with
  | .registerWrite a .. | .unoccupiedRead a | .counterFlagClear a .. => decide (a.toNat % 4 = 0)
  | .broadcastWrite a _ | .tileAllRead a => decide (a.toNat % 4 = 0)
  | .glideAt _ _ es | .glideAtRel _ _ es => decide (es.length ≤ 8)
  | .bundleDispatch r n => !r || decide (n < 4)
  | .calBurstResults _ _ tx rx => distinctPaths (tx.map fun m => m.path.val) && distinctPaths (rx.map fun m => m.path.val)
  | .imageCalEnd _ _ _ taps => decide (taps.length = 8)
  | .adcCalUpdate _ _ cs _ => decide (cs.length = 24)
  | .ethFrameReceive _ bs _ _ => decide (14 ≤ bs.length)
  | .ptpSyncSend _ h => decide (h.length = 34)
  | .mplaneRelayMessage _ m => decide (4 ≤ m ∧ m ≤ 6)
  | .dramPortRequest _ w a bs => decide (a.toNat % 64 = 0) && (!w || decide (1 ≤ bs.length ∧ bs.length ≤ 64))
  | .startFailure c st => decide (1 ≤ c ∧ c ≤ 5) && decide (1 ≤ st ∧ st ≤ 8)
  | .startWatchdog st | .lockstepMismatch st => decide (1 ≤ st ∧ st ≤ 8)
  | .xcheckEval ps => decide (ps.length = 5)
  | .cicadaRead rs => decide (rs.length = 5) && rs.all fun r => decide (r.length = 20)
  | .stressRateRecord fs => decide (fs.length = 5)
  | _ => true

end Sys2Proof
end

