-- ==== Sys2Proof/Tests/Slice0.lean ====
section
/-!
SUPPORT. Tests: a term that each check of WellFormed refuses, values the spec gives, and for every obligation a theorem that shows states and
operands that meet the hypotheses of its clauses together, at boundary values where a clause has a range.  What depends on an input of
the world alone (Config) is left out of the witnesses.
-/
namespace Sys2Proof.Tests
open Sys2Proof Sys2Proof.Machine Sys2Proof.Machine.Reg Sys2Proof.Machine.F

set_option Elab.async false

/-- The state after a command. -/
def post (i : Instr) (s : State) : State := match exec i s with
  | .next t => t
  | _ => s
/-- In On-air mode, no start due. -/
def base : State := { mode := .onAir, startDue := none }
def fw (l : List (Fld × Nat)) : Word := l.foldl (fun w x => putF w x.1 x.2) 0

/-! ### WellFormed -/

/-- A term for each check, which it refuses. -/
theorem test_wellFormed_refuses : (([.registerWrite 0x30011 0 15 0 0 0, .unoccupiedRead 2, .counterFlagClear 3 0 0, .broadcastWrite 1 0, .tileAllRead 2,
   .glideAt 0 .clean (List.replicate 9 .clean), .glideAtRel 0 .clean (List.replicate 9 .clean), .bundleDispatch true 4,
   .calBurstResults 0 0 [⟨3, [], 0⟩, ⟨3, [], 0⟩] [], .calBurstResults 0 0 [] [⟨3, [], 0⟩, ⟨3, [], 0⟩], .imageCalEnd 0 0 0 (List.replicate 7 (0, 0)),
   .adcCalUpdate 0 0 (List.replicate 23 0) true, .ethFrameReceive 0 (List.replicate 13 0) false 0, .ptpSyncSend 0 (List.replicate 33 0),
   .mplaneRelayMessage 0 3, .mplaneRelayMessage 0 7, .dramPortRequest 0 false 63 [], .dramPortRequest 0 true 64 [],
   .dramPortRequest 0 true 64 (List.replicate 65 0), .startFailure 0 1, .startFailure 6 1, .startFailure 1 0, .startFailure 1 9, .startWatchdog 0,
   .startWatchdog 9, .lockstepMismatch 0, .lockstepMismatch 9, .xcheckEval [0, 0, 0, 0], .cicadaRead (List.replicate 4 (List.replicate 20 0)),
   .cicadaRead (List.replicate 5 (List.replicate 19 0)), .stressRateRecord [1, 1, 1, 1]] : List Instr).all
      fun i => !i.wellFormed) = true := by decide +kernel

/-- At the bounds of the same checks. -/
theorem test_wellFormed_admits : ([.registerWrite 0x30010 0 15 0 0 0, .glideAt 0 .clean (List.replicate 8 .clean), .bundleDispatch true 3,
    .calBurstResults 0 0 [⟨3, [], 0⟩] [⟨3, [], 0⟩], .dramPortRequest 0 true 64 (List.replicate 64 0), .startFailure 5 8,
    .mplaneRelayMessage 0 4, .ethFrameReceive 0 (List.replicate 14 0) false 0] : List Instr).all Instr.wellFormed = true := by decide +kernel

/-! ### Values the spec gives -/

/-- An empty queue idles (log entry 4); the command in front runs. -/
theorem test_idle : step State.reset = .next State.reset := rfl

/-- 00_scope.md: block code 0x1C of TILE_2 at offset 0x0120 is device address 0x031C_0120. -/
theorem test_address : dieOf 0x031C0120 = 3 ∧ blockOf 0x031C0120 = 0x1C := by decide

/-- Table 12-3: the checks of the nine bytes "123456789". -/
theorem test_checkValues :
    let bs : List Byte := [0x31, 0x32, 0x33, 0x34, 0x35, 0x36, 0x37, 0x38, 0x39]
    crcResult crc32c (crcBytes crc32c crc32c.init bs) = 0xE3069283 ∧ crcResult crcFlit (crcBytes crcFlit crcFlit.init bs) = 0xFC891918 := by
  decide +kernel

/-- 22_package_pins.md: row 52 is BP; TX_42_P and TX_42_N are CG21 and CG22, CPLR_42 is CC22. -/
theorem test_balls : rowName 52 = ['B', 'P'] ∧ rfBall .tx 2 10 false = (['C', 'G'], 21) ∧ rfBall .tx 2 10 true = (['C', 'G'], 22) ∧
    rfBall .coupler 2 10 true = (['C', 'C'], 22) := by decide +kernel

/-- 03_transmit_path.md, placing a carrier: 100 MHz at 30 kHz, 150 MHz above 3,600 MHz, takes ratio 20 and is valid; its centre is 3,750 MHz. -/
theorem test_carrier : let k : Carcfg := ⟨true, false, false, 273, 0, 12, false, 1⟩
    k.ok = true ∧ k.ratio = 20 ∧ centre48 0x1F4000000000 0x0FA000000000 = 3750000 * 2 ^ 48 := by decide +kernel

/-- Table 2-25: every word of the program of a tile's processor is valid and well formed. -/
theorem test_slotProgram : ([0x2110000000010100, 0x2120000000010104, 0x3522080000000020, 0x3411200000000000, 0x01010FFFFFE20000, 0x18CF000000000000,
    0x01010FFFFFFFF000, 0x1880FFFF00000000, 0x01010FFFFFFFF800, 0x1010FFFF00000000, 0x01010000000AB000, 0x1110FFFF00000000, 0x1800FFFF00000000,
    0x1A10FFFF00018000, 0x1210FFFF00000000, 0x1310FFFF00000000, 0x31110800000F0000, 0x2A00000000000006] : List (BitVec 64)).all
      (fun w => gValid (gOp w) && gWellFormed false w) = true := by decide +kernel

/-- GLIDE_0 at an index of that program, g1 and g2 set. -/
def slotAt (pc : Nat) (g1 g2 : BitVec 64) (imem : List (Nat × BitVec 64)) : State :=
  { base with glides := [(1, { st := .running, pc := pc, g := [(1, g1), (2, g2)], imem := imem })] }

/-- Index 2, SHL g2, g2, 32; index 3, OR g1, g1, g2; index 20, ADD g1, g1, 983,040; index 21, JMP 6. -/
theorem test_slotArithmetic :
    ((post (.glideShl 1 .clean) (slotAt 2 7 3 [(2, 0x3522080000000020)])).glide 1).g = [(1, 7), (2, 0x300000000)] ∧
    ((post (.glideOr 1 .clean) (slotAt 3 7 0x300000000 [(3, 0x3411200000000000)])).glide 1).g = [(1, 0x300000007), (2, 0x300000000)] ∧
    ((post (.glideAdd 1 .clean) (slotAt 20 5 3 [(20, 0x31110800000F0000)])).glide 1).g = [(1, 983045), (2, 3)] ∧
    ((post (.glideJmp 1 .clean) (slotAt 21 5 3 [(21, 0x2A00000000000006)])).glide 1).pc = 6 := by decide +kernel

/-- Index 4, AT g1 - 1,966,080 with the PAEN of index 5: the bundle waits for its time, 1 ms before S. -/
theorem test_slotBundle :
    let g := (post (.glideAt 1 .clean [.clean]) (slotAt 4 1000000000 3 [(4, 0x01010FFFFFE20000), (5, 0x18CF000000000000)])).glide 1
    (g.queue.map fun b => (b.time.toNat, b.members.length)) = [(1000000000 - 1966080, 1)] ∧ g.pc = 6 := by decide +kernel

/-- Table 2-26: the gates of TXON open 2,048 Tc after their bundle's time, those of RXON 256 Tc after it. -/
theorem test_slotInstants :
    let run := fun (w : BitVec 64) => ((post (.bundleDispatch false 1) (post (.glideAt 1 .clean [.clean])
      (slotAt 8 1000000 3 [(8, 0x0101000000000000), (9, w)]))).effects.map Effect.at_)
    run 0x1010FFFF00000000 = [1002048] ∧ run 0x1210FFFF00000000 = [1000256] := by decide +kernel

/-! ### Witnesses -/
/-- Burog port 0 holds a message of one payload on channel vc. -/
def inboxed (vc : Nat) (p : BitVec 256) : State := { base with burogs := [(0, { inbox := [(vc, [p])] })] }
def took (vc msg : Nat) (s : State) : State := ((s.burogTake 0 vc msg).map Prod.snd).getD s
/-- A command of 66 words waits, and the state after it is taken. -/
def cmdOf (ws : List Word) : CtrlCmd := ⟨1, 660, 1, 0, 2000000, true, ws⟩
def defWaits : State := { base with ctrlCmds := [cmdOf (0x3000042 :: 4 :: List.replicate 64 0)], beamMap := [(4, some ⟨9, true⟩)] }
def delWaits : State := { base with ctrlCmds := [cmdOf [0x4000002, 4]], beamMap := [(4, some ⟨9, true⟩)] }
def takenCmd (code : Nat) (s : State) : State := ((s.takeCmd code).map Prod.snd).getD s
def fullPort : DramPort := { queue := List.replicate 1024 ⟨1, 256, true, [1], false, 1⟩ }
/-- Port p has its link. -/
def linked (p : Nat) : State := { base with regs := [(MAC_PSTAT p, fw [(MAC_PSTAT_LINK, 1)])] }
/-- A frame of 60 bytes to the address of PTP. -/
def ptpFrame (etype : List Byte) : List Byte := [0x01, 0x1B, 0x19, 0, 0, 0] ++ List.replicate 6 2 ++ etype ++ List.replicate 46 0
/-- A data message of one section waits in the queue of the fronthaul, at a time of the timebase, under a reception window. -/
def fhMsg : EcpriMsg := ⟨0, 900, [16, 0, 0, 52, 17, 128, 7, 128, 16, 0, 0, 0, 165, 4, 16, 0, 0, 0, 0, 0, 0, 0, 64, 0, 0, 1, 2, 3, 4, 5, 6, 7, 8, 9, 10, 11, 12, 13, 14, 15, 16, 17, 18, 19, 20, 21, 22, 23, 24, 25, 26, 27, 250, 155, 197, 12]⟩
def fhWaits (win : Word) (tb : BitVec 64) : State :=
  { mode := .onAir, tb := tb, fhMsgs := [fhMsg], regs := [(MAC_FH_WIN, win), (BUROG_STATUS, 0x80000000), (TXCH_CARCFG 1 1, 0x80017701)] }
def fhTook (s : State) : State := ((s.takeFh fun m => m.type == 0).map Prod.snd).getD s
def fhIn (u : State) : State := match u.fhAccept fhMsg with | .inr (v, _) => v | _ => u
def fhBody : List Byte := fhMsg.bytes.drop 4
def fhSec : DataSec := ⟨0, 1, 8, List.map (BitVec.ofNat 8) (List.range 25)⟩
/-- A bundle of three members. -/
def threeTxon (T : BitVec 64) (late : Bool) : Bundle := ⟨T, late, 3, [.txon 1 17, .txon 2 17, .txon 3 17], 60⟩
def atWord (p : Nat) (w : BitVec 64) : Nat × Glide := (p, { st := .running, pc := 3, imem := [(3, w), (4, 0x1010000F00000000)] })
theorem firstBlock (b : Nat) : Meter.step {} 0 0 0 b = ({ blocks := [b], ranks := [b] }, some (b, 1)) := by
  simp only [Meter.step]
  show _ = _
  exact congrArg (fun n => (({ blocks := [b], ranks := [b] } : Meter), some (n, 1))) (Nat.add_zero b)
/-- The mailbox holds a command of Rilyn with OP and parameters. -/
def mbx (op : Nat) (params : List Word) : RilynCmd := { origin := .mailbox, op := op, tag := 9, len := 4 * params.length, params := params, at_ := 500 }
def mbxWaits (op : Nat) (params : List Word) : State := { base with mbxCmd := some (mbx op params) }
def framed (op : Nat) : RilynCmd := { origin := .frame 2 [2, 0, 0, 0, 0, 9] 0 77, op := op, tag := 9, len := 12, params := [] }
/-- A committed section-symbol of carrier 1. -/
def secSym (ul : Bool) (sym : Nat) (r : Replay) (st : Stage) : SecSym :=
  { key := ⟨ul, 1, 7, sym⟩, desc := { layer := 3, mode := 1, gran := 1, nrb := 1, beamA := 3, beamB := 4, version := 2 }, stage := st, used := { layer := 3 }, replay := r }
theorem sget_all {α : Type} (d : Nat → α) (v : α) : ∀ (l : List Nat) (k : Nat), k ∈ l → sget d (l.map fun e => (e, v)) k = v
  | e :: l, k, h => by
    show (if e = k then v else sget d (l.map fun e => (e, v)) k) = v
    by_cases he : e = k
    · exact if_pos he
    · exact (if_neg he).trans (sget_all d v l k ((List.mem_cons.1 h).resolve_left (Ne.symm he)))
def fullMap (n : Nat) : State := { base with beamCmd := some (1, 5, 400), entries := (List.range n).map fun e => (e, .current) }
theorem fullMap_none (n : Nat) (h : 8192 ≤ n) : (fullMap n).freeEntry = none :=
  List.find?_eq_none.2 fun e he => by
    rw [show (fullMap n).entry e = .current from sget_all _ _ _ _ (List.mem_range.2 (Nat.lt_of_lt_of_le (List.mem_range.1 he) h))]; decide
def interp : SecSym := { key := ⟨true, 1, 7, 33⟩, desc := { layer := 3, mode := 2, gran := 1, nrb := 1, beamA := 3, beamB := 4, version := 2 } }
def fullPages (n : Nat) : State := { mode := .onAir, secs := [interp], pagesSt := (List.range n).map fun e => (e, .committed) }
theorem fullPages_none (n k : Nat) (h : 3584 ≤ n) : (fullPages n).freePages k = [] := by
  rw [State.freePages, List.filter_eq_nil_iff.2 fun e he => by
    rw [show (fullPages n).page e = .committed from sget_all _ _ _ _ (List.mem_range.2 (Nat.lt_of_lt_of_le (List.mem_range.1 he) h))]; decide]
  exact List.take_nil

set_option maxRecDepth 100000 in
theorem witness_RegisterAccess :
    (∃ (s : State) (a : BitVec 28) (bytes : BitVec 4), (bytes ≠ 0xF ∨ (s.struck = 0 ∧ dieOf a.toNat ≠ 15 ∧ s.answers a.toNat = false))) ∧
    (∃ (s : State) (a : BitVec 28), dieOf a.toNat ≠ 15 ∧ s.answers a.toNat = false) ∧
    (∃ (ofs : BitVec 24), tileRegs (blockOf ofs.toNat) = []) ∧
    (∃ (s : State) (k : Fin 8) (p : Fin 5), s.struck = 0 ∧ s.answers (GLIDE_PARAM p k) = true) ∧
    (∃ (s : State) (k : Fin 8) (p : Fin 4), s.struck = 0 ∧ (∀ p : Fin 4, s.answers (GLIDE_PARAM (1 + p) k) = true)) :=
  ⟨⟨base, 0x30010, 15, by decide +kernel⟩,
    ⟨base, 0x30010, by decide +kernel⟩,
    ⟨0x30010, by decide +kernel⟩,
    ⟨{ mode := .configure }, 0, 0, by decide +kernel⟩,
    ⟨{ mode := .configure }, 0, 0, by decide +kernel⟩⟩

set_option maxRecDepth 100000 in
theorem witness_PartEvents :
    (∃ (s : State) (t : Fin 4) (b : Bundle), (s.fifo t).getLast? = some b ∧ s.now ≤ b.avail) ∧
    (∃ (s : State) (t : Fin 4), (∀ b, (s.fifo t).getLast? = some b → b.avail < s.now)) ∧
    (∃ (s : State) (t : Fin 4), (s.glide 0).st = .waitGet ∧ dieOf (s.glide 0).getAddr = 1 + (t : Nat)) ∧
    (∃ (s : State) (t : Fin 4), ((s.glide 0).st ≠ .waitGet ∨ dieOf (s.glide 0).getAddr ≠ 1 + (t : Nat))) ∧
    (∃ (s : State) (t : Fin 4), s.tileOn t = true ∧ s.bit (TXCH_STATUS t) TXCH_STATUS_MUTE_LINK = false) ∧
    (∃ (s : State) (t : Fin 4), (s.tileOn t = false ∨ s.bit (TXCH_STATUS t) TXCH_STATUS_MUTE_LINK = true)) ∧
    (∃ (s : State) (t : Fin 4) (a : BitVec 28), a.toNat % 4 = 0 ∧ dieOf a.toNat = 1 + (t : Nat) ∧ s.struck.getLsbD t = true) ∧
    (∃ (s : State), s.porHigh = false ∧ s.railsIn = true) ∧
    (∃ (s : State), s.porHigh = false ∧ s.railsIn = false) ∧
    (∃ (s : State), s.porHigh = true ∧ s.railsIn = true ∧ s.standbyHeld = false ∧ s.thermShut = false) ∧
    (∃ (s : State), (s.porHigh = false ∨ s.railsIn = false ∨ s.standbyHeld = true ∨ s.thermShut = true)) ∧
    (∃ (s : State), (s.resumeAt = none ∨ s.mode ≠ .onAir)) ∧
    (∃ (s : State), (s.trans = none ∨ (∃ tr, s.trans = some tr ∧ tr.shutdown = true ∧ s.allDown = false))) ∧
    (∃ (s : State) (b : Nat), s.resumeAt = some b ∧ s.mode = .onAir) ∧
    (∃ (s : State) (tr : Trans), s.trans = some tr ∧ (tr.shutdown = false ∨ s.allDown = true)) :=
  ⟨⟨{ base with now := 60, fifos := [(3, [threeTxon 1000 true])] }, 3, (threeTxon 1000 true), by decide +kernel⟩,
    ⟨base, 0, by decide +kernel⟩,
    ⟨{ base with glides := [(0, { st := .waitGet, getAddr := 0x4000000 })] }, 3, by decide +kernel⟩,
    ⟨base, 0, by decide +kernel⟩,
    ⟨base, 0, by decide +kernel⟩,
    ⟨{ base with regs := [(TXCH_STATUS 0, 0x4A282CD7)] }, 0, by decide +kernel⟩,
    ⟨{ base with struck := 8 }, 3, 0x4000000, by decide +kernel⟩,
    ⟨{ base with porHigh := false }, by decide +kernel⟩,
    ⟨{ base with porHigh := false, railsIn := false }, by decide +kernel⟩,
    ⟨base, by decide +kernel⟩,
    ⟨{ base with thermShut := true }, by decide +kernel⟩,
    ⟨base, by decide +kernel⟩,
    ⟨base, by decide +kernel⟩,
    ⟨{ mode := .onAir, resumeAt := some 7000 }, 7000, by decide +kernel⟩,
    ⟨{ base with trans := some ⟨.quiet, false, 900⟩ }, ⟨.quiet, false, 900⟩, by decide +kernel⟩⟩

set_option maxRecDepth 100000 in
theorem witness_GlideArithmetic :
    (∃ (s : State) (p : Fin 5) (w : BitVec 64) (ecc : Ecc), ecc ≠ .fatal ∧ s.Ready p 0x31 w) ∧
    (∃ (s : State) (p : Fin 5) (w : BitVec 64) (ecc : Ecc), ecc ≠ .fatal ∧ s.Ready p 0x32 w) ∧
    (∃ (s : State) (p : Fin 5) (w : BitVec 64) (ecc : Ecc), ecc ≠ .fatal ∧ s.Ready p 0x33 w) ∧
    (∃ (s : State) (p : Fin 5) (w : BitVec 64) (ecc : Ecc), ecc ≠ .fatal ∧ s.Ready p 0x34 w) ∧
    (∃ (s : State) (p : Fin 5) (w : BitVec 64) (ecc : Ecc), ecc ≠ .fatal ∧ s.Ready p 0x35 w) ∧
    (∃ (s : State) (p : Fin 5) (w : BitVec 64) (ecc : Ecc), ecc ≠ .fatal ∧ s.Ready p 0x36 w) ∧
    (∃ (s : State) (p : Fin 5) (w : BitVec 64) (ecc : Ecc), ecc ≠ .fatal ∧ s.Ready p 0x37 w) ∧
    (∃ (s : State) (p : Fin 5) (w : BitVec 64) (ecc : Ecc), ecc ≠ .fatal ∧ s.Ready p 0x30 w ∧ gBits w 48 2 = 0) ∧
    (∃ (s : State) (p : Fin 5) (w : BitVec 64) (ecc : Ecc), ecc ≠ .fatal ∧ s.Ready p 0x30 w ∧ gBits w 48 2 = 1) ∧
    (∃ (s : State) (p : Fin 5) (w : BitVec 64) (ecc : Ecc), ecc ≠ .fatal ∧ s.Ready p 0x30 w ∧ gBits w 48 2 = 2) ∧
    (∃ (s : State) (p : Fin 5) (w : BitVec 64) (ecc : Ecc), ecc ≠ .fatal ∧ s.Ready p 0x30 w ∧ gBits w 48 2 = 3) :=
  ⟨⟨{ mode := .onAir, glides := [(0, { pc := 3, st := .running, imem := [(3, 0x3121080000000005)] })] }, 0, 0x3121080000000005, .clean,
         by unfold State.Ready; decide +kernel⟩,
    ⟨{ mode := .onAir, glides := [(0, { pc := 3, st := .running, imem := [(3, 0x3221080000000007)] })] }, 0, 0x3221080000000007, .clean,
         by unfold State.Ready; decide +kernel⟩,
    ⟨{ mode := .onAir, glides := [(0, { pc := 3, st := .running, imem := [(3, 0x3321080000000FF0)] })] }, 0, 0x3321080000000FF0, .clean,
         by unfold State.Ready; decide +kernel⟩,
    ⟨{ mode := .onAir, glides := [(0, { pc := 3, st := .running, imem := [(3, 0x3421300000000000)] })] }, 0, 0x3421300000000000, .clean,
         by unfold State.Ready; decide +kernel⟩,
    ⟨{ mode := .onAir, glides := [(0, { pc := 3, st := .running, imem := [(3, 0x3521080000000005)] })] }, 0, 0x3521080000000005, .clean,
         by unfold State.Ready; decide +kernel⟩,
    ⟨{ mode := .onAir, glides := [(0, { pc := 3, st := .running, imem := [(3, 0x3621080000000003)] })] }, 0, 0x3621080000000003, .clean,
         by unfold State.Ready; decide +kernel⟩,
    ⟨{ mode := .onAir, glides := [(0, { pc := 3, st := .running, imem := [(3, 0x3701080000000007)] })] }, 0, 0x3701080000000007, .clean,
         by unfold State.Ready; decide +kernel⟩,
    ⟨{ mode := .onAir, glides := [(0, { pc := 3, st := .running, imem := [(3, 0x3020800000000001)] })] }, 0, 0x3020800000000001, .clean,
         by unfold State.Ready; decide +kernel⟩,
    ⟨{ mode := .onAir, glides := [(0, { pc := 3, st := .running, imem := [(3, 0x3021300000000000)] })] }, 0, 0x3021300000000000, .clean,
         by unfold State.Ready; decide +kernel⟩,
    ⟨{ mode := .onAir, glides := [(0, { pc := 3, st := .running, imem := [(3, 0x3022000000001234)] })] }, 0, 0x3022000000001234, .clean,
         by unfold State.Ready; decide +kernel⟩,
    ⟨{ mode := .onAir, glides := [(0, { pc := 3, st := .running, imem := [(3, 0x3023000000000000)] })] }, 0, 0x3023000000000000, .clean,
         by unfold State.Ready; decide +kernel⟩⟩

set_option maxRecDepth 100000 in
theorem witness_GlideFlow :
    (∃ (s : State) (p : Fin 5) (w : BitVec 64) (ecc : Ecc), ecc ≠ .fatal ∧ s.Ready p 0x38 w) ∧
    (∃ (s : State) (p : Fin 5) (w : BitVec 64) (ecc : Ecc), ecc ≠ .fatal ∧ s.Ready p 0x2A w) ∧
    (∃ (s : State) (p : Fin 5) (w : BitVec 64) (ecc : Ecc), let g := s.glide p; ecc ≠ .fatal ∧ s.Ready p 0x2B w ∧ g.calls.length < 8) ∧
    (∃ (s : State) (p : Fin 5) (w : BitVec 64) (ecc : Ecc) (a : Nat) (rest : List Nat), let g := s.glide p; ecc ≠ .fatal ∧ s.Ready p 0x2C w ∧
      g.calls = a :: rest ∧ a ≤ 8191) ∧
    (∃ (s : State) (p : Fin 5) (w : BitVec 64) (ecc : Ecc), let u := s.atIssue p ecc; let g := s.glide p;
      let n : BitVec 32 := if gBit w 55 then BitVec.ofNat 32 (gBits w 0 32) else (u.gReg p (gBits w 48 4)).setWidth 32; ecc ≠ .fatal ∧
      s.Ready p 0x28 w ∧ n ≠ 0 ∧ g.loops.length < 4 ∧ g.pc < gBits w 32 13 ∧ gOp (s.imemWord p (gBits w 32 13)) = 0x29) ∧
    (∃ (s : State) (p : Fin 5) (w : BitVec 64) (ecc : Ecc) (l : LoopFrame) (rest : List LoopFrame), let g := s.glide p; ecc ≠ .fatal ∧
      s.Ready p 0x29 w ∧ g.loops = l :: rest ∧ l.end_ = g.pc ∧ l.start ≤ 8191) ∧
    (∃ (s : State) (p : Fin 5) (w : BitVec 64) (ecc : Ecc), ecc ≠ .fatal ∧ s.Ready p 0x2D w) :=
  ⟨⟨{ mode := .onAir, glides := [(0, { pc := 3, st := .running, imem := [(3, 0x3800000000000010)] })] }, 0, 0x3800000000000010, .clean,
         by unfold State.Ready; decide +kernel⟩,
    ⟨{ mode := .onAir, glides := [(0, { pc := 3, st := .running, imem := [(3, 0x2A00000000000020)] })] }, 0, 0x2A00000000000020, .clean,
         by unfold State.Ready; decide +kernel⟩,
    ⟨{ mode := .onAir, glides := [(0, { pc := 3, st := .running, imem := [(3, 0x2B00000000000020)] })] }, 0, 0x2B00000000000020, .clean,
         by unfold State.Ready; decide +kernel⟩,
    ⟨{ mode := .onAir, glides := [(0, { pc := 3, calls := [8191], st := .running, imem := [(3, 0x2C00000000000000)] })] }, 0, 0x2C00000000000000,
         .clean, 8191, [], by unfold State.Ready; decide +kernel⟩,
    ⟨{ mode := .onAir, glides := [(0, { pc := 3, st := .running, imem := [(3, 0x2880000400000003), (4, 0x2900000000000000)] })] }, 0,
         0x2880000400000003, .clean, by unfold State.Ready; decide +kernel⟩,
    ⟨{ mode := .onAir, glides := [(0, { pc := 3, loops := [⟨2, 3, 1⟩], st := .running, imem := [(3, 0x2900000000000000)] })] }, 0,
         0x2900000000000000, .clean, ⟨2, 3, 1⟩, [], by unfold State.Ready; decide +kernel⟩,
    ⟨{ mode := .onAir, glides := [(0, { pc := 3, st := .running, imem := [(3, 0x2D00000000000000)] })] }, 0, 0x2D00000000000000, .clean,
         by unfold State.Ready; decide +kernel⟩⟩

set_option maxRecDepth 100000 in
theorem witness_GlideAccess :
    (∃ (s : State) (p : Fin 5) (w : BitVec 64) (ecc : Ecc), ecc ≠ .fatal ∧ s.Ready p 0x20 w) ∧
    (∃ (s : State) (p : Fin 5) (w : BitVec 64) (ecc : Ecc), ecc ≠ .fatal ∧ s.Ready p 0x21 w) ∧
    (∃ (s : State) (p : Fin 5) (ecc : Ecc), ecc ≠ .fatal ∧ (s.glide p).st = .waitGet) ∧
    (∃ (s : State) (p : Fin 5) (w : BitVec 64) (ecc : Ecc), ecc ≠ .fatal ∧ s.Ready p 0x22 w) ∧
    (∃ (s : State) (p : Fin 5) (w : BitVec 64) (ecc : Ecc), ecc ≠ .fatal ∧ s.Ready p 0x03 w ∧ (p : Nat) ≠ 0) ∧
    (∃ (s : State) (p : Fin 5) (w : BitVec 64) (ecc : Ecc), ecc ≠ .fatal ∧ s.Ready p 0x03 w ∧ (p : Nat) = 0) :=
  ⟨⟨{ mode := .onAir, glides := [(0, { pc := 3, st := .running, imem := [(3, 0x2011000000160010)] })] }, 0, 0x2011000000160010, .clean,
         by unfold State.Ready; decide +kernel⟩,
    ⟨{ mode := .onAir, glides := [(0, { pc := 3, st := .running, imem := [(3, 0x2120000000160010)] })] }, 0, 0x2120000000160010, .clean,
         by unfold State.Ready; decide +kernel⟩,
    ⟨{ base with glides := [(0, { st := .waitGet })] }, 0, .clean, by decide +kernel⟩,
    ⟨{ mode := .onAir, glides := [(0, { pc := 3, st := .running, imem := [(3, 0x2231000000000000)] })] }, 0, 0x2231000000000000, .clean,
         by unfold State.Ready; decide +kernel⟩,
    ⟨{ mode := .onAir, glides := [(2, { pc := 3, st := .running, imem := [(3, 0x310000000000000)] })] }, 2, 0x310000000000000, .clean,
         by unfold State.Ready; decide +kernel⟩,
    ⟨{ mode := .onAir, glides := [(0, { pc := 3, st := .running, imem := [(3, 0x311000000000000)] })] }, 0, 0x311000000000000, .clean,
         by unfold State.Ready; decide +kernel⟩⟩

set_option maxRecDepth 100000 in
theorem witness_GlideWaits :
    (∃ (s : State) (p : Fin 5) (w : BitVec 64) (ecc : Ecc), let u := s.atIssue p ecc; let tmo := gBits w 0 44;
      let waits := fun (st : GState) (what : Nat) => u.modGlide p fun x => { x with st := st, waitRd := gBits w 44 4, waitFor := what, waitEnd := if tmo = 0 then none else some (u.now + (tmo + 3) / 4 * 4) };
      ecc ≠ .fatal ∧ s.Ready p 0x08 w ∧ (waits .waitEvent (gBits w 48 8)).gEvent p (gBits w 48 8) = false) ∧
    (∃ (s : State) (p : Fin 5) (w : BitVec 64) (ecc : Ecc), let u := s.atIssue p ecc; let tmo := gBits w 0 44;
      let waits := fun (st : GState) (what : Nat) => u.modGlide p fun x => { x with st := st, waitRd := gBits w 44 4, waitFor := what, waitEnd := if tmo = 0 then none else some (u.now + (tmo + 3) / 4 * 4) };
      ecc ≠ .fatal ∧ s.Ready p 0x08 w ∧ (waits .waitEvent (gBits w 48 8)).gEvent p (gBits w 48 8) = true) ∧
    (∃ (s : State) (p : Fin 5) (w : BitVec 64) (ecc : Ecc), let u := s.atIssue p ecc; let tmo := gBits w 0 44;
      let waits := fun (st : GState) (what : Nat) => u.modGlide p fun x => { x with st := st, waitRd := gBits w 44 4, waitFor := what, waitEnd := if tmo = 0 then none else some (u.now + (tmo + 3) / 4 * 4) };
      ecc ≠ .fatal ∧ s.Ready p 0x09 w ∧ u.now < (waits .waitLock (gBits w 52 4)).gSetBy p (gBits w 52 4)) ∧
    (∃ (s : State) (p : Fin 5) (w : BitVec 64) (ecc : Ecc), let u := s.atIssue p ecc; let tmo := gBits w 0 44;
      let waits := fun (st : GState) (what : Nat) => u.modGlide p fun x => { x with st := st, waitRd := gBits w 44 4, waitFor := what, waitEnd := if tmo = 0 then none else some (u.now + (tmo + 3) / 4 * 4) };
      ecc ≠ .fatal ∧ s.Ready p 0x09 w ∧ (waits .waitLock (gBits w 52 4)).gSetBy p (gBits w 52 4) ≤ u.now) ∧
    (∃ (s : State) (p : Fin 5) (ecc : Ecc), let g := s.glide p; ecc ≠ .fatal ∧ g.st = .waitLock ∧ g.pc < 8191 ∧
      s.pllState (gPll p g.waitFor) = pllLocked ∧ (∀ e, g.waitEnd = some e → s.gSetBy p g.waitFor ≤ e)) ∧
    (∃ (s : State) (p : Fin 5) (ecc : Ecc) (e : Nat), let g := s.glide p; ecc ≠ .fatal ∧ g.st = .waitLock ∧ g.pc < 8191 ∧
      s.pllState (gPll p g.waitFor) = pllLocked ∧ g.waitEnd = some e ∧ e < s.gSetBy p g.waitFor) ∧
    (∃ (s : State) (p : Fin 5) (ecc : Ecc) (e : Nat), let g := s.glide p; ecc ≠ .fatal ∧ (g.st = .waitEvent ∨ g.st = .waitLock) ∧
      g.waitEnd = some e ∧ g.pc < 8191 ∧ s.gMet p e = false) ∧
    (∃ (s : State) (p : Fin 5) (ecc : Ecc) (e : Nat), let g := s.glide p; ecc ≠ .fatal ∧ g.st = .waitEvent ∧ g.waitEnd = some e ∧ g.pc < 8191 ∧
      s.gEvent p g.waitFor = true) ∧
    (∃ (s : State) (p : Fin 5) (ecc : Ecc) (e : Nat), let g := s.glide p; ecc ≠ .fatal ∧ g.st = .waitLock ∧ g.waitEnd = some e ∧ g.pc < 8191 ∧
      s.pllState (gPll p g.waitFor) = pllLocked ∧ s.gSetBy p g.waitFor ≤ e) ∧
    (∃ (s : State) (p : Fin 5) (w : BitVec 64) (ecc : Ecc), ecc ≠ .fatal ∧ s.Ready p 0x3F w) ∧
    (∃ (s : State) (p : Fin 5) (ecc : Ecc) (x : State), let g := s.glide p; ecc ≠ .fatal ∧ g.st = .waitFence ∧ g.pc < 8191 ∧
      x = (if g.fenceW then s.advance g.setDone else s) ∧ x.fenceHolds p = true) :=
  ⟨⟨{ mode := .onAir, glides := [(0, { pc := 3, st := .running, imem := [(3, 0x831200000000064)] })] }, 0, 0x831200000000064, .clean,
         by unfold State.Ready; decide +kernel⟩,
    ⟨{ base with regs := [(HIVE_SRC_CFG 1, fw [(HIVE_SRC_CFG_GLIDE, 2)])], glides := [(1, { st := .running, flags := [1], imem := [(0, 0x0801000000000000)] })] },
         1, 0x0801000000000000, .clean, by refine ⟨?_, ?_, ?_⟩ <;> first | decide +kernel | ((try unfold State.Ready); decide +kernel) | fail⟩,
    ⟨{ mode := .onAir, glides := [(2, { pc := 3, st := .running, sets := [(544, 80)], imem := [(3, 0x910500000000064)] })] }, 2,
         0x910500000000064, .clean, by unfold State.Ready; decide +kernel⟩,
    ⟨{ mode := .onAir, glides := [(2, { pc := 3, st := .running, imem := [(3, 0x910500000000064)] })] }, 2, 0x910500000000064, .clean,
         by unfold State.Ready; decide +kernel⟩,
    ⟨{ base with regs := [(HPLL_STATUS, fw [(HPLL_STATUS_STATE, pllLocked)])], glides := [(0, { st := .waitLock, pc := 8190, waitEnd := some 70 })] },
         0, .clean, by refine ⟨?_, ?_, ?_, ?_, ?_⟩ <;> first | decide +kernel | (intro e h; exact Nat.zero_le e)⟩,
    ⟨{ base with regs := [(HPLL_STATUS, fw [(HPLL_STATUS_STATE, pllLocked)])], glides := [(0, { st := .waitLock, pc := 8190, waitEnd := some 70, sets := [(gPllBlock 0 0, 71)] })] },
         0, .corrected, 70, by decide +kernel⟩,
    ⟨{ base with glides := [(0, { st := .waitEvent, waitEnd := some 90 })] }, 0, .clean, 90, by decide +kernel⟩,
    ⟨{ base with regs := [(HIVE_SRC_CFG 0, 0xBE000000)], glides := [(0, { flags := [0], st := .waitEvent, waitEnd := some 90 })] }, 0, .clean, 90,
         by decide +kernel⟩,
    ⟨{ base with regs := [(HPLL_STATUS, 0x60000000)], glides := [(0, { st := .waitLock, waitEnd := some 90 })] }, 0, .clean, 90,
         by decide +kernel⟩,
    ⟨{ mode := .onAir, glides := [(0, { pc := 3, st := .running, imem := [(3, 0x3F80000000000000)] })] }, 0, 0x3F80000000000000, .clean,
         by unfold State.Ready; decide +kernel⟩,
    ⟨{ base with glides := [(1, { st := .waitFence, fenceW := true, setDone := 50, pc := 8190 })] }, 1, .clean,
         ({ base with glides := [(1, { st := .waitFence, fenceW := true, setDone := 50, pc := 8190 })] } : State).advance 50, by decide +kernel⟩⟩

set_option maxRecDepth 100000 in
theorem witness_GlideBundles :
    (∃ (s : State) (p : Fin 5) (w : BitVec 64) (ecc : Ecc) (eccs : List Ecc) (i : Instr) (T : BitVec 64), let u := s.atIssue p ecc;
      let g := s.glide p; let n := gBits w 52 3 + 1; let ws := (List.range n).map fun k => s.imemWord p (g.pc + 1 + k); let dst := gBits w 44 4;
      let good := (p ≠ 0 → dst = 0) ∧ g.pc + n < 8191 ∧ ∀ x ∈ ws, gMemberFault p dst x .clean = none; ecc ≠ .fatal ∧ (∀ x ∈ eccs, x ≠ .fatal) ∧
      ((i = .glideAt p ecc eccs ∧ s.Ready p 0x01 w ∧ T = u.gReg p (gBits w 48 4) + (BitVec.ofNat 44 (gBits w 0 44)).signExtend 64) ∨ (i = .glideAtRel p ecc eccs ∧ s.Ready p 0x02 w ∧ T = g.bt + BitVec.ofNat 64 (gBits w 0 44))) ∧
      good ∧ dst = 0 ∧ g.queue.length < 8) ∧
    (∃ (s : State) (p : Fin 5) (w : BitVec 64) (ecc : Ecc) (eccs : List Ecc) (i : Instr) (T : BitVec 64), let u := s.atIssue p ecc;
      let g := s.glide p; let n := gBits w 52 3 + 1; let ws := (List.range n).map fun k => s.imemWord p (g.pc + 1 + k); let dst := gBits w 44 4;
      let room := fun (d words : Nat) => ∀ k : Fin 4, d.testBit k = true → s.fifoEnabled k = true → s.fifoLevel k + words ≤ 256;
      let good := (p ≠ 0 → dst = 0) ∧ g.pc + n < 8191 ∧ ∀ x ∈ ws, gMemberFault p dst x .clean = none; ecc ≠ .fatal ∧ (∀ x ∈ eccs, x ≠ .fatal) ∧
      ((i = .glideAt p ecc eccs ∧ s.Ready p 0x01 w ∧ T = u.gReg p (gBits w 48 4) + (BitVec.ofNat 44 (gBits w 0 44)).signExtend 64) ∨ (i = .glideAtRel p ecc eccs ∧ s.Ready p 0x02 w ∧ T = g.bt + BitVec.ofNat 64 (gBits w 0 44))) ∧
      good ∧ dst ≠ 0 ∧ room dst (n + 1)) ∧
    (∃ (s : State) (p : Fin 5) (w : BitVec 64) (ecc : Ecc) (eccs : List Ecc) (i : Instr) (T : BitVec 64), let u := s.atIssue p ecc;
      let g := s.glide p; let n := gBits w 52 3 + 1; let ws := (List.range n).map fun k => s.imemWord p (g.pc + 1 + k); let dst := gBits w 44 4;
      let good := (p ≠ 0 → dst = 0) ∧ g.pc + n < 8191 ∧ ∀ x ∈ ws, gMemberFault p dst x .clean = none; ecc ≠ .fatal ∧ (∀ x ∈ eccs, x ≠ .fatal) ∧
      ((i = .glideAt p ecc eccs ∧ s.Ready p 0x01 w ∧ T = u.gReg p (gBits w 48 4) + (BitVec.ofNat 44 (gBits w 0 44)).signExtend 64) ∨ (i = .glideAtRel p ecc eccs ∧ s.Ready p 0x02 w ∧ T = g.bt + BitVec.ofNat 64 (gBits w 0 44))) ∧
      good ∧ dst = 0 ∧ 8 ≤ g.queue.length) ∧
    (∃ (s : State) (p : Fin 5) (w : BitVec 64) (ecc : Ecc) (eccs : List Ecc) (i : Instr) (T : BitVec 64), let u := s.atIssue p ecc;
      let g := s.glide p; let n := gBits w 52 3 + 1; let ws := (List.range n).map fun k => s.imemWord p (g.pc + 1 + k); let dst := gBits w 44 4;
      let room := fun (d words : Nat) => ∀ k : Fin 4, d.testBit k = true → s.fifoEnabled k = true → s.fifoLevel k + words ≤ 256;
      let good := (p ≠ 0 → dst = 0) ∧ g.pc + n < 8191 ∧ ∀ x ∈ ws, gMemberFault p dst x .clean = none; ecc ≠ .fatal ∧ (∀ x ∈ eccs, x ≠ .fatal) ∧
      ((i = .glideAt p ecc eccs ∧ s.Ready p 0x01 w ∧ T = u.gReg p (gBits w 48 4) + (BitVec.ofNat 44 (gBits w 0 44)).signExtend 64) ∨ (i = .glideAtRel p ecc eccs ∧ s.Ready p 0x02 w ∧ T = g.bt + BitVec.ofNat 64 (gBits w 0 44))) ∧
      good ∧ dst ≠ 0 ∧ ¬ room dst (n + 1)) ∧
    (∃ (s : State) (p : Fin 5) (ecc : Ecc) (eccs : List Ecc) (b : Bundle) (d : BitVec 4), let g := s.glide p; ecc ≠ .fatal ∧
      (∀ x ∈ eccs, x ≠ .fatal) ∧ g.held = some (b, d) ∧ (g.st = .stallQueue ∨ g.st = .stallFifo) ∧ b.pc + b.members.length < 8191 ∧ d = 0 ∧
      g.queue.length < 8) ∧
    (∃ (s : State) (p : Fin 5) (ecc : Ecc) (eccs : List Ecc) (b : Bundle) (d : BitVec 4), let g := s.glide p;
      let room := fun (d words : Nat) => ∀ k : Fin 4, d.testBit k = true → s.fifoEnabled k = true → s.fifoLevel k + words ≤ 256; ecc ≠ .fatal ∧
      (∀ x ∈ eccs, x ≠ .fatal) ∧ g.held = some (b, d) ∧ (g.st = .stallQueue ∨ g.st = .stallFifo) ∧ b.pc + b.members.length < 8191 ∧ p = 0 ∧ d ≠ 0 ∧
      room d.toNat b.words) ∧
    (∃ (s : State) (p : Fin 5) (ecc : Ecc) (eccs : List Ecc) (b : Bundle) (rest : List Bundle), let g := s.glide p; ecc ≠ .fatal ∧
      (∀ x ∈ eccs, x ≠ .fatal) ∧ g.queue = b :: rest ∧ s.tbAt b.avail ≤ b.time.toNat) ∧
    (∃ (s : State) (p : Fin 5) (ecc : Ecc) (eccs : List Ecc) (b : Bundle) (rest : List Bundle), let g := s.glide p; ecc ≠ .fatal ∧
      (∀ x ∈ eccs, x ≠ .fatal) ∧ g.queue = b :: rest ∧ b.time.toNat < s.tbAt b.avail ∧ b.applyLate) ∧
    (∃ (s : State) (p : Fin 5) (ecc : Ecc) (eccs : List Ecc) (b : Bundle) (rest : List Bundle), let g := s.glide p; ecc ≠ .fatal ∧
      (∀ x ∈ eccs, x ≠ .fatal) ∧ g.queue = b :: rest ∧ b.time.toNat < s.tbAt b.avail ∧ ¬(b.applyLate)) ∧
    (∃ (s : State) (ecc : Ecc) (eccs : List Ecc) (t : Fin 4) (b : Bundle) (rest : List Bundle), ecc ≠ .fatal ∧ (∀ x ∈ eccs, x ≠ .fatal) ∧
      s.fifo t = b :: rest ∧ s.fifoEnabled t = true ∧ s.bit (TXCH_STATUS t) TXCH_STATUS_MUTE_LINK = false ∧ s.tbAt b.avail ≤ b.time.toNat) ∧
    (∃ (s : State) (ecc : Ecc) (eccs : List Ecc) (t : Fin 4) (b : Bundle) (rest : List Bundle), ecc ≠ .fatal ∧ (∀ x ∈ eccs, x ≠ .fatal) ∧
      s.fifo t = b :: rest ∧ s.fifoEnabled t = true ∧ s.bit (TXCH_STATUS t) TXCH_STATUS_MUTE_LINK = false ∧ b.time.toNat < s.tbAt b.avail ∧
      b.applyLate) ∧
    (∃ (s : State) (ecc : Ecc) (eccs : List Ecc) (t : Fin 4) (b : Bundle) (rest : List Bundle), ecc ≠ .fatal ∧ (∀ x ∈ eccs, x ≠ .fatal) ∧
      s.fifo t = b :: rest ∧ s.fifoEnabled t = true ∧ s.bit (TXCH_STATUS t) TXCH_STATUS_MUTE_LINK = false ∧ b.time.toNat < s.tbAt b.avail ∧
      ¬(b.applyLate)) :=
  ⟨⟨{ base with glides := [atWord 2 0x0100000000000064] }, 2, 0x0100000000000064, .corrected, [], (.glideAt 2 .corrected []), 100,
         by refine ⟨?_, ?_, ?_, ?_, ?_, ?_⟩ <;> first | exact .inl ⟨rfl, (by unfold State.Ready; decide +kernel), (by decide +kernel)⟩ | exact ⟨by decide +kernel, by decide +kernel, fun x hx => by rw [List.mem_singleton.1 (show x ∈ [0x1010000F00000000] from hx)]; decide +kernel⟩ | decide +kernel⟩,
    ⟨{ base with glides := [atWord 0 0x0181500FFFFFFFF0] }, 0, 0x0181500FFFFFFFF0, .clean, [], (.glideAt 0 .clean []), 0xFFFFFFFF0,
         by refine ⟨?_, ?_, ?_, ?_, ?_, ?_⟩ <;> first | exact .inl ⟨rfl, (by unfold State.Ready; decide +kernel), (by decide +kernel)⟩ | exact ⟨by decide +kernel, by decide +kernel, fun x hx => by rw [List.mem_singleton.1 (show x ∈ [0x1010000F00000000] from hx)]; decide +kernel⟩ | decide +kernel⟩,
    ⟨{ base with glides := [(2, { (atWord 2 0x0200000000000064).2 with queue := List.replicate 8 (threeTxon 2000 true) })] }, 2,
         0x0200000000000064, .clean, [], (.glideAtRel 2 .clean []), 100,
         by refine ⟨?_, ?_, ?_, ?_, ?_, ?_⟩ <;> first | exact .inr ⟨rfl, (by unfold State.Ready; decide +kernel), (by decide +kernel)⟩ | exact ⟨by decide +kernel, by decide +kernel, fun x hx => by rw [List.mem_singleton.1 (show x ∈ [0x1010000F00000000] from hx)]; decide +kernel⟩ | decide +kernel⟩,
    ⟨{ base with glides := [atWord 0 0x0181500FFFFFFFF0], fifos := [(0, List.replicate 64 (threeTxon 2000 true))] }, 0, 0x0181500FFFFFFFF0,
         .clean, [], (.glideAt 0 .clean []), 0xFFFFFFFF0,
         by refine ⟨?_, ?_, ?_, ?_, ?_, ?_⟩ <;> first | exact .inl ⟨rfl, (by unfold State.Ready; decide +kernel), (by decide +kernel)⟩ | exact ⟨by decide +kernel, by decide +kernel, fun x hx => by rw [List.mem_singleton.1 (show x ∈ [0x1010000F00000000] from hx)]; decide +kernel⟩ | decide +kernel⟩,
    ⟨{ base with glides := [(2, { queue := List.replicate 7 (threeTxon 1000 true), st := .stallQueue, held := some (threeTxon 1000 true, 0) })] },
         2, .clean, [], (threeTxon 1000 true), 0, by decide +kernel⟩,
    ⟨{ base with glides := [(0, { st := .stallQueue, held := some (⟨0x3E8, true, 3, [.txon 1 17, .txon 2 17, .txon 3 17], 0⟩, 5) })] }, 0, .clean,
         [], ⟨0x3E8, true, 3, [.txon 1 17, .txon 2 17, .txon 3 17], 0⟩, 5, by decide +kernel⟩,
    ⟨{ base with glides := [(0, { queue := [⟨0x3E8, true, 3, [.txon 1 17], 60⟩] })] }, 0, .clean, [], ⟨0x3E8, true, 3, [.txon 1 17], 60⟩, [],
         by decide +kernel⟩,
    ⟨{ base with tb := 0x1F4, glides := [(0, { queue := [⟨100, true, 3, [.txon 1 17], 60⟩] })] }, 0, .clean, [], ⟨100, true, 3, [.txon 1 17], 60⟩,
         [], by decide +kernel⟩,
    ⟨{ base with tb := 0x1F4, glides := [(0, { queue := [⟨100, false, 3, [.txon 1 17], 60⟩] })] }, 0, .clean, [],
         ⟨100, false, 3, [.txon 1 17], 60⟩, [], by decide +kernel⟩,
    ⟨{ base with tb := 1000, fifos := [(3, [threeTxon 1060 true])] }, .clean, [], 3, (threeTxon 1060 true), [], by decide +kernel⟩,
    ⟨{ base with tb := 1001, now := 100, fifos := [(3, [threeTxon 0 true])] }, .clean, [], 3, (threeTxon 0 true), [], by decide +kernel⟩,
    ⟨{ base with tb := 1001, now := 100, fifos := [(3, [threeTxon 0 false])] }, .clean, [], 3, (threeTxon 0 false), [], by decide +kernel⟩⟩

set_option maxRecDepth 100000 in
theorem witness_GlideFaults :
    (∃ (s : State) (p : Fin 5) (op : Nat) (i : Ecc → Instr) (ecc : Ecc), (∀ ecc, (op, i ecc) ∈ glideCommands p ecc) ∧ (s.glide p).st = .running ∧
      s.mode.runsGlide = true ∧ s.domOn (glideDomain p) = true ∧ ecc = .fatal) ∧
    (∃ (s : State) (p : Fin 5) (op : Nat) (i : Ecc → Instr) (ecc : Ecc), let w := s.imemWord p (s.glide p).pc;
      (∀ ecc, (op, i ecc) ∈ glideCommands p ecc) ∧ (s.glide p).st = .running ∧ s.mode.runsGlide = true ∧ s.domOn (glideDomain p) = true ∧
      ecc ≠ .fatal ∧ gValid (gOp w) = false) ∧
    (∃ (s : State) (p : Fin 5) (op : Nat) (i : Ecc → Instr) (ecc : Ecc), let w := s.imemWord p (s.glide p).pc;
      (∀ ecc, (op, i ecc) ∈ glideCommands p ecc) ∧ (s.glide p).st = .running ∧ s.mode.runsGlide = true ∧ s.domOn (glideDomain p) = true ∧
      ecc ≠ .fatal ∧ gRadio (gOp w) = true) ∧
    (∃ (s : State) (p : Fin 5) (op : Nat) (i : Ecc → Instr) (ecc : Ecc), let w := s.imemWord p (s.glide p).pc;
      (∀ ecc, (op, i ecc) ∈ glideCommands p ecc) ∧ (s.glide p).st = .running ∧ s.mode.runsGlide = true ∧ s.domOn (glideDomain p) = true ∧
      ecc ≠ .fatal ∧ gOp w = op ∧ gWellFormed (p == 0) w = false) :=
  ⟨⟨{ base with glides := [(4, { st := .running })] }, 4, 0x2D, (fun e => .glideHalt 4 e), .fatal,
         by refine ⟨?_, ?_, ?_, ?_, ?_⟩ <;> first | decide +kernel | (intro e; cases e <;> decide)⟩,
    ⟨{ base with glides := [(4, { st := .running, imem := [(0, 0xFF00000000000000)] })] }, 4, 0x2D, (fun e => .glideHalt 4 e), .corrected,
         by refine ⟨?_, ?_, ?_, ?_, ?_, ?_⟩ <;> first | decide +kernel | (intro e; cases e <;> decide)⟩,
    ⟨{ base with glides := [(4, { st := .running, imem := [(0, 0x1000000000000000)] })] }, 4, 0x2D, (fun e => .glideHalt 4 e), .corrected,
         by refine ⟨?_, ?_, ?_, ?_, ?_, ?_⟩ <;> first | decide +kernel | (intro e; cases e <;> decide)⟩,
    ⟨{ base with glides := [(4, { st := .running, imem := [(0, 0x2D00000000000001)] })] }, 4, 0x2D, (fun e => .glideHalt 4 e), .corrected,
         by refine ⟨?_, ?_, ?_, ?_, ?_, ?_, ?_⟩ <;> first | decide +kernel | (intro e; cases e <;> decide)⟩⟩

set_option maxRecDepth 100000 in
theorem witness_RadioGates :
    (∃ (s : State) (t : Fin 4) (e : Effect) (cm : BitVec 4) (pm : BitVec 16), let u := s.atInstant e; s.NextEffect t e ∧ e.radio = .txon cm pm ∧
      u.bit (TXCH_STATUS t) TXCH_STATUS_UNLOCK_HOLD = false) ∧
    (∃ (s : State) (t : Fin 4) (e : Effect) (cm : BitVec 4) (pm : BitVec 16), let u := s.atInstant e; s.NextEffect t e ∧ e.radio = .txon cm pm ∧
      u.bit (TXCH_STATUS t) TXCH_STATUS_UNLOCK_HOLD = true) ∧
    (∃ (s : State) (t : Fin 4) (e : Effect) (cm : BitVec 4) (pm : BitVec 16), s.NextEffect t e ∧ e.radio = .txoff cm pm) ∧
    (∃ (s : State) (t : Fin 4) (e : Effect) (cm : BitVec 4) (pm : BitVec 16), s.NextEffect t e ∧ e.radio = .rxon cm pm) ∧
    (∃ (s : State) (t : Fin 4) (e : Effect) (cm : BitVec 4) (pm : BitVec 16), s.NextEffect t e ∧ e.radio = .rxoff cm pm) :=
  ⟨⟨{ base with effects := [⟨1500, 0, 5, .txon 5 0x8003⟩] }, 0, ⟨1500, 0, 5, .txon 5 0x8003⟩, 5, 0x8003,
         by unfold State.NextEffect; decide +kernel⟩,
    ⟨{ base with regs := [(TXCH_STATUS 0, 16)], effects := [⟨1500, 0, 5, .txon 5 0x8003⟩] }, 0, ⟨1500, 0, 5, .txon 5 0x8003⟩, 5, 0x8003,
         by unfold State.NextEffect; decide +kernel⟩,
    ⟨{ base with effects := [⟨1500, 0, 5, .txoff 15 17⟩] }, 0, ⟨1500, 0, 5, .txoff 15 17⟩, 15, 17, by unfold State.NextEffect; decide +kernel⟩,
    ⟨{ base with effects := [⟨1500, 0, 5, .rxon 3 0xFFFF⟩] }, 0, ⟨1500, 0, 5, .rxon 3 0xFFFF⟩, 3, 0xFFFF,
         by unfold State.NextEffect; decide +kernel⟩,
    ⟨{ base with effects := [⟨1500, 0, 5, .rxoff 8 0x101⟩] }, 0, ⟨1500, 0, 5, .rxoff 8 0x101⟩, 8, 0x101,
         by unfold State.NextEffect; decide +kernel⟩⟩

set_option maxRecDepth 100000 in
theorem witness_RadioSettings :
    (∃ (s : State) (t : Fin 4) (e : Effect) (pm : BitVec 16) (sync : Bool) (v : BitVec 16), s.NextEffect t e ∧ e.radio = .gain false sync pm v) ∧
    (∃ (s : State) (t : Fin 4) (e : Effect) (pm v : BitVec 16), s.NextEffect t e ∧ e.radio = .gain true false pm v) ∧
    (∃ (s : State) (t : Fin 4) (e : Effect) (pm v : BitVec 16) (c : Nat), let u := s.atInstant e; s.NextEffect t e ∧
      e.radio = .gain true true pm v ∧ u.refCar t = some c) ∧
    (∃ (s : State) (t : Fin 4) (e : Effect) (pm v : BitVec 16), let u := s.atInstant e; s.NextEffect t e ∧ e.radio = .gain true true pm v ∧
      u.refCar t = none) ∧
    (∃ (s : State) (t : Fin 4) (e : Effect) (pm : BitVec 16) (rx : Bool) (car : BitVec 2) (tw : BitVec 48), s.NextEffect t e ∧
      e.radio = .nco rx car tw pm ∧ rx) ∧
    (∃ (s : State) (t : Fin 4) (e : Effect) (pm : BitVec 16) (rx : Bool) (car : BitVec 2) (tw : BitVec 48), s.NextEffect t e ∧
      e.radio = .nco rx car tw pm ∧ ¬(rx)) ∧
    (∃ (s : State) (t : Fin 4) (e : Effect) (pm : BitVec 16) (rx z : Bool) (car : BitVec 2) (resp : BitVec 4) (zone : Bool) (ratio : BitVec 12),
      s.NextEffect t e ∧ e.radio = .filt rx z car resp pm zone ratio ∧ rx) ∧
    (∃ (s : State) (t : Fin 4) (e : Effect) (pm : BitVec 16) (rx z : Bool) (car : BitVec 2) (resp : BitVec 4) (zone : Bool) (ratio : BitVec 12),
      s.NextEffect t e ∧ e.radio = .filt rx z car resp pm zone ratio ∧ ¬(rx)) :=
  ⟨⟨{ base with effects := [⟨1500, 0, 5, .gain false false 0x8001 0x1234⟩] }, 0, ⟨1500, 0, 5, .gain false false 0x8001 0x1234⟩, 0x8001, false,
         0x1234, by unfold State.NextEffect; decide +kernel⟩,
    ⟨{ base with effects := [⟨1500, 0, 5, .gain true false 0x8001 37⟩] }, 0, ⟨1500, 0, 5, .gain true false 0x8001 37⟩, 0x8001, 37,
         by unfold State.NextEffect; decide +kernel⟩,
    ⟨{ base with regs := [(RXCH_CARCFG 0 1, 0x80011C01)], effects := [⟨1500, 0, 5, .gain true true 0x8001 37⟩] }, 0,
         ⟨1500, 0, 5, .gain true true 0x8001 37⟩, 0x8001, 37, 1, by unfold State.NextEffect; decide +kernel⟩,
    ⟨{ base with effects := [⟨1500, 0, 5, .gain true true 0x8001 37⟩] }, 0, ⟨1500, 0, 5, .gain true true 0x8001 37⟩, 0x8001, 37,
         by unfold State.NextEffect; decide +kernel⟩,
    ⟨{ base with effects := [⟨1500, 0, 5, .nco true 2 0x123456789ABC 0x8001⟩] }, 0, ⟨1500, 0, 5, .nco true 2 0x123456789ABC 0x8001⟩, 0x8001, true,
         2, 0x123456789ABC, by unfold State.NextEffect; decide +kernel⟩,
    ⟨{ base with effects := [⟨1500, 0, 5, .nco false 1 0x123456789ABC 0x8001⟩] }, 0, ⟨1500, 0, 5, .nco false 1 0x123456789ABC 0x8001⟩, 0x8001,
         false, 1, 0x123456789ABC, by unfold State.NextEffect; decide +kernel⟩,
    ⟨{ base with effects := [⟨1500, 0, 5, .filt true true 1 7 0x8001 true 40⟩] }, 0, ⟨1500, 0, 5, .filt true true 1 7 0x8001 true 40⟩, 0x8001,
         true, true, 1, 7, true, 40, by unfold State.NextEffect; decide +kernel⟩,
    ⟨{ base with effects := [⟨1500, 0, 5, .filt false false 1 7 0x8001 false 20⟩] }, 0, ⟨1500, 0, 5, .filt false false 1 7 0x8001 false 20⟩,
         0x8001, false, false, 1, 7, false, 20, by unfold State.NextEffect; decide +kernel⟩⟩

set_option maxRecDepth 100000 in
theorem witness_RadioRequests :
    (∃ (s : State) (e : Effect) (ul : Bool) (layer : BitVec 5) (beam : BitVec 15), s.NextEffect 4 e ∧ e.radio = .beamset ul layer beam) ∧
    (∃ (s : State) (t : Fin 4) (e : Effect) (pm : BitVec 16) (v q : Bool) (qm : BitVec 4),
      let refused := v && (s.mode == .calibrate || s.mode == .test); s.NextEffect t e ∧ e.radio = .paen v q qm pm ∧ refused = true) ∧
    (∃ (s : State) (t : Fin 4) (e : Effect) (pm : BitVec 16) (v q : Bool) (qm : BitVec 4),
      let refused := v && (s.mode == .calibrate || s.mode == .test); s.NextEffect t e ∧ e.radio = .paen v q qm pm ∧ refused = false ∧ q = true) ∧
    (∃ (s : State) (t : Fin 4) (e : Effect) (pm : BitVec 16) (v q : Bool) (qm : BitVec 4),
      let refused := v && (s.mode == .calibrate || s.mode == .test); s.NextEffect t e ∧ e.radio = .paen v q qm pm ∧ refused = false ∧ q = false) ∧
    (∃ (s : State) (t : Fin 4) (e : Effect) (src pidx d : BitVec 4) (len : BitVec 32), s.NextEffect t e ∧ e.radio = .capt src pidx d len ∧
      len = 0 ∧ s.capturing t d.toNat = false) ∧
    (∃ (s : State) (t : Fin 4) (e : Effect) (src pidx d : BitVec 4) (len : BitVec 32),
      let size := s.fld (RXCH_CAP_SIZE t d.toNat) RXCH_CAP_SIZE_SIZE * 64; s.NextEffect t e ∧ e.radio = .capt src pidx d len ∧ len ≠ 0 ∧
      s.capturing t d.toNat = false ∧ size = 0) ∧
    (∃ (s : State) (t : Fin 4) (e : Effect) (src pidx d : BitVec 4) (len : BitVec 32),
      let size := s.fld (RXCH_CAP_SIZE t d.toNat) RXCH_CAP_SIZE_SIZE * 64;
      let base := s.fld (RXCH_CAP_BASE_HI t d.toNat) RXCH_CAP_BASE_HI_BASE * 2 ^ 32 + s.fld (RXCH_CAP_BASE_LO t d.toNat) RXCH_CAP_BASE_LO_BASE * 64;
      let cfg := RXCH_CAP_CFG t d.toNat; s.NextEffect t e ∧ e.radio = .capt src pidx d len ∧ len ≠ 0 ∧ s.capturing t d.toNat = false ∧
      src.toNat ≤ 6 ∧ (src = 5 → (s.rxCfg t (s.fld cfg RXCH_CAP_CFG_CAR)).timeDomain = false) ∧ s.bit cfg RXCH_CAP_CFG_DEST = false ∧
      base + size ≤ 2 ^ 22 ∧ (if s.bit cfg RXCH_CAP_CFG_HDR then 128 else 64) ≤ size) ∧
    (∃ (s : State) (t : Fin 4) (e : Effect) (pm : BitVec 16) (kind : BitVec 4) (dur : BitVec 32), let u := s.atInstant e;
      let b : Burst := ⟨kind.toNat, pm, u.now, dur.toNat, false, false, 0, 0⟩; s.NextEffect t e ∧ e.radio = .calb kind pm dur ∧
      u.burstRefused t b = true) ∧
    (∃ (s : State) (t : Fin 4) (e : Effect) (pm : BitVec 16) (kind : BitVec 4) (dur : BitVec 32), let u := s.atInstant e;
      let b : Burst := ⟨kind.toNat, pm, u.now, dur.toNat, false, false, 0, 0⟩; s.NextEffect t e ∧ e.radio = .calb kind pm dur ∧
      u.burstRefused t b = false) :=
  ⟨⟨{ base with effects := [⟨1500, 4, 5, .beamset true 3 77⟩] }, ⟨1500, 4, 5, .beamset true 3 77⟩, true, 3, 77,
         by unfold State.NextEffect; decide +kernel⟩,
    ⟨{ mode := .calibrate, effects := [⟨1500, 0, 5, .paen true false 0 0x8003⟩] }, 0, ⟨1500, 0, 5, .paen true false 0 0x8003⟩, 0x8003, true,
         false, 0, by unfold State.NextEffect; decide +kernel⟩,
    ⟨{ base with effects := [⟨1500, 0, 5, .paen false true 5 0⟩] }, 0, ⟨1500, 0, 5, .paen false true 5 0⟩, 0, false, true, 5,
         by unfold State.NextEffect; decide +kernel⟩,
    ⟨{ base with effects := [⟨1500, 0, 5, .paen true false 0 0x8003⟩] }, 0, ⟨1500, 0, 5, .paen true false 0 0x8003⟩, 0x8003, true, false, 0,
         by unfold State.NextEffect; decide +kernel⟩,
    ⟨{ base with effects := [⟨1500, 0, 5, .capt 0 3 2 0⟩] }, 0, ⟨1500, 0, 5, .capt 0 3 2 0⟩, 0, 3, 2, 0,
         by unfold State.NextEffect; decide +kernel⟩,
    ⟨{ base with effects := [⟨1500, 0, 5, .capt 1 3 2 5⟩] }, 0, ⟨1500, 0, 5, .capt 1 3 2 5⟩, 1, 3, 2, 5,
         by unfold State.NextEffect; decide +kernel⟩,
    ⟨{ base with effects := [⟨100, 3, 0, .capt 0 0 15 16⟩], regs := [(RXCH_CAP_CFG 3 15, fw [(RXCH_CAP_CFG_HDR, 1)]), (RXCH_CAP_SIZE 3 15, fw [(RXCH_CAP_SIZE_SIZE, 2)]), (RXCH_CAP_BASE_LO 3 15, fw [(RXCH_CAP_BASE_LO_BASE, 65534)])] },
         3, ⟨100, 3, 0, .capt 0 0 15 16⟩, 0, 0, 15, 16,
         by refine ⟨?_, ?_, ?_, ?_, ?_, ?_, ?_, ?_, ?_⟩ <;> first | decide +kernel | ((try unfold State.NextEffect); decide +kernel) | fail⟩,
    ⟨{ effects := [⟨1500, 0, 5, .calb 0 0x8001 0x2328⟩] }, 0, ⟨1500, 0, 5, .calb 0 0x8001 0x2328⟩, 0x8001, 0, 0x2328,
         by unfold State.NextEffect; decide +kernel⟩,
    ⟨{ mode := .calibrate, effects := [⟨1500, 0, 5, .calb 0 0x8001 0x2328⟩] }, 0, ⟨1500, 0, 5, .calb 0 0x8001 0x2328⟩, 0x8001, 0, 0x2328,
         by unfold State.NextEffect; decide +kernel⟩⟩

set_option maxRecDepth 100000 in
theorem witness_GlideRegisters :
    (∃ (s : State) (p : Fin 5), s.answers (GLIDE_CTRL p) = true ∧ s.mode.runsGlide = true ∧ ((s.glide p).st = .halted ∨ (s.glide p).st = .fault)) ∧
    (∃ (s : State) (p : Fin 5), s.answers (GLIDE_IMEM_DATA_HI p) = true) ∧
    (∃ (s : State) (p : Fin 5), s.answers (GLIDE_IMEM_DATA_LO p) = true) ∧
    (∃ (s : State) (p : Fin 5), s.answers (GLIDE_GREG_LO p) = true) ∧
    (∃ (s : State) (p : Fin 5), s.answers (GLIDE_BT_LO p) = true) ∧
    (∃ (s : State), s.answers GLIDE_TILE_EN = true) :=
  ⟨⟨{ mode := .onAir }, 0, by decide +kernel⟩,
    ⟨{ mode := .onAir }, 0, by decide +kernel⟩,
    ⟨{ mode := .onAir }, 0, by decide +kernel⟩,
    ⟨{ mode := .onAir }, 0, by decide +kernel⟩,
    ⟨{ mode := .onAir }, 0, by decide +kernel⟩,
    ⟨{ mode := .onAir }, by decide +kernel⟩⟩

set_option maxRecDepth 100000 in
theorem witness_TransmitWrites :
    (∃ (s : State) (t : Fin 4) (w : Word), let u := post (.txRfHiWrite t w) s; s.answers (TXCH_RF_HI t) = true ∧ s.mode = .configure ∧
      u.txRf t ≠ s.txRf t) ∧
    (∃ (s : State) (t : Fin 4) (w : Word), let u := post (.txRfHiWrite t w) s; s.answers (TXCH_RF_HI t) = true ∧ s.mode = .configure ∧
      u.txRf t = s.txRf t) ∧
    (∃ (s : State) (t : Fin 4), s.answers (TXCH_RF_HI t) = true ∧ s.mode ≠ .configure) ∧
    (∃ (s : State) (t : Fin 4), s.answers (TXCH_CAR_NCO_HI t) = true) ∧
    (∃ (s : State) (t : Fin 4), s.answers (TXCH_CAR_FILT t) = true) ∧
    (∃ (s : State) (t : Fin 4) (pm : BitVec 16) (i : Fin 16), s.answers (TXCH_TRIM_ARM t) = true ∧ pm.getLsbD i = true) ∧
    (∃ (s : State) (t : Fin 4) (pm : BitVec 16) (i : Fin 16), s.answers (TXCH_TRIM_ARM t) = true ∧ pm.getLsbD i = false) ∧
    (∃ (s : State) (t : Fin 4) (i : Fin 16), s.answers (TXCH_GAIN t i) = true) :=
  ⟨⟨{ mode := .configure }, 0, 0xFFFFFFFF, by decide +kernel⟩,
    ⟨{ mode := .configure }, 0, 0, by decide +kernel⟩,
    ⟨{ mode := .onAir }, 0, by decide +kernel⟩,
    ⟨{ mode := .configure }, 0, by decide +kernel⟩,
    ⟨{ mode := .configure }, 0, by decide +kernel⟩,
    ⟨{ mode := .configure }, 0, 0x8003, 0, by decide +kernel⟩,
    ⟨{ mode := .configure }, 0, 0x8003, 2, by decide +kernel⟩,
    ⟨{ mode := .configure }, 0, 0, by decide +kernel⟩⟩

set_option maxRecDepth 100000 in
theorem witness_TransmitTimes :
    (∃ (s : State) (t : Fin 4) (B : Nat), s.txTrimDue t = some B) ∧
    (∃ (s : State) (t : Fin 4) (B : Nat), s.rxTrimDue t = some B) ∧
    (∃ (s : State) (t c : Fin 4), let k := s.txCfg t c; let b := k.nextBoundary (s.tb.toNat + 1); let sym := k.symAt b + 1;
      let x := s.txSym (symKey sym c t); (s.txCfg t c).en = true ∧ (s.txCfg t c).ok = true ∧ (s.mode = .onAir ∨ s.mode = .quiet ∨ s.mode = .test) ∧
      x.lacking = 0) ∧
    (∃ (s : State) (t c : Fin 4) (i : Fin 16), let k := s.txCfg t c; let b := k.nextBoundary (s.tb.toNat + 1); let sym := k.symAt b + 1;
      let x := s.txSym (symKey sym c t); (s.txCfg t c).en = true ∧ (s.txCfg t c).ok = true ∧ (s.mode = .onAir ∨ s.mode = .quiet ∨ s.mode = .test) ∧
      x.lacking ≠ 0 ∧ x.lacking.getLsbD i = true) ∧
    (∃ (s : State) (t : Fin 4) (i : Fin 16), s.bit (TXCH_CTRL t) TXCH_CTRL_DAC_GATE = true ∧ s.dacIdle t i = true) :=
  ⟨⟨{ base with txPaths := [(3, { armed := [7000] })] }, 0, 7000, by decide +kernel⟩,
    ⟨{ base with rxPaths := [(3, { armed := [7000] })] }, 0, 7000, by decide +kernel⟩,
    ⟨{ regs := [(TXCH_CARCFG 3 2, 0x80647C12)], mode := .onAir, txSyms := [(43, { held := true })] }, 3, 2, by decide +kernel⟩,
    ⟨{ regs := [(TXCH_CARCFG 3 2, 0x80647C12)], mode := .onAir }, 3, 2, 0, by decide +kernel⟩,
    ⟨base, 0, 0, by decide +kernel⟩⟩

set_option maxRecDepth 100000 in
theorem witness_ReceiveWrites :
    (∃ (s : State) (t : Fin 4) (w : Word), let u := post (.rxRfHiWrite t w) s; s.answers (RXCH_RF_HI t) = true ∧ s.mode = .configure ∧
      u.rxRf t ≠ s.rxRf t) ∧
    (∃ (s : State) (t : Fin 4) (w : Word), let u := post (.rxRfHiWrite t w) s; s.answers (RXCH_RF_HI t) = true ∧ s.mode = .configure ∧
      u.rxRf t = s.rxRf t) ∧
    (∃ (s : State) (t : Fin 4), s.answers (RXCH_RF_HI t) = true ∧ s.mode ≠ .configure) ∧
    (∃ (s : State) (t : Fin 4), s.answers (RXCH_CAR_NCO_HI t) = true) ∧
    (∃ (s : State) (t : Fin 4), s.answers (RXCH_CAR_FILT t) = true) ∧
    (∃ (s : State) (t : Fin 4), s.answers (RXCH_ZONE t) = true) ∧
    (∃ (s : State) (t : Fin 4) (pm : BitVec 16) (i : Fin 16), s.answers (RXCH_TRIM_ARM t) = true ∧ pm.getLsbD i = true) ∧
    (∃ (s : State) (t : Fin 4) (pm : BitVec 16) (i : Fin 16), s.answers (RXCH_TRIM_ARM t) = true ∧ pm.getLsbD i = false) ∧
    (∃ (s : State) (t : Fin 4), s.answers (RXCH_PM_CFG t) = true) ∧
    (∃ (s : State) (t : Fin 4), s.answers (RXCH_WPD_CFG t) = true) :=
  ⟨⟨{ mode := .configure }, 0, 0xFFFFFFFF, by decide +kernel⟩,
    ⟨{ mode := .configure }, 0, 0, by decide +kernel⟩,
    ⟨{ mode := .onAir }, 0, by decide +kernel⟩,
    ⟨{ mode := .configure }, 0, by decide +kernel⟩,
    ⟨{ mode := .configure }, 0, by decide +kernel⟩,
    ⟨{ mode := .configure }, 0, by decide +kernel⟩,
    ⟨{ mode := .configure }, 0, 0x8003, 0, by decide +kernel⟩,
    ⟨{ mode := .configure }, 0, 0x8003, 2, by decide +kernel⟩,
    ⟨{ mode := .configure }, 0, by decide +kernel⟩,
    ⟨{ mode := .configure }, 0, by decide +kernel⟩⟩

set_option maxRecDepth 100000 in
theorem witness_ReceiveTimes :
    (∃ (s : State) (t : Fin 4) (i : Fin 16) (g : GainPend) (B : Nat), (s.rxPath (pathKey t i)).gain = some (g, B)) ∧
    (∃ (s : State) (t : Fin 4) (i : Fin 16) (c : Nat), let p := s.rxPath (pathKey t i);
      let b := s.rxBoundary t (s.rxCfg t c) (max s.tb.toNat (s.tbAt p.decided + 1)); s.refCar t = some c ∧
      s.maskBit (RXCH_AGC_EN t) RXCH_AGC_EN_PMASK i = true ∧ s.rxRuns t i = true ∧ (∀ g B, p.gain = some (g, B) → b < B)) ∧
    (∃ (s : State) (t : Fin 4) (i : Fin 16) (c : Nat), let p := s.rxPath (pathKey t i);
      let b := s.rxBoundary t (s.rxCfg t c) (max s.tb.toNat (s.tbAt p.decided + 1));
      let W := signed 16 (s.fld (RXCH_WPD_RESULT t i) RXCH_WPD_RESULT_POWER); let step := max 1 (s.fld (RXCH_AGC_CFG t) RXCH_AGC_CFG_STEP);
      let code := s.fld (RXCH_STEP_CFG t i) RXCH_STEP_CFG_CODE;
      let judges := p.gain = none ∧ (s.advanceTb b).agcFrozen t i = false ∧ s.bit (RXCH_WPD_RESULT t i) RXCH_WPD_RESULT_VALID = true;
      s.refCar t = some c ∧ s.maskBit (RXCH_AGC_EN t) RXCH_AGC_EN_PMASK i = true ∧ s.rxRuns t i = true ∧ judges ∧
      -256 * (s.fld (RXCH_AGC_CFG t) RXCH_AGC_CFG_HIGH : Int) < W ∧ min 63 (code + step) ≠ code) ∧
    (∃ (s : State) (t : Fin 4) (i : Fin 16) (c : Nat), let p := s.rxPath (pathKey t i);
      let b := s.rxBoundary t (s.rxCfg t c) (max s.tb.toNat (s.tbAt p.decided + 1));
      let W := signed 16 (s.fld (RXCH_WPD_RESULT t i) RXCH_WPD_RESULT_POWER); let step := max 1 (s.fld (RXCH_AGC_CFG t) RXCH_AGC_CFG_STEP);
      let code := s.fld (RXCH_STEP_CFG t i) RXCH_STEP_CFG_CODE;
      let judges := p.gain = none ∧ (s.advanceTb b).agcFrozen t i = false ∧ s.bit (RXCH_WPD_RESULT t i) RXCH_WPD_RESULT_VALID = true;
      s.refCar t = some c ∧ s.maskBit (RXCH_AGC_EN t) RXCH_AGC_EN_PMASK i = true ∧ s.rxRuns t i = true ∧ judges ∧
      W ≤ -256 * (s.fld (RXCH_AGC_CFG t) RXCH_AGC_CFG_HIGH : Int) ∧ W < -256 * (s.fld (RXCH_AGC_CFG t) RXCH_AGC_CFG_LOW : Int) ∧
      max 1 (s.fld (RXCH_AGC_CFG t) RXCH_AGC_CFG_HOLD) ≤ p.hold + 1 ∧ code - step ≠ code) ∧
    (∃ (s : State) (t : Fin 4) (i : Fin 16) (m' : Meter) (sum n : Nat), let c := s.fld (RXCH_PM_CFG t) RXCH_PM_CFG_SRC;
      let m := (s.rxPath (pathKey t i)).pm; let B := blkLog2 (s.fld (RXCH_PM_CFG t) RXCH_PM_CFG_BLK_LOG2);
      let avg := s.fld (RXCH_PM_CFG t) RXCH_PM_CFG_AVG_LOG2; let ns := s.outputsFrom t i c (2 ^ B) m.next; let last := ns.getLastD m.next;
      let v := s.advance ((s.sampleTime t last + 14) / 15).toNat; let block := (ns.map fun j => (v.carrierOut t i c j).norm2).sum;
      s.rxRuns t i = true ∧ c < 4 ∧ (s.rxCfg t c).en = true ∧ (∀ j ∈ ns, v.carrierValid t i c j = true) ∧
      m.step (s.fld (RXCH_PM_CFG t) RXCH_PM_CFG_WIN) (s.fld (RXCH_PM_CFG t) RXCH_PM_CFG_RANK) avg block = (m', some (sum, n))) ∧
    (∃ (s : State) (t : Fin 4) (i : Fin 16) (c : Fin 4) (sym : Nat), let v := s.advanceTb ((s.rxSymSpan t c sym).2.2 + 6144);
      let open_ := (s.rxCar (carKey t i c)).openThrough (v.instantOf (s.rxSymSpan t c sym).1) (v.instantOf (s.rxSymSpan t c sym).2.1);
      (s.rxCfg t c).en = true ∧ (s.rxCfg t c).timeDomain = false ∧ (s.mode = .onAir ∨ s.mode = .quiet) ∧
      s.domOn (38 + 4 * (t : Nat) + (i : Nat) / 4) = true ∧ open_ = true) ∧
    (∃ (s : State) (t : Fin 4) (i : Fin 16) (c : Fin 4) (sym : Nat), let v := s.advanceTb ((s.rxSymSpan t c sym).2.2 + 6144);
      let open_ := (s.rxCar (carKey t i c)).openThrough (v.instantOf (s.rxSymSpan t c sym).1) (v.instantOf (s.rxSymSpan t c sym).2.1);
      (s.rxCfg t c).en = true ∧ (s.rxCfg t c).timeDomain = false ∧ (s.mode = .onAir ∨ s.mode = .quiet) ∧
      s.domOn (38 + 4 * (t : Nat) + (i : Nat) / 4) = true ∧ open_ = false) ∧
    (∃ (s : State) (t : Fin 4) (i : Fin 16) (c : Fin 4), (s.rxCfg t c).en = true ∧ (s.rxCfg t c).timeDomain = false ∧
      (s.mode = .onAir ∨ s.mode = .quiet) ∧ s.domOn (38 + 4 * (t : Nat) + (i : Nat) / 4) = false) ∧
    (∃ (s : State) (t : Fin 4) (d : Fin 16), let k := s.cap (16 * (t : Nat) + d); let num := min 15 (k.len - k.done);
      let at_ := s.capTime t (5, 4) (s.capIndex t k (num - 1)); let v := s.advance at_; s.capturing t d = true ∧ k.src ≤ 3 ∧
      (s.rxCfg t k.src).en = true ∧ k.dram = false ∧ s.granuleFirst t d at_ = true ∧ v.sramRoom t = true ∧ k.len ≤ k.done + num) ∧
    (∃ (s : State) (t : Fin 4) (d : Fin 16), let k := s.cap (16 * (t : Nat) + d); let num := min 15 (k.len - k.done);
      let at_ := s.capTime t (5, 4) (s.capIndex t k (num - 1)); let v := s.advance at_; s.capturing t d = true ∧ k.src ≤ 3 ∧
      (s.rxCfg t k.src).en = true ∧ k.dram = false ∧ s.granuleFirst t d at_ = true ∧ v.sramRoom t = true ∧ ¬(k.len ≤ k.done + num) ∧
      k.ring = false ∧ k.size < k.offset + 128) ∧
    (∃ (s : State) (t : Fin 4) (d : Fin 16), let k := s.cap (16 * (t : Nat) + d); let num := min 15 (k.len - k.done);
      let at_ := s.capTime t (5, 4) (s.capIndex t k (num - 1)); let v := s.advance at_; s.capturing t d = true ∧ k.src ≤ 3 ∧
      (s.rxCfg t k.src).en = true ∧ k.dram = false ∧ s.granuleFirst t d at_ = true ∧ v.sramRoom t = true ∧ ¬(k.len ≤ k.done + num) ∧
      ¬(k.ring = false ∧ k.size < k.offset + 128)) :=
  ⟨⟨{ base with rxPaths := [(3, { gain := some ({ code := 9, byAgc := false, proc := 0 }, 9000) })] }, 0, 3,
         { code := 9, byAgc := false, proc := 0 }, 9000, by decide +kernel⟩,
    ⟨{ base with regs := [(RXCH_CARCFG 2 1, 0x81117C01), (RXCH_AGC_EN 2, 0xFFFF), (PMU_DOM 46, 0x80000000), (PMU_DOM 49, 0x80000000)] }, 2, 0, 1,
         by refine ⟨?_, ?_, ?_, ?_⟩ <;> first | decide +kernel | (intro g B h; exact nomatch (show (none : Option (GainPend × Nat)) = some (g, B) from h))⟩,
    ⟨{ base with regs := [(RXCH_CARCFG 2 1, 0x81117C01), (RXCH_AGC_EN 2, 0xFFFF), (PMU_DOM 46, 0x80000000), (PMU_DOM 49, 0x80000000), (RXCH_WPD_RESULT 2 3, 0x80000F00)] },
         2, 3, 1, by decide +kernel⟩,
    ⟨{ base with regs := [(RXCH_CARCFG 2 1, 0x81117C01), (RXCH_AGC_EN 2, 0xFFFF), (PMU_DOM 46, 0x80000000), (PMU_DOM 49, 0x80000000), (RXCH_AGC_CFG 2, 0), (RXCH_STEP_CFG 2 15, fw [(RXCH_STEP_CFG_CODE, 1)]), (RXCH_WPD_RESULT 2 15, fw [(RXCH_WPD_RESULT_POWER, 0x8000), (RXCH_WPD_RESULT_VALID, 1)])] },
         2, 15, 1, by decide +kernel⟩,
    ⟨{ base with regs := [(RXCH_PM_CFG 3, 0), (RXCH_CARCFG 3 0, 0x81117C01)] }, 3, 15, _, _, _,
         by decide +kernel, by decide +kernel, by decide +kernel, by decide +kernel, firstBlock _⟩,
    ⟨{ regs := [(RXCH_CARCFG 2 1, 0x81117C01)], mode := .onAir, rxCars := [(141, { gate := true })] }, 2, 3, 1, 0, by decide +kernel⟩,
    ⟨{ regs := [(RXCH_CARCFG 2 1, 0x81117C01)], mode := .onAir }, 2, 0, 1, 0, by decide +kernel⟩,
    ⟨{ base with regs := [(RXCH_CARCFG 3 1, 0x81117C01), (PMU_DOM 53, 0)] }, 3, 15, 1, by decide +kernel⟩,
    ⟨{ base with regs := [(RXCH_CARCFG 3 0, 0x81117C01), (RXCH_CAP_STAT 3 15, fw [(RXCH_CAP_STAT_STATE, 2)])], caps := [(63, { len := 15 })] }, 3,
         15, by decide +kernel⟩,
    ⟨{ base with regs := [(RXCH_CARCFG 3 0, 0x81117C01), (RXCH_CAP_STAT 3 15, fw [(RXCH_CAP_STAT_STATE, 2)])], caps := [(63, { len := 16, size := 127 })] },
         3, 15, by decide +kernel⟩,
    ⟨{ base with regs := [(RXCH_CARCFG 3 0, 0x81117C01), (RXCH_CAP_STAT 3 15, fw [(RXCH_CAP_STAT_STATE, 2)])], caps := [(63, { len := 1000, size := 4096 })] },
         3, 15, by decide +kernel⟩⟩

set_option maxRecDepth 100000 in
theorem witness_BeamCommands :
    (∃ (s : State), let a := SLALOM_BEAM_STAT; s.answers SLALOM_BEAM_CMD = true ∧ s.bit a SLALOM_BEAM_STAT_BUSY = false) ∧
    (∃ (s : State), let a := SLALOM_BEAM_STAT; s.answers SLALOM_BEAM_CMD = true ∧ s.bit a SLALOM_BEAM_STAT_BUSY = true) ∧
    (∃ (s : State) (w : Fin 64), let a := SLALOM_BEAM_STAT; s.answers (SLALOM_BEAM_DATA w) = true ∧ s.bit a SLALOM_BEAM_STAT_BUSY = true) ∧
    (∃ (s : State) (id : BitVec 15) (op t e k : Nat), s.beamCmd = some (op, id.toNat, t) ∧ 1 ≤ op ∧ op ≤ 4 ∧ s.ctrlCmds = [] ∧ op ≤ 2 ∧
      s.freeEntry = some e ∧ (∀ w < 64, k ≠ beamWordAt e w)) ∧
    (∃ (s : State) (id : BitVec 15) (op t : Nat), s.beamCmd = some (op, id.toNat, t) ∧ 1 ≤ op ∧ op ≤ 4 ∧ s.ctrlCmds = [] ∧ op ≤ 2 ∧
      s.freeEntry = none) ∧
    (∃ (s : State) (id : BitVec 15) (op t : Nat) (b : BeamSlot), s.beamCmd = some (op, id.toNat, t) ∧ 1 ≤ op ∧ op ≤ 4 ∧ s.ctrlCmds = [] ∧ op = 3 ∧
      s.beam id.toNat = some b) ∧
    (∃ (s : State) (id : BitVec 15) (op t : Nat) (b : BeamSlot), s.beamCmd = some (op, id.toNat, t) ∧ 1 ≤ op ∧ op ≤ 4 ∧ s.ctrlCmds = [] ∧ op = 4 ∧
      s.beam id.toNat = some b) ∧
    (∃ (s : State) (id : BitVec 15) (op t : Nat), s.beamCmd = some (op, id.toNat, t) ∧ 1 ≤ op ∧ op ≤ 4 ∧ s.ctrlCmds = [] ∧ 3 ≤ op ∧
      s.beam id.toNat = none) :=
  ⟨⟨{ mode := .onAir }, by decide +kernel⟩,
    ⟨{ regs := [(SLALOM_BEAM_STAT, 0x80000000)], mode := .onAir }, by decide +kernel⟩,
    ⟨{ regs := [(SLALOM_BEAM_STAT, 0x80000000)], mode := .onAir }, 0, by decide +kernel⟩,
    ⟨{ base with beamCmd := some (1, 0, 400) }, 0, 1, 400, 0, 400, by decide +kernel⟩,
    ⟨fullMap 8192, 5, 1, 400, ⟨rfl, by decide, by decide, rfl, by decide, fullMap_none 8192 (Nat.le_refl _)⟩⟩,
    ⟨{ base with beamMap := [(3, some ⟨5, false⟩)], beamCmd := some (3, 3, 400) }, 3, 3, 400, ⟨5, false⟩, by decide +kernel⟩,
    ⟨{ base with beamMap := [(3, some ⟨5, false⟩)], beamCmd := some (4, 3, 400) }, 3, 4, 400, ⟨5, false⟩, by decide +kernel⟩,
    ⟨{ base with beamCmd := some (3, 0, 400) }, 0, 3, 400, by decide +kernel⟩⟩

set_option maxRecDepth 100000 in
theorem witness_SlalomWork :
    (∃ (s : State) (x : SecSym), let slot := max s.now s.pipeFree; let d := x.desc; s.slalomOn = true ∧ s.sec x.key = some x ∧
      (s.secs.filter fun y => y.waits && (y.stage == .committed || s.tbAt slot < s.itemKey y)) = [x] ∧ x.stage = .queued ∧ d.mode < modeInterp) ∧
    (∃ (s : State) (x : SecSym), let slot := max s.now s.pipeFree; let d := x.desc; s.slalomOn = true ∧ s.sec x.key = some x ∧
      (s.secs.filter fun y => y.waits && (y.stage == .committed || s.tbAt slot < s.itemKey y)) = [x] ∧ x.stage = .queued ∧ modeInterp ≤ d.mode ∧
      (s.freePages d.pages).length = d.pages) ∧
    (∃ (s : State) (x : SecSym), let slot := max s.now s.pipeFree; let d := x.desc; s.slalomOn = true ∧ s.sec x.key = some x ∧
      (s.secs.filter fun y => y.waits && (y.stage == .committed || s.tbAt slot < s.itemKey y)) = [x] ∧ x.stage = .queued ∧
      (s.freePages d.pages).length < d.pages) ∧
    (∃ (s : State) (x : SecSym) (t : Nat), s.slalomOn = true ∧ s.sec x.key = some x ∧
      (s.secs.filterMap fun y => y.completesAt.map fun t => (t, y)) = [(t, x)] ∧ x.stage = .computing) ∧
    (∃ (s : State) (x : SecSym) (ul : Bool) (c : Fin 4), let h := s.horizonAt ul c x.key.sym;
      let inTime := (x.stage = .computing ∨ x.stage = .complete) ∧ (s.advanceTb h).tbAt x.doneAt ≤ h; s.slalomOn = true ∧ s.sec x.key = some x ∧
      (s.secs.filter fun y => y.stage.pending && y.key.ul == ul && y.key.car == (c : Nat)) = [x] ∧ x.rejected = false ∧ x.unknown = false ∧
      s.ctrlCmds = [] ∧ (∀ e ∈ s.effects, e.die ≠ 4) ∧ inTime) ∧
    (∃ (s : State) (x : SecSym) (ul : Bool) (c : Fin 4), let h := s.horizonAt ul c x.key.sym;
      let inTime := (x.stage = .computing ∨ x.stage = .complete) ∧ (s.advanceTb h).tbAt x.doneAt ≤ h; s.slalomOn = true ∧ s.sec x.key = some x ∧
      (s.secs.filter fun y => y.stage.pending && y.key.ul == ul && y.key.car == (c : Nat)) = [x] ∧ x.rejected = false ∧ x.unknown = false ∧
      s.ctrlCmds = [] ∧ (∀ e ∈ s.effects, e.die ≠ 4) ∧ ¬ inTime) :=
  ⟨⟨{ mode := .onAir, secs := [{ key := ⟨true, 1, 7, 33⟩, desc := { layer := 3, mode := 1, gran := 1, nrb := 1, beamA := 3, beamB := 4, version := 2 } }] },
         { key := ⟨true, 1, 7, 33⟩, desc := { layer := 3, mode := 1, gran := 1, nrb := 1, beamA := 3, beamB := 4, version := 2 } }, by decide +kernel⟩,
    ⟨{ mode := .onAir, secs := [{ key := ⟨true, 1, 7, 33⟩, desc := { layer := 3, mode := 2, gran := 1, nrb := 1, beamA := 3, beamB := 4, version := 2 } }] },
         { key := ⟨true, 1, 7, 33⟩, desc := { layer := 3, mode := 2, gran := 1, nrb := 1, beamA := 3, beamB := 4, version := 2 } }, by decide +kernel⟩,
    ⟨fullPages 3584, interp,
         by refine ⟨?_, ?_, ?_, ?_, ?_⟩ <;> first | (rw [fullPages_none 3584 _ (Nat.le_refl _)]; decide +kernel) | decide +kernel⟩,
    ⟨{ base with secs := [{ secSym true 30 .none .computing with doneAt := 77 }] }, { secSym true 30 .none .computing with doneAt := 77 }, 77,
         by decide +kernel⟩,
    ⟨{ mode := .onAir, secs := [{ key := ⟨true, 1, 7, 31⟩, desc := { layer := 3, gran := 1, nrb := 1, beamA := 3, beamB := 4, version := 2 }, stage := .computing }] },
         { key := ⟨true, 1, 7, 31⟩, desc := { layer := 3, gran := 1, nrb := 1, beamA := 3, beamB := 4, version := 2 }, stage := .computing }, true, 1,
         by decide +kernel⟩,
    ⟨{ mode := .onAir, secs := [{ key := ⟨true, 1, 7, 30⟩, desc := { layer := 3, gran := 1, nrb := 1, beamA := 3, beamB := 4, version := 2 } }] },
         { key := ⟨true, 1, 7, 30⟩, desc := { layer := 3, gran := 1, nrb := 1, beamA := 3, beamB := 4, version := 2 } }, true, 1, by decide +kernel⟩⟩

set_option maxRecDepth 100000 in
theorem witness_SlalomOutput :
    (∃ (s : State) (c : Fin 4) (after : Nat) (t : Fin 4),
      let n := (s.secs.filter fun x => x.stage == .committed && !x.key.ul && x.key.car == (c : Nat)).foldl (fun m x => min m x.key.sym) ((s.secCfg false c).symAt s.tb.toNat + 2);
      let xs := s.secs.filter fun x => x.stage == .committed && !x.key.ul && x.key.car == (c : Nat) && x.key.sym == n;
      let v := s.advanceTb (s.horizonAt false c n + after); let inTime := v.tb.toNat < s.airAt false c (n - 1); s.slalomOn = true ∧
      (s.fhTile false c).isSome = true ∧ (∀ x ∈ xs, x.replay = .none) ∧ inTime ∧ (s.txCfg t c).en = true ∧ s.domOn (10 + t) = true ∧
      s.bit (TXCH_STATUS t) TXCH_STATUS_MUTE_LINK = false) ∧
    (∃ (s : State) (c : Fin 4) (after : Nat),
      let n := (s.secs.filter fun x => x.stage == .committed && !x.key.ul && x.key.car == (c : Nat)).foldl (fun m x => min m x.key.sym) ((s.secCfg false c).symAt s.tb.toNat + 2);
      let xs := s.secs.filter fun x => x.stage == .committed && !x.key.ul && x.key.car == (c : Nat) && x.key.sym == n;
      let v := s.advanceTb (s.horizonAt false c n + after); let inTime := v.tb.toNat < s.airAt false c (n - 1); s.slalomOn = true ∧
      (s.fhTile false c).isSome = true ∧ (∀ x ∈ xs, x.replay = .none) ∧ ¬ inTime) ∧
    (∃ (s : State) (c : Fin 4) (after : Nat) (x : SecSym),
      let n := (s.secs.filter fun x => x.stage == .committed && !x.key.ul && x.key.car == (c : Nat)).foldl (fun m x => min m x.key.sym) ((s.secCfg false c).symAt s.tb.toNat + 2);
      let xs := s.secs.filter fun x => x.stage == .committed && !x.key.ul && x.key.car == (c : Nat) && x.key.sym == n;
      let u := post (.dlDispatchDone c after) s; s.slalomOn = true ∧ (s.fhTile false c).isSome = true ∧ (∀ x ∈ xs, x.replay = .none) ∧ x ∈ u.secs ∧
      x.key.ul = false ∧ x.key.car = (c : Nat) ∧ x.key.sym = n) ∧
    (∃ (s : State) (c : Fin 4) (after : Nat),
      let n := (s.secs.filter fun x => x.stage == .committed && !x.key.ul && x.key.car == (c : Nat)).foldl (fun m x => min m x.key.sym) ((s.secCfg false c).symAt s.tb.toNat + 2);
      let xs := s.secs.filter fun x => x.stage == .committed && !x.key.ul && x.key.car == (c : Nat) && x.key.sym == n;
      let v := s.advanceTb (s.horizonAt false c n + after); let inTime := v.tb.toNat < s.airAt false c (n - 1); s.slalomOn = true ∧
      (s.fhTile false c).isSome = true ∧ (∃ x ∈ xs, x.replay ≠ .none) ∧ inTime) ∧
    (∃ (s : State) (c : Fin 4) (layer : Fin 32) (after : Nat) (x : SecSym) (l : List SecSym) (y : SecSym),
      let n := l.foldl (fun m y => min m y.key.sym) x.key.sym; let u := post (.ulHandover c layer after) s;
      (s.secs.filter fun x => x.key.ul && x.stage == .committed && x.key.car == (c : Nat) && x.used.layer == (layer : Nat)) = x :: l ∧
      s.hasUpstream = false ∧ (s.burog 0).sending = none ∧ (∀ y ∈ x :: l, y.key.sym = n → y.replay = .none) ∧ y ∈ u.secs ∧ y.key.ul = true ∧
      y.key.car = (c : Nat) ∧ y.used.layer = (layer : Nat) ∧ y.key.sym = n) ∧
    (∃ (s : State) (k : SecKey) (x : SecSym), let v := (s.ctrlDue s.tb.toNat).beamsetsDue s.tb.toNat; v.sec k = some x ∧
      (x.stage = .computing ∨ x.stage = .complete)) ∧
    (∃ (s : State) (k : SecKey) (x : SecSym), let v := (s.ctrlDue s.tb.toNat).beamsetsDue s.tb.toNat; v.sec k = some x ∧ x.stage = .committed) ∧
    (∃ (s : State) (e id : Nat) (b : Option BeamSlot), let v := (s.ctrlDue s.tb.toNat).beamsetsDue s.tb.toNat;
      (v.beamMap.find? fun x => x.2.map (·.entry) == some e) = some (id, b)) ∧
    (∃ (s : State) (x : SecSym), s.hasUpstream = true ∧ (s.secs.filter fun x => x.awaits && x.replay == .none) = [x]) :=
  ⟨⟨{ regs := [(TXCH_CARCFG 3 1, 0x80017701)], mode := .onAir }, 1, 0, 3, by decide +kernel⟩,
    ⟨{ regs := [(TXCH_CARCFG 3 1, 0x80017701)], mode := .onAir }, 1, 200000, by decide +kernel⟩,
    ⟨{ tb := 0x1E8674, regs := [(TXCH_CARCFG 3 1, 0x80017701)], mode := .onAir, secs := [{ key := ⟨false, 1, 7, 30⟩, desc := { layer := 3, gran := 1, nrb := 1, beamA := 3, beamB := 4, version := 2 } }] },
         1, 0, { key := ⟨false, 1, 7, 30⟩, desc := { layer := 3, gran := 1, nrb := 1, beamA := 3, beamB := 4, version := 2 } }, by decide +kernel⟩,
    ⟨{ base with regs := [(TXCH_CARCFG 3 1, 0x80017701)], secs := [secSym false 2 .queued .committed] }, 1, 0, by decide +kernel⟩,
    ⟨{ base with secs := [secSym true 30 .none .committed] }, 1, 3, 0, (secSym true 30 .none .committed), [],
         ((post (.ulHandover 1 3 0) { base with secs := [secSym true 30 .none .committed] }).secs.headD (secSym true 30 .none .committed)),
         by decide +kernel⟩,
    ⟨{ base with secs := [{ key := ⟨true, 1, 7, 31⟩, desc := { layer := 3, gran := 1, nrb := 1, beamA := 3, beamB := 4, version := 2 }, stage := .computing }] },
         ⟨true, 1, 7, 31⟩,
         { key := ⟨true, 1, 7, 31⟩, desc := { layer := 3, gran := 1, nrb := 1, beamA := 3, beamB := 4, version := 2 }, stage := .computing },
         by decide +kernel⟩,
    ⟨{ base with secs := [{ key := ⟨false, 1, 7, 30⟩, desc := { layer := 3, gran := 1, nrb := 1, beamA := 3, beamB := 4, version := 2 }, stage := .committed }] },
         ⟨false, 1, 7, 30⟩,
         { key := ⟨false, 1, 7, 30⟩, desc := { layer := 3, gran := 1, nrb := 1, beamA := 3, beamB := 4, version := 2 }, stage := .committed },
         by decide +kernel⟩,
    ⟨{ base with beamMap := [(5, some ⟨8191, false⟩)] }, 8191, 5, (some ⟨8191, false⟩), by decide +kernel⟩,
    ⟨{ base with regs := [(SLALOM_CASC_CFG, 0x801000), (BUROG_STATUS, 0x40000000)], secs := [{ key := ⟨true, 1, 8, 31⟩, desc := { layer := 3, mode := 1, gran := 1, nrb := 1, beamA := 3, beamB := 4, version := 2 }, stage := .committed }] },
         { key := ⟨true, 1, 8, 31⟩, desc := { layer := 3, mode := 1, gran := 1, nrb := 1, beamA := 3, beamB := 4, version := 2 }, stage := .committed },
         by decide +kernel⟩⟩

set_option maxRecDepth 100000 in
theorem witness_Calibrations :
    (∃ (s : State) (t : Fin 4), s.answers (DFLY_CAL_CMD t) = true ∧ (s.mode = .calibrate ∨ s.mode = .onAir)) ∧
    (∃ (s : State) (t : Fin 4), s.answers (DFLY_CAL_CMD t) = true ∧ s.mode ≠ .calibrate ∧ s.mode ≠ .onAir) ∧
    (∃ (s : State) (t : Fin 4) (b : Burst) (rest : List Burst), let u := (s.advance b.at_).modCal t fun c => { c with pend := rest };
      s.startCal = none ∧ (s.cal t).pend = b :: rest ∧ u.burstRefused t b = true) ∧
    (∃ (s : State) (t : Fin 4) (b : Burst) (rest : List Burst), let u := (s.advance b.at_).modCal t fun c => { c with pend := rest };
      s.startCal = none ∧ (s.cal t).pend = b :: rest ∧ u.burstRefused t b = false) ∧
    (∃ (s : State) (t : Fin 4) (b : Burst) (k : Fin 16), s.startCal = none ∧ (s.cal t).burst = some b ∧ b.kind ≤ 2 ∧ b.pmask.getLsbD k = true ∧
      (if b.kind = 1 then b.hitRx else b.hit).getLsbD k = true) ∧
    (∃ (s : State) (t : Fin 4) (i : Fin 16), let p := (s.advance (s.adcAt (pathKey t i) + 1024)).adcBlockPower t i;
      let held := s.bit (RXCH_STATUS t) RXCH_STATUS_UNLOCK = true ∨ s.aligningTo t ≠ none ∨ s.maskBit (DFLY_CONV_CTRL t) DFLY_CONV_CTRL_FREEZE i = true ∨ p < -50 * 256 ∨ -1 * 256 < p;
      s.mode.runsGlide = true ∧ s.domOn (38 + 4 * t + i / 4) = true ∧ held) ∧
    (∃ (s : State) (t : Fin 4) (i : Fin 16), s.dacRuns t i = true) ∧
    (∃ (s : State) (t : Fin 4) (i : Fin 16), s.dacRuns t i = false) :=
  ⟨⟨{ mode := .calibrate }, 0, by decide +kernel⟩,
    ⟨{ mode := .configure }, 0, by decide +kernel⟩,
    ⟨{ cals := [(0, { pend := [{ kind := 0, pmask := 0x8003, at_ := 1500, dur := 49152, byCmd := true }] })] }, 0,
         { kind := 0, pmask := 0x8003, at_ := 1500, dur := 49152, byCmd := true }, [], by decide +kernel⟩,
    ⟨{ mode := .calibrate, cals := [(0, { pend := [{ kind := 0, pmask := 0x8003, at_ := 1500, dur := 49152, byCmd := true }] })] }, 0,
         { kind := 0, pmask := 0x8003, at_ := 1500, dur := 49152, byCmd := true }, [], by decide +kernel⟩,
    ⟨{ base with cals := [(0, { burst := some { kind := 2, pmask := 0x8003, at_ := 1500, dur := 49152, byCmd := true, running := true, hit := 2, hitRx := 0x8000 } })] },
         0, { kind := 2, pmask := 0x8003, at_ := 1500, dur := 49152, byCmd := true, running := true, hit := 2, hitRx := 0x8000 }, 1, by decide +kernel⟩,
    ⟨{ base with regs := [(RXCH_STATUS 3, fw [(RXCH_STATUS_UNLOCK, 1)])] }, 3, 15, by decide +kernel⟩,
    ⟨{ mode := .calibrate }, 0, 0, by decide +kernel⟩,
    ⟨State.reset, 0, 0, by decide +kernel⟩⟩

set_option maxRecDepth 100000 in
theorem witness_Predistortion :
    (∃ (s : State) (t : Fin 4) (pm : BitVec 16) (k : Fin 16), s.answers (TDPD_SWAP_ARM t) = true ∧ s.swapPending t k = false ∧
      pm.getLsbD k = true) ∧
    (∃ (s : State) (t : Fin 4) (k : Fin 16), s.answers (TDPD_SWAP_ARM t) = true ∧ s.swapPending t k = true) ∧
    (∃ (s : State) (t : Fin 4) (k : Fin 16), s.swapPending t k = true ∧ (∀ j : Fin 16, j ≠ k → s.swapPending t j = false) ∧ s.dpdFrozen = true) ∧
    (∃ (s : State) (t : Fin 4) (k : Fin 16), s.swapPending t k = true ∧ (∀ j : Fin 16, j ≠ k → s.swapPending t j = false) ∧ s.dpdFrozen = false) ∧
    (∃ (s : State) (t : Fin 4), let a := TDPD_TBL_ADDR t; let i := s.fld a TDPD_TBL_ADDR_PIDX; let n := s.fld a TDPD_TBL_ADDR_WORD;
      let bank := s.bit a TDPD_TBL_ADDR_BANK; let locked := s.maskBit (TDPD_SWAP_STAT t) TDPD_SWAP_STAT_LOCK i; s.answers (TDPD_TBL_DATA t) = true ∧
      bank = false ∧ locked = false ∧ n < 1920) ∧
    (∃ (s : State) (t : Fin 4), let a := TDPD_TBL_ADDR t; let i := s.fld a TDPD_TBL_ADDR_PIDX; let n := s.fld a TDPD_TBL_ADDR_WORD;
      let bank := s.bit a TDPD_TBL_ADDR_BANK; let locked := s.maskBit (TDPD_SWAP_STAT t) TDPD_SWAP_STAT_LOCK i; s.answers (TDPD_TBL_DATA t) = true ∧
      bank = false ∧ locked = false ∧ 1920 ≤ n) ∧
    (∃ (s : State) (t : Fin 4), let a := TDPD_TBL_ADDR t; let i := s.fld a TDPD_TBL_ADDR_PIDX; let bank := s.bit a TDPD_TBL_ADDR_BANK;
      let locked := s.maskBit (TDPD_SWAP_STAT t) TDPD_SWAP_STAT_LOCK i; s.answers (TDPD_TBL_DATA t) = true ∧ (bank = true ∨ locked = true)) :=
  ⟨⟨{ mode := .configure }, 0, 0x8003, 0, by decide +kernel⟩,
    ⟨{ regs := [(TDPD_SWAP_STAT 0, 0x80000)], mode := .configure }, 0, 3, by decide +kernel⟩,
    ⟨{ base with regs := [(PMU_WARN_STAT, fw [(PMU_WARN_STAT_FROZEN, 1)]), (TDPD_SWAP_STAT 3, fw [(⟨TDPD_SWAP_STAT_PENDING.lo + 15, 1⟩, 1)])] },
         3, 15, by decide +kernel⟩,
    ⟨{ base with regs := [(TDPD_SWAP_STAT 0, 0x80000)] }, 0, 3, by decide +kernel⟩,
    ⟨{ regs := [(TDPD_TBL_ADDR 0, 0x1F7F)], mode := .configure }, 0, by decide +kernel⟩,
    ⟨{ regs := [(TDPD_TBL_ADDR 0, 0x9FFF)], mode := .configure }, 0, by decide +kernel⟩,
    ⟨{ regs := [(TDPD_TBL_ADDR 0, 0x80001805)], mode := .configure }, 0, by decide +kernel⟩⟩

set_option maxRecDepth 100000 in
theorem witness_DpdSolver :
    (∃ (s : State) (path t r stop : Nat), s.solver = some (.accumulate path t r stop)) ∧
    (∃ (s : State) (path stop : Nat), let swapped := s.jobs.any fun (j : Job) => j.path == path && j.swapped; path < 64 ∧
      s.solver = some (.solve path stop) ∧ swapped = true) ∧
    (∃ (s : State) (path stop : Nat), let swapped := s.jobs.any fun (j : Job) => j.path == path && j.swapped; path < 64 ∧
      s.solver = some (.solve path stop) ∧ swapped = false) ∧
    (∃ (s : State) (path stop : Nat) (nmse : Int) (coefs : List Int), path < 64 ∧ s.solver = some (.write path stop nmse coefs) ∧
      (s.jobs.any fun (j : Job) => j.path == path && j.swapped) = false ∧ s.bit HDPD_CTRL HDPD_CTRL_AUTO_SWAP = false) ∧
    (∃ (s : State) (path stop : Nat) (nmse : Int) (coefs : List Int), path < 64 ∧ s.solver = some (.write path stop nmse coefs) ∧
      (s.jobs.any fun (j : Job) => j.path == path && j.swapped) = false ∧ s.bit HDPD_CTRL HDPD_CTRL_AUTO_SWAP = true) ∧
    (∃ (s : State) (path stop : Nat) (nmse : Int) (coefs : List Int) (j e part : Nat), let u := post (.dpdTableWriteDone) s;
      let v := entryPart s.solverK (u.coefWords path) j e part; path < 64 ∧ s.solver = some (.write path stop nmse coefs) ∧
      (s.jobs.any fun (j : Job) => j.path == path && j.swapped) = false ∧ j ∈ s.tablesInUse (path / 16) (path % 16) ∧ part ≤ 1 ∧ v ≤ 32767 ∧
      -32768 ≤ v) ∧
    (∃ (s : State) (path : Fin 64), s.answers HDPD_COEF_CMD = true ∧ s.coefBusy path = false) ∧
    (∃ (s : State) (path : Fin 64), s.answers HDPD_COEF_CMD = true ∧ s.coefBusy path = true) ∧
    (∃ (s : State) (path : Fin 64) (op stop : Nat), (op = 1 ∨ op = 2) ∧ s.coefCmd = some ⟨path, op, some stop⟩ ∧ op = 1) ∧
    (∃ (s : State) (path : Fin 64) (op stop j e part : Nat), let v := entryPart s.solverK (s.coefWords path) j e part; (op = 1 ∨ op = 2) ∧
      s.coefCmd = some ⟨path, op, some stop⟩ ∧ op = 2 ∧ j ∈ s.tablesInUse (path / 16) (path % 16) ∧ part ≤ 1 ∧ v ≤ 32767 ∧ -32768 ≤ v) ∧
    (∃ (s : State), let p := s.fld HDPD_COEF_ADDR HDPD_COEF_ADDR_PATH; s.answers HDPD_COEF_DATA = true ∧ s.coefBusy p = false) ∧
    (∃ (s : State), let p := s.fld HDPD_COEF_ADDR HDPD_COEF_ADDR_PATH; s.answers HDPD_COEF_DATA = true ∧ s.coefBusy p = true) :=
  ⟨⟨{ base with solver := some (.accumulate 3 0 0 4000) }, 3, 0, 0, 4000, by decide +kernel⟩,
    ⟨{ base with jobs := [{ path := 33, swapped := true }], solver := some (.solve 33 3000) }, 33, 3000, by decide +kernel⟩,
    ⟨{ base with solver := some (.solve 35 3000) }, 35, 3000, by decide +kernel⟩,
    ⟨{ base with solver := some (SolverStep.write 35 3000 (-5) []) }, 35, 3000, (-5), [], by decide +kernel⟩,
    ⟨{ base with solver := some (SolverStep.write 63 3000 (-5) []), regs := [(HDPD_CTRL, fw [(HDPD_CTRL_AUTO_SWAP, 1)])] }, 63, 3000, (-5), [],
         by decide +kernel⟩,
    ⟨{ base with solver := some (SolverStep.write 35 3000 (-5) []) }, 35, 3000, (-5), [], 0, 63, 1, by decide +kernel⟩,
    ⟨{ mode := .onAir }, 0, by decide +kernel⟩,
    ⟨{ mode := .onAir, jobs := [{ path := 33 }] }, 33, by decide +kernel⟩,
    ⟨{ base with coefCmd := some ⟨3, 1, some 5000⟩ }, 3, 1, 5000, by decide +kernel⟩,
    ⟨{ base with coefCmd := some ⟨3, 2, some 5000⟩ }, 3, 2, 5000, 0, 0, 0, by decide +kernel⟩,
    ⟨{ mode := .onAir }, by decide +kernel⟩,
    ⟨{ mode := .onAir, coefCmd := some ⟨3, 1, some 5000⟩ }, by decide +kernel⟩⟩

set_option maxRecDepth 100000 in
theorem witness_DragonflyRegisters :
    (∃ (s : State) (t : Fin 4), s.answers (DFLY_CTRL t) = true ∧ s.mode = .configure) ∧
    (∃ (s : State) (t : Fin 4) (w : Word), s.answers (DFLY_CTRL t) = true ∧ s.mode ≠ .configure ∧ getF w ⟨0, 2⟩ ≠ s.fld (DFLY_CTRL t) ⟨0, 2⟩) ∧
    (∃ (s : State) (t : Fin 4) (r : Fin 2) (rej : BitVec 8), let min_ := s.fld (DFLY_IMG_CFG t) DFLY_IMG_CFG_IMG_MIN;
      (s.dfly (2 * t + r)).imaging = true ∧ min_ ≤ rej.toNat) ∧
    (∃ (s : State) (t : Fin 4) (r : Fin 2) (rej : BitVec 8), let min_ := s.fld (DFLY_IMG_CFG t) DFLY_IMG_CFG_IMG_MIN;
      (s.dfly (2 * t + r)).imaging = true ∧ rej.toNat < min_) ∧
    (∃ (s : State) (t : Fin 4) (r : Fin 2) (b : Burst), (s.dfly (2 * t + r)).imaging = true ∧ (s.cal t).burst = some b ∧ b.kind = 3 ∧
      b.pmask.toNat = 2 ^ r.val) ∧
    (∃ (s : State) (t : Fin 4) (r : Fin 2), (s.dfly (2 * t + r)).imaging = false) :=
  ⟨⟨{ mode := .configure }, 0, by decide +kernel⟩,
    ⟨{ mode := .onAir }, 0, 0xFFFFFFFF, by decide +kernel⟩,
    ⟨{ base with dflies := [(0, { imaging := true })] }, 0, 0, 60, by decide +kernel⟩,
    ⟨{ base with dflies := [(0, { imaging := true })] }, 0, 0, 3, by decide +kernel⟩,
    ⟨{ base with dflies := [(7, { imaging := true })], cals := [(3, { burst := some { kind := 3, pmask := 2, at_ := 0, dur := 4, byCmd := true } })] },
         3, 1, { kind := 3, pmask := 2, at_ := 0, dur := 4, byCmd := true }, by decide +kernel⟩,
    ⟨base, 0, 0, by decide +kernel⟩⟩

set_option maxRecDepth 100000 in
theorem witness_SequencerRequests :
    (∃ (s : State) (t : Fin 4) (qm : BitVec 4) (q : Fin 4) (i : Fin 16), s.answers (SEQ_CMD t) = true ∧ (s.mode = .onAir ∨ s.mode = .quiet) ∧
      (∀ q : Fin 4, qm.getLsbD q = true → s.seqState t q = Seq.off) ∧ qm.getLsbD q = true ∧ (s.gateMask t q).testBit i = true) ∧
    (∃ (s : State) (t : Fin 4) (qm : BitVec 4) (q : Fin 4), s.answers (SEQ_CMD t) = true ∧
      (∃ q : Fin 4, qm.getLsbD q = true ∧ s.refusesUp t q = true) ∧ qm.getLsbD q = true ∧ s.refusesUp t q = true) ∧
    (∃ (s : State) (t : Fin 4) (qm : BitVec 4) (q : Fin 4), s.answers (SEQ_CMD t) = true ∧ qm.getLsbD q = true ∧ s.seqState t q = Seq.fault ∧
      (s.quad (quadKey t q)).ends.isSome = true) ∧
    (∃ (s : State) (t : Fin 4) (qm : BitVec 4) (q : Fin 4), s.answers (SEQ_CMD t) = true ∧ qm.getLsbD q = true ∧ s.seqState t q = Seq.fault ∧
      (s.quad (quadKey t q)).ends.isSome) ∧
    (∃ (s : State) (t : Fin 4) (qm : BitVec 4) (q : Fin 4), s.answers (SEQ_CMD t) = true ∧ qm.getLsbD q = true ∧ s.seqState t q = Seq.fault ∧
      ¬((s.quad (quadKey t q)).ends.isSome)) ∧
    (∃ (s : State) (t : Fin 4) (qm : BitVec 4) (q : Fin 4), s.answers (SEQ_CMD t) = true ∧ qm.getLsbD q = true ∧ s.seqState t q ≠ Seq.fault ∧
      (s.quad (quadKey t q)).seen.isSome = true) ∧
    (∃ (s : State) (t : Fin 4) (qm : BitVec 4) (q : Fin 4), s.answers (SEQ_CMD t) = true ∧ qm.getLsbD q = false) :=
  ⟨⟨{ mode := .onAir }, 0, 5, 0, 0, by decide +kernel⟩,
    ⟨{ regs := [(SEQ_STAT 0 2, 0x50000000)], mode := .onAir }, 0, 5, 2, by decide +kernel⟩,
    ⟨{ regs := [(SEQ_STAT 0 2, 0x70000000)], mode := .onAir, quadsSt := [(2, { ends := some 1800 })] }, 0, 5, 2, by decide +kernel⟩,
    ⟨{ regs := [(SEQ_STAT 0 2, 0x70000000)], mode := .onAir, quadsSt := [(2, { ends := some 1800 })] }, 0, 5, 2, by decide +kernel⟩,
    ⟨{ regs := [(SEQ_STAT 0 2, 0x70000000)], mode := .onAir }, 0, 5, 2, by decide +kernel⟩,
    ⟨{ mode := .onAir, quadsSt := [(1, { seen := some (3, 1500) })] }, 0, 15, 1, by decide +kernel⟩,
    ⟨{ mode := .onAir }, 0, 0, 0, by decide +kernel⟩⟩

set_option maxRecDepth 100000 in
theorem witness_SequencerSteps :
    (∃ (level brief : Bool), brief = true ∧ level = false) ∧
    (∃ (s : State) (t q : Fin 4) (level brief : Bool), let k := quadKey t q; let bit := BitVec.ofNat 16 (2 ^ k); (brief = false ∨ level = true) ∧
      s.domOn (10 + t) = true ∧ s.bit (SEQ_STAT t q) SEQ_STAT_GATEOK ≠ level) ∧
    (∃ (s : State) (t q : Fin 4) (level brief : Bool), let k := quadKey t q; let bit := BitVec.ofNat 16 (2 ^ k); (brief = false ∨ level = true) ∧
      (s.domOn (10 + t) = false ∨ s.bit (SEQ_STAT t q) SEQ_STAT_GATEOK = level)) ∧
    (∃ (s : State) (t q : Fin 4) (e : Nat), let k := quadKey t q; (s.quad k).ends = some e ∧ s.seqState t q = Seq.gateSettle) ∧
    (∃ (s : State) (t q : Fin 4) (e : Nat), let k := quadKey t q; (s.quad k).ends = some e ∧ s.seqState t q = Seq.drainSettle ∧
      (s.quad k).seen = none) ∧
    (∃ (s : State) (t q : Fin 4) (e : Nat), let k := quadKey t q; (s.quad k).ends = some e ∧ (s.quad k).seen ≠ none) ∧
    (∃ (s : State) (t q : Fin 4) (e : Nat), let k := quadKey t q; (s.quad k).ends = some e ∧ s.seqState t q = Seq.sdPa) ∧
    (∃ (s : State) (t q : Fin 4) (e : Nat) (i : Fin 16), let k := quadKey t q; (s.quad k).ends = some e ∧ s.seqState t q = Seq.sdDrain ∧
      (∀ p : Fin 4, s.seqState t p ≠ Seq.gateSettle) ∧ (s.gateMask t q).testBit i = true) ∧
    (∃ (s : State) (t q : Fin 4) (e : Nat), let k := quadKey t q; (s.quad k).ends = some e ∧ s.seqState t q = Seq.fault) ∧
    (∃ (s : State) (t q : Fin 4) (e : Nat), let k := quadKey t q; (s.quad k).ends = some e ∧ s.seqState t q = Seq.gateWait) ∧
    (∃ (s : State) (t q : Fin 4) (e cause : Nat), let k := quadKey t q; (s.quad k).seen = some (cause, e) ∧ cause < 8) :=
  ⟨⟨false, true, by decide +kernel⟩,
    ⟨base, 0, 0, true, false, by decide +kernel⟩,
    ⟨base, 0, 0, false, false, by decide +kernel⟩,
    ⟨{ base with regs := [(SEQ_STAT 0 2, 0x20000000)], quadsSt := [(2, { ends := some 1800 })] }, 0, 2, 1800, by decide +kernel⟩,
    ⟨{ base with regs := [(SEQ_STAT 0 2, 0x30000000)], quadsSt := [(2, { ends := some 1800 })] }, 0, 2, 1800, by decide +kernel⟩,
    ⟨{ base with quadsSt := [(15, { ends := some 100, seen := some (3, 60) })] }, 3, 3, 100, by decide +kernel⟩,
    ⟨{ base with regs := [(SEQ_STAT 0 2, 0x50000000)], quadsSt := [(2, { ends := some 1800 })] }, 0, 2, 1800, by decide +kernel⟩,
    ⟨{ base with regs := [(SEQ_STAT 0 2, 0x60000000)], quadsSt := [(2, { ends := some 1800 })] }, 0, 2, 1800, 8, by decide +kernel⟩,
    ⟨{ base with regs := [(SEQ_STAT 0 2, 0x70000000)], quadsSt := [(2, { ends := some 1800 })] }, 0, 2, 1800, by decide +kernel⟩,
    ⟨{ base with regs := [(SEQ_STAT 0 2, 0x10000000)], quadsSt := [(2, { ends := some 1800 })] }, 0, 2, 1800, by decide +kernel⟩,
    ⟨{ base with quadsSt := [(1, { seen := some (3, 1500) })] }, 0, 1, 1500, 3, by decide +kernel⟩⟩

set_option maxRecDepth 100000 in
theorem witness_BiasOutputs :
    (∃ (s : State) (t : Fin 4) (i : Fin 16) (w : Word), let cfg := BIASOUT_CFG t i;
      let moved := getF w BIASOUT_CFG_RANGE ≠ s.fld cfg BIASOUT_CFG_RANGE;
      let barred := s.biasLocked t i = true ∧ ((s.bit cfg BIASOUT_CFG_EN = true ∧ bitF w BIASOUT_CFG_EN = false) ∨ moved); s.answers cfg = true ∧
      barred) ∧
    (∃ (s : State) (t : Fin 4) (i : Fin 16) (w : Word), let cfg := BIASOUT_CFG t i;
      let moved := getF w BIASOUT_CFG_RANGE ≠ s.fld cfg BIASOUT_CFG_RANGE;
      let barred := s.biasLocked t i = true ∧ ((s.bit cfg BIASOUT_CFG_EN = true ∧ bitF w BIASOUT_CFG_EN = false) ∨ moved); s.answers cfg = true ∧
      ¬ barred ∧ bitF w BIASOUT_CFG_EN = true ∧ s.biasState t i = BiasSt.hiz) ∧
    (∃ (s : State) (t : Fin 4) (i : Fin 16) (w : Word), let cfg := BIASOUT_CFG t i;
      let moved := getF w BIASOUT_CFG_RANGE ≠ s.fld cfg BIASOUT_CFG_RANGE;
      let barred := s.biasLocked t i = true ∧ ((s.bit cfg BIASOUT_CFG_EN = true ∧ bitF w BIASOUT_CFG_EN = false) ∨ moved); s.answers cfg = true ∧
      ¬ barred ∧ bitF w BIASOUT_CFG_EN = true ∧ s.biasState t i ≠ BiasSt.hiz ∧ moved) ∧
    (∃ (s : State) (t : Fin 4) (i : Fin 16) (w : Word), let cfg := BIASOUT_CFG t i;
      let moved := getF w BIASOUT_CFG_RANGE ≠ s.fld cfg BIASOUT_CFG_RANGE;
      let barred := s.biasLocked t i = true ∧ ((s.bit cfg BIASOUT_CFG_EN = true ∧ bitF w BIASOUT_CFG_EN = false) ∨ moved); s.answers cfg = true ∧
      ¬ barred ∧ (bitF w BIASOUT_CFG_EN = true ↔ s.biasState t i ≠ BiasSt.hiz) ∧ ¬ moved) ∧
    (∃ (s : State) (t : Fin 4) (i : Fin 16) (w : Word), let cfg := BIASOUT_CFG t i; s.answers cfg = true ∧ s.biasLocked t i = false ∧
      bitF w BIASOUT_CFG_EN = false) ∧
    (∃ (s : State) (t : Fin 4) (i : Fin 16), s.biasState t i = BiasSt.rangeChange) ∧
    (∃ (s : State) (t : Fin 4) (i : Fin 16), let k := biasKey t i; s.answers (BIASOUT_CODE t i) = true ∧ (s.bias k).queue.length < 16) ∧
    (∃ (s : State) (t : Fin 4) (i : Fin 16), let k := biasKey t i; s.answers (BIASOUT_CODE t i) = true ∧ 16 ≤ (s.bias k).queue.length) ∧
    (∃ (s : State) (t : Fin 4) (i : Fin 16) (c : BitVec 16) (rest : List (BitVec 16)), let k := biasKey t i; let cfg := BIASOUT_CFG t i;
      let sine := s.bit cfg BIASOUT_CFG_SINE; s.biasState t i = BiasSt.drive ∧ sine = false ∧ (s.bias k).queue = c :: rest) ∧
    (∃ (s : State) (t : Fin 4) (i : Fin 16), let k := biasKey t i; let cfg := BIASOUT_CFG t i; let sine := s.bit cfg BIASOUT_CFG_SINE;
      s.biasState t i = BiasSt.drive ∧ sine = false ∧ (s.bias k).queue = []) ∧
    (∃ (s : State) (t : Fin 4) (i : Fin 16), let cfg := BIASOUT_CFG t i; let sine := s.bit cfg BIASOUT_CFG_SINE; s.biasState t i = BiasSt.drive ∧
      sine = true) ∧
    (∃ (s : State) (t : Fin 4) (i : Fin 16) (reading : BitVec 12), let k := biasKey t i; let cfg := BIASOUT_CFG t i; let stat := BIASOUT_STAT t i;
      let sine := s.bit cfg BIASOUT_CFG_SINE;
      let compared := s.biasState t i = BiasSt.drive ∧ sine = false ∧ 196608 * s.fld (BIASOUT_RB_CFG t) BIASOUT_RB_CFG_SETTLE ≤ 100 * (s.now - (s.bias k).since);
      let within := |16 * (reading.toNat : Int) - (s.fld stat BIASOUT_STAT_PIN_CODE : Int)| ≤ 16 * (s.fld (BIASOUT_RB_CFG t) BIASOUT_RB_CFG_TOL : Int);
      compared ∧ within) ∧
    (∃ (s : State) (t : Fin 4) (i : Fin 16) (reading : BitVec 12), let k := biasKey t i; let cfg := BIASOUT_CFG t i; let stat := BIASOUT_STAT t i;
      let sine := s.bit cfg BIASOUT_CFG_SINE;
      let compared := s.biasState t i = BiasSt.drive ∧ sine = false ∧ 196608 * s.fld (BIASOUT_RB_CFG t) BIASOUT_RB_CFG_SETTLE ≤ 100 * (s.now - (s.bias k).since);
      let within := |16 * (reading.toNat : Int) - (s.fld stat BIASOUT_STAT_PIN_CODE : Int)| ≤ 16 * (s.fld (BIASOUT_RB_CFG t) BIASOUT_RB_CFG_TOL : Int);
      let cnt := max 1 (s.fld (BIASOUT_RB_CFG t) BIASOUT_RB_CFG_CNT); compared ∧ ¬ within ∧ cnt ≤ (s.bias k).off + 1 ∧
      s.bit stat BIASOUT_STAT_MM = false) ∧
    (∃ (s : State) (t : Fin 4) (i : Fin 16), let k := biasKey t i; let cfg := BIASOUT_CFG t i; let sine := s.bit cfg BIASOUT_CFG_SINE;
      let compared := s.biasState t i = BiasSt.drive ∧ sine = false ∧ 196608 * s.fld (BIASOUT_RB_CFG t) BIASOUT_RB_CFG_SETTLE ≤ 100 * (s.now - (s.bias k).since);
      ¬ compared) :=
  ⟨⟨{ base with regs := [(SEQ_CFG 0 0, fw [(SEQ_CFG_GATE_MASK, 1)]), (SEQ_STAT 0 0, fw [(SEQ_STAT_STATE, 1)]), (BIASOUT_CFG 0 0, fw [(BIASOUT_CFG_EN, 1)])] },
         0, 0, 0, by decide +kernel⟩,
    ⟨{ mode := .onAir }, 0, 0, 0xFFFFFFFF, by decide +kernel⟩,
    ⟨{ regs := [(BIASOUT_STAT 0 0, 0x40000000)], mode := .onAir }, 0, 0, 0xFFFFFFFF, by decide +kernel⟩,
    ⟨{ mode := .onAir }, 0, 0, 0, by decide +kernel⟩,
    ⟨{ mode := .onAir }, 0, 0, 0, by decide +kernel⟩,
    ⟨{ base with regs := [(BIASOUT_STAT 0 0, 0x80000000)] }, 0, 0, by decide +kernel⟩,
    ⟨{ mode := .onAir }, 0, 0, by decide +kernel⟩,
    ⟨{ mode := .onAir, biases := [(0, { queue := [9, 10, 11, 12, 13, 14, 15, 16, 17, 18, 19, 20, 21, 22, 23, 24] })] }, 0, 0, by decide +kernel⟩,
    ⟨{ base with regs := [(BIASOUT_STAT 3 15, fw [(BIASOUT_STAT_STATE, BiasSt.drive)])], biases := [(63, { queue := [7] })] }, 3, 15, 7, [],
         by decide +kernel⟩,
    ⟨{ base with regs := [(BIASOUT_STAT 3 15, fw [(BIASOUT_STAT_STATE, BiasSt.drive)])] }, 3, 15, by decide +kernel⟩,
    ⟨{ base with regs := [(BIASOUT_CFG 0 0, 0xA0000010), (BIASOUT_STAT 0 0, 0x40000000)] }, 0, 0, by decide +kernel⟩,
    ⟨{ base with now := 1966080, regs := [(BIASOUT_RB_CFG 0, fw [(BIASOUT_RB_CFG_TOL, 1)]), (BIASOUT_STAT 0 0, fw [(BIASOUT_STAT_STATE, BiasSt.drive), (BIASOUT_STAT_PIN_CODE, 16)])] },
         0, 0, 2, by decide +kernel⟩,
    ⟨{ base with now := 1966080, regs := [(BIASOUT_RB_CFG 0, fw [(BIASOUT_RB_CFG_TOL, 1)]), (BIASOUT_STAT 0 0, fw [(BIASOUT_STAT_STATE, BiasSt.drive), (BIASOUT_STAT_PIN_CODE, 16)])] },
         0, 0, 3, by decide +kernel⟩,
    ⟨base, 0, 0, by decide +kernel⟩⟩

set_option maxRecDepth 100000 in
theorem witness_RffeMasters :
    (∃ (s : State) (t q : Fin 4) (data : Byte) (usid : BitVec 4) (addr : BitVec 16) (i : Instr) (c : RffeCmd), let k := quadKey t q;
      (i, c) ∈ rffeCommands t q usid addr data ∧ s.answers (RFFE_CMD t q) = true ∧ 32 ≤ (s.rffe k).queued s.now) ∧
    (∃ (s : State) (t q : Fin 4) (data : Byte) (usid : BitVec 4) (addr : BitVec 16) (i : Instr) (c : RffeCmd), let k := quadKey t q;
      (i, c) ∈ rffeCommands t q usid addr data ∧ s.answers (RFFE_CMD t q) = true ∧ (s.rffe k).queued s.now < 32 ∧ c.ok = true) ∧
    (∃ (s : State) (t q : Fin 4) (data : Byte) (usid : BitVec 4) (addr : BitVec 16) (i : Instr) (c : RffeCmd), let k := quadKey t q;
      (i, c) ∈ rffeCommands t q usid addr data ∧ s.answers (RFFE_CMD t q) = true ∧ (s.rffe k).queued s.now < 32 ∧ c.ok = false) ∧
    (∃ (s : State) (t q : Fin 4) (f : RffeFrame) (bad : Bool), let k := quadKey t q; (s.rffe k).bus = some f ∧ rffeReads f.cmd.op = true ∧
      bad = true) ∧
    (∃ (s : State) (t q : Fin 4) (f : RffeFrame), let k := quadKey t q; (s.rffe k).bus = some f ∧ (s.rffe k).flush = false) ∧
    (∃ (s : State) (t q : Fin 4) (f : RffeFrame), let k := quadKey t q; (s.rffe k).bus = some f ∧ (s.rffe k).flush = true) ∧
    (∃ (s : State) (t q : Fin 4) (x : RffeTimed), let k := quadKey t q; let m := (s.rffe k).recall (max x.at_ s.now - 1);
      firstTimed (s.rffe k).timed = some x ∧ m.bus = none ∧ m.freeAt ≤ x.at_ ∧ m.lastDue ≠ some x.at_) ∧
    (∃ (s : State) (t q : Fin 4) (x : RffeTimed), let k := quadKey t q; let m := (s.rffe k).recall (max x.at_ s.now - 1);
      firstTimed (s.rffe k).timed = some x ∧ m.bus = none ∧ x.at_ < m.freeAt ∧ m.lastDue ≠ some x.at_) ∧
    (∃ (s : State) (t q : Fin 4) (x : RffeTimed), let k := quadKey t q; let m := (s.rffe k).recall (max x.at_ s.now - 1);
      firstTimed (s.rffe k).timed = some x ∧ m.bus ≠ none) ∧
    (∃ (s : State) (t q : Fin 4), let k := quadKey t q; s.answers (RFFE_RD t q) = true ∧ (s.rffe k).fifo = []) ∧
    (∃ (s : State) (t q : Fin 4) (r : RffeRes) (rest : List RffeRes), let k := quadKey t q; s.answers (RFFE_RD t q) = true ∧
      (s.rffe k).fifo = r :: rest) :=
  ⟨⟨{ base with rffes := [(0, { queue := List.replicate 32 ⟨3, 2, 5, 9⟩ })] }, 0, 0, 3, 0, 5, (.rffeRegisterWrite 0 0 0 5 3), ⟨2, 0, 5, 3⟩,
         by decide +kernel⟩,
    ⟨{ base with rffes := [(15, { queue := List.replicate 31 ⟨3, 2, 5, 9⟩ })] }, 3, 3, 3, 0, 31, (.rffeRegisterWrite 3 3 0 31 3), ⟨2, 0, 31, 3⟩,
         by decide +kernel⟩,
    ⟨base, 0, 0, 3, 0, 32, (.rffeRegisterWrite 0 0 0 32 3), ⟨2, 0, 32, 3⟩, by decide +kernel⟩,
    ⟨{ base with rffes := [(0, { bus := some ⟨⟨3, 2, 5, 9⟩, 900, 1200, none⟩ })] }, 0, 0, ⟨⟨3, 2, 5, 9⟩, 900, 1200, none⟩, true,
         by decide +kernel⟩,
    ⟨{ base with rffes := [(0, { bus := some ⟨⟨3, 2, 5, 9⟩, 900, 1200, none⟩ })] }, 0, 0, ⟨⟨3, 2, 5, 9⟩, 900, 1200, none⟩, by decide +kernel⟩,
    ⟨{ base with rffes := [(15, { bus := some ⟨⟨3, 2, 5, 9⟩, 10, 20, none⟩, flush := true })] }, 3, 3, ⟨⟨3, 2, 5, 9⟩, 10, 20, none⟩,
         by decide +kernel⟩,
    ⟨{ base with rffes := [(0, { timed := [⟨3000, 2, ⟨3, 2, 5, 9⟩⟩] })] }, 0, 0, ⟨3000, 2, ⟨3, 2, 5, 9⟩⟩, by decide +kernel⟩,
    ⟨{ base with rffes := [(15, { timed := [⟨50, 3, ⟨3, 2, 5, 9⟩⟩], freeAt := 51 })] }, 3, 3, ⟨50, 3, ⟨3, 2, 5, 9⟩⟩, by decide +kernel⟩,
    ⟨{ base with rffes := [(15, { timed := [⟨50, 3, ⟨3, 2, 5, 9⟩⟩], bus := some ⟨⟨3, 2, 5, 9⟩, 10, 20, (some 10)⟩ })] }, 3, 3,
         ⟨50, 3, ⟨3, 2, 5, 9⟩⟩, by decide +kernel⟩,
    ⟨{ mode := .onAir }, 0, 0, by decide +kernel⟩,
    ⟨{ mode := .onAir, rffes := [(0, { fifo := [⟨false, 1, 2, 3⟩] })] }, 0, 0, ⟨false, 1, 2, 3⟩, [], by decide +kernel⟩⟩

set_option maxRecDepth 100000 in
theorem witness_SerialLanes :
    (∃ (s : State) (l : Fin 16) (w : Word), let req := getF w LANEQ_LCTRL_REQ; s.answers (LANEQ_LCTRL l) = true ∧ req < 3 ∧
      bitF w LANEQ_LCTRL_FULL_ADAPT = false) ∧
    (∃ (s : State) (l : Fin 16) (w : Word), let req := getF w LANEQ_LCTRL_REQ; s.answers (LANEQ_LCTRL l) = true ∧ req < 3 ∧
      bitF w LANEQ_LCTRL_FULL_ADAPT = true) ∧
    (∃ (s : State) (l : Fin 16) (w : Word), let cur := s.laneState l; let req := getF w LANEQ_LCTRL_REQ; s.answers (LANEQ_LCTRL l) = true ∧
      req < 3 ∧ cur ≠ laneDisabled) ∧
    (∃ (s : State) (l : Fin 16), let cur := s.laneState l; (∀ e, s.eye = some e → e.lane ≠ (l : Nat)) ∧ (s.lane l).scanned = false ∧
      (cur = laneSleep ∨ cur = laneDisabled)) ∧
    (∃ (s : State) (l : Fin 16), let cur := s.laneState l; (∀ e, s.eye = some e → e.lane ≠ (l : Nat)) ∧ (s.lane l).scanned = false ∧
      (cur = laneActive ∨ cur = laneIdle) ∧ cur = laneActive ∧ s.patternOf l LANEQ_LCTRL_PAT_RX ≠ 0) ∧
    (∃ (s : State) (l : Fin 16) (fom : BitVec 8) (sig cdr : Bool), let quad := (l : Nat) / 4; let cur := s.laneState l;
      let lock := s.bit (LANEQ_QSTAT quad) LANEQ_QSTAT_PLL_LOCK; (∀ e, s.eye = some e → e.lane ≠ (l : Nat)) ∧ (s.lane l).scanned = false ∧
      cur = laneResuming ∧ sig = true ∧ cdr = true ∧ lock = true ∧ s.fld LANEQ_ADAPT_CFG LANEQ_ADAPT_CFG_FOM_MIN ≤ fom.toNat) ∧
    (∃ (s : State) (l : Fin 16), let cur := s.laneState l; cur ≠ laneResuming) ∧
    (∃ (s : State) (l : Fin 16), let quad := (l : Nat) / 4; let cur := s.laneState l; let lock := s.bit (LANEQ_QSTAT quad) LANEQ_QSTAT_PLL_LOCK;
      cur = laneAdapting ∧ lock = true) ∧
    (∃ (s : State) (l : Fin 16), let quad := (l : Nat) / 4; let cur := s.laneState l; let lock := s.bit (LANEQ_QSTAT quad) LANEQ_QSTAT_PLL_LOCK;
      (cur ≠ laneAdapting ∨ lock = false)) ∧
    (∃ (s : State) (n : Fin 4), let q := LANEQ_QSTAT n; s.bit q LANEQ_QSTAT_PLL_ON = false) ∧
    (∃ (s : State) (n : Fin 4) (i : Nat), let q := LANEQ_QSTAT n; s.bit q LANEQ_QSTAT_PLL_ON = true ∧
      (∃ i < 4, s.laneState (4 * n + i) = laneActive ∧ s.laneTarget (4 * n + i) = laneActive) ∧ s.laneState (4 * n + i) = laneActive ∧
      (s.lane (4 * n + i)).lost = true) :=
  ⟨⟨{ mode := .onAir }, 0, 0x80000000, by decide +kernel⟩,
    ⟨{ mode := .onAir }, 0, 0x20000000, by decide +kernel⟩,
    ⟨{ regs := [(LANEQ_LSTAT 15, 0)], mode := .onAir }, 15, 0x80000000, by decide +kernel⟩,
    ⟨base, 0, by decide +kernel⟩,
    ⟨{ base with mode := .test, regs := [(LANEQ_LSTAT 15, fw [(LANEQ_LSTAT_STATE, laneActive)]), (LANEQ_LCTRL 15, fw [(LANEQ_LCTRL_PAT_RX, 1)])] },
         15, by refine ⟨?_, ?_, ?_, ?_, ?_⟩ <;> first | decide +kernel | (intro e h; exact nomatch (show (none : Option EyePoint) = some e from h))⟩,
    ⟨{ base with regs := [(LANEQ_QSTAT 1, 0xC0000000), (LANEQ_LSTAT 5, 0x80000000)] }, 5, 200, true, true, by decide +kernel⟩,
    ⟨base, 0, by decide +kernel⟩,
    ⟨{ base with regs := [(LANEQ_QSTAT 1, 0xC0000000), (LANEQ_LSTAT 5, 0xA0000000)] }, 5, by decide +kernel⟩,
    ⟨base, 0, by decide +kernel⟩,
    ⟨base, 0, by decide +kernel⟩,
    ⟨{ base with regs := [(LANEQ_QCFG 3, fw [(LANEQ_QCFG_USE, 1)]), (LANEQ_QSTAT 3, fw [(LANEQ_QSTAT_PLL_ON, 1)]), (LANEQ_LCTRL 15, fw [(LANEQ_LCTRL_REQ, laneActive)]), (LANEQ_LSTAT 15, fw [(LANEQ_LSTAT_STATE, laneActive)])], lanes := [(15, { lost := true })] },
         3, 3, by decide +kernel⟩⟩

set_option maxRecDepth 100000 in
theorem witness_EyeAndLinks :
    (∃ (s : State), let st := LANEQ_EYE_STAT; s.answers LANEQ_EYE_CTRL = true ∧ s.bit st LANEQ_EYE_STAT_BUSY = true) ∧
    (∃ (s : State) (w : Word), let st := LANEQ_EYE_STAT; s.answers LANEQ_EYE_CTRL = true ∧ s.bit st LANEQ_EYE_STAT_BUSY = false ∧
      bitF w LANEQ_EYE_CTRL_GO = false) ∧
    (∃ (s : State) (w : Word), let st := LANEQ_EYE_STAT; let l := getF w LANEQ_EYE_CTRL_LANE;
      let bad := s.laneState l ≠ laneActive ∨ s.bit (LANEQ_LSTAT l) LANEQ_LSTAT_CDR_LOCK = false ∨ (s.mode = .test ∧ s.fld (LANEQ_LCTRL l) LANEQ_LCTRL_LOOP = 2);
      s.answers LANEQ_EYE_CTRL = true ∧ s.bit st LANEQ_EYE_STAT_BUSY = false ∧ bitF w LANEQ_EYE_CTRL_GO = true ∧ ¬ bad) ∧
    (∃ (s : State) (w : Word), let st := LANEQ_EYE_STAT; let l := getF w LANEQ_EYE_CTRL_LANE;
      let bad := s.laneState l ≠ laneActive ∨ s.bit (LANEQ_LSTAT l) LANEQ_LSTAT_CDR_LOCK = false ∨ (s.mode = .test ∧ s.fld (LANEQ_LCTRL l) LANEQ_LCTRL_LOOP = 2);
      s.answers LANEQ_EYE_CTRL = true ∧ s.bit st LANEQ_EYE_STAT_BUSY = false ∧ bitF w LANEQ_EYE_CTRL_GO = true ∧ bad) ∧
    (∃ (s : State) (e : EyeScan), s.eye = some e) ∧
    (∃ (s : State), s.eye = none) ∧
    (∃ (s : State) (p : Fin 8) (aligned lf rf : Bool) (skew : Nat),
      let ready := s.portUsable p && s.lanesUp p && aligned && (typeLanes (portType s p) == 1 || decide (skew ≤ 64));
      s.bit (MAC_PSTAT p) MAC_PSTAT_LINK = true ∧ (ready && !lf && !rf) = false ∧
      (s.follows Ev.MAC_LINK_DOWN = false ∨ s.bit (MAC_PCFG p) MAC_PCFG_EN = true)) :=
  ⟨⟨{ regs := [(LANEQ_EYE_STAT, 0x80000000)], mode := .onAir }, by decide +kernel⟩,
    ⟨{ mode := .onAir }, 0, by decide +kernel⟩,
    ⟨{ regs := [(LANEQ_LSTAT 5, 0x2000000)], mode := .onAir }, 0x94001234, by decide +kernel⟩,
    ⟨{ mode := .onAir }, 0x94001234, by decide +kernel⟩,
    ⟨{ base with eye := some ⟨5, 4000⟩ }, ⟨5, 4000⟩, by decide +kernel⟩,
    ⟨base, by decide +kernel⟩,
    ⟨{ base with regs := [(MAC_PSTAT 5, 0xB1D2467B)] }, 5, false, false, false, 0, by decide +kernel⟩⟩

set_option maxRecDepth 100000 in
theorem witness_EthernetFrames :
    (∃ (s : State) (p : Fin 8), let near := (s.portLanes p).any s.nearEnd; near = true) ∧
    (∃ (s : State) (p : Fin 8) (ago : Nat), let near := (s.portLanes p).any s.nearEnd; near = false ∧ s.cutByDown p ago = true) ∧
    (∃ (s : State) (p : Fin 8) (ago : Nat), let link := s.bit (MAC_PSTAT p) MAC_PSTAT_LINK; let near := (s.portLanes p).any s.nearEnd;
      near = false ∧ s.cutByDown p ago = false ∧ link = false) ∧
    (∃ (s : State) (p : Fin 8) (bytes : List Byte) (ago : Nat), let link := s.bit (MAC_PSTAT p) MAC_PSTAT_LINK;
      let near := (s.portLanes p).any s.nearEnd; let outer := num bytes 12 2; let inner := num bytes 16 2;
      let tagged := outer = 0x8100 ∧ inner ≠ 0x8100 ∧ inner ≠ 0x88A8 ∧ inner ≠ 0x9100; let etype := if tagged then inner else outer;
      let dest := slice bytes 0 6; let sized := 60 ≤ bytes.length ∧ bytes.length + 4 ≤ s.maxFrame p;
      let mine := dest = s.portAddr p ∨ natOf dest = 0xFFFFFFFFFFFF ∨ natOf dest = 0x011B19000000 ∨ natOf dest = 0x0180C200000E; near = false ∧
      s.cutByDown p ago = false ∧ link = true ∧ (¬ sized ∨ ¬ mine ∨ etype = 0x8808)) ∧
    (∃ (s : State) (p : Fin 8) (bytes : List Byte) (ago : Nat), let link := s.bit (MAC_PSTAT p) MAC_PSTAT_LINK;
      let near := (s.portLanes p).any s.nearEnd; let outer := num bytes 12 2; let inner := num bytes 16 2;
      let tagged := outer = 0x8100 ∧ inner ≠ 0x8100 ∧ inner ≠ 0x88A8 ∧ inner ≠ 0x9100; let etype := if tagged then inner else outer;
      let dest := slice bytes 0 6; let sized := 60 ≤ bytes.length ∧ bytes.length + 4 ≤ s.maxFrame p;
      let mine := dest = s.portAddr p ∨ natOf dest = 0xFFFFFFFFFFFF ∨ natOf dest = 0x011B19000000 ∨ natOf dest = 0x0180C200000E;
      let ours := if s.bit (MAC_VLAN p) MAC_VLAN_FH_TAG then tagged ∧ num bytes 14 2 % 4096 = s.fld (MAC_VLAN p) MAC_VLAN_FH_VID else ¬ tagged;
      near = false ∧ s.cutByDown p ago = false ∧ link = true ∧ sized ∧ mine ∧ etype = 0xAEFE ∧ ours) ∧
    (∃ (s : State) (p : Fin 8) (bytes : List Byte) (ago : Nat), let link := s.bit (MAC_PSTAT p) MAC_PSTAT_LINK;
      let near := (s.portLanes p).any s.nearEnd; let outer := num bytes 12 2; let inner := num bytes 16 2;
      let tagged := outer = 0x8100 ∧ inner ≠ 0x8100 ∧ inner ≠ 0x88A8 ∧ inner ≠ 0x9100; let etype := if tagged then inner else outer;
      let dest := slice bytes 0 6; let sized := 60 ≤ bytes.length ∧ bytes.length + 4 ≤ s.maxFrame p;
      let mine := dest = s.portAddr p ∨ natOf dest = 0xFFFFFFFFFFFF ∨ natOf dest = 0x011B19000000 ∨ natOf dest = 0x0180C200000E; near = false ∧
      s.cutByDown p ago = false ∧ link = true ∧ sized ∧ mine ∧ etype = 0x88F7) ∧
    (∃ (s : State) (p : Fin 8) (bytes : List Byte) (ago : Nat), let link := s.bit (MAC_PSTAT p) MAC_PSTAT_LINK;
      let near := (s.portLanes p).any s.nearEnd; let outer := num bytes 12 2; let inner := num bytes 16 2;
      let tagged := outer = 0x8100 ∧ inner ≠ 0x8100 ∧ inner ≠ 0x88A8 ∧ inner ≠ 0x9100; let etype := if tagged then inner else outer;
      let dest := slice bytes 0 6; let sized := 60 ≤ bytes.length ∧ bytes.length + 4 ≤ s.maxFrame p;
      let mine := dest = s.portAddr p ∨ natOf dest = 0xFFFFFFFFFFFF ∨ natOf dest = 0x011B19000000 ∨ natOf dest = 0x0180C200000E;
      let ours := if s.bit (MAC_VLAN p) MAC_VLAN_FH_TAG then tagged ∧ num bytes 14 2 % 4096 = s.fld (MAC_VLAN p) MAC_VLAN_FH_VID else ¬ tagged;
      near = false ∧ s.cutByDown p ago = false ∧ link = true ∧ sized ∧ mine ∧ etype ≠ 0x8808 ∧ ¬ (etype = 0xAEFE ∧ ours) ∧ etype ≠ 0x88F7) ∧
    (∃ (s : State) (p : Fin 8) (f : TxFrame), let link := s.bit (MAC_PSTAT p) MAC_PSTAT_LINK; link = true ∧ (s.port p).sending = none ∧
      (s.port p).next = some f) ∧
    (∃ (s : State) (p : Fin 8) (f : TxFrame), let link := s.bit (MAC_PSTAT p) MAC_PSTAT_LINK; link = true ∧ s.mode ≠ .test ∧
      (s.port p).sending = some f ∧ (s.port p).queue = []) :=
  ⟨⟨{ regs := [(LANEQ_LCTRL 0, fw [(LANEQ_LCTRL_LOOP, 2)]), (LANEQ_LSTAT 0, fw [(LANEQ_LSTAT_STATE, laneActive)])], mode := .test }, 0,
         by decide +kernel⟩,
    ⟨{ base with now := 10, ports := [(7, { downAt := some 5 })] }, 7, 6, by decide +kernel⟩,
    ⟨base, 0, 0, by decide +kernel⟩,
    ⟨{ base with regs := [(MAC_PSTAT 0, 0x80000000)] }, 0,
         [2, 0, 0, 0, 0, 1, 2, 0, 0, 0, 0, 9, 174, 254, 16, 2, 0, 40, 7, 7, 7, 7, 7, 7, 7, 7, 7, 7, 7, 7, 7, 7, 7, 7, 7, 7, 7, 7, 7, 7, 7, 7, 7, 7, 7, 7, 7, 7, 7, 7, 7, 7, 7, 7, 7, 7, 7, 7, 7, 7, 7, 7, 7, 7, 7, 7, 7, 7, 7, 7, 7, 7, 7, 7, 7, 7, 7, 7],
         0, by decide +kernel⟩,
    ⟨{ base with regs := [(MAC_PSTAT 0, 0x80000000), (MAC_ADDR_LO 0, 1), (MAC_ADDR_HI 0, 0x200), (MAC_VLAN 0, 0)] }, 0,
         [2, 0, 0, 0, 0, 1, 2, 0, 0, 0, 0, 9, 174, 254, 16, 2, 0, 40, 7, 7, 7, 7, 7, 7, 7, 7, 7, 7, 7, 7, 7, 7, 7, 7, 7, 7, 7, 7, 7, 7, 7, 7, 7, 7, 7, 7, 7, 7, 7, 7, 7, 7, 7, 7, 7, 7, 7, 7, 7, 7, 7, 7, 7, 7, 7, 7, 7, 7, 7, 7, 7, 7, 7, 7, 7, 7, 7, 7],
         0, by decide +kernel⟩,
    ⟨linked 7, 7, ptpFrame [0x88, 0xF7], 0, by decide +kernel⟩,
    ⟨linked 7, 7, ptpFrame [8, 0], 0, by decide +kernel⟩,
    ⟨{ base with regs := [(MAC_PSTAT 0, 0x80000000)], ports := [(0, { queue := [{ pcp := 3, bytes := [2, 0, 0, 0, 0, 1, 2, 0, 0, 0, 0, 9, 174, 254, 16, 2, 0, 40, 7, 7, 7, 7, 7, 7, 7, 7, 7, 7, 7, 7, 7, 7, 7, 7, 7, 7, 7, 7, 7, 7, 7, 7, 7, 7, 7, 7, 7, 7, 7, 7, 7, 7, 7, 7, 7, 7, 7, 7, 7, 7, 7, 7, 7, 7, 7, 7, 7, 7, 7, 7, 7, 7, 7, 7, 7, 7, 7, 7] }] })] },
         0,
         { pcp := 3, bytes := [2, 0, 0, 0, 0, 1, 2, 0, 0, 0, 0, 9, 174, 254, 16, 2, 0, 40, 7, 7, 7, 7, 7, 7, 7, 7, 7, 7, 7, 7, 7, 7, 7, 7, 7, 7, 7, 7, 7, 7, 7, 7, 7, 7, 7, 7, 7, 7, 7, 7, 7, 7, 7, 7, 7, 7, 7, 7, 7, 7, 7, 7, 7, 7, 7, 7, 7, 7, 7, 7, 7, 7, 7, 7, 7, 7, 7, 7] },
         by decide +kernel⟩,
    ⟨{ base with regs := [(MAC_PSTAT 0, 0x80000000)], ports := [(0, { sending := some { pcp := 3, bytes := [2, 0, 0, 0, 0, 1, 2, 0, 0, 0, 0, 9, 174, 254, 16, 2, 0, 40, 7, 7, 7, 7, 7, 7, 7, 7, 7, 7, 7, 7, 7, 7, 7, 7, 7, 7, 7, 7, 7, 7, 7, 7, 7, 7, 7, 7, 7, 7, 7, 7, 7, 7, 7, 7, 7, 7, 7, 7, 7, 7, 7, 7, 7, 7, 7, 7, 7, 7, 7, 7, 7, 7, 7, 7, 7, 7, 7, 7] } })] },
         0,
         { pcp := 3, bytes := [2, 0, 0, 0, 0, 1, 2, 0, 0, 0, 0, 9, 174, 254, 16, 2, 0, 40, 7, 7, 7, 7, 7, 7, 7, 7, 7, 7, 7, 7, 7, 7, 7, 7, 7, 7, 7, 7, 7, 7, 7, 7, 7, 7, 7, 7, 7, 7, 7, 7, 7, 7, 7, 7, 7, 7, 7, 7, 7, 7, 7, 7, 7, 7, 7, 7, 7, 7, 7, 7, 7, 7, 7, 7, 7, 7, 7, 7] },
         by decide +kernel⟩⟩

set_option maxRecDepth 100000 in
theorem witness_FronthaulMessages :
    (∃ (s : State) (m : EcpriMsg), let data := s.takeFh (fun m => m.type == 0); data = none) ∧
    (∃ (s : State) (m : EcpriMsg), let ctrl := s.takeFh (fun m => m.type == 2); ctrl = none) ∧
    (∃ (s u v : State) (m : EcpriMsg), let data := s.takeFh (fun m => m.type == 0); data = some (m, u) ∧ u.fhAccept m = .inl v) ∧
    (∃ (s u v : State) (m : EcpriMsg), let ctrl := s.takeFh (fun m => m.type == 2); ctrl = some (m, u) ∧ u.fhAccept m = .inl v) ∧
    (∃ (u : State), u.fhModeOk = false) ∧
    (∃ (s u v : State) (m : EcpriMsg) (b : List Byte) (d : DataSec), let c := num b 0 2 / 4096 % 4; let t := timeFields b; let sub := t.2.1;
      let slot := t.2.2.1; let data := s.takeFh (fun m => m.type == 0); let n := v.symNamed false c t.1 sub slot t.2.2.2 v.tb.toNat;
      let early := v.tb.toNat + usTc (v.fld MAC_FH_WIN MAC_FH_WIN_DL_EARLY) < v.airAt false c n; data = some (m, u) ∧ u.fhAccept m = .inr (v, b) ∧
      num b 4 1 / 16 = 1 ∧ sub ≤ 9 ∧ (v.secCfg false c).slotOk slot = true ∧ t.2.2.2 < (v.secCfg false c).perSlot ∧
      dataSections (v.secCfg false c).nrb b.length (slice b 12 (b.length - 16)) = some [d] ∧ early) ∧
    (∃ (s u v : State) (m : EcpriMsg) (b : List Byte) (d : DataSec), let c := num b 0 2 / 4096 % 4; let t := timeFields b; let sub := t.2.1;
      let slot := t.2.2.1; let data := s.takeFh (fun m => m.type == 0); let n := v.symNamed false c t.1 sub slot t.2.2.2 v.tb.toNat;
      let early := v.tb.toNat + usTc (v.fld MAC_FH_WIN MAC_FH_WIN_DL_EARLY) < v.airAt false c n; data = some (m, u) ∧ u.fhAccept m = .inr (v, b) ∧
      num b 4 1 / 16 = 1 ∧ sub ≤ 9 ∧ (v.secCfg false c).slotOk slot = true ∧ t.2.2.2 < (v.secCfg false c).perSlot ∧
      dataSections (v.secCfg false c).nrb b.length (slice b 12 (b.length - 16)) = some [d] ∧ ¬ early ∧ v.horizonAt false c n ≤ v.tb.toNat) ∧
    (∃ (s u v : State) (m : EcpriMsg) (b : List Byte) (d : DataSec), let c := num b 0 2 / 4096 % 4; let t := timeFields b; let sub := t.2.1;
      let slot := t.2.2.1; let data := s.takeFh (fun m => m.type == 0); let n := v.symNamed false c t.1 sub slot t.2.2.2 v.tb.toNat;
      let early := v.tb.toNat + usTc (v.fld MAC_FH_WIN MAC_FH_WIN_DL_EARLY) < v.airAt false c n; data = some (m, u) ∧ u.fhAccept m = .inr (v, b) ∧
      num b 4 1 / 16 = 1 ∧ sub ≤ 9 ∧ (v.secCfg false c).slotOk slot = true ∧ t.2.2.2 < (v.secCfg false c).perSlot ∧
      dataSections (v.secCfg false c).nrb b.length (slice b 12 (b.length - 16)) = some [d] ∧ ¬ early ∧ v.tb.toNat < v.horizonAt false c n ∧
      v.unitsHeld + (8 + d.bytes.length + 63) / 64 ≤ storeUnits ∧ d.start + d.nrb ≤ 341) ∧
    (∃ (s u v : State) (m : EcpriMsg) (b : List Byte) (cs : List (List Word)), let c := num b 0 2 / 4096 % 4; let t := timeFields b;
      let sub := t.2.1; let slot := t.2.2.1; let ctrl := s.takeFh (fun m => m.type == 2); ctrl = some (m, u) ∧ u.fhAccept m = .inr (v, b) ∧
      num b 4 1 / 16 = 1 ∧ sub ≤ 9 ∧ ([false, true].any fun ul => (v.fhTile ul c).isSome && (v.secCfg ul c).slotOk slot) = true ∧
      commands (wordsOf (slice b 12 (b.length - 16))).length (wordsOf (slice b 12 (b.length - 16))) = some cs ∧
      v.unitsHeld + (b.length + 63) / 64 ≤ storeUnits) :=
  ⟨⟨{ base with fhMsgs := [⟨0, 900, [16, 2]⟩] }, ⟨0, 900, [16, 2]⟩, by decide +kernel⟩,
    ⟨{ base with fhMsgs := [⟨0, 900, []⟩] }, ⟨0, 900, []⟩, by decide +kernel⟩,
    ⟨{ base with fhMsgs := [⟨0, 900, []⟩] }, base, { base with regs := [(MAC_FH_MALFORMED, 1), (HIVE_STATUS 0, 0x4000000)] }, ⟨0, 900, []⟩,
         by decide +kernel⟩,
    ⟨{ base with fhMsgs := [⟨0, 900, [16, 2]⟩] }, base, { base with regs := [(MAC_FH_MALFORMED, 1), (HIVE_STATUS 0, 0x4000000)] },
         ⟨0, 900, [16, 2]⟩, by decide +kernel⟩,
    ⟨State.reset, by decide +kernel⟩,
    ⟨(fhWaits 0 0), (fhTook (fhWaits 0 0)), (fhIn (fhTook (fhWaits 0 0))), fhMsg, fhBody, fhSec, by decide +kernel⟩,
    ⟨(fhWaits 0xFFFFFFFF 3263692800), (fhTook (fhWaits 0xFFFFFFFF 3263692800)), (fhIn (fhTook (fhWaits 0xFFFFFFFF 3263692800))), fhMsg, fhBody,
         fhSec, by decide +kernel⟩,
    ⟨(fhWaits 0xFFFFFFFF 0), (fhTook (fhWaits 0xFFFFFFFF 0)), (fhIn (fhTook (fhWaits 0xFFFFFFFF 0))), fhMsg, fhBody, fhSec, by decide +kernel⟩,
    ⟨{ regs := [(BUROG_STATUS, 0x80000000), (TXCH_CARCFG 1 1, 0x80017701)], mode := .onAir, fhMsgs := [⟨0, 900, [16, 2, 0, 44, 16, 0, 7, 128, 16, 0, 0, 0, 165, 4, 16, 0, 1, 0, 0, 4, 0, 3, 32, 0, 0, 0, 0, 0, 0, 1, 0, 0, 5, 0, 0, 1, 2, 0, 0, 2, 0, 3, 0, 16, 179, 5, 206, 105]⟩] },
         { regs := [(BUROG_STATUS, 0x80000000), (TXCH_CARCFG 1 1, 0x80017701)], mode := .onAir },
         { regs := [(BUROG_STATUS, 0x80000000), (TXCH_CARCFG 1 1, 0x80017701)], mode := .onAir, flows := [(129, some ⟨7, 1, 1⟩)], cuRuns := [(0, 0x698C5F32)] },
         ⟨0, 900, [16, 2, 0, 44, 16, 0, 7, 128, 16, 0, 0, 0, 165, 4, 16, 0, 1, 0, 0, 4, 0, 3, 32, 0, 0, 0, 0, 0, 0, 1, 0, 0, 5, 0, 0, 1, 2, 0, 0, 2, 0, 3, 0, 16, 179, 5, 206, 105]⟩,
         [16, 0, 7, 128, 16, 0, 0, 0, 165, 4, 16, 0, 1, 0, 0, 4, 0, 3, 32, 0, 0, 0, 0, 0, 0, 1, 0, 0, 5, 0, 0, 1, 2, 0, 0, 2, 0, 3, 0, 16, 179, 5, 206, 105],
         [[0x1000004, 0x32000, 0, 0x10000], [0x5000001], [0x2000002, 0x30010]], by decide +kernel⟩⟩

set_option maxRecDepth 100000 in
theorem witness_ControlCommands :
    (∃ (s : State) (k : Nat × Instr), k ∈ [(1, Instr.sectionCmd), (2, .cancelCmd), (3, .beamDefCmd), (4, .beamDelCmd), (0x10, .resendCmd)] ∧
      s.takeCmd k.1 = none) ∧
    (∃ (s u : State) (x : CtrlCmd) (n : Nat), let ws := x.words; let d := sectionDesc ws; let ul := word ws 1 / 2 ^ 31 == 1;
      let span := u.spanOk x ul (word ws 2 / 2 ^ 28) (word ws 2 / 2 ^ 24 % 16);
      let good := d.nrb ≠ 0 ∧ d.startRb + d.nrb ≤ (u.secCfg ul x.car).nrb ∧ d.gran ≤ 4 ∧ ws.length = (if d.mode = modeVector then 4 + 64 * d.groups else 4);
      s.takeCmd 1 = some (x, u) ∧ span = some n ∧ good) ∧
    (∃ (s u : State) (x : CtrlCmd), let ws := x.words; let d := sectionDesc ws; let ul := word ws 1 / 2 ^ 31 == 1;
      let span := u.spanOk x ul (word ws 2 / 2 ^ 28) (word ws 2 / 2 ^ 24 % 16);
      let good := d.nrb ≠ 0 ∧ d.startRb + d.nrb ≤ (u.secCfg ul x.car).nrb ∧ d.gran ≤ 4 ∧ ws.length = (if d.mode = modeVector then 4 + 64 * d.groups else 4);
      s.takeCmd 1 = some (x, u) ∧ (span = none ∨ ¬ good)) ∧
    (∃ (s u : State) (x : CtrlCmd) (n : Nat), let ws := x.words;
      let span := u.spanOk x (word ws 1 / 2 ^ 31 == 1) (word ws 1 / 2 ^ 8 % 16) (word ws 1 / 2 ^ 4 % 16); s.takeCmd 2 = some (x, u) ∧
      ws.length = 2 ∧ span = some n) ∧
    (∃ (s u : State) (x : CtrlCmd), let ws := x.words;
      let span := u.spanOk x (word ws 1 / 2 ^ 31 == 1) (word ws 1 / 2 ^ 8 % 16) (word ws 1 / 2 ^ 4 % 16); s.takeCmd 2 = some (x, u) ∧
      (ws.length ≠ 2 ∨ span = none)) ∧
    (∃ (s u : State) (x : CtrlCmd) (e : Nat), let ws := x.words; let id := word ws 1 % 2 ^ 15; s.takeCmd 3 = some (x, u) ∧ ws.length = 66 ∧
      (∀ b, u.beam id = some b → b.pinned = false) ∧ u.freeEntry = some e) ∧
    (∃ (s u : State) (x : CtrlCmd) (b : BeamSlot), let ws := x.words; let id := word ws 1 % 2 ^ 15; s.takeCmd 3 = some (x, u) ∧ ws.length = 66 ∧
      u.beam id = some b ∧ b.pinned = true) ∧
    (∃ (s u : State) (x : CtrlCmd), let ws := x.words; s.takeCmd 3 = some (x, u) ∧ ws.length ≠ 66) ∧
    (∃ (s u : State) (x : CtrlCmd), let ws := x.words; let id := word ws 1 % 2 ^ 15; s.takeCmd 4 = some (x, u) ∧ ws.length = 2 ∧
      (∀ b, u.beam id = some b → b.pinned = false)) ∧
    (∃ (s u : State) (x : CtrlCmd) (b : BeamSlot), let ws := x.words; let id := word ws 1 % 2 ^ 15; s.takeCmd 4 = some (x, u) ∧ ws.length = 2 ∧
      u.beam id = some b ∧ b.pinned = true) ∧
    (∃ (s u : State) (x : CtrlCmd), let ws := x.words; s.takeCmd 4 = some (x, u) ∧ ws.length ≠ 2) ∧
    (∃ (s u : State) (x : CtrlCmd), let ws := x.words; s.takeCmd 0x10 = some (x, u) ∧ ws.length = 3) ∧
    (∃ (s u : State) (x : CtrlCmd), let ws := x.words; s.takeCmd 0x10 = some (x, u) ∧ ws.length ≠ 3) ∧
    (∃ (s : State), s.resends = []) ∧
    (∃ (s : State) (r : Resend) (rest : List Resend), s.resends = r :: rest ∧ s.bit MAC_FH_JRN_STAT MAC_FH_JRN_STAT_ACTIVE = false ∧
      r.run = none ∧ r.done < r.count) ∧
    (∃ (s : State) (pcId count : Nat), 0 < count ∧ count ≤ 1024 ∧ (s.ulFlow pcId).isSome = true ∧ s.resends.length < 8) :=
  ⟨⟨base, (1, .sectionCmd), by decide +kernel⟩,
    ⟨{ base with tb := 0x1E8480, regs := [(TXCH_CARCFG 3 1, 0x80017701)], ctrlCmds := [⟨1, 660, 1, 0, 2000000, true, [0x1000004, 0x32000, 0x41000040, 0x10000]⟩] },
         { base with tb := 0x1E8480, regs := [(TXCH_CARCFG 3 1, 0x80017701)] },
         ⟨1, 660, 1, 0, 2000000, true, [0x1000004, 0x32000, 0x41000040, 0x10000]⟩, 32, by decide +kernel⟩,
    ⟨{ base with ctrlCmds := [⟨1, 660, 1, 0, 2000000, true, [0x1000004]⟩] }, base, ⟨1, 660, 1, 0, 2000000, true, [0x1000004]⟩, by decide +kernel⟩,
    ⟨{ base with tb := 0x1E8480, regs := [(TXCH_CARCFG 3 1, 0x80017701)], ctrlCmds := [⟨1, 660, 1, 0, 2000000, true, [0x2000002, 0x30410]⟩] },
         { base with tb := 0x1E8480, regs := [(TXCH_CARCFG 3 1, 0x80017701)] }, ⟨1, 660, 1, 0, 2000000, true, [0x2000002, 0x30410]⟩, 32,
         by decide +kernel⟩,
    ⟨{ base with ctrlCmds := [⟨1, 660, 1, 0, 2000000, true, [0x2000003]⟩] }, base, ⟨1, 660, 1, 0, 2000000, true, [0x2000003]⟩, by decide +kernel⟩,
    ⟨{ base with ctrlCmds := [⟨1, 660, 1, 0, 2000000, true, [0x3000042, 4, 0, 1, 2, 3, 4, 5, 6, 7, 8, 9, 10, 11, 12, 13, 14, 15, 16, 17, 18, 19, 20, 21, 22, 23, 24, 25, 26, 27, 28, 29, 30, 31, 32, 33, 34, 35, 36, 37, 38, 39, 40, 41, 42, 43, 44, 45, 46, 47, 48, 49, 50, 51, 52, 53, 54, 55, 56, 57, 58, 59, 60, 61, 62, 63]⟩] },
         base,
         ⟨1, 660, 1, 0, 2000000, true, [0x3000042, 4, 0, 1, 2, 3, 4, 5, 6, 7, 8, 9, 10, 11, 12, 13, 14, 15, 16, 17, 18, 19, 20, 21, 22, 23, 24, 25, 26, 27, 28, 29, 30, 31, 32, 33, 34, 35, 36, 37, 38, 39, 40, 41, 42, 43, 44, 45, 46, 47, 48, 49, 50, 51, 52, 53, 54, 55, 56, 57, 58, 59, 60, 61, 62, 63]⟩,
         0, by decide +kernel⟩,
    ⟨defWaits, takenCmd 3 defWaits, cmdOf (0x3000042 :: 4 :: List.replicate 64 0), ⟨9, true⟩, by decide +kernel⟩,
    ⟨{ base with ctrlCmds := [⟨1, 660, 1, 0, 2000000, true, [0x3000002]⟩] }, base, ⟨1, 660, 1, 0, 2000000, true, [0x3000002]⟩, by decide +kernel⟩,
    ⟨{ base with ctrlCmds := [⟨1, 660, 1, 0, 2000000, true, [0x4000002, 3]⟩] }, base, ⟨1, 660, 1, 0, 2000000, true, [0x4000002, 3]⟩,
         by decide +kernel⟩,
    ⟨delWaits, takenCmd 4 delWaits, cmdOf [0x4000002, 4], ⟨9, true⟩, by decide +kernel⟩,
    ⟨{ base with ctrlCmds := [⟨1, 660, 1, 0, 2000000, true, [0x4000001]⟩] }, base, ⟨1, 660, 1, 0, 2000000, true, [0x4000001]⟩, by decide +kernel⟩,
    ⟨{ base with ctrlCmds := [⟨1, 660, 1, 0, 2000000, true, [0x10000003, 0x50007, 0x20000]⟩] }, base,
         ⟨1, 660, 1, 0, 2000000, true, [0x10000003, 0x50007, 0x20000]⟩, by decide +kernel⟩,
    ⟨{ base with ctrlCmds := [⟨1, 660, 1, 0, 2000000, true, [0x10000002]⟩] }, base, ⟨1, 660, 1, 0, 2000000, true, [0x10000002]⟩,
         by decide +kernel⟩,
    ⟨base, by decide +kernel⟩,
    ⟨{ base with resends := [⟨0x1000, 3, 2, 0, none⟩] }, ⟨0x1000, 3, 2, 0, none⟩, [], by decide +kernel⟩,
    ⟨{ base with regs := [(BUROG_STATUS, 0x80000000), (RXCH_CARCFG 0 1, 0x80017701)] }, 4096, 1, by decide +kernel⟩⟩

set_option maxRecDepth 100000 in
theorem witness_FronthaulServices :
    (∃ (s : State) (c : Fin 4) (x : SecSym) (why : Nat), let b := (s.secCfg false c).nextBoundary s.tb.toNat;
      let n := (s.secCfg false c).symAt b + 1;
      let xs := s.secs.filter fun y => !y.key.ul && y.key.car == (c : Nat) && y.key.sym == n && (y.stage == .committed || y.stage == .dispatched);
      let on := s.bit MAC_FH_CFG MAC_FH_CFG_DLST_EN; s.slalomOn = true ∧ (s.fhTile false c).isSome = true ∧ on = true ∧ xs = [x] ∧
      x.stage = .dispatched ∧ x.reasons = [why]) ∧
    (∃ (s : State) (c : Fin 4), let b := (s.secCfg false c).nextBoundary s.tb.toNat; let n := (s.secCfg false c).symAt b + 1;
      let xs := s.secs.filter fun y => !y.key.ul && y.key.car == (c : Nat) && y.key.sym == n && (y.stage == .committed || y.stage == .dispatched);
      let on := s.bit MAC_FH_CFG MAC_FH_CFG_DLST_EN; s.slalomOn = true ∧ (s.fhTile false c).isSome = true ∧
      (on = false ∨ (∀ x ∈ xs, x.stage = .dispatched ∧ x.reasons = []))) ∧
    (∃ (s : State) (m : EcpriMsg), let got := s.takeFh fun m => m.type == 5 && (m.action == 0 || m.action == 1); got = none) ∧
    (∃ (s u : State) (m : EcpriMsg), let got := s.takeFh fun m => m.type == 5 && (m.action == 0 || m.action == 1); got = some (m, u)) ∧
    (∃ (s : State) (m : EcpriMsg), let got := s.takeFh fun m => m.type == 5 && (m.action == 3 || m.action == 4); got = none) ∧
    (∃ (s u : State) (m : EcpriMsg), let got := s.takeFh fun m => m.type == 5 && (m.action == 3 || m.action == 4); got = some (m, u) ∧
      m.action = 3) ∧
    (∃ (s u : State) (m : EcpriMsg), let got := s.takeFh fun m => m.type == 5 && (m.action == 3 || m.action == 4); got = some (m, u) ∧
      m.action = 4) ∧
    (∃ (s : State) (m : EcpriMsg), let got := s.takeFh fun m => m.type == 5 && m.action == 2; got = none) ∧
    (∃ (s u : State) (m : EcpriMsg), let got := s.takeFh fun m => m.type == 5 && m.action == 2; got = some (m, u)) ∧
    (∃ (s : State) (m : EcpriMsg), let got := s.takeFh fun m => m.type == 5 && m.action == 5; got = none) ∧
    (∃ (s u : State) (m : EcpriMsg), let got := s.takeFh fun m => m.type == 5 && m.action == 5; got = some (m, u)) :=
  ⟨⟨{ tb := 0x1E8480, regs := [(TXCH_CARCFG 3 1, 0x80017701)], mode := .onAir, secs := [{ key := ⟨false, 1, 7, 30⟩, desc := {}, stage := .dispatched, reasons := [3] }] },
         1, { key := ⟨false, 1, 7, 30⟩, desc := {}, stage := .dispatched, reasons := [3] }, 3, by decide +kernel⟩,
    ⟨{ regs := [(TXCH_CARCFG 3 1, 0x80017701)], mode := .onAir }, 1, by decide +kernel⟩,
    ⟨{ base with fhMsgs := [⟨0, 900, []⟩] }, ⟨0, 900, []⟩, by decide +kernel⟩,
    ⟨{ base with fhMsgs := [⟨2, 900, [16, 5]⟩] }, base, ⟨2, 900, [16, 5]⟩, by decide +kernel⟩,
    ⟨{ base with fhMsgs := [⟨0, 900, []⟩] }, ⟨0, 900, []⟩, by decide +kernel⟩,
    ⟨{ base with fhMsgs := [⟨2, 900, [16, 5, 0, 20, 9, 3]⟩] }, base, ⟨2, 900, [16, 5, 0, 20, 9, 3]⟩, by decide +kernel⟩,
    ⟨{ base with fhMsgs := [⟨2, 900, [16, 5, 0, 20, 9, 4]⟩] }, base, ⟨2, 900, [16, 5, 0, 20, 9, 4]⟩, by decide +kernel⟩,
    ⟨{ base with fhMsgs := [⟨0, 900, []⟩] }, ⟨0, 900, []⟩, by decide +kernel⟩,
    ⟨{ base with fhMsgs := [⟨2, 900, [16, 5, 0, 20, 9, 2]⟩] }, base, ⟨2, 900, [16, 5, 0, 20, 9, 2]⟩, by decide +kernel⟩,
    ⟨{ base with fhMsgs := [⟨0, 900, []⟩] }, ⟨0, 900, []⟩, by decide +kernel⟩,
    ⟨{ base with fhMsgs := [⟨2, 900, [16, 5, 0, 20, 9, 5]⟩] }, base, ⟨2, 900, [16, 5, 0, 20, 9, 5]⟩, by decide +kernel⟩⟩

set_option maxRecDepth 100000 in
theorem witness_BurogFlits :
    (∃ (s : State) (k : Fin 2) (header : Word) (payload : BitVec 256) (crc : Word), let b := s.burog k;
      let rec_ := s.bit (BUROG_PSTAT k) BUROG_PSTAT_RECOVERY;
      let good := header.toNat / 2 ^ 28 ≤ 3 ∧ crc = flitCrc s.partId b.expect header payload; s.burogState k = burogRun ∧ s.mode ≠ .test ∧ ¬ good ∧
      rec_ = true) ∧
    (∃ (s : State) (k : Fin 2) (header : Word) (payload : BitVec 256) (crc : Word), let b := s.burog k;
      let rec_ := s.bit (BUROG_PSTAT k) BUROG_PSTAT_RECOVERY;
      let good := header.toNat / 2 ^ 28 ≤ 3 ∧ crc = flitCrc s.partId b.expect header payload; s.burogState k = burogRun ∧ s.mode ≠ .test ∧ ¬ good ∧
      rec_ = false) ∧
    (∃ (s : State) (k : Fin 2) (header : Word) (payload : BitVec 256) (crc : Word), let b := s.burog k;
      let good := header.toNat / 2 ^ 28 ≤ 3 ∧ crc = flitCrc s.partId b.expect header payload; s.burogState k = burogRun ∧ s.mode ≠ .test ∧ good ∧
      header.toNat / 2 ^ 28 = 1) ∧
    (∃ (s : State) (k : Fin 2) (n : BitVec 12), let b := s.burog k; let d := (n.toNat + 4096 - b.oldest) % 4096; s.burogState k = burogRun ∧
      0 < d ∧ d < b.retry.length) ∧
    (∃ (s : State) (k : Fin 2) (n : BitVec 12), let b := s.burog k; let most := max 1 (s.fld BUROG_TMO BUROG_TMO_RETRY_MAX);
      let d := (n.toNat + 4096 - b.oldest) % 4096; s.burogState k = burogRun ∧ d = 0 ∧ b.retry ≠ [] ∧ b.replays < most) ∧
    (∃ (s : State) (k : Fin 2) (n : BitVec 12), let b := s.burog k; let d := (n.toNat + 4096 - b.oldest) % 4096; s.burogState k = burogRun ∧
      b.retry.length ≤ d) ∧
    (∃ (s : State) (k : Fin 2), let b := s.burog k; let most := max 1 (s.fld BUROG_TMO BUROG_TMO_RETRY_MAX); s.burogState k = burogRun ∧
      b.retry ≠ [] ∧ most ≤ b.replays ∧ (s.follows Ev.BUROG_LINK_DOWN = false ∨ s.burogExists k = true)) ∧
    (∃ (s : State) (k : Fin 2), let b := s.burog k; s.burogState k = burogRun ∧ b.retry = []) ∧
    (∃ (s : State) (k : Fin 2), let b := s.burog k; let due := (b.sent / max 1 (s.burogNum k) + 1) % 1024 = 0; s.burogState k = burogRun ∧ due) ∧
    (∃ (s : State) (k : Fin 2), let b := s.burog k; let due := (b.sent / max 1 (s.burogNum k) + 1) % 1024 = 0; s.burogState k = burogRun ∧ ¬ due ∧
      b.nak = true) ∧
    (∃ (s : State) (k : Fin 2) (f : Flit), let b := s.burog k; let due := (b.sent / max 1 (s.burogNum k) + 1) % 1024 = 0;
      s.burogState k = burogRun ∧ ¬ due ∧ b.nak = false ∧ 0 < b.again ∧ b.again ≤ b.retry.length ∧ b.retry[b.retry.length - b.again]? = some f) ∧
    (∃ (s : State) (k : Fin 2) (f : Flit) (q : List Flit), let b := s.burog k; let due := (b.sent / max 1 (s.burogNum k) + 1) % 1024 = 0;
      s.burogState k = burogRun ∧ ¬ due ∧ s.mode ≠ .test ∧ b.nak = false ∧ b.again = 0 ∧ b.retry.length < min (512 * s.burogNum k) 2048 ∧
      b.q0 = f :: q ∧ b.used.getD 0 0 < 64 + b.returned.getD 0 0 ∧ f.isTime = false) ∧
    (∃ (s : State) (k : Fin 2), let b := s.burog k; let due := (b.sent / max 1 (s.burogNum k) + 1) % 1024 = 0; s.burogState k = burogRun ∧ ¬ due ∧
      b.nak = false ∧ b.again = 0 ∧ b.newData (s.burogNum k) = none) :=
  ⟨⟨{ base with regs := [(BUROG_PSTAT 0, 0x84000000)] }, 0, 0x10000000, 5, 0x10000000, by decide +kernel⟩,
    ⟨{ base with regs := [(BUROG_PSTAT 0, 0x80000000)] }, 0, 0x10000000, 5, 0x10000000, by decide +kernel⟩,
    ⟨{ base with regs := [(BUROG_PSTAT 0, 0x80000000)] }, 0, 0x10000000, 5, flitCrc 0 0 0x10000000 5, by decide +kernel⟩,
    ⟨{ base with regs := [(BUROG_PSTAT 0, 0x80000000)], burogs := [(0, { retry := [⟨1, true, true, 0x100000000000000000000000000000000000000000000000000000000000004D⟩, ⟨2, true, true, 0x200000000000000000000000000000000000000000000000000000000000004D⟩], used := [], returned := [], freed := [] })] },
         0, 0xFFF, by decide +kernel⟩,
    ⟨{ base with regs := [(BUROG_TMO, 0x1040020), (BUROG_PSTAT 0, 0x80000000)], burogs := [(0, { next := 5, retry := [⟨1, true, true, 0x100000000000000000000000000000000000000000000000000000000000004D⟩, ⟨2, true, true, 0x200000000000000000000000000000000000000000000000000000000000004D⟩], used := [], returned := [], freed := [] })] },
         0, 3, by decide +kernel⟩,
    ⟨{ base with regs := [(BUROG_PSTAT 0, 0x80000000)] }, 0, 0, by decide +kernel⟩,
    ⟨{ base with regs := [(BUROG_PSTAT 0, 0x80000000)], burogs := [(0, { retry := [⟨1, true, true, 0x100000000000000000000000000000000000000000000000000000000000004D⟩], replays := 15, used := [], returned := [], freed := [] })] },
         0, by decide +kernel⟩,
    ⟨{ base with regs := [(BUROG_PSTAT 0, 0x80000000)] }, 0, by decide +kernel⟩,
    ⟨{ base with regs := [(BUROG_PSTAT 1, 0x80000000)], burogs := [(1, { sent := 1023 })] }, 1, by decide +kernel⟩,
    ⟨{ base with regs := [(BUROG_PSTAT 0, 0x80000000)], burogs := [(0, { nak := true, used := [], returned := [], freed := [] })] }, 0,
         by decide +kernel⟩,
    ⟨{ base with regs := [(BUROG_PSTAT 0, 0x80000000)], burogs := [(0, { retry := [⟨0, true, true, 77⟩, ⟨1, true, true, 78⟩], again := 1 })] }, 0,
         ⟨1, true, true, 78⟩, by decide +kernel⟩,
    ⟨{ base with regs := [(BUROG_CFG, 0x2440000), (BUROG_PSTAT 0, 0x80000000)], burogs := [(0, { q0 := [⟨0, true, true, 0x400000000000000000000000000000000000000000000000000000000000004D⟩], used := [64], returned := [1], freed := [] })] },
         0, ⟨0, true, true, 0x400000000000000000000000000000000000000000000000000000000000004D⟩, [], by decide +kernel⟩,
    ⟨{ base with regs := [(BUROG_PSTAT 0, 0x80000000)] }, 0, by decide +kernel⟩⟩

set_option maxRecDepth 100000 in
theorem witness_BurogPorts :
    (∃ (s : State) (k : Fin 2), s.burogState k = burogDown) ∧
    (∃ (s : State) (k : Fin 2), (s.burogState k = burogTraining ∨ s.burogState k = burogRefused)) ∧
    (∃ (s : State) (k : Fin 2) (header : Word) (payload : BitVec 256) (crc : Word),
      let passes := header.toNat / 2 ^ 28 ≤ 3 ∧ crc = flitCrc 15 0 header payload; s.burogState k = burogTraining ∧ s.mode ≠ .test ∧ passes ∧
      header.toNat / 2 ^ 28 = 0) ∧
    (∃ (s : State) (k : Fin 2) (header : Word) (payload : BitVec 256) (crc : Word),
      let passes := header.toNat / 2 ^ 28 ≤ 3 ∧ crc = flitCrc 15 0 header payload; s.burogState k = burogTraining ∧ s.mode ≠ .test ∧ passes ∧
      header.toNat / 2 ^ 28 = 3) ∧
    (∃ (s : State) (k : Fin 2) (header : Word) (payload : BitVec 256) (crc : Word),
      let passes := header.toNat / 2 ^ 28 ≤ 3 ∧ crc = flitCrc 15 0 header payload; s.burogState k = burogTraining ∧ s.mode ≠ .test ∧ passes ∧
      header.toNat / 2 ^ 28 ≠ 0 ∧ header.toNat / 2 ^ 28 ≠ 3) ∧
    (∃ (s : State) (k : Fin 2) (header : Word) (payload : BitVec 256) (crc : Word),
      let passes := header.toNat / 2 ^ 28 ≤ 3 ∧ crc = flitCrc 15 0 header payload; s.burogState k = burogTraining ∧ s.mode ≠ .test ∧ ¬ passes) ∧
    (∃ (s : State) (k : Fin 2), let L := s.burogNum k; let lane := (s.burog k).trainLane; let passed := ∀ i < L, 64 ≤ (lane i).run;
      s.burogState k = burogTraining ∧ ¬ passed) ∧
    (∃ (s : State) (k : Fin 2), let L := s.burogNum k; let lane := (s.burog k).trainLane; let passed := ∀ i < L, 64 ≤ (lane i).run;
      let g := fun i => pbits (lane i).payload; let side := ∀ i < L, g i 252 4 = if k = 0 then 2 else 1; s.burogState k = burogTraining ∧ passed ∧
      ¬ side) ∧
    (∃ (s : State) (k : Fin 2), let L := s.burogNum k; let lane := (s.burog k).trainLane; let passed := ∀ i < L, 64 ≤ (lane i).run;
      let g := fun i => pbits (lane i).payload; let side := ∀ i < L, g i 252 4 = if k = 0 then 2 else 1;
      let matched := ∀ i < L, g i 249 3 = L ∧ g i 247 2 = i; s.burogState k = burogTraining ∧ passed ∧ side ∧ ¬ matched) ∧
    (∃ (s : State) (k : Fin 2) (skew : Nat), let L := s.burogNum k; let lane := (s.burog k).trainLane; let passed := ∀ i < L, 64 ≤ (lane i).run;
      let g := fun i => pbits (lane i).payload; let side := ∀ i < L, g i 252 4 = if k = 0 then 2 else 1;
      let matched := ∀ i < L, g i 249 3 = L ∧ g i 247 2 = i; s.burogState k = burogTraining ∧ passed ∧ side ∧ matched ∧ 64 < skew) ∧
    (∃ (s : State) (k : Fin 2) (skew i : Nat), let L := s.burogNum k; let lane := (s.burog k).trainLane; let passed := ∀ i < L, 64 ≤ (lane i).run;
      let g := fun i => pbits (lane i).payload; let side := ∀ i < L, g i 252 4 = if k = 0 then 2 else 1;
      let matched := ∀ i < L, g i 249 3 = L ∧ g i 247 2 = i; s.burogState k = burogTraining ∧ i < L ∧ passed ∧ side ∧ matched ∧ skew ≤ 64 ∧
      g i 243 1 = 1 ∧ (∀ j < i, g j 243 1 ≠ 1)) ∧
    (∃ (s : State) (k : Fin 2) (skew : Nat), let L := s.burogNum k; let lane := (s.burog k).trainLane; let passed := ∀ i < L, 64 ≤ (lane i).run;
      let g := fun i => pbits (lane i).payload; let side := ∀ i < L, g i 252 4 = if k = 0 then 2 else 1;
      let matched := ∀ i < L, g i 249 3 = L ∧ g i 247 2 = i; let fine := passed ∧ side ∧ matched ∧ skew ≤ 64 ∧ ∀ i < L, g i 243 1 ≠ 1;
      s.burogState k = burogTraining ∧ fine ∧ k = 1 ∧ s.idValid = false) ∧
    (∃ (s : State) (k : Fin 2) (skew : Nat), let L := s.burogNum k; let lane := (s.burog k).trainLane; let passed := ∀ i < L, 64 ≤ (lane i).run;
      let g := fun i => pbits (lane i).payload; let side := ∀ i < L, g i 252 4 = if k = 0 then 2 else 1;
      let matched := ∀ i < L, g i 249 3 = L ∧ g i 247 2 = i; let fine := passed ∧ side ∧ matched ∧ skew ≤ 64 ∧ ∀ i < L, g i 243 1 ≠ 1;
      s.burogState k = burogTraining ∧ fine ∧ k = 1 ∧ s.idValid = true ∧ s.idsSpent = true) ∧
    (∃ (s : State) (k : Fin 2) (skew : Nat), let L := s.burogNum k; let lane := (s.burog k).trainLane; let f := pbits (lane 0).payload;
      let passed := ∀ i < L, 64 ≤ (lane i).run; let g := fun i => pbits (lane i).payload; let side := ∀ i < L, g i 252 4 = if k = 0 then 2 else 1;
      let matched := ∀ i < L, g i 249 3 = L ∧ g i 247 2 = i; let fine := passed ∧ side ∧ matched ∧ skew ≤ 64 ∧ ∀ i < L, g i 243 1 ≠ 1;
      s.burogState k = burogTraining ∧ fine ∧ k = 1 ∧ s.idValid = true ∧ s.idsSpent = false ∧ f 246 1 = 1 ∧ f 244 2 ≠ s.partId + 1) ∧
    (∃ (s : State) (k : Fin 2) (skew : Nat), let L := s.burogNum k; let lane := (s.burog k).trainLane; let f := pbits (lane 0).payload;
      let passed := ∀ i < L, 64 ≤ (lane i).run; let g := fun i => pbits (lane i).payload; let side := ∀ i < L, g i 252 4 = if k = 0 then 2 else 1;
      let matched := ∀ i < L, g i 249 3 = L ∧ g i 247 2 = i; let fine := passed ∧ side ∧ matched ∧ skew ≤ 64 ∧ ∀ i < L, g i 243 1 ≠ 1;
      s.burogState k = burogTraining ∧ fine ∧ k = 1 ∧ s.idValid = true ∧ s.idsSpent = false ∧ (f 246 1 = 0 ∨ f 244 2 = s.partId + 1)) ∧
    (∃ (s : State) (k : Fin 2) (skew : Nat), let L := s.burogNum k; let lane := (s.burog k).trainLane; let f := pbits (lane 0).payload;
      let passed := ∀ i < L, 64 ≤ (lane i).run; let g := fun i => pbits (lane i).payload; let side := ∀ i < L, g i 252 4 = if k = 0 then 2 else 1;
      let matched := ∀ i < L, g i 249 3 = L ∧ g i 247 2 = i; let fine := passed ∧ side ∧ matched ∧ skew ≤ 64 ∧ ∀ i < L, g i 243 1 ≠ 1;
      s.burogState k = burogTraining ∧ fine ∧ k = 0 ∧ f 246 1 = 0) ∧
    (∃ (s : State) (k : Fin 2) (skew : Nat), let L := s.burogNum k; let lane := (s.burog k).trainLane; let f := pbits (lane 0).payload;
      let passed := ∀ i < L, 64 ≤ (lane i).run; let g := fun i => pbits (lane i).payload; let side := ∀ i < L, g i 252 4 = if k = 0 then 2 else 1;
      let matched := ∀ i < L, g i 249 3 = L ∧ g i 247 2 = i; let fine := passed ∧ side ∧ matched ∧ skew ≤ 64 ∧ ∀ i < L, g i 243 1 ≠ 1;
      s.burogState k = burogTraining ∧ fine ∧ k = 0 ∧ f 246 1 = 1 ∧ s.idValid = false ∧ f 244 2 < 3) ∧
    (∃ (s : State) (k : Fin 2) (skew : Nat), let L := s.burogNum k; let lane := (s.burog k).trainLane; let f := pbits (lane 0).payload;
      let passed := ∀ i < L, 64 ≤ (lane i).run; let g := fun i => pbits (lane i).payload; let side := ∀ i < L, g i 252 4 = if k = 0 then 2 else 1;
      let matched := ∀ i < L, g i 249 3 = L ∧ g i 247 2 = i; let fine := passed ∧ side ∧ matched ∧ skew ≤ 64 ∧ ∀ i < L, g i 243 1 ≠ 1;
      s.burogState k = burogTraining ∧ fine ∧ k = 0 ∧ f 246 1 = 1 ∧ s.idValid = true ∧ s.partId = f 244 2 + 1) ∧
    (∃ (s : State) (k : Fin 2) (skew : Nat), let L := s.burogNum k; let lane := (s.burog k).trainLane; let f := pbits (lane 0).payload;
      let passed := ∀ i < L, 64 ≤ (lane i).run; let g := fun i => pbits (lane i).payload; let side := ∀ i < L, g i 252 4 = if k = 0 then 2 else 1;
      let matched := ∀ i < L, g i 249 3 = L ∧ g i 247 2 = i; let fine := passed ∧ side ∧ matched ∧ skew ≤ 64 ∧ ∀ i < L, g i 243 1 ≠ 1;
      s.burogState k = burogTraining ∧ fine ∧ k = 0 ∧ f 246 1 = 1 ∧ s.idValid = true ∧ s.partId ≠ f 244 2 + 1) ∧
    (∃ (s : State), s.burogTake 1 0 2 = none) ∧
    (∃ (s : State) (l : List (BitVec 256)) (u : State), s.burogTake 1 0 2 = some (l, u) ∧ u.kValid = false) ∧
    (∃ (s : State) (l : List (BitVec 256)) (u : State), let size := pbits (l.headD 0) 250 2 + 1; s.burogTake 1 0 2 = some (l, u) ∧
      u.kValid = true ∧ u.groupSize = size) ∧
    (∃ (s : State) (l : List (BitVec 256)) (u : State), let size := pbits (l.headD 0) 250 2 + 1; s.burogTake 1 0 2 = some (l, u) ∧
      u.kValid = true ∧ u.groupSize ≠ size) ∧
    (∃ (s : State), s.answers BUROG_CMD = true ∧ s.mode = .configure) ∧
    (∃ (s : State), s.answers BUROG_CMD = true ∧ s.mode ≠ .configure) :=
  ⟨⟨base, 0, by decide +kernel⟩,
    ⟨{ base with regs := [(BUROG_PSTAT 0, 0x40000000)] }, 0, by decide +kernel⟩,
    ⟨{ base with regs := [(BUROG_PSTAT 0, 0x40000000)] }, 0, 7, 5, flitCrc 15 0 7 5, by decide +kernel⟩,
    ⟨{ base with regs := [(BUROG_PSTAT 0, 0x40000000)] }, 0, 0x30000007, 5, flitCrc 15 0 0x30000007 5, by decide +kernel⟩,
    ⟨{ base with regs := [(BUROG_PSTAT 1, 0x40000000)] }, 1, 0x20000007, 5, flitCrc 15 0 0x20000007 5, by decide +kernel⟩,
    ⟨{ base with regs := [(BUROG_PSTAT 0, 0x40000000)] }, 0, 0x40000000, 5, 0, by decide +kernel⟩,
    ⟨{ base with regs := [(BUROG_CFG, 0x2440000), (BUROG_PSTAT 0, 0x40000000)] }, 0, by decide +kernel⟩,
    ⟨{ base with regs := [(BUROG_CFG, fw [(BUROG_CFG_DN_NUM, 1)]), (BUROG_PSTAT 0, fw [(BUROG_PSTAT_STATE, 1)])], burogs := [(0, { train := [(0, { run := 64, payload := 0 })] })] },
         0, by decide +kernel⟩,
    ⟨{ base with regs := [(BUROG_CFG, fw [(BUROG_CFG_UP_NUM, 1)]), (BUROG_PSTAT 1, fw [(BUROG_PSTAT_STATE, 1)])], burogs := [(1, { train := [(0, { run := 64, payload := 0x1400 <<< 240 })] })] },
         1, by decide +kernel⟩,
    ⟨{ base with regs := [(BUROG_CFG, fw [(BUROG_CFG_DN_NUM, 1)]), (BUROG_PSTAT 0, fw [(BUROG_PSTAT_STATE, 1)])], burogs := [(0, { train := [(0, { run := 64, payload := 0x22 <<< 248 })] })] },
         0, 65, by decide +kernel⟩,
    ⟨{ base with regs := [(BUROG_CFG, 0x2440000), (BUROG_PSTAT 1, 0x40000000)], burogs := [(1, { used := [], returned := [], freed := [], train := [(0, { run := 64, payload := 0x1406000000000000000000000000000000000000000000000000000000000000, at_ := 99 }), (1, { run := 65, payload := 0x148E000000000000000000000000000000000000000000000000000000000000, at_ := 99 })] })] },
         1, 0, 1, by decide +kernel⟩,
    ⟨{ base with regs := [(BUROG_CFG, 0x2440000), (BUROG_PSTAT 1, 0x40000000)], burogs := [(1, { used := [], returned := [], freed := [], train := [(0, { run := 64, payload := 0x1406000000000000000000000000000000000000000000000000000000000000, at_ := 99 }), (1, { run := 65, payload := 0x1486000000000000000000000000000000000000000000000000000000000000, at_ := 99 })] })] },
         1, 0, by decide +kernel⟩,
    ⟨{ base with regs := [(BUROG_CFG, fw [(BUROG_CFG_UP_NUM, 1)]), (BUROG_STATUS, 0x80000000), (BUROG_PSTAT 1, fw [(BUROG_PSTAT_STATE, 1)]), (SLALOM_CASC_CFG, fw [(SLALOM_CASC_CFG_PART_ID, 3)])], burogs := [(1, { train := [(0, { run := 64, payload := 0x1200 <<< 240 })] })] },
         1, 64, by decide +kernel⟩,
    ⟨{ base with regs := [(BUROG_CFG, fw [(BUROG_CFG_UP_NUM, 1)]), (BUROG_STATUS, 0x80000000), (BUROG_PSTAT 1, fw [(BUROG_PSTAT_STATE, 1)])], burogs := [(1, { train := [(0, { run := 64, payload := 0x1240 <<< 240 })] })] },
         1, 64,
         by refine ⟨?_, ?_, ?_, ?_, ?_, ?_, ?_⟩ <;> first | decide +kernel | (unfold State.idsSpent; rw [Bool.and_comm Config.steppingA1]; decide +kernel)⟩,
    ⟨{ base with regs := [(BUROG_CFG, fw [(BUROG_CFG_UP_NUM, 1)]), (BUROG_STATUS, 0x80000000), (BUROG_PSTAT 1, fw [(BUROG_PSTAT_STATE, 1)])], burogs := [(1, { train := [(0, { run := 64, payload := 0x1200 <<< 240 })] })] },
         1, 64,
         by refine ⟨?_, ?_, ?_, ?_, ?_, ?_⟩ <;> first | decide +kernel | (unfold State.idsSpent; rw [Bool.and_comm Config.steppingA1]; decide +kernel)⟩,
    ⟨{ base with regs := [(BUROG_CFG, 0x2440000), (BUROG_PSTAT 0, 0x40000000)], burogs := [(0, { used := [], returned := [], freed := [], train := [(0, { run := 64, payload := 0x2206000000000000000000000000000000000000000000000000000000000000, at_ := 99 })] })] },
         0, 0, by decide +kernel⟩,
    ⟨{ base with regs := [(BUROG_CFG, 0x2440000), (BUROG_PSTAT 0, 0x40000000)], burogs := [(0, { used := [], returned := [], freed := [], train := [(0, { run := 64, payload := 0x2246000000000000000000000000000000000000000000000000000000000000, at_ := 99 })] })] },
         0, 0, by decide +kernel⟩,
    ⟨{ base with regs := [(SLALOM_CASC_CFG, 0x101000), (BUROG_CFG, 0x2440000), (BUROG_STATUS, 0x80000000), (BUROG_PSTAT 0, 0x40000000)], burogs := [(0, { used := [], returned := [], freed := [], train := [(0, { run := 64, payload := 0x2246000000000000000000000000000000000000000000000000000000000000, at_ := 99 })] })] },
         0, 0, by decide +kernel⟩,
    ⟨{ base with regs := [(BUROG_CFG, 0x2440000), (BUROG_STATUS, 0x80000000), (BUROG_PSTAT 0, 0x40000000)], burogs := [(0, { used := [], returned := [], freed := [], train := [(0, { run := 64, payload := 0x2246000000000000000000000000000000000000000000000000000000000000, at_ := 99 })] })] },
         0, 0, by decide +kernel⟩,
    ⟨base, by decide +kernel⟩,
    ⟨{ base with burogs := [(1, { used := [], returned := [], freed := [], inbox := [(0, [0x2800000000000000000000000000000000000000000000000000000000000000])] })] },
         [0x2800000000000000000000000000000000000000000000000000000000000000],
         { base with burogs := [(1, { used := [], returned := [], freed := [] })] }, by decide +kernel⟩,
    ⟨{ base with regs := [(SLALOM_CASC_CFG, 0x801000), (BUROG_STATUS, 0xC0000000)], burogs := [(1, { used := [], returned := [], freed := [], inbox := [(0, [0x2800000000000000000000000000000000000000000000000000000000000000])] })] },
         [0x2800000000000000000000000000000000000000000000000000000000000000],
         { base with regs := [(SLALOM_CASC_CFG, 0x801000), (BUROG_STATUS, 0xC0000000)], burogs := [(1, { used := [], returned := [], freed := [] })] },
         by decide +kernel⟩,
    ⟨{ base with regs := [(BUROG_STATUS, 0xC0000000)], burogs := [(1, { used := [], returned := [], freed := [], inbox := [(0, [0x2800000000000000000000000000000000000000000000000000000000000000])] })] },
         [0x2800000000000000000000000000000000000000000000000000000000000000],
         { base with regs := [(BUROG_STATUS, 0xC0000000)], burogs := [(1, { used := [], returned := [], freed := [] })] }, by decide +kernel⟩,
    ⟨{ mode := .configure }, by decide +kernel⟩,
    ⟨{ mode := .onAir }, by decide +kernel⟩⟩

set_option maxRecDepth 100000 in
theorem witness_BurogMessages :
    (∃ (s : State), s.burogTake 1 1 1 = none) ∧
    (∃ (s u : State) (l : List (BitVec 256)) (x : SecSym), let header := takeBits (payloadsNat l) (256 * l.length) 0 64;
      s.burogTake 1 1 1 = some (l, u) ∧ u.hasUpstream = true ∧ (u.secs.find? fun x => x.awaits && u.psumHeader x == header) = some x) ∧
    (∃ (s u : State) (l : List (BitVec 256)), let header := takeBits (payloadsNat l) (256 * l.length) 0 64; s.burogTake 1 1 1 = some (l, u) ∧
      (u.hasUpstream = false ∨ (∀ x ∈ u.secs, x.awaits = true → u.psumHeader x ≠ header))) ∧
    (∃ (s : State), s.burogTake 0 0 3 = none) ∧
    (∃ (s u : State) (l : List (BitVec 256)), s.burogTake 0 0 3 = some (l, u) ∧ u.timeSrc ≠ 1) ∧
    (∃ (s u : State) (l : List (BitVec 256)), s.burogTake 0 0 3 = some (l, u) ∧ u.timeSrc = 1) ∧
    (∃ (s : State), s.qual ≠ untraceable ∧ s.burogState 1 = burogRun) ∧
    (∃ (s : State), (s.qual = untraceable ∨ s.burogState 1 ≠ burogRun)) ∧
    (∃ (s : State) (k : Fin 2) (msg : BitVec 4), let vc := if msg = 6 then 3 else 2; (msg = 4 ∨ msg = 5 ∨ msg = 6) ∧
      s.burogTake k vc msg.toNat = none) ∧
    (∃ (s u : State) (l : List (BitVec 256)) (k : Fin 2) (msg : BitVec 4), let vc := if msg = 6 then 3 else 2; let r := relayedOf l;
      (msg = 4 ∨ msg = 5 ∨ msg = 6) ∧ s.burogTake k vc msg.toNat = some (l, u) ∧ r.dest ≠ u.partId) ∧
    (∃ (s u : State) (l : List (BitVec 256)) (k : Fin 2) (msg : BitVec 4), let vc := if msg = 6 then 3 else 2; let r := relayedOf l;
      (msg = 4 ∨ msg = 5 ∨ msg = 6) ∧ s.burogTake k vc msg.toNat = some (l, u) ∧ r.dest = u.partId ∧ msg ≠ 6 ∧ r.more = true) ∧
    (∃ (s u : State) (l : List (BitVec 256)) (k : Fin 2) (msg : BitVec 4), let vc := if msg = 6 then 3 else 2; let r := relayedOf l;
      (msg = 4 ∨ msg = 5 ∨ msg = 6) ∧ s.burogTake k vc msg.toNat = some (l, u) ∧ r.dest = u.partId ∧ msg ≠ 6 ∧ r.more = false) ∧
    (∃ (s u : State) (l : List (BitVec 256)) (k : Fin 2) (msg : BitVec 4) (x : Nat × List Byte), let vc := if msg = 6 then 3 else 2;
      let r := relayedOf l; (msg = 4 ∨ msg = 5 ∨ msg = 6) ∧ s.burogTake k vc msg.toNat = some (l, u) ∧ r.dest = u.partId ∧ msg = 6 ∧
      (u.relayIn.find? fun x => x.1 == k.val) = some x) :=
  ⟨⟨base, by decide +kernel⟩,
    ⟨{ base with regs := [(SLALOM_CASC_CFG, 0x801000), (BUROG_STATUS, 0xC0000000)], secs := [{ key := ⟨true, 1, 8, 41⟩, desc := {}, stage := .committed, used := { nrb := 2, version := 3 } }], burogs := [(1, { used := [], returned := [], freed := [], inbox := [(1, [0x14020E9410D01000000000000000000000000000000000000000000000003039])] })] },
         { base with regs := [(SLALOM_CASC_CFG, 0x801000), (BUROG_STATUS, 0xC0000000)], secs := [{ key := ⟨true, 1, 8, 41⟩, desc := {}, stage := .committed, used := { nrb := 2, version := 3 } }], burogs := [(1, { used := [], returned := [], freed := [] })] },
         [0x14020E9410D01000000000000000000000000000000000000000000000003039],
         { key := ⟨true, 1, 8, 41⟩, desc := {}, stage := .committed, used := { nrb := 2, version := 3 } }, by decide +kernel⟩,
    ⟨{ base with burogs := [(1, { used := [], returned := [], freed := [], inbox := [(1, [0x14020E9410D01000000000000000000000000000000000000000000000003039])] })] },
         { base with burogs := [(1, { used := [], returned := [], freed := [] })] },
         [0x14020E9410D01000000000000000000000000000000000000000000000003039], by decide +kernel⟩,
    ⟨base, by decide +kernel⟩,
    ⟨{ base with burogs := [(0, { used := [], returned := [], freed := [], inbox := [(0, [0x3000000000000000000000007735907C50000000000000000000000000000000])] })] },
         { base with burogs := [(0, { used := [], returned := [], freed := [] })] },
         [0x3000000000000000000000007735907C50000000000000000000000000000000], by decide +kernel⟩,
    ⟨{ base with regs := [(TIME_CTRL, 0x40000064)], burogs := [(0, { used := [], returned := [], freed := [], inbox := [(0, [0x3000000000000000000000007735907C50000000000000000000000000000000])] })] },
         { base with regs := [(TIME_CTRL, 0x40000064)], burogs := [(0, { used := [], returned := [], freed := [] })] },
         [0x3000000000000000000000007735907C50000000000000000000000000000000], by decide +kernel⟩,
    ⟨{ base with regs := [(BUROG_PSTAT 1, 0x80000000), (TIME_STATUS, 0x40000000)] }, by decide +kernel⟩,
    ⟨base, by decide +kernel⟩,
    ⟨base, 0, 4, by decide +kernel⟩,
    ⟨inboxed 2 (0x44 <<< 248), took 2 4 (inboxed 2 (0x44 <<< 248)), [0x44 <<< 248], 0, 4, by decide +kernel⟩,
    ⟨inboxed 2 (0x508 <<< 244), took 2 5 (inboxed 2 (0x508 <<< 244)), [0x508 <<< 244], 0, 5, by decide +kernel⟩,
    ⟨{ base with regs := [(SLALOM_CASC_CFG, 0xD01000)], burogs := [(0, { used := [], returned := [], freed := [], inbox := [(2, [0x4510000000030000ABCD00000000000000000000000000000000000000000000])] })] },
         { base with regs := [(SLALOM_CASC_CFG, 0xD01000)], burogs := [(0, { used := [], returned := [], freed := [] })] },
         [0x4510000000030000ABCD00000000000000000000000000000000000000000000], 0, 4, by decide +kernel⟩,
    ⟨{ inboxed 3 (6 <<< 252) with relayIn := [(0, [4, 0, 1, 1, 0, 0, 0])] },
         took 3 6 { inboxed 3 (6 <<< 252) with relayIn := [(0, [4, 0, 1, 1, 0, 0, 0])] }, [6 <<< 252], 0, 6, (0, [4, 0, 1, 1, 0, 0, 0]),
         by decide +kernel⟩⟩

set_option maxRecDepth 100000 in
theorem witness_CheckValues :
    (∃ (s : State) (u : Fin 16), s.answers (CU_CMD u) = true ∧ s.cuBound u = false ∧ s.cuFeed u = false) ∧
    (∃ (s : State) (u : Fin 16), s.answers (CU_DATA_W u) = true ∧ s.answers (CU_DATA_B u) = true ∧ s.cuBound u = false ∧
      s.bit (CU_CFG u) CU_CFG_SRC = false) ∧
    (∃ (s : State) (u : Fin 16), s.answers (CU_DATA_W u) = true ∧ s.answers (CU_DATA_B u) = true ∧ s.cuBound u = false ∧
      s.bit (CU_CFG u) CU_CFG_SRC = true ∧ s.cuFeed u = false) ∧
    (∃ (s : State) (u : Fin 16), s.answers (CU_RUN_HI u) = true ∧ s.cuBound u = false ∧ s.cuFeed u = false) ∧
    (∃ (s : State) (u : Fin 16), s.answers (CU_RUN_LO u) = true) ∧
    (∃ (s : State) (u : Fin 16), s.answers (CU_RESULT_LO u) = true) ∧
    (∃ (s : State) (u : Fin 16), (s.cuBound u = true ∨ s.cuFeed u = true)) :=
  ⟨⟨{ mode := .onAir }, 0, by decide +kernel⟩,
    ⟨{ mode := .onAir }, 0, by decide +kernel⟩,
    ⟨{ regs := [(CU_CFG 12, 0x88000018)], mode := .onAir }, 12, by decide +kernel⟩,
    ⟨{ mode := .onAir }, 0, by decide +kernel⟩,
    ⟨{ mode := .onAir }, 0, by decide +kernel⟩,
    ⟨{ mode := .onAir }, 0, by decide +kernel⟩,
    ⟨base, 9, by decide +kernel⟩⟩

set_option maxRecDepth 100000 in
theorem witness_TimeSamples :
    (∃ (s : State), s.timeSrc ≠ 0) ∧
    (∃ (s : State) (th : Int) (gm : BitVec 64) (age : Nat), let t := post (.ptpOffsetSample th age gm) s; s.timeSrc = 0 ∧
      (s.hpllState ≠ pllLocked ∨ (∃ t, s.stepDone = some t ∧ s.now ≤ t + age) ∨ s.bit TIME_STATUS TIME_STATUS_MASTER_HELD = true)) ∧
    (∃ (s : State) (th : Int) (gm : BitVec 64) (age : Nat),
      let step := s.bit TIME_STATUS TIME_STATUS_STEP_USED = false ∧ s.mode ≠ .onAir ∧ s.mode ≠ .quiet; let t := post (.ptpOffsetSample th age gm) s;
      s.timeSrc = 0 ∧ s.hpllState = pllLocked ∧ (∀ t, s.stepDone = some t → t + age < s.now) ∧ (s.refMaster = none ∨ s.refMaster = some gm) ∧
      s.bit TIME_STATUS TIME_STATUS_MASTER_HELD = false ∧ step) ∧
    (∃ (s : State) (th : Int) (gm : BitVec 64) (age : Nat),
      let step := s.bit TIME_STATUS TIME_STATUS_STEP_USED = false ∧ s.mode ≠ .onAir ∧ s.mode ≠ .quiet;
      let jump := beyondNs th (s.fld TIME_CTRL TIME_CTRL_JUMP_THRESH); let t := post (.ptpOffsetSample th age gm) s; s.timeSrc = 0 ∧
      s.hpllState = pllLocked ∧ (∀ t, s.stepDone = some t → t + age < s.now) ∧ (s.refMaster = none ∨ s.refMaster = some gm) ∧
      s.bit TIME_STATUS TIME_STATUS_MASTER_HELD = false ∧ ¬ step ∧ jump = true) ∧
    (∃ (s : State) (th : Int) (gm : BitVec 64) (age : Nat),
      let step := s.bit TIME_STATUS TIME_STATUS_STEP_USED = false ∧ s.mode ≠ .onAir ∧ s.mode ≠ .quiet;
      let jump := beyondNs th (s.fld TIME_CTRL TIME_CTRL_JUMP_THRESH); let t := post (.ptpOffsetSample th age gm) s; s.timeSrc = 0 ∧
      s.hpllState = pllLocked ∧ (∀ t, s.stepDone = some t → t + age < s.now) ∧ (s.refMaster = none ∨ s.refMaster = some gm) ∧
      s.bit TIME_STATUS TIME_STATUS_MASTER_HELD = false ∧ ¬ step ∧ jump = false ∧ beyondNs th (s.fld TIME_SERVO TIME_SERVO_LOCK_THR) = false ∧
      15 ≤ s.goodRun) ∧
    (∃ (s : State), s.answers TIME_OFS_IN_HI = true) :=
  ⟨⟨{ base with regs := [(TIME_CTRL, 0x40000064)] }, by decide +kernel⟩,
    ⟨base, 0, 5, 0, by decide +kernel⟩,
    ⟨{ regs := [(HPLL_STATUS, 0x60000000)] }, 0, 5, 0, by decide +kernel⟩,
    ⟨{ regs := [(HPLL_STATUS, 0x60000000)], mode := .onAir }, -19660800, 5, 0, by decide +kernel⟩,
    ⟨{ regs := [(HPLL_STATUS, 0x60000000)], mode := .onAir, goodRun := 15 }, 0, 5, 0, by decide +kernel⟩,
    ⟨{ mode := .onAir }, by decide +kernel⟩⟩

set_option maxRecDepth 100000 in
theorem witness_TimeEvents :
    (∃ (s : State), s.answers TIME_CMD = true) ∧
    (∃ (s : State) (w : Word), s.answers TIME_CTRL = true ∧
      (getF w TIME_CTRL_SRC ≠ s.timeSrc ∨ bitF w TIME_CTRL_COMPAT ≠ s.bit TIME_CTRL TIME_CTRL_COMPAT) ∧ getF w TIME_CTRL_SRC ≠ s.timeSrc) ∧
    (∃ (s : State) (w : Word), s.answers TIME_CTRL = true ∧ getF w TIME_CTRL_SRC = s.timeSrc ∧
      bitF w TIME_CTRL_COMPAT = s.bit TIME_CTRL TIME_CTRL_COMPAT) ∧
    (∃ (s : State), s.timeSrc ≠ 3 ∧ s.bit TIME_STATUS TIME_STATUS_SRC_LOST = false) ∧
    (∃ (s : State), (s.timeSrc = 3 ∨ s.bit TIME_STATUS TIME_STATUS_SRC_LOST = true)) ∧
    (∃ (s : State), s.tbRuns = false) ∧
    (∃ (s : State), s.tbRuns = true ∧ s.timeSrc ≠ 2) ∧
    (∃ (s : State), s.tbRuns = true ∧ s.timeSrc = 2) ∧
    (∃ (s : State), s.tbRuns = true ∧ (∀ k < 5, (s.armOf k).map Prod.fst ≠ some 1)) ∧
    (∃ (s : State), s.answers TIME_TB_LO = true) ∧
    (∃ (s : State), s.domOn 1 = false) ∧
    (∃ (s : State), s.domOn 1 = true) ∧
    (∃ (s : State) (v : BitVec 64) (r count : Nat), s.tbRuns = true ∧ s.keeper.stored = some v ∧ s.keeper.ratio = some r ∧ s.keeper.lost = false ∧
      count < 2 ^ 48 - 1) ∧
    (∃ (s : State) (v : BitVec 64) (count : Nat) (stopped : Bool), s.tbRuns = true ∧ s.keeper.stored = some v ∧
      (s.keeper.ratio = none ∨ s.keeper.lost = true ∨ stopped = true ∨ 2 ^ 48 - 1 ≤ count)) ∧
    (∃ (s : State), s.keeper.stored = none) ∧
    (∃ (s : State) (p : Fin 8), s.portUsable p = false) ∧
    (∃ (s : State) (p : Fin 8) (header : List Byte), s.portUsable p = true ∧ header.length = 34) :=
  ⟨⟨{ mode := .onAir }, by decide +kernel⟩,
    ⟨{ mode := .onAir }, 0xFFFFFFFF, by decide +kernel⟩,
    ⟨{ mode := .onAir }, 0, by decide +kernel⟩,
    ⟨base, by decide +kernel⟩,
    ⟨{ base with regs := [(TIME_STATUS, 0x52000000)] }, by decide +kernel⟩,
    ⟨{ base with mode := .standby }, by decide +kernel⟩,
    ⟨{ base with regs := [(PMU_DOM 1, 0x80000000)] }, by decide +kernel⟩,
    ⟨{ base with regs := [(PMU_DOM 1, 0x80000000), (TIME_CTRL, 0x80000064)] }, by decide +kernel⟩,
    ⟨{ base with regs := [(PMU_DOM 1, 0x80000000)] }, by decide +kernel⟩,
    ⟨{ mode := .onAir }, by decide +kernel⟩,
    ⟨{ base with regs := [(PMU_DOM 1, 0)] }, by decide +kernel⟩,
    ⟨base, by decide +kernel⟩,
    ⟨{ base with regs := [(PMU_DOM 1, 0x80000000)], keeper := { stored := some 0x309, ratio := some 70000 } }, 0x309, 70000, 281474976710654,
         by decide +kernel⟩,
    ⟨{ base with regs := [(PMU_DOM 1, 0x80000000)], keeper := { stored := some 0x309 } }, 0x309, 0, false, by decide +kernel⟩,
    ⟨base, by decide +kernel⟩,
    ⟨base, 0, by decide +kernel⟩,
    ⟨{ base with regs := [(MAC_PCFG 2, 0x80802400)] }, 2, (List.replicate 34 7), by decide +kernel⟩⟩

set_option maxRecDepth 100000 in
theorem witness_SynthesiserLock :
    (∃ (s : State) (b : Fin 2), s.activeRef = b ∧ (s.bit HPLL_CTRL HPLL_CTRL_AUTO = false ∨ s.refOk (1 - b) = false) ∧
      (s.hpllState = pllAcq ∨ s.hpllState = pllLocked)) ∧
    (∃ (s : State) (b : Fin 2), s.activeRef = b ∧ s.bit HPLL_CTRL HPLL_CTRL_AUTO = true ∧ s.refOk (1 - b) = true ∧
      (s.hpllState = pllAcq ∨ s.hpllState = pllLocked ∨ s.hpllState = coasting)) ∧
    (∃ (s : State) (b : Fin 2), s.activeRef = b ∧ s.hpllState = coasting ∧ s.bit HPLL_CTRL HPLL_CTRL_BUILDOUT = true) ∧
    (∃ (s : State) (b : Fin 2), s.activeRef = b ∧ s.hpllState = pllOff ∧ s.startDue = none ∧ s.mode ≠ .standby) ∧
    (∃ (s : State) (b : Fin 2), s.activeRef ≠ b ∧ (s.bit HPLL_CTRL HPLL_CTRL_AUTO = false ∨ s.hpllState ≠ coasting)) ∧
    (∃ (s : State) (b : Fin 2), s.activeRef = 1 - b ∧ s.bit HPLL_CTRL HPLL_CTRL_AUTO = true ∧ s.hpllState = coasting ∧ s.refOk (1 - b) = false) ∧
    (∃ (s : State) (w : Word), s.answers HPLL_CTRL = true ∧ getF w HPLL_CTRL_SEL ≠ s.fld HPLL_CTRL HPLL_CTRL_SEL ∧
      getF w HPLL_CTRL_SEL ≠ s.activeRef) ∧
    (∃ (s : State) (w : Word), s.answers HPLL_CTRL = true ∧
      (getF w HPLL_CTRL_SEL = s.fld HPLL_CTRL HPLL_CTRL_SEL ∨ getF w HPLL_CTRL_SEL = s.activeRef)) ∧
    (∃ (s : State), s.refOk s.activeRef = false) ∧
    (∃ (s : State) (k : Fin 14) (err : Nat), (k : Nat) = 0 ∧ s.refOk s.activeRef = true ∧ s.pllState k = pllLocked ∧ 4 * s.pllTol k < err) ∧
    (∃ (s : State) (k : Fin 14) (err : Nat), (k : Nat) = 0 ∧ s.refOk s.activeRef = true ∧ s.pllState k = pllLocked ∧ err ≤ 4 * s.pllTol k) ∧
    (∃ (s : State) (k : Fin 14) (err : Nat), (k : Nat) = 0 ∧ s.refOk s.activeRef = true ∧ s.pllState k = pllAcq ∧ err ≤ s.pllTol k ∧
      s.pllCnt k ≤ (s.pll k).passes + 1) ∧
    (∃ (s : State) (k : Fin 14) (err : Nat), (k : Nat) = 0 ∧ s.refOk s.activeRef = true ∧ s.pllState k = pllAcq ∧ err ≤ s.pllTol k ∧
      (s.pll k).passes + 1 < s.pllCnt k) ∧
    (∃ (s : State) (k : Fin 14) (err : Nat), (k : Nat) = 0 ∧ s.refOk s.activeRef = true ∧ s.pllState k = pllAcq ∧ s.pllTol k < err) ∧
    (∃ (s : State) (k : Fin 14) (err : Nat), (k : Nat) = 0 ∧ s.refOk s.activeRef = true ∧ s.pllState k = coasting ∧ err ≤ s.pllTol k) ∧
    (∃ (s : State) (k : Fin 14) (err : Nat), (k : Nat) = 0 ∧ s.refOk s.activeRef = true ∧ s.pllState k = coasting ∧ s.pllTol k < err) ∧
    (∃ (s : State) (k : Fin 14) (err : Nat), (k : Nat) ≠ 13 ∧ (k : Nat) ≠ 0 ∧ s.pllState k = pllLocked ∧ 4 * s.pllTol k < err) ∧
    (∃ (s : State) (k : Fin 14) (err : Nat), (k : Nat) ≠ 13 ∧ (k : Nat) ≠ 0 ∧ s.pllState k = pllAcq ∧ err ≤ s.pllTol k ∧
      s.pllCnt k ≤ (s.pll k).passes + 1 ∧ (4 < (k : Nat) ∨ s.spllBlocked = false)) ∧
    (∃ (s : State) (k : Fin 14) (err : Nat), (k : Nat) ≠ 13 ∧ (k : Nat) ≠ 0 ∧ s.pllState k = pllAcq ∧ err ≤ s.pllTol k ∧
      ((s.pll k).passes + 1 < s.pllCnt k ∨ ((k : Nat) ≤ 4 ∧ s.spllBlocked = true))) ∧
    (∃ (s : State) (k : Fin 14) (err : Nat), (k : Nat) ≠ 13 ∧ (k : Nat) ≠ 0 ∧ s.pllState k = pllAcq ∧ s.pllTol k < err) ∧
    (∃ (s : State) (k : Fin 14) (err : Nat), (k : Nat) ≠ 13 ∧ (k : Nat) ≠ 0 ∧ s.pllState k = coasting ∧ err ≤ s.pllTol k) ∧
    (∃ (s : State) (k : Fin 14) (err : Nat), (k : Nat) ≠ 13 ∧ (k : Nat) ≠ 0 ∧
      (s.pllState k = coasting ∧ s.pllTol k < err ∨ s.pllState k = pllLocked ∧ err ≤ 4 * s.pllTol k)) ∧
    (∃ (s : State) (err : Nat), s.dramLock = true ∧ err ≠ 0) ∧
    (∃ (s : State), s.dramLock = false) ∧
    (∃ (s : State) (err : Nat), (err = 0 ↔ s.dramLock = true)) ∧
    (∃ (s : State) (k : Fin 13) (d : Nat), (s.pll k).lockBy = some d ∧ (k : Nat) ≠ 0 ∧ (s.pllState k = pllCal ∨ s.pllState k = pllAcq)) ∧
    (∃ (s : State) (k : Fin 13), ((s.pll k).lockBy = none ∨ (k : Nat) = 0 ∨ (s.pllState k ≠ pllCal ∧ s.pllState k ≠ pllAcq))) ∧
    (∃ (s : State) (k : Fin 13), s.pllState k ≠ pllCal) ∧
    (∃ (s : State) (k : Fin 13), s.pllState k = pllCal) ∧
    (∃ (s : State) (t : Fin 4), s.answers (SPLL_CMD t) = true) ∧
    (∃ (s : State) (k : Fin 5), s.pllState k = coasting ∧
      s.bit (pllStatus k) (if (k : Nat) = 0 then HPLL_STATUS_COAST_LIM else SPLL_STATUS_COAST_LIM) = false) :=
  ⟨⟨{ base with regs := [(HPLL_STATUS, 0x40000000)] }, 0, by decide +kernel⟩,
    ⟨{ base with regs := [(HPLL_CTRL, 0xE4001401), (HPLL_STATUS, 0x44000000)] }, 0, by decide +kernel⟩,
    ⟨{ base with regs := [(HPLL_STATUS, 0x84000000)] }, 0, by decide +kernel⟩,
    ⟨base, 0, by decide +kernel⟩,
    ⟨base, 1, by decide +kernel⟩,
    ⟨{ base with regs := [(HPLL_CTRL, 0xA4001401), (HPLL_STATUS, 0x80000000)] }, 1, by decide +kernel⟩,
    ⟨{ mode := .onAir }, 0xFFFFFFFF, by decide +kernel⟩,
    ⟨{ mode := .onAir }, 0, by decide +kernel⟩,
    ⟨base, by decide +kernel⟩,
    ⟨{ base with regs := [(HPLL_STATUS, 0x68000000)] }, 0, 70, by decide +kernel⟩,
    ⟨{ base with regs := [(HPLL_STATUS, 0x68000000)] }, 0, 0, by decide +kernel⟩,
    ⟨{ base with regs := [(HPLL_STATUS, 0x48000000)], plls := [(0, { passes := 63 })] }, 0, 0, by decide +kernel⟩,
    ⟨{ base with regs := [(HPLL_STATUS, 0x54000000)], plls := [(0, { passes := 2 })] }, 0, 0, by decide +kernel⟩,
    ⟨{ base with regs := [(HPLL_STATUS, 0x48000000)] }, 0, 70, by decide +kernel⟩,
    ⟨{ base with regs := [(HPLL_STATUS, 0x88000000)] }, 0, 0, by decide +kernel⟩,
    ⟨{ base with regs := [(HPLL_STATUS, 0x88000000)] }, 0, 70, by decide +kernel⟩,
    ⟨{ base with regs := [(LPLL_STATUS 3 1, 0x60000000)] }, 12, 100000, by decide +kernel⟩,
    ⟨{ base with regs := [(LPLL_STATUS 3 1, 0x40000000)], plls := [(12, { passes := 63 })] }, 12, 0, by decide +kernel⟩,
    ⟨{ base with regs := [(LPLL_STATUS 3 1, 0x40000000)] }, 12, 0, by decide +kernel⟩,
    ⟨{ base with regs := [(LPLL_STATUS 3 1, 0x40000000)] }, 12, 100000, by decide +kernel⟩,
    ⟨{ base with regs := [(LPLL_STATUS 3 1, 0x80000000)] }, 12, 0, by decide +kernel⟩,
    ⟨{ base with regs := [(LPLL_STATUS 3 1, 0x60000000)] }, 12, 0, by decide +kernel⟩,
    ⟨{ base with dramLock := true }, 3, by decide +kernel⟩,
    ⟨base, by decide +kernel⟩,
    ⟨base, 3, by decide +kernel⟩,
    ⟨{ base with regs := [(LPLL_STATUS 3 1, 0x20000000)], plls := [(12, { lockBy := some 1000100 })] }, 12, 1000100, by decide +kernel⟩,
    ⟨base, 0, by decide +kernel⟩,
    ⟨base, 0, by decide +kernel⟩,
    ⟨{ base with regs := [(LPLL_STATUS 3 1, 0x20000000)] }, 12, by decide +kernel⟩,
    ⟨{ mode := .onAir }, 0, by decide +kernel⟩,
    ⟨{ base with regs := [(SPLL_STATUS 3, 0x80000000)] }, 4, by decide +kernel⟩⟩

set_option maxRecDepth 100000 in
theorem witness_DividersAndAlignment :
    (∃ (s : State), s.answers HPLL_ARM = true ∧ s.mode ≠ .configure) ∧
    (∃ (s : State) (w : Word), s.answers HPLL_ARM = true ∧ s.mode = .configure ∧ bitF w HPLL_ARM_GO = true ∧
      (∃ a ∈ [HPLL_REFA_DIV, HPLL_REFB_DIV], s.fld a HPLL_REFA_DIV_R = 0 ∨ s.fld a HPLL_REFA_DIV_N % 16 ≠ 0)) ∧
    (∃ (s : State) (w : Word), s.answers HPLL_ARM = true ∧ s.mode = .configure ∧ bitF w HPLL_ARM_GO = false) ∧
    (∃ (s : State) (w : Word) (evt : Nat × Nat), s.answers HPLL_ARM = true ∧ s.mode = .configure ∧ bitF w HPLL_ARM_GO = true ∧
      (∀ a ∈ [HPLL_REFA_DIV, HPLL_REFB_DIV], s.fld a HPLL_REFA_DIV_R ≠ 0 ∧ s.fld a HPLL_REFA_DIV_N % 16 = 0) ∧
      evt ∈ [(1, 0), (2, s.nextBoundaryOf frameTc)] ∧ getF w HPLL_ARM_EVT = evt.1) ∧
    (∃ (s : State) (w : Word), s.answers HPLL_ARM = true ∧ s.mode = .configure ∧ bitF w HPLL_ARM_GO = true ∧
      (∀ a ∈ [HPLL_REFA_DIV, HPLL_REFB_DIV], s.fld a HPLL_REFA_DIV_R ≠ 0 ∧ s.fld a HPLL_REFA_DIV_N % 16 = 0) ∧ getF w HPLL_ARM_EVT ≠ 1 ∧
      getF w HPLL_ARM_EVT ≠ 2) ∧
    (∃ (s : State) (k : Fin 4) (w : Word), s.answers (LPLL_ARM k) = true ∧ bitF w HPLL_ARM_GO = false) ∧
    (∃ (s : State) (k : Fin 4) (w : Word) (evt : Nat × Nat), s.answers (LPLL_ARM k) = true ∧ bitF w HPLL_ARM_GO = true ∧
      evt ∈ [(1, 0), (2, s.nextBoundaryOf frameTc)] ∧ getF w HPLL_ARM_EVT = evt.1) ∧
    (∃ (s : State) (k : Fin 4) (w : Word), s.answers (LPLL_ARM k) = true ∧ bitF w HPLL_ARM_GO = true ∧ getF w HPLL_ARM_EVT ≠ 1 ∧
      getF w HPLL_ARM_EVT ≠ 2) ∧
    (∃ (s : State) (k : Fin 5) (b : Nat), s.armOf k = some (2, b) ∧ (k : Nat) = 0) ∧
    (∃ (s : State) (k : Fin 5), (∀ b, s.armOf k ≠ some (2, b))) ∧
    (∃ (s : State), (∀ (t : Fin 4) a, s.alignArm t = some a → a.src = 0)) ∧
    (∃ (s : State) (t : Fin 4) (a : Align), let due := fun (x : Align) => s.firstBoundary x.at_ (if x.src = 1 then frameTc else subframeTc);
      s.alignArm t = some a ∧ a.src ≠ 0 ∧ (∀ (i : Fin 4) b, s.alignArm i = some b → b.src ≠ 0 → i = t ∨ due a < due b) ∧
      s.alignFails t a.src = false) ∧
    (∃ (s : State) (t : Fin 4) (a : Align), let due := fun (x : Align) => s.firstBoundary x.at_ (if x.src = 1 then frameTc else subframeTc);
      s.alignArm t = some a ∧ a.src ≠ 0 ∧ (∀ (i : Fin 4) b, s.alignArm i = some b → b.src ≠ 0 → i = t ∨ due a < due b) ∧
      s.alignFails t a.src = true) ∧
    (∃ (s : State) (t : Fin 4), s.aligningTo t = none) ∧
    (∃ (s : State) (t : Fin 4) (e : Nat), s.aligningTo t = some e) ∧
    (∃ (s : State) (t : Fin 4), s.answers (SPLL_TA_LO t) = true) :=
  ⟨⟨{ mode := .onAir }, by decide +kernel⟩,
    ⟨{ base with mode := .configure, regs := [(HPLL_REFA_DIV, fw [(HPLL_REFA_DIV_R, 1), (HPLL_REFA_DIV_N, 24)])] }, fw [(HPLL_ARM_GO, 1)],
         by decide +kernel⟩,
    ⟨{ mode := .configure }, 0, by decide +kernel⟩,
    ⟨{ base with mode := .configure, tb := 0xFFFFFFFF, regs := [(HPLL_REFA_DIV, fw [(HPLL_REFA_DIV_R, 1), (HPLL_REFA_DIV_N, 16)]), (HPLL_REFB_DIV, fw [(HPLL_REFA_DIV_R, 1023), (HPLL_REFA_DIV_N, 0xFFF0)])] },
         fw [(HPLL_ARM_GO, 1), (HPLL_ARM_EVT, 2)], (2, State.nextBoundaryOf { base with tb := 0xFFFFFFFF } frameTc), by decide +kernel⟩,
    ⟨{ mode := .configure }, 0xFFFFFFFF, by decide +kernel⟩,
    ⟨{ mode := .onAir }, 0, 0, by decide +kernel⟩,
    ⟨base, 3, fw [(HPLL_ARM_GO, 1), (HPLL_ARM_EVT, 1)], (1, 0), by decide +kernel⟩,
    ⟨{ mode := .onAir }, 0, 0xFFFFFFFF, by decide +kernel⟩,
    ⟨{ base with hpllArm := some (2, 2000000999) }, 0, 2000000999, by decide +kernel⟩,
    ⟨base, 0, fun _ h => nomatch (show (none : Option (Nat × Nat)) = some _ from h)⟩,
    ⟨base, by decide +kernel⟩,
    ⟨{ base with regs := [(SPLL_STATUS 3, fw [(SPLL_STATUS_STATE, pllLocked)]), (HPLL_STATUS, fw [(HPLL_STATUS_STATE, pllLocked)])], alignArms := [(3, some ⟨2, false, 0⟩)] },
         3, ⟨2, false, 0⟩,
         by refine ⟨?_, ?_, ?_, ?_⟩ <;> first | decide +kernel | (intro i b h _; fin_cases i <;> first | exact .inl rfl | exact nomatch (show (none : Option Align) = some b from h))⟩,
    ⟨{ base with alignArms := [(0, some ⟨1, false, 2000001000⟩)] }, 0, ⟨1, false, 2000001000⟩, by decide +kernel⟩,
    ⟨base, 0, by decide +kernel⟩,
    ⟨{ base with aligning := [(0, some 999990)] }, 0, 999990, by decide +kernel⟩,
    ⟨{ mode := .onAir }, 0, by decide +kernel⟩⟩

set_option maxRecDepth 100000 in
theorem witness_DramAccess :
    (∃ (s : State) (p : Fin 4) (write : Bool) (a : BitVec 40) (bytes : List Byte),
      let fits := a.toNat + (if write then max 1 bytes.length else 64) ≤ s.dramFitted;
      let open' := (p : Nat) < 2 ∨ s.bit DRAMC_STATUS DRAMC_STATUS_AVAIL = true; ¬ (fits ∧ open') ∧ write = false) ∧
    (∃ (s : State) (p : Fin 4) (write : Bool) (a : BitVec 40) (bytes : List Byte),
      let rs := if write then s.writeReqs a.toNat bytes false else s.readReqs a.toNat 64;
      let fits := a.toNat + (if write then max 1 bytes.length else 64) ≤ s.dramFitted;
      let open' := (p : Nat) < 2 ∨ s.bit DRAMC_STATUS DRAMC_STATUS_AVAIL = true; fits ∧ open' ∧ (s.dramPort p).waiting = [] ∧
      s.portFits p rs = true) ∧
    (∃ (s : State) (p : Fin 4) (write : Bool) (a : BitVec 40) (bytes : List Byte),
      let rs := if write then s.writeReqs a.toNat bytes false else s.readReqs a.toNat 64;
      let fits := a.toNat + (if write then max 1 bytes.length else 64) ≤ s.dramFitted;
      let open' := (p : Nat) < 2 ∨ s.bit DRAMC_STATUS DRAMC_STATUS_AVAIL = true; fits ∧ open' ∧
      (s.portFits p rs = false ∨ (s.dramPort p).waiting ≠ []) ∧ (p : Nat) < 2) ∧
    (∃ (s : State) (p : Fin 4) (write : Bool) (a : BitVec 40) (bytes : List Byte),
      let rs := if write then s.writeReqs a.toNat bytes false else s.readReqs a.toNat 64;
      let fits := a.toNat + (if write then max 1 bytes.length else 64) ≤ s.dramFitted;
      let open' := (p : Nat) < 2 ∨ s.bit DRAMC_STATUS DRAMC_STATUS_AVAIL = true; fits ∧ open' ∧
      (s.portFits p rs = false ∨ (s.dramPort p).waiting ≠ []) ∧ 2 ≤ (p : Nat)) ∧
    (∃ (s : State) (c : Fin 2), (s.bit DRAMC_STATUS DRAMC_STATUS_AVAIL = false ∨ s.pickPort c = none)) ∧
    (∃ (s : State) (c : Fin 2) (p : Nat) (r : DramReq), s.bit DRAMC_STATUS DRAMC_STATUS_AVAIL = true ∧ s.pickPort c = some p ∧
      (s.dramPort p).next c = some r ∧ (s.dramPort p).waiting = []) ∧
    (∃ (s : State) (c : Fin 2) (p : Nat) (r : DramReq), let within := r.addr + (if r.write then r.bytes.length else r.len) ≤ s.dramFitted;
      s.bit DRAMC_STATUS DRAMC_STATUS_AVAIL = true ∧ s.pickPort c = some p ∧ (s.dramPort p).next c = some r ∧ within ∧ r.write = true) ∧
    (∃ (s : State) (c : Fin 2) (p : Nat) (r : DramReq), let within := r.addr + (if r.write then r.bytes.length else r.len) ≤ s.dramFitted;
      s.bit DRAMC_STATUS DRAMC_STATUS_AVAIL = true ∧ s.pickPort c = some p ∧ (s.dramPort p).next c = some r ∧ within ∧ r.write = false) ∧
    (∃ (s : State) (c : Fin 2) (p : Nat) (r : DramReq), let within := r.addr + (if r.write then r.bytes.length else r.len) ≤ s.dramFitted;
      s.bit DRAMC_STATUS DRAMC_STATUS_AVAIL = true ∧ s.pickPort c = some p ∧ (s.dramPort p).next c = some r ∧ ¬ within) ∧
    (∃ (s : State) (c : Fin 2) (p : Nat) (r : DramReq) (random : Nat), let place := Config.dramPlace (s.chanAddr r.addr);
      let isOpen := ∃ x ∈ (s.dramCh c).rows, x.1 = place.1 ∧ x.2.1 = place.2; s.bit DRAMC_STATUS DRAMC_STATUS_AVAIL = true ∧ s.pickPort c = some p ∧
      (s.dramPort p).next c = some r ∧ ¬ isOpen ∧ s.bit DRAMC_RH_CFG DRAMC_RH_CFG_EN = true ∧
      random % 2 ^ clampN 4 16 (s.fld DRAMC_RH_CFG DRAMC_RH_CFG_K) = 0) ∧
    (∃ (s : State) (c : Fin 2) (p : Nat) (r : DramReq), let idle := s.fld DRAMC_PAGE_CFG DRAMC_PAGE_CFG_IDLE;
      s.bit DRAMC_STATUS DRAMC_STATUS_AVAIL = true ∧ s.pickPort c = some p ∧ (s.dramPort p).next c = some r ∧ idle = 0) ∧
    (∃ (s : State) (c : Fin 2), let d := s.fld DRAMC_STATUS (debtField c); s.refreshes c = true ∧ d < 7) ∧
    (∃ (s : State) (c : Fin 2), let d := s.fld DRAMC_STATUS (debtField c); s.refreshes c = true ∧ 7 ≤ d) ∧
    (∃ (s : State) (c : Fin 2) (bank : Nat), let d := s.fld DRAMC_STATUS (debtField c);
      let whole := ∀ b < Config.dramBanks, b = bank ∨ b ∈ (s.dramCh c).covered; s.refreshes c = true ∧ d ≠ 0 ∧ s.bankWanted c bank = false ∧ whole) ∧
    (∃ (s : State) (c : Fin 2), s.refreshes c = false) ∧
    (∃ (s : State) (c : Fin 2) (bank : Nat), (s.refreshes c = false ∨ s.fld DRAMC_STATUS (debtField c) = 0 ∨ s.bankWanted c bank = true)) ∧
    (∃ (s : State) (c : Fin 2) (bank : Nat), ((s.dramCh c).rows.find? fun x => x.1 == bank) = none) ∧
    (∃ (s : State) (c : Fin 2) (bank : Nat) (x : Nat × Nat × Nat) (row : Nat), ((s.dramCh c).rows.find? fun x => x.1 == bank) = some x ∧
      (bank, row) ∈ (s.dramCh c).owed) :=
  ⟨⟨base, 0, false, 0, [], by decide +kernel⟩,
    ⟨{ base with regs := [(DRAMC_CFG, 0x6001400)] }, 0, false, 0xFFFFFF00, [1, 2, 3], by decide +kernel⟩,
    ⟨{ base with regs := [(DRAMC_CFG, 0x26001400)], dramPorts := [(1, { waiting := [⟨1, 256, true, [1], false, 1⟩] })] }, 1, false, 0x3C0, [1],
         by decide +kernel⟩,
    ⟨{ base with regs := [(DRAMC_CFG, 0x26001400), (DRAMC_STATUS, fw [(DRAMC_STATUS_AVAIL, 1)])], dramPorts := [(2, fullPort)] }, 2, false, 0x3FF,
         [1], by decide +kernel⟩,
    ⟨base, 0, by decide +kernel⟩,
    ⟨{ base with regs := [(DRAMC_STATUS, 0xA4170000)], dramPorts := [(0, { queue := [{ chan := 0, addr := 4096, write := true, bytes := [0, 1, 2, 3] }] })] },
         0, 0, { chan := 0, addr := 4096, write := true, bytes := [0, 1, 2, 3] }, by decide +kernel⟩,
    ⟨{ base with regs := [(DRAMC_CFG, 0x26001400), (DRAMC_STATUS, fw [(DRAMC_STATUS_AVAIL, 1)])], dramPorts := [(0, { queue := [{ chan := 0, addr := 4096, write := true, bytes := [0, 1, 2, 3] }] })] },
         0, 0, { chan := 0, addr := 4096, write := true, bytes := [0, 1, 2, 3] }, by decide +kernel⟩,
    ⟨{ base with regs := [(DRAMC_CFG, 0x26001400), (DRAMC_STATUS, fw [(DRAMC_STATUS_AVAIL, 1)])], dramPorts := [(3, { queue := [⟨1, 64, false, [], false, 64⟩] })] },
         1, 3, ⟨1, 64, false, [], false, 64⟩, by decide +kernel⟩,
    ⟨{ base with regs := [(DRAMC_STATUS, fw [(DRAMC_STATUS_AVAIL, 1)])], dramPorts := [(3, { queue := [⟨1, 64, false, [], false, 64⟩] })] }, 1, 3,
         ⟨1, 64, false, [], false, 64⟩, by decide +kernel⟩,
    ⟨{ base with regs := [(DRAMC_STATUS, fw [(DRAMC_STATUS_AVAIL, 1)]), (DRAMC_RH_CFG, 0xFFFFFFFF), (DRAMC_PAGE_CFG, 0)], dramPorts := [(3, { queue := [⟨1, 64, false, [], false, 64⟩] })] },
         1, 3, ⟨1, 64, false, [], false, 64⟩, 65536, by decide +kernel⟩,
    ⟨{ base with regs := [(DRAMC_STATUS, fw [(DRAMC_STATUS_AVAIL, 1)]), (DRAMC_PAGE_CFG, 0)], dramPorts := [(3, { queue := [⟨1, 64, false, [], false, 64⟩] })] },
         1, 3, ⟨1, 64, false, [], false, 64⟩, by decide +kernel⟩,
    ⟨{ base with regs := [(DRAMC_STATUS, 0x24070000)], dramLock := true }, 0, by decide +kernel⟩,
    ⟨{ base with regs := [(DRAMC_STATUS, 0x24070000)], dramLock := true }, 1, by decide +kernel⟩,
    ⟨{ base with regs := [(DRAMC_STATUS, 0x24070000)], dramLock := true, dramChs := [(1, { covered := List.range Config.dramBanks })] }, 1, 0,
         by refine ⟨?_, ?_, ?_, ?_⟩ <;> first | decide +kernel | exact fun b hb => Or.inr (List.mem_range.mpr hb)⟩,
    ⟨base, 0, by decide +kernel⟩,
    ⟨base, 0, 7, by decide +kernel⟩,
    ⟨base, 0, 0, by decide +kernel⟩,
    ⟨{ base with dramChs := [(0, { rows := [(3, 9, 999000)], owed := [(3, 8)] })] }, 0, 3, (3, 9, 999000), 8, by decide +kernel⟩⟩

set_option maxRecDepth 100000 in
theorem witness_DramTraining :
    (∃ (s : State) (mask : BitVec 2) (c : Fin 2),
      let starts := fun c : Fin 2 => mask.getLsbD c = true ∧ s.dramUses c = true ∧ (s.chanState c = dramActive ∨ s.chanState c = dramFailed);
      s.answers DRAMC_CMD = true ∧ starts c) ∧
    (∃ (s : State) (mask : BitVec 2) (c : Fin 2),
      let starts := fun c : Fin 2 => mask.getLsbD c = true ∧ s.dramUses c = true ∧ (s.chanState c = dramActive ∨ s.chanState c = dramFailed);
      s.answers DRAMC_CMD = true ∧ ¬ starts c) ∧
    (∃ (s : State) (c : Fin 2), let trains := s.chanState c = dramSweeping ∧ s.dramLock = true; ¬ trains) ∧
    (∃ (s : State) (c : Fin 2), let k := s.dramCh c; let trains := s.chanState c = dramSweeping ∧ s.dramLock = true; trains ∧ k.sweep = true) ∧
    (∃ (s : State) (c : Fin 2), let k := s.dramCh c; let trains := s.chanState c = dramSweeping ∧ s.dramLock = true; trains ∧ k.sweep = false ∧
      k.host = false) ∧
    (∃ (s : State) (c : Fin 2), let k := s.dramCh c; let trains := s.chanState c = dramSweeping ∧ s.dramLock = true; trains ∧ k.sweep = false ∧
      k.host = true) ∧
    (∃ (s : State) (c : Fin 2), s.chanState c = dramInit ∧ s.dramLock = true) ∧
    (∃ (s : State) (c : Fin 2), (s.chanState c ≠ dramInit ∨ s.dramLock = false)) ∧
    (∃ (store : Fin 3) (held : Option SoftErr), (∀ hit, held = some hit → (storeOfHit hit).getD 2 ≠ (store : Nat))) ∧
    (∃ (s : State) (store : Fin 3) (held : Option SoftErr), let u := s.storeStruck store held; u.bit DRAMC_ECC_STAT DRAMC_ECC_STAT_UNCORR = true) ∧
    (∃ (s : State) (store : Fin 3) (held : Option SoftErr), let u := s.storeStruck store held; u.bit DRAMC_ECC_STAT DRAMC_ECC_STAT_UNCORR = false) ∧
    (∃ (store : Fin 3), (store : Nat) ≠ 2) ∧
    (∃ (s : State), let a := s.winAddr; let tgt := s.fld DRAMC_WIN_CTRL DRAMC_WIN_CTRL_TGT; s.answers DRAMC_WIN_DATA = true ∧ s.winSize ≤ a ∧
      tgt = 3) ∧
    (∃ (s : State), let a := s.winAddr; let tgt := s.fld DRAMC_WIN_CTRL DRAMC_WIN_CTRL_TGT; s.answers DRAMC_WIN_DATA = true ∧ a < s.winSize ∧
      tgt = 0) ∧
    (∃ (s : State), let a := s.winAddr; let tgt := s.fld DRAMC_WIN_CTRL DRAMC_WIN_CTRL_TGT; s.answers DRAMC_WIN_DATA = true ∧ a < s.winSize ∧
      tgt = 1) ∧
    (∃ (s : State), let a := s.winAddr; let tgt := s.fld DRAMC_WIN_CTRL DRAMC_WIN_CTRL_TGT; s.answers DRAMC_WIN_DATA = true ∧ a < s.winSize ∧
      tgt = 2) ∧
    (∃ (s : State), let a := s.winAddr; let tgt := s.fld DRAMC_WIN_CTRL DRAMC_WIN_CTRL_TGT;
      let on := s.bit DRAMC_STATUS DRAMC_STATUS_AVAIL = true ∧ a + 4 ≤ s.dramFitted;
      let idle := (s.dramPort 3).queue = [] ∧ (s.dramPort 3).waiting = []; s.answers DRAMC_WIN_DATA = true ∧ a < s.winSize ∧ tgt = 3 ∧ on ∧ idle) ∧
    (∃ (s : State), let a := s.winAddr; let tgt := s.fld DRAMC_WIN_CTRL DRAMC_WIN_CTRL_TGT;
      let on := s.bit DRAMC_STATUS DRAMC_STATUS_AVAIL = true ∧ a + 4 ≤ s.dramFitted; s.answers DRAMC_WIN_DATA = true ∧ a < s.winSize ∧ tgt = 3 ∧
      ¬ on) ∧
    (∃ (s : State), let a := s.winAddr; let tgt := s.fld DRAMC_WIN_CTRL DRAMC_WIN_CTRL_TGT; s.answers DRAMC_WIN_DATA = true ∧
      (s.winSize ≤ a ∨ tgt < 2) ∧ tgt = 3) :=
  ⟨⟨{ regs := [(DRAMC_CFG, 0x6001400), (DRAMC_STATUS, 0x14000000)], mode := .onAir }, 2, 1, by decide +kernel⟩,
    ⟨{ mode := .onAir }, 0, 0, by decide +kernel⟩,
    ⟨base, 0, by decide +kernel⟩,
    ⟨{ base with regs := [(DRAMC_STATUS, 0x36000000)], dramLock := true, dramChs := [(0, { sweep := true })] }, 0, by decide +kernel⟩,
    ⟨{ base with regs := [(DRAMC_STATUS, 0xB6000000)], dramLock := true }, 0, by decide +kernel⟩,
    ⟨{ base with regs := [(DRAMC_STATUS, 0x34000000)], dramLock := true, dramChs := [(0, { host := true })] }, 0, by decide +kernel⟩,
    ⟨{ base with regs := [(DRAMC_STATUS, 0x14000000)], dramLock := true }, 0, by decide +kernel⟩,
    ⟨base, 0, by decide +kernel⟩,
    ⟨1, some (.description ⟨true, 1, 7, 31⟩), by intro h e; cases e; decide +kernel⟩,
    ⟨{ base with regs := [(DRAMC_ECC_STAT, 0x20000000)] }, 1, none, by decide +kernel⟩,
    ⟨base, 1, none, by decide +kernel⟩,
    ⟨0, by decide +kernel⟩,
    ⟨{ regs := [(DRAMC_WIN_ADDR_HI, 15), (DRAMC_WIN_CTRL, 0xC0000000)], mode := .onAir }, by decide +kernel⟩,
    ⟨{ mode := .onAir }, by decide +kernel⟩,
    ⟨{ regs := [(DRAMC_WIN_CTRL, 0x40000000)], mode := .onAir }, by decide +kernel⟩,
    ⟨{ regs := [(DRAMC_WIN_CTRL, 0x80000000)], mode := .onAir }, by decide +kernel⟩,
    ⟨{ regs := [(DRAMC_CFG, 0x36001400), (DRAMC_STATUS, 0x92000000), (DRAMC_WIN_CTRL, 0xC0000000)], mode := .onAir }, by decide +kernel⟩,
    ⟨{ base with regs := [(DRAMC_CFG, 0x26001400), (DRAMC_WIN_CTRL, fw [(DRAMC_WIN_CTRL_TGT, 3)])] }, by decide +kernel⟩,
    ⟨{ regs := [(DRAMC_WIN_ADDR_HI, 15), (DRAMC_WIN_CTRL, 0xC0000000)], mode := .onAir }, by decide +kernel⟩⟩

set_option maxRecDepth 100000 in
theorem witness_ScarabProgram :
    (∃ (s : State) (n : Fin 16) (w : BitVec 64) (ecc : List Ecc), Ecc.fatal ∉ ecc ∧ s.ScReady n opStop w ∧ cBit w = false ∧
      ecc.head? = some .corrected) ∧
    (∃ (s : State) (n : Fin 16) (w : BitVec 64) (ecc : List Ecc), Ecc.fatal ∉ ecc ∧ s.ScReady n opStop w ∧ cBit w = true ∧ s.ringFull n = false) ∧
    (∃ (s : State) (n : Fin 16) (w : BitVec 64) (ecc : List Ecc), Ecc.fatal ∉ ecc ∧ s.ScReady n opStop w ∧ cBit w = true ∧ s.ringFull n = true) ∧
    (∃ (s : State) (n : Fin 16) (w : BitVec 64) (ecc : List Ecc), Ecc.fatal ∉ ecc ∧ s.ScReady n opJump w ∧ s.fetchError (wbits w 0 13) = none) ∧
    (∃ (s : State) (n : Fin 16) (w : BitVec 64) (ecc : List Ecc), let pc := s.scPc n; Ecc.fatal ∉ ecc ∧ s.ScReady n opLoop w ∧ wbits w 0 32 ≠ 0 ∧
      (s.scChan n).loops.length < 2 ∧ s.fetchError (pc + 1) = none) ∧
    (∃ (s : State) (n : Fin 16) (w : BitVec 64) (ecc : List Ecc), let pc := s.scPc n; Ecc.fatal ∉ ecc ∧ s.ScReady n opLoop w ∧ wbits w 0 32 = 0 ∧
      s.fetchError (s.afterEndl 8192 (pc + 1) 0) = none) ∧
    (∃ (s : State) (n : Fin 16) (w : BitVec 64) (ecc : List Ecc), Ecc.fatal ∉ ecc ∧ s.ScReady n opLoop w ∧ wbits w 0 32 ≠ 0 ∧
      2 ≤ (s.scChan n).loops.length ∧ s.ringFull n = false) ∧
    (∃ (s : State) (n : Fin 16) (w : BitVec 64) (ecc : List Ecc) (start count i : Nat) (rest : List (Nat × Nat × Nat)), Ecc.fatal ∉ ecc ∧
      s.ScReady n opEndl w ∧ (s.scChan n).loops = (start, count, i) :: rest ∧ i + 1 < count ∧ s.fetchError start = none) ∧
    (∃ (s : State) (n : Fin 16) (w : BitVec 64) (ecc : List Ecc) (start count i : Nat) (rest : List (Nat × Nat × Nat)), let pc := s.scPc n;
      Ecc.fatal ∉ ecc ∧ s.ScReady n opEndl w ∧ (s.scChan n).loops = (start, count, i) :: rest ∧ count ≤ i + 1 ∧ s.fetchError (pc + 1) = none) ∧
    (∃ (s : State) (n : Fin 16) (w : BitVec 64) (ecc : List Ecc), Ecc.fatal ∉ ecc ∧ s.ScReady n opEndl w ∧ (s.scChan n).loops = [] ∧
      s.ringFull n = false) ∧
    (∃ (s : State) (n : Fin 16) (w : BitVec 64) (ecc : List Ecc), let pc := s.scPc n; Ecc.fatal ∉ ecc ∧ s.ScReady n opSignal w ∧
      s.ringFull n = false ∧ s.fetchError (pc + 1) = none) ∧
    (∃ (s : State) (n : Fin 16) (w : BitVec 64) (ecc : List Ecc), Ecc.fatal ∉ ecc ∧ s.ScReady n opSignal w ∧ s.ringFull n = true) ∧
    (∃ (s : State) (n : Fin 16) (w : BitVec 64) (ecc : List Ecc), Ecc.fatal ∉ ecc ∧ s.ScReady n opWait w ∧ s.waitHolds w = false) ∧
    (∃ (s : State) (n : Fin 16) (w : BitVec 64) (ecc : List Ecc), let pc := s.scPc n; Ecc.fatal ∉ ecc ∧ s.ScReady n opWait w ∧
      s.waitHolds w = true ∧ s.fetchError (pc + 1) = none) ∧
    (∃ (s : State) (n : Fin 16) (w : BitVec 64) (ecc : List Ecc), let pc := s.scPc n; Ecc.fatal ∉ ecc ∧ s.scOn = true ∧
      (s.scChan n).wait = some w ∧ s.waitOver n = false ∧ s.waitHolds w = true ∧ s.fetchError (pc + 1) = none) ∧
    (∃ (s : State) (n : Fin 16) (w : BitVec 64) (ecc : List Ecc), Ecc.fatal ∉ ecc ∧ s.scOn = true ∧ (s.scChan n).wait = some w ∧
      s.waitOver n = false ∧ s.waitHolds w = false) ∧
    (∃ (s : State) (n : Fin 16) (w : BitVec 64) (ecc : List Ecc), Ecc.fatal ∉ ecc ∧ s.scOn = true ∧ (s.scChan n).wait = some w ∧
      s.waitOver n = true ∧ s.ringFull n = false) ∧
    (∃ (s : State) (n : Fin 16) (w : BitVec 64) (ecc : List Ecc), Ecc.fatal ∉ ecc ∧ s.scOn = true ∧ (s.scChan n).wait = some w ∧
      (s.scChan n).waitEnd = none) ∧
    (∃ (s : State) (n : Fin 16) (w : BitVec 64) (ecc : List Ecc) (e : Nat), let pc := s.scPc n; Ecc.fatal ∉ ecc ∧ s.scOn = true ∧
      (s.scChan n).wait = some w ∧ (s.scChan n).waitEnd = some e ∧ (s.advance e).waitHolds w = true ∧ s.now ≤ e ∧ s.fetchError (pc + 1) = none) ∧
    (∃ (s : State) (n : Fin 16) (w : BitVec 64) (ecc : List Ecc) (e : Nat), Ecc.fatal ∉ ecc ∧ s.scOn = true ∧ (s.scChan n).wait = some w ∧
      (s.scChan n).waitEnd = some e ∧ ((s.advance e).waitHolds w = false ∨ e < s.now) ∧ s.ringFull n = false) ∧
    (∃ (s : State) (n : Fin 16) (ecc : List Ecc), Ecc.fatal ∉ ecc ∧ (s.scOn = false ∨ (s.scChan n).wait = none)) ∧
    (∃ (s : State) (n : Fin 16) (ecc : List Ecc), Ecc.fatal ∉ ecc ∧ (s.scOn = false ∨ s.scState n ≠ ScSt.run)) ∧
    (∃ (s : State) (n : Fin 16) (ecc l : List Ecc), Ecc.fatal ∉ ecc ∧ s.scOn = true ∧ s.scState n = ScSt.run ∧ (s.scChan n).xfer = none ∧
      s.ringFull n = false ∧ l.head? = some .fatal) ∧
    (∃ (s : State) (n : Fin 16) (w : BitVec 64) (ecc l : List Ecc), Ecc.fatal ∉ ecc ∧ s.scOn = true ∧ s.scState n = ScSt.run ∧
      (s.scChan n).xfer = none ∧ s.ringFull n = false ∧ s.ScReady n opMove w ∧ Ecc.fatal ∈ l.take 3) ∧
    (∃ (s : State) (n : Fin 16) (w : BitVec 64) (ecc l : List Ecc), Ecc.fatal ∉ ecc ∧ s.scOn = true ∧ s.scState n = ScSt.run ∧
      (s.scChan n).xfer = none ∧ s.ringFull n = false ∧ s.ScReady n opSwap w ∧ Ecc.fatal ∈ l.take 3) ∧
    (∃ (s : State) (n : Fin 16) (w : BitVec 64) (ecc l : List Ecc), Ecc.fatal ∉ ecc ∧ s.scOn = true ∧ s.scState n = ScSt.run ∧
      (s.scChan n).xfer = none ∧ s.ringFull n = false ∧ s.ScReady n opMovex w ∧ Ecc.fatal ∈ l.take 4) :=
  ⟨⟨{ base with regs := [(SCARAB_CH_STAT 15, 0x20050000)] }, 15, 0, [.corrected, .clean], by unfold State.ScReady; decide +kernel⟩,
    ⟨{ base with regs := [(SCARAB_CH_STAT 15, 0x20050000)], pmem := [(40, 0x80000000000000)] }, 15, 0x80000000000000, [.corrected, .clean],
         by unfold State.ScReady; decide +kernel⟩,
    ⟨{ base with regs := [(SCARAB_CH_STAT 15, 0x20050000), (SCARAB_RING_HI 15, 0x300), (SCARAB_PROD_IDX 15, 8)], pmem := [(40, 0x80000000000000)] },
         15, 0x80000000000000, [.corrected, .clean], by unfold State.ScReady; decide +kernel⟩,
    ⟨{ base with regs := [(SCARAB_CH_STAT 15, 0x20050000)], pmem := [(40, 0xC0000000000004D)] }, 15, 0xC0000000000004D, [.corrected, .clean],
         by unfold State.ScReady; decide +kernel⟩,
    ⟨{ base with regs := [(SCARAB_CH_STAT 15, 0x20050000)], pmem := [(40, 0x800000000000005)], chans := [(15, { loops := [(12, 5, 2)] })] }, 15,
         0x800000000000005, [.corrected, .clean], by unfold State.ScReady; decide +kernel⟩,
    ⟨{ base with regs := [(SCARAB_CH_STAT 15, 0x20050000)], pmem := [(40, 0x800000000000000), (43, 0x900000000000000), (44, 0x900000000000000)] },
         15, 0x800000000000000, [.corrected, .clean], by unfold State.ScReady; decide +kernel⟩,
    ⟨{ base with regs := [(SCARAB_CH_STAT 15, 0x20000000)], pmem := [(0, 0x800000000000005)], chans := [(15, { loops := [(12, 5, 4), (9, 9, 9)] })] },
         15, 0x800000000000005, [.corrected, .clean], by unfold State.ScReady; decide +kernel⟩,
    ⟨{ base with regs := [(SCARAB_CH_STAT 15, 0x20050000)], pmem := [(40, 0x900000000000000)], chans := [(15, { loops := [(12, 5, 2)] })] }, 15,
         0x900000000000000, [.corrected, .clean], 12, 5, 2, [], by unfold State.ScReady; decide +kernel⟩,
    ⟨{ base with regs := [(SCARAB_CH_STAT 15, 0x20000000)], pmem := [(0, 0x900000000000000)], chans := [(15, { loops := [(12, 5, 4)] })] }, 15,
         0x900000000000000, [.corrected, .clean], 12, 5, 4, [], by unfold State.ScReady; decide +kernel⟩,
    ⟨{ base with regs := [(SCARAB_CH_STAT 15, 0x20050000)], pmem := [(40, 0x900000000000000)] }, 15, 0x900000000000000, [.corrected, .clean],
         by unfold State.ScReady; decide +kernel⟩,
    ⟨{ base with regs := [(SCARAB_CH_STAT 15, 0x20050000)], pmem := [(40, 0xB09000000000000)] }, 15, 0xB09000000000000, [.corrected, .clean],
         by unfold State.ScReady; decide +kernel⟩,
    ⟨{ base with regs := [(SCARAB_CH_STAT 15, 0x20050000), (SCARAB_RING_HI 15, 0x300), (SCARAB_PROD_IDX 15, 8)], pmem := [(40, 0xB09000000000000)] },
         15, 0xB09000000000000, [.corrected, .clean], by unfold State.ScReady; decide +kernel⟩,
    ⟨{ base with regs := [(SCARAB_CH_STAT 15, 0x20050000)], pmem := [(40, 0xA00050000000064)] }, 15, 0xA00050000000064, [.corrected, .clean],
         by unfold State.ScReady; decide +kernel⟩,
    ⟨{ base with regs := [(SCARAB_CH_STAT 15, 0x20050000), (HIVE_STATUS 1, 0xFFFFFFFF)], pmem := [(40, 0xA40210000000000)] }, 15,
         0xA40210000000000, [], by unfold State.ScReady; decide +kernel⟩,
    ⟨{ base with regs := [(HIVE_STATUS 1, 0xFFFFFFFF)], chans := [(0, { wait := some 0xA40210000000000 })] }, 0, 0xA40210000000000,
         [.corrected, .clean], by decide +kernel⟩,
    ⟨{ base with chans := [(0, { wait := some 0xA00050000000064 })] }, 0, 0xA00050000000064, [.corrected, .clean], by decide +kernel⟩,
    ⟨{ base with now := 9, chans := [(0, { wait := some 0xA00050000000064, waitEnd := some 8 })] }, 0, 0xA00050000000064, [], by decide +kernel⟩,
    ⟨{ base with regs := [(HIVE_STATUS 1, 0xFFFFFFFF)], chans := [(0, { wait := some 0xA40210000000000 })] }, 0, 0xA40210000000000,
         [.corrected, .clean], by decide +kernel⟩,
    ⟨{ base with regs := [(HIVE_STATUS 1, 0xFFFFFFFF)], chans := [(0, { wait := some 0xA40210000000000, waitEnd := some 8 })] }, 0,
         0xA40210000000000, [], 8, by decide +kernel⟩,
    ⟨{ base with chans := [(0, { wait := some 0xA00050000000064, waitEnd := some 1000500 })] }, 0, 0xA00050000000064, [.corrected, .clean],
         1000500, by decide +kernel⟩,
    ⟨base, 0, [.corrected, .clean], by decide +kernel⟩,
    ⟨base, 0, [.corrected, .clean], by decide +kernel⟩,
    ⟨{ base with regs := [(SCARAB_CH_STAT 15, 0x20050000)] }, 15, [], [.fatal], by decide +kernel⟩,
    ⟨{ base with regs := [(SCARAB_CH_STAT 15, 0x20050000)], pmem := [(40, 0x100000000000064)] }, 15, 0x100000000000064, [],
         [.clean, .corrected, .fatal], by unfold State.ScReady; decide +kernel⟩,
    ⟨{ base with regs := [(SCARAB_CH_STAT 15, 0x20050000)], pmem := [(40, 0x32000000000000C)] }, 15, 0x32000000000000C, [],
         [.clean, .corrected, .fatal], by unfold State.ScReady; decide +kernel⟩,
    ⟨{ base with regs := [(SCARAB_CH_STAT 15, 0x20050000)], pmem := [(40, 0x204000000040003)] }, 15, 0x204000000040003, [],
         [.clean, .corrected, .clean, .fatal], by unfold State.ScReady; decide +kernel⟩⟩

set_option maxRecDepth 100000 in
theorem witness_ScarabTransfers :
    (∃ (s : State) (n : Fin 16) (w : BitVec 64) (ecc : List Ecc), let pc := s.scPc n; let i := (s.scChan n).iter;
      let ws := fun k => (List.range k).map fun j => s.pmemWord (pc + j); Ecc.fatal ∉ ecc ∧ s.ScReady n opMove w ∧ wbits w 0 32 ≠ 0 ∧
      scOperands (ws 3) i = none) ∧
    (∃ (s : State) (n : Fin 16) (w : BitVec 64) (ecc : List Ecc), let pc := s.scPc n; let i := (s.scChan n).iter;
      let ws := fun k => (List.range k).map fun j => s.pmemWord (pc + j); Ecc.fatal ∉ ecc ∧ s.ScReady n opSwap w ∧ wbits w 0 32 ≠ 0 ∧
      scOperands (ws 3) i = none) ∧
    (∃ (s : State) (n : Fin 16) (w : BitVec 64) (ecc : List Ecc), let pc := s.scPc n; let i := (s.scChan n).iter;
      let ws := fun k => (List.range k).map fun j => s.pmemWord (pc + j); Ecc.fatal ∉ ecc ∧ s.ScReady n opMovex w ∧ scOperands (ws 4) i = none) ∧
    (∃ (s : State) (n : Fin 16) (w : BitVec 64) (ecc : List Ecc), let pc := s.scPc n; Ecc.fatal ∉ ecc ∧ s.ScReady n opMove w ∧ wbits w 0 32 = 0 ∧
      cBit w = false ∧ s.fetchError (pc + 3) = none) ∧
    (∃ (s : State) (n : Fin 16) (w : BitVec 64) (ecc : List Ecc) (e : Nat), let pc := s.scPc n; let i := (s.scChan n).iter;
      let ws := fun k => (List.range k).map fun j => s.pmemWord (pc + j); Ecc.fatal ∉ ecc ∧ s.ScReady n opMove w ∧ wbits w 0 32 ≠ 0 ∧
      scOperands (ws 3) i = some e ∧ s.ringFull n = false ∧ s.bit (SCARAB_RING_HI n) SCARAB_RING_HI_SPACE = false) ∧
    (∃ (s : State) (n : Fin 16) (w : BitVec 64) (x : Xfer), let pc := s.scPc n; s.scOn = true ∧ (s.scChan n).xfer = some x ∧ x.words.headD 0 = w ∧
      cBit w = false ∧ x.withdrawn = false ∧ (∀ m < 16, m ≠ (n : Nat) → s.sharing m = none) ∧ s.fetchError (pc + x.words.length) = none ∧
      spaceOf (x.words.getD 1 0) = 1 ∧ spaceOf (x.words.getD 2 0) = 1 ∧ opOf w = opMove ∧ wbits w 49 1 = 0) ∧
    (∃ (s : State) (n : Fin 16) (w : BitVec 64) (x : Xfer), let pc := s.scPc n; let left := x.len - x.done; s.scOn = true ∧
      (s.scChan n).xfer = some x ∧ x.words.headD 0 = w ∧ cBit w = false ∧ x.withdrawn = false ∧ (∀ m < 16, m ≠ (n : Nat) → s.sharing m = none) ∧
      s.fetchError (pc + x.words.length) = none ∧ spaceOf (x.words.getD 1 0) = 1 ∧ spaceOf (x.words.getD 2 0) = 1 ∧ opOf w = opSwap ∧
      left % 2 ^ wbits w 52 2 = 0) ∧
    (∃ (s : State) (n : Fin 16) (w : BitVec 64) (x : Xfer), s.scOn = true ∧ (s.scChan n).xfer = some x ∧ x.words.headD 0 = w ∧
      ¬ (opOf w = opMove ∧ wbits w 49 1 = 1) ∧ opOf w = opMovex) ∧
    (∃ (s : State) (n : Fin 16) (w : BitVec 64) (x : Xfer), s.scOn = true ∧ (s.scChan n).xfer = some x ∧ x.words.headD 0 = w ∧
      ¬ (opOf w = opMove ∧ wbits w 49 1 = 1) ∧ opOf w = opSwap) ∧
    (∃ (s : State) (n : Fin 16) (w : BitVec 64) (x : Xfer), s.scOn = true ∧ (s.scChan n).xfer = some x ∧ x.words.headD 0 = w ∧
      ¬ (opOf w = opMove ∧ wbits w 49 1 = 1) ∧ opOf w = opMove) ∧
    (∃ (s : State) (n : Fin 16) (w : BitVec 64) (x : Xfer) (m : Nat) (y : Xfer), s.scOn = true ∧ (s.scChan n).xfer = some x ∧
      x.words.headD 0 = w ∧ ¬ (opOf w = opMove ∧ wbits w 49 1 = 1) ∧ s.sharing m = some y) ∧
    (∃ (s : State) (n : Fin 16) (w : BitVec 64) (x : Xfer) (len : Nat), s.scOn = true ∧ (s.scChan n).xfer = some x ∧ x.words.headD 0 = w ∧
      opOf w = opMove ∧ wbits w 49 1 = 1 ∧ x.burst = some len ∧ x.done + len = x.len) ∧
    (∃ (s : State) (n : Fin 16) (w : BitVec 64) (x : Xfer), s.scOn = true ∧ (s.scChan n).xfer = some x ∧ x.words.headD 0 = w ∧ opOf w = opMove ∧
      wbits w 49 1 = 1 ∧ x.burst = none ∧ x.burstLen ≠ 0 ∧ s.lineUp x.line x.burstLen = true) ∧
    (∃ (s : State) (n : Fin 16) (w : BitVec 64) (x : Xfer), s.scOn = true ∧ (s.scChan n).xfer = some x ∧ x.words.headD 0 = w ∧ opOf w = opMove ∧
      wbits w 49 1 = 1 ∧ x.burst = none ∧ s.lineUp x.line x.burstLen = false) ∧
    (∃ (s : State) (n : Fin 16) (w : BitVec 64) (x : Xfer) (ecc : Bool) (len : Nat), let z := s.moveBytes n x len; let y := z.2.mark ecc;
      s.scOn = true ∧ (s.scChan n).xfer = some x ∧ x.words.headD 0 = w ∧ opOf w = opMove ∧ wbits w 49 1 = 1 ∧ x.burst = some len ∧ y.burstLen ≠ 0 ∧
      z.1.lineUp y.line y.burstLen = true) ∧
    (∃ (s : State) (n : Fin 16) (w : BitVec 64) (x : Xfer) (ecc : Bool) (len : Nat), let z := s.moveBytes n x len; let y := z.2.mark ecc;
      s.scOn = true ∧ (s.scChan n).xfer = some x ∧ x.words.headD 0 = w ∧ opOf w = opMove ∧ wbits w 49 1 = 1 ∧ x.burst = some len ∧
      ¬(y.burstLen ≠ 0 ∧ z.1.lineUp y.line y.burstLen = true)) ∧
    (∃ (s : State) (n : Fin 16) (w : BitVec 64) (x : Xfer) (len kept : Nat), s.scOn = true ∧ (s.scChan n).xfer = some x ∧ x.words.headD 0 = w ∧
      opOf w = opMove ∧ wbits w 49 1 = 1 ∧ x.burst = some len ∧ (len ≤ kept ∨ 1 < x.line ∨ (x.withdrawn = true ∧ x.kept ≠ none))) ∧
    (∃ (s : State) (n : Fin 16) (w : BitVec 64) (x : Xfer) (len kept : Nat), s.scOn = true ∧ (s.scChan n).xfer = some x ∧ x.words.headD 0 = w ∧
      opOf w = opMove ∧ wbits w 49 1 = 1 ∧ x.burst = some len ∧ kept < len ∧ x.line < 2 ∧ (x.withdrawn = false ∨ x.kept = none)) ∧
    (∃ (s : State) (n : Fin 16), (s.scOn = false ∨ (s.scChan n).xfer = none)) :=
  ⟨⟨{ base with regs := [(SCARAB_CH_STAT 15, 0x20050000)], pmem := [(40, 0x100000000000064)] }, 15, 0x100000000000064, [.corrected, .clean],
         by unfold State.ScReady; decide +kernel⟩,
    ⟨{ base with regs := [(SCARAB_CH_STAT 15, 0x20050000)], pmem := [(40, 0x32000000000000C)] }, 15, 0x32000000000000C, [.corrected, .clean],
         by unfold State.ScReady; decide +kernel⟩,
    ⟨{ base with regs := [(SCARAB_CH_STAT 15, 0x20050000)], pmem := [(40, 0x204000000040003)] }, 15, 0x204000000040003, [.corrected, .clean],
         by unfold State.ScReady; decide +kernel⟩,
    ⟨{ base with regs := [(SCARAB_CH_STAT 15, 0x20050000)], pmem := [(40, 0x100000000000000)] }, 15, 0x100000000000000, [.corrected, .clean],
         by refine ⟨?_, ?_, ?_, ?_, ?_⟩ <;> first | decide +kernel | ((try unfold State.ScReady); decide +kernel) | fail⟩,
    ⟨{ base with regs := [(SCARAB_CH_STAT 15, 0x20050000)], pmem := [(40, 0x100000000000005), (42, 0x2000000000)] }, 15, 0x100000000000005,
         [.corrected, .clean], 3, by unfold State.ScReady; decide +kernel⟩,
    ⟨{ base with chans := [(0, { xfer := some { words := [0x100000000000064, 0x1000000100, 0x1000000110], src := 256, dst := 272, len := 100 } })] },
         0, 0x100000000000064, { words := [0x100000000000064, 0x1000000100, 0x1000000110], src := 256, dst := 272, len := 100 }, by decide +kernel⟩,
    ⟨{ base with chans := [(0, { xfer := some { words := [0x32000000000000C, 0x1000000100, 0x1000000108], src := 256, dst := 264, len := 12 } })] },
         0, 0x32000000000000C, { words := [0x32000000000000C, 0x1000000100, 0x1000000108], src := 256, dst := 264, len := 12 }, by decide +kernel⟩,
    ⟨{ base with chans := [(0, { xfer := some { words := [0x204000000040003, 0x1000000000, 0x1000000300, 0x800000010], src := 0, dst := 768, len := 24 } })] },
         0, 0x204000000040003, { words := [0x204000000040003, 0x1000000000, 0x1000000300, 0x800000010], src := 0, dst := 768, len := 24 },
         by decide +kernel⟩,
    ⟨{ base with chans := [(0, { xfer := some { words := [0x32000000000000C, 0x1000000100, 0x1000000108], src := 256, dst := 264, len := 12 } })] },
         0, 0x32000000000000C, { words := [0x32000000000000C, 0x1000000100, 0x1000000108], src := 256, dst := 264, len := 12 }, by decide +kernel⟩,
    ⟨{ base with chans := [(0, { xfer := some { words := [0x100000000000064, 0x1000000100, 0x1000000110], src := 256, dst := 272, len := 100 } })] },
         0, 0x100000000000064, { words := [0x100000000000064, 0x1000000100, 0x1000000110], src := 256, dst := 272, len := 100 }, by decide +kernel⟩,
    ⟨{ base with regs := [(SCARAB_CH_STAT 15, 0x20050000)], chans := [(0, { xfer := some { words := [0x100000000000064, 0x1000000100, 0x1000000110], src := 256, dst := 272, len := 100 } }), (15, { xfer := some { words := [0x32000000000000C, 0x1000000100, 0x1000000108], src := 256, dst := 264, len := 12 } })] },
         0, 0x100000000000064, { words := [0x100000000000064, 0x1000000100, 0x1000000110], src := 256, dst := 272, len := 100 }, 15,
         { words := [0x32000000000000C, 0x1000000100, 0x1000000108], src := 256, dst := 264, len := 12 }, by decide +kernel⟩,
    ⟨{ base with chans := [(0, { xfer := some { words := [0x1022000000000C8, 0x5000000000, 0x1000000200], src := 0, dst := 512, len := 200, burst := some 200 } })] },
         0, 0x1022000000000C8, { words := [0x1022000000000C8, 0x5000000000, 0x1000000200], src := 0, dst := 512, len := 200, burst := some 200 }, 200,
         by decide +kernel⟩,
    ⟨{ base with qspi := some ⟨0, false, 393216, 4096⟩, chans := [(0, { xfer := some { words := [0x1022000000000C8, 0x5000000000, 0x1000000200], src := 0, dst := 512, len := 200, done := 192 } })] },
         0, 0x1022000000000C8, { words := [0x1022000000000C8, 0x5000000000, 0x1000000200], src := 0, dst := 512, len := 200, done := 192 },
         by decide +kernel⟩,
    ⟨{ base with chans := [(0, { xfer := some { words := [0x1022000000000C8, 0x5000000000, 0x1000000200], src := 0, dst := 512, len := 200 } })] },
         0, 0x1022000000000C8, { words := [0x1022000000000C8, 0x5000000000, 0x1000000200], src := 0, dst := 512, len := 200 }, by decide +kernel⟩,
    ⟨{ base with qspi := some ⟨1, false, 0, 1000⟩, chans := [(0, { xfer := some { words := [0x102000000000080, 0x5000000000, 0x1000000200], src := 0, dst := 512, len := 128, burst := some 64 } })] },
         0, 0x102000000000080, { words := [0x102000000000080, 0x5000000000, 0x1000000200], src := 0, dst := 512, len := 128, burst := some 64 }, false,
         64, by decide +kernel⟩,
    ⟨{ base with chans := [(0, { xfer := some { words := [0x1022000000000C8, 0x5000000000, 0x1000000200], src := 0, dst := 512, len := 200, burst := some 200 } })] },
         0, 0x1022000000000C8, { words := [0x1022000000000C8, 0x5000000000, 0x1000000200], src := 0, dst := 512, len := 200, burst := some 200 },
         false, 200, by decide +kernel⟩,
    ⟨{ base with chans := [(0, { xfer := some { words := [0x1022000000000C8, 0x5000000000, 0x1000000200], src := 0, dst := 512, len := 200, burst := some 200 } })] },
         0, 0x1022000000000C8, { words := [0x1022000000000C8, 0x5000000000, 0x1000000200], src := 0, dst := 512, len := 200, burst := some 200 }, 200,
         255, by decide +kernel⟩,
    ⟨{ base with chans := [(0, { xfer := some { words := [0x106100000000014, 0x1000000000, 0x5000000001], src := 0, dst := 1, len := 20, burst := some 20 } })] },
         0, 0x106100000000014, { words := [0x106100000000014, 0x1000000000, 0x5000000001], src := 0, dst := 1, len := 20, burst := some 20 }, 20, 2,
         by decide +kernel⟩,
    ⟨base, 0, by decide +kernel⟩⟩

set_option maxRecDepth 100000 in
theorem witness_ScarabRegisters :
    (∃ (s : State) (n : Fin 16) (w : Word), s.answers (SCARAB_CH_CTRL n) = true ∧ s.bit (SCARAB_CH_CTRL n) SCARAB_CH_CTRL_EN = false ∧
      s.fetchError (getF w SCARAB_CH_CTRL_START_PC) = none) ∧
    (∃ (s : State) (n : Fin 16) (w : Word), s.answers (SCARAB_CH_CTRL n) = true ∧ s.bit (SCARAB_CH_CTRL n) SCARAB_CH_CTRL_EN = false ∧
      s.fetchError (getF w SCARAB_CH_CTRL_START_PC) ≠ none ∧ s.ringFull n = false) ∧
    (∃ (s : State) (n : Fin 16), s.answers (SCARAB_CH_CTRL n) = true ∧ s.bit (SCARAB_CH_CTRL n) SCARAB_CH_CTRL_EN = true) ∧
    (∃ (s : State) (n : Fin 16) (w : Word), s.answers SCARAB_DOORBELL = true ∧ s.scState n = ScSt.parked ∧ w.getLsbD n = true ∧
      opOf (s.pmemWord (s.scPc n)) ≠ opStop ∧ s.fetchError (s.scPc n) = none) ∧
    (∃ (s : State) (n : Fin 16) (w : Word), s.answers SCARAB_DOORBELL = true ∧ s.scState n = ScSt.parked ∧ w.getLsbD n = false) ∧
    (∃ (s : State) (n : Fin 16), s.answers (SCARAB_CONS_IDX n) = true ∧ (s.scChan n).due = none) ∧
    (∃ (s : State) (n : Fin 16) (w : Word) (r : ScRec) (pc st : Nat), s.answers (SCARAB_CONS_IDX n) = true ∧ (s.scChan n).due = some (r, pc, st) ∧
      pc < 8192 ∧ (st = ScSt.parked ∨ (st = ScSt.run ∧ s.fetchError pc = none)) ∧ (s.prodIdx n + 65536 - w.toNat % 65536) % 65536 ≠ s.ringSize n) ∧
    (∃ (s : State), s.answers SCARAB_PMEM_DATA_HI = true) ∧
    (∃ (s : State), s.answers SCARAB_PMEM_DATA_LO = true) :=
  ⟨⟨{ mode := .onAir }, 0, 0, by decide +kernel⟩,
    ⟨{ mode := .onAir, pmem := [(0, 0x80000000000000), (5, 0xF000000000000000)] }, 15, 5, by decide +kernel⟩,
    ⟨{ regs := [(SCARAB_CH_CTRL 15, 0x80000000)], mode := .onAir }, 15, by decide +kernel⟩,
    ⟨{ regs := [(SCARAB_CH_STAT 15, 0x60052000)], mode := .onAir, pmem := [(41, 0xC00000000000028)] }, 15, 0xFFFFFFFF, by decide +kernel⟩,
    ⟨{ regs := [(SCARAB_CH_STAT 15, 0x60052000)], mode := .onAir }, 15, 0, by decide +kernel⟩,
    ⟨{ mode := .onAir }, 0, by decide +kernel⟩,
    ⟨{ mode := .onAir, chans := [(0, { due := some ({ kind := 2, index := 40 }, 41, 3) })] }, 0, 0, { kind := 2, index := 40 }, 41, 3,
         by decide +kernel⟩,
    ⟨{ mode := .onAir }, by decide +kernel⟩,
    ⟨{ mode := .onAir }, by decide +kernel⟩⟩

set_option maxRecDepth 100000 in
theorem witness_PowerDomains :
    (∃ (s : State) (d : Fin 54) (w : Word), let quiet := ∀ n < 5, s.wakeAsserted n = false; let v := getF w PMU_DOM_REQ;
      s.answers (PMU_DOM d) = true ∧ quiet ∧ (∀ e : Fin 54, s.domMove e = none) ∧ (v = domMoving ∨ v = s.domState d)) ∧
    (∃ (s : State) (d : Fin 54) (w : Word), let quiet := ∀ n < 5, s.wakeAsserted n = false; let v := getF w PMU_DOM_REQ;
      s.answers (PMU_DOM d) = true ∧ quiet ∧ (∀ e : Fin 54, s.domMove e = none) ∧ v ≠ domMoving ∧ v ≠ s.domState d ∧ s.domJudge d v = false) ∧
    (∃ (s : State) (d : Fin 54) (w : Word), let quiet := ∀ n < 5, s.wakeAsserted n = false; let v := getF w PMU_DOM_REQ;
      s.answers (PMU_DOM d) = true ∧ quiet ∧ (∀ e : Fin 54, s.domMove e = none) ∧ v ≠ domMoving ∧ v ≠ s.domState d ∧ s.domJudge d v = true ∧
      s.domOn d = true) ∧
    (∃ (s : State) (d : Fin 54) (w : Word), let quiet := ∀ n < 5, s.wakeAsserted n = false; let v := getF w PMU_DOM_REQ;
      s.answers (PMU_DOM d) = true ∧ quiet ∧ (∀ e : Fin 54, s.domMove e = none) ∧ v ≠ domMoving ∧ v ≠ s.domState d ∧ s.domJudge d v = true ∧
      s.domOn d = false) ∧
    (∃ (s : State) (d : Fin 54) (w target began : Nat) (ret : Bool), let quiet := ∀ n < 5, s.wakeAsserted n = false;
      s.domMove d = some ⟨some w, target, began, ret⟩ ∧ quiet) ∧
    (∃ (s : State) (d : Fin 54) (target began : Nat) (ret : Bool) (i : Fin 4) (a : Nat), let quiet := ∀ n < 5, s.wakeAsserted n = false;
      s.domMove d = some ⟨none, target, began, ret⟩ ∧ quiet ∧ s.rising = [] ∧ s.domWait d = none ∧ target < 3 ∧ target = domOff ∧
      (d : Nat) = 10 + i ∧ dieOf a = 1 + i ∧ blockOf a ≠ 0x01) ∧
    (∃ (s : State) (d : Fin 54), (∀ w target began ret, s.domMove d ≠ some ⟨some w, target, began, ret⟩)) ∧
    (∃ (s : State) (d : Fin 54), (∀ target began ret, s.domMove d ≠ some ⟨none, target, began, ret⟩)) ∧
    (∃ (s : State) (n : Fin 4) (d : Fin 54), (∀ e : Fin 54, s.domMove e = none) ∧ s.mode ≠ .standby ∧ s.rising = [] ∧ s.wakeEn d n = true ∧
      s.domOn d = false ∧ (parentOf d).all s.domOn = true) ∧
    (∃ (s : State) (e : Nat), s.timerEnd = some e ∧ s.mode ≠ .standby ∧ (∀ e : Fin 54, s.domMove e = none) ∧
      s.bit PMU_TIMER_CFG PMU_TIMER_CFG_MODE = true) ∧
    (∃ (s : State), (s.timerEnd = none ∨ s.mode = .standby)) ∧
    (∃ (s : State), s.answers PMU_TIMER_CFG = true) :=
  ⟨⟨base, 0, 0x20000000, by decide +kernel⟩,
    ⟨base, 0, 0, by decide +kernel⟩,
    ⟨{ mode := .onAir }, 4, 0, by decide +kernel⟩,
    ⟨{ regs := [(PMU_DOM 53, 0x60000000)], mode := .onAir }, 53, 0, by decide +kernel⟩,
    ⟨{ base with domMoves := [(2, some { window := some 1000100, target := 0, began := 0 })] }, 2, 1000100, 0, 0, false, by decide +kernel⟩,
    ⟨{ base with domMoves := [(11, some { window := none, target := 0, began := 999900 })] }, 11, 0, 999900, false, 1, (TXCH_STATUS 1),
         by decide +kernel⟩,
    ⟨base, 0, fun _ _ _ _ h => nomatch (show (none : Option DomMove) = some _ from h)⟩,
    ⟨base, 0, fun _ _ _ h => nomatch (show (none : Option DomMove) = some _ from h)⟩,
    ⟨{ base with regs := [(PMU_DOM 51, 0x21F00000)] }, 0, 51, by decide +kernel⟩,
    ⟨{ base with timerEnd := some 1000777 }, 1000777, by decide +kernel⟩,
    ⟨base, by decide +kernel⟩,
    ⟨base, by decide +kernel⟩⟩

set_option maxRecDepth 100000 in
theorem witness_Supplies :
    (∃ (s : State), s.dip = none ∧ s.bit PMU_WARN_CFG PMU_WARN_CFG_TX_MUTE_ON_WARN = false) ∧
    (∃ (s : State) (b : Nat), s.dip = some b) ∧
    (∃ (s : State), s.dip = none ∧ s.bit PMU_WARN_CFG PMU_WARN_CFG_TX_MUTE_ON_WARN = true ∧ s.mode = .onAir ∧ s.trans = none ∧
      s.thermShut = false) ∧
    (∃ (s : State), s.freezeEnd = none) ∧
    (∃ (s : State) (e : Nat), s.freezeEnd = some e) ∧
    (∃ (s : State), s.mode ≠ .standby) ∧
    (∃ (s : State), s.mode = .standby ∧ s.porHigh = true ∧ s.standbyHeld = false) ∧
    (∃ (s : State), (s.mode ≠ .standby ∨ s.porHigh = false ∨ s.standbyHeld = true)) ∧
    (∃ (s : State), s.bit PMU_STATUS PMU_STATUS_REG_LP = true) ∧
    (∃ (s : State), s.bit PMU_STATUS PMU_STATUS_REG_LP = false) :=
  ⟨⟨base, by decide +kernel⟩,
    ⟨{ base with dip := some 900000 }, 900000, by decide +kernel⟩,
    ⟨{ regs := [(PMU_WARN_CFG, 0x80000000)], mode := .onAir }, by decide +kernel⟩,
    ⟨base, by decide +kernel⟩,
    ⟨{ base with freezeEnd := some 1000999 }, 1000999, by decide +kernel⟩,
    ⟨base, by decide +kernel⟩,
    ⟨{ mode := .standby }, by decide +kernel⟩,
    ⟨base, by decide +kernel⟩,
    ⟨{ base with regs := [(PMU_STATUS, 0x40000000)] }, by decide +kernel⟩,
    ⟨base, by decide +kernel⟩⟩

set_option maxRecDepth 100000 in
theorem witness_Starts :
    (∃ (s : State) (d : Nat), s.startDue = none ∧ s.restartAt = some (false, d)) ∧
    (∃ (s : State) (d : Nat), s.startDue = none ∧ s.restartAt = some (true, d)) ∧
    (∃ (s : State) (warm : Bool), s.startDue ≠ some warm ∧ (s.startDue ≠ none ∨ s.restartAt.map Prod.fst ≠ some warm)) ∧
    (∃ (s : State), s.startDue = some false ∧ s.mode = .boot ∧ s.record = none ∧ (∀ x ∈ s.delaySet, x.1 ≠ PMU_BOOT_STAT)) ∧
    (∃ (s : State), s.startDue = some true ∧ s.mode = .boot ∧ s.record = none) ∧
    (∃ (s : State) (st : Start), s.starting = some st ∧ s.startReady = false) ∧
    (∃ (s : State) (st : Start), s.starting = some st ∧ s.startReady = true) ∧
    (∃ (s : State), s.starting = none) ∧
    (∃ (s : State) (st : Start), s.starting = some st ∧ st.asCold) ∧
    (∃ (s : State) (st : Start), s.starting = some st ∧ ¬(st.asCold)) ∧
    (∃ (s : State) (st : Start), let unlocked := ∃ i ∈ tiles, s.tileOn i = true ∧ s.spllState i ≠ pllLocked; s.starting = some st ∧ unlocked) ∧
    (∃ (s : State) (st : Start), let unlocked := ∃ i ∈ tiles, s.tileOn i = true ∧ s.spllState i ≠ pllLocked; s.starting = some st ∧ ¬ unlocked) ∧
    (∃ (s : State) (st : Start), s.starting = some st ∧ ¬(s.boot PMU_BOOT_STAT_IMAGE = 0)) ∧
    (∃ (s : State) (st : Start), s.starting = some st ∧ st.warm = true ∧ s.boot PMU_BOOT_STAT_WARM_FAILS < 2) ∧
    (∃ (s : State) (st : Start), s.starting = some st ∧ st.warm = true ∧ 2 ≤ s.boot PMU_BOOT_STAT_WARM_FAILS) ∧
    (∃ (s : State) (st : Start), s.starting = some st ∧ st.warm = false ∧ s.boot PMU_BOOT_STAT_COLD_FAILS < 2) ∧
    (∃ (s : State) (st : Start), s.starting = some st ∧ st.warm = false ∧ 2 ≤ s.boot PMU_BOOT_STAT_COLD_FAILS ∧ s.boot PMU_BOOT_STAT_IMAGE = 0) ∧
    (∃ (s : State) (st : Start), s.starting = some st ∧ st.warm = false ∧ 2 ≤ s.boot PMU_BOOT_STAT_COLD_FAILS ∧ s.boot PMU_BOOT_STAT_IMAGE = 1) ∧
    (∃ (s : State), (s.startCal = none ∨ (∃ c, s.startCal = some c ∧ c.running = true) ∨ s.trans.map Trans.target = some Mode.calibrate)) ∧
    (∃ (s : State) (c : StartCal), s.startCal = some c ∧ c.running = false ∧ s.trans.map Trans.target ≠ some Mode.calibrate) ∧
    (∃ (s : State) (level : Fin 64), s.mode = .recovery ∧ s.flashFree = true ∧ s.fuseLevel ≤ level) ∧
    (∃ (s : State), (s.mode ≠ .recovery ∨ s.flashFree = false)) ∧
    (∃ (s : State) (level : Fin 64), (level : Nat) < s.fuseLevel) :=
  ⟨⟨{ base with restartAt := some (false, 1000300) }, 1000300, by decide +kernel⟩,
    ⟨{ base with restartAt := some (true, 999) }, 999, by decide +kernel⟩,
    ⟨base, false, by decide +kernel⟩,
    ⟨State.reset, by decide +kernel⟩,
    ⟨{ startDue := some true }, by decide +kernel⟩,
    ⟨{ base with starting := some ⟨true, false, 999000⟩ }, ⟨true, false, 999000⟩, by decide +kernel⟩,
    ⟨{ base with regs := [(SPLL_STATUS 0, 0x60000000), (SPLL_STATUS 1, 0x60000000), (SPLL_STATUS 2, 0x60000000), (SPLL_STATUS 3, 0x60000000)], starting := some ⟨true, true, 999000⟩ },
         ⟨true, true, 999000⟩, by decide +kernel⟩,
    ⟨base, by decide +kernel⟩,
    ⟨{ base with starting := some ⟨true, true, 999000⟩ }, ⟨true, true, 999000⟩, by decide +kernel⟩,
    ⟨{ base with starting := some ⟨false, false, 999000⟩ }, ⟨false, false, 999000⟩, by decide +kernel⟩,
    ⟨{ base with starting := some ⟨true, false, 999000⟩ }, ⟨true, false, 999000⟩, by decide +kernel⟩,
    ⟨{ base with regs := [(SPLL_STATUS 0, fw [(SPLL_STATUS_STATE, pllLocked)]), (SPLL_STATUS 1, fw [(SPLL_STATUS_STATE, pllLocked)]), (SPLL_STATUS 2, fw [(SPLL_STATUS_STATE, pllLocked)]), (SPLL_STATUS 3, fw [(SPLL_STATUS_STATE, pllLocked)])], starting := some ⟨true, true, 999000⟩ },
         ⟨true, true, 999000⟩, by decide +kernel⟩,
    ⟨{ base with regs := [(PMU_BOOT_STAT, 0x2000000)], starting := some ⟨true, true, 999000⟩ }, ⟨true, true, 999000⟩, by decide +kernel⟩,
    ⟨{ base with starting := some ⟨true, true, 999000⟩ }, ⟨true, true, 999000⟩, by decide +kernel⟩,
    ⟨{ base with regs := [(PMU_BOOT_STAT, fw [(PMU_BOOT_STAT_WARM_FAILS, 2)])], starting := some ⟨true, true, 999000⟩ }, ⟨true, true, 999000⟩,
         by decide +kernel⟩,
    ⟨{ base with regs := [(PMU_BOOT_STAT, 0x24000000)], starting := some ⟨false, false, 999000⟩ }, ⟨false, false, 999000⟩, by decide +kernel⟩,
    ⟨{ base with regs := [(PMU_BOOT_STAT, 0x28000000)], starting := some ⟨false, false, 999000⟩ }, ⟨false, false, 999000⟩, by decide +kernel⟩,
    ⟨{ base with regs := [(PMU_BOOT_STAT, 0x2A000000)], starting := some ⟨false, false, 999000⟩ }, ⟨false, false, 999000⟩, by decide +kernel⟩,
    ⟨base, by decide +kernel⟩,
    ⟨{ base with startCal := some { began := 999999 } }, { began := 999999 }, by decide +kernel⟩,
    ⟨{ mode := .recovery }, 63, by decide +kernel⟩,
    ⟨State.reset, by decide +kernel⟩,
    ⟨{ base with fuseLevel := 1 }, 0, by decide +kernel⟩⟩

set_option maxRecDepth 100000 in
theorem witness_RilynQueue :
    (∃ (s : State) (ok : Bool) (img : Option (Word × Fin 64)) (op : Nat) (i : Instr), RilynOp ok img op i ∧
      (s.rilynRun.isSome = true ∨ s.rilynNext = none ∨ (∃ d v, s.rilynNext = some (d, v) ∧ d.op ≠ op))) ∧
    (∃ (s : State) (ok : Bool) (img : Option (Word × Fin 64)) (op : Nat) (i : Instr), RilynOp ok img op i ∧
      [0x10, 0x20, 0x21, 0x22].contains op = true ∧ s.flashFree = false) ∧
    (∃ (s : State) (ok : Bool) (img : Option (Word × Fin 64)) (op : Nat) (i : Instr), RilynOp ok img op i ∧
      [0x11, 0x30, 0x31].contains op = true ∧ s.flashOpen = false) ∧
    (∃ (s u : State) (c : RilynCmd) (ok : Bool) (img : Option (Word × Fin 64)) (op : Nat) (i : Instr) (st : Nat), RilynOp ok img op i ∧
      s.flashFree = true ∧ s.Takes op c u ∧ u.turnedAway c = some st ∧ c.origin = .mailbox ∧ u.rilynQ = [] ∧ u.mbxCmd = none) ∧
    (∃ (s u : State) (c : RilynCmd) (ok : Bool) (img : Option (Word × Fin 64)) (op : Nat) (i : Instr), RilynOp ok img op i ∧ s.Takes op c u ∧
      u.thermShut = true) ∧
    (∃ (s u : State) (c : RilynCmd) (ok : Bool) (img : Option (Word × Fin 64)) (op : Nat) (i : Instr), RilynOp ok img op i ∧ s.Takes op c u ∧
      u.thermShut = false ∧ c.origin ≠ .mailbox ∧ (op = 0x60 ∨ (fullOps.contains op = true ∧ u.bit RILYN_MPLANE_CFG RILYN_MPLANE_CFG_FULL = false))) ∧
    (∃ (s u : State) (c : RilynCmd) (ok : Bool) (img : Option (Word × Fin 64)) (op : Nat) (i : Instr), RilynOp ok img op i ∧ s.Takes op c u ∧
      u.thermShut = false ∧
      (c.origin = .mailbox ∨ (op ≠ 0x60 ∧ (fullOps.contains op = false ∨ u.bit RILYN_MPLANE_CFG RILYN_MPLANE_CFG_FULL = true)))) :=
  ⟨⟨base, true, none, 1, .getId, by refine ⟨?_, ?_⟩ <;> first | decide +kernel | ((try unfold RilynOp); decide +kernel) | exact .inr (.inl rfl)⟩,
    ⟨{ base with thermShut := true }, true, none, 0x10, (.recWrite true),
         by refine ⟨?_, ?_, ?_⟩ <;> first | decide +kernel | ((try unfold RilynOp); decide +kernel) | fail⟩,
    ⟨{ base with qspi := some ⟨0, false, 4, 100⟩ }, true, none, 0x11, .recRead,
         by refine ⟨?_, ?_, ?_⟩ <;> first | decide +kernel | ((try unfold RilynOp); decide +kernel) | fail⟩,
    ⟨(mbxWaits 1 [3]), base, (mbx 1 [3]), true, none, 1, .getId, 2,
         by refine ⟨?_, ?_, ?_, ?_, ?_, ?_, ?_⟩ <;> first | decide +kernel | ((try unfold RilynOp); decide +kernel) | exact ⟨rfl, rfl, _, rfl, rfl⟩⟩,
    ⟨{ mbxWaits 0x60 [3, 64, 0] with thermShut := true }, { base with thermShut := true }, (mbx 0x60 [3, 64, 0]), true, none, 0x60, .qspiStream,
         by refine ⟨?_, ?_, ?_⟩ <;> first | decide +kernel | ((try unfold RilynOp); decide +kernel) | exact ⟨rfl, rfl, _, rfl, rfl⟩⟩,
    ⟨{ base with rilynQ := [framed 0x60] }, base, (framed 0x60), true, none, 0x60, .qspiStream,
         by refine ⟨?_, ?_, ?_, ?_, ?_⟩ <;> first | decide +kernel | ((try unfold RilynOp); decide +kernel) | exact ⟨rfl, rfl, _, rfl, rfl⟩⟩,
    ⟨(mbxWaits 0x60 [3, 64, 0]), base, (mbx 0x60 [3, 64, 0]), true, none, 0x60, .qspiStream,
         by refine ⟨?_, ?_, ?_, ?_⟩ <;> first | decide +kernel | ((try unfold RilynOp); decide +kernel) | exact ⟨rfl, rfl, _, rfl, rfl⟩⟩⟩

set_option maxRecDepth 100000 in
theorem witness_RilynCommands :
    (∃ (s u : State) (c : RilynCmd), u.turnedAway c = none ∧ s.Takes 0x01 c u) ∧
    (∃ (s u : State) (c : RilynCmd), let p := c.param 0; let w := u.logKind 6; u.turnedAway c = none ∧ s.Takes 0x02 c u ∧ p < 8 ∧ w.trans = none ∧
      w.grants (Mode.ofCode p) = true) ∧
    (∃ (s u : State) (c : RilynCmd), let p := c.param 0; let w := u.logKind 6; u.turnedAway c = none ∧ s.Takes 0x02 c u ∧ p < 8 ∧ w.trans = none ∧
      w.grants (Mode.ofCode p) = false) ∧
    (∃ (s u : State) (c : RilynCmd), let p := c.param 0; let w := u.logKind 6; u.turnedAway c = none ∧ s.Takes 0x02 c u ∧ p < 8 ∧ w.trans ≠ none) ∧
    (∃ (s u : State) (c : RilynCmd), let p := c.param 0; u.turnedAway c = none ∧ s.Takes 0x03 c u ∧ p < 2 ∧ ¬ (u.mode = .recovery ∧ p = 0)) ∧
    (∃ (s u : State) (c : RilynCmd), let p := c.param 0;
      let es := (List.range p).map fun i => ((u.bufWord (2 * i)).toNat % 2 ^ 28, u.bufWord (2 * i + 1)); u.turnedAway c = none ∧
      s.flashFree = true ∧ s.Takes 0x10 c u ∧ p ≤ 4096 ∧ (∀ e ∈ es, recordBlock e.1 = true)) ∧
    (∃ (s u : State) (c : RilynCmd) (es : List (Nat × Word)), u.turnedAway c = none ∧ s.flashOpen = true ∧ s.Takes 0x11 c u ∧ u.record = some es ∧
      es.length ≤ 4096 ∧ c.origin = .mailbox ∧ u.rilynQ = [] ∧ u.mbxCmd = none) ∧
    (∃ (s u : State) (c : RilynCmd), let p := c.param 0; u.turnedAway c = none ∧ s.flashFree = true ∧ s.Takes 0x20 c u ∧ p ≠ 0 ∧ p ≤ 0x800000) ∧
    (∃ (s u : State) (c : RilynCmd) (len : Nat), let p := c.param 0; let w := u.logKind 6; u.turnedAway c = none ∧ s.flashFree = true ∧
      s.Takes 0x21 c u ∧ w.update = some len ∧ 4 ≤ c.param 1 ∧ c.param 1 ≤ (if c.origin = .mailbox then 65536 else 8192) ∧ p + c.param 1 ≤ len) ∧
    (∃ (s u : State) (c : RilynCmd) (len : Nat) (level : Fin 64), let w := u.logKind 6; u.turnedAway c = none ∧ s.flashFree = true ∧
      s.Takes 0x22 c u ∧ w.update = some len ∧ (level : Nat) < u.fuseLevel) ∧
    (∃ (s u : State) (c : RilynCmd) (len : Nat) (level : Fin 64), let w := u.logKind 6; u.turnedAway c = none ∧ s.flashFree = true ∧
      s.Takes 0x22 c u ∧ w.update = some len ∧ u.fuseLevel ≤ level ∧ u.mode ≠ .recovery) ∧
    (∃ (s u : State) (c : RilynCmd), u.turnedAway c = none ∧ s.Takes 0x23 c u) ∧
    (∃ (s u : State) (c : RilynCmd), u.turnedAway c = none ∧ s.Takes 0x24 c u ∧ u.ranSlot = some u.slotA) ∧
    (∃ (s u : State) (c : RilynCmd), u.turnedAway c = none ∧ s.Takes 0x24 c u ∧ u.ranSlot ≠ some u.slotA) ∧
    (∃ (s u : State) (c : RilynCmd), let good := (u.logSlots.map u.logAt).filter fun r => r.2.2; u.turnedAway c = none ∧ s.flashOpen = true ∧
      s.Takes 0x30 c u ∧ c.origin = .mailbox ∧ u.rilynQ = [] ∧ u.mbxCmd = none ∧ good = []) ∧
    (∃ (s u : State) (c : RilynCmd), let p := c.param 0; let all := (u.logSlots.map u.logAt).filter fun r => decide (logAge r.1 p < c.param 1);
      let good := (all.filter fun r => r.2.2).foldr (insertRec p) []; u.turnedAway c = none ∧ s.flashOpen = true ∧ s.Takes 0x31 c u ∧
      0 < c.param 1 ∧ c.param 1 ≤ (if c.origin = .mailbox then 1024 else 128) ∧ good.length < all.length) ∧
    (∃ (s u : State) (c : RilynCmd) (die ch : Nat), let p := c.param 0; u.turnedAway c = none ∧ s.Takes 0x40 c u ∧ die < 5 ∧ ch < 64 ∧
      p = die * 65536 + ch) ∧
    (∃ (s u : State) (c : RilynCmd), let p := c.param 0; u.turnedAway c = none ∧ s.Takes 0x50 c u ∧ p < 8 ∧ c.param 1 < 6) ∧
    (∃ (s u : State) (c : RilynCmd), let p := c.param 0; u.turnedAway c = none ∧ s.Takes 0x51 c u ∧ p < 8 ∧ c.param 1 < 6) ∧
    (∃ (s u : State) (c : RilynCmd), let p := c.param 0; u.turnedAway c = none ∧ s.Takes 0x52 c u ∧ p < 8 ∧ c.param 1 < 256) ∧
    (∃ (s u : State) (c : RilynCmd), let p := c.param 0; u.turnedAway c = none ∧ s.Takes 0x60 c u ∧ p < 4 ∧ p ≠ 2 ∧ u.qspi = none) ∧
    (∃ (s u : State) (c : RilynCmd), let p := c.param 0; u.turnedAway c = none ∧ s.Takes 0x60 c u ∧ p < 4 ∧ p ≠ 2 ∧ u.qspi ≠ none) ∧
    (∃ (s u : State) (c : RilynCmd) (level : Fin 64), u.turnedAway c = none ∧ s.flashFree = true ∧ s.Takes 0x22 c u ∧ u.update ≠ none ∧
      u.mode = .recovery ∧ u.fuseLevel ≤ level) ∧
    (∃ (s u : State) (c : RilynCmd) (ok : Bool) (img : Option (Word × Fin 64)) (x : Nat × Instr × Prop × Nat), let p := c.param 0;
      let most := fun m f : Nat => if c.origin = .mailbox then m else f;
      let sized := 4 ≤ c.param 1 ∧ c.param 1 ≤ most 65536 8192 ∧ ∃ len, u.update = some len ∧ p + c.param 1 ≤ len;
      let badRecord := 4096 < p ∨ ∃ k < p, recordBlock ((u.bufWord (2 * k)).toNat % 2 ^ 28) = false;
      let bad : List (Nat × Instr × Prop × Nat) := [(0x02, .setMode, 8 ≤ p, 2), (0x03, .restart, 2 ≤ p, 2), (0x03, .restart, u.mode = .recovery ∧ p = 0, 3), (0x10, .recWrite ok, badRecord, 2), (0x20, .imgBegin ok, p = 0 ∨ 0x800000 < p, 2), (0x21, .imgChunk ok, u.update = none, 3), (0x21, .imgChunk ok, u.update ≠ none ∧ ¬ sized, 2), (0x22, .imgEnd img, u.update = none, 3), (0x31, .logRead, c.param 1 = 0 ∨ most 1024 128 < c.param 1, 2), (0x40, .sensorRead, 5 ≤ p / 65536 % 16, 2), (0x50, .ptpGet, 8 ≤ p ∨ 6 ≤ c.param 1, 2), (0x51, .ptpSet, 8 ≤ p ∨ 6 ≤ c.param 1, 2), (0x52, .dlyResult, 8 ≤ p ∨ 256 ≤ c.param 1, 2), (0x60, .qspiStream, 4 ≤ p ∨ p = 2, 2)];
      u.turnedAway c = none ∧ s.flashFree = true ∧ x ∈ bad ∧ s.Takes x.1 c u ∧ x.2.2.1) :=
  ⟨⟨{ base with mbxCmd := some { origin := .mailbox, op := 1, tag := 9, len := 0, params := [], at_ := 500 } }, base,
         { origin := .mailbox, op := 1, tag := 9, len := 0, params := [], at_ := 500 },
         by refine ⟨?_, ?_⟩ <;> first | decide +kernel | exact ⟨rfl, rfl, _, rfl, rfl⟩⟩,
    ⟨{ mode := .onAir, mbxCmd := some { origin := .mailbox, op := 2, tag := 9, len := 4, params := [3], at_ := 500 } }, { mode := .onAir },
         { origin := .mailbox, op := 2, tag := 9, len := 4, params := [3], at_ := 500 },
         by refine ⟨?_, ?_, ?_, ?_, ?_⟩ <;> first | decide +kernel | exact ⟨rfl, rfl, _, rfl, rfl⟩⟩,
    ⟨{ mode := .onAir, mbxCmd := some { origin := .mailbox, op := 2, tag := 9, len := 4, params := [4], at_ := 500 } }, { mode := .onAir },
         { origin := .mailbox, op := 2, tag := 9, len := 4, params := [4], at_ := 500 },
         by refine ⟨?_, ?_, ?_, ?_, ?_⟩ <;> first | decide +kernel | exact ⟨rfl, rfl, _, rfl, rfl⟩⟩,
    ⟨{ mode := .onAir, trans := some ⟨.configure, false, 3⟩, mbxCmd := some { origin := .mailbox, op := 2, tag := 9, len := 4, params := [4], at_ := 500 } },
         { mode := .onAir, trans := some ⟨.configure, false, 3⟩ }, { origin := .mailbox, op := 2, tag := 9, len := 4, params := [4], at_ := 500 },
         by refine ⟨?_, ?_, ?_, ?_⟩ <;> first | decide +kernel | exact ⟨rfl, rfl, _, rfl, rfl⟩⟩,
    ⟨{ mode := .onAir, mbxCmd := some { origin := .mailbox, op := 3, tag := 9, len := 4, params := [1], at_ := 500 } }, { mode := .onAir },
         { origin := .mailbox, op := 3, tag := 9, len := 4, params := [1], at_ := 500 },
         by refine ⟨?_, ?_, ?_, ?_⟩ <;> first | decide +kernel | exact ⟨rfl, rfl, _, rfl, rfl⟩⟩,
    ⟨{ mode := .configure, mbxCmd := some { origin := .mailbox, op := 16, tag := 9, len := 4, params := [2], at_ := 500 }, bufWords := [(0, 0x80000), (2, 0x50000)] },
         { mode := .configure, bufWords := [(0, 0x80000), (2, 0x50000)] },
         { origin := .mailbox, op := 16, tag := 9, len := 4, params := [2], at_ := 500 },
         by refine ⟨?_, ?_, ?_, ?_, ?_⟩ <;> first | decide +kernel | exact ⟨rfl, rfl, _, rfl, rfl⟩⟩,
    ⟨{ mode := .onAir, mbxCmd := some { origin := .mailbox, op := 17, tag := 9, len := 0, params := [], at_ := 500 }, record := some [(5, 6), (7, 8)] },
         { mode := .onAir, record := some [(5, 6), (7, 8)] }, { origin := .mailbox, op := 17, tag := 9, len := 0, params := [], at_ := 500 },
         [(5, 6), (7, 8)], by refine ⟨?_, ?_, ?_, ?_, ?_, ?_, ?_, ?_⟩ <;> first | decide +kernel | exact ⟨rfl, rfl, _, rfl, rfl⟩⟩,
    ⟨{ mode := .configure, mbxCmd := some { origin := .mailbox, op := 32, tag := 9, len := 4, params := [0x1000], at_ := 500 } },
         { mode := .configure }, { origin := .mailbox, op := 32, tag := 9, len := 4, params := [0x1000], at_ := 500 },
         by refine ⟨?_, ?_, ?_, ?_, ?_⟩ <;> first | decide +kernel | exact ⟨rfl, rfl, _, rfl, rfl⟩⟩,
    ⟨{ mode := .configure, mbxCmd := some { origin := .mailbox, op := 33, tag := 9, len := 8, params := [8, 16], at_ := 500 }, update := some 4096 },
         { mode := .configure, update := some 4096 }, { origin := .mailbox, op := 33, tag := 9, len := 8, params := [8, 16], at_ := 500 }, 4096,
         by refine ⟨?_, ?_, ?_, ?_, ?_, ?_, ?_⟩ <;> first | decide +kernel | exact ⟨rfl, rfl, _, rfl, rfl⟩⟩,
    ⟨{ mode := .configure, mbxCmd := some { origin := .mailbox, op := 34, tag := 9, len := 0, params := [], at_ := 500 }, update := some 4096, fuseLevel := 14 },
         { mode := .configure, update := some 4096, fuseLevel := 14 }, { origin := .mailbox, op := 34, tag := 9, len := 0, params := [], at_ := 500 },
         4096, 13, by refine ⟨?_, ?_, ?_, ?_, ?_⟩ <;> first | decide +kernel | exact ⟨rfl, rfl, _, rfl, rfl⟩⟩,
    ⟨{ mode := .configure, mbxCmd := some { origin := .mailbox, op := 34, tag := 9, len := 0, params := [], at_ := 500 }, update := some 4096 },
         { mode := .configure, update := some 4096 }, { origin := .mailbox, op := 34, tag := 9, len := 0, params := [], at_ := 500 }, 4096, 0,
         by refine ⟨?_, ?_, ?_, ?_, ?_, ?_⟩ <;> first | decide +kernel | exact ⟨rfl, rfl, _, rfl, rfl⟩⟩,
    ⟨{ mode := .configure, mbxCmd := some { origin := .mailbox, op := 35, tag := 9, len := 0, params := [], at_ := 500 } },
         { mode := .configure }, { origin := .mailbox, op := 35, tag := 9, len := 0, params := [], at_ := 500 },
         by refine ⟨?_, ?_⟩ <;> first | decide +kernel | exact ⟨rfl, rfl, _, rfl, rfl⟩⟩,
    ⟨{ mode := .configure, mbxCmd := some { origin := .mailbox, op := 36, tag := 9, len := 0, params := [], at_ := 500 }, ranSlot := some 0 },
         { mode := .configure, ranSlot := some 0 }, { origin := .mailbox, op := 36, tag := 9, len := 0, params := [], at_ := 500 },
         by refine ⟨?_, ?_, ?_⟩ <;> first | decide +kernel | exact ⟨rfl, rfl, _, rfl, rfl⟩⟩,
    ⟨{ mode := .configure, mbxCmd := some { origin := .mailbox, op := 36, tag := 9, len := 0, params := [], at_ := 500 } },
         { mode := .configure }, { origin := .mailbox, op := 36, tag := 9, len := 0, params := [], at_ := 500 },
         by refine ⟨?_, ?_, ?_⟩ <;> first | decide +kernel | exact ⟨rfl, rfl, _, rfl, rfl⟩⟩,
    ⟨(mbxWaits 0x30 []), base, (mbx 0x30 []), by refine ⟨?_, ?_, ?_, ?_, ?_, ?_, ?_⟩ <;> first | decide +kernel | exact ⟨rfl, rfl, _, rfl, rfl⟩⟩,
    ⟨{ mode := .onAir, flash := [(logBase, 5), (logBase + 1, 0), (logBase + 2, 0), (logBase + 3, 0)], mbxCmd := some { origin := .mailbox, op := 49, tag := 9, len := 8, params := [5, 1], at_ := 500 } },
         { mode := .onAir, flash := [(logBase, 5), (logBase + 1, 0), (logBase + 2, 0), (logBase + 3, 0)] },
         { origin := .mailbox, op := 49, tag := 9, len := 8, params := [5, 1], at_ := 500 },
         by refine ⟨?_, ?_, ?_, ?_, ?_, ?_⟩ <;> first | decide +kernel | exact ⟨rfl, rfl, _, rfl, rfl⟩⟩,
    ⟨{ mode := .onAir, mbxCmd := some { origin := .mailbox, op := 64, tag := 9, len := 4, params := [0x10003], at_ := 500 } }, { mode := .onAir },
         { origin := .mailbox, op := 64, tag := 9, len := 4, params := [0x10003], at_ := 500 }, 1, 3,
         by refine ⟨?_, ?_, ?_, ?_, ?_⟩ <;> first | decide +kernel | exact ⟨rfl, rfl, _, rfl, rfl⟩⟩,
    ⟨{ mode := .onAir, mbxCmd := some { origin := .mailbox, op := 80, tag := 9, len := 8, params := [3, 4], at_ := 500 } }, { mode := .onAir },
         { origin := .mailbox, op := 80, tag := 9, len := 8, params := [3, 4], at_ := 500 },
         by refine ⟨?_, ?_, ?_, ?_⟩ <;> first | decide +kernel | exact ⟨rfl, rfl, _, rfl, rfl⟩⟩,
    ⟨{ mode := .onAir, mbxCmd := some { origin := .mailbox, op := 81, tag := 9, len := 12, params := [7, 5, 0x4D2], at_ := 500 } },
         { mode := .onAir }, { origin := .mailbox, op := 81, tag := 9, len := 12, params := [7, 5, 0x4D2], at_ := 500 },
         by refine ⟨?_, ?_, ?_, ?_⟩ <;> first | decide +kernel | exact ⟨rfl, rfl, _, rfl, rfl⟩⟩,
    ⟨{ mode := .onAir, mbxCmd := some { origin := .mailbox, op := 82, tag := 9, len := 8, params := [2, 200], at_ := 500 } }, { mode := .onAir },
         { origin := .mailbox, op := 82, tag := 9, len := 8, params := [2, 200], at_ := 500 },
         by refine ⟨?_, ?_, ?_, ?_⟩ <;> first | decide +kernel | exact ⟨rfl, rfl, _, rfl, rfl⟩⟩,
    ⟨{ mode := .onAir, mbxCmd := some { origin := .mailbox, op := 96, tag := 9, len := 12, params := [3, 64, 0], at_ := 500 } },
         { mode := .onAir }, { origin := .mailbox, op := 96, tag := 9, len := 12, params := [3, 64, 0], at_ := 500 },
         by refine ⟨?_, ?_, ?_, ?_, ?_⟩ <;> first | decide +kernel | exact ⟨rfl, rfl, _, rfl, rfl⟩⟩,
    ⟨{ mode := .onAir, mbxCmd := some { origin := .mailbox, op := 96, tag := 9, len := 12, params := [3, 64, 0], at_ := 500 }, qspi := some ⟨1, false, 4, 100⟩ },
         { mode := .onAir, qspi := some ⟨1, false, 4, 100⟩ }, { origin := .mailbox, op := 96, tag := 9, len := 12, params := [3, 64, 0], at_ := 500 },
         by refine ⟨?_, ?_, ?_, ?_, ?_⟩ <;> first | decide +kernel | exact ⟨rfl, rfl, _, rfl, rfl⟩⟩,
    ⟨{ mode := .recovery, mbxCmd := some { origin := .mailbox, op := 34, tag := 9, len := 0, params := [], at_ := 500 }, update := some 4096 },
         { mode := .recovery, update := some 4096 }, { origin := .mailbox, op := 34, tag := 9, len := 0, params := [], at_ := 500 }, 0,
         by refine ⟨?_, ?_, ?_, ?_, ?_, ?_⟩ <;> first | decide +kernel | exact ⟨rfl, rfl, _, rfl, rfl⟩⟩,
    ⟨{ mbxWaits 2 [8] with mode := .configure }, { base with mode := .configure }, (mbx 2 [8]), false, none,
         (2, .setMode, 8 ≤ (mbx 2 [8]).param 0, 2),
         by refine ⟨?_, ?_, ?_, ?_, ?_⟩ <;> first | decide +kernel | first | exact ⟨rfl, rfl, _, rfl, rfl⟩ | exact List.Mem.head _ | exact Nat.le_refl 8⟩⟩

set_option maxRecDepth 100000 in
theorem witness_RilynEvents :
    (∃ (s : State), s.answers RILYN_BUF_DATA = true ∧ s.bit RILYN_MBX_STAT RILYN_MBX_STAT_BUSY = false) ∧
    (∃ (s : State), s.answers RILYN_BUF_DATA = true ∧ s.bit RILYN_MBX_STAT RILYN_MBX_STAT_BUSY = true) ∧
    (∃ (s : State), s.mgmtIn = []) ∧
    (∃ (s : State) (m : EcpriMsg) (rest : List EcpriMsg), let body := m.bytes.drop (payloadAt m.bytes); s.mgmtIn = m :: rest ∧
      (slice m.bytes 0 6 ≠ s.portAddr m.port ∨ num m.bytes (payloadAt m.bytes - 2) 2 ≠ s.fld RILYN_MPLANE_CFG RILYN_MPLANE_CFG_ETYPE ∨ body.length < 8 ∨ s.mode.code < 3)) ∧
    (∃ (s : State) (m : EcpriMsg) (rest : List EcpriMsg), let body := m.bytes.drop (payloadAt m.bytes); s.mgmtIn = m :: rest ∧
      slice m.bytes 0 6 = s.portAddr m.port ∧ num m.bytes (payloadAt m.bytes - 2) 2 = s.fld RILYN_MPLANE_CFG RILYN_MPLANE_CFG_ETYPE ∧
      8 ≤ body.length ∧ 3 ≤ s.mode.code ∧ num body 0 4 / 2 ^ 30 ≠ s.partId) ∧
    (∃ (s : State) (m : EcpriMsg) (rest : List EcpriMsg) (d : MpDone), let body := m.bytes.drop (payloadAt m.bytes); s.mgmtIn = m :: rest ∧
      slice m.bytes 0 6 = s.portAddr m.port ∧ num m.bytes (payloadAt m.bytes - 2) 2 = s.fld RILYN_MPLANE_CFG RILYN_MPLANE_CFG_ETYPE ∧
      8 ≤ body.length ∧ 3 ≤ s.mode.code ∧ num body 0 4 / 2 ^ 30 = s.partId ∧
      (s.mpDone.find? fun x => x.src == slice m.bytes 6 6 && x.seq == num body 0 4 % 65536) = some d) ∧
    (∃ (s : State) (m : EcpriMsg) (rest : List EcpriMsg), let body := m.bytes.drop (payloadAt m.bytes); s.mgmtIn = m :: rest ∧
      slice m.bytes 0 6 = s.portAddr m.port ∧ num m.bytes (payloadAt m.bytes - 2) 2 = s.fld RILYN_MPLANE_CFG RILYN_MPLANE_CFG_ETYPE ∧
      8 ≤ body.length ∧ 3 ≤ s.mode.code ∧ num body 0 4 / 2 ^ 30 = s.partId ∧ (∀ d ∈ s.mpDone, d.src ≠ slice m.bytes 6 6) ∧ 4 ≤ s.rilynQ.length) ∧
    (∃ (s : State) (m : EcpriMsg) (rest : List EcpriMsg), let body := m.bytes.drop (payloadAt m.bytes); s.mgmtIn = m :: rest ∧
      slice m.bytes 0 6 = s.portAddr m.port ∧ num m.bytes (payloadAt m.bytes - 2) 2 = s.fld RILYN_MPLANE_CFG RILYN_MPLANE_CFG_ETYPE ∧
      8 ≤ body.length ∧ 3 ≤ s.mode.code ∧ num body 0 4 / 2 ^ 30 = s.partId ∧ (∀ d ∈ s.mpDone, d.src ≠ slice m.bytes 6 6) ∧ s.rilynQ.length < 4 ∧
      s.rilynRun ≠ none) ∧
    (∃ (s : State), (s.mode = .standby ∨ s.thermShut = true ∨ s.porHigh = false ∨ s.startDue ≠ none)) ∧
    (∃ (s : State), s.mode ≠ .standby ∧ s.thermShut = false ∧ s.porHigh = true ∧ s.startDue = none ∧ s.starting = none) ∧
    (∃ (s : State), s.mode ≠ .standby ∧ s.thermShut = false ∧ s.porHigh = true ∧ s.startDue = none ∧ s.starting ≠ none) ∧
    (∃ (s : State) (r : LogRec) (rest : List LogRec), s.logQ = r :: rest ∧ s.flashFree = true ∧ s.mode ≠ .standby) ∧
    (∃ (s : State), (s.flashFree = false ∨ s.mode = .standby ∨ s.logQ = [])) ∧
    (∃ (s : State) (die : Fin 5) (ch : Fin 64), s.hkConverts die ch = false) ∧
    (∃ (s : State) (die : Fin 5) (ch : Fin 64), let n := 2 ^ min 8 (s.fld (HKADC_CHCFG die ch) HKADC_CHCFG_AVG_LOG2);
      let acc := s.hkAcc (64 * die + ch); s.hkConverts die ch = true ∧ acc.1 + 1 < n) ∧
    (∃ (s : State) (die : Fin 5) (ch : Fin 64), let n := 2 ^ min 8 (s.fld (HKADC_CHCFG die ch) HKADC_CHCFG_AVG_LOG2);
      let acc := s.hkAcc (64 * die + ch); s.hkConverts die ch = true ∧ n ≤ acc.1 + 1) ∧
    (∃ (s : State) (die : Fin 5) (ch : Fin 64), s.answers (HKADC_CHCFG die ch) = true) :=
  ⟨⟨base, by decide +kernel⟩,
    ⟨{ base with regs := [(RILYN_MBX_STAT, 0x80000000)] }, by decide +kernel⟩,
    ⟨base, by decide +kernel⟩,
    ⟨{ base with mgmtIn := [⟨2, 5, []⟩] }, ⟨2, 5, []⟩, [], by decide +kernel⟩,
    ⟨{ base with mgmtIn := [⟨0, 900, List.replicate 12 0 ++ [0x88, 0xB7, 0x40, 0, 0, 0, 0, 0, 0, 0]⟩], regs := [(RILYN_MPLANE_CFG, fw [(RILYN_MPLANE_CFG_ETYPE, 0x88B7)])] },
         ⟨0, 900, List.replicate 12 0 ++ [0x88, 0xB7, 0x40, 0, 0, 0, 0, 0, 0, 0]⟩, [], by decide +kernel⟩,
    ⟨{ regs := [(MAC_ADDR_LO 2, 7), (MAC_ADDR_HI 2, 0x200)], mode := .configure, mgmtIn := [⟨2, 99, [2, 0, 0, 0, 0, 7, 2, 0, 0, 0, 0, 9, 136, 181, 0, 0, 0, 77, 1, 0, 0, 4]⟩], mpDone := [⟨[2, 0, 0, 0, 0, 9], 77, [], 0⟩] },
         ⟨2, 99, [2, 0, 0, 0, 0, 7, 2, 0, 0, 0, 0, 9, 136, 181, 0, 0, 0, 77, 1, 0, 0, 4]⟩, [], ⟨[2, 0, 0, 0, 0, 9], 77, [], 0⟩, by decide +kernel⟩,
    ⟨{ regs := [(MAC_ADDR_LO 2, 7), (MAC_ADDR_HI 2, 0x200)], mode := .configure, mgmtIn := [⟨2, 99, [2, 0, 0, 0, 0, 7, 2, 0, 0, 0, 0, 9, 136, 181, 0, 0, 0, 71, 1, 0, 0, 4]⟩], rilynQ := [{ origin := .frame 2 [2, 0, 0, 0, 0, 9] 0 77, op := 1, tag := 9, len := 0, params := [] }, { origin := .frame 2 [2, 0, 0, 0, 0, 9] 0 77, op := 1, tag := 9, len := 0, params := [] }, { origin := .frame 2 [2, 0, 0, 0, 0, 9] 0 77, op := 1, tag := 9, len := 0, params := [] }, { origin := .frame 2 [2, 0, 0, 0, 0, 9] 0 77, op := 1, tag := 9, len := 0, params := [] }] },
         ⟨2, 99, [2, 0, 0, 0, 0, 7, 2, 0, 0, 0, 0, 9, 136, 181, 0, 0, 0, 71, 1, 0, 0, 4]⟩, [], by decide +kernel⟩,
    ⟨{ regs := [(MAC_ADDR_LO 2, 7), (MAC_ADDR_HI 2, 0x200)], mode := .configure, mgmtIn := [⟨2, 99, [2, 0, 0, 0, 0, 7, 2, 0, 0, 0, 0, 9, 136, 181, 0, 0, 0, 72, 1, 0, 0, 4]⟩], rilynRun := some { origin := .mailbox, op := 2, tag := 9, len := 4, params := [4], at_ := 500 } },
         ⟨2, 99, [2, 0, 0, 0, 0, 7, 2, 0, 0, 0, 0, 9, 136, 181, 0, 0, 0, 72, 1, 0, 0, 4]⟩, [], by decide +kernel⟩,
    ⟨{ mode := .standby }, by decide +kernel⟩,
    ⟨base, by decide +kernel⟩,
    ⟨{ base with starting := some ⟨true, false, 900⟩ }, by decide +kernel⟩,
    ⟨{ base with logQ := [⟨3, 1, 2, 0x123456789, 2⟩] }, ⟨3, 1, 2, 0x123456789, 2⟩, [], by decide +kernel⟩,
    ⟨base, by decide +kernel⟩,
    ⟨base, 0, 0, by decide +kernel⟩,
    ⟨{ base with regs := [(HKADC_CHCFG 2 40, 17)] }, 2, 40, by decide +kernel⟩,
    ⟨base, 0, 40, by decide +kernel⟩,
    ⟨{ mode := .onAir }, 0, 0, by decide +kernel⟩⟩

set_option maxRecDepth 100000 in
theorem witness_Temperatures :
    (∃ (s : State) (d : Fin 5), s.diePowered d = false) ∧
    (∃ (s : State) (d : Fin 5) (conv : BitVec 16), s.diePowered d = true ∧ (s.diode d).conv.length < 15) ∧
    (∃ (s : State) (d : Fin 5) (conv : BitVec 16) (k : Fin 4), let t := post (.thermalUpdate d conv) s; s.diePowered d = true ∧
      15 ≤ (s.diode d).conv.length ∧ s.bit (THERM_THR d k) THERM_THR_EN = true ∧ s.bit (THERM_THR d k) THERM_THR_STATE = false ∧
      t.bit (THERM_THR d k) THERM_THR_STATE = true) ∧
    (∃ (s : State) (d : Fin 5) (conv : BitVec 16) (k : Fin 4), s.diePowered d = true ∧ 15 ≤ (s.diode d).conv.length ∧
      s.bit (THERM_THR d k) THERM_THR_EN = true ∧ s.bit (THERM_THR d k) THERM_THR_STATE = true) ∧
    (∃ (s : State) (d : Fin 5), (s.diePowered d = false ∨ s.tempValid d = false ∨ s.bit (THERM_RATE_CFG d) THERM_RATE_CFG_EN = false)) ∧
    (∃ (s : State), s.mode = .standby) ∧
    (∃ (s : State) (d : Fin 5), let n := max 1 (s.fld (THERM_RATE_CFG d) THERM_RATE_CFG_WIN); s.diePowered d = true ∧ s.tempValid d = true ∧
      s.bit (THERM_RATE_CFG d) THERM_RATE_CFG_EN = true ∧ (s.diode d).recs.length < n) ∧
    (∃ (s : State) (d : Fin 5) (old : Int), let n := max 1 (s.fld (THERM_RATE_CFG d) THERM_RATE_CFG_WIN); s.diePowered d = true ∧
      s.tempValid d = true ∧ s.bit (THERM_RATE_CFG d) THERM_RATE_CFG_EN = true ∧ (s.diode d).recs[n - 1]? = some old ∧
      s.bit (THERM_RATE_STAT d) THERM_RATE_STAT_ABOVE = false) ∧
    (∃ (s : State) (d : Fin 5) (old : Int), let n := max 1 (s.fld (THERM_RATE_CFG d) THERM_RATE_CFG_WIN); s.diePowered d = true ∧
      s.tempValid d = true ∧ s.bit (THERM_RATE_CFG d) THERM_RATE_CFG_EN = true ∧ (s.diode d).recs[n - 1]? = some old ∧
      s.bit (THERM_RATE_STAT d) THERM_RATE_STAT_ABOVE = true) ∧
    (∃ (s : State), s.mode ≠ .standby ∧ s.bit THERM_XCHK_CFG THERM_XCHK_CFG_EN = false) ∧
    (∃ (s : State) (d : Fin 5) (powers : List (BitVec 16)),
      let u := s.each dies fun s d => s.setFld (THERM_PWR d) THERM_PWR_PWR (powers.getD d 0).toNat; s.mode ≠ .standby ∧
      s.bit THERM_XCHK_CFG THERM_XCHK_CFG_EN = true ∧ s.isSuspect d = false ∧ u.looksWrong d = false) ∧
    (∃ (s : State) (d : Fin 5) (powers : List (BitVec 16)),
      let u := s.each dies fun s d => s.setFld (THERM_PWR d) THERM_PWR_PWR (powers.getD d 0).toNat; s.mode ≠ .standby ∧
      s.bit THERM_XCHK_CFG THERM_XCHK_CFG_EN = true ∧ s.suspects = 0 ∧ u.looksWrong d = true ∧
      max 1 (s.fld THERM_XCHK_CFG THERM_XCHK_CFG_TIME) ≤ (s.diode d).marks ∧ (∀ e < 5, e ≠ d → u.looksWrong e = false)) :=
  ⟨⟨{ mode := .standby }, 0, by decide +kernel⟩,
    ⟨{ base with diodes := [(0, { conv := List.replicate 14 1600 })] }, 0, 0x190, by decide +kernel⟩,
    ⟨{ base with regs := [(THERM_THR 4 3, 0x800301EA)], diodes := [(4, { conv := List.replicate 15 1600 })] }, 4, 0x190, 3, by decide +kernel⟩,
    ⟨{ base with regs := [(THERM_THR 4 3, 0xC00301EA)], diodes := [(4, { conv := List.replicate 15 400 })] }, 4, 0x190, 3, by decide +kernel⟩,
    ⟨base, 0, by decide +kernel⟩,
    ⟨{ mode := .standby }, by decide +kernel⟩,
    ⟨{ base with regs := [(THERM_READING 4, 0x80000190), (THERM_RATE_CFG 4, 0x800000C8)] }, 4, by decide +kernel⟩,
    ⟨{ base with regs := [(THERM_READING 4, 0x80000834), (THERM_RATE_CFG 4, 0x800000C8)], diodes := [(4, { recs := [2100] })] }, 4, 2100,
         by decide +kernel⟩,
    ⟨{ base with regs := [(THERM_READING 4, 0x80000640), (THERM_RATE_CFG 4, 0x800100C8), (THERM_RATE_STAT 4, 0x80000000)], diodes := [(4, { recs := [1600] })] },
         4, 1600, by decide +kernel⟩,
    ⟨{ base with regs := [(THERM_XCHK_CFG, 0x4000A)] }, by decide +kernel⟩,
    ⟨base, 0, [], by decide +kernel⟩,
    ⟨{ base with regs := [(THERM_READING 0, 0x80000640), (THERM_RAW 0, 0x640), (THERM_XCHK_CFG, 0x8004010A), (THERM_READING 1, 0x80000640), (THERM_READING 2, 0x80000640)], diodes := [(0, { marks := 1 })] },
         0, [], by decide +kernel⟩⟩

set_option maxRecDepth 100000 in
theorem witness_ShutdownAndAgeing :
    (∃ (s : State) (d : Fin 5) (conv : BitVec 16), let t := post (.thermalUpdate d conv) s; s.diePowered d = true ∧ 15 ≤ (s.diode d).conv.length ∧
      s.shut = none ∧ 16 * 130 ≤ t.dieTemp d) ∧
    (∃ (s : State) (d : Fin 5) (conv : BitVec 16), let t := post (.thermalUpdate d conv) s; s.diePowered d = true ∧ 15 ≤ (s.diode d).conv.length ∧
      s.shut = none ∧ 8 * (clampN 200 250 (s.fld THERM_SHUT_CFG THERM_SHUT_CFG_LEVEL) : Int) ≤ t.dieTemp d ∧ t.dieTemp d < 16 * 130) ∧
    (∃ (s : State) (d : Fin 5) (conv : BitVec 16), let t := post (.thermalUpdate d conv) s; s.diePowered d = true ∧ 15 ≤ (s.diode d).conv.length ∧
      s.shut = none ∧ t.dieTemp d < 8 * (clampN 200 250 (s.fld THERM_SHUT_CFG THERM_SHUT_CFG_LEVEL) : Int) ∧ t.dieTemp d < 16 * 130) ∧
    (∃ (s : State) (x : Shut), s.shut = some x ∧ s.mode ≠ .standby) ∧
    (∃ (s : State) (d : Fin 5), s.diePowered d = true ∧ s.isSuspect d = false ∧ s.shut = none) ∧
    (∃ (s : State) (d : Fin 5), (s.diePowered d = false ∨ s.isSuspect d = true)) ∧
    (∃ (s : State), s.mode.code < 3) ∧
    (∃ (s : State) (d : Fin 5), 3 ≤ s.mode.code ∧ s.diePowered d = false) ∧
    (∃ (s : State) (d : Fin 5), 3 ≤ s.mode.code ∧ s.diePowered d = true ∧ (s.stress d).length < 24) :=
  ⟨⟨{ base with diodes := [(4, { conv := List.replicate 15 2080 })] }, 4, 2080, by decide +kernel⟩,
    ⟨{ base with diodes := [(4, { conv := List.replicate 15 2000 })] }, 4, 2000, by decide +kernel⟩,
    ⟨{ base with diodes := [(4, { conv := List.replicate 15 400 })] }, 4, 400, by decide +kernel⟩,
    ⟨{ base with shut := some ⟨999000, false⟩ }, ⟨999000, false⟩, by decide +kernel⟩,
    ⟨base, 0, by decide +kernel⟩,
    ⟨{ mode := .standby }, 0, by decide +kernel⟩,
    ⟨State.reset, by decide +kernel⟩,
    ⟨{ base with regs := [(PMU_DOM 13, 0)] }, 4, by decide +kernel⟩,
    ⟨{ mode := .configure }, 0, by decide +kernel⟩⟩

set_option maxRecDepth 100000 in
theorem witness_EventsAndPorts :
    (∃ (s : State) (src : Fin 256), s.mayAssert src = true ∧ s.follows src = false) ∧
    (∃ (s : State) (src : Fin 256), s.answers (HIVE_SRC_CFG src) = true ∧ s.follows src = true) ∧
    (∃ (s : State) (src : Fin 256), s.answers (HIVE_SRC_CFG src) = true ∧ s.follows src = false) ∧
    (∃ (s : State) (k : Fin 8), s.answers (HIVE_STATUS k) = true) ∧
    (∃ (s : State) (a : BitVec 28) (w : Word) (b c : Nat) (f : Fld), isCntFlags a.toNat = true ∧ s.answers a.toNat = true ∧ w.getLsbD b = true ∧
      flagCounter a.toNat b = some (c, f)) ∧
    (∃ (s : State) (a : BitVec 28) (w : Word) (x : Nat), isCntFlags a.toNat = true ∧ s.answers a.toNat = true ∧
      (∀ b < 32, w.getLsbD b = true → ∀ c f, flagCounter a.toNat b = some (c, f) → c ≠ x)) ∧
    (∃ (a : BitVec 28), isCntFlags a.toNat = false) ∧
    (∃ (s : State) (on : Bool) (v : Nat), on = true ∧ s.msiOn = false ∧ s.msiPend.getLsbD v = true) ∧
    (∃ (s : State) (stop : Bool), 3 ≤ s.mode.code ∧ stop = true ∧ s.uartRx.length < 1024) ∧
    (∃ (s : State) (stop : Bool), (s.mode.code < 3 ∨ stop = false ∨ 1024 ≤ s.uartRx.length)) ∧
    (∃ (s : State), s.mode ≠ .standby ∧ (s.mode = .configure ∨ s.mode = .recovery)) ∧
    (∃ (s : State), s.mode ≠ .standby ∧ s.mode ≠ .configure ∧ s.mode ≠ .recovery) ∧
    (∃ (s : State), s.mode = .standby) :=
  ⟨⟨base, 0, by decide +kernel⟩,
    ⟨{ regs := [(HIVE_SRC_CFG 145, 0xCAE294DD)], mode := .configure }, 145, by decide +kernel⟩,
    ⟨{ mode := .onAir }, 0, by decide +kernel⟩,
    ⟨{ mode := .onAir }, 0, by decide +kernel⟩,
    ⟨base, (BitVec.ofNat 28 (TXCH_CNT_FLAGS 3)), 0x20000, 17, (TXCH_LATE_DATA_COUNT 3), ⟨0, 32⟩, by decide +kernel⟩,
    ⟨base, 0xD0040, 0, RILYN_CNT_FLAGS, by refine ⟨?_, ?_, ?_⟩ <;> first | decide +kernel | (intro b _ h; simp at h)⟩,
    ⟨5, by decide +kernel⟩,
    ⟨{ base with msiPend := 0x80000000 }, true, 31, by decide +kernel⟩,
    ⟨{ mode := .configure }, true, by decide +kernel⟩,
    ⟨base, false, by decide +kernel⟩,
    ⟨{ mode := .configure }, by decide +kernel⟩,
    ⟨base, by decide +kernel⟩,
    ⟨{ mode := .standby }, by decide +kernel⟩⟩

set_option maxRecDepth 100000 in
theorem witness_StepRunsFront :
    (∃ (s : State) (c : Instr) (rest : List Instr), s.pending = c :: rest) ∧
    (∃ (s : State), s.pending = []) :=
  ⟨⟨{ base with pending := [.getId, .setMode] }, .getId, [.setMode], by decide +kernel⟩,
    ⟨base, by decide +kernel⟩⟩

set_option maxRecDepth 100000 in
theorem witness_MsiStaysSettled :
    ∃ (s t : State), s.MsiSettled ∧ step s = .next t :=
  ⟨{ base with pending := [.beamCmdDone 7] }, (post (.beamCmdDone 7) base), ⟨by unfold State.MsiSettled; decide +kernel, rfl⟩⟩

set_option maxRecDepth 100000 in
theorem witness_ModeChanges :
    ∃ (i : Instr) (s t : State), exec i s = .next t ∧ t.mode ≠ s.mode :=
  ⟨(.railResetTimeout), base, (post .railResetTimeout base), ⟨rfl, by decide +kernel⟩⟩

set_option maxRecDepth 100000 in
theorem witness_StoresCanonical :
    (∃ (d : Nat → Byte) (m : List (Nat × Byte)) (a b : Nat), swf d m = true ∧ b ≠ a) ∧
    (∃ (d : Nat → Byte) (m n : List (Nat × Byte)), swf d m = true ∧ swf d n = true ∧ (∀ a, sget d m a = sget d n a)) ∧
    (∃ (s : State), swf (fun _ => none) s.dram = true) ∧
    (∃ (s : State), swf (fun _ => 0) s.capSram = true) ∧
    (∃ (s : State), swf (fun _ => 0) s.pmem = true) ∧
    (∃ (s : State), swf resetWord s.regs = true) :=
  ⟨⟨fun _ => 0, [(1, 5)], 1, 2, by decide +kernel⟩,
    ⟨fun _ => 0, [(1, 5)], [(1, 5)], by refine ⟨?_, ?_, ?_⟩ <;> first | decide +kernel | exact fun _ => rfl⟩,
    ⟨{ base with dram := [(0, some 1), (7, some 2)] }, by decide +kernel⟩,
    ⟨{ base with capSram := [(0, 1), (7, 2)] }, by decide +kernel⟩,
    ⟨{ base with pmem := [(0, 1), (7, 2)] }, by decide +kernel⟩,
    ⟨{ base with regs := [(TIME_CTRL, 0x80000000)] }, by decide +kernel⟩⟩

end Sys2Proof.Tests
end

section
/-!
PROOFS. The register accesses of chapter 00: what is discarded, and the parameter registers of the Glide processors (R8 to R11, R16, R27, R29).
-/
namespace Sys2Proof.Machine
open Reg F

/-! ### Answers and frames -/

/-- A command whose meaning is a state to be judged answers that state, judged. -/
theorem Answers.of_done {i : Instr} {s u : State} {Q : State → Prop} (h : exec i s = done u) (hq : Q u.settle) : Answers i s Q := ⟨_, h, hq⟩

theorem exec_registerWrite (a : BitVec 28) (w : Word) (bytes : BitVec 4) (lat : Fin 4) (ofs : Int) (raced : Word) (s : State) :
    exec (.registerWrite a w bytes lat ofs raced) s = done (s.withRace raced fun u => u.hostWrite a w bytes lat ofs) := rfl
theorem exec_unoccupiedRead (a : BitVec 28) (s : State) : exec (.unoccupiedRead a) s = done (s.unoccupiedRead a.toNat) := rfl
theorem exec_tileAllRead (ofs : BitVec 24) (s : State) : exec (.tileAllRead ofs) s = done s.tileAllRead := rfl
theorem exec_broadcastWrite (ofs : BitVec 24) (w : Word) (s : State) :
    exec (.broadcastWrite ofs w) s = done (s.broadcast (0xF000000 + ofs.toNat) w) := rfl

/-- The bits that race with a write stand in the state only while the write is made (R12). -/
theorem Frame.withRace {l : List Nat} {s : State} {raced : Word} {f : State → State}
    (h : Frame l { s with racing := raced } (f { s with racing := raced })) : Frame l s (s.withRace raced f) :=
  ⟨congrArg (fun u : State => { u with racing := s.racing }) h.1, h.2.1, h.2.2⟩

theorem Frame.withReply {l : List Nat} {s t : State} (h : Frame l s t) (w : Word) : Frame l { s with reply := w } { t with reply := w } :=
  ⟨congrArg (fun u : State => { u with reply := w }) h.1, h.2.1, h.2.2⟩

/-- A frame keeps every memory. -/
theorem Frame.keeps {l : List Nat} {s t : State} (h : Frame l s t) : Keeps l s t := by
  obtain ⟨hcore, hquiet, hreg⟩ := h
  have memory : ∀ {α : Type} (m : State → α), m t.core = m s.core := fun m => congrArg m hcore
  have instructions : ∀ p, (t.glide p).quiet.imem = (s.glide p).quiet.imem := fun p => congrArg (·.imem) (hquiet p)
  exact ⟨hreg, memory (·.capSram), memory (·.dram), memory (·.weights), memory (·.dpdTbl), memory (·.coefs), memory (·.pmem),
    memory (·.bufWords), memory (·.flash), instructions⟩

/-- What a frame keeps but for the link's mark of a struck write (R16). -/
theorem Frame.keeps_of_struck {l : List Nat} {s t : State} {x : BitVec 4} (h : Frame l { s with struck := x } t) : Keeps l s t := by
  obtain ⟨hreg, hmem⟩ := h.keeps
  exact ⟨hreg, hmem⟩

theorem State.stored_withRace (s : State) (raced : Word) (f : State → State) (j : Nat) :
    (s.withRace raced f).stored j = (f { s with racing := raced }).stored j := rfl
theorem State.reg_withRace (s : State) (raced : Word) (f : State → State) (a : Nat) :
    (s.withRace raced f).reg a = (f { s with racing := raced }).reg a := rfl

/-! ### Writes of the host (R8, R9, R16, R29) -/

theorem State.linkWrite_of_struck_zero {s : State} (h : s.struck = 0) (a : Nat) (w : Word) (lat : Nat) (ofs : Int) :
    s.linkWrite a w lat ofs = s.writeOne a w lat ofs := by
  simp [State.linkWrite, h]

/-- A partial write, and one that nothing answers where no struck write is due, is an access error and nothing else. -/
theorem State.hostWrite_discarded {s : State} {a : BitVec 28} {bytes : BitVec 4}
    (h : bytes ≠ 0xF ∨ (s.struck = 0 ∧ dieOf a.toNat ≠ 15 ∧ s.answers a.toNat = false)) (w : Word) (lat : Nat) (ofs : Int) :
    s.hostWrite a w bytes lat ofs = s.accessError := by
  unfold State.hostWrite
  split
  · next whole =>
    obtain ⟨hstruck, hdie, hans⟩ := h.resolve_left (not_not.2 whole.1)
    rw [if_neg hdie, State.linkWrite_of_struck_zero hstruck, State.writeOne, State.guarded_not hans]
  · rfl

/-- A write that nothing answers is an access error, and may use up the mark of a struck write. -/
theorem State.hostWrite_unanswered {s : State} {a : BitVec 28} (hdie : dieOf a.toNat ≠ 15) (hans : s.answers a.toNat = false) (w : Word)
    (bytes : BitVec 4) (lat : Nat) (ofs : Int) : ∃ x, s.hostWrite a w bytes lat ofs = ({ s with struck := x } : State).accessError := by
  rw [State.hostWrite, if_neg hdie]
  split
  · simp only [State.linkWrite]
    split
    · exact ⟨_, rfl⟩
    · exact ⟨s.struck, by rw [State.writeOne, State.guarded_not hans]⟩
  · exact ⟨s.struck, rfl⟩

/-- A discarded read leaves 0 as its answer (R9, R10). -/
theorem State.read_discarded (s : State) : let t := ({ s.accessError with reply := 0 } : State).settle
    Frame [] { s with reply := 0 } t ∧ t.reply = 0 ∧ t.stored Ev.REG_ACCESS_ERROR = true :=
  ⟨((Frame.refl [] s).accessError.withReply 0).settle, State.settle_reply _, (State.stored_settle ..).trans s.stored_accessError⟩

theorem State.hostWrite_whole {s : State} {a : BitVec 28} (halign : a.toNat % 4 = 0) (hdie : dieOf a.toNat ≠ 15) (hstruck : s.struck = 0)
    (hans : s.answers a.toNat = true) (w : Word) (lat : Nat) (ofs : Int) :
    s.hostWrite a w 0xF lat ofs = s.writeAt a.toNat w lat ofs := by
  rw [State.hostWrite, if_pos ⟨rfl, halign⟩, if_neg hdie, State.linkWrite_of_struck_zero hstruck, State.writeOne, State.guarded_of hans]

/-- R27: TILE_ALL reaches a block only where the tiles have it. -/
theorem State.broadcast_no_block {ofs : BitVec 24} (h : tileRegs (blockOf ofs.toNat) = []) (s : State) (w : Word) :
    s.broadcast (0xF000000 + ofs.toNat) w = s.accessError := by
  have hblock : blockOf (0xF000000 + ofs.toNat) = blockOf ofs.toNat := by simp only [blockOf]; omega
  rw [State.broadcast, hblock, if_pos h]

/-! ### The parameter registers (R70) -/

theorem glideParam_place {p k : Nat} (hp : p < 5) (hk : k < 8) :
    dieOf (GLIDE_PARAM p k) = p ∧ blockOf (GLIDE_PARAM p k) = 1 ∧ offOf (GLIDE_PARAM p k) = 0x100 + 4 * k := by
  simp only [dieOf, blockOf, offOf, GLIDE_PARAM]
  omega

/-- Table 2-24: every bit of a parameter register is RW, and it is no flag register. -/
theorem glideParam_row : ∀ (p : Fin 5) (k : Fin 8),
    (regAt (GLIDE_PARAM p k)).map (fun r => (r.rw, r.w1c)) = some (0xFFFFFFFF, 0) ∧ isCntFlags (GLIDE_PARAM p k) = false := by
  decide +kernel

/-- A write to a register with every bit RW stores its data. -/
theorem State.plainWrite_all_rw {a : Nat} (hrow : (regAt a).map (fun r => (r.rw, r.w1c)) = some (0xFFFFFFFF, 0)) (s : State) {w : Word}
    (hsat : saturated a w = w) : s.plainWrite a w = s.setReg a w := by
  obtain ⟨r, hr, hbits⟩ := Option.map_eq_some_iff.1 hrow
  obtain ⟨hrw, hw1c⟩ := Prod.mk.inj hbits
  have hones : ∀ v : Word, v &&& 0xFFFFFFFF#32 = v := fun _ => BitVec.and_allOnes
  simp [State.plainWrite, hr, hrw, hw1c, hsat, hones]

theorem State.writeAt_glideParam (s : State) {p k : Nat} (hp : p < 5) (hk : k < 8) (w : Word) (lat : Nat) (ofs : Int) :
    s.writeAt (GLIDE_PARAM p k) w lat ofs = s.setReg (GLIDE_PARAM p k) w := by
  obtain ⟨_, hblock, hoff⟩ := glideParam_place hp hk
  obtain ⟨hrow, hflags⟩ := glideParam_row ⟨p, hp⟩ ⟨k, hk⟩
  have hsat : saturated (GLIDE_PARAM p k) w = w := by
    have hne : GLIDE_PARAM p k ≠ LANEQ_EYE_CTRL ∧ GLIDE_PARAM p k ≠ DRAMC_RH_CFG := by
      simp only [GLIDE_PARAM, LANEQ_EYE_CTRL, DRAMC_RH_CFG]
      omega
    simp only [saturated, hblock, if_neg hne.1, if_neg hne.2]
    simp
  have hplain : s.writeGlide (dieOf (GLIDE_PARAM p k)) (offOf (GLIDE_PARAM p k)) (GLIDE_PARAM p k) w = s.plainWrite (GLIDE_PARAM p k) w := by
    rw [State.writeGlide, hoff, if_neg (by omega), if_neg (by omega), if_neg (by omega)]
  simp only [State.writeAt, hflags, hblock]
  exact hplain.trans (State.plainWrite_all_rw hrow s hsat)

theorem domainOf_le {a : Nat} (h : dieOf a ≤ 4) : domainOf a ≤ 17 := by
  simp only [domainOf]
  split
  · split <;> omega
  · split <;> omega

/-- A parameter register holds no domain's state: whether a register answers does not depend on it. -/
theorem State.answers_setReg_glideParam (s : State) {p k : Nat} (hk : k < 8) (w : Word) {a : Nat} (ha : dieOf a ≤ 4) :
    (s.setReg (GLIDE_PARAM p k) w).answers a = s.answers a := by
  have hdom := domainOf_le ha
  have hne : PMU_DOM (domainOf a) ≠ GLIDE_PARAM p k := by
    simp only [PMU_DOM, GLIDE_PARAM]
    omega
  simp only [State.answers, State.domOn, State.fld, s.reg_setReg_ne w hne, State.setReg_mode]

/-- A write of a parameter register by the host (R11). -/
theorem State.hostWrite_glideParam {s : State} (hstruck : s.struck = 0) {p k : Nat} (hp : p < 5) (hk : k < 8)
    (hans : s.answers (GLIDE_PARAM p k) = true) (w : Word) (lat : Nat) (ofs : Int) :
    s.hostWrite (BitVec.ofNat 28 (GLIDE_PARAM p k)) w 0xF lat ofs = s.setReg (GLIDE_PARAM p k) w := by
  obtain ⟨hdie, _⟩ := glideParam_place hp hk
  have haddr : (BitVec.ofNat 28 (GLIDE_PARAM p k)).toNat = GLIDE_PARAM p k := by
    rw [BitVec.toNat_ofNat]
    exact Nat.mod_eq_of_lt (by simp only [GLIDE_PARAM]; omega)
  rw [State.hostWrite_whole (by rw [haddr]; simp only [GLIDE_PARAM]; omega) (by rw [haddr, hdie]; omega) hstruck (by rw [haddr]; exact hans),
    haddr, State.writeAt_glideParam s hp hk]

/-- Writes over the links to one parameter register of several tiles store in each. -/
theorem State.each_linkWrite_glideParam {k : Nat} (hk : k < 8) (w : Word) (l : List Nat) (hl : ∀ t ∈ l, t < 4) {s : State}
    (hstruck : s.struck = 0) (hans : ∀ t < 4, s.answers (GLIDE_PARAM (1 + t) k) = true) :
    (s.each l fun u t => u.linkWrite (GLIDE_PARAM (1 + t) k) w 0 0) = s.each l fun u t => u.setReg (GLIDE_PARAM (1 + t) k) w := by
  induction l generalizing s with
  | nil => rfl
  | cons t l ih =>
    have ht : 1 + t < 5 := by have := hl t (List.mem_cons_self ..); omega
    have hfirst : s.linkWrite (GLIDE_PARAM (1 + t) k) w 0 0 = s.setReg (GLIDE_PARAM (1 + t) k) w := by
      rw [State.linkWrite_of_struck_zero hstruck, State.writeOne, State.guarded_of (hans t (by omega)), State.writeAt_glideParam s ht hk]
    rw [State.each_cons, State.each_cons, hfirst]
    refine ih (fun q hq => hl q (List.mem_cons_of_mem _ hq)) hstruck fun q hq => ?_
    obtain ⟨hdie, _⟩ := glideParam_place (p := 1 + q) (by omega) hk
    rw [State.answers_setReg_glideParam s hk w (by omega), hans q hq]

/-- R27: a write of a parameter register through TILE_ALL stores in the four tiles. -/
theorem State.broadcast_glideParam {s : State} (hstruck : s.struck = 0) {k : Nat} (hk : k < 8)
    (hans : ∀ t < 4, s.answers (GLIDE_PARAM (1 + t) k) = true) (w : Word) :
    s.broadcast (0xF000000 + (BitVec.ofNat 24 (GLIDE_PARAM 0 k)).toNat) w = s.each tiles fun u t => u.setReg (GLIDE_PARAM (1 + t) k) w := by
  have haddr : (BitVec.ofNat 24 (GLIDE_PARAM 0 k)).toNat = GLIDE_PARAM 0 k := by
    rw [BitVec.toNat_ofNat]
    exact Nat.mod_eq_of_lt (by simp only [GLIDE_PARAM]; omega)
  have hblock : blockOf (0xF000000 + GLIDE_PARAM 0 k) = 1 := by simp only [blockOf, GLIDE_PARAM]; omega
  have htile : ∀ t, (1 + t) * 0x1000000 + (0xF000000 + GLIDE_PARAM 0 k) % 0x1000000 = GLIDE_PARAM (1 + t) k := by
    intro t
    simp only [GLIDE_PARAM]
    omega
  rw [State.broadcast, haddr, hblock, if_neg (by simp [tileRegs, tileBlock01])]
  simp only [htile]
  exact State.each_linkWrite_glideParam hk w tiles (by simp [tiles]) hstruck hans

theorem State.reg_each_setReg_glideParam (s : State) {t : Nat} (ht : t < 4) (k : Nat) (w : Word) :
    (s.each tiles fun u t => u.setReg (GLIDE_PARAM (1 + t) k) w).reg (GLIDE_PARAM (1 + t) k) = w := by
  have hall : t = 0 ∨ t = 1 ∨ t = 2 ∨ t = 3 := by omega
  simp only [tiles, State.each_cons, State.each_nil, State.reg_setReg]
  rcases hall with rfl | rfl | rfl | rfl <;> simp

/-! ### The statement -/

/-- Settles O1: each access is traced to an access error, or to the write of a parameter register. -/
theorem registerAccess : Obligations.RegisterAccess := by
  intro s
  refine ⟨?discarded, ?unanswered, ?read, ?tileAll, ?noBlock, ?param⟩
  case discarded =>
    intro a w bytes lat ofs raced h
    have hwrite := State.hostWrite_discarded (s := { s with racing := raced }) h w lat ofs
    refine .of_done (exec_registerWrite ..) ⟨Frame.settle (Frame.withRace ?_), ?_⟩
    · rw [hwrite]
      exact (Frame.refl ..).accessError
    · rw [State.stored_settle, State.stored_withRace, hwrite]
      exact State.stored_accessError _
  case unanswered =>
    intro a w bytes lat ofs raced hdie hans
    obtain ⟨x, hwrite⟩ := State.hostWrite_unanswered (s := { s with racing := raced }) hdie hans w bytes lat ofs
    have hrun : s.withRace raced (fun u => u.hostWrite a w bytes lat ofs) = ({ s with struck := x } : State).withRace raced State.accessError :=
      congrArg (fun u : State => { u with racing := s.racing }) hwrite
    refine .of_done (exec_registerWrite ..) ?_
    rw [hrun]
    have hframe := (Frame.withRace (s := { s with struck := x }) (raced := raced) (Frame.refl [] _).accessError).settle
    exact ⟨hframe.keeps_of_struck, (State.stored_settle ..).trans (State.stored_accessError _)⟩
  case read =>
    intro a hdie hans
    have hread : s.unoccupiedRead a.toNat = { s.accessError with reply := 0 } := if_pos ⟨hdie, by simp [hans]⟩
    refine .of_done (exec_unoccupiedRead ..) ?_
    rw [hread]
    exact s.read_discarded
  case tileAll =>
    intro ofs
    exact .of_done (exec_tileAllRead ..) s.read_discarded
  case noBlock =>
    intro ofs w h
    refine .of_done (exec_broadcastWrite ..) ?_
    rw [State.broadcast_no_block h]
    exact ⟨(Frame.refl [] s).accessError.settle, (State.stored_settle ..).trans s.stored_accessError⟩
  case param =>
    intro hstruck k w
    refine ⟨fun p hans lat ofs raced => ?_, fun hans => ?_⟩
    · have hwrite := State.hostWrite_glideParam (s := { s with racing := raced }) hstruck p.2 k.2 hans w lat ofs
      refine .of_done (exec_registerWrite ..) ⟨?_, Frame.settle (Frame.withRace ?_)⟩
      · rw [State.reg_settle, State.reg_withRace, hwrite, State.reg_setReg_same]
      · rw [hwrite]
        exact (Frame.refl ..).setReg _ w (List.mem_singleton_self _)
    · refine .of_done (exec_broadcastWrite ..) ?_
      rw [State.broadcast_glideParam hstruck k.2 fun t ht => hans ⟨t, ht⟩]
      refine ⟨fun p => ?_, Frame.settle ?_⟩
      · rw [State.reg_settle]
        exact s.reg_each_setReg_glideParam p.2 k w
      · exact ((((Frame.refl _ s).setReg _ w (by simp)).setReg _ w (by simp)).setReg _ w (by simp)).setReg _ w (by simp)

end Sys2Proof.Machine
end

section
/-!
PROOFS. Events and ports (chapters 21 and 22): the model takes a register that holds no counter flags for a CNT_FLAGS register (R471).
-/
namespace Sys2Proof.Machine
open Reg F

theorem exec_counterFlagClear (a : BitVec 28) (w raced : Word) (s : State) : exec (.counterFlagClear a w raced) s =
    done (if isCntFlags a.toNat then s.guarded a.toNat fun u => u.withRace raced fun u => u.flagsWrite a.toNat w else s) := rfl

/-- COUNTER_FLAG_CLEAR of a flag register that answers is a write of its flags. -/
theorem exec_counterFlagClear_of {a : BitVec 28} {s : State} (hflags : isCntFlags a.toNat = true) (hans : s.answers a.toNat = true)
    (w raced : Word) : exec (.counterFlagClear a w raced) s = done (s.withRace raced fun u => u.flagsWrite a.toNat w) := by
  rw [exec_counterFlagClear, if_pos hflags, State.guarded_of hans]

/-- The high half of the peer address of port 7 (FH_PEER_HI_7, Table 10-14), as a device address. -/
def peerHi7 : BitVec 28 := BitVec.ofNat 28 (MAC_FH_PEER_HI 7)

/-- The device in Configure, its registers at their reset values. -/
def inConfigure : State := { mode := .configure }

/-- It lies where `flagCounter` looks for the CNT_FLAGS registers of the MAC's ports (block 0x03, below the fronthaul's counters, at 0x3C modulo 64);
its bit 0 is taken for the flag of a counter at FH_PEER_LO_4. -/
theorem flagCounter_peerHi7 : flagCounter peerHi7.toNat 0 = some (MAC_FH_PEER_LO 4, ⟨0, 32⟩) := by decide +kernel

theorem isCntFlags_peerHi7 : isCntFlags peerHi7.toNat = true := by simp [isCntFlags, flagCounter_peerHi7]

theorem answers_peerHi7 : inConfigure.answers peerHi7.toNat = true := by decide +kernel

/-- Its bits are RW: one written 1 reads 1. -/
theorem reg_flagsWrite_peerHi7 :
    ((inConfigure.withRace 0 fun u => u.flagsWrite peerHi7.toNat 1).reg peerHi7.toNat).getLsbD 0 = true := by decide +kernel

/-- Refutes O55: `isCntFlags` holds of FH_PEER_HI_7 (address 0x3107C), and COUNTER_FLAG_CLEAR there with data 1 sets bit 0 of that RW register where
the statement says that the bit written 1 clears. -/
theorem not_eventsAndPorts : ¬ Obligations.EventsAndPorts := by
  intro h
  obtain ⟨hhive, -⟩ := h
  obtain ⟨-, -, -, hclear, -⟩ := hhive inConfigure
  obtain ⟨t, hrun, hbits, -⟩ := hclear peerHi7 1 0 isCntFlags_peerHi7 answers_peerHi7
  obtain ⟨-, hbit⟩ := hbits 0 (by decide) (by decide) _ _ flagCounter_peerHi7 (by decide)
  rw [exec_counterFlagClear_of isCntFlags_peerHi7 answers_peerHi7] at hrun
  obtain rfl := Host.Outcome.next.inj hrun
  rw [State.reg_settle, reg_flagsWrite_peerHi7] at hbit
  simp at hbit

end Sys2Proof.Machine
end

section
/-!
PROOFS. The mode, under every operation that no change of mode, trigger of a start or entry to Standby runs through: it stays.
-/
namespace Sys2Proof.Machine
open Reg F

/-! ### What a step may do to the mode -/

/-- From `s` to `t` the mode stays, or is `m` at the end. -/
def State.StaysOr (s : State) (m : Mode) (t : State) : Prop := t.mode = s.mode ∨ t.mode = m

section
variable {s t u : State} {m : Mode}
theorem State.StaysOr.refl (s : State) (m : Mode) : s.StaysOr m s := .inl rfl
theorem State.StaysOr.stays (h : t.mode = s.mode) : s.StaysOr m t := .inl h
theorem State.StaysOr.moves (h : t.mode = m) : s.StaysOr m t := .inr h
/-- What keeps the mode may stand before. -/
theorem State.StaysOr.after (hu : u.mode = s.mode) (h : u.StaysOr m t) : s.StaysOr m t := h.imp_left (·.trans hu)
/-- What keeps the mode may follow. -/
theorem State.StaysOr.next (h : s.StaysOr m u) (ht : t.mode = u.mode) : s.StaysOr m t := h.imp ht.trans ht.trans
theorem State.StaysOr.ite {c : Prop} [Decidable c] (ht : c → s.StaysOr m t) (hu : ¬ c → s.StaysOr m u) : s.StaysOr m (if c then t else u) := by
  split
  · exact ht ‹_›
  · exact hu ‹_›
end

/-! ### Branches and repetitions, as rules of simp -/

@[simp] theorem State.mode_ite (c : Prop) [Decidable c] (a b : State) : (if c then a else b).mode = if c then a.mode else b.mode :=
  State.ite_mode c a b
@[simp] theorem State.mode_each {α : Type} (s : State) (l : List α) (f : State → α → State) (h : ∀ s x, (f s x).mode = s.mode) :
    (s.each l f).mode = s.mode := s.each_mode l f h
@[simp] theorem State.mode_foldl {α : Type} (l : List α) (f : State → α → State) (s : State) (h : ∀ s x, (f s x).mode = s.mode) :
    (l.foldl f s).mode = s.mode := s.each_mode l f h
@[simp] theorem State.mode_foldl_fst {α β : Type} (l : List α) (f : State × β → α → State × β) (x : State × β)
    (h : ∀ x a, (f x a).1.mode = x.1.mode) : (l.foldl f x).1.mode = x.1.mode := by
  induction l generalizing x with
  | nil => rfl
  | cons a l ih => exact (ih _).trans (h x a)

variable (s : State)

/-! ### Elements of the arrays -/

@[simp] theorem State.setTxSym_mode (k : Nat) (x : TxSymbol) : (s.setTxSym k x).mode = s.mode := by simp [State.setTxSym]
@[simp] theorem State.modTxSym_mode (k : Nat) (f : TxSymbol → TxSymbol) : (s.modTxSym k f).mode = s.mode := by simp [State.modTxSym]
@[simp] theorem State.setStepPin_mode (k : Nat) (x : StepPin) : (s.setStepPin k x).mode = s.mode := by simp [State.setStepPin]
@[simp] theorem State.modStepPin_mode (k : Nat) (f : StepPin → StepPin) : (s.modStepPin k f).mode = s.mode := by simp [State.modStepPin]
@[simp] theorem State.setAdcCorr_mode (k : Nat) (x : Option (List Int)) : (s.setAdcCorr k x).mode = s.mode := by simp [State.setAdcCorr]
@[simp] theorem State.setAdcAt_mode (k x : Nat) : (s.setAdcAt k x).mode = s.mode := by simp [State.setAdcAt]
@[simp] theorem State.setCap_mode (k : Nat) (x : Capture) : (s.setCap k x).mode = s.mode := by simp [State.setCap]
@[simp] theorem State.setWeight_mode (k : Nat) (x : Word) : (s.setWeight k x).mode = s.mode := by simp [State.setWeight]
@[simp] theorem State.setBeam_mode (k : Nat) (x : Option BeamSlot) : (s.setBeam k x).mode = s.mode := by simp [State.setBeam]
@[simp] theorem State.setTlBeam_mode (k : Nat) (x : BitVec 15) : (s.setTlBeam k x).mode = s.mode := by simp [State.setTlBeam]
@[simp] theorem State.setLayerWord_mode (k : Nat) (x : Option Word) : (s.setLayerWord k x).mode = s.mode := by simp [State.setLayerWord]
@[simp] theorem State.setPathWord_mode (k : Nat) (x : Option Word) : (s.setPathWord k x).mode = s.mode := by simp [State.setPathWord]
@[simp] theorem State.setPathMark_mode (k : Nat) (x : Option Bool) : (s.setPathMark k x).mode = s.mode := by simp [State.setPathMark]
@[simp] theorem State.setFlow_mode (k : Nat) (x : Option Flow) : (s.setFlow k x).mode = s.mode := by simp [State.setFlow]
@[simp] theorem State.setSfseq_mode (k x : Nat) : (s.setSfseq k x).mode = s.mode := by simp [State.setSfseq]
@[simp] theorem State.setDpdEntry_mode (k : Nat) (x : Word) : (s.setDpdEntry k x).mode = s.mode := by simp [State.setDpdEntry]
@[simp] theorem State.setDpdSel_mode (k : Nat) (x : Bool) : (s.setDpdSel k x).mode = s.mode := by simp [State.setDpdSel]
@[simp] theorem State.setDpdSwapAt_mode (k x : Nat) : (s.setDpdSwapAt k x).mode = s.mode := by simp [State.setDpdSwapAt]
@[simp] theorem State.setCoef_mode (k : Nat) (x : Word) : (s.setCoef k x).mode = s.mode := by simp [State.setCoef]
@[simp] theorem State.setTxRf_mode (k : Nat) (x : BitVec 48) : (s.setTxRf k x).mode = s.mode := by simp [State.setTxRf]
@[simp] theorem State.setRxRf_mode (k : Nat) (x : BitVec 48) : (s.setRxRf k x).mode = s.mode := by simp [State.setRxRf]
@[simp] theorem State.setOrigin_mode (k : Nat) (x : Int) : (s.setOrigin k x).mode = s.mode := by simp [State.setOrigin]
@[simp] theorem State.modDramPort_mode (k : Nat) (f : DramPort → DramPort) : (s.modDramPort k f).mode = s.mode := by simp [State.modDramPort]
@[simp] theorem State.setAligningTo_mode (k : Nat) (x : Option Nat) : (s.setAligningTo k x).mode = s.mode := by simp [State.setAligningTo]
@[simp] theorem State.setTa_mode (k : Nat) (x : BitVec 64) : (s.setTa k x).mode = s.mode := by simp [State.setTa]
@[simp] theorem State.setTaHi_mode (k : Nat) (x : Word) : (s.setTaHi k x).mode = s.mode := by simp [State.setTaHi]
@[simp] theorem State.setTxWord_mode (k : Nat) (x : Option Word) : (s.setTxWord k x).mode = s.mode := by simp [State.setTxWord]
@[simp] theorem State.setCuRun_mode (k : Nat) (x : BitVec 64) : (s.setCuRun k x).mode = s.mode := by simp [State.setCuRun]
@[simp] theorem State.modCuRun_mode (k : Nat) (f : BitVec 64 → BitVec 64) : (s.modCuRun k f).mode = s.mode := by simp [State.modCuRun]
@[simp] theorem State.setCuLo_mode (k : Nat) (x : Word) : (s.setCuLo k x).mode = s.mode := by simp [State.setCuLo]
@[simp] theorem State.setDlyRes_mode (k : Nat) (x : DlyRes) : (s.setDlyRes k x).mode = s.mode := by simp [State.setDlyRes]
@[simp] theorem State.modDlyRes_mode (k : Nat) (f : DlyRes → DlyRes) : (s.modDlyRes k f).mode = s.mode := by simp [State.modDlyRes]
@[simp] theorem State.setBufWord_mode (k : Nat) (x : Word) : (s.setBufWord k x).mode = s.mode := by simp [State.setBufWord]
@[simp] theorem State.setFlashByte_mode (k : Nat) (x : Byte) : (s.setFlashByte k x).mode = s.mode := by simp [State.setFlashByte]
@[simp] theorem State.setImage_mode (k : Nat) (x : Option Image) : (s.setImage k x).mode = s.mode := by simp [State.setImage]
@[simp] theorem State.setPtp_mode (k : Nat) (x : Word) : (s.setPtp k x).mode = s.mode := by simp [State.setPtp]
@[simp] theorem State.setHkAcc_mode (k : Nat) (x : Nat × Int) : (s.setHkAcc k x).mode = s.mode := by simp [State.setHkAcc]
@[simp] theorem State.setHkAt_mode (k x : Nat) : (s.setHkAt k x).mode = s.mode := by simp [State.setHkAt]
@[simp] theorem State.setDiode_mode (k : Nat) (x : Diode) : (s.setDiode k x).mode = s.mode := by simp [State.setDiode]
@[simp] theorem State.modDiode_mode (k : Nat) (f : Diode → Diode) : (s.modDiode k f).mode = s.mode := by simp [State.modDiode]
@[simp] theorem State.setThrRun_mode (k x : Nat) : (s.setThrRun k x).mode = s.mode := by simp [State.setThrRun]
@[simp] theorem State.setMon_mode (k : Nat) (x : Word) : (s.setMon k x).mode = s.mode := by simp [State.setMon]
@[simp] theorem State.setStress_mode (k : Nat) (x : List (Nat × Nat)) : (s.setStress k x).mode = s.mode := by simp [State.setStress]
@[simp] theorem State.modStress_mode (k : Nat) (f : List (Nat × Nat) → List (Nat × Nat)) : (s.modStress k f).mode = s.mode := by
  simp [State.modStress]
@[simp] theorem State.setPmemWord_mode (k : Nat) (x : BitVec 64) : (s.setPmemWord k x).mode = s.mode := by simp [State.setPmemWord]
@[simp] theorem State.setScChan_mode (k : Nat) (x : Chan) : (s.setScChan k x).mode = s.mode := by simp [State.setScChan]
@[simp] theorem State.modScChan_mode (k : Nat) (f : Chan → Chan) : (s.modScChan k f).mode = s.mode := by simp [State.modScChan]

/-! ### Shared operations -/

@[simp] theorem State.advanceTb_mode (t : Nat) : (s.advanceTb t).mode = s.mode := by simp [State.advanceTb]
@[simp] theorem State.withRace_mode (raced : Word) (f : State → State) (hf : ∀ u, (f u).mode = u.mode) : (s.withRace raced f).mode = s.mode := by
  simp [State.withRace, hf]
@[simp] theorem State.plainWrite_mode (a : Nat) (w : Word) : (s.plainWrite a w).mode = s.mode := by
  unfold State.plainWrite
  split <;> simp

/-! ### Judging of MSI vectors (R469) -/

@[simp] theorem State.sendMsi_mode (v : Nat) : (s.sendMsi v).mode = s.mode := by simp [State.sendMsi]

/-! ### Register access and numerology (R8 to R12, R74) -/

@[simp] theorem State.guarded_mode (a : Nat) (f : State → State) (hf : ∀ u, (f u).mode = u.mode) : (s.guarded a f).mode = s.mode := by
  simp [State.guarded, hf]
@[simp] theorem State.configOnly_mode (f : State → State) (hf : ∀ u, (f u).mode = u.mode) : (s.configOnly f).mode = s.mode := by
  simp [State.configOnly, hf]
@[simp] theorem State.guardedRead_mode (a : Nat) (f : State → State) (hf : ∀ u, (f u).mode = u.mode) : (s.guardedRead a f).mode = s.mode := by
  simp [State.guardedRead, hf]

/-! ### Chains: runs, gates, retuning -/

@[simp] theorem State.markTx_mode (t i c T len : Nat) : (s.markTx t i c T len).mode = s.mode := by simp [State.markTx]
@[simp] theorem State.markRx_mode (t i c T len : Nat) : (s.markRx t i c T len).mode = s.mode := by simp [State.markRx]
@[simp] theorem State.settleTx_mode (t i c T : Nat) : (s.settleTx t i c T).mode = s.mode := by simp [State.settleTx]
@[simp] theorem State.settleRx_mode (t i c T : Nat) : (s.settleRx t i c T).mode = s.mode := by simp [State.settleRx]
@[simp] theorem State.recheckTx_mode (t : Nat) : (s.recheckTx t).mode = s.mode := by simp [State.recheckTx]
@[simp] theorem State.showRefCar_mode (t : Nat) : (s.showRefCar t).mode = s.mode := by
  unfold State.showRefCar
  split <;> simp
@[simp] theorem State.recheckRx_mode (t : Nat) : (s.recheckRx t).mode = s.mode := by simp [State.recheckRx]
@[simp] theorem State.calHit_mode (t i : Nat) (sel : Burst → Bool) : (s.calHit t i sel).mode = s.mode := by simp [State.calHit]
@[simp] theorem State.openTxGate_mode (t i c : Nat) : (s.openTxGate t i c).mode = s.mode := by simp [State.openTxGate]
@[simp] theorem State.openRxGate_mode (t i c : Nat) : (s.openRxGate t i c).mode = s.mode := by simp [State.openRxGate]
@[simp] theorem State.tuneTx_mode (t i c : Nat) (tw : BitVec 48) : (s.tuneTx t i c tw).mode = s.mode := by simp [State.tuneTx]
@[simp] theorem State.tuneRx_mode (t i c : Nat) (tw : BitVec 48) : (s.tuneRx t i c tw).mode = s.mode := by simp [State.tuneRx]
@[simp] theorem State.filterTx_mode (t i c : Nat) (resp : BitVec 4) (ratio : BitVec 12) : (s.filterTx t i c resp ratio).mode = s.mode := by
  simp [State.filterTx]
@[simp] theorem State.filterRx_mode (t i c : Nat) (resp : BitVec 4) (ratio : BitVec 12) : (s.filterRx t i c resp ratio).mode = s.mode := by
  simp [State.filterRx]
@[simp] theorem State.setZone_mode (t i : Nat) (z : Bool) : (s.setZone t i z).mode = s.mode := by simp [State.setZone]
@[simp] theorem State.sendCode_mode (t i : Nat) (code : BitVec 6) : (s.sendCode t i code).mode = s.mode := by simp [State.sendCode]
@[simp] theorem State.markStep_mode (t i c T : Nat) : (s.markStep t i c T).mode = s.mode := by simp [State.markStep]
@[simp] theorem State.markSteps_mode (t i T : Nat) : (s.markSteps t i T).mode = s.mode := by simp [State.markSteps]
@[simp] theorem State.stepNow_mode (t i : Nat) (code : BitVec 6) : (s.stepNow t i code).mode = s.mode := by simp [State.stepNow]
@[simp] theorem State.stepArm_mode (t i : Nat) (code : BitVec 6) (byAgc : Bool) (B : Nat) (proc : optParam Nat 6) :
    (s.stepArm t i code byAgc B proc).mode = s.mode := by simp [State.stepArm]
@[simp] theorem State.stepApply_mode (t i : Nat) (code : BitVec 6) : (s.stepApply t i code).mode = s.mode := by simp [State.stepApply]
@[simp] theorem State.setTrim_mode (t i : Nat) (v : BitVec 16) : (s.setTrim t i v).mode = s.mode := by simp [State.setTrim]

/-! ### Dragonfly -/

@[simp] theorem State.moveSwitch_mode (t r : Nat) (input : Nat × Nat) : (s.moveSwitch t r input).mode = s.mode := by simp [State.moveSwitch]

/-! ### DRAM (chapter 15) -/

@[simp] theorem State.initChan_mode (c : Nat) : (s.initChan c).mode = s.mode := by simp [State.initChan]
@[simp] theorem State.openRow_mode (c a random : Nat) : (s.openRow c a random).mode = s.mode := by simp [State.openRow]
@[simp] theorem State.portRequest_mode (p : Nat) (write : Bool) (a : Nat) (bs : List Byte) : (s.portRequest p write a bs).mode = s.mode := by
  simp [State.portRequest]
@[simp] theorem State.portRefill_mode (p : Nat) : (s.portRefill p).mode = s.mode := by
  unfold State.portRefill
  split <;> simp
@[simp] theorem State.servePort_mode (p : Nat) : (s.servePort p).mode = s.mode := by simp [State.servePort]
@[simp] theorem State.perform_mode (p : Nat) (r : DramReq) : (s.perform p r).mode = s.mode := by simp [State.perform]
@[simp] theorem State.servePortNext_mode (c p random : Nat) : (s.servePortNext c p random).mode = s.mode := by
  unfold State.servePortNext
  split <;> simp
@[simp] theorem State.drainPort_mode (p c : Nat) : (s.drainPort p c).mode = s.mode := by simp [State.drainPort]
@[simp] theorem State.portAccess_mode (p : Nat) (rs : List DramReq) : (s.portAccess p rs).mode = s.mode := by simp [State.portAccess]
@[simp] theorem State.bulkRead_mode (p a n : Nat) : (s.bulkRead p a n).1.mode = s.mode := by
  unfold State.bulkRead
  split <;> simp
@[simp] theorem State.bulkWrite_mode (p a : Nat) (bs : List Byte) : (s.bulkWrite p a bs).mode = s.mode := by simp [State.bulkWrite]
@[simp] theorem State.commandSlot_mode (c : Nat) (w : DramSlot) : (s.commandSlot c w).mode = s.mode := by
  unfold State.commandSlot
  (repeat' split) <;> simp
@[simp] theorem State.refreshInterval_mode (c : Nat) : (s.refreshInterval c).mode = s.mode := by simp [State.refreshInterval]
@[simp] theorem State.pageIdleClose_mode (c bank : Nat) : (s.pageIdleClose c bank).mode = s.mode := by
  unfold State.pageIdleClose
  split <;> simp
@[simp] theorem State.trainStart_mode (c : Nat) (sweep host : Bool) : (s.trainStart c sweep host).mode = s.mode := by simp [State.trainStart]
@[simp] theorem State.dramCmd_mode (sweep : Bool) (mask : Nat) : (s.dramCmd sweep mask).mode = s.mode := by simp [State.dramCmd]
@[simp] theorem State.storeDelays_mode : s.storeDelays.mode = s.mode := by simp [State.storeDelays]
@[simp] theorem State.delaysFound_mode (ds : List (Nat × Word)) : (s.delaysFound ds).mode = s.mode := by simp [State.delaysFound]
@[simp] theorem State.sweepEnd_mode (c : Nat) (read write : List (BitVec 256)) (pick : Nat) :
    (s.sweepEnd c read write pick).mode = s.mode := by
  have hset : ∀ (v : State) (ds : List (Nat × Word)), (v.each ds fun v x => v.setReg x.1 x.2).mode = v.mode :=
    fun v ds => v.each_mode ds _ fun _ _ => State.setReg_mode _ _ _
  unfold State.sweepEnd
  extract_lets rd wr width wins u v ds
  have hwins : wins.mode = s.mode := (State.setReg_mode _ _ _).trans (State.setReg_mode _ _ _)
  clear_value wins
  have hv : v.mode = s.mode := by simp [v, u, hwins]
  clear_value v
  split
  · rw [State.raise_mode, State.setChan_mode, State.delaysFound_mode, hset, hv]
  · rw [State.raise_mode, State.raise_mode, State.setChan_mode, State.dramLose_mode, hv]
@[simp] theorem State.trainingEnd_mode (c : Nat) (read write : List (BitVec 256)) (pick after : Nat) :
    (s.trainingEnd c read write pick after).mode = s.mode := by simp [State.trainingEnd]
@[simp] theorem State.dramInitDone_mode (c : Nat) : (s.dramInitDone c).mode = s.mode := by simp [State.dramInitDone]
@[simp] theorem State.dramLocked_mode : s.dramLocked.mode = s.mode := by simp [State.dramLocked]
@[simp] theorem State.dramUnlock_mode : s.dramUnlock.mode = s.mode := by simp [State.dramUnlock]
@[simp] theorem State.dramCfgWrite_mode (w : Word) : (s.dramCfgWrite w).mode = s.mode := by simp [State.dramCfgWrite]
@[simp] theorem State.storeError_mode (store : Nat) (fatal : Bool) (word : Nat) : (s.storeError store fatal word).mode = s.mode := by
  simp [State.storeError]
@[simp] theorem State.winAdvance_mode : s.winAdvance.mode = s.mode := by simp [State.winAdvance]
@[simp] theorem State.winRead_mode : s.winRead.mode = s.mode := by
  unfold State.winRead
  (repeat' split) <;> simp
@[simp] theorem State.winWrite_mode (w : Word) : (s.winWrite w).mode = s.mode := by
  unfold State.winWrite
  (repeat' split) <;> simp

/-! ### Captures -/

@[simp] theorem State.capSymbols_mode (t : Nat) : (s.capSymbols t).mode = s.mode := by simp [State.capSymbols]
@[simp] theorem State.rejectCapture_mode (t d : Nat) : (s.rejectCapture t d).mode = s.mode := by simp [State.rejectCapture]
@[simp] theorem State.beginCapture_mode (t d : Nat) (k : Capture) : (s.beginCapture t d k).mode = s.mode := by simp [State.beginCapture]
@[simp] theorem State.beginTraining_mode (t r pidx : Nat) : (s.beginTraining t r pidx).1.mode = s.mode := by
  unfold State.beginTraining
  dsimp only
  (repeat' split) <;> simp
@[simp] theorem State.beginDfly_mode (t d : Nat) (k : Capture) : (s.beginDfly t d k).mode = s.mode := by
  unfold State.beginDfly
  (repeat' split) <;> simp
@[simp] theorem State.granule_mode (t d : Nat) : (s.granule t d).mode = s.mode := by
  unfold State.granule
  dsimp only
  split
  · rfl
  · split
    · rfl
    · split
      · simp
      · next h =>
        (repeat' split) <;> simp [State.takeGranule_mode h]
@[simp] theorem State.captAt_mode (t src pidx d len : Nat) : (s.captAt t src pidx d len).mode = s.mode := by simp [State.captAt]
@[simp] theorem State.armCapture_mode (t d len : Nat) : (s.armCapture t d len).mode = s.mode := by simp [State.armCapture]

/-! ### Transmit path (chapter 3) -/

@[simp] theorem State.txRfHi_mode (t : Nat) (w : Word) : (s.txRfHi t w).mode = s.mode := by simp [State.txRfHi]
@[simp] theorem State.txNcoHi_mode (t : Nat) (w : Word) : (s.txNcoHi t w).mode = s.mode := by simp [State.txNcoHi]
@[simp] theorem State.txFilt_mode (t : Nat) (w : Word) : (s.txFilt t w).mode = s.mode := by simp [State.txFilt]
@[simp] theorem State.txTrimArm_mode (t pmask : Nat) : (s.txTrimArm t pmask).mode = s.mode := by simp [State.txTrimArm]
@[simp] theorem State.rxTrimArm_mode (t pmask : Nat) : (s.rxTrimArm t pmask).mode = s.mode := by simp [State.rxTrimArm]
@[simp] theorem State.txGainWrite_mode (t i : Nat) (w : Word) : (s.txGainWrite t i w).mode = s.mode := by simp [State.txGainWrite]
@[simp] theorem State.txTrimApply_mode (t : Nat) : (s.txTrimApply t).mode = s.mode := by
  unfold State.txTrimApply
  split <;> simp
@[simp] theorem State.rxTrimApply_mode (t : Nat) : (s.rxTrimApply t).mode = s.mode := by
  unfold State.rxTrimApply
  split <;> simp
@[simp] theorem State.markSymbol_mode (t i c sym : Nat) : (s.markSymbol t i c sym).mode = s.mode := by simp [State.markSymbol]
@[simp] theorem State.countClips_mode (t c sym : Nat) : (s.countClips t c sym).mode = s.mode := by simp [State.countClips]
@[simp] theorem State.symbolDeadline_mode (t c : Nat) : (s.symbolDeadline t c).mode = s.mode := by simp [State.symbolDeadline]
@[simp] theorem State.gateDac_mode (t i : Nat) : (s.gateDac t i).mode = s.mode := by simp [State.gateDac]
@[simp] theorem State.dacGateIdle_mode (t i : Nat) : (s.dacGateIdle t i).mode = s.mode := by simp [State.dacGateIdle]
@[simp] theorem State.txCtrl_mode (t : Nat) (w : Word) : (s.txCtrl t w).mode = s.mode := by simp [State.txCtrl]
@[simp] theorem State.patgen_mode (t : Nat) (w : Word) : (s.patgen t w).mode = s.mode := by simp [State.patgen]

/-! ### Receive path (chapter 4) -/

@[simp] theorem State.rxRfHi_mode (t : Nat) (w : Word) : (s.rxRfHi t w).mode = s.mode := by simp [State.rxRfHi]
@[simp] theorem State.rxNcoHi_mode (t : Nat) (w : Word) : (s.rxNcoHi t w).mode = s.mode := by simp [State.rxNcoHi]
@[simp] theorem State.rxFilt_mode (t : Nat) (w : Word) : (s.rxFilt t w).mode = s.mode := by simp [State.rxFilt]
@[simp] theorem State.rxZone_mode (t : Nat) (w : Word) : (s.rxZone t w).mode = s.mode := by simp [State.rxZone]
@[simp] theorem State.carConfig_mode (a t : Nat) (rx : Bool) (w : Word) : (s.carConfig a t rx w).mode = s.mode := by simp [State.carConfig]
@[simp] theorem State.showPower_mode (a blk sum n avg full : Nat) : (s.showPower a blk sum n avg full).mode = s.mode := by simp [State.showPower]
@[simp] theorem State.wideBlock_mode (t i : Nat) : (s.wideBlock t i).mode = s.mode := by
  unfold State.wideBlock
  dsimp only
  (repeat' split) <;> simp
@[simp] theorem State.carrierBlock_mode (t i : Nat) : (s.carrierBlock t i).mode = s.mode := by
  unfold State.carrierBlock
  dsimp only
  (repeat' split) <;> simp
@[simp] theorem State.powerBlock_mode (t i : Nat) (wide : Bool) : (s.powerBlock t i wide).mode = s.mode := by simp [State.powerBlock]
@[simp] theorem State.pmCfg_mode (t : Nat) (w : Word) : (s.pmCfg t w).mode = s.mode := by simp [State.pmCfg]
@[simp] theorem State.wpdCfg_mode (t : Nat) (w : Word) : (s.wpdCfg t w).mode = s.mode := by simp [State.wpdCfg]
@[simp] theorem State.gainNow_mode (t i : Nat) (code : BitVec 6) : (s.gainNow t i code).mode = s.mode := by simp [State.gainNow]
@[simp] theorem State.gainSync_mode (t : Nat) (pmask : BitVec 16) (code : BitVec 6) (proc : Nat) : (s.gainSync t pmask code proc).mode = s.mode := by
  unfold State.gainSync
  split <;> simp
@[simp] theorem State.gainApply_mode (t i : Nat) : (s.gainApply t i).mode = s.mode := by
  unfold State.gainApply
  split <;> simp
@[simp] theorem State.agcDecision_mode (t i : Nat) : (s.agcDecision t i).mode = s.mode := by
  unfold State.agcDecision
  dsimp only
  (repeat' split) <;> simp
@[simp] theorem State.rxDeliver_mode (t i c sym : Nat) : (s.rxDeliver t i c sym).mode = s.mode := by
  unfold State.rxDeliver
  dsimp only
  (repeat' split) <;> simp

/-! ### Front end (chapter 8) -/

@[simp] theorem State.setCode_mode (t i v : Nat) : (s.setCode t i v).mode = s.mode := by simp [State.setCode]
@[simp] theorem State.enterDrive_mode (t i : Nat) : (s.enterDrive t i).mode = s.mode := by simp [State.enterDrive]
@[simp] theorem State.judgeQuad_mode (t q : Nat) : (s.judgeQuad t q).mode = s.mode := by simp [State.judgeQuad]
@[simp] theorem State.startQuad_mode (t q : Nat) : (s.startQuad t q).mode = s.mode := by simp [State.startQuad]
@[simp] theorem State.handleGates_mode (t q : Nat) : (s.handleGates t q).mode = s.mode := by simp [State.handleGates]
@[simp] theorem State.seqRefused_mode (t ev : Nat) : (s.seqRefused t ev).mode = s.mode := by simp [State.seqRefused]
@[simp] theorem State.powerUp_mode (t : Nat) (qmask : BitVec 4) : (s.powerUp t qmask).mode = s.mode := by simp [State.powerUp]
@[simp] theorem State.clearFault_mode (t : Nat) (qmask : BitVec 4) : (s.clearFault t qmask).mode = s.mode := by simp [State.clearFault]
@[simp] theorem State.paen_mode (t : Nat) (v q : Bool) (qmask : BitVec 4) (pmask : BitVec 16) : (s.paen t v q qmask pmask).mode = s.mode := by
  simp [State.paen]
@[simp] theorem State.atSeq_mode (t q st : Nat) (f : State → State) (hf : ∀ u, (f u).mode = u.mode) : (s.atSeq t q st f).mode = s.mode := by
  unfold State.atSeq
  split <;> simp [hf]
@[simp] theorem State.seeGates_mode (t : Nat) : (s.seeGates t).mode = s.mode := by simp [State.seeGates]
@[simp] theorem State.gateOk_mode (t q : Nat) (level : Bool) (ago : Nat) (brief : Bool) : (s.gateOk t q level ago brief).mode = s.mode := by
  simp [State.gateOk]
@[simp] theorem State.gateSettleEnd_mode (t q : Nat) : (s.gateSettleEnd t q).mode = s.mode := by simp [State.gateSettleEnd]
@[simp] theorem State.drainSettleEnd_mode (t q : Nat) : (s.drainSettleEnd t q).mode = s.mode := by simp [State.drainSettleEnd]
@[simp] theorem State.paoffEnd_mode (t q : Nat) : (s.paoffEnd t q).mode = s.mode := by simp [State.paoffEnd]
@[simp] theorem State.drainoffEnd_mode (t q : Nat) : (s.drainoffEnd t q).mode = s.mode := by simp [State.drainoffEnd]
@[simp] theorem State.gokTimeout_mode (t q : Nat) : (s.gokTimeout t q).mode = s.mode := by simp [State.gokTimeout]
@[simp] theorem State.faultEntry_mode (t q : Nat) : (s.faultEntry t q).mode = s.mode := by
  unfold State.faultEntry
  split <;> simp
@[simp] theorem State.seqCfg_mode (t q a : Nat) (w : Word) : (s.seqCfg t q a w).mode = s.mode := by simp [State.seqCfg]
@[simp] theorem State.seqCmd_mode (t : Nat) (w : Word) : (s.seqCmd t w).mode = s.mode := by
  unfold State.seqCmd
  split <;> simp
@[simp] theorem State.biasCfg_mode (t i : Nat) (w : Word) : (s.biasCfg t i w).mode = s.mode := by simp [State.biasCfg]
@[simp] theorem State.rangeChangeEnd_mode (t i : Nat) : (s.rangeChangeEnd t i).mode = s.mode := by simp [State.rangeChangeEnd]
@[simp] theorem State.biasCode_mode (t i : Nat) (w : Word) : (s.biasCode t i w).mode = s.mode := by simp [State.biasCode]
@[simp] theorem State.biasTick_mode (t i : Nat) : (s.biasTick t i).mode = s.mode := by
  unfold State.biasTick
  dsimp only
  (repeat' split) <;> simp
@[simp] theorem State.biasReadback_mode (t i : Nat) (reading : BitVec 12) : (s.biasReadback t i reading).mode = s.mode := by simp [State.biasReadback]
@[simp] theorem State.startFrame_mode (t q : Nat) (c : RffeCmd) (start : Nat) (due : Option Nat) : (s.startFrame t q c start due).mode = s.mode := by
  simp [State.startFrame]
@[simp] theorem State.timedStart_mode (t q : Nat) : (s.timedStart t q).mode = s.mode := by
  unfold State.timedStart
  dsimp only
  (repeat' split) <;> simp
@[simp] theorem State.rffeKick_mode (t q : Nat) : (s.rffeKick t q).mode = s.mode := by
  unfold State.rffeKick
  dsimp only
  (repeat' split) <;> simp
@[simp] theorem State.rffeAgain_mode (t q : Nat) : (s.rffeAgain t q).mode = s.mode := by simp [State.rffeAgain]
@[simp] theorem State.rffeMoved_mode (t : Nat) : (s.rffeMoved t).mode = s.mode := by simp [State.rffeMoved]
@[simp] theorem State.rffeCfg_mode (t q a : Nat) (w : Word) : (s.rffeCfg t q a w).mode = s.mode := by simp [State.rffeCfg]
@[simp] theorem State.rffeCmd_mode (t q : Nat) (c : RffeCmd) : (s.rffeCmd t q c).mode = s.mode := by simp [State.rffeCmd]
@[simp] theorem State.frameEnd_mode (t q : Nat) (f : RffeFrame) (data : Byte) (bad : Bool) : (s.frameEnd t q f data bad).mode = s.mode := by
  simp [State.frameEnd]
@[simp] theorem State.frameDone_mode (t q : Nat) (data : Byte) (bad : Bool) : (s.frameDone t q data bad).mode = s.mode := by
  unfold State.frameDone
  split <;> simp
@[simp] theorem State.rffeRead_mode (t q : Nat) : (s.rffeRead t q).mode = s.mode := by
  have hreply : ∀ (u : State) w, ({ u.rffeKick t q with reply := w } : State).mode = u.mode := by simp
  unfold State.rffeRead
  split
  · rfl
  · exact (hreply _ _).trans (State.modRffe_mode _ _ _)

/-! ### Predistortion (chapter 6) -/

@[simp] theorem State.tblAdvance_mode (t : Nat) : (s.tblAdvance t).mode = s.mode := by simp [State.tblAdvance]
@[simp] theorem State.tblRead_mode (t : Nat) : (s.tblRead t).mode = s.mode := by simp [State.tblRead]
@[simp] theorem State.tblWrite_mode (t : Nat) (v : Word) : (s.tblWrite t v).mode = s.mode := by simp [State.tblWrite]
@[simp] theorem State.writeTables_mode (path : Nat) (tables : List Nat) (f : Nat → Nat → Word) : (s.writeTables path tables f).mode = s.mode := by
  simp [State.writeTables]
@[simp] theorem State.swapArm_mode (t pmask : Nat) : (s.swapArm t pmask).mode = s.mode := by simp [State.swapArm]
@[simp] theorem State.swapsAfterFreeze_mode : s.swapsAfterFreeze.mode = s.mode := by simp [State.swapsAfterFreeze]
@[simp] theorem State.swapApply_mode (t : Nat) : (s.swapApply t).mode = s.mode := by
  unfold State.swapApply
  dsimp only
  (repeat' split) <;> simp
@[simp] theorem State.trainReady_mode (t r : Nat) : (s.trainReady t r).mode = s.mode := by
  unfold State.trainReady
  dsimp only
  (repeat' split) <;> simp
@[simp] theorem State.accumulationDone_mode : s.accumulationDone.mode = s.mode := by
  unfold State.accumulationDone
  split <;> simp
@[simp] theorem State.solveDone_mode : s.solveDone.mode = s.mode := by
  unfold State.solveDone
  dsimp only
  (repeat' split) <;> simp
@[simp] theorem State.tablesFromCoefs_mode (path : Nat) : (s.tablesFromCoefs path).mode = s.mode := by simp [State.tablesFromCoefs]
@[simp] theorem State.tableWriteDone_mode : s.tableWriteDone.mode = s.mode := by
  unfold State.tableWriteDone
  dsimp only
  split <;> simp
@[simp] theorem State.coefStart_mode (op path : Nat) : (s.coefStart op path).mode = s.mode := by simp [State.coefStart]
@[simp] theorem State.coefDone_mode : s.coefDone.mode = s.mode := by
  unfold State.coefDone
  dsimp only
  split <;> simp
@[simp] theorem State.coefAdvance_mode : s.coefAdvance.mode = s.mode := by simp [State.coefAdvance]
@[simp] theorem State.coefRead_mode : s.coefRead.mode = s.mode := by simp [State.coefRead]
@[simp] theorem State.coefWrite_mode (w : Word) : (s.coefWrite w).mode = s.mode := by simp [State.coefWrite]
@[simp] theorem State.coefAddr_mode (w : Word) : (s.coefAddr w).mode = s.mode := by simp [State.coefAddr]
@[simp] theorem State.hdpdCtrl_mode (w : Word) : (s.hdpdCtrl w).mode = s.mode := by simp [State.hdpdCtrl]
@[simp] theorem State.tdpdCtrl_mode (t : Nat) (w : Word) : (s.tdpdCtrl t w).mode = s.mode := by simp [State.tdpdCtrl]

/-! ### Calibration (chapter 7) -/

@[simp] theorem State.judgeImage_mode (t r : Nat) : (s.judgeImage t r).mode = s.mode := by simp [State.judgeImage]
@[simp] theorem State.dropImage_mode (t r : Nat) : (s.dropImage t r).mode = s.mode := by simp [State.dropImage]
@[simp] theorem State.imageResult_mode (t r : Nat) (rej : BitVec 8) (taps : List (Int × Int)) : (s.imageResult t r rej taps).mode = s.mode := by
  simp [State.imageResult]
@[simp] theorem State.dflyCtrl_mode (t : Nat) (w : Word) : (s.dflyCtrl t w).mode = s.mode := by simp [State.dflyCtrl]
@[simp] theorem State.adcCal_mode (t i : Nat) (corrections : List Int) (converged : Bool) : (s.adcCal t i corrections converged).mode = s.mode := by
  simp [State.adcCal]
@[simp] theorem State.dacCal_mode (t i : Nat) : (s.dacCal t i).mode = s.mode := by simp [State.dacCal]
@[simp] theorem State.dacBound_mode (t : Nat) : (s.dacBound t).mode = s.mode := by simp [State.dacBound]
@[simp] theorem State.burstAt_mode (t : Nat) (b : Burst) : (s.burstAt t b).mode = s.mode := by simp [State.burstAt]
@[simp] theorem State.burstStart_mode (t : Nat) : (s.burstStart t).mode = s.mode := by
  unfold State.burstStart
  split <;> simp
@[simp] theorem State.calStamp_mode (t kind : Nat) : (s.calStamp t kind).mode = s.mode := by simp [State.calStamp]
@[simp] theorem State.arrayResults_mode (t : Nat) (b : Burst) (tx : Bool) (ms : List CalMeas) : (s.arrayResults t b tx ms).mode = s.mode := by
  simp [State.arrayResults]
@[simp] theorem State.reciprocity_mode (t : Nat) (b : Burst) (tx rx : List CalMeas) : (s.reciprocity t b tx rx).mode = s.mode := by
  simp [State.reciprocity]
@[simp] theorem State.burstResults_mode (t after : Nat) (tx rx : List CalMeas) : (s.burstResults t after tx rx).mode = s.mode := by
  unfold State.burstResults
  (repeat' split) <;> simp
@[simp] theorem State.imageEnd_mode (t r : Nat) (rej : BitVec 8) (taps : List (Int × Int)) : (s.imageEnd t r rej taps).mode = s.mode := by
  unfold State.imageEnd
  dsimp only
  (repeat' split) <;> simp
@[simp] theorem State.judgeCalDue_mode (t : Nat) : (s.judgeCalDue t).mode = s.mode := by simp [State.judgeCalDue]

/-! ### Check-value units (R302) -/

@[simp] theorem State.cuFold_mode (u : Nat) (bs : List Byte) : (s.cuFold u bs).mode = s.mode := by simp [State.cuFold]
@[simp] theorem State.cuWrite_mode (u : Nat) (feedBars : Bool) (f : State → State) (hf : ∀ u, (f u).mode = u.mode) :
    (s.cuWrite u feedBars f).mode = s.mode := by simp [State.cuWrite, hf]
@[simp] theorem State.cuStart_mode (u : Nat) : (s.cuStart u).mode = s.mode := by simp [State.cuStart]
@[simp] theorem State.cuFoldPrefix_mode (u : Nat) : (s.cuFoldPrefix u).mode = s.mode := by simp [State.cuFoldPrefix]
@[simp] theorem State.cuCmd_mode (u : Nat) (w : Word) : (s.cuCmd u w).mode = s.mode := by
  unfold State.cuCmd
  split <;> simp
@[simp] theorem State.cuDataW_mode (u : Nat) (w : Word) : (s.cuDataW u w).mode = s.mode := by simp [State.cuDataW]
@[simp] theorem State.cuDataB_mode (u : Nat) (w : Word) : (s.cuDataB u w).mode = s.mode := by simp [State.cuDataB]
@[simp] theorem State.cuCfgWrite_mode (u : Nat) (w : Word) : (s.cuCfgWrite u w).mode = s.mode := by simp [State.cuCfgWrite]
@[simp] theorem State.cuParam_mode (a u : Nat) (w : Word) : (s.cuParam a u w).mode = s.mode := by simp [State.cuParam]
@[simp] theorem State.cuRunLoWrite_mode (u : Nat) (w : Word) : (s.cuRunLoWrite u w).mode = s.mode := by simp [State.cuRunLoWrite]
@[simp] theorem State.cuRunHiWrite_mode (u : Nat) (w : Word) : (s.cuRunHiWrite u w).mode = s.mode := by simp [State.cuRunHiWrite]
@[simp] theorem State.cuRunLoRead_mode (u : Nat) : (s.cuRunLoRead u).mode = s.mode := by simp [State.cuRunLoRead]
@[simp] theorem State.cuResultLoRead_mode (u : Nat) : (s.cuResultLoRead u).mode = s.mode := by simp [State.cuResultLoRead]
@[simp] theorem State.cuTaken_mode (u : Nat) : (s.cuTaken u).mode = s.mode := by simp [State.cuTaken]
@[simp] theorem State.cuReset_mode (u : Nat) : (s.cuReset u).mode = s.mode := by simp [State.cuReset]
@[simp] theorem State.cuShow_mode (u : Nat) (prefix_ : Word) (bs : List Byte) : (s.cuShow u prefix_ bs).mode = s.mode := by simp [State.cuShow]
@[simp] theorem State.cuMismatch_mode (u : Nat) (computed rcvd prefix_ : Word) : (s.cuMismatch u computed rcvd prefix_).mode = s.mode := by
  simp [State.cuMismatch]

/-! ### Slalom (chapter 5) -/

@[simp] theorem State.modSec_mode (k : SecKey) (f : SecSym → SecSym) : (s.modSec k f).mode = s.mode := by simp [State.modSec]
@[simp] theorem State.labelPages_mode (ps : List Nat) (l : PageState) : (s.labelPages ps l).mode = s.mode := by simp [State.labelPages]
@[simp] theorem State.takePages_mode (ps : List Nat) : (s.takePages ps).mode = s.mode := by simp [State.takePages]
@[simp] theorem State.dropItem_mode (k : SecKey) : (s.dropItem k).mode = s.mode := by
  unfold State.dropItem
  split <;> simp
@[simp] theorem State.requeue_mode (a : Nat) (k : SecKey) : (State.requeue a s k).mode = s.mode := by simp [State.requeue]
@[simp] theorem State.beamChanged_mode (a id : Nat) : (s.beamChanged a id).mode = s.mode := by simp [State.beamChanged]
@[simp] theorem State.defineBeam_mode (a id : Nat) (pinned : Bool) (words : List Word) (e : Nat) :
    (s.defineBeam a id pinned words e).mode = s.mode := by
  simp only [State.defineBeam]
  split <;> simp
@[simp] theorem State.deleteBeam_mode (a id : Nat) : (s.deleteBeam a id).mode = s.mode := by
  unfold State.deleteBeam
  split <;> simp
@[simp] theorem State.tableFull_mode : s.tableFull.mode = s.mode := by simp [State.tableFull]
@[simp] theorem State.beamDef_mode (a id : Nat) (words : List Word) : (s.beamDef a id words).mode = s.mode := by
  unfold State.beamDef
  (repeat' split) <;> simp
@[simp] theorem State.beamDel_mode (a id : Nat) : (s.beamDel a id).mode = s.mode := by
  unfold State.beamDel
  split <;> simp
@[simp] theorem State.beamCmdWrite_mode (op id : Nat) : (s.beamCmdWrite op id).mode = s.mode := by simp [State.beamCmdWrite]
@[simp] theorem State.beamCmdDone_mode (after : Nat) : (s.beamCmdDone after).mode = s.mode := by
  have hread : ∀ (u : State) (w : Nat → Word), ((List.range 64).foldl (fun v k => v.setReg (SLALOM_BEAM_DATA k) (w k)) u).mode = u.mode :=
    fun u w => State.mode_foldl _ _ _ fun _ _ => State.setReg_mode _ _ _
  unfold State.beamCmdDone
  dsimp only
  (repeat' split) <;> simp [hread]
@[simp] theorem State.beamDataWrite_mode (a : Nat) (w : Word) : (s.beamDataWrite a w).mode = s.mode := by simp [State.beamDataWrite]
@[simp] theorem State.beamsetBy_mode (a : Nat) (ul : Bool) (layer : BitVec 5) (beam : BitVec 15) : (s.beamsetBy a ul layer beam).mode = s.mode := by
  simp [State.beamsetBy]
@[simp] theorem State.beamset_mode (ul : Bool) (layer : BitVec 5) (beam : BitVec 15) : (s.beamset ul layer beam).mode = s.mode := by
  simp [State.beamset]
@[simp] theorem State.beamsetsDue_mode (upto : Nat) : (s.beamsetsDue upto).mode = s.mode := by
  refine State.each_mode _ _ _ fun u e => ?_
  split <;> simp
@[simp] theorem State.describe_mode (a : Nat) (k : SecKey) (d : Desc) (cancel : Bool) : (s.describe a k d cancel).1.mode = s.mode := by
  unfold State.describe
  dsimp only
  (repeat' split) <;> simp
@[simp] theorem State.lateControl_mode : s.lateControl.mode = s.mode := by simp [State.lateControl]
@[simp] theorem State.describeRun_mode (a : Nat) (ul : Bool) (c id n count : Nat) (d : Desc) (cancel : Bool) :
    (s.describeRun a ul c id n count d cancel).mode = s.mode := by
  refine State.mode_foldl _ _ _ fun u j => ?_
  rw [← u.describe_mode a ⟨ul, c, id, n + j⟩ d cancel]
  dsimp only
  split <;> simp
@[simp] theorem State.itemStart_mode : s.itemStart.mode = s.mode := by
  unfold State.itemStart
  dsimp only
  (repeat' split) <;> simp
@[simp] theorem State.writePages_mode (d : Desc) (ents ps : List Nat) : (s.writePages d ents ps).mode = s.mode := by
  simp [State.writePages]
@[simp] theorem State.finishItem_mode (x : SecSym) : (s.finishItem x).mode = s.mode := by simp [State.finishItem]
@[simp] theorem State.countFallback_mode : s.countFallback.mode = s.mode := by simp [State.countFallback]
@[simp] theorem State.commitAs_mode (k : SecKey) (d : Desc) (w : Weights) (ents : List Nat) (fb : Bool) (why : List Nat) :
    (s.commitAs k d w ents fb why).mode = s.mode := by simp [State.commitAs]
@[simp] theorem State.judgeData_mode (k : SecKey) : (s.judgeData k).mode = s.mode := by
  unfold State.judgeData
  split <;> simp
@[simp] theorem State.judgeSec_mode (x : SecSym) : (s.judgeSec x).mode = s.mode := by simp [State.judgeSec]
@[simp] theorem State.commitHorizon_mode (ul : Bool) (c : Nat) : (s.commitHorizon ul c).mode = s.mode := by
  unfold State.commitHorizon
  dsimp only
  (repeat' split) <;> simp
@[simp] theorem State.dispatchWords_mode (xs : List SecSym) (c n : Nat) (inTime : Bool) : (s.dispatchWords xs c n inTime).mode = s.mode := by
  refine State.mode_foldl _ _ _ fun u t => ?_
  split
  · extract_lets v
    have hv : v.mode = u.mode := State.mode_foldl _ _ _ fun u i => State.mode_foldl _ _ _ fun u k => by simp
    clear_value v
    simp [State.mode_ite, hv]
  · rfl
@[simp] theorem State.finishReplay_mode (x : SecSym) (stop : Nat) : (s.finishReplay x stop).mode = s.mode := by simp [State.finishReplay]
@[simp] theorem State.failReplay_mode (x : SecSym) : (s.failReplay x).mode = s.mode := by simp [State.failReplay]
@[simp] theorem State.settleReplay_mode (x : SecSym) : (s.settleReplay x).mode = s.mode := by
  unfold State.settleReplay
  split <;> simp
@[simp] theorem State.itemComplete_mode : s.itemComplete.mode = s.mode := by
  unfold State.itemComplete
  dsimp only
  (repeat' split) <;> simp
@[simp] theorem State.releaseLayers_mode (c n : Nat) : (s.releaseLayers c n).mode = s.mode := by simp [State.releaseLayers]
@[simp] theorem State.dlDispatchDone_mode (c after : Nat) : (s.dlDispatchDone c after).mode = s.mode := by
  simp [State.dlDispatchDone]
@[simp] theorem State.countReplay_mode : s.countReplay.mode = s.mode := by simp [State.countReplay]
@[simp] theorem State.workError_mode (k : SecKey) : (s.workError k).mode = s.mode := by
  unfold State.workError
  (repeat' split) <;> simp
@[simp] theorem State.inputLost_mode (k : SecKey) : (s.inputLost k).mode = s.mode := by
  unfold State.inputLost
  (repeat' split) <;> simp
@[simp] theorem State.replayStruck_mode (k : SecKey) : (s.replayStruck k).mode = s.mode := by
  unfold State.replayStruck
  split <;> simp
@[simp] theorem State.entryLost_mode (e : Nat) : (s.entryLost e).mode = s.mode := by
  unfold State.entryLost
  dsimp only
  (repeat' split) <;> simp
@[simp] theorem State.layerLost_mode (c layer n rb : Nat) : (s.layerLost c layer n rb).mode = s.mode := by
  simp [State.layerLost]
@[simp] theorem State.softError_mode (w : SoftErr) : (s.softError w).mode = s.mode := by
  unfold State.softError
  split <;> simp
@[simp] theorem State.slalomStart_mode : s.slalomStart.mode = s.mode := by simp [State.slalomStart]

/-! ### Ethernet ports -/

@[simp] theorem State.macLink_mode (p : Nat) (aligned localFault remoteFault : Bool) (skew : Nat) :
    (s.macLink p aligned localFault remoteFault skew).mode = s.mode := by simp [State.macLink]
@[simp] theorem State.judgePorts_mode : s.judgePorts.mode = s.mode := by simp [State.judgePorts]
@[simp] theorem State.pcfgWrite_mode (p : Nat) (w : Word) : (s.pcfgWrite p w).mode = s.mode := by simp [State.pcfgWrite]
@[simp] theorem State.sendEcpri_mode (p pcp type : Nat) (dest payload : List Byte) (stamp : optParam Stamp Stamp.none) :
    (s.sendEcpri p pcp type dest payload stamp).mode = s.mode := by simp [State.sendEcpri]
@[simp] theorem State.stampFrame_mode (p : Nat) (f : TxFrame) : (s.stampFrame p f).1.mode = s.mode := by
  unfold State.stampFrame
  dsimp only
  (repeat' split) <;> simp
@[simp] theorem State.fhCount_mode (a n : Nat) : (s.fhCount a n).mode = s.mode := by simp [State.fhCount]
@[simp] theorem State.fhReceive_mode (p ago : Nat) (bs : List Byte) : (s.fhReceive p ago bs).mode = s.mode := by simp [State.fhReceive]
@[simp] theorem State.ptpReceive_mode (p ago : Nat) (bytes : List Byte) : (s.ptpReceive p ago bytes).mode = s.mode := by
  unfold State.ptpReceive
  dsimp only
  (repeat' split) <;> simp
@[simp] theorem State.ethTake_mode (p : Nat) (bytes : List Byte) (fcsError : Bool) (ago : Nat) : (s.ethTake p bytes fcsError ago).mode = s.mode := by
  simp [State.ethTake]
@[simp] theorem State.fecCount_mode (p : Nat) : (s.fecCount p).mode = s.mode := by simp [State.fecCount]
@[simp] theorem State.ethReceive_mode (p : Nat) (bytes : List Byte) (fcsError : Bool) (ago : Nat) :
    (s.ethReceive p bytes fcsError ago).mode = s.mode := by
  simp [State.ethReceive, State.emit]
@[simp] theorem State.ethSent_mode (p : Nat) (bytes : List Byte) : (s.ethSent p bytes).mode = s.mode := by
  simp [State.ethSent, State.emit]
@[simp] theorem State.ethTransmit_mode (p : Nat) : (s.ethTransmit p).mode = s.mode := by
  unfold State.ethTransmit
  dsimp only
  (repeat' split) <;> simp

/-! ### Burog (chapters 11 and 12) -/

@[simp] theorem State.clearIds_mode : s.clearIds.mode = s.mode := by simp [State.clearIds]
@[simp] theorem State.judgeBurog_mode : s.judgeBurog.mode = s.mode := by simp [State.judgeBurog]
@[simp] theorem State.burogCfgWrite_mode (w : Word) : (s.burogCfgWrite w).mode = s.mode := by simp [State.burogCfgWrite]
@[simp] theorem State.burogRetrain_mode : s.burogRetrain.mode = s.mode := by simp [State.burogRetrain]
@[simp] theorem State.burogClearIds_mode : s.burogClearIds.mode = s.mode := by simp [State.burogClearIds]
@[simp] theorem State.burogCmd_mode (w : Word) : (s.burogCmd w).mode = s.mode := by simp [State.burogCmd]
@[simp] theorem State.burogRefuse_mode (k why : Nat) : (s.burogRefuse k why).mode = s.mode := by simp [State.burogRefuse]
@[simp] theorem State.burogEnterRun_mode (k : Nat) (delay : BitVec 16) : (s.burogEnterRun k delay).mode = s.mode := by simp [State.burogEnterRun]
@[simp] theorem State.burogTrained_mode (k skew : Nat) : (s.burogTrained k skew).mode = s.mode := by simp [State.burogTrained]
@[simp] theorem State.burogAck_mode (k ack : Nat) : (s.burogAck k ack).mode = s.mode := by simp [State.burogAck]
@[simp] theorem State.burogReplay_mode (k count : Nat) : (s.burogReplay k count).mode = s.mode := by simp [State.burogReplay]
@[simp] theorem State.burogNak_mode (k n : Nat) : (s.burogNak k n).mode = s.mode := by simp [State.burogNak]
@[simp] theorem State.burogTimeout_mode (k : Nat) : (s.burogTimeout k).mode = s.mode := by simp [State.burogTimeout]
@[simp] theorem State.burogNakRepeat_mode (k : Nat) : (s.burogNakRepeat k).mode = s.mode := by simp [State.burogNakRepeat]
@[simp] theorem State.trainTake_mode (k lane : Nat) (header : Word) (payload : BitVec 256) (crc : Word) :
    (s.trainTake k lane header payload crc).mode = s.mode := by simp [State.trainTake]
@[simp] theorem State.flitTake_mode (k lane : Nat) (header : Word) (payload : BitVec 256) (crc : Word) :
    (s.flitTake k lane header payload crc).mode = s.mode := by simp [State.flitTake]
@[simp] theorem State.emitFlit_mode (k type : Nat) (f : Flit) (seq : Nat) : (s.emitFlit k type f seq).mode = s.mode := by
  have huse : ∀ (u : State) c, (u.when c State.useFree).mode = u.mode := fun u c => u.when_mode c _ State.useFree_mode
  simp [State.emitFlit, State.emit, huse]
@[simp] theorem State.flitSend_mode (k : Nat) : (s.flitSend k).mode = s.mode := by
  unfold State.flitSend
  dsimp only
  (repeat' split) <;> simp
@[simp] theorem State.flitReceive_mode (k lane : Nat) (header : Word) (payload : BitVec 256) (crc : Word) :
    (s.flitReceive k lane header payload crc).mode = s.mode := by
  simp [State.flitReceive, State.emit]
theorem State.burogTake_mode {s u : State} {k vc msg : Nat} {l : List (BitVec 256)} (h : s.burogTake k vc msg = some (l, u)) : u.mode = s.mode := by
  unfold State.burogTake at h
  split at h
  · cases h
  · obtain ⟨-, rfl⟩ := Prod.mk.inj (Option.some.inj h)
    simp
@[simp] theorem State.groupMessage_mode : s.groupMessage.mode = s.mode := by
  unfold State.groupMessage
  split
  · rfl
  · next h =>
    rw [← State.burogTake_mode h]
    dsimp only
    (repeat' split) <;> simp

/-! ### Serial lanes (chapter 9) -/

@[simp] theorem State.qcfgWrite_mode (n : Nat) (w : Word) : (s.qcfgWrite n w).mode = s.mode := by simp [State.qcfgWrite]
@[simp] theorem State.laneReady_mode (l : Nat) (resumed : Bool) : (s.laneReady l resumed).mode = s.mode := by simp [State.laneReady]
@[simp] theorem State.lctrlWrite_mode (l : Nat) (w : Word) : (s.lctrlWrite l w).mode = s.mode := by simp [State.lctrlWrite]
@[simp] theorem State.judgeFom_mode (l v : Nat) : (s.judgeFom l v).mode = s.mode := by simp [State.judgeFom]
@[simp] theorem State.laneEpoch_mode (l : Nat) (fom : BitVec 8) (signal cdr : Bool) (errors : Nat) :
    (s.laneEpoch l fom signal cdr errors).mode = s.mode := by simp [State.laneEpoch]
@[simp] theorem State.laneResumeTimeout_mode (l : Nat) : (s.laneResumeTimeout l).mode = s.mode := by simp [State.laneResumeTimeout]
@[simp] theorem State.laneAdaptDone_mode (l : Nat) : (s.laneAdaptDone l).mode = s.mode := by simp [State.laneAdaptDone]
@[simp] theorem State.quadPllLock_mode (n : Nat) (locked : Bool) : (s.quadPllLock n locked).mode = s.mode := by simp [State.quadPllLock]
@[simp] theorem State.eyeGo_mode (w : Word) : (s.eyeGo w).mode = s.mode := by simp [State.eyeGo]
@[simp] theorem State.eyeDone_mode (errors : Nat) : (s.eyeDone errors).mode = s.mode := by
  unfold State.eyeDone
  split <;> simp

/-! ### Uplink and resends -/

@[simp] theorem State.psumWaitExpiry_mode : s.psumWaitExpiry.mode = s.mode := by
  unfold State.psumWaitExpiry
  dsimp only
  (repeat' split) <;> simp
@[simp] theorem State.psumMessage_mode : s.psumMessage.mode = s.mode := by
  unfold State.psumMessage
  split
  · rfl
  · next h =>
    rw [← State.burogTake_mode h]
    dsimp only
    (repeat' split) <;> simp
@[simp] theorem State.jrnDrop_mode : s.jrnDrop.mode = s.mode := by simp [State.jrnDrop]
@[simp] theorem State.jrnWrite_mode (port flow pcId count : Nat) (frame : List Byte) : (s.jrnWrite port flow pcId count frame).mode = s.mode := by
  simp [State.jrnWrite]
@[simp] theorem State.sendData_mode (c layer : Nat) (t : Nat × Nat × Nat × Nat) (body : List Byte) :
    (s.sendData c layer t body).mode = s.mode := by
  simp [State.sendData]
@[simp] theorem State.releasePaths_mode (c n : Nat) : (s.releasePaths c n).mode = s.mode := by simp [State.releasePaths]
@[simp] theorem State.sendRecord_mode (x : SecSym) (fields : List (Nat × Nat)) (whole : Bool) : (s.sendRecord x fields whole).mode = s.mode := by
  simp [State.sendRecord]
@[simp] theorem State.forwardSum_mode (x : SecSym) : (s.forwardSum x).mode = s.mode := by simp [State.forwardSum]
@[simp] theorem State.ulHandover_mode (c layer after : Nat) : (s.ulHandover c layer after).mode = s.mode := by
  unfold State.ulHandover
  dsimp only
  split <;> simp
@[simp] theorem State.sendControl_mode (c : Nat) (t : Nat × Nat × Nat × Nat) (words : List Nat) : (s.sendControl c t words).mode = s.mode := by
  simp [State.sendControl]
@[simp] theorem State.sendGone_mode (pcId first count reason : Nat) : (s.sendGone pcId first count reason).mode = s.mode := by simp [State.sendGone]
@[simp] theorem State.dlStatusSend_mode (c : Nat) : (s.dlStatusSend c).mode = s.mode := by
  unfold State.dlStatusSend
  dsimp only
  (repeat' split) <;> simp
@[simp] theorem State.jrnLoad_mode (a n : Nat) : (s.jrnLoad a n).1.mode = s.mode := by
  unfold State.jrnLoad
  split <;> simp
theorem State.jrnLoad_mode_of {s u : State} {a n : Nat} {bs : List Byte} (h : s.jrnLoad a n = (u, bs)) : u.mode = s.mode := by
  simpa [h] using s.jrnLoad_mode a n
@[simp] theorem State.resendCmd_mode (pcId first count : Nat) : (s.resendCmd pcId first count).mode = s.mode := by simp [State.resendCmd]
/-- The state of the pair `x` is in the mode of `s`. A name of its own, so that the kernel compares the pairs of `resendOne` as they
stand and does not evaluate the sequence numbers in them. -/
def State.ModeOfFst {α : Type} (s : State) (x : State × α) : Prop := x.1.mode = s.mode
theorem State.ModeOfFst.ite {α : Type} {s : State} {c : Prop} [Decidable c] {x y : State × α} (hx : s.ModeOfFst x) (hy : s.ModeOfFst y) :
    s.ModeOfFst (if c then x else y) := by split <;> assumption
theorem State.ModeOfFst.after {α : Type} {s u : State} {x : State × α} (h : u.mode = s.mode) (hx : u.ModeOfFst x) : s.ModeOfFst x := hx.trans h
theorem State.resendOne_modeOfFst (flow pcId q : Nat) : s.ModeOfFst (s.resendOne flow pcId q) := by
  unfold State.resendOne
  refine .ite rfl (.ite rfl ?_)
  split
  next u entry hentry =>
  refine .after (State.jrnLoad_mode_of hentry) (.ite rfl ?_)
  extract_lets a
  clear_value a
  split
  next v header hheader =>
  refine .after (State.jrnLoad_mode_of hheader) (.ite rfl (.ite rfl ?_))
  split
  next w data hdata =>
  refine .after (State.jrnLoad_mode_of hdata) (.ite ?_ ?_)
  · exact State.cuShow_mode _ _ _ _
  · exact (State.cuMismatch_mode _ _ _ _ _).trans (State.cuShow_mode _ _ _ _)
@[simp] theorem State.resendOne_mode (flow pcId q : Nat) : (s.resendOne flow pcId q).1.mode = s.mode := s.resendOne_modeOfFst flow pcId q
@[simp] theorem State.flushGone_mode (pcId : Nat) (run : Option (Nat × Nat × Nat)) : (s.flushGone pcId run).mode = s.mode := by
  unfold State.flushGone
  split <;> simp
@[simp] theorem State.resendRun_mode (r : Resend) (n : Nat) : (s.resendRun r n).1.mode = s.mode := by
  induction n generalizing s r with
  | zero => rfl
  | succ n ih =>
    have hone : ∀ {u x flow pcId q}, s.resendOne flow pcId q = (u, x) → u.mode = s.mode := fun h => by
      rw [← s.resendOne_mode, h]
    unfold State.resendRun
    split
    · rfl
    · dsimp only
      split
      · next h =>
        rw [← hone h]
        (repeat' split) <;> simp [ih]
      · next h =>
        rw [← hone h]
        simp
@[simp] theorem State.resendServe_mode : s.resendServe.mode = s.mode := by
  unfold State.resendServe
  split <;> simp

/-! ### Fronthaul (chapter 10) -/

theorem State.takeFh_mode {s u : State} {p : EcpriMsg → Bool} {m : EcpriMsg} (h : s.takeFh p = some (m, u)) : u.mode = s.mode := by
  unfold State.takeFh at h
  split at h
  · obtain ⟨-, rfl⟩ := Prod.mk.inj (Option.some.inj h)
    rfl
  · cases h
@[simp] theorem State.fhMalformed_mode : s.fhMalformed.mode = s.mode := by simp [State.fhMalformed]
theorem State.seqAccept_mode {s u : State} {flow q : Nat} (h : s.seqAccept flow q = some u) : u.mode = s.mode := by
  unfold State.seqAccept at h
  dsimp only at h
  repeat' split at h
  all_goals simp only [reduceCtorEq, Option.some.injEq] at h
  all_goals subst h; simp
theorem State.fhAccept_mode_inl {s u : State} {m : EcpriMsg} (h : s.fhAccept m = .inl u) : u.mode = s.mode := by
  unfold State.fhAccept at h
  dsimp only at h
  repeat' split at h
  all_goals simp only [reduceCtorEq, Sum.inl.injEq] at h
  all_goals subst h; simp
theorem State.fhAccept_mode_inr {s u : State} {m : EcpriMsg} {b : List Byte} (h : s.fhAccept m = .inr (u, b)) : u.mode = s.mode := by
  unfold State.fhAccept at h
  dsimp only at h
  repeat' split at h
  all_goals simp only [reduceCtorEq, Sum.inr.injEq, Prod.mk.injEq] at h
  next hs =>
    obtain ⟨rfl, -⟩ := h
    rw [State.seqAccept_mode hs, State.cuShow_mode]
@[simp] theorem State.hold_mode (units until_ : Nat) : (s.hold units until_).mode = s.mode := by simp [State.hold]
@[simp] theorem State.storeLayer_mode (c layer n : Nat) (d : DataSec) : (s.storeLayer c layer n d).mode = s.mode := by
  simp [State.storeLayer]
@[simp] theorem State.fhData_mode : s.fhData.mode = s.mode := by
  unfold State.fhData
  split
  · rfl
  · next h =>
    rw [← State.takeFh_mode h]
    split
    · next ha => exact State.fhAccept_mode_inl ha
    · next ha =>
      rw [← State.fhAccept_mode_inr ha]
      dsimp only
      (repeat' split) <;> simp
@[simp] theorem State.fhControl_mode : s.fhControl.mode = s.mode := by
  unfold State.fhControl
  split
  · rfl
  · next h =>
    rw [← State.takeFh_mode h]
    split
    · next ha => exact State.fhAccept_mode_inl ha
    · next ha =>
      rw [← State.fhAccept_mode_inr ha]
      dsimp only
      (repeat' split) <;> simp
theorem State.takeCmd_mode {s u : State} {code : Nat} {x : CtrlCmd} (h : s.takeCmd code = some (x, u)) : u.mode = s.mode := by
  unfold State.takeCmd at h
  split at h
  · split at h
    · obtain ⟨-, rfl⟩ := Prod.mk.inj (Option.some.inj h)
      split <;> rfl
    · cases h
  · cases h
@[simp] theorem State.cmdReject_mode : s.cmdReject.mode = s.mode := by simp [State.cmdReject]
@[simp] theorem State.sectionCmd_mode : s.sectionCmd.mode = s.mode := by
  unfold State.sectionCmd
  split
  · rfl
  · next h =>
    rw [← State.takeCmd_mode h]
    dsimp only
    (repeat' split) <;> simp
@[simp] theorem State.cancelCmd_mode : s.cancelCmd.mode = s.mode := by
  unfold State.cancelCmd
  split
  · rfl
  · next h =>
    rw [← State.takeCmd_mode h]
    dsimp only
    (repeat' split) <;> simp
@[simp] theorem State.beamDefCmd_mode : s.beamDefCmd.mode = s.mode := by
  unfold State.beamDefCmd
  split
  · rfl
  · next h =>
    rw [← State.takeCmd_mode h]
    (repeat' split) <;> simp
@[simp] theorem State.beamDelCmd_mode : s.beamDelCmd.mode = s.mode := by
  unfold State.beamDelCmd
  split
  · rfl
  · next h =>
    rw [← State.takeCmd_mode h]
    (repeat' split) <;> simp
@[simp] theorem State.resendCommand_mode : s.resendCommand.mode = s.mode := by
  unfold State.resendCommand
  split
  · rfl
  · next h =>
    rw [← State.takeCmd_mode h]
    (repeat' split) <;> simp
@[simp] theorem State.ctrlNext_mode : s.ctrlNext.mode = s.mode := by
  unfold State.ctrlNext
  (repeat' split) <;> simp
@[simp] theorem State.ctrlDue_mode (upto : Nat) : (s.ctrlDue upto).mode = s.mode := by
  refine State.each_mode _ _ _ fun u x => ?_
  split <;> simp
@[simp] theorem State.commitDue_mode (ul : Bool) (c : Nat) : (s.commitDue ul c).mode = s.mode := by simp [State.commitDue]
@[simp] theorem State.hostBeamDone_mode (after : Nat) : (s.hostBeamDone after).mode = s.mode := by
  unfold State.hostBeamDone
  split <;> simp
@[simp] theorem State.sendDelay_mode (p id action : Nat) (stamp : List Byte) (comp : Word) (how : Stamp) :
    (s.sendDelay p id action stamp comp how).mode = s.mode := by simp [State.sendDelay]
@[simp] theorem State.delayRequest_mode : s.delayRequest.mode = s.mode := by
  unfold State.delayRequest
  split
  · rfl
  · next h => simp [← State.takeFh_mode h]
@[simp] theorem State.delayRemote_mode : s.delayRemote.mode = s.mode := by
  unfold State.delayRemote
  split
  · rfl
  · next h => simp [← State.takeFh_mode h]
@[simp] theorem State.delayResponse_mode : s.delayResponse.mode = s.mode := by
  unfold State.delayResponse
  split
  · rfl
  · next h => simp [← State.takeFh_mode h]
@[simp] theorem State.delayFollowUp_mode : s.delayFollowUp.mode = s.mode := by
  unfold State.delayFollowUp
  split
  · rfl
  · next h => simp [← State.takeFh_mode h]
@[simp] theorem State.engineStruck_mode (hit : SoftErr) : (s.engineStruck hit).mode = s.mode := by simp [State.engineStruck]
@[simp] theorem State.storeStruck_mode (store : Nat) (held : Option SoftErr) : (s.storeStruck store held).mode = s.mode := by
  unfold State.storeStruck
  split <;> simp
@[simp] theorem State.engineError_mode (hit : SoftErr) : (s.engineError hit).mode = s.mode := by
  unfold State.engineError
  split <;> simp

/-! ### The mailbox -/

@[simp] theorem State.bufLoad_mode (bs : List Byte) : (s.bufLoad bs).mode = s.mode := by simp [State.bufLoad]
theorem State.rilyn_stays (op : Nat) (f : State → RilynCmd → State) {m : Mode} (hf : ∀ (u : State) c, u.StaysOr m (f u c)) :
    s.StaysOr m (s.rilyn op f) := by
  unfold State.rilyn
  split
  · exact .refl s m
  · split
    · exact .refl s m
    · next c u hc =>
      refine .ite (fun _ => .refl s m) fun _ => .after (State.rilynNext_mode _ _ _ hc) ?_
      extract_lets v w
      have hw : w.mode = u.mode := by simp [w, v, State.mode_ite]
      clear_value w
      refine .next ?_ (State.dropUnknown_mode _ 8)
      split
      · exact .stays (by simp [hw])
      · exact .after hw (hf w c)
@[simp] theorem State.rilyn_mode (op : Nat) (f : State → RilynCmd → State) (hf : ∀ u c, (f u c).mode = u.mode) :
    (s.rilyn op f).mode = s.mode := by
  exact (s.rilyn_stays op f (m := s.mode) fun u c => .stays (hf u c)).elim id id
@[simp] theorem State.mbxFree_mode (f : State → State) (hf : ∀ u, (f u).mode = u.mode) : (s.mbxFree f).mode = s.mode := by
  simp [State.mbxFree, hf]
@[simp] theorem State.mbxCtrl_mode (w : Word) : (s.mbxCtrl w).mode = s.mode := by simp [State.mbxCtrl]
@[simp] theorem State.bufAdvance_mode : s.bufAdvance.mode = s.mode := by simp [State.bufAdvance]
@[simp] theorem State.bufRead_mode : s.bufRead.mode = s.mode := by simp [State.bufRead]
@[simp] theorem State.bufWrite_mode (w : Word) : (s.bufWrite w).mode = s.mode := by simp [State.bufWrite]

/-! ### Network time (chapter 13) -/

@[simp] theorem State.beginEpoch_mode : s.beginEpoch.mode = s.mode := by simp [State.beginEpoch]
@[simp] theorem State.newEpoch_mode (w : Word) : (s.newEpoch w).mode = s.mode := by simp [State.newEpoch]
@[simp] theorem State.timeCtrl_mode (w : Word) : (s.timeCtrl w).mode = s.mode := by simp [State.timeCtrl]
@[simp] theorem State.showTheta_mode (th : Int) : (s.showTheta th).mode = s.mode := by simp [State.showTheta]
@[simp] theorem State.rate_mode (th : Int) : (s.rate th).mode = s.mode := by simp [State.rate]
@[simp] theorem State.stepTime_mode (d : Int) : (s.stepTime d).mode = s.mode := by simp [State.stepTime]
@[simp] theorem State.countSample_mode (th : Int) : (s.countSample th).mode = s.mode := by simp [State.countSample]
@[simp] theorem State.judgeMaster_mode (gm : Option (BitVec 64)) : (s.judgeMaster gm).mode = s.mode := by
  unfold State.judgeMaster
  split <;> simp
@[simp] theorem State.sample_mode (th : Int) (age : Nat) (gm : Option (BitVec 64)) : (s.sample th age gm).mode = s.mode := by simp [State.sample]
@[simp] theorem State.ptpSample_mode (th : Int) (age : Nat) (gm : BitVec 64) : (s.ptpSample th age gm).mode = s.mode := by simp [State.ptpSample]
@[simp] theorem State.ofsHi_mode (w : Word) : (s.ofsHi w).mode = s.mode := by simp [State.ofsHi]
@[simp] theorem State.sourceLost_mode : s.sourceLost.mode = s.mode := by simp [State.sourceLost]
@[simp] theorem State.ppsIn_mode : s.ppsIn.mode = s.mode := by simp [State.ppsIn]
@[simp] theorem State.ppsOut_mode : s.ppsOut.mode = s.mode := by simp [State.ppsOut]
@[simp] theorem State.tsyncOut_mode : s.tsyncOut.mode = s.mode := by simp [State.tsyncOut]
@[simp] theorem State.loRead_mode (v : BitVec 64) (hi : Nat) : (s.loRead v hi).mode = s.mode := by simp [State.loRead]
@[simp] theorem State.tbLoRead_mode : s.tbLoRead.mode = s.mode := by simp [State.tbLoRead]
@[simp] theorem State.timeMessage_mode (ago : Nat) : (s.timeMessage ago).mode = s.mode := by
  unfold State.timeMessage
  split
  · rfl
  · next h =>
    rw [← State.burogTake_mode h]
    dsimp only
    (repeat' split) <;> simp
@[simp] theorem State.timeSend_mode : s.timeSend.mode = s.mode := by
  have hwait : ∀ o : Option Nat, (match o with | some t => s.advance (t + msTc) | none => s).mode = s.mode := by
    intro o
    split
    · exact State.advance_mode _ _
    · rfl
  unfold State.timeSend
  split
  · rfl
  · extract_lets u
    have hu : u.mode = s.mode := hwait _
    rw [State.burogPost_mode, State.modBurog_mode, hu]
@[simp] theorem State.syncSend_mode (p : Nat) (header : List Byte) : (s.syncSend p header).mode = s.mode := by simp [State.syncSend]
@[simp] theorem State.keeperRatio_mode (tc : Nat) : (s.keeperRatio tc).mode = s.mode := by simp [State.keeperRatio]
@[simp] theorem State.keepCfg_mode (w : Word) : (s.keepCfg w).mode = s.mode := by simp [State.keepCfg]
@[simp] theorem State.keeperExit_mode (count : Nat) (stopped : Bool) : (s.keeperExit count stopped).mode = s.mode := by
  have hvoid : ∀ k b q, (({ s with keeper := k, tb := b, ownQual := q } : State).each tiles State.reloadTile).beginEpoch.mode = s.mode := by simp
  have hback : ∀ k b q w,
    ((({ s with keeper := k, tb := b, ownQual := q } : State).each tiles State.reloadTile).setReg TIME_UNC w).beginEpoch.mode = s.mode := by simp
  unfold State.keeperExit
  split
  · rfl
  · split
    · rfl
    · dsimp only
      split
      · split
        · exact hvoid _ _ _
        · exact hback _ _ _ _
      · exact hvoid _ _ _

/-! ### Transitions that are asked for, and the start calibration (R36, R425) -/

@[simp] theorem State.setModeCmd_mode : s.setModeCmd.mode = s.mode := by simp [State.setModeCmd]
@[simp] theorem State.startCalTry_mode : s.startCalTry.mode = s.mode := by
  unfold State.startCalTry
  split <;> simp
@[simp] theorem State.startCalTimeout_mode : s.startCalTimeout.mode = s.mode := by
  have hend : ∀ t, (({ s.advance t with startCal := none } : State).raise Ev.START_CAL_DONE).mode = s.mode := by simp
  unfold State.startCalTimeout
  split
  · split
    · rfl
    · exact hend _
  · rfl
@[simp] theorem State.quietResume_mode : s.quietResume.mode = s.mode := by
  unfold State.quietResume
  split <;> simp

/-! ### Glide registers -/

@[simp] theorem State.glideCtrlWrite_mode (p : Nat) (w : Word) : (s.glideCtrlWrite p w).mode = s.mode := by simp [State.glideCtrlWrite]
@[simp] theorem State.imemAdvance_mode (p : Nat) : (s.imemAdvance p).mode = s.mode := by simp [State.imemAdvance]
@[simp] theorem State.imemHiWrite_mode (p : Nat) (w : Word) : (s.imemHiWrite p w).mode = s.mode := by simp [State.imemHiWrite]
@[simp] theorem State.imemLoRead_mode (p : Nat) : (s.imemLoRead p).mode = s.mode := by simp [State.imemLoRead]
@[simp] theorem State.imemHiRead_mode (p : Nat) : (s.imemHiRead p).mode = s.mode := by simp [State.imemHiRead]
@[simp] theorem State.gregLoRead_mode (p : Nat) : (s.gregLoRead p).mode = s.mode := by simp [State.gregLoRead]
@[simp] theorem State.btLoRead_mode (p : Nat) : (s.btLoRead p).mode = s.mode := by simp [State.btLoRead]
@[simp] theorem State.tileEnWrite_mode (w : Word) : (s.tileEnWrite w).mode = s.mode := by simp [State.tileEnWrite]

/-! ### Clocking (chapter 14) -/

@[simp] theorem State.hpllReturn_mode (ofs : Int) : (s.hpllReturn ofs).mode = s.mode := by simp [State.hpllReturn]
@[simp] theorem State.hpllSwitch_mode (b : Nat) (ofs : Int) : (s.hpllSwitch b ofs).mode = s.mode := by simp [State.hpllSwitch]
@[simp] theorem State.refLoss_mode (b : Nat) (ofs : Int) : (s.refLoss b ofs).mode = s.mode := by simp [State.refLoss]
@[simp] theorem State.refPresent_mode (b : Nat) (ofs : Int) : (s.refPresent b ofs).mode = s.mode := by simp [State.refPresent]
@[simp] theorem State.hpllCtrl_mode (w : Word) (ofs : Int) : (s.hpllCtrl w ofs).mode = s.mode := by simp [State.hpllCtrl]
@[simp] theorem State.declareLock_mode (k : Nat) : (s.declareLock k).mode = s.mode := by simp [State.declareLock]
@[simp] theorem State.lockWindow_mode (k err : Nat) (ofs : Int) : (s.lockWindow k err ofs).mode = s.mode := by simp [State.lockWindow]
@[simp] theorem State.bandCalDone_mode (k : Nat) : (s.bandCalDone k).mode = s.mode := by simp [State.bandCalDone]
@[simp] theorem State.lockFail_mode (k : Nat) : (s.lockFail k).mode = s.mode := by
  unfold State.lockFail
  split <;> simp
@[simp] theorem State.coastLimitAt_mode (k : Nat) : (s.coastLimitAt k).mode = s.mode := by simp [State.coastLimitAt]
@[simp] theorem State.spllCmd_mode (t : Nat) (w : Word) : (s.spllCmd t w).mode = s.mode := by simp [State.spllCmd]
@[simp] theorem State.judgeRecal_mode (t : Nat) : (s.judgeRecal t).mode = s.mode := by simp [State.judgeRecal]
@[simp] theorem State.applyLpll_mode (t : Nat) : (s.applyLpll t).mode = s.mode := by simp [State.applyLpll]
@[simp] theorem State.applyTarget_mode (target : Nat) : (s.applyTarget target).mode = s.mode := by simp [State.applyTarget]
@[simp] theorem State.setArm_mode (target : Nat) (a : Option (Nat × Nat)) : (s.setArm target a).mode = s.mode := by simp [State.setArm]
@[simp] theorem State.armGo_mode (target : Nat) (w : Word) : (s.armGo target w).mode = s.mode := by
  unfold State.armGo
  (repeat' split) <;> simp
@[simp] theorem State.pllArm_mode (target : Nat) (w : Word) : (s.pllArm target w).mode = s.mode := by simp [State.pllArm]
@[simp] theorem State.dividerApply_mode (target : Nat) : (s.dividerApply target).mode = s.mode := by
  unfold State.dividerApply
  split <;> simp
@[simp] theorem State.armAlign_mode (src tmask : Nat) (hub : Bool) : (s.armAlign src tmask hub).mode = s.mode := by simp [State.armAlign]
@[simp] theorem State.realign_mode (t : Nat) : (s.realign t).mode = s.mode := by simp [State.realign]
@[simp] theorem State.alignNow_mode (ts : List Nat) (src : Nat) : (s.alignNow ts src).mode = s.mode := by simp [State.alignNow]
@[simp] theorem State.alignReference_mode : s.alignReference.mode = s.mode := by
  unfold State.alignReference
  split <;> simp
@[simp] theorem State.alignComplete_mode (t : Nat) : (s.alignComplete t).mode = s.mode := by
  unfold State.alignComplete
  split <;> simp
@[simp] theorem State.tsyncIn_mode (delay : Nat) : (s.tsyncIn delay).mode = s.mode := by
  unfold State.tsyncIn
  dsimp only
  (repeat' split) <;> simp
@[simp] theorem State.taLoRead_mode (t : Nat) : (s.taLoRead t).mode = s.mode := by simp [State.taLoRead]

/-! ### Power domains (chapter 17) -/

@[simp] theorem State.clearTxq_mode (q : Nat) : (s.clearTxq q).mode = s.mode := by simp [State.clearTxq]
@[simp] theorem State.clearRxq_mode (q : Nat) : (s.clearRxq q).mode = s.mode := by simp [State.clearRxq]
@[simp] theorem State.keepChildren_mode (old : State) (t : Nat) : (s.keepChildren old t).mode = s.mode := by simp [State.keepChildren]
@[simp] theorem State.clearDfly_mode (t : Nat) : (s.clearDfly t).mode = s.mode := by simp [State.clearDfly]
@[simp] theorem State.clearTile_mode (t : Nat) : (s.clearTile t).mode = s.mode := by simp [State.clearTile]
@[simp] theorem State.clearBeam_mode : s.clearBeam.mode = s.mode := by simp [State.clearBeam]
@[simp] theorem State.clearSymstore_mode : s.clearSymstore.mode = s.mode := by simp [State.clearSymstore]
@[simp] theorem State.clearTime_mode : s.clearTime.mode = s.mode := by simp [State.clearTime]
@[simp] theorem State.clearHpll_mode : s.clearHpll.mode = s.mode := by simp [State.clearHpll]
@[simp] theorem State.clearMac_mode : s.clearMac.mode = s.mode := by simp [State.clearMac]
@[simp] theorem State.clearLanes_mode : s.clearLanes.mode = s.mode := by simp [State.clearLanes]
@[simp] theorem State.clearBurog_mode : s.clearBurog.mode = s.mode := by simp [State.clearBurog]
@[simp] theorem State.clearCu_mode : s.clearCu.mode = s.mode := by simp [State.clearCu]
@[simp] theorem State.clearScarab_mode : s.clearScarab.mode = s.mode := by simp [State.clearScarab]
@[simp] theorem State.clearHub_mode : s.clearHub.mode = s.mode := by simp [State.clearHub]
@[simp] theorem State.clearGlide_mode (p : Nat) : (s.clearGlide p).mode = s.mode := by simp [State.clearGlide]
@[simp] theorem State.clearDramc_mode : s.clearDramc.mode = s.mode := by simp [State.clearDramc]
@[simp] theorem State.clearDomain_mode (d : Nat) : (s.clearDomain d).mode = s.mode := by simp [State.clearDomain]
@[simp] theorem State.domStarts_mode (d : Nat) (fromRet : Bool) : (s.domStarts d fromRet).mode = s.mode := by simp [State.domStarts]
@[simp] theorem State.wakeEvent_mode (n : Nat) : (s.wakeEvent n).mode = s.mode := by simp [State.wakeEvent]
@[simp] theorem State.judgeWindows_mode : s.judgeWindows.mode = s.mode := by
  unfold State.judgeWindows
  refine State.each_mode _ _ _ fun u d => ?_
  split
  · split <;> simp only [State.domAbort_mode]
  · rfl
@[simp] theorem State.judgeLevels_mode : s.judgeLevels.mode = s.mode := by simp [State.judgeLevels]
@[simp] theorem State.domWrite_mode (d : Nat) (w : Word) (lat : Nat) : (s.domWrite d w lat).mode = s.mode := by simp [State.domWrite]
@[simp] theorem State.windowEnd_mode (d : Nat) : (s.windowEnd d).mode = s.mode := by
  unfold State.windowEnd
  split <;> simp
@[simp] theorem State.domEnd_mode (d after : Nat) : (s.domEnd d after).mode = s.mode := by
  unfold State.domEnd
  dsimp only
  (repeat' split) <;> simp
@[simp] theorem State.wakePin_mode (n : Fin 4) (level : Bool) : (s.wakePin n level).mode = s.mode := by simp [State.wakePin]
@[simp] theorem State.timerCfg_mode (w : Word) : (s.timerCfg w).mode = s.mode := by simp [State.timerCfg]
@[simp] theorem State.timerExpiry_mode : s.timerExpiry.mode = s.mode := by
  unfold State.timerExpiry
  split <;> simp
@[simp] theorem State.wakeRegWrite_mode (a : Nat) (w : Word) : (s.wakeRegWrite a w).mode = s.mode := by simp [State.wakeRegWrite]
@[simp] theorem State.dipBegin_mode (rails : BitVec 7) : (s.dipBegin rails).mode = s.mode := by simp [State.dipBegin]
@[simp] theorem State.dipEnd_mode (below : Bool) : (s.dipEnd below).mode = s.mode := by
  unfold State.dipEnd
  split <;> simp
@[simp] theorem State.freezeDone_mode : s.freezeDone.mode = s.mode := by
  unfold State.freezeDone
  split <;> simp

/-! ### The always-on domain (R402) -/

@[simp] theorem State.aonReset_mode : s.aonReset.mode = s.mode := by simp [State.aonReset]
@[simp] theorem State.brownout_mode : s.brownout.mode = s.mode := by simp [State.brownout]

/-! ### Rilyn (chapter 19) -/

@[simp] theorem State.rilynFlash_mode (op : Nat) (writes : Bool) (f : State → RilynCmd → State) (hf : ∀ u x, (f u x).mode = u.mode) :
    (s.rilynFlash op writes f).mode = s.mode := by simp [State.rilynFlash, hf]
@[simp] theorem State.getId_mode : s.getId.mode = s.mode := by simp [State.getId]
@[simp] theorem State.restart_mode : s.restart.mode = s.mode := by simp [State.restart]
@[simp] theorem State.recWrite_mode (ok : Bool) : (s.recWrite ok).mode = s.mode := by simp [State.recWrite]
@[simp] theorem State.recRead_mode : s.recRead.mode = s.mode := by simp [State.recRead]
@[simp] theorem State.eraseFlash_mode (a n : Nat) : (s.eraseFlash a n).mode = s.mode := by simp [State.eraseFlash]
@[simp] theorem State.flashStore_mode (a : Nat) (bs : List Byte) : (s.flashStore a bs).mode = s.mode := by simp [State.flashStore]
@[simp] theorem State.setUpdate_mode (u : Option Nat) : (s.setUpdate u).mode = s.mode := by simp [State.setUpdate]
@[simp] theorem State.imgBegin_mode (ok : Bool) : (s.imgBegin ok).mode = s.mode := by simp [State.imgBegin]
@[simp] theorem State.imgChunk_mode (ok : Bool) : (s.imgChunk ok).mode = s.mode := by
  refine State.rilynFlash_mode _ _ _ _ fun u c => ?_
  dsimp only
  split <;> simp
@[simp] theorem State.switchSlots_mode (img : Image) : (s.switchSlots img).mode = s.mode := by simp [State.switchSlots]
@[simp] theorem State.imgAbort_mode : s.imgAbort.mode = s.mode := by simp [State.imgAbort]
@[simp] theorem State.arbCommit_mode : s.arbCommit.mode = s.mode := by simp [State.arbCommit]
@[simp] theorem State.logWrite_mode : s.logWrite.mode = s.mode := by
  unfold State.logWrite
  split <;> simp
@[simp] theorem State.logCheck_mode (r : Nat × List Byte × Bool) : (s.logCheck r).mode = s.mode := by simp [State.logCheck]
@[simp] theorem State.logInfo_mode : s.logInfo.mode = s.mode := by
  refine State.rilynFlash_mode _ _ _ _ fun u c => ?_
  simp
@[simp] theorem State.logRead_mode : s.logRead.mode = s.mode := by
  refine State.rilynFlash_mode _ _ _ _ fun u c => ?_
  simp
@[simp] theorem State.sensorRead_mode : s.sensorRead.mode = s.mode := by simp [State.sensorRead]
@[simp] theorem State.ptpGet_mode : s.ptpGet.mode = s.mode := by simp [State.ptpGet]
@[simp] theorem State.ptpSet_mode : s.ptpSet.mode = s.mode := by simp [State.ptpSet]
@[simp] theorem State.dlyResult_mode : s.dlyResult.mode = s.mode := by simp [State.dlyResult]
@[simp] theorem State.qspiStream_mode : s.qspiStream.mode = s.mode := by simp [State.qspiStream]
@[simp] theorem State.mplaneQueue_mode (c : RilynCmd) : (s.mplaneQueue c).mode = s.mode := by
  unfold State.mplaneQueue
  split <;> simp
@[simp] theorem State.mplaneFrame_mode : s.mplaneFrame.mode = s.mode := by
  unfold State.mplaneFrame
  split <;> simp
@[simp] theorem State.relayDone_mode (k : Nat) (r : Relayed) (trailer : List Byte) : (s.relayDone k r trailer).mode = s.mode := by
  simp [State.relayDone]
@[simp] theorem State.relayMessage_mode (k msg : Nat) : (s.relayMessage k msg).mode = s.mode := by
  unfold State.relayMessage
  split
  · rfl
  · next h =>
    rw [← State.burogTake_mode h]
    dsimp only
    (repeat' split) <;> simp
@[simp] theorem State.hkResult_mode (die ch : Nat) (conv : BitVec 16) : (s.hkResult die ch conv).mode = s.mode := by simp [State.hkResult]
@[simp] theorem State.hkChcfg_mode (die ch : Nat) (w : Word) : (s.hkChcfg die ch w).mode = s.mode := by simp [State.hkChcfg]

/-! ### Temperature and ageing (chapter 20) -/

@[simp] theorem State.recordShut_mode (d : Nat) (crit : Bool) : (s.recordShut d crit).mode = s.mode := State.setReg_mode _ _ _
@[simp] theorem State.beginShut_mode (d : Nat) (crit : Bool) : (s.beginShut d crit).mode = s.mode := by
  unfold State.beginShut
  dsimp only
  (repeat' split) <;> simp
@[simp] theorem State.shutAt_mode (d : Nat) (crit : Bool) : (s.shutAt d crit).mode = s.mode := by
  unfold State.shutAt
  split <;> simp
@[simp] theorem State.thrChange_mode (d k : Nat) (above : Bool) : (s.thrChange d k above).mode = s.mode := by simp [State.thrChange]
@[simp] theorem State.judgeThr_mode (d k : Nat) : (s.judgeThr d k).mode = s.mode := by simp [State.judgeThr]
@[simp] theorem State.judgeRetrain_mode : s.judgeRetrain.mode = s.mode := by simp [State.judgeRetrain]
@[simp] theorem State.judgeTemp_mode (d : Nat) : (s.judgeTemp d).mode = s.mode := by simp [State.judgeTemp]
@[simp] theorem State.firstReading_mode (d : Nat) : (s.firstReading d).mode = s.mode := by simp [State.firstReading]
@[simp] theorem State.thermalUpdate_mode (d : Nat) (conv : BitVec 16) : (s.thermalUpdate d conv).mode = s.mode := by
  unfold State.thermalUpdate
  dsimp only
  (repeat' split) <;> simp
@[simp] theorem State.rateRecord_mode (d : Nat) : (s.rateRecord d).mode = s.mode := by
  unfold State.rateRecord
  dsimp only
  (repeat' split) <;> simp
@[simp] theorem State.rateCfg_mode (d : Nat) (w : Word) : (s.rateCfg d w).mode = s.mode := by simp [State.rateCfg]
@[simp] theorem State.setSuspect_mode (d : Nat) (b : Bool) : (s.setSuspect d b).mode = s.mode := by simp [State.setSuspect]
@[simp] theorem State.xchkEval_mode (powers : List (BitVec 16)) : (s.xchkEval powers).mode = s.mode := by
  simp [State.xchkEval]
@[simp] theorem State.xchkCfg_mode (w : Word) : (s.xchkCfg w).mode = s.mode := by simp [State.xchkCfg]
@[simp] theorem State.cicadaRead_mode (readings : List (List Word)) : (s.cicadaRead readings).mode = s.mode := by simp [State.cicadaRead]
@[simp] theorem State.stressRecord_mode (factors : List Nat) : (s.stressRecord factors).mode = s.mode := by simp [State.stressRecord]
@[simp] theorem State.lifePrediction_mode : s.lifePrediction.mode = s.mode := by
  unfold State.lifePrediction
  split
  · rfl
  · extract_lets prov u est
    have hu : u.mode = s.mode := State.each_mode _ _ _ fun _ _ => State.setReg_mode _ _ _
    clear_value u
    rw [← hu]
    split
    · rfl
    · simp

/-! ### Hive and ports (chapters 21 and 22) -/

@[simp] theorem State.srcCfgWrite_mode (src : Nat) (w : Word) : (s.srcCfgWrite src w).mode = s.mode := by simp [State.srcCfgWrite]
@[simp] theorem State.statusWrite_mode (k : Nat) (w : Word) : (s.statusWrite k w).mode = s.mode := by simp [State.statusWrite]
@[simp] theorem State.msiCapability_mode (on : Bool) (granted : Nat) : (s.msiCapability on granted).mode = s.mode := by simp [State.msiCapability]
@[simp] theorem State.flagsWrite_mode (a : Nat) (w : Word) : (s.flagsWrite a w).mode = s.mode := by
  refine (State.each_mode _ _ _ fun u b => ?_).trans (s.plainWrite_mode a w)
  split <;> simp
@[simp] theorem State.uartDrain_mode : s.uartDrain.mode = s.mode :=
  State.each_mode _ _ _ fun _ _ => rfl
@[simp] theorem State.uartSend_mode (bs : List Byte) : (s.uartSend bs).mode = s.mode := by simp [State.uartSend]
@[simp] theorem State.uartByte_mode (b : Byte) (stop : Bool) : (s.uartByte b stop).mode = s.mode := by simp [State.uartByte]
@[simp] theorem State.tapTo_mode (t : Tap) : (s.tapTo t).mode = s.mode := by simp [State.tapTo]
@[simp] theorem State.tapExtest_mode : s.tapExtest.mode = s.mode := by simp [State.tapExtest]
@[simp] theorem State.tapPreload_mode (cells : List Bool) : (s.tapPreload cells).mode = s.mode := by simp [State.tapPreload]

/-! ### Scarab (chapter 16) -/

@[simp] theorem State.setSc_mode (n st : Nat) : (s.setSc n st).mode = s.mode := by simp [State.setSc]
@[simp] theorem State.setScPc_mode (n pc : Nat) : (s.setScPc n pc).mode = s.mode := by simp [State.setScPc]
@[simp] theorem State.writeRecord_mode (n : Nat) (r : ScRec) : (s.writeRecord n r).mode = s.mode := by simp [State.writeRecord]
@[simp] theorem State.afterRecord_mode (n st : Nat) : (s.afterRecord n st).mode = s.mode := by simp [State.afterRecord]
@[simp] theorem State.appendRecord_mode (n : Nat) (r : ScRec) (pc st : Nat) : (s.appendRecord n r pc st).mode = s.mode := by simp [State.appendRecord]
@[simp] theorem State.scError_mode (n code : Nat) : (s.scError n code).mode = s.mode := by simp [State.scError]
@[simp] theorem State.scEcc_mode (l : List Ecc) : (s.scEcc l).1.mode = s.mode := by simp [State.scEcc]
@[simp] theorem State.runOn_mode (n pc : Nat) : (s.runOn n pc).mode = s.mode := by
  unfold State.runOn
  dsimp only
  (repeat' split) <;> simp
@[simp] theorem State.recordAndRun_mode (n : Nat) (r : ScRec) (pc : Nat) : (s.recordAndRun n r pc).mode = s.mode := by simp [State.recordAndRun]
@[simp] theorem State.scStep_mode (n op : Nat) (ecc : List Ecc) (f : State → BitVec 64 → State) (hf : ∀ u x, (f u x).mode = u.mode) :
    (s.scStep n op ecc f).mode = s.mode := by
  unfold State.scStep
  dsimp only
  (repeat' split) <;> simp [hf]
@[simp] theorem State.scStop_mode (n : Nat) (ecc : List Ecc) : (s.scStop n ecc).mode = s.mode := by simp [State.scStop]
@[simp] theorem State.scSignal_mode (n : Nat) (ecc : List Ecc) : (s.scSignal n ecc).mode = s.mode := by simp [State.scSignal]
@[simp] theorem State.scJump_mode (n : Nat) (ecc : List Ecc) : (s.scJump n ecc).mode = s.mode := by simp [State.scJump]
@[simp] theorem State.scLoop_mode (n : Nat) (ecc : List Ecc) : (s.scLoop n ecc).mode = s.mode := by simp [State.scLoop]
@[simp] theorem State.scEndl_mode (n : Nat) (ecc : List Ecc) : (s.scEndl n ecc).mode = s.mode := by
  refine State.scStep_mode _ _ _ _ _ fun u w => ?_
  split <;> simp
@[simp] theorem State.scRead_mode (sp a n : Nat) : (s.scRead sp a n).1.mode = s.mode := by
  unfold State.scRead
  split
  · exact State.mode_foldl_fst _ _ _ fun x k => by simp
  all_goals rfl
@[simp] theorem State.scWrite_mode (sp a : Nat) (bs : List Byte) : (s.scWrite sp a bs).mode = s.mode := by
  unfold State.scWrite
  split <;> simp
@[simp] theorem State.streamOn_mode (q : Qspi) (n : Nat) : (s.streamOn q n).mode = s.mode := by simp [State.streamOn]
@[simp] theorem State.portRead_mode (p n : Nat) : (s.portRead p n).1.mode = s.mode := by
  unfold State.portRead
  (repeat' split) <;> simp
@[simp] theorem State.portWrite_mode (p : Nat) (bs : List Byte) : (s.portWrite p bs).mode = s.mode := by
  unfold State.portWrite
  (repeat' split) <;> simp
@[simp] theorem State.scFold_mode (x : Xfer) (n : Nat) (bs : List Byte) : (s.scFold x n bs).mode = s.mode := by simp [State.scFold]
@[simp] theorem State.moveBytes_mode (n : Nat) (x : Xfer) (len : Nat) : (s.moveBytes n x len).1.mode = s.mode := by
  unfold State.moveBytes
  dsimp only
  (repeat' split) <;> simp
@[simp] theorem State.swapBytes_mode (n : Nat) (x : Xfer) (len : Nat) : (s.swapBytes n x len).1.mode = s.mode := by simp [State.swapBytes]
@[simp] theorem State.movexBytes_mode (n : Nat) (x : Xfer) : (s.movexBytes n x).1.mode = s.mode := by
  simp [State.movexBytes]
@[simp] theorem State.xferEnd_mode (n : Nat) (x : Xfer) : (s.xferEnd n x).mode = s.mode := by simp [State.xferEnd]
@[simp] theorem State.scXfer_mode (n op : Nat) (ecc : List Ecc) : (s.scXfer n op ecc).mode = s.mode := by
  refine State.scStep_mode _ _ _ _ _ fun u w => ?_
  dsimp only
  (repeat' split) <;> simp
@[simp] theorem State.burstEnd_mode (n : Nat) (x : Xfer) (ecc : Bool) : (s.burstEnd n x ecc).mode = s.mode := by
  unfold State.burstEnd
  split <;> simp
@[simp] theorem State.burstBegin_mode (n : Nat) (ecc : Bool) : (s.burstBegin n ecc).mode = s.mode := by
  unfold State.burstBegin
  dsimp only
  (repeat' split) <;> simp
@[simp] theorem State.reqWithdraw_mode (n kept : Nat) : (s.reqWithdraw n kept).mode = s.mode := by
  unfold State.reqWithdraw
  (repeat' split) <;> simp
@[simp] theorem State.moveOn_mode (n : Nat) (x : Xfer) (len : Nat) : (s.moveOn n x len).1.mode = s.mode := by
  unfold State.moveOn
  dsimp only
  (repeat' split) <;> simp
@[simp] theorem State.shareRate_mode (n : Nat) (x : Xfer) : (s.shareRate n x).mode = s.mode := by
  refine (State.each_mode _ _ _ fun u y => ?_).trans (State.advance_mode _ _)
  split <;> simp
@[simp] theorem State.xferDone_mode (n : Nat) (ecc : Bool) : (s.xferDone n ecc).mode = s.mode := by
  unfold State.xferDone
  dsimp only
  (repeat' split) <;> simp
@[simp] theorem State.waitEnds_mode (n : Nat) (w : BitVec 64) : (s.waitEnds n w).mode = s.mode := by simp [State.waitEnds]
@[simp] theorem State.scWait_mode (n : Nat) (ecc : List Ecc) : (s.scWait n ecc).mode = s.mode := by simp [State.scWait]
@[simp] theorem State.scWaitDone_mode (n : Nat) : (s.scWaitDone n).mode = s.mode := by
  unfold State.scWaitDone
  split <;> simp
@[simp] theorem State.scWaitTimeout_mode (n : Nat) : (s.scWaitTimeout n).mode = s.mode := by
  unfold State.scWaitTimeout
  split <;> simp
@[simp] theorem State.chCtrl_mode (n : Nat) (w : Word) : (s.chCtrl n w).mode = s.mode := by simp [State.chCtrl]
@[simp] theorem State.doorbell_mode (w : Word) : (s.doorbell w).mode = s.mode := by simp [State.doorbell]
@[simp] theorem State.consIdx_mode (n : Nat) (w : Word) : (s.consIdx n w).mode = s.mode := by
  unfold State.consIdx
  dsimp only
  (repeat' split) <;> simp
@[simp] theorem State.pmemAdvance_mode : s.pmemAdvance.mode = s.mode := by simp [State.pmemAdvance]
@[simp] theorem State.pmemHiWrite_mode (w : Word) : (s.pmemHiWrite w).mode = s.mode := by simp [State.pmemHiWrite]
@[simp] theorem State.pmemLoRead_mode : s.pmemLoRead.mode = s.mode := by simp [State.pmemLoRead]
@[simp] theorem State.pmemHiRead_mode : s.pmemHiRead.mode = s.mode := by simp [State.pmemHiRead]

/-! ### Accesses over the links (R8 to R29) -/

@[simp] theorem State.writeGlide_mode (p off a : Nat) (w : Word) : (s.writeGlide p off a w).mode = s.mode := by simp [State.writeGlide]
@[simp] theorem State.writeTxch_mode (t off a : Nat) (w : Word) : (s.writeTxch t off a w).mode = s.mode := by simp [State.writeTxch]
@[simp] theorem State.writeRxch_mode (t off a : Nat) (w : Word) : (s.writeRxch t off a w).mode = s.mode := by simp [State.writeRxch]
@[simp] theorem State.writeSlalom_mode (off a : Nat) (w : Word) : (s.writeSlalom off a w).mode = s.mode := by simp [State.writeSlalom]
@[simp] theorem State.writeTdpd_mode (t off a : Nat) (w : Word) : (s.writeTdpd t off a w).mode = s.mode := by simp [State.writeTdpd]
@[simp] theorem State.writeHdpd_mode (off a : Nat) (w : Word) : (s.writeHdpd off a w).mode = s.mode := by simp [State.writeHdpd]
@[simp] theorem State.calCmdWrite_mode (t : Nat) (w : Word) : (s.calCmdWrite t w).mode = s.mode := by simp [State.calCmdWrite]
@[simp] theorem State.writeDfly_mode (t off a : Nat) (w : Word) : (s.writeDfly t off a w).mode = s.mode := by simp [State.writeDfly]
@[simp] theorem State.writeSeq_mode (t off a : Nat) (w : Word) : (s.writeSeq t off a w).mode = s.mode := by simp [State.writeSeq]
@[simp] theorem State.writeBias_mode (t off a : Nat) (w : Word) : (s.writeBias t off a w).mode = s.mode := by simp [State.writeBias]
@[simp] theorem State.writeRffe_mode (t off a : Nat) (w : Word) : (s.writeRffe t off a w).mode = s.mode := by simp [State.writeRffe]
@[simp] theorem State.writeSpll_mode (t off a : Nat) (w : Word) : (s.writeSpll t off a w).mode = s.mode := by simp [State.writeSpll]
@[simp] theorem State.writeLpll_mode (t off a : Nat) (w : Word) : (s.writeLpll t off a w).mode = s.mode := by simp [State.writeLpll]
@[simp] theorem State.writeHpll_mode (off a : Nat) (w : Word) (ofs : Int) : (s.writeHpll off a w ofs).mode = s.mode := by simp [State.writeHpll]
@[simp] theorem State.writeLaneq_mode (off a : Nat) (w : Word) : (s.writeLaneq off a w).mode = s.mode := by simp [State.writeLaneq]
@[simp] theorem State.jrnCfgWrite_mode (w : Word) : (s.jrnCfgWrite w).mode = s.mode := by simp [State.jrnCfgWrite]
@[simp] theorem State.writeMac_mode (off a : Nat) (w : Word) : (s.writeMac off a w).mode = s.mode := by simp [State.writeMac]
@[simp] theorem State.writeBurog_mode (off a : Nat) (w : Word) : (s.writeBurog off a w).mode = s.mode := by simp [State.writeBurog]
@[simp] theorem State.writeCu_mode (off a : Nat) (w : Word) : (s.writeCu off a w).mode = s.mode := by
  unfold State.writeCu
  (repeat' split) <;> simp
@[simp] theorem State.writeTimeRegs_mode (off a : Nat) (w : Word) : (s.writeTimeRegs off a w).mode = s.mode := by simp [State.writeTimeRegs]
@[simp] theorem State.dramCmdWrite_mode (w : Word) : (s.dramCmdWrite w).mode = s.mode := by
  unfold State.dramCmdWrite
  split <;> simp
@[simp] theorem State.writeDramc_mode (off a : Nat) (w : Word) : (s.writeDramc off a w).mode = s.mode := by simp [State.writeDramc]
@[simp] theorem State.writeScarab_mode (off a : Nat) (w : Word) : (s.writeScarab off a w).mode = s.mode := by simp [State.writeScarab]
@[simp] theorem State.writeHive_mode (off a : Nat) (w : Word) : (s.writeHive off a w).mode = s.mode := by simp [State.writeHive]
@[simp] theorem State.writePmu_mode (off a : Nat) (w : Word) (lat : Nat) : (s.writePmu off a w lat).mode = s.mode := by simp [State.writePmu]
@[simp] theorem State.writeRilyn_mode (off a : Nat) (w : Word) : (s.writeRilyn off a w).mode = s.mode := by simp [State.writeRilyn]
@[simp] theorem State.writeHkadc_mode (d off a : Nat) (w : Word) : (s.writeHkadc d off a w).mode = s.mode := by simp [State.writeHkadc]
@[simp] theorem State.writeTherm_mode (d off a : Nat) (w : Word) : (s.writeTherm d off a w).mode = s.mode := by simp [State.writeTherm]
@[simp] theorem State.writeAt_mode (a : Nat) (w : Word) (lat : Nat) (ofs : Int) : (s.writeAt a w lat ofs).mode = s.mode := by
  unfold State.writeAt
  (repeat' split) <;> simp
@[simp] theorem State.writeOne_mode (a : Nat) (w : Word) (lat : Nat) (ofs : Int) : (s.writeOne a w lat ofs).mode = s.mode := by simp [State.writeOne]
@[simp] theorem State.linkWrite_mode (a : Nat) (w : Word) (lat : Nat) (ofs : Int) : (s.linkWrite a w lat ofs).mode = s.mode := by
  simp [State.linkWrite]
@[simp] theorem State.broadcast_mode (a : Nat) (w : Word) : (s.broadcast a w).mode = s.mode := by
  simp [State.broadcast, State.each, tiles]
@[simp] theorem State.writeReg_mode (a : Nat) (w : Word) : (s.writeReg a w).mode = s.mode := by simp [State.writeReg]
@[simp] theorem State.ownWrite_mode (a : Nat) (w : Word) : (s.ownWrite a w).mode = s.mode := by simp [State.ownWrite]
@[simp] theorem State.hostWrite_mode (a : BitVec 28) (w : Word) (bytes : BitVec 4) (lat : Nat) (ofs : Int) :
    (s.hostWrite a w bytes lat ofs).mode = s.mode := by simp [State.hostWrite]
@[simp] theorem State.jrnNextRead_mode : s.jrnNextRead.mode = s.mode := by simp [State.jrnNextRead]
@[simp] theorem State.clipRead_mode (a t i : Nat) (rx : Bool) : (s.clipRead a t i rx).mode = s.mode := by simp [State.clipRead]
@[simp] theorem State.readAt_mode (a : Nat) : (s.readAt a).mode = s.mode := by
  unfold State.readAt
  split <;> simp
@[simp] theorem State.readReg_mode (a : Nat) : (s.readReg a).mode = s.mode := by simp [State.readReg]
@[simp] theorem State.unoccupiedRead_mode (a : Nat) : (s.unoccupiedRead a).mode = s.mode := by simp [State.unoccupiedRead]
@[simp] theorem State.tileAllRead_mode : s.tileAllRead.mode = s.mode := by simp [State.tileAllRead]

/-! ### Glide instructions (chapter 2) -/

@[simp] theorem State.gFault_mode (p code at_ : Nat) : (s.gFault p code at_).mode = s.mode := by simp [State.gFault]
@[simp] theorem State.gGoto_mode (p at_ pc cost : Nat) : (s.gGoto p at_ pc cost).mode = s.mode := by simp [State.gGoto]
@[simp] theorem State.gNext_mode (p : Nat) : (s.gNext p).mode = s.mode := by simp [State.gNext]
@[simp] theorem State.gJump_mode (p pc : Nat) : (s.gJump p pc).mode = s.mode := by simp [State.gJump]
@[simp] theorem State.gIssue_mode (p op : Nat) (ecc : Ecc) (f : State → BitVec 64 → State) (hf : ∀ u x, (f u x).mode = u.mode) :
    (s.gIssue p op ecc f).mode = s.mode := by simp [State.gIssue, hf]
@[simp] theorem State.setGReg_mode (p n : Nat) (v : BitVec 64) : (s.setGReg p n v).mode = s.mode := by simp [State.setGReg]
@[simp] theorem State.gAlu_mode (p op : Nat) (ecc : Ecc) (f : BitVec 64 → BitVec 64 → BitVec 64) : (s.gAlu p op ecc f).mode = s.mode := by
  simp [State.gAlu]
@[simp] theorem State.gMov_mode (p : Nat) (ecc : Ecc) : (s.gMov p ecc).mode = s.mode := by simp [State.gMov]
@[simp] theorem State.gCmp_mode (p : Nat) (ecc : Ecc) : (s.gCmp p ecc).mode = s.mode := by simp [State.gCmp]
@[simp] theorem State.gBr_mode (p : Nat) (ecc : Ecc) : (s.gBr p ecc).mode = s.mode := by simp [State.gBr]
@[simp] theorem State.gJmp_mode (p : Nat) (ecc : Ecc) : (s.gJmp p ecc).mode = s.mode := by simp [State.gJmp]
@[simp] theorem State.gCall_mode (p : Nat) (ecc : Ecc) : (s.gCall p ecc).mode = s.mode := by simp [State.gCall]
@[simp] theorem State.gRet_mode (p : Nat) (ecc : Ecc) : (s.gRet p ecc).mode = s.mode := by
  refine State.gIssue_mode _ _ _ _ _ fun u w => ?_
  split <;> simp
@[simp] theorem State.gLoop_mode (p : Nat) (ecc : Ecc) : (s.gLoop p ecc).mode = s.mode := by simp [State.gLoop]
@[simp] theorem State.gEndl_mode (p : Nat) (ecc : Ecc) : (s.gEndl p ecc).mode = s.mode := by
  refine State.gIssue_mode _ _ _ _ _ fun u w => ?_
  dsimp only
  split <;> simp
@[simp] theorem State.gHalt_mode (p : Nat) (ecc : Ecc) : (s.gHalt p ecc).mode = s.mode := by simp [State.gHalt]
@[simp] theorem State.gSet_mode (p : Nat) (ecc : Ecc) : (s.gSet p ecc).mode = s.mode := by simp [State.gSet]
@[simp] theorem State.gGet_mode (p : Nat) (ecc : Ecc) : (s.gGet p ecc).mode = s.mode := by simp [State.gGet]
@[simp] theorem State.gGot_mode (p : Nat) (v : Word) : (s.gGot p v).mode = s.mode := by simp [State.gGot]
@[simp] theorem State.getReturn_mode (p after : Nat) : (s.getReturn p after).mode = s.mode := by simp [State.getReturn]
@[simp] theorem State.gSig_mode (p : Nat) (ecc : Ecc) : (s.gSig p ecc).mode = s.mode := by simp [State.gSig]
@[simp] theorem State.gAlign_mode (p : Nat) (ecc : Ecc) : (s.gAlign p ecc).mode = s.mode := by simp [State.gAlign]
@[simp] theorem State.gTake_mode (p src : Nat) : (s.gTake p src).mode = s.mode := by simp [State.gTake]
@[simp] theorem State.gWaited_mode (p outcome : Nat) : (s.gWaited p outcome).mode = s.mode := by simp [State.gWaited]
@[simp] theorem State.gWait_mode (p : Nat) (w : BitVec 64) (st : GState) (what : Nat) : (s.gWait p w st what).mode = s.mode := by simp [State.gWait]
@[simp] theorem State.waitevDone_mode (p : Nat) : (s.waitevDone p).mode = s.mode := by simp [State.waitevDone]
@[simp] theorem State.gWaitev_mode (p : Nat) (ecc : Ecc) : (s.gWaitev p ecc).mode = s.mode := by simp [State.gWaitev]
@[simp] theorem State.waitlockDone_mode (p : Nat) : (s.waitlockDone p).mode = s.mode := by
  unfold State.waitlockDone
  dsimp only
  (repeat' split) <;> simp
@[simp] theorem State.gWaitlock_mode (p : Nat) (ecc : Ecc) : (s.gWaitlock p ecc).mode = s.mode := by simp [State.gWaitlock]
@[simp] theorem State.waitTimeout_mode (p : Nat) : (s.waitTimeout p).mode = s.mode := by
  unfold State.waitTimeout
  dsimp only
  (repeat' split) <;> simp
@[simp] theorem State.fenceRelease_mode (p : Nat) : (s.fenceRelease p).mode = s.mode := by simp [State.fenceRelease]
@[simp] theorem State.gFence_mode (p : Nat) (ecc : Ecc) : (s.gFence p ecc).mode = s.mode := by simp [State.gFence]
@[simp] theorem State.gPush_mode (p : Nat) (b : Bundle) (dst : BitVec 4) : (s.gPush p b dst).mode = s.mode := by simp [State.gPush]
@[simp] theorem State.gAt_mode (p op : Nat) (ecc : Ecc) (eccs : List Ecc) : (s.gAt p op ecc eccs).mode = s.mode := by
  refine State.gIssue_mode _ _ _ _ _ fun u w => ?_
  dsimp only
  (repeat' split) <;> simp
@[simp] theorem State.stallRelease_mode (p : Nat) : (s.stallRelease p).mode = s.mode := by
  unfold State.stallRelease
  dsimp only
  (repeat' split) <;> simp
@[simp] theorem State.applyBundle_mode (die proc : Nat) (b : Bundle) (at_ : Nat) : (s.applyBundle die proc b at_).mode = s.mode := by
  refine State.each_mode _ _ _ fun u r => ?_
  dsimp only
  split <;> simp
@[simp] theorem State.bundleLate_mode (p : Nat) (remote : Bool) (b : Bundle) : (s.bundleLate p remote b).mode = s.mode := by
  have hregs : ∀ x y z, (((((s.raise (Ev.GLIDE_LATE p)).bump (GLIDE_LATE_COUNT p) (GLIDE_CNT_FLAGS p) 0 1).setReg (GLIDE_LATE_TIME_LO p) x).setReg
    (GLIDE_LATE_TIME_HI p) y).setReg (GLIDE_LATE_INFO p) z).mode = s.mode := by simp
  exact hregs _ _ _
@[simp] theorem State.judgeBundle_mode (p die proc : Nat) (b : Bundle) : (s.judgeBundle p die proc b).1.mode = s.mode := by
  unfold State.judgeBundle
  split <;> simp
@[simp] theorem State.dispatchLocal_mode (p : Nat) : (s.dispatchLocal p).mode = s.mode := by
  unfold State.dispatchLocal
  split <;> simp
@[simp] theorem State.dispatchFifo_mode (t : Nat) : (s.dispatchFifo t).mode = s.mode := by
  unfold State.dispatchFifo
  split <;> simp
@[simp] theorem State.txonAt_mode (t : Nat) (cmask : BitVec 4) (pmask : BitVec 16) : (s.txonAt t cmask pmask).mode = s.mode := by simp [State.txonAt]
@[simp] theorem State.radioAt_mode (t proc : Nat) (r : Radio) : (s.radioAt t proc r).mode = s.mode := by
  unfold State.radioAt
  split <;> simp
@[simp] theorem State.atEffect_mode (die : Nat) (sel : Radio → Bool) : (s.atEffect die sel).mode = s.mode := by
  unfold State.atEffect
  split <;> simp
@[simp] theorem State.d2dError_mode (t : Nat) (hit : D2dHit) : (s.d2dError t hit).mode = s.mode := by
  unfold State.d2dError
  (repeat' split) <;> simp
@[simp] theorem State.linkTimeout_mode (t : Nat) : (s.linkTimeout t).mode = s.mode := by simp [State.linkTimeout]
@[simp] theorem State.perstRelease_mode : s.perstRelease.mode = s.mode := by simp [State.perstRelease]

/-! ### Steps of a start (R416) -/

@[simp] theorem State.startFresh_mode (warm : Bool) : (s.startFresh warm).mode = s.mode := by simp [State.startFresh]
@[simp] theorem State.bootTalk_mode : s.bootTalk.mode = s.mode := by
  refine State.when_mode _ _ _ fun u => ?_
  exact u.useFree.each_mode (Config.bootMessage u.free) (fun v b => v.emit (.uart b)) fun _ _ => rfl

end Sys2Proof.Machine
end

section
/-!
PROOFS. The changes of mode: where each command that can change it leads (R30 to R36, R399, R419, R424, R427, R458).
-/
namespace Sys2Proof.Machine
open Reg F

section
variable (s : State)

theorem State.porAssert_mode : s.porAssert.mode = if s.mode = .standby then .standby else .boot := by
  unfold State.porAssert
  dsimp only
  split
  · simpa
  · simp

theorem State.porRelease_stays (gpio : BitVec 2) : s.StaysOr .boot (s.porRelease gpio) := by
  unfold State.porRelease
  dsimp only
  (repeat' split) <;> simp [State.StaysOr]

theorem State.warmPulse_stays : s.StaysOr .boot s.warmPulse := by
  unfold State.warmPulse
  exact .ite (fun _ => .refl s _) fun _ => .moves (State.trigger_mode _ _)

theorem State.railsValid_stays : s.StaysOr .boot s.railsValid := by
  unfold State.railsValid
  exact .ite (fun _ => .moves (State.trigger_mode _ _)) fun _ => .stays (State.setBit_mode _ _ _ _)

theorem State.railReset_mode : s.railReset.mode = .standby := s.enterStandby_mode false

theorem State.restartBegin_stays : s.StaysOr .boot s.restartBegin := by
  unfold State.restartBegin
  dsimp only
  split
  · refine .moves ?_
    split <;> exact State.trigger_mode _ _
  · exact .refl s _

theorem State.recovered_mode : s.recovered.mode = .boot := State.trigger_mode _ _

theorem State.enterRecovery_mode : s.enterRecovery.mode = .recovery := by
  simp [State.enterRecovery, State.enterMode_mode]

theorem State.failStart_stays (code step : Nat) : s.StaysOr .recovery (s.failStart code step) := by
  unfold State.failStart
  split
  · exact .refl s _
  · refine .ite (fun _ => .ite (fun _ => ?_) fun _ => ?_) fun _ => .ite (fun _ => ?_) fun _ => .ite (fun _ => ?_) fun _ => ?_
    case refine_5 => exact .moves (State.enterRecovery_mode _)
    all_goals exact .stays (by simp)

theorem State.startWatchdog_stays (step : Nat) : s.StaysOr .recovery (s.startWatchdog step) := by
  unfold State.startWatchdog
  split
  · exact .after (State.advance_mode _ _) (State.failStart_stays _ _ _)
  · exact .refl s _

theorem State.startFailure_stays (code step : Nat) : s.StaysOr .recovery (s.startFailure code step) := by
  have hfail := s.failStart_stays
  unfold State.startFailure
  split
  · exact .refl s _
  · split
    · exact .ite (fun _ => hfail ..) fun _ => .refl s _
    · exact .ite (fun _ => hfail ..) fun _ => .refl s _
    · exact hfail ..
    · exact .ite (fun _ => hfail ..) fun _ => .refl s _
    · exact hfail ..
    · exact .refl s _

theorem State.lockstep_mode (step : Nat) :
    (s.lockstep step).mode = s.mode ∨ (s.lockstep step).mode = .boot ∨ (s.lockstep step).mode = .recovery := by
  unfold State.lockstep
  split
  · exact .inl rfl
  · split
    · exact (s.failStart_stays 5 step).imp_right .inr
    · exact .inr (.inl (State.trigger_mode _ _))

theorem State.applyRecord_stays (delays : Bool) : s.StaysOr .boot (s.applyRecord delays) := by
  have hdelays : ∀ l : List (Nat × Word), (s.each l fun u x => u.setReg x.1 x.2).mode = s.mode :=
    fun l => s.each_mode l _ fun _ _ => State.setReg_mode _ _ _
  unfold State.applyRecord
  dsimp only
  split
  · exact .moves rfl
  · exact .stays ((State.setBit_mode _ _ _ _).trans (hdelays _))

theorem State.startBegin_stays (warm : Bool) : s.StaysOr .boot (s.startBegin warm) := by
  unfold State.startBegin
  extract_lets asCold u0 u1 u2 u3 held v
  have hu0 : u0.mode = s.mode := by simp [u0]
  have hu1 : u1.mode = s.mode := by simp [u1, hu0]
  have hu2 : u2.mode = s.mode := by simp [u2, hu1]
  have hu3 : u3.mode = s.mode := by simp [u3, hu2]
  have hv : u3.StaysOr .boot v := (u3.applyRecord_stays _).next (State.each_mode _ _ _ fun w c => by split <;> simp)
  exact .after hu3 (hv.next (by simp))

theorem State.startNow_stays (warm : Bool) : s.StaysOr .boot (s.startNow warm) := by
  unfold State.startNow
  extract_lets u
  have hu : s.StaysOr .boot u := .ite (fun _ => s.restartBegin_stays) fun _ => .refl s _
  clear_value u
  split
  · rcases u.startBegin_stays warm with h | h
    · exact hu.next h
    · exact .moves h
  · exact .refl s _

theorem State.startComplete_stays (after : Nat) : s.StaysOr .configure (s.startComplete after) := by
  unfold State.startComplete
  split
  · exact .refl s _
  · refine .ite (fun _ => .refl s _) fun _ => .moves ?_
    simp [State.enterMode_mode]

theorem State.imgEnd_stays (img : Option (Word × Nat)) : s.StaysOr .boot (s.imgEnd img) := by
  unfold State.imgEnd State.rilynFlash
  refine .ite (fun _ => State.rilyn_stays _ _ _ fun u c => ?_) fun _ => .refl s _
  split
  · exact .stays (by simp)
  · dsimp only
    (repeat' split) <;> simp [State.StaysOr, State.recovered_mode]

theorem State.recoveryPoll_stays (img : Option (Word × Nat)) : s.StaysOr .boot (s.recoveryPoll img) := by
  unfold State.recoveryPoll
  refine .ite (fun _ => .refl s _) fun _ => ?_
  split
  · exact .ite (fun _ => .moves (State.recovered_mode _)) fun _ => .refl s _
  · exact .refl s _

theorem State.shutPowerDown_stays (after : Nat) : s.StaysOr .standby (s.shutPowerDown after) := by
  unfold State.shutPowerDown
  split
  · exact .refl s _
  · exact .moves (State.enterStandby_mode _ _)

theorem State.criticalTrip_stays (d after : Nat) : s.StaysOr .standby (s.criticalTrip d after) := by
  unfold State.criticalTrip
  exact .ite (fun _ => .refl s _) fun _ => .after (State.shutAt_mode _ _ _) (State.shutPowerDown_stays _ _)

theorem State.reachMode_mode (tr : Trans) : (s.reachMode tr).mode = tr.target := by
  unfold State.reachMode
  dsimp only
  split
  · next h => exact (State.enterMode_mode _ _).trans h.2.symm
  · exact State.enterMode_mode _ _

/-- A transition that shuts quads down waits for them; otherwise it ends in its mode. -/
theorem State.transDone_mode {tr : Trans} (after : Nat) (htr : s.trans = some tr) (hdown : tr.shutdown = false ∨ s.allDown = true) :
    (s.transDone after).mode = tr.target := by
  have hwait : ¬ (tr.shutdown && !s.allDown) = true := by rcases hdown with h | h <;> simp [h]
  unfold State.transDone
  rw [htr]
  dsimp only
  rw [if_neg hwait, State.afterTrans_mode, State.startCalReached_mode, State.reachMode_mode]

/-- With no transition, or with one that waits for a quad, nothing happens. -/
theorem State.transDone_wait (after : Nat) (h : s.trans = none ∨ ∃ tr, s.trans = some tr ∧ tr.shutdown = true ∧ s.allDown = false) :
    s.transDone after = s := by
  unfold State.transDone
  rcases h with h | ⟨tr, h, hsd, hdown⟩
  · rw [h]
  · rw [h]
    simp [hsd, hdown]

theorem State.aonPowerUp_mode : s.aonPowerUp.mode = .standby := rfl
end

/-! ### The statement -/

/-- The commands through which the mode may change. -/
def Instr.changesMode : Instr → Bool
  | .railResetTimeout | .aonPowerUp | .shutdownPowerDown _ | .criticalTrip .. | .porNAssert | .porNRelease _ | .warmNPulse | .coldStart
  | .warmStart | .railsValid | .recoveryPoll _ | .imgEnd _ | .lockstepMismatch _ | .startFailure .. | .startWatchdog _ | .startComplete _
  | .modeTransitionDone _ => true
  | _ => false

section
variable {i : Instr} {s t u : State} {m : Mode}

/-- Judging the MSI vectors changes no mode. -/
theorem exec_mode_of_done (h : exec i s = .next t) (hi : exec i s = done u) : t.mode = u.mode := by
  rw [hi] at h
  obtain rfl := Host.Outcome.next.inj h
  exact u.settle_mode

/-- Every other command keeps the mode. -/
theorem exec_keeps_mode (hi : Instr.changesMode i = false) (h : exec i s = .next t) : t.mode = s.mode := by
  cases i
  case railResetTimeout | aonPowerUp | shutdownPowerDown | criticalTrip | porNAssert | porNRelease | warmNPulse | coldStart | warmStart | railsValid |
    recoveryPoll | imgEnd | lockstepMismatch | startFailure | startWatchdog | startComplete | modeTransitionDone => cases hi
  case coefDataAccess write => cases write <;> exact (exec_mode_of_done h rfl).trans (by simp)
  case bufDataAccess write => cases write <;> exact (exec_mode_of_done h rfl).trans (by simp)
  case storeEccError store found word => cases found <;> exact (exec_mode_of_done h rfl).trans (by simp)
  all_goals exact (exec_mode_of_done h rfl).trans (by simp)

/-- A command that keeps the mode or leads to `m` leads to `m` when it does not keep it. -/
theorem exec_mode_of_staysOr (h : exec i s = .next t) (hne : t.mode ≠ s.mode) (hi : exec i s = done u) (hu : s.StaysOr m u) : t.mode = m := by
  have ht := exec_mode_of_done h hi
  exact ht.trans (hu.resolve_left fun hs => hne (ht.trans hs))
end

/-- Settles O59: the commands that change the mode one by one, each with the mode its meaning leads to; the others keep it. -/
theorem modeChanges : Obligations.ModeChanges := by
  intro i s t h hne
  cases i
  case railResetTimeout => exact .inl ⟨exec_mode_of_done h rfl |>.trans s.railReset_mode, .inl rfl⟩
  case aonPowerUp => exact .inl ⟨exec_mode_of_done h rfl |>.trans s.aonPowerUp_mode, .inr (.inl rfl)⟩
  case shutdownPowerDown n =>
    exact .inl ⟨exec_mode_of_staysOr h hne rfl (s.shutPowerDown_stays n), .inr (.inr (.inl ⟨n, rfl⟩))⟩
  case criticalTrip d n =>
    exact .inl ⟨exec_mode_of_staysOr h hne rfl (s.criticalTrip_stays d n), .inr (.inr (.inr ⟨d, n, rfl⟩))⟩
  case porNAssert =>
    have ht := (exec_mode_of_done h rfl).trans s.porAssert_mode
    have hboot : t.mode = .boot := by
      by_cases hs : s.mode = .standby
      · exact absurd (ht.trans ((if_pos hs).trans hs.symm)) hne
      · exact ht.trans (if_neg hs)
    exact .inr (.inl ⟨hboot, .inl rfl⟩)
  case porNRelease g => exact .inr (.inl ⟨exec_mode_of_staysOr h hne rfl (s.porRelease_stays g), by simp⟩)
  case warmNPulse => exact .inr (.inl ⟨exec_mode_of_staysOr h hne rfl s.warmPulse_stays, by simp⟩)
  case coldStart => exact .inr (.inl ⟨exec_mode_of_staysOr h hne rfl (s.startNow_stays false), by simp⟩)
  case warmStart => exact .inr (.inl ⟨exec_mode_of_staysOr h hne rfl (s.startNow_stays true), by simp⟩)
  case railsValid => exact .inr (.inl ⟨exec_mode_of_staysOr h hne rfl s.railsValid_stays, by simp⟩)
  case recoveryPoll img => exact .inr (.inl ⟨exec_mode_of_staysOr h hne rfl (s.recoveryPoll_stays _), by simp⟩)
  case imgEnd img => exact .inr (.inl ⟨exec_mode_of_staysOr h hne rfl (s.imgEnd_stays _), by simp⟩)
  case lockstepMismatch n =>
    have ht := exec_mode_of_done h rfl
    obtain hs | hb | hr := s.lockstep_mode n
    · exact absurd (ht.trans hs) hne
    · exact .inr (.inl ⟨ht.trans hb, by simp⟩)
    · exact .inr (.inr (.inl ⟨ht.trans hr, by simp⟩))
  case startFailure c n => exact .inr (.inr (.inl ⟨exec_mode_of_staysOr h hne rfl (s.startFailure_stays c n), by simp⟩))
  case startWatchdog n => exact .inr (.inr (.inl ⟨exec_mode_of_staysOr h hne rfl (s.startWatchdog_stays n), by simp⟩))
  case startComplete n => exact .inr (.inr (.inr (.inl ⟨exec_mode_of_staysOr h hne rfl (s.startComplete_stays n), n, rfl⟩)))
  case modeTransitionDone n =>
    have ht := exec_mode_of_done h rfl
    have hmoves : s.transDone n ≠ s := fun hs => hne (by rw [ht, hs])
    cases htr : s.trans with
    | none => exact absurd (s.transDone_wait n (.inl htr)) hmoves
    | some tr =>
      by_cases hdown : tr.shutdown = false ∨ s.allDown = true
      · exact .inr (.inr (.inr (.inr ⟨tr, n, rfl, ht.trans (s.transDone_mode n htr hdown), rfl⟩)))
      · rw [not_or, Bool.not_eq_false, Bool.not_eq_true] at hdown
        exact absurd (s.transDone_wait n (.inr ⟨tr, htr, hdown⟩)) hmoves
  all_goals exact absurd (exec_keeps_mode rfl h) hne

end Sys2Proof.Machine
end

section
/-!
PROOFS. Events at the part's links and pins (chapters 01, 18 and 22): die-to-die errors, resets, ends of transitions (R16, R18, R32, R35, R36, R419,
R479).
-/
namespace Sys2Proof.Machine
open Reg F

/-! ### The die-to-die links (R16, R18) -/

theorem exec_d2dWordError (t : Fin 4) (hit : D2dHit) (s : State) : exec (.d2dWordError t hit) s = done (s.d2dError t hit) := rfl

theorem exec_hubLinkTimeout (t : Fin 4) (s : State) : exec (.hubLinkTimeout t) s = done (s.linkTimeout t) := rfl

theorem exec_porNAssert (s : State) : exec .porNAssert s = done s.porAssert := rfl

theorem exec_porNRelease (gpio : BitVec 2) (s : State) : exec (.porNRelease gpio) s = done (s.porRelease gpio) := rfl

theorem exec_warmNPulse (s : State) : exec .warmNPulse s = done s.warmPulse := rfl

theorem exec_modeTransitionDone (after : Nat) (s : State) : exec (.modeTransitionDone after) s = done (s.transDone after) := rfl

theorem exec_quietResumeBoundary (s : State) : exec .quietResumeBoundary s = done s.quietResume := rfl

/-- The outcome of a command whose meaning is a known state. -/
theorem exec_of_done {i : Instr} {s u v : State} (h : exec i s = done u) (hu : u = v) : exec i s = .next v.settle := by rw [h, hu]; rfl

section
variable (s : State) (t : Fin 4)

theorem State.stored_d2dUncorrectable : (s.raise Ev.D2D_UNCORRECTABLE).stored Ev.D2D_UNCORRECTABLE = true :=
  s.stored_raise_hub _ (by decide) (by decide)

theorem State.stored_d2dUncorrectable_accessError : (s.raise Ev.D2D_UNCORRECTABLE).accessError.stored Ev.D2D_UNCORRECTABLE = true :=
  State.stored_raise_keep _ _ _ (by decide) s.stored_d2dUncorrectable

/-- A corrected word is counted. -/
theorem d2dCorrected_counts : Answers (.d2dWordError t .corrected) s fun u =>
    u.fld (HIVE_D2D_CORRECTED t) HIVE_D2D_CORRECTED_COUNT = min (s.fld (HIVE_D2D_CORRECTED t) HIVE_D2D_CORRECTED_COUNT + 1) (2 ^ 32 - 1) ∧
    Frame [HIVE_D2D_CORRECTED t, HIVE_CNT_FLAGS] s u := by
  have hcnt : eventReg (HIVE_D2D_CORRECTED t) = false := by fin_cases t <;> decide
  have hne : HIVE_D2D_CORRECTED t ≠ HIVE_CNT_FLAGS := by simp only [HIVE_D2D_CORRECTED, HIVE_CNT_FLAGS]; omega
  exact .of_done (exec_d2dWordError ..) ⟨(State.fld_settle ..).trans (s.fld_bump _ _ _ _ hcnt hne),
    ((Frame.refl _ s).bump _ _ _ _ (by simp) (by simp)).settle⟩

/-- A read lost on a link answers 0. -/
theorem d2dRead_lost : Answers (.d2dWordError t .read) s fun u =>
    u.reply = 0 ∧ u.stored Ev.D2D_UNCORRECTABLE = true ∧ u.stored Ev.REG_ACCESS_ERROR = true ∧ Frame [] { s with reply := 0 } u :=
  .of_done (exec_d2dWordError ..) ⟨State.settle_reply _, (State.stored_settle ..).trans s.stored_d2dUncorrectable_accessError,
    (State.stored_settle ..).trans (State.stored_accessError _), (((Frame.refl [] s).raise _).accessError.withReply 0).settle⟩

theorem d2dWrite_lost : Answers (.d2dWordError t .write) s fun u =>
    u.stored Ev.D2D_UNCORRECTABLE = true ∧ u.stored Ev.REG_ACCESS_ERROR = true ∧ Frame [] s u :=
  .of_done (exec_d2dWordError ..) ⟨(State.stored_settle ..).trans s.stored_d2dUncorrectable_accessError,
    (State.stored_settle ..).trans (State.stored_accessError _), ((Frame.refl [] s).raise _).accessError.settle⟩

end

section
variable {l : List Nat} {s u : State}

theorem Keeps.raise (h : Frame l s u) (e : Nat) : Keeps l s (u.raise e) := (h.raise e).keeps

theorem Keeps.trans {v : State} (h : Keeps l s u) (h' : Keeps l u v) : Keeps l s v := by
  obtain ⟨hreg, h1, h2, h3, h4, h5, h6, h7, h8, h9⟩ := h
  obtain ⟨hreg', h1', h2', h3', h4', h5', h6', h7', h8', h9'⟩ := h'
  exact ⟨fun a ha he => (hreg' a ha he).trans (hreg a ha he), h1'.trans h1, h2'.trans h2, h3'.trans h3, h4'.trans h4, h5'.trans h5, h6'.trans h6,
    h7'.trans h7, h8'.trans h8, fun p => (h9' p).trans (h9 p)⟩

theorem Keeps.settle (h : Keeps l s u) : Keeps l s u.settle := h.trans (Frame.refl l u).settle.keeps

theorem Keeps.modTxSym (h : Keeps l s u) (k : Nat) (f : TxSymbol → TxSymbol) : Keeps l s (u.modTxSym k f) := h

theorem Keeps.setTxWord (h : Keeps l s u) (k : Nat) (x : Option Word) : Keeps l s (u.setTxWord k x) := h

theorem Keeps.setPathMark (h : Keeps l s u) (k : Nat) (x : Option Bool) : Keeps l s (u.setPathMark k x) := h

theorem Keeps.setFifo (h : Keeps l s u) (k : Nat) (x : List Bundle) : Keeps l s (u.setFifo k x) := h
end

section
variable (s : State) (t : Fin 4)

theorem State.settle_txWord (k : Nat) : s.settle.txWord k = s.txWord k := by simp [State.txWord]

theorem State.settle_txSym (k : Nat) : s.settle.txSym k = s.txSym k := by simp [State.txSym]

theorem State.settle_pathMark (k : Nat) : s.settle.pathMark k = s.pathMark k := by simp [State.pathMark]

theorem State.settle_fifo (k : Nat) : s.settle.fifo k = s.fifo k := by simp [State.fifo]

theorem d2dTxSample_lost (sym : Nat) (car : Fin 4) (path : Fin 16) (sc : Fin 4096) : Answers (.d2dWordError t (.txSample sym car path sc)) s fun u =>
    u.stored Ev.D2D_UNCORRECTABLE = true ∧ u.txWord (dlKey sym car (16 * t + path) sc) = none ∧
    (u.txSym (symKey sym car t)).invalid.getLsbD path = true ∧ Keeps [] s u := by
  have hbit : ∀ p : Fin 16, (BitVec.ofNat 16 (2 ^ p.toNat)).getLsbD p = true := by decide
  have hkeeps := Keeps.raise (Frame.refl [] s) Ev.D2D_UNCORRECTABLE
  refine .of_done (exec_d2dWordError ..) ⟨(State.stored_settle ..).trans s.stored_d2dUncorrectable, ?_, ?_,
    ((hkeeps.modTxSym _ _).setTxWord _ _).settle⟩
  · rw [State.settle_txWord, State.d2dError, State.txWord_setTxWord, if_pos rfl]
  · have hsym : ∀ (u : State) k f k' x, ((u.modTxSym k f).setTxWord k' x).txSym k = f (u.txSym k) := fun u k f k' x =>
      (State.txSym_setTxSym u k _ k).trans (if_pos rfl)
    rw [State.settle_txSym, State.d2dError, hsym, BitVec.getLsbD_or, hbit, Bool.or_true]

theorem d2dRxSample_lost (sym : Nat) (car : Fin 4) (path : Fin 16) : Answers (.d2dWordError t (.rxSample sym car path)) s fun u =>
    u.stored Ev.D2D_UNCORRECTABLE = true ∧ u.pathMark (ulSymKey sym car (16 * t + path)) = some true ∧ Keeps [] s u := by
  have hkeeps := Keeps.raise (Frame.refl [] s) Ev.D2D_UNCORRECTABLE
  refine .of_done (exec_d2dWordError ..) ⟨(State.stored_settle ..).trans s.stored_d2dUncorrectable, ?_, (hkeeps.setPathMark _ _).settle⟩
  rw [State.settle_pathMark, State.d2dError, State.pathMark_setPathMark, if_pos rfl]

variable {s t}

theorem State.d2dError_bundle {b : Bundle} (hlast : (s.fifo t).getLast? = some b) (hnow : s.now ≤ b.avail) :
    s.d2dError t .bundle = (s.raise Ev.D2D_UNCORRECTABLE).setFifo t (s.fifo t).dropLast := by
  simp only [State.d2dError, hlast, if_pos hnow]

theorem State.d2dError_bundle_arrived (h : ∀ b, (s.fifo t).getLast? = some b → b.avail < s.now) : s.d2dError t .bundle = s := by
  simp only [State.d2dError]
  split
  · next b hlast => exact if_neg (Nat.not_le.2 (h b hlast))
  · rfl

theorem d2dBundle_lost {b : Bundle} (hlast : (s.fifo t).getLast? = some b) (hnow : s.now ≤ b.avail) :
    Answers (.d2dWordError t .bundle) s fun u =>
      u.stored Ev.D2D_UNCORRECTABLE = true ∧ u.fifo t = (s.fifo t).dropLast ∧ Keeps [] s u := by
  have hkeeps := Keeps.raise (Frame.refl [] s) Ev.D2D_UNCORRECTABLE
  refine .of_done ((exec_d2dWordError ..).trans (congrArg done (State.d2dError_bundle hlast hnow)))
    ⟨(State.stored_settle ..).trans s.stored_d2dUncorrectable, ?_, (hkeeps.setFifo _ _).settle⟩
  rw [State.settle_fifo, State.fifo_setFifo, if_pos rfl]

theorem State.d2dError_get (hst : (s.glide 0).st = .waitGet) (hdie : dieOf (s.glide 0).getAddr = 1 + (t : Nat)) :
    s.d2dError t .get = ({ (s.raise Ev.D2D_UNCORRECTABLE).accessError with reply := 0 } : State).gGot 0 0 := by
  simp only [State.d2dError, if_pos (And.intro hst hdie)]

theorem State.d2dError_get_other (h : (s.glide 0).st ≠ .waitGet ∨ dieOf (s.glide 0).getAddr ≠ 1 + (t : Nat)) : s.d2dError t .get = s := by
  simp only [State.d2dError, if_neg (not_and_or.2 h)]

theorem State.d2dError_nextWrite :
    s.d2dError t .nextWrite = { s.raise Ev.D2D_UNCORRECTABLE with struck := s.struck ||| BitVec.ofNat 4 (2 ^ (t : Nat)) } := by
  simp only [State.d2dError, State.raise_struck]

theorem State.linkTimeout_on (hon : s.tileOn t = true) (hmute : s.bit (TXCH_STATUS t) TXCH_STATUS_MUTE_LINK = false) :
    s.linkTimeout t = ((s.setBit (TXCH_STATUS t) TXCH_STATUS_MUTE_LINK true).shutdown t 0xF).raise (Ev.D2D_LINK_DOWN t) := by
  simp [State.linkTimeout, hon, hmute]

theorem State.linkTimeout_idle (h : s.tileOn t = false ∨ s.bit (TXCH_STATUS t) TXCH_STATUS_MUTE_LINK = true) : s.linkTimeout t = s := by
  rw [State.linkTimeout, if_pos (by rcases h with h | h <;> simp [h])]

/-- A struck write reaches its tile as an access error, and the mark is used up. -/
theorem State.hostWrite_struck {a : BitVec 28} (halign : a.toNat % 4 = 0) (hdie : dieOf a.toNat = 1 + (t : Nat)) (hstruck : s.struck.getLsbD t = true)
    (w : Word) (lat : Nat) (ofs : Int) :
    s.hostWrite a w 0xF lat ofs = ({ s with struck := s.struck &&& ~~~ BitVec.ofNat 4 (2 ^ (t : Nat)) } : State).accessError := by
  have ht := t.2
  have hsub : dieOf a.toNat - 1 = t := by omega
  rw [State.hostWrite, if_pos ⟨rfl, halign⟩, if_neg (by omega), State.linkWrite]
  simp only [hsub]
  rw [if_pos ⟨by omega, by omega, hstruck⟩]

theorem struckWrite_lost {a : BitVec 28} (halign : a.toNat % 4 = 0) (hdie : dieOf a.toNat = 1 + (t : Nat)) (hstruck : s.struck.getLsbD t = true)
    (w : Word) (lat : Fin 4) (ofs : Int) (raced : Word) : Answers (.registerWrite a w 0xF lat ofs raced) s fun u =>
      u.struck.getLsbD t = false ∧ u.stored Ev.REG_ACCESS_ERROR = true ∧ ∀ x, eventReg x = false → u.reg x = s.reg x := by
  have hwrite := State.hostWrite_struck (s := { s with racing := raced }) halign hdie hstruck w lat ofs
  have hclear : ∀ (m : BitVec 4) (t : Fin 4), (m &&& ~~~ BitVec.ofNat 4 (2 ^ (t : Nat))).getLsbD t = false := by decide
  refine .of_done (exec_registerWrite ..) ⟨?_, ?_, fun x hx => ?_⟩
  · have hmark : (s.withRace raced fun u => u.hostWrite a w 0xF lat ofs).struck = s.struck &&& ~~~ BitVec.ofNat 4 (2 ^ (t : Nat)) := by
      show (({ s with racing := raced } : State).hostWrite a w 0xF lat ofs).struck = _
      rw [hwrite, State.accessError, State.raise_struck]
    rw [State.settle_struck, hmark, hclear]
  · rw [State.stored_settle, State.stored_withRace, hwrite]
    exact State.stored_accessError _
  · rw [State.reg_settle, State.reg_withRace, hwrite]
    exact State.reg_raise _ _ _ hx
end

/-! ### Resets, starts and transitions -/

section
variable {s : State}

theorem State.porRelease_of_high (h : s.porHigh = true) (gpio : BitVec 2) : s.porRelease gpio = s := by simp [State.porRelease, h]

theorem State.porRelease_of_rails (hpor : s.porHigh = false) (hrails : s.railsIn = true) (gpio : BitVec 2) :
    s.porRelease gpio = ({ s with porHigh := true, strap := gpio } : State).trigger false := by
  simp [State.porRelease, hpor, hrails]

theorem State.porRelease_of_no_rails (hpor : s.porHigh = false) (hrails : s.railsIn = false) (gpio : BitVec 2) :
    s.porRelease gpio = { s with porHigh := true, strap := gpio } := by
  simp [State.porRelease, hpor, hrails]

theorem State.warmPulse_of_ready (hpor : s.porHigh = true) (hrails : s.railsIn = true) (hheld : s.standbyHeld = false) (hshut : s.thermShut = false) :
    s.warmPulse = s.selfRefresh.trigger true := by
  simp [State.warmPulse, hpor, hrails, hheld, hshut]

theorem State.warmPulse_idle (h : s.porHigh = false ∨ s.railsIn = false ∨ s.standbyHeld = true ∨ s.thermShut = true) : s.warmPulse = s := by
  rw [State.warmPulse, if_pos (by rcases h with h | h | h | h <;> simp [h])]

/-- A trigger answers with the part in Boot and a start due. -/
theorem Answers.of_trigger {i : Instr} {u : State} {warm : Bool} (h : exec i s = done (u.trigger warm)) :
    Answers i s fun v => v.mode = .boot ∧ v.startDue = some warm :=
  .of_done h ⟨(State.settle_mode _).trans (u.trigger_mode warm), State.settle_startDue _⟩

theorem State.quietResume_idle (h : s.resumeAt = none ∨ s.mode ≠ .onAir) : s.quietResume = s := by
  unfold State.quietResume
  split
  · next b hb => exact if_neg (h.resolve_left (by simp [hb]))
  · rfl

theorem State.quietResume_of_due {b : Nat} (hb : s.resumeAt = some b) (hmode : s.mode = .onAir) :
    s.quietResume = ({ s.advanceTb b with quietMute := false, resumeAt := none } : State).each tiles State.judgePins := by
  rw [State.quietResume, hb]
  exact if_pos hmode
end

/-- Settles O2: each command is traced to what its meaning makes of the state in the case named. -/
theorem partEvents : Obligations.PartEvents := by
  refine ⟨fun s t => ?links, fun s => ?resets⟩
  case links =>
    exact ⟨d2dCorrected_counts s t, d2dRead_lost s t, d2dWrite_lost s t, d2dTxSample_lost s t, d2dRxSample_lost s t,
      fun b hlast hnow => d2dBundle_lost hlast hnow,
      fun h => exec_of_done (exec_d2dWordError ..) (State.d2dError_bundle_arrived h),
      fun hst hdie => exec_of_done (exec_d2dWordError ..) (State.d2dError_get hst hdie),
      fun h => exec_of_done (exec_d2dWordError ..) (State.d2dError_get_other h),
      fun hon hmute => exec_of_done (exec_hubLinkTimeout ..) (State.linkTimeout_on hon hmute),
      fun h => exec_of_done (exec_hubLinkTimeout ..) (State.linkTimeout_idle h),
      fun a w lat ofs raced halign hdie hstruck => struckWrite_lost halign hdie hstruck w lat ofs raced,
      exec_of_done (exec_d2dWordError ..) State.d2dError_nextWrite, rfl⟩
  case resets =>
    refine ⟨.of_done (exec_porNAssert s) ?assert, ?_, ?_, ?_, ?_, ?_, ?_, ?_, ?_, ?_⟩
    case assert =>
      exact ⟨State.settle_porHigh _, State.settle_startDue _, State.settle_fellBack _, (State.settle_mode _).trans s.porAssert_mode⟩
    · intro hpor hrails gpio
      exact .of_trigger ((exec_porNRelease ..).trans (congrArg done (State.porRelease_of_rails hpor hrails gpio)))
    · intro hpor hrails gpio
      exact exec_of_done (exec_porNRelease ..) (State.porRelease_of_no_rails hpor hrails gpio)
    · intro hpor hrails hheld hshut
      exact .of_trigger ((exec_warmNPulse s).trans (congrArg done (State.warmPulse_of_ready hpor hrails hheld hshut)))
    · intro hpor gpio
      exact exec_of_done (exec_porNRelease ..) (State.porRelease_of_high hpor gpio)
    · intro h
      exact exec_of_done (exec_warmNPulse s) (State.warmPulse_idle h)
    · intro h
      exact exec_of_done (exec_quietResumeBoundary s) (State.quietResume_idle h)
    · intro h after
      exact exec_of_done (exec_modeTransitionDone ..) (s.transDone_wait after h)
    · intro b hb hmode
      exact exec_of_done (exec_quietResumeBoundary s) (State.quietResume_of_due hb hmode)
    · intro tr after htr hdown
      exact .of_done (exec_modeTransitionDone ..) ((State.settle_mode _).trans (s.transDone_mode after htr hdown))

end Sys2Proof.Machine
end

section
/-!
PROOFS. Glide processors at issue (R41 to R47): what the clock, an event and a corrected error leave of a processor, and where it goes on.
-/
namespace Sys2Proof.Machine
open Reg F

/-! ### A processor but for its event flags -/

/-- What does not look at the event flags is the same of processors that differ in them alone. -/
theorem Glide.eq_of_quiet {α : Type} (f : Glide → α) (hf : ∀ g, f g.quiet = f g) {g g' : Glide} (h : g'.quiet = g.quiet) : f g' = f g := by
  rw [← hf g', h, hf]

theorem Frame.glide_field {α : Type} {l : List Nat} {s t : State} (h : Frame l s t) (f : Glide → α) (hf : ∀ g, f g.quiet = f g) (p : Nat) :
    f (t.glide p) = f (s.glide p) := by
  obtain ⟨_, hquiet, _⟩ := h
  exact Glide.eq_of_quiet f hf (hquiet p)

theorem State.settle_glide (s : State) (p : Nat) : s.settle.glide p = s.glide p := by simp [State.glide]

section
variable (s : State) (p : Nat) (ecc : Ecc)

/-- The fetch counts a corrected error, and no more (R43). -/
theorem State.atIssue_frame :
    Frame [GLIDE_IMEM_CORRECTED p, GLIDE_CNT_FLAGS p] (s.advance (s.glide p).nextIssue) (s.atIssue p ecc) := by
  have hrefl := Frame.refl [GLIDE_IMEM_CORRECTED p, GLIDE_CNT_FLAGS p] (s.advance (s.glide p).nextIssue)
  unfold State.atIssue
  split
  · exact hrefl.bump _ _ _ _ (by simp) (by simp)
  · exact hrefl

theorem State.atIssue_field {α : Type} (f : Glide → α) (hf : ∀ g, f g.quiet = f g) (q : Nat) :
    f ((s.atIssue p ecc).glide q) = f (s.glide q) :=
  ((s.atIssue_frame p ecc).glide_field f hf q).trans (congrArg f (s.advance_glide _ q))

theorem State.atIssue_pc : ((s.atIssue p ecc).glide p).pc = (s.glide p).pc := s.atIssue_field p ecc (·.pc) (fun _ => rfl) p

theorem State.atIssue_imemWord (n : Nat) : (s.atIssue p ecc).imemWord p n = s.imemWord p n :=
  s.atIssue_field p ecc (fun g => sget (fun _ => 0) g.imem n) (fun _ => rfl) p
end

theorem gBits_lt (w : BitVec 64) (lo width : Nat) : gBits w lo width < 2 ^ width := Nat.mod_lt _ (by positivity)

section
variable {s : State} {p : Fin 5} {op : Nat} {w : BitVec 64} {ecc : Ecc}

theorem State.Ready.running (h : s.Ready p op w) : (s.glide p).st = .running := by
  obtain ⟨hst, _⟩ := h
  exact hst

theorem State.Ready.pc_lt (h : s.Ready p op w) : (s.glide p).pc < 8191 := by
  obtain ⟨_, _, _, _, _, _, hpc⟩ := h
  exact hpc

theorem State.Ready.op_eq (h : s.Ready p op w) : gOp w = op := by
  obtain ⟨_, _, _, _, hop, _⟩ := h
  exact hop

theorem State.Ready.wellFormed (h : s.Ready p op w) : gWellFormed ((p : Nat) == 0) w = true := by
  obtain ⟨_, _, _, _, _, hwf, _⟩ := h
  exact hwf

theorem State.Ready.atIssue_pc_lt (h : s.Ready p op w) : ((s.atIssue p ecc).glide p).pc < 8191 :=
  (s.atIssue_pc p ecc).trans_lt h.pc_lt
end

/-! ### Going on -/

/-- A processor goes on after a change of itself that leaves its index. -/
theorem State.gNext_modGlide {s : State} {p : Nat} (hpc : (s.glide p).pc < 8191) (f : Glide → Glide) (hf : ∀ g, (f g).pc = g.pc) :
    (s.modGlide p f).gNext p = (s.modGlide p f).modGlide p fun g => g.went s.now (g.pc + 1) 4 :=
  State.gNext_eq _ _ (by rw [s.glide_modGlide_same, hf]; exact hpc)

theorem State.gNext_setGReg {s : State} {p : Nat} (hpc : (s.glide p).pc < 8191) (n : Nat) (v : BitVec 64) :
    (s.setGReg p n v).gNext p = (s.setGReg p n v).modGlide p fun g => g.went s.now (g.pc + 1) 4 :=
  State.gNext_modGlide hpc _ fun g => g.setReg_pc n v

/-! ### Arithmetic (R42, Table 2-4) -/

section
variable {s : State} {p : Fin 5} {op : Nat} {w : BitVec 64} {ecc : Ecc}

theorem State.gAlu_ready (h : s.Ready p op w) (hvalid : gValid op = true) (hradio : gRadio op = false) (hecc : ecc ≠ .fatal)
    (f : BitVec 64 → BitVec 64 → BitVec 64) :
    s.gAlu p op ecc f = ((s.atIssue p ecc).setGReg p (gBits w 52 4)
      (f ((s.atIssue p ecc).gReg p (gBits w 48 4)) ((s.atIssue p ecc).gB p w))).modGlide p fun g =>
        g.went (s.atIssue p ecc).now (g.pc + 1) 4 :=
  (State.gIssue_ready h hvalid hradio hecc _).trans (State.gNext_setGReg h.atIssue_pc_lt _ _)

theorem State.gCmp_ready (h : s.Ready p 0x37 w) (hecc : ecc ≠ .fatal) :
    let u := s.atIssue p ecc
    let a := u.gReg p (gBits w 48 4)
    let b := u.gB p w
    s.gCmp p ecc = (u.modGlide p fun g => { g with z := a == b, lt := decide (a.toInt < b.toInt), ltu := decide (a.toNat < b.toNat) }).modGlide p
      fun g => g.went u.now (g.pc + 1) 4 :=
  (State.gIssue_ready h rfl rfl hecc _).trans (State.gNext_modGlide h.atIssue_pc_lt _ fun _ => rfl)

/-- MOV writes the value that its selector names. -/
theorem State.gMov_ready (h : s.Ready p 0x30 w) (hecc : ecc ≠ .fatal) :
    let u := s.atIssue p ecc
    let rd := gBits w 52 4
    ∃ v, s.gMov p ecc = ((u.setGReg p rd v).modGlide p fun g => g.went u.now (g.pc + 1) 4) ∧
      (gBits w 48 2 = 0 → v = (BitVec.ofNat 48 (gBits w 0 48)).signExtend 64) ∧
      (gBits w 48 2 = 1 → v = u.gReg p (gBits w 44 4)) ∧
      (gBits w 48 2 = 2 → v = BitVec.ofNat 16 (gBits w 0 16) ++ (u.gReg p rd).setWidth 48) ∧
      (gBits w 48 2 = 3 → v = u.tb) := by
  refine ⟨_, (State.gIssue_ready h rfl rfl hecc _).trans (State.gNext_setGReg h.atIssue_pc_lt _ _), ?_, ?_, ?_, ?_⟩
  all_goals
    intro hsel
    simp only [hsel]
end

/-- Settles O3: a ready instruction issues on its word, writes what its operation says, and goes on to the next index. -/
theorem glideArithmetic : Obligations.GlideArithmetic := by
  intro s p w ecc hecc
  refine ⟨fun h => exec_of_done rfl (State.gAlu_ready h rfl rfl hecc _), fun h => exec_of_done rfl (State.gAlu_ready h rfl rfl hecc _),
    fun h => exec_of_done rfl (State.gAlu_ready h rfl rfl hecc _), fun h => exec_of_done rfl (State.gAlu_ready h rfl rfl hecc _),
    fun h => exec_of_done rfl (State.gAlu_ready h rfl rfl hecc _), fun h => exec_of_done rfl (State.gAlu_ready h rfl rfl hecc _),
    fun h => exec_of_done rfl (State.gCmp_ready h hecc), ?signed, ?copied, ?joined, ?timed⟩
  all_goals
    intro h hsel
    obtain ⟨v, hrun, hsigned, hcopied, hjoined, htimed⟩ := State.gMov_ready h hecc
  case signed => exact exec_of_done rfl (hrun.trans (by rw [hsigned hsel]))
  case copied => exact exec_of_done rfl (hrun.trans (by rw [hcopied hsel]))
  case joined => exact exec_of_done rfl (hrun.trans (by rw [hjoined hsel]))
  case timed => exact exec_of_done rfl (hrun.trans (by rw [htimed hsel]))

end Sys2Proof.Machine
end

section
/-!
PROOFS. Flow of the Glide processors (R41, R42, R45, Table 2-4): branches, jumps, calls, loops and HALT.
-/
namespace Sys2Proof.Machine
open Reg F

theorem gBits_13_le (w : BitVec 64) (lo : Nat) : gBits w lo 13 ≤ 8191 := Nat.le_of_lt_succ (gBits_lt w lo 13)

theorem gTarget_le (s : State) (p : Nat) (w : BitVec 64) : gTarget s p w ≤ 8191 := by
  unfold gTarget
  split
  · omega
  · exact gBits_13_le w 0

/-- The conditions of BR have six codes; a well-formed word holds one of them. -/
theorem gWellFormed_branch {hub : Bool} {w : BitVec 64} (hop : gOp w = 0x38) (hwf : gWellFormed hub w = true) : gBits w 52 4 ≤ 5 := by
  simp only [gWellFormed, hop, Bool.and_eq_true, decide_eq_true_eq] at hwf
  exact hwf.1

section
variable {s : State} {p : Fin 5} {op : Nat} {w : BitVec 64} {ecc : Ecc}

/-- A ready processor goes on after the index that it issued from. -/
theorem State.Ready.gNext (h : s.Ready p op w) : (s.atIssue p ecc).gNext p =
    (s.atIssue p ecc).modGlide p fun g => g.went (s.atIssue p ecc).now ((s.glide p).pc + 1) 4 := by
  unfold State.gNext
  rw [s.atIssue_pc, State.gGoto_eq _ _ _ _ _ h.pc_lt]

theorem State.Ready.gNext_modGlide (h : s.Ready p op w) (f : Glide → Glide) (hf : ∀ g, (f g).pc = g.pc) :
    ((s.atIssue p ecc).modGlide p f).gNext p =
      ((s.atIssue p ecc).modGlide p f).modGlide p fun g => g.went (s.atIssue p ecc).now ((s.glide p).pc + 1) 4 := by
  unfold State.gNext
  rw [State.glide_modGlide_same, hf, s.atIssue_pc, State.gGoto_eq _ _ _ _ _ h.pc_lt]
  rfl

theorem State.gJump_modGlide (s : State) (p : Nat) (f : Glide → Glide) {pc : Nat} (hpc : pc ≤ 8191) :
    (s.modGlide p f).gJump p pc = (s.modGlide p f).modGlide p fun g => g.went s.now pc 8 := State.gJump_eq _ _ _ hpc

theorem State.gBr_ready (h : s.Ready p 0x38 w) (hecc : ecc ≠ .fatal) :
    let u := s.atIssue p ecc
    let g := s.glide p
    s.gBr p ecc = if [g.z, !g.z, g.lt, !g.lt, g.ltu, !g.ltu].getD (gBits w 52 4) false
      then u.modGlide p fun x => x.went u.now (gBits w 0 13) 8 else u.modGlide p fun x => x.went u.now (g.pc + 1) 4 := by
  intro u g
  have hz : (u.glide p).z = g.z := s.atIssue_field p ecc (·.z) (fun _ => rfl) p
  have hlt : (u.glide p).lt = g.lt := s.atIssue_field p ecc (·.lt) (fun _ => rfl) p
  have hltu : (u.glide p).ltu = g.ltu := s.atIssue_field p ecc (·.ltu) (fun _ => rfl) p
  have hcode := gWellFormed_branch h.op_eq h.wellFormed
  refine (State.gIssue_ready h rfl rfl hecc _).trans ?_
  rw [← u.gJump_eq p _ (gBits_13_le w 0), ← h.gNext, ← hz, ← hlt, ← hltu]
  generalize gBits w 52 4 = code at hcode ⊢
  interval_cases code <;> rfl

theorem State.gCall_ready (h : s.Ready p 0x2B w) (hecc : ecc ≠ .fatal) (hroom : (s.glide p).calls.length < 8) :
    let u := s.atIssue p ecc
    s.gCall p ecc = (u.modGlide p fun g => { g with calls := (g.pc + 1) :: g.calls }).modGlide p fun g => g.went u.now (gTarget u p w) 8 := by
  intro u
  have hcalls : (u.glide p).calls = (s.glide p).calls := s.atIssue_field p ecc (·.calls) (fun _ => rfl) p
  refine (State.gIssue_ready h rfl rfl hecc _).trans ((if_neg ?_).trans (u.gJump_modGlide p _ (gTarget_le u p w)))
  rw [hcalls]
  omega

theorem State.gRet_ready (h : s.Ready p 0x2C w) (hecc : ecc ≠ .fatal) {a : Nat} {rest : List Nat} (hcalls : (s.glide p).calls = a :: rest)
    (ha : a ≤ 8191) : s.gRet p ecc = ((s.atIssue p ecc).modGlide p fun g => { g with calls := rest }).modGlide p fun g =>
      g.went (s.atIssue p ecc).now a 8 := by
  have hstack : ((s.atIssue p ecc).glide p).calls = a :: rest := (s.atIssue_field p ecc (·.calls) (fun _ => rfl) p).trans hcalls
  refine (State.gIssue_ready h rfl rfl hecc _).trans (Eq.trans ?_ (State.gJump_modGlide _ p _ ha))
  simp only [hstack]

theorem State.gLoop_ready (h : s.Ready p 0x28 w) (hecc : ecc ≠ .fatal) {n : BitVec 32}
    (hn : n = if gBit w 55 then BitVec.ofNat 32 (gBits w 0 32) else ((s.atIssue p ecc).gReg p (gBits w 48 4)).setWidth 32) (hcount : n ≠ 0)
    (hroom : (s.glide p).loops.length < 4) (hend : (s.glide p).pc < gBits w 32 13) (hendl : gOp (s.imemWord p (gBits w 32 13)) = 0x29) :
    let u := s.atIssue p ecc
    s.gLoop p ecc = (u.modGlide p fun g => { g with loops := ⟨g.pc + 1, gBits w 32 13, n⟩ :: g.loops }).modGlide p fun g =>
      g.went u.now ((s.glide p).pc + 1) 4 := by
  intro u
  have hloops : (u.glide p).loops = (s.glide p).loops := s.atIssue_field p ecc (·.loops) (fun _ => rfl) p
  have hpc : (u.glide p).pc = (s.glide p).pc := s.atIssue_pc p ecc
  have hword : u.imemWord p (gBits w 32 13) = s.imemWord p (gBits w 32 13) := s.atIssue_imemWord p ecc _
  refine (State.gIssue_ready h rfl rfl hecc _).trans (Eq.trans ?_ (h.gNext_modGlide _ fun _ => rfl))
  simp only [← hn]
  rw [if_neg (by rw [hloops]; omega), if_neg (by rw [hpc, hword]; omega), if_neg hcount]

theorem State.gEndl_ready (h : s.Ready p 0x29 w) (hecc : ecc ≠ .fatal) {l : LoopFrame} {rest : List LoopFrame}
    (hloops : (s.glide p).loops = l :: rest) (hend : l.end_ = (s.glide p).pc) (hstart : l.start ≤ 8191) :
    let u := s.atIssue p ecc
    s.gEndl p ecc = if l.n = 1 then (u.modGlide p fun g => { g with loops := rest }).modGlide p fun g => g.went u.now ((s.glide p).pc + 1) 4
      else (u.modGlide p fun g => { g with loops := { l with n := l.n - 1 } :: rest }).modGlide p fun g => g.went u.now l.start 8 := by
  intro u
  have hstack : ((s.atIssue p ecc).glide p).loops = l :: rest := (s.atIssue_field p ecc (·.loops) (fun _ => rfl) p).trans hloops
  have hpc : l.end_ = (u.glide p).pc := hend.trans (s.atIssue_pc p ecc).symm
  rw [← u.gJump_modGlide p _ hstart, ← h.gNext_modGlide (fun g => { g with loops := rest }) fun _ => rfl]
  refine (State.gIssue_ready h rfl rfl hecc _).trans ?_
  simp only [hstack]
  exact if_neg (not_not.2 hpc)
end

/-- Settles O4: each instruction where it may go on, its stacks as the issue finds them. -/
theorem glideFlow : Obligations.GlideFlow := by
  intro s p w ecc hecc u g go n
  refine ⟨fun h => exec_of_done rfl (State.gBr_ready h hecc), fun h => ?jump, fun h hroom => exec_of_done rfl (State.gCall_ready h hecc hroom),
    fun a rest h hcalls ha => exec_of_done rfl (State.gRet_ready h hecc hcalls ha),
    fun h hn hroom hend hendl => exec_of_done rfl (State.gLoop_ready h hecc rfl hn hroom hend hendl),
    fun l rest h hloops hend hstart => exec_of_done rfl (State.gEndl_ready h hecc hloops hend hstart), fun h => ?halt⟩
  case jump => exact exec_of_done rfl ((State.gIssue_ready h rfl rfl hecc _).trans (u.gJump_eq p _ (gTarget_le u p w)))
  case halt => exact exec_of_done rfl (State.gIssue_ready h rfl rfl hecc _)

end Sys2Proof.Machine
end

section
/-!
PROOFS. Accesses, waits and fences of the Glide processors (R47, R48, R64 to R68).
-/
namespace Sys2Proof.Machine
open Reg F

/-! ### Accesses (R48, R67, R68) -/

/-- Arming an alignment touches no processor. -/
theorem State.armAlign_glides (s : State) (src tmask : Nat) (hub : Bool) : (s.armAlign src tmask hub).glides = s.glides := by
  unfold State.armAlign
  extract_lets at_ u
  have hu : u.glides = s.glides := by
    refine State.each_keeps (P := fun t => t.glides = s.glides) (fun t k h => ?_) _ rfl
    exact h
  split
  · exact hu
  · exact hu

theorem State.armAlign_glide (s : State) (src tmask : Nat) (hub : Bool) (p : Nat) : (s.armAlign src tmask hub).glide p = s.glide p := by
  simp only [State.glide, State.armAlign_glides]

section
variable {s : State} {p : Fin 5} {w : BitVec 64} {ecc : Ecc}

theorem State.gAlign_tile (h : s.Ready p 0x03 w) (hecc : ecc ≠ .fatal) (hp : (p : Nat) ≠ 0) :
    s.gAlign p ecc = ((s.atIssue p ecc).armAlign (gBits w 52 4) (2 ^ ((p : Nat) - 1)) false).gNext p := by
  refine (State.gIssue_ready h rfl rfl hecc _).trans ?_
  rw [if_neg hp, beq_false_of_ne hp]

theorem State.gAlign_hub (h : s.Ready p 0x03 w) (hecc : ecc ≠ .fatal) (hp : (p : Nat) = 0) :
    let v := (s.atIssue p ecc).armAlign (gBits w 52 4) (gBits w 48 4) true
    s.gAlign p ecc = v.modGlide p fun g => g.went v.now (g.pc + 1) 4 := by
  refine (State.gIssue_ready h rfl rfl hecc _).trans ?_
  rw [if_pos hp, beq_iff_eq.2 hp]
  refine State.gNext_eq _ _ ?_
  rw [State.armAlign_glide]
  exact h.atIssue_pc_lt

theorem State.getReturn_waiting (hst : (s.glide p).st = .waitGet) (after : Fin 1025) :
    let g := s.glide p
    let x := s.advance (max s.now (max g.nextIssue g.setDone) + (after : Nat))
    let v := if g.getAddr % 4 = 0 then x.readReg g.getAddr else { x.accessError with reply := 0 }
    s.getReturn p after = (v.setGReg p (v.glide p).waitRd (v.reply.setWidth 64)).gNext p := by
  have hafter : min (after : Nat) 1024 = after := by omega
  unfold State.getReturn
  simp only [hst, hafter]
  rfl
end

/-- Settles O5: each access issues on its word; a GET returns to the register it names. -/
theorem glideAccess : Obligations.GlideAccess := by
  intro s p w ecc hecc u a next
  refine ⟨fun h => exec_of_done rfl (State.gIssue_ready h rfl rfl hecc _), fun h => exec_of_done rfl (State.gIssue_ready h rfl rfl hecc _),
    fun after hst => exec_of_done rfl (State.getReturn_waiting hst after), fun h => exec_of_done rfl (State.gIssue_ready h rfl rfl hecc _),
    fun h hp => exec_of_done rfl (State.gAlign_tile h hecc hp), fun h hp => exec_of_done rfl (State.gAlign_hub h hecc hp)⟩

/-! ### Waits (R64, R65) -/

section
variable (s : State) (p : Nat)

/-- Taking an event changes a processor's flags alone. -/
theorem State.gTake_field {α : Type} (f : Glide → α) (hf : ∀ g, f g.quiet = f g) (src : Nat) : f ((s.gTake p src).glide p) = f (s.glide p) := by
  unfold State.gTake
  split
  · rfl
  · rw [s.glide_modGlide_same]
    exact Glide.eq_of_quiet f hf rfl

variable {s p}

/-- A wait ends in the register it names, and the processor goes on. -/
theorem State.gWaited_eq (hpc : (s.glide p).pc < 8191) (outcome : Nat) : s.gWaited p outcome =
    (s.setGReg p (s.glide p).waitRd (BitVec.ofNat 64 outcome)).modGlide p fun g => g.went s.now (g.pc + 1) 4 := State.gNext_setGReg hpc _ _

theorem State.gWaited_advance (hpc : (s.glide p).pc < 8191) (e outcome : Nat) : (s.advance e).gWaited p outcome =
    ((s.advance e).setGReg p (s.glide p).waitRd (BitVec.ofNat 64 outcome)).modGlide p fun g => g.went (s.advance e).now (g.pc + 1) 4 := by
  rw [State.gWaited_eq (by rw [s.advance_glide]; exact hpc), s.advance_glide]

theorem State.waitevDone_come (hst : (s.glide p).st = .waitEvent) (hev : s.gEvent p (s.glide p).waitFor = true) :
    s.waitevDone p = (s.gTake p (s.glide p).waitFor).gWaited p 0 := if_pos ⟨hst, hev⟩

theorem State.waitevDone_goes_on (hst : (s.glide p).st = .waitEvent) (hpc : (s.glide p).pc < 8191)
    (hev : s.gEvent p (s.glide p).waitFor = true) :
    s.waitevDone p = ((s.gTake p (s.glide p).waitFor).setGReg p (s.glide p).waitRd 0).modGlide p fun g =>
      g.went (s.gTake p (s.glide p).waitFor).now (g.pc + 1) 4 := by
  have hpc' : ((s.gTake p (s.glide p).waitFor).glide p).pc < 8191 := (s.gTake_field p (·.pc) (fun _ => rfl) _).trans_lt hpc
  have hrd : ((s.gTake p (s.glide p).waitFor).glide p).waitRd = (s.glide p).waitRd := s.gTake_field p (·.waitRd) (fun _ => rfl) _
  rw [State.waitevDone_come hst hev, State.gWaited_eq hpc', hrd]
  rfl

/-- A lock ends a wait where the SETs before it complete no later than its timeout, else the timeout does (R343). -/
theorem State.waitlockDone_in_time (hst : (s.glide p).st = .waitLock) (hlock : s.pllState (gPll p (s.glide p).waitFor) = pllLocked)
    (hsets : ∀ e, (s.glide p).waitEnd = some e → s.gSetBy p (s.glide p).waitFor ≤ e) :
    s.waitlockDone p = (s.advance (s.gSetBy p (s.glide p).waitFor)).gWaited p 0 := by
  refine (if_pos ⟨hst, hlock⟩).trans ?_
  split
  · next e hend => exact if_neg (Nat.not_lt.2 (hsets e hend))
  · rfl

theorem State.waitlockDone_too_late (hst : (s.glide p).st = .waitLock) (hlock : s.pllState (gPll p (s.glide p).waitFor) = pllLocked) {e : Nat}
    (hend : (s.glide p).waitEnd = some e) (hsets : e < s.gSetBy p (s.glide p).waitFor) : s.waitlockDone p = (s.advance e).gWaited p 1 := by
  refine (if_pos ⟨hst, hlock⟩).trans ?_
  simp only [hend]
  exact if_pos hsets

theorem State.waitTimeout_unmet {e : Nat} (hst : (s.glide p).st = .waitEvent ∨ (s.glide p).st = .waitLock) (hend : (s.glide p).waitEnd = some e)
    (hmet : s.gMet p e = false) : s.waitTimeout p = (s.advance e).gWaited p 1 := by
  simp only [State.waitTimeout, hend, hmet, if_pos hst]
  rfl

theorem State.waitTimeout_event {e : Nat} (hst : (s.glide p).st = .waitEvent) (hend : (s.glide p).waitEnd = some e)
    (hev : s.gEvent p (s.glide p).waitFor = true) : s.waitTimeout p = s.waitevDone p := by
  have hmet : s.gMet p e = true := by simp [State.gMet, hst, hev]
  simp only [State.waitTimeout, hend, hmet, if_pos hst, if_true]

theorem State.waitTimeout_lock {e : Nat} (hst : (s.glide p).st = .waitLock) (hend : (s.glide p).waitEnd = some e)
    (hlock : s.pllState (gPll p (s.glide p).waitFor) = pllLocked) (hsets : s.gSetBy p (s.glide p).waitFor ≤ e) :
    s.waitTimeout p = s.waitlockDone p := by
  have hmet : s.gMet p e = true := by simp [State.gMet, hst, hlock, hsets]
  have hne : ¬ (s.glide p).st = .waitEvent := by simp [hst]
  simp only [State.waitTimeout, hend, hmet, if_neg hne, if_true]

/-! ### Fences (R66) -/

theorem State.fenceRelease_holds {x : State} (hst : (s.glide p).st = .waitFence) (hpc : (s.glide p).pc < 8191)
    (hx : x = if (s.glide p).fenceW then s.advance (s.glide p).setDone else s) (hold : x.fenceHolds p = true) :
    s.fenceRelease p = x.modGlide p fun g => g.went x.now (g.pc + 1) 4 := by
  have hglide : x.glide p = s.glide p := by
    rw [hx]
    split
    · exact s.advance_glide _ p
    · rfl
  rw [← x.gNext_eq p (by rw [hglide]; exact hpc)]
  unfold State.fenceRelease
  simp only [hst, ← hx, hold]
  rfl
end

theorem State.gFence_ready {s : State} {p : Fin 5} {w : BitVec 64} {ecc : Ecc} (h : s.Ready p 0x3F w) (hecc : ecc ≠ .fatal) :
    let u := s.atIssue p ecc
    let v := u.modGlide p fun x => { x with st := .waitFence, fenceB := gBit w 55, fenceW := gBit w 54, fenceF := gBit w 53 }
    s.gFence p ecc = if v.fenceHolds p then v.modGlide p fun x => x.went u.now (x.pc + 1) 4 else v := by
  intro u v
  rw [← show v.gNext p = v.modGlide p fun x => x.went u.now (x.pc + 1) 4 from State.gNext_modGlide h.atIssue_pc_lt _ fun _ => rfl]
  exact State.gIssue_ready h rfl rfl hecc _

/-- A wait that has begun, and what it waits for. -/
theorem State.gWait_field (u : State) (p : Nat) (w : BitVec 64) (st : GState) (what : Nat) :
    ((u.gWait p w st what).glide p).st = st ∧ ((u.gWait p w st what).glide p).waitFor = what := by
  constructor
  all_goals
    unfold State.gWait
    rw [State.glide_modGlide_same]

section
variable {s : State} {p : Fin 5} {w : BitVec 64} {ecc : Ecc}

theorem State.gWaitev_waits (h : s.Ready p 0x08 w) (hecc : ecc ≠ .fatal)
    (hev : ((s.atIssue p ecc).gWait p w .waitEvent (gBits w 48 8)).gEvent p (gBits w 48 8) = false) :
    s.gWaitev p ecc = (s.atIssue p ecc).gWait p w .waitEvent (gBits w 48 8) := by
  obtain ⟨_, hfor⟩ := (s.atIssue p ecc).gWait_field p w .waitEvent (gBits w 48 8)
  refine (State.gIssue_ready h rfl rfl hecc _).trans (if_neg ?_)
  simp [hfor, hev]

theorem State.gWaitev_come (h : s.Ready p 0x08 w) (hecc : ecc ≠ .fatal)
    (hev : ((s.atIssue p ecc).gWait p w .waitEvent (gBits w 48 8)).gEvent p (gBits w 48 8) = true) :
    s.gWaitev p ecc = (((s.atIssue p ecc).gWait p w .waitEvent (gBits w 48 8)).gTake p (gBits w 48 8)).gWaited p 0 := by
  obtain ⟨hst, hfor⟩ := (s.atIssue p ecc).gWait_field p w .waitEvent (gBits w 48 8)
  refine (State.gIssue_ready h rfl rfl hecc _).trans ((State.waitevDone_come hst (by rw [hfor]; exact hev)).trans ?_)
  rw [hfor]
end

/-- Settles O6: a wait by how it ends, a fence by its conditions. -/
theorem glideWaits : Obligations.GlideWaits := by
  intro s p w ecc hecc u g tmo ends waits
  refine ⟨fun h hev => exec_of_done rfl (State.gWaitev_waits h hecc hev), fun h hev => exec_of_done rfl (State.gWaitev_come h hecc hev),
    fun hst hpc hev => exec_of_done rfl (State.waitevDone_goes_on hst hpc hev), fun h hsets => ?notYet, fun h hsets => ?atOnce,
    fun hst hpc hlock hsets => ?inTime, fun e hst hpc hlock hend hsets => ?tooLate, fun e hst hend hpc hmet => ?unmet,
    fun e hst hend hpc hev => ?event, fun e hst hend hpc hlock hsets => ?lock, fun h => exec_of_done rfl (State.gFence_ready h hecc),
    fun hst hpc x hx hold => exec_of_done rfl (State.fenceRelease_holds hst hpc hx hold)⟩
  case notYet => exact exec_of_done rfl ((State.gIssue_ready h rfl rfl hecc _).trans (if_neg (Nat.not_le.2 hsets)))
  case atOnce => exact exec_of_done rfl ((State.gIssue_ready h rfl rfl hecc _).trans (if_pos hsets))
  case inTime => exact exec_of_done rfl ((State.waitlockDone_in_time hst hlock hsets).trans (State.gWaited_advance hpc _ 0))
  case tooLate => exact exec_of_done rfl ((State.waitlockDone_too_late hst hlock hend hsets).trans (State.gWaited_advance hpc _ 1))
  case unmet => exact exec_of_done rfl ((State.waitTimeout_unmet hst hend hmet).trans (State.gWaited_advance hpc _ 1))
  case event => exact exec_of_done rfl ((State.waitTimeout_event hst hend hev).trans (State.waitevDone_goes_on hst hpc hev))
  case lock =>
    have hby : ∀ e', (s.glide p).waitEnd = some e' → s.gSetBy p (s.glide p).waitFor ≤ e' := fun e' he' =>
      hsets.trans_eq (Option.some.inj (hend.symm.trans he'))
    exact exec_of_done rfl ((State.waitTimeout_lock hst hend hlock hsets).trans
      ((State.waitlockDone_in_time hst hlock hby).trans (State.gWaited_advance hpc _ 0)))

end Sys2Proof.Machine
end

section
/-!
PROOFS. Words that may not issue (R43, R46, R47, R50): the faults every Glide instruction has in common.
-/
namespace Sys2Proof.Machine
open Reg F

/-- Every Glide command issues the word at the index, and its opcode is that of an instruction outside bundles (Table 2-3). -/
theorem glideCommands_issue {p : Fin 5} {ecc : Ecc} {op : Nat} {i : Instr} (h : (op, i) ∈ glideCommands p ecc) (s : State) :
    ∃ f, exec i s = done (s.gIssue p op ecc f) ∧ gValid op = true ∧ gRadio op = false := by
  have hall : ∀ x ∈ glideCommands p ecc, ∃ f, exec x.2 s = done (s.gIssue p x.1 ecc f) ∧ gValid x.1 = true ∧ gRadio x.1 = false := by
    simp only [glideCommands, List.forall_mem_cons, List.not_mem_nil, IsEmpty.forall_iff, implies_true, and_true]
    and_intros
    all_goals exact ⟨_, rfl, rfl, rfl⟩
  exact hall _ h

/-- Processor 0 is the hub's. -/
theorem hub_beq (p : Fin 5) : ((p : Nat) == 0) = (p == 0) := by
  revert p
  decide

section
variable {s : State} {p : Fin 5}

/-- What a running processor does at its issue cycle, fault by fault: the lowest code that applies (R46). -/
theorem State.gIssue_running (hst : (s.glide p).st = .running) (hmode : s.mode.runsGlide = true) (hdom : s.domOn (glideDomain p) = true)
    (op : Nat) (ecc : Ecc) (f : State → BitVec 64 → State) :
    let u := s.atIssue p ecc
    let w := s.imemWord p (s.glide p).pc
    let pc := (s.glide p).pc
    s.gIssue p op ecc f =
      if ecc = .fatal then u.gFault p 8 pc
      else if gValid (gOp w) = false then u.gFault p 1 pc
      else if gRadio (gOp w) then u.gFault p (if gWellFormed (p == 0) w then 3 else 2) pc
      else if gOp w ≠ op then s
      else if gWellFormed (p == 0) w = false then u.gFault p 2 pc
      else f u w := by
  have hrun : ¬ ((s.glide p).st ≠ .running ∨ (!s.mode.runsGlide) = true ∨ (!s.domOn (glideDomain p)) = true ∨ 5 ≤ (p : Nat)) := by
    simp [hst, hmode, hdom]
  refine (if_neg hrun).trans ?_
  simp only [Bool.not_eq_true', hub_beq]
  rfl

/-- A radio instruction is an instruction. -/
theorem gValid_of_radio {op : Nat} (h : gRadio op = true) : gValid op = true := by simp [gValid, h]

/-- A fault stops the processor at the word it names, its code in STATUS (R46). -/
theorem State.gFault_glide (s : State) (p code at_ : Nat) : ((s.gFault p code at_).settle.glide p).st = .fault ∧
    ((s.gFault p code at_).settle.glide p).fault = code ∧ ((s.gFault p code at_).settle.glide p).pc = at_ := by
  rw [State.settle_glide]
  unfold State.gFault
  rw [((Frame.refl [] _).raise (Ev.GLIDE_FAULT p)).glide_field (·.st) (fun _ => rfl), s.glide_modGlide_same,
    ((Frame.refl [] _).raise (Ev.GLIDE_FAULT p)).glide_field (·.fault) (fun _ => rfl), s.glide_modGlide_same,
    ((Frame.refl [] _).raise (Ev.GLIDE_FAULT p)).glide_field (·.pc) (fun _ => rfl), s.glide_modGlide_same]
  exact ⟨rfl, rfl, rfl⟩
end

/-- Settles O8: every command issues alike, so that the faults are those of the issue. -/
theorem glideFaults : Obligations.GlideFaults := by
  intro s p op i hi hst hmode hdom ecc u w fails
  obtain ⟨f, hexec, hvalid, hradio⟩ := glideCommands_issue (hi ecc) s
  have hissue := State.gIssue_running hst hmode hdom op ecc f
  refine ⟨fun hecc => exec_of_done hexec (hissue.trans (if_pos hecc)), fun hecc hnot => exec_of_done hexec (hissue.trans ?unknown),
    fun hecc hrad => exec_of_done hexec (hissue.trans ?radio), fun hecc hop hill => exec_of_done hexec (hissue.trans ?reserved),
    fun code => u.gFault_glide p code _⟩
  case unknown => rw [if_neg hecc, if_pos hnot]
  case radio =>
    have hknown : ¬ gValid (gOp w) = false := by simp [gValid_of_radio hrad]
    rw [if_neg hecc, if_neg hknown, if_pos hrad]
  case reserved =>
    have hknown : ¬ gValid (gOp w) = false := by simp [hop, hvalid]
    have hnot : ¬ gRadio (gOp w) = true := by simp [hop, hradio]
    rw [if_neg hecc, if_neg hknown, if_neg hnot, if_neg (not_not.2 hop), if_pos hill]

end Sys2Proof.Machine
end

section
/-!
PROOFS. The registers of the Glide processors (R43 to R45, R63, R70): GO, the windows on memory, registers and bundle time, and the enabling of tiles.
-/
namespace Sys2Proof.Machine
open Reg F

/-! ### Plain writes and fields -/

/-- A field whose bits are all written holds what was written. -/
theorem getF_masked (x w m : Word) (f : Fld) (hf : f.lo + f.width ≤ 32) (hm : ∀ i < f.width, m.getLsbD (i + f.lo) = true) :
    getF ((x &&& ~~~ m) ||| (w &&& m)) f = getF w f := by
  apply Nat.eq_of_testBit_eq
  intro i
  unfold getF
  rw [Nat.testBit_mod_two_pow, Nat.testBit_div_two_pow, Nat.testBit_mod_two_pow, Nat.testBit_div_two_pow]
  by_cases hi : i < f.width
  · have h32 : i + f.lo < 32 := by omega
    rw [← BitVec.getLsbD, ← BitVec.getLsbD, BitVec.getLsbD_or, BitVec.getLsbD_and, BitVec.getLsbD_and, BitVec.getLsbD_not, hm i hi]
    simp
  · simp [hi]

/-- A write to a register without RW1C bits takes the data in its RW bits and leaves the rest. -/
theorem State.plainWrite_rw {a rw : Nat} (hrow : (regAt a).map (fun r => (r.rw, r.w1c)) = some (rw, 0)) (s : State) {w : Word}
    (hsat : saturated a w = w) :
    s.plainWrite a w = s.setReg a ((s.reg a &&& ~~~ BitVec.ofNat 32 rw) ||| (w &&& BitVec.ofNat 32 rw)) := by
  obtain ⟨r, hr, hbits⟩ := Option.map_eq_some_iff.1 hrow
  obtain ⟨hrw, hw1c⟩ := Prod.mk.inj hbits
  have hones : ∀ v : Word, v &&& 0xFFFFFFFF#32 = v := fun _ => BitVec.and_allOnes
  simp [State.plainWrite, hr, hrw, hw1c, hsat, hones]

/-- No register of a Glide processor holds a field that saturates. -/
theorem saturated_glide {a : Nat} (hblock : blockOf a = 1) (w : Word) : saturated a w = w := by
  have heye : a ≠ LANEQ_EYE_CTRL := by
    rintro rfl
    exact absurd hblock (by decide)
  have hrh : a ≠ DRAMC_RH_CFG := by
    rintro rfl
    exact absurd hblock (by decide)
  simp only [saturated, hblock, if_neg heye, if_neg hrh]
  simp

/-! ### GO (R45) -/

/-- Table 2-10: START_PC and ENABLE are RW, GO is not. -/
theorem glideCtrl_row : ∀ p : Fin 5,
    (regAt (GLIDE_CTRL p)).map (fun r => (r.rw, r.w1c)) = some (0x11FFF, 0) ∧ blockOf (GLIDE_CTRL p) = 1 := by
  decide +kernel

section
variable (s : State) (p : Fin 5) (w : Word)

/-- A write of CTRL stores START_PC and ENABLE. -/
theorem State.plainWrite_glideCtrl : ∃ v, s.plainWrite (GLIDE_CTRL p) w = s.setReg (GLIDE_CTRL p) v ∧
    getF v GLIDE_CTRL_START_PC = getF w GLIDE_CTRL_START_PC ∧ getF v GLIDE_CTRL_ENABLE = getF w GLIDE_CTRL_ENABLE := by
  obtain ⟨hrow, hblock⟩ := glideCtrl_row p
  exact ⟨_, s.plainWrite_rw hrow (saturated_glide hblock w), getF_masked _ _ _ _ (by decide) (by decide),
    getF_masked _ _ _ _ (by decide) (by decide)⟩

variable {s p}

/-- GO starts a processor that stands still, at the START_PC written with it. -/
theorem State.glideCtrlWrite_go (hmode : s.mode.runsGlide = true) (hst : (s.glide p).st = .halted ∨ (s.glide p).st = .fault) :
    ∃ v, s.glideCtrlWrite p (putF w GLIDE_CTRL_GO 1) = (s.setReg (GLIDE_CTRL p) v).startGlide p ∧
      getF v GLIDE_CTRL_START_PC = getF w GLIDE_CTRL_START_PC ∧ getF v GLIDE_CTRL_ENABLE = getF w GLIDE_CTRL_ENABLE := by
  obtain ⟨v, hwrite, hpc, hen⟩ := s.plainWrite_glideCtrl p (putF w GLIDE_CTRL_GO 1)
  have hgo : bitF (putF w GLIDE_CTRL_GO 1) GLIDE_CTRL_GO = true := by simp [bitF, getF_putF]
  refine ⟨v, ?_, hpc.trans (getF_putF_ne _ _ _ _ (by decide) (by decide)), hen.trans (getF_putF_ne _ _ _ _ (by decide) (by decide))⟩
  unfold State.glideCtrlWrite
  simp only [hwrite]
  exact if_pos ⟨hgo, hmode, hst⟩
end

/-! ### The instruction memory's window (R44) -/

section
variable (s : State) (p : Nat) (w : Word)

theorem State.imemAdvance_glide (q : Nat) : (s.imemAdvance p).glide q = s.glide q := rfl

theorem State.imemHiWrite_imemWord (n : Nat) :
    (s.imemHiWrite p w).imemWord p n = if n = s.imemAddr p then w ++ s.reg (GLIDE_IMEM_DATA_LO p) else s.imemWord p n := by
  have hmem : ((s.imemHiWrite p w).glide p).imem =
      sset (fun _ => 0) (s.glide p).imem (s.imemAddr p) (w ++ s.reg (GLIDE_IMEM_DATA_LO p)) := by
    rw [State.imemHiWrite, State.imemAdvance_glide, State.glide_modGlide_same]
    rfl
  unfold State.imemWord
  rw [hmem, sget_sset]

theorem State.imemHiWrite_imemAddr : (s.imemHiWrite p w).imemAddr p = (s.imemAddr p + 1) % 8192 := by
  have hne : GLIDE_IMEM_ADDR p ≠ GLIDE_IMEM_DATA_HI p := by simp only [GLIDE_IMEM_ADDR, GLIDE_IMEM_DATA_HI]; omega
  have haddr : (s.setReg (GLIDE_IMEM_DATA_HI p) w).fld (GLIDE_IMEM_ADDR p) GLIDE_IMEM_ADDR_ADDR = s.imemAddr p := by
    simp only [State.fld, State.imemAddr, s.reg_setReg_ne w hne]
  refine (State.fld_setFld _ _ _ _ (by decide)).trans ?_
  exact congrArg (fun n => (n + 1) % 8192) haddr

theorem State.imemHiWrite_reg {a : Nat} (hhi : a ≠ GLIDE_IMEM_DATA_HI p) (haddr : a ≠ GLIDE_IMEM_ADDR p) :
    (s.imemHiWrite p w).reg a = s.reg a :=
  (State.reg_setReg_ne _ _ haddr).trans (s.reg_setReg_ne w hhi)
end

/-! ### Enabling of tiles (R63) -/

theorem glideTileEn_row : (regAt GLIDE_TILE_EN).map (fun r => (r.rw, r.w1c)) = some (0xF, 0) ∧ blockOf GLIDE_TILE_EN = 1 := by decide +kernel

/-- The FIFOs of the listed tiles that are not kept are emptied, no other. -/
theorem State.fifo_each_clear (keep : Nat → Bool) (l : List Nat) (s : State) (k : Nat) :
    (s.each l fun s t => if keep t then s else s.setFifo t []).fifo k = if k ∈ l ∧ keep k = false then [] else s.fifo k := by
  induction l generalizing s with
  | nil => simp [State.each_nil]
  | cons t l ih =>
    rw [State.each_cons, ih]
    by_cases hkeep : keep t = true
    · simp only [hkeep, if_true, List.mem_cons]
      by_cases hk : k = t
      · subst hk; simp [hkeep]
      · simp [hk]
    · by_cases hk : k = t
      · subst hk; simp [hkeep, State.fifo_setFifo]
      · simp [hkeep, hk, State.fifo_setFifo]

theorem State.tileEnWrite_eq (s : State) (w : Word) : ∃ v, getF v GLIDE_TILE_EN_EN = w.toNat % 16 ∧
    s.tileEnWrite w = (s.setReg GLIDE_TILE_EN v).each tiles fun s t => if w.getLsbD t then s else s.setFifo t [] := by
  obtain ⟨hrow, hblock⟩ := glideTileEn_row
  refine ⟨_, ?_, congrArg (fun u : State => u.each tiles _) (s.plainWrite_rw hrow (saturated_glide hblock w))⟩
  rw [getF_masked _ _ _ _ (by decide) (by decide)]
  simp [getF]

/-- Emptying FIFOs writes no register. -/
theorem State.reg_each_clear (keep : Nat → Bool) (l : List Nat) (s : State) (a : Nat) :
    (s.each l fun s t => if keep t then s else s.setFifo t []).reg a = s.reg a := by
  refine State.each_keeps (P := fun t => t.reg a = s.reg a) (fun t k h => ?_) l rfl
  split
  · exact h
  · exact h

/-- Settles O12: each window is an access that the register answers, and does what its meaning says. -/
theorem glideRegisters : Obligations.GlideRegisters := by
  intro s p w
  refine ⟨fun hans hmode hst => ?go, fun hans => ?store, fun hans => ?low, fun hans => ?high,
    fun hans => ?greg, fun hans => ?bt, fun hans => ?tiles⟩
  case go =>
    obtain ⟨v, hrun, hpc, hen⟩ := State.glideCtrlWrite_go w hmode hst
    refine .of_done (congrArg done ((State.guarded_of hans).trans hrun)) ?_
    have hglide := (s.setReg (GLIDE_CTRL p) v).glide_modGlide_same p
    have hreg : ∀ a, ((s.setReg (GLIDE_CTRL p) v).startGlide p).settle.reg a = (s.setReg (GLIDE_CTRL p) v).reg a := State.reg_settle _
    have hstart : getF ((s.setReg (GLIDE_CTRL p) v).reg (GLIDE_CTRL p)) GLIDE_CTRL_START_PC = getF w GLIDE_CTRL_START_PC := by
      rw [State.reg_setReg_same, hpc]
    rw [State.settle_glide, State.startGlide, hglide]
    refine ⟨rfl, hstart, rfl, rfl, rfl, rfl, rfl, ?_, fun a ha => (hreg a).trans (s.reg_setReg_ne v ha)⟩
    rw [State.bit, ← State.startGlide, hreg, State.reg_setReg_same, bitF, hen, bitF]
  case store =>
    refine .of_done (congrArg done (State.guarded_of hans)) ⟨fun n => ?_, ?_, fun a hhi haddr => ?_⟩
    · rw [State.imemWord, State.settle_glide]
      exact s.imemHiWrite_imemWord p w n
    · exact (State.fld_settle ..).trans (s.imemHiWrite_imemAddr p w)
    · exact (State.reg_settle ..).trans (s.imemHiWrite_reg p w hhi haddr)
  case low => exact exec_of_done rfl (State.guardedRead_of hans)
  case high => exact exec_of_done rfl (State.guardedRead_of hans)
  case greg => exact exec_of_done rfl (State.guardedRead_of hans)
  case bt => exact exec_of_done rfl (State.guardedRead_of hans)
  case tiles =>
    obtain ⟨v, hen, hrun⟩ := s.tileEnWrite_eq w
    have hreg : ∀ a, (s.tileEnWrite w).settle.reg a = (s.setReg GLIDE_TILE_EN v).reg a := fun a => by
      rw [State.reg_settle, hrun, State.reg_each_clear]
    refine .of_done (congrArg done (State.guarded_of hans)) ⟨?_, fun k => ?_, fun a ha => (hreg a).trans (s.reg_setReg_ne v ha)⟩
    · rw [State.fld, hreg, State.reg_setReg_same, hen]
    · have hk : (k : Nat) ∈ tiles := by fin_cases k <;> decide
      rw [State.settle_fifo, hrun, State.fifo_each_clear]
      by_cases hbit : w.getLsbD k = true
      · simp [hbit, State.fifo]
      · simp [hbit, hk]

end Sys2Proof.Machine
end

section
/-!
PROOFS. Radio instructions at their effect instants (R54 to R56, R201): a burst of a kind that CALB does not name shows a KIND of 4 to 7.
-/
namespace Sys2Proof.Machine
open Reg F

/-- The next effect of a die comes at its instant (R56). -/
theorem State.atEffect_next {s : State} {die : Nat} {e : Effect} (h : s.NextEffect die e) {sel : Radio → Bool} (hsel : sel e.radio = true) :
    s.atEffect die sel = (s.atInstant e).radioAt die e.proc e.radio := by
  obtain ⟨hfind, hfirst⟩ := h
  unfold State.atEffect
  rw [hfind]
  refine if_pos ?_
  rw [hsel, Bool.true_and, List.all_eq_true]
  exact fun x hx => decide_eq_true (hfirst x hx)

theorem State.reg_each {α : Type} (s : State) (l : List α) (f : State → α → State) (a : Nat) (hf : ∀ s x, (f s x).reg a = s.reg a) :
    (s.each l f).reg a = s.reg a :=
  State.each_keeps (P := fun t => t.reg a = s.reg a) (fun t x h => (hf t x).trans h) l rfl

/-! A burst's receivers and paths hold none of its registers. -/

section
variable (s : State)
theorem State.reg_modCal (k : Nat) (f : Cal → Cal) (a : Nat) : (s.modCal k f).reg a = s.reg a := rfl
theorem State.reg_modTxPath (k : Nat) (f : TxPath → TxPath) (a : Nat) : (s.modTxPath k f).reg a = s.reg a := rfl
theorem State.reg_beginImage (t r stop a : Nat) : (s.beginImage t r stop).reg a = s.reg a := rfl
theorem State.reg_occupy (t r stop a : Nat) : (s.occupy t r stop).reg a = s.reg a := rfl
theorem State.reg_moveSwitch (t r : Nat) (input : Nat × Nat) (a : Nat) : (s.moveSwitch t r input).reg a = s.reg a := rfl
theorem State.reg_wakeDacs (t pmask a : Nat) : (s.wakeDacs t pmask).reg a = s.reg a := s.reg_each _ _ a fun u _ => u.reg_modTxPath _ _ a
end

/-- A burst that begins shows its kind in the three bits of KIND. -/
theorem State.burstAt_kind {s : State} {t : Nat} {b : Burst} (h : s.burstRefused t b = false) :
    (s.burstAt t b).fld (DFLY_CAL_STAT t) DFLY_CAL_STAT_KIND = b.kind % 8 := by
  unfold State.burstAt
  rw [if_neg (by simp [h])]
  extract_lets v a u signal
  have hu : u.reg a = putF ((v.setBit a DFLY_CAL_STAT_BUSY true).reg a) DFLY_CAL_STAT_KIND b.kind := by
    rw [State.reg_modCal, State.setFld_eq, State.reg_setReg_same]
  suffices hreg : ∀ x : State, x.reg a = u.reg a → x.fld a DFLY_CAL_STAT_KIND = b.kind % 8 by
    split
    · refine hreg _ (u.reg_each _ _ a fun w r => ?_)
      split
      · exact w.reg_beginImage ..
      · rfl
    · split
      · exact hreg _ rfl
      · refine hreg _ ((State.reg_each _ _ _ a fun w _ => w.reg_modTxPath ..).trans ?_)
        rw [State.reg_wakeDacs, State.reg_moveSwitch, State.reg_occupy]
  intro x hx
  rw [State.fld, hx, hu, getF_putF _ _ _ (by decide)]
  rfl

/-- A CALB of kind 4, which no word of Table 2-4 holds, with its effect instant to come. -/
def calbOfKind4 : Effect := ⟨1500, 0, 5, .calb 4 0x8001 0x2328⟩

/-- The device in Calibrate, that effect the only one. -/
def beforeCalb : State := { mode := .calibrate, effects := [calbOfKind4] }

theorem beforeCalb_next : beforeCalb.NextEffect 0 calbOfKind4 := by
  unfold State.NextEffect
  decide +kernel

theorem beforeCalb_not_refused : (beforeCalb.atInstant calbOfKind4).burstRefused 0
    ⟨4, 0x8001, (beforeCalb.atInstant calbOfKind4).now, 0x2328, false, false, 0, 0⟩ = false := by decide +kernel

/-- Refutes O11: a burst of kind 4 is not refused in Calibrate, and KIND, three bits wide, then shows 4 where the statement says 4 mod 4. -/
theorem not_radioRequests : ¬ Obligations.RadioRequests := by
  intro h
  obtain ⟨-, -, -, hcalb⟩ := h beforeCalb 0 calbOfKind4 0x8001
  obtain ⟨-, hbegins⟩ := hcalb 4 0x2328 beforeCalb_next rfl
  obtain ⟨v, hrun, -, hkind, -⟩ := hbegins beforeCalb_not_refused
  have hburst : exec (.radioCalb 0) beforeCalb = done ((beforeCalb.atInstant calbOfKind4).burstAt 0
      ⟨4, 0x8001, (beforeCalb.atInstant calbOfKind4).now, 0x2328, false, false, 0, 0⟩) := congrArg done (State.atEffect_next beforeCalb_next rfl)
  rw [hburst] at hrun
  obtain rfl := Host.Outcome.next.inj hrun
  have hshown := (State.fld_settle ..).symm.trans hkind
  exact absurd ((State.burstAt_kind beforeCalb_not_refused).symm.trans hshown) (by decide)

end Sys2Proof.Machine
end

section
/-!
PROOFS. Bundles (R50, R52, R53, R60, R63): AT and its members, the queue and the FIFOs a bundle joins, and its dispatch.
-/
namespace Sys2Proof.Machine
open Reg F

/-! ### The members of a bundle (R46, R50) -/

theorem gMemberFault_of_readable (p dst : Nat) (w : BitVec 64) {ecc : Ecc} (h : ecc ≠ .fatal) :
    gMemberFault p dst w ecc = gMemberFault p dst w .clean := by
  simp [gMemberFault, h]

/-- A word of which nothing is said was found clean. -/
theorem getD_ne_fatal {eccs : List Ecc} (h : ∀ x ∈ eccs, x ≠ .fatal) (k : Nat) : eccs.getD k .clean ≠ .fatal := by
  rw [List.getD_eq_getElem?_getD]
  cases hk : eccs[k]? with
  | none => simp
  | some x => exact h x (List.mem_of_getElem? hk)

/-- No member of good words is a bad one, however it was found but for a word that cannot be corrected. -/
theorem find_bad_member {p dst n : Nat} {word : Nat → BitVec 64} {eccs : List Ecc} (heccs : ∀ x ∈ eccs, x ≠ .fatal)
    (hgood : ∀ x ∈ (List.range n).map word, gMemberFault p dst x .clean = none) :
    ((List.range n).find? fun k => (gMemberFault p dst (((List.range n).map word).getD k 0) (eccs.getD k .clean)).isSome) = none := by
  rw [List.find?_eq_none]
  intro k hk
  have hword : ((List.range n).map word).getD k 0 = word k := by
    have hlt := List.mem_range.1 hk
    simp [List.getD_eq_getElem?_getD, hlt]
  rw [gMemberFault_of_readable _ _ _ (getD_ne_fatal heccs k), hword, hgood _ (List.mem_map_of_mem hk)]
  simp

/-! ### AT and AT_REL as far as the push (R50) -/

/-- `v` is `s` as processor p comes to push a bundle at an instant, with BT set: what a bundle may join is as it was. -/
structure State.AtPush (s : State) (p now : Nat) (T : BitVec 64) (v : State) : Prop where
  now : v.now = now
  fifos : v.fifos = s.fifos
  enabled : ∀ k < 4, v.fifoEnabled k = s.fifoEnabled k
  glide : (v.glide p).quiet = ({ s.glide p with bt := T } : Glide).quiet

theorem State.AtPush.refl (s : State) (p : Nat) : s.AtPush p s.now (s.glide p).bt s := ⟨rfl, rfl, fun _ _ => rfl, rfl⟩

/-- Which tiles take bundles depends on TILE_EN and the states of the power domains alone. -/
theorem State.fifoEnabled_congr {s v : State} (k : Nat) (hen : v.reg GLIDE_TILE_EN = s.reg GLIDE_TILE_EN)
    (hdom : v.reg (PMU_DOM (10 + k)) = s.reg (PMU_DOM (10 + k))) : v.fifoEnabled k = s.fifoEnabled k := by
  simp only [State.fifoEnabled, State.maskBit, State.tileOn, State.domOn, State.fld, hen, hdom]

theorem State.atIssue_frame_reg (s : State) (p : Nat) (ecc : Ecc) {a : Nat} (ha : a ∉ [GLIDE_IMEM_CORRECTED p, GLIDE_CNT_FLAGS p])
    (he : eventReg a = false) : (s.atIssue p ecc).reg a = s.reg a :=
  ((s.atIssue_frame p ecc).reg ha he).trans (s.advance_reg _ a)

theorem State.advance_fifos (s : State) (t : Nat) : (s.advance t).fifos = s.fifos := by
  obtain ⟨n, b, hadv⟩ := s.advance_eq t
  rw [hadv]

theorem State.atIssue_fifos (s : State) (p : Nat) (ecc : Ecc) : (s.atIssue p ecc).fifos = s.fifos := by
  obtain ⟨hcore, _, _⟩ := s.atIssue_frame p ecc
  exact (congrArg (·.fifos) hcore).trans (s.advance_fifos _)

/-- The count of the corrected words of an AT and its members leaves all that. -/
theorem State.AtPush.of_frame {s v : State} {p : Nat} {ecc : Ecc} {T : BitVec 64}
    (h : Frame [GLIDE_IMEM_CORRECTED p, GLIDE_CNT_FLAGS p] ((s.atIssue p ecc).modGlide p fun g => { g with bt := T }) v) :
    s.AtPush p (s.atIssue p ecc).now T v := by
  obtain ⟨hcore, hquiet, hreg⟩ := h
  have hkeeps : ∀ a, a ∉ [GLIDE_IMEM_CORRECTED p, GLIDE_CNT_FLAGS p] → eventReg a = false → v.reg a = s.reg a :=
    fun a ha he => (hreg a ha he).trans (s.atIssue_frame_reg p ecc ha he)
  refine ⟨congrArg (·.now) hcore, (congrArg (·.fifos) hcore).trans (s.atIssue_fifos p ecc), fun k hk => ?_, ?_⟩
  · refine State.fifoEnabled_congr k (hkeeps _ ?_ (by decide)) (hkeeps _ ?_ ?_)
    · simp only [List.mem_cons, List.not_mem_nil, or_false, GLIDE_TILE_EN, GLIDE_IMEM_CORRECTED, GLIDE_CNT_FLAGS]
      omega
    · simp only [List.mem_cons, List.not_mem_nil, or_false, PMU_DOM, GLIDE_IMEM_CORRECTED, GLIDE_CNT_FLAGS]
      omega
    · simp only [eventReg, PMU_DOM, RILYN_LOG_DROP, RILYN_CNT_FLAGS, Bool.or_eq_false_iff, Bool.and_eq_false_iff, decide_eq_false_iff_not,
        beq_eq_false_iff_ne]
      omega
  · rw [hquiet p, State.glide_modGlide_same]
    exact s.atIssue_field p ecc (fun g => ({ g with bt := T } : Glide).quiet) (fun _ => rfl) p

/-- An AT with good members sets BT and pushes its bundle. -/
theorem State.gAt_good {s : State} {p : Fin 5} {op : Nat} {w : BitVec 64} {ecc : Ecc} {eccs : List Ecc} (h : s.Ready p op w)
    (hvalid : gValid op = true) (hradio : gRadio op = false) (hecc : ecc ≠ .fatal) (heccs : ∀ x ∈ eccs, x ≠ .fatal)
    (hdst : p ≠ 0 → gBits w 44 4 = 0) (hlen : (s.glide p).pc + (gBits w 52 3 + 1) < 8191)
    (hgood : ∀ x ∈ (List.range (gBits w 52 3 + 1)).map fun k => s.imemWord p ((s.glide p).pc + 1 + k),
      gMemberFault p (gBits w 44 4) x .clean = none)
    {T : BitVec 64} (hT : T = if op = 1 then (s.atIssue p ecc).gReg p (gBits w 48 4) + (BitVec.ofNat 44 (gBits w 0 44)).signExtend 64
      else (s.glide p).bt + BitVec.ofNat 64 (gBits w 0 44)) :
    let ws := (List.range (gBits w 52 3 + 1)).map fun k => s.imemWord p ((s.glide p).pc + 1 + k)
    ∃ v, s.AtPush p (s.atIssue p ecc).now T v ∧ s.gAt p op ecc eccs =
      v.gPush p ⟨T, gBit w 55, (s.glide p).pc, ws.map ((s.atIssue p ecc).gMember p), 0⟩ (BitVec.ofNat 4 (gBits w 44 4)) := by
  have hbt : ((s.atIssue p ecc).glide p).bt = (s.glide p).bt := s.atIssue_field p ecc (·.bt) (fun _ => rfl) p
  have hhere : ¬ ((p : Nat) ≠ 0 ∧ gBits w 44 4 ≠ 0) := fun ⟨hp, hd⟩ => hd (hdst fun h0 => hp (congrArg Fin.val h0))
  have hlast : ¬ 8191 < (s.glide p).pc + (gBits w 52 3 + 1) := by omega
  have hcount : ∀ (v : State) (l : List Nat), Frame [GLIDE_IMEM_CORRECTED p, GLIDE_CNT_FLAGS p] v
      (if l = [] then v else v.bump (GLIDE_IMEM_CORRECTED p) (GLIDE_CNT_FLAGS p) GLIDE_IMEM_FLAG l.length) := by
    intro v l
    split
    · exact .refl _ v
    · exact (Frame.refl _ v).bump _ _ _ _ (by simp) (by simp)
  unfold State.gAt
  rw [State.gIssue_ready h hvalid hradio hecc]
  simp only [State.atIssue_pc, State.atIssue_imemWord, hbt, if_neg hhere, if_neg hlast, find_bad_member heccs hgood, ← hT]
  exact ⟨_, .of_frame (hcount _ _), rfl⟩

/-! ### The push (R52, R60, R63) -/

/-- A bundle appended to the FIFOs of a list of tiles. -/
theorem State.fifo_each_append (b : Bundle) {l : List Nat} (hl : l.Nodup) (s : State) (k : Nat) :
    (s.each l fun u t => u.setFifo t (u.fifo t ++ [b])).fifo k = if k ∈ l then s.fifo k ++ [b] else s.fifo k := by
  induction l generalizing s with
  | nil => simp [State.each_nil]
  | cons t l ih =>
    obtain ⟨hnot, hl⟩ := List.nodup_cons.1 hl
    rw [State.each_cons, ih hl, State.fifo_setFifo]
    by_cases hk : k = t
    · subst hk; simp [hnot]
    · simp [hk]

/-- Appending to FIFOs touches no processor. -/
theorem State.glide_each_append (b : Bundle) (l : List Nat) (s : State) (p : Nat) :
    (s.each l fun u t => u.setFifo t (u.fifo t ++ [b])).glide p = s.glide p := by
  refine State.each_keeps (P := fun u => u.glide p = s.glide p) (fun u t h => ?_) l rfl
  exact h

/-- The tiles to which a mask sends a bundle. -/
def State.sendsTo (s : State) (mask : Nat) : List Nat := (onesOf 4 mask).filter s.fifoEnabled

section
variable (s : State) (mask : Nat)

theorem State.sendsTo_nodup : (s.sendsTo mask).Nodup := (List.nodup_range.filter _).filter _

theorem State.mem_sendsTo (k : Fin 4) : (k : Nat) ∈ s.sendsTo mask ↔ (mask.testBit k && s.fifoEnabled k) = true := by
  simp [State.sendsTo, onesOf, and_comm]

/-- Some tile lacks room exactly where not all have it. -/
theorem State.sendsTo_full (words : Nat) : ((s.sendsTo mask).any fun k => decide (256 < s.fifoLevel k + words)) = true ↔
    ¬ ∀ k : Fin 4, mask.testBit k = true → s.fifoEnabled k = true → s.fifoLevel k + words ≤ 256 := by
  rw [List.any_eq_true]
  constructor
  · rintro ⟨k, hk, hfull⟩ hroom
    have hlt : k < 4 := by
      simp only [State.sendsTo, onesOf, List.mem_filter, List.mem_range] at hk
      exact hk.1.1
    obtain ⟨hbit, hen⟩ := Bool.and_eq_true_iff.1 ((s.mem_sendsTo mask ⟨k, hlt⟩).1 hk)
    exact absurd (hroom ⟨k, hlt⟩ hbit hen) (Nat.not_le.2 (of_decide_eq_true hfull))
  · intro h
    push Not at h
    obtain ⟨k, hbit, hen, hfull⟩ := h
    exact ⟨k, (s.mem_sendsTo mask k).2 (by simp [hbit, hen]), decide_eq_true hfull⟩
end

section
variable {v : State} {p : Nat} {b : Bundle} {dst : BitVec 4}

/-- The processor's index, its state and the bundle held after a push that found room. -/
def Glide.Pushed (g : Glide) (b : Bundle) (bt : BitVec 64) : Prop :=
  g.st = .running ∧ g.pc = b.pc + b.members.length + 1 ∧ g.bt = bt ∧ g.held = none

/-- A push into the local queue. -/
theorem State.gPush_local (hdst : dst = 0) (hroom : (v.glide p).queue.length < 8) (hpc : b.pc + b.members.length < 8191) :
    ((v.gPush p b dst).glide p).queue = (v.glide p).queue ++ [{ b with avail := v.now + 4 * b.members.length }] ∧
      (v.gPush p b dst).fifos = v.fifos ∧ ((v.gPush p b dst).glide p).Pushed b (v.glide p).bt := by
  have hpush : v.gPush p b dst = ((v.advance (v.now + 4 * b.members.length)).modGlide p fun g =>
      { g with queue := g.queue ++ [{ b with avail := v.now + 4 * b.members.length }], held := none }).gGoto p (b.pc + b.members.length)
        (b.pc + b.members.length + 1) 4 := by
    unfold State.gPush
    rw [if_neg (by simp [hdst]), if_neg (by omega)]
  rw [hpush, State.gGoto_eq _ _ _ _ _ (by omega), State.glide_modGlide_same, State.glide_modGlide_same, State.advance_glide]
  exact ⟨rfl, v.advance_fifos _, rfl, rfl, rfl, rfl⟩

/-- A bundle that finds the local queue full is held at its AT. -/
theorem State.gPush_queueFull (hdst : dst = 0) (hfull : 8 ≤ (v.glide p).queue.length) :
    v.gPush p b dst = v.modGlide p fun g => { g with st := .stallQueue, held := some (b, dst) } := by
  unfold State.gPush
  rw [if_neg (by simp [hdst]), if_pos hfull]

/-- A push into the FIFOs of the enabled tiles that the bundle names; it crosses in 192 Tc. -/
theorem State.gPush_remote (hp : p = 0) (hdst : dst ≠ 0)
    (hroom : ∀ k : Fin 4, dst.toNat.testBit k = true → v.fifoEnabled k = true → v.fifoLevel k + b.words ≤ 256)
    (hpc : b.pc + b.members.length < 8191) :
    (∀ k : Fin 4, (v.gPush p b dst).fifo k = if dst.toNat.testBit k && v.fifoEnabled k
      then v.fifo k ++ [{ b with avail := v.now + 4 * b.members.length + 192 }] else v.fifo k) ∧
      ((v.gPush p b dst).glide p).queue = (v.glide p).queue ∧ ((v.gPush p b dst).glide p).Pushed b (v.glide p).bt := by
  have hfits : ¬ ((v.sendsTo dst.toNat).any fun k => decide (256 < v.fifoLevel k + b.words)) = true := fun h =>
    (v.sendsTo_full _ _).1 h hroom
  have hpush : v.gPush p b dst = (((v.advance (v.now + 4 * b.members.length)).each (v.sendsTo dst.toNat) fun u k =>
      u.setFifo k (u.fifo k ++ [{ b with avail := v.now + 4 * b.members.length + 192 }])).modGlide p fun g => { g with held := none }).gGoto p
        (b.pc + b.members.length) (b.pc + b.members.length + 1) 4 := by
    unfold State.gPush
    rw [if_pos ⟨hp, hdst⟩]
    exact if_neg hfits
  have hglide := State.glide_each_append { b with avail := v.now + 4 * b.members.length + 192 } (v.sendsTo dst.toNat)
    (v.advance (v.now + 4 * b.members.length)) p
  rw [hpush, State.gGoto_eq _ _ _ _ _ (by omega), State.glide_modGlide_same, State.glide_modGlide_same, hglide, State.advance_glide]
  refine ⟨fun k => ?_, rfl, rfl, rfl, rfl, rfl⟩
  refine (State.fifo_each_append _ (v.sendsTo_nodup _) _ k).trans ?_
  simp only [State.mem_sendsTo, State.fifo, State.advance_fifos]

/-- A bundle that lacks room in a FIFO is held at its AT, and the event is raised as the stall begins (R60). -/
theorem State.gPush_fifoFull (hp : p = 0) (hdst : dst ≠ 0)
    (hfull : ¬ ∀ k : Fin 4, dst.toNat.testBit k = true → v.fifoEnabled k = true → v.fifoLevel k + b.words ≤ 256)
    (hst : (v.glide p).st ≠ .stallFifo) :
    v.gPush p b dst = (v.modGlide p fun g => { g with st := .stallFifo, held := some (b, dst) }).raise Ev.GLIDE_FIFO_FULL := by
  unfold State.gPush
  rw [if_pos ⟨hp, hdst⟩]
  refine (if_pos ((v.sendsTo_full _ _).2 hfull)).trans ?_
  exact if_neg hst
end

/-! ### What AT and AT_QUEUE_STALL_RELEASE answer (R50, R52, R60) -/

theorem Answers.imp {i : Instr} {s : State} {P Q : State → Prop} (h : Answers i s P) (hPQ : ∀ t, P t → Q t) : Answers i s Q := by
  obtain ⟨t, hrun, ht⟩ := h
  exact ⟨t, hrun, hPQ t ht⟩

section
variable {s v : State} {p now : Nat} {T : BitVec 64} (h : s.AtPush p now T v)
include h

theorem State.AtPush.field {α : Type} (f : Glide → α) (hf : ∀ g, f g.quiet = f g) : f (v.glide p) = f { s.glide p with bt := T } :=
  Glide.eq_of_quiet f hf h.glide

theorem State.AtPush.queue_eq : (v.glide p).queue = (s.glide p).queue := h.field (·.queue) fun _ => rfl
theorem State.AtPush.bt_eq : (v.glide p).bt = T := h.field (·.bt) fun _ => rfl
theorem State.AtPush.fifo_eq (k : Nat) : v.fifo k = s.fifo k := by simp only [State.fifo, h.fifos]

/-- A FIFO has room at the push where it had room before. -/
theorem State.AtPush.room_iff (mask words : Nat) :
    (∀ k : Fin 4, mask.testBit k = true → v.fifoEnabled k = true → v.fifoLevel k + words ≤ 256) ↔
      ∀ k : Fin 4, mask.testBit k = true → s.fifoEnabled k = true → s.fifoLevel k + words ≤ 256 := by
  refine forall_congr' fun k => ?_
  rw [h.enabled k k.2]
  simp only [State.fifoLevel, h.fifo_eq]

variable {i : Instr} {b : Bundle} {d : BitVec 4} (hrun : exec i s = done (v.gPush p b d))
include hrun

theorem State.AtPush.answers_local (hd : d = 0) (hroom : (s.glide p).queue.length < 8) (hpc : b.pc + b.members.length < 8191) :
    Answers i s fun x => (x.glide p).queue = (s.glide p).queue ++ [{ b with avail := now + 4 * b.members.length }] ∧ x.fifos = s.fifos ∧
      (x.glide p).Pushed b T := by
  obtain ⟨hqueue, hfifos, hpushed⟩ := State.gPush_local (v := v) (p := p) (b := b) hd (by rw [h.queue_eq]; exact hroom) hpc
  refine .of_done hrun ?_
  rw [State.settle_glide, State.settle_fifos, hqueue, h.queue_eq, hfifos, h.fifos, h.now]
  exact ⟨rfl, rfl, h.bt_eq ▸ hpushed⟩

theorem State.AtPush.answers_remote (hp : p = 0) (hd : d ≠ 0)
    (hroom : ∀ k : Fin 4, d.toNat.testBit k = true → s.fifoEnabled k = true → s.fifoLevel k + b.words ≤ 256)
    (hpc : b.pc + b.members.length < 8191) :
    Answers i s fun x => (∀ k : Fin 4, x.fifo k = if d.toNat.testBit k && s.fifoEnabled k
        then s.fifo k ++ [{ b with avail := now + 4 * b.members.length + 192 }] else s.fifo k) ∧
      (x.glide p).queue = (s.glide p).queue ∧ (x.glide p).Pushed b T := by
  obtain ⟨hfifo, hqueue, hpushed⟩ := State.gPush_remote hp hd ((h.room_iff _ _).2 hroom) hpc
  refine .of_done hrun ⟨fun k => ?_, ?_, ?_⟩
  · rw [State.settle_fifo, hfifo, h.enabled k k.2, h.fifo_eq, h.now]
  · rw [State.settle_glide, hqueue, h.queue_eq]
  · rw [State.settle_glide, ← h.bt_eq]
    exact hpushed

theorem State.AtPush.answers_queueFull (hd : d = 0) (hfull : 8 ≤ (s.glide p).queue.length) :
    Answers i s fun x => (x.glide p).st = .stallQueue ∧ (x.glide p).held = some (b, 0) ∧ (x.glide p).bt = T ∧
      (x.glide p).queue = (s.glide p).queue := by
  have hstall := State.gPush_queueFull (b := b) hd (h.queue_eq ▸ hfull)
  refine .of_done (hrun.trans (congrArg done hstall)) ?_
  rw [State.settle_glide, State.glide_modGlide_same]
  exact ⟨rfl, by rw [hd], h.bt_eq, h.queue_eq⟩

theorem State.AtPush.answers_fifoFull (hp : p = 0) (hd : d ≠ 0)
    (hfull : ¬ ∀ k : Fin 4, d.toNat.testBit k = true → s.fifoEnabled k = true → s.fifoLevel k + b.words ≤ 256)
    (hst : (s.glide p).st ≠ .stallFifo) :
    Answers i s fun x => (x.glide p).st = .stallFifo ∧ (x.glide p).held = some (b, d) ∧ (x.glide p).bt = T ∧ x.fifos = s.fifos ∧
      x.stored Ev.GLIDE_FIFO_FULL = true := by
  have hst' : (v.glide p).st ≠ .stallFifo := by
    rw [h.field (·.st) fun _ => rfl]
    exact hst
  have hstall := State.gPush_fifoFull hp hd (fun hroom => hfull ((h.room_iff _ _).1 hroom)) hst'
  have hframe := (Frame.refl [] (v.modGlide p fun g => { g with st := .stallFifo, held := some (b, d) })).raise Ev.GLIDE_FIFO_FULL
  refine .of_done (hrun.trans (congrArg done hstall)) ⟨?_, ?_, ?_, ?_, ?_⟩
  · rw [State.settle_glide, hframe.glide_field (·.st) fun _ => rfl, State.glide_modGlide_same]
  · rw [State.settle_glide, hframe.glide_field (·.held) fun _ => rfl, State.glide_modGlide_same]
  · rw [State.settle_glide, hframe.glide_field (·.bt) fun _ => rfl, State.glide_modGlide_same]
    exact h.bt_eq
  · rw [State.settle_fifos, State.raise_fifos]
    exact h.fifos
  · rw [State.stored_settle]
    exact State.stored_raise_hub _ _ (by decide) (by decide)
end

theorem State.stallRelease_held {s : State} {p : Nat} {b : Bundle} {d : BitVec 4} (hheld : (s.glide p).held = some (b, d))
    (hst : (s.glide p).st = .stallQueue ∨ (s.glide p).st = .stallFifo) : s.stallRelease p = s.gPush p b d := by
  simp only [State.stallRelease, hheld, if_pos hst]

/-! ### Dispatch (R53, R56, R57) -/

/-- What one step of a list establishes for its element and every step keeps holds for each element at the end. -/
theorem State.each_establishes {α : Type} {Q : α → State → Prop} {f : State → α → State} (hstep : ∀ s x, Q x (f s x))
    (hkeep : ∀ s x y, Q x s → Q x (f s y)) {l : List α} {x : α} (hx : x ∈ l) (s : State) : Q x (s.each l f) := by
  induction l generalizing s with
  | nil => cases hx
  | cons y l ih =>
    rw [State.each_cons]
    rcases List.mem_cons.1 hx with rfl | hx
    · exact State.each_keeps (P := Q x) (fun u y => hkeep u x y) l (hstep s x)
    · exact ih hx _

theorem mem_insertEffect {e x : Effect} {l : List Effect} : x ∈ insertEffect e l ↔ x = e ∨ x ∈ l := by
  induction l with
  | nil => simp [insertEffect]
  | cons y l ih =>
    unfold insertEffect
    split
    · simp
    · rw [List.mem_cons, ih, List.mem_cons]
      exact or_left_comm

theorem State.armCapture_effects (s : State) (t d len : Nat) : (s.armCapture t d len).effects = s.effects := by
  unfold State.armCapture
  split
  · rfl
  · rfl

/-- Arming a capture writes its descriptor's status and no other register. -/
theorem State.armCapture_reg (s : State) (t d len : Nat) {a : Nat} (ha : a ≠ RXCH_CAP_STAT t d) : (s.armCapture t d len).reg a = s.reg a := by
  unfold State.armCapture
  split
  · exact s.reg_setReg_ne _ ha
  · rfl

/-- What a bundle applied at an instant does for one member (R54, R125). -/
def State.applyMember (s : State) (die proc at_ : Nat) (r : Radio) : State :=
  let u := { s with effects := insertEffect ⟨at_ + r.latency, die, proc, r⟩ s.effects }
  match r with
  | .capt _ _ desc len => u.armCapture die desc.toNat len.toNat
  | _ => u

section
variable (s : State) (die proc at_ : Nat)

theorem State.applyBundle_eq (b : Bundle) : s.applyBundle die proc b at_ = s.each b.members fun u r => u.applyMember die proc at_ r := rfl

theorem State.applyMember_effects (r : Radio) :
    (s.applyMember die proc at_ r).effects = insertEffect ⟨at_ + r.latency, die, proc, r⟩ s.effects := by
  unfold State.applyMember
  dsimp only
  split
  · exact State.armCapture_effects _ _ _ _
  · rfl

/-- The count of late bundles is no register of a capture. -/
theorem State.applyMember_lateCount (r : Radio) (p : Nat) :
    (s.applyMember die proc at_ r).reg (GLIDE_LATE_COUNT p) = s.reg (GLIDE_LATE_COUNT p) := by
  unfold State.applyMember
  dsimp only
  split
  · next desc len =>
    have hdesc := desc.isLt
    refine State.armCapture_reg _ _ _ _ ?_
    simp only [GLIDE_LATE_COUNT, RXCH_CAP_STAT]
    omega
  · rfl

/-- Every member of a bundle applied has its effect to come (R54). -/
theorem State.applyBundle_effects (b : Bundle) {r : Radio} (hr : r ∈ b.members) :
    (⟨at_ + r.latency, die, proc, r⟩ : Effect) ∈ (s.applyBundle die proc b at_).effects := by
  rw [State.applyBundle_eq]
  refine State.each_establishes (Q := fun r u => (⟨at_ + r.latency, die, proc, r⟩ : Effect) ∈ u.effects)
    (fun u r => ?_) (fun u r r' h => ?_) hr s
  · rw [State.applyMember_effects]
    exact mem_insertEffect.2 (.inl rfl)
  · rw [State.applyMember_effects]
    exact mem_insertEffect.2 (.inr h)

theorem State.applyBundle_lateCount (b : Bundle) (p : Nat) :
    (s.applyBundle die proc b at_).reg (GLIDE_LATE_COUNT p) = s.reg (GLIDE_LATE_COUNT p) :=
  State.each_keeps (P := fun u => u.reg (GLIDE_LATE_COUNT p) = s.reg (GLIDE_LATE_COUNT p))
    (fun u r h => (u.applyMember_lateCount die proc at_ r p).trans h) b.members rfl
end

section
variable (s : State) (p die proc : Nat) (b : Bundle)

/-- A late bundle adds one to the count of its processor (R53). -/
theorem State.bundleLate_count (hp : p < 5) (remote : Bool) : (s.bundleLate p remote b).fld (GLIDE_LATE_COUNT p) ⟨0, 32⟩ =
    min (s.fld (GLIDE_LATE_COUNT p) ⟨0, 32⟩ + 1) (2 ^ 32 - 1) := by
  have hevent : eventReg (GLIDE_LATE_COUNT p) = false := by interval_cases p <;> decide
  have hother : GLIDE_LATE_COUNT p ≠ GLIDE_LATE_TIME_LO p ∧ GLIDE_LATE_COUNT p ≠ GLIDE_LATE_TIME_HI p ∧
      GLIDE_LATE_COUNT p ≠ GLIDE_LATE_INFO p := by
    simp only [GLIDE_LATE_COUNT, GLIDE_LATE_TIME_LO, GLIDE_LATE_TIME_HI, GLIDE_LATE_INFO]
    omega
  obtain ⟨hlo, hhi, hinfo⟩ := hother
  have hflags : GLIDE_LATE_COUNT p ≠ GLIDE_CNT_FLAGS p := by
    simp only [GLIDE_LATE_COUNT, GLIDE_CNT_FLAGS]
    omega
  have hbump := (s.raise (Ev.GLIDE_LATE p)).fld_bump (GLIDE_LATE_COUNT p) (GLIDE_CNT_FLAGS p) 0 1 hevent hflags
  rw [s.fld_raise _ _ _ hevent] at hbump
  rw [← hbump]
  unfold State.bundleLate
  dsimp only
  rw [State.fld, State.reg_setReg_ne _ _ hinfo, State.reg_setReg_ne _ _ hhi, State.reg_setReg_ne _ _ hlo, State.fld]

/-- Counting and recording it makes no effect. -/
theorem State.bundleLate_effects (remote : Bool) : (s.bundleLate p remote b).effects = s.effects := by
  obtain ⟨r, g, q, l, hbump⟩ := (s.raise (Ev.GLIDE_LATE p)).bump_event (GLIDE_LATE_COUNT p) (GLIDE_CNT_FLAGS p) 0 1
  unfold State.bundleLate
  dsimp only
  rw [State.setReg_effects, State.setReg_effects, State.setReg_effects, hbump]
  exact s.raise_effects _

theorem State.advance_effects (t : Nat) : (s.advance t).effects = s.effects := by
  obtain ⟨n, tb, hadv⟩ := s.advance_eq t
  rw [hadv]

/-- A bundle on time is applied at its instant, from which its effects are fixed (R53, R54). -/
theorem State.judgeBundle_onTime (h : s.tbAt b.avail ≤ b.time.toNat) : (s.judgeBundle p die proc b).2 = s.instantOf b.time.toNat ∧
    ∀ r ∈ b.members, (⟨s.instantOf b.time.toNat + r.latency, die, proc, r⟩ : Effect) ∈ (s.judgeBundle p die proc b).1.effects := by
  unfold State.judgeBundle
  rw [if_pos h]
  exact ⟨rfl, fun r hr => State.applyBundle_effects _ _ _ _ _ hr⟩

/-- A late one is counted, and applied with L = 1 at the instant at which it reached the head, else skipped (R53). -/
theorem State.judgeBundle_late (hp : p < 5) (h : b.time.toNat < s.tbAt b.avail) : (s.judgeBundle p die proc b).2 = b.avail ∧
    (s.judgeBundle p die proc b).1.fld (GLIDE_LATE_COUNT p) ⟨0, 32⟩ = min (s.fld (GLIDE_LATE_COUNT p) ⟨0, 32⟩ + 1) (2 ^ 32 - 1) ∧
    if b.applyLate then ∀ r ∈ b.members, (⟨b.avail + r.latency, die, proc, r⟩ : Effect) ∈ (s.judgeBundle p die proc b).1.effects
      else (s.judgeBundle p die proc b).1.effects = s.effects := by
  have hcount := (s.advance b.avail).bundleLate_count p b hp (proc == 5)
  rw [State.fld, State.fld, State.advance_reg] at hcount
  unfold State.judgeBundle
  rw [if_neg (Nat.not_le.2 h)]
  by_cases hlate : b.applyLate = true
  · simp only [hlate, if_true, true_and]
    refine ⟨?_, fun r hr => State.applyBundle_effects _ _ _ _ _ hr⟩
    rw [State.fld, State.applyBundle_lateCount, hcount, State.fld]
  · simp only [hlate, true_and]
    exact ⟨hcount, (State.bundleLate_effects ..).trans (s.advance_effects _)⟩

variable {s p die proc b} {rest : List Bundle}

/-- What a dispatcher answers that judges its head and puts the rest of its bundles in place. -/
theorem Answers.of_judged (hp : p < 5) {i : Instr} {place : State → List Bundle → State} {waiting : State → List Bundle}
    (hrun : exec i s = done (place (s.judgeBundle p die proc b).1 (reachHead (s.judgeBundle p die proc b).2 rest)))
    (hwaiting : ∀ u l, waiting (place u l).settle = l) (heffects : ∀ u l, (place u l).effects = u.effects)
    (hreg : ∀ u l a, (place u l).reg a = u.reg a) :
    (s.tbAt b.avail ≤ b.time.toNat → Answers i s fun v => waiting v = reachHead (s.instantOf b.time.toNat) rest ∧
      ∀ r ∈ b.members, (⟨s.instantOf b.time.toNat + r.latency, die, proc, r⟩ : Effect) ∈ v.effects) ∧
    (b.time.toNat < s.tbAt b.avail → Answers i s fun v => waiting v = reachHead b.avail rest ∧
      v.fld (GLIDE_LATE_COUNT p) ⟨0, 32⟩ = min (s.fld (GLIDE_LATE_COUNT p) ⟨0, 32⟩ + 1) (2 ^ 32 - 1) ∧
      if b.applyLate then ∀ r ∈ b.members, (⟨b.avail + r.latency, die, proc, r⟩ : Effect) ∈ v.effects else v.effects = s.effects) := by
  refine ⟨fun htime => .of_done hrun ?_, fun htime => .of_done hrun ?_⟩
  · obtain ⟨hinst, heff⟩ := s.judgeBundle_onTime p die proc b htime
    rw [hwaiting, State.settle_effects, heffects, hinst]
    exact ⟨rfl, heff⟩
  · obtain ⟨hinst, hcount, heff⟩ := s.judgeBundle_late p die proc b hp htime
    rw [hwaiting, State.settle_effects, heffects, State.fld_settle, State.fld, hreg, hinst]
    exact ⟨rfl, hcount, heff⟩

variable (s p)

theorem State.dispatchLocal_head (hq : (s.glide p).queue = b :: rest) :
    let x := s.judgeBundle p (if p = 0 then 4 else p - 1) p b
    s.dispatchLocal p = x.1.modGlide p fun g => { g with queue := reachHead x.2 rest } := by
  simp only [State.dispatchLocal, hq]

theorem State.dispatchFifo_head {t : Nat} (hq : s.fifo t = b :: rest) (hen : s.fifoEnabled t = true)
    (hmute : s.bit (TXCH_STATUS t) TXCH_STATUS_MUTE_LINK = false) :
    s.dispatchFifo t = (s.judgeBundle (1 + t) t 5 b).1.setFifo t (reachHead (s.judgeBundle (1 + t) t 5 b).2 rest) := by
  simp only [State.dispatchFifo, hq, hen, hmute]
  rfl
end

theorem exec_bundleDispatch_remote (s : State) (t : Fin 4) : exec (.bundleDispatch true t.castSucc) s = done (s.dispatchFifo t) := by
  show done (s.dispatchFifo (t % 4)) = _
  rw [Nat.mod_eq_of_lt t.2]

/-- Settles O7: AT by the push of its bundle, dispatch by the judging of the head. -/
theorem glideBundles : Obligations.GlideBundles := by
  intro s p w ecc eccs hecc heccs u g n ws dst bundle room good on die
  refine ⟨fun i T hi hgood => ?at_, fun b d hheld hst hpc => ?release, fun b rest hq => ?dispatchLocal,
    fun t b rest hq hen hmute => ?dispatchFifo⟩
  case at_ =>
    obtain ⟨hhub, hlen, hmembers⟩ := hgood
    obtain ⟨op, hready, hvalid, hradio, hexec, hT⟩ : ∃ op, s.Ready p op w ∧ gValid op = true ∧ gRadio op = false ∧
        exec i s = done (s.gAt p op ecc eccs) ∧ T = if op = 1 then u.gReg p (gBits w 48 4) + (BitVec.ofNat 44 (gBits w 0 44)).signExtend 64
          else g.bt + BitVec.ofNat 64 (gBits w 0 44) := by
      rcases hi with ⟨rfl, hready, hT⟩ | ⟨rfl, hready, hT⟩
      · exact ⟨1, hready, rfl, rfl, rfl, hT⟩
      · exact ⟨2, hready, rfl, rfl, rfl, hT⟩
    obtain ⟨v, hv, hat⟩ := State.gAt_good hready hvalid hradio hecc heccs hhub hlen hmembers hT
    have hrun : exec i s = done (v.gPush p (bundle T 0) (BitVec.ofNat 4 dst)) := hexec.trans (congrArg done hat)
    have hcount : (bundle T 0).members.length = n := by simp [bundle, ws]
    have hwords : (bundle T 0).words = n + 1 := congrArg (· + 1) hcount
    have hdst : (BitVec.ofNat 4 dst).toNat = dst := Nat.mod_eq_of_lt (gBits_lt w 44 4)
    have hpc : (bundle T 0).pc + (bundle T 0).members.length < 8191 := by rw [hcount]; exact hlen
    have hhere : dst = 0 → BitVec.ofNat 4 dst = 0 := fun hd => by rw [hd]; rfl
    have hthere : dst ≠ 0 → BitVec.ofNat 4 dst ≠ 0 ∧ (p : Nat) = 0 := fun hd =>
      ⟨fun h0 => hd (by rw [← hdst, h0]; rfl), congrArg Fin.val (not_not.1 fun hp => hd (hhub hp))⟩
    have hon : ∀ x : State, (x.glide p).Pushed (bundle T 0) T → on x T := fun x hx => by
      rw [Glide.Pushed, hcount] at hx
      exact hx
    refine ⟨fun hd hq => ?_, fun hd hroom => ?_, fun hd hq => ?_, fun hd hfull => ?_⟩
    · refine (hv.answers_local hrun (hhere hd) hq hpc).imp fun x ⟨hqueue, hfifos, hpushed⟩ => ⟨?_, hfifos, hon x hpushed⟩
      rw [hqueue, hcount]
    · obtain ⟨hne, hp⟩ := hthere hd
      refine (hv.answers_remote hrun hp hne (by rw [hdst, hwords]; exact hroom) hpc).imp
        fun x ⟨hfifo, hqueue, hpushed⟩ => ⟨fun k => ?_, hqueue, hon x hpushed⟩
      rw [hfifo, hdst, hcount]
    · exact hv.answers_queueFull hrun (hhere hd) hq
    · obtain ⟨hne, hp⟩ := hthere hd
      exact hv.answers_fifoFull hrun hp hne (by rw [hdst, hwords]; exact hfull) (by rw [hready.running]; decide)
  case release =>
    have hrun : exec (.atQueueStallRelease p) s = done (s.gPush p b d) := congrArg done (State.stallRelease_held hheld hst)
    refine ⟨fun hd hq => ?_, fun hp hd hroom => ?_⟩
    · exact ((State.AtPush.refl s p).answers_local hrun hd hq hpc).imp fun x ⟨hqueue, _, hst, hpc, _, hheld⟩ => ⟨hqueue, hst, hpc, hheld⟩
    · exact ((State.AtPush.refl s p).answers_remote hrun (congrArg Fin.val hp) hd hroom hpc).imp
        fun x ⟨hfifo, _, hst, hpc, _, hheld⟩ => ⟨hfifo, hst, hpc, hheld⟩
  case dispatchLocal =>
    exact Answers.of_judged p.2 (place := fun u l => u.modGlide p fun g => { g with queue := l }) (waiting := fun v => (v.glide p).queue)
      (congrArg done (State.dispatchLocal_head s p hq)) (fun u l => by rw [State.settle_glide, State.glide_modGlide_same])
      (fun _ _ => rfl) fun _ _ _ => rfl
  case dispatchFifo =>
    exact Answers.of_judged (by omega) (place := fun u l => u.setFifo t l) (waiting := fun v => v.fifo t)
      ((exec_bundleDispatch_remote s t).trans (congrArg done (State.dispatchFifo_head s hq hen hmute)))
      (fun u l => by rw [State.settle_fifo, State.fifo_setFifo, if_pos rfl]) (fun _ _ => rfl) fun _ _ _ => rfl

end Sys2Proof.Machine
end

section
/-!
PROOFS. Support for the converter chains (chapters 03 and 04): what a loop over paths and carriers does to one of them, and what the operations of a
direction leave as it was.
-/
namespace Sys2Proof.Machine
open Reg F

/-! ### Loops -/

section
variable {α β : Type} {f : State → α → State} {l : List α} {s : State}

/-- What the step at each element of a list keeps is kept by the whole. -/
theorem State.each_keeps_mem {P : State → Prop} (h : ∀ u, ∀ x ∈ l, P u → P (f u x)) (hs : P s) : P (s.each l f) := by
  induction l generalizing s with
  | nil => exact hs
  | cons x l ih => exact ih (fun u y hy => h u y (List.mem_cons_of_mem _ hy)) (h s x (List.mem_cons_self ..) hs)

/-- A reading `r` that the steps at some elements change by `g`, and no other step: more than one such step does what one does. -/
theorem State.each_reading {I : State → Prop} {r : State → β} {g : β → β} {p : α → Prop} [DecidablePred p] (hg : ∀ b, g (g b) = g b)
    (hI : ∀ u x, I u → I (f u x)) (hr : ∀ u, ∀ x ∈ l, I u → r (f u x) = if p x then g (r u) else r u) (hs : I s) :
    r (s.each l f) = if ∃ x ∈ l, p x then g (r s) else r s := by
  induction l generalizing s with
  | nil => simp [State.each_nil]
  | cons x l ih =>
    rw [State.each_cons, ih (fun u y hy => hr u y (List.mem_cons_of_mem _ hy)) (hI s x hs), hr s x (List.mem_cons_self ..) hs]
    by_cases hx : p x
    · simp [hx, hg]
    · simp [hx]

/-- In a loop that comes once to `x`, the step at `x` makes `Q` of `P`, and the other steps keep both. -/
theorem State.each_visit {P Q : State → Prop} {x : α} (hnodup : l.Nodup) (hx : x ∈ l) (hP : ∀ u y, y ≠ x → P u → P (f u y))
    (hPQ : ∀ u, P u → Q (f u x)) (hQ : ∀ u y, y ≠ x → Q u → Q (f u y)) (hs : P s) : Q (s.each l f) := by
  induction l generalizing s with
  | nil => cases hx
  | cons y l ih =>
    obtain ⟨hy, hl⟩ := List.nodup_cons.1 hnodup
    rw [State.each_cons]
    by_cases hyx : y = x
    · subst hyx
      exact State.each_keeps_mem (fun u z hz => hQ u z fun h => hy (h ▸ hz)) (hPQ s hs)
    · exact ih hl ((List.mem_cons.1 hx).resolve_left (Ne.symm hyx)) (hP s y hyx hs)
end

/-! ### Masks of paths and carriers -/

theorem mem_onesOf_toNat {n : Nat} (m : BitVec n) (i : Nat) : i ∈ onesOf n m.toNat ↔ m.getLsbD i = true := by
  simp only [onesOf, List.mem_filter, List.mem_range, ← BitVec.testBit_toNat, and_iff_right_iff_imp]
  intro h
  exact BitVec.lt_of_getLsbD (x := m) h

theorem lt_of_mem_onesOf {n m i : Nat} (h : i ∈ onesOf n m) : i < n := List.mem_range.1 (List.mem_filter.1 h).1

theorem inMasks_iff {t : Nat} {cm : BitVec 4} {pm : BitVec 16} {k : Nat} :
    inMasks t cm pm k = true ↔ ∃ i ∈ onesOf 16 pm.toNat, ∃ c ∈ onesOf 4 cm.toNat, k = carKey t i c := by
  simp only [mem_onesOf_toNat, inMasks, Bool.and_eq_true, beq_iff_eq, carKey]
  constructor
  · rintro ⟨⟨ht, hp⟩, hc⟩
    exact ⟨_, hp, _, hc, by omega⟩
  · rintro ⟨i, hp, c, hc, hk⟩
    have hi := BitVec.lt_of_getLsbD hp
    have hc4 := BitVec.lt_of_getLsbD hc
    have hpath : k / 4 % 16 = i := by omega
    have hcar : k % 4 = c := by omega
    exact ⟨⟨by omega, hpath ▸ hp⟩, hcar ▸ hc⟩

/-- The mask of one carrier names that carrier. -/
theorem inMasks_one_iff {t : Nat} {car : BitVec 2} {pm : BitVec 16} {k : Nat} :
    inMasks t (BitVec.ofNat 4 (2 ^ car.toNat)) pm k = true ↔ ∃ i ∈ onesOf 16 pm.toNat, k = carKey t i car.toNat := by
  have hone : ∀ car : BitVec 2, onesOf 4 (BitVec.ofNat 4 (2 ^ car.toNat)).toNat = [car.toNat] := by decide
  simp only [inMasks_iff, hone, List.mem_singleton, exists_eq_left]

theorem pathKey_inj {t i j : Nat} : pathKey t i = pathKey t j ↔ i = j := by
  simp only [pathKey]
  omega

section
variable {β : Type} {r : State → β} {s : State}

/-- A reading that the change of one carrier of one path sets, and no other change. -/
theorem State.eachCar_reading {f : State → Nat → Nat → State} {t k : Nat} {v : β}
    (hr : ∀ u i c, r (f u i c) = if k = carKey t i c then v else r u) (cm : BitVec 4) (pm : BitVec 16) :
    r (s.eachCar cm pm f) = if inMasks t cm pm k then v else r s := by
  have hpath : ∀ u i, r (u.each (onesOf 4 cm.toNat) fun u c => f u i c) = if ∃ c ∈ onesOf 4 cm.toNat, k = carKey t i c then v else r u :=
    fun u i => State.each_reading (I := fun _ => True) (g := fun _ => v) (fun _ => rfl) (fun _ _ _ => trivial) (fun u c _ _ => hr u i c) trivial
  simp only [inMasks_iff]
  exact State.each_reading (I := fun _ => True) (g := fun _ => v) (fun _ => rfl) (fun _ _ _ => trivial) (fun u i _ _ => hpath u i) trivial

/-- The same for a carrier of the paths of a mask. -/
theorem State.eachPath_car_reading {f : State → Nat → State} {t k : Nat} {car : BitVec 2} {v : β}
    (hr : ∀ u i, r (f u i) = if k = carKey t i car.toNat then v else r u) (pm : BitVec 16) :
    r (s.each (onesOf 16 pm.toNat) f) = if inMasks t (BitVec.ofNat 4 (2 ^ car.toNat)) pm k then v else r s := by
  simp only [inMasks_one_iff]
  exact State.each_reading (I := fun _ => True) (g := fun _ => v) (fun _ => rfl) (fun _ _ _ => trivial) (fun u i _ _ => hr u i) trivial

/-- The same for one of the paths of a mask. -/
theorem State.eachPath_reading {f : State → Nat → State} {i : Nat} {g : β → β} (hg : ∀ b, g (g b) = g b)
    (hr : ∀ u, ∀ x < 16, r (f u x) = if x = i then g (r u) else r u) (pm : BitVec 16) :
    r (s.each (onesOf 16 pm.toNat) f) = if pm.getLsbD i then g (r s) else r s := by
  refine (State.each_reading (I := fun _ => True) hg (fun _ _ _ => trivial) (fun u x hx _ => hr u x (lt_of_mem_onesOf hx)) trivial).trans ?_
  simp only [exists_eq_right, mem_onesOf_toNat]
end

/-! ### What the chains of one direction leave as it was -/

/-- The state without what events change and without what the chains of a direction hold: its carriers and paths, the codes of its step attenuators, the
bursts that may strike it. -/
def State.beside : Bool → State → State
  | false, s => { s.core with txCars := [], txPaths := [], cals := [] }
  | true, s => { s.core with rxCars := [], rxPaths := [], stepPins := [], rffes := [], cals := [] }

/-- `t` is `s` but for the registers listed, for what events do, and for what the chains of a direction hold (false: transmit, true: receive). -/
structure ChainFrame (rx : Bool) (l : List Nat) (s t : State) : Prop where
  rest : t.beside rx = s.beside rx
  quiet : ∀ p, (t.glide p).quiet = (s.glide p).quiet
  reg : ∀ a, a ∉ l → eventReg a = false → t.reg a = s.reg a

section
variable {rx : Bool} {l : List Nat} {s u v : State}

theorem ChainFrame.refl (rx : Bool) (l : List Nat) (s : State) : ChainFrame rx l s s := ⟨rfl, fun _ => rfl, fun _ _ _ => rfl⟩

theorem ChainFrame.trans (h : ChainFrame rx l s u) (h' : ChainFrame rx l u v) : ChainFrame rx l s v :=
  ⟨h'.rest.trans h.rest, fun p => (h'.quiet p).trans (h.quiet p), fun a ha he => (h'.reg a ha he).trans (h.reg a ha he)⟩

theorem Frame.chain (h : Frame l s u) (rx : Bool) : ChainFrame rx l s u := by
  obtain ⟨hcore, hquiet, hreg⟩ := h
  have hbeside : ∀ x : State, x.core.beside rx = x.beside rx := fun x => by cases rx <;> rfl
  exact ⟨by rw [← hbeside, hcore, hbeside], hquiet, hreg⟩

/-- What a chain frame does not leave open is as it was. -/
theorem ChainFrame.field (h : ChainFrame rx l s u) {α : Type} (m : State → α) (hm : ∀ x, m (x.beside rx) = m x) : m u = m s := by
  rw [← hm u, h.rest, hm]

/-- The chains hold no memory. -/
theorem ChainFrame.keeps (h : ChainFrame rx l s u) : Keeps l s u := by
  have hmem : ∀ {α : Type} (m : State → α), m (u.beside rx) = m (s.beside rx) := fun m => congrArg m h.rest
  have instructions : ∀ p, (u.glide p).quiet.imem = (s.glide p).quiet.imem := fun p => congrArg (·.imem) (h.quiet p)
  cases rx
  · exact ⟨h.reg, hmem (·.capSram), hmem (·.dram), hmem (·.weights), hmem (·.dpdTbl), hmem (·.coefs), hmem (·.pmem), hmem (·.bufWords),
      hmem (·.flash), instructions⟩
  · exact ⟨h.reg, hmem (·.capSram), hmem (·.dram), hmem (·.weights), hmem (·.dpdTbl), hmem (·.coefs), hmem (·.pmem), hmem (·.bufWords),
      hmem (·.flash), instructions⟩

/-- A change of what the chains hold alone. -/
theorem ChainFrame.inside (h : ChainFrame rx l s u) (hrest : v.beside rx = u.beside rx) (hregs : v.regs = u.regs) (hglides : v.glides = u.glides) :
    ChainFrame rx l s v :=
  h.trans ⟨hrest, fun p => by rw [State.glide, hglides, State.glide], fun a _ _ => by rw [State.reg, hregs, State.reg]⟩

theorem ChainFrame.setReg (h : ChainFrame rx l s u) (a : Nat) (w : Word) (ha : a ∈ l) : ChainFrame rx l s (u.setReg a w) :=
  h.trans (((Frame.refl l u).setReg a w ha).chain rx)
theorem ChainFrame.setBit (h : ChainFrame rx l s u) (a : Nat) (f : Fld) (b : Bool) (ha : a ∈ l) : ChainFrame rx l s (u.setBit a f b) :=
  h.setReg a _ ha
theorem ChainFrame.raise (h : ChainFrame rx l s u) (e : Nat) : ChainFrame rx l s (u.raise e) := h.trans (((Frame.refl l u).raise e).chain rx)
theorem ChainFrame.bump (h : ChainFrame rx l s u) (cnt fr fb n : Nat) (hc : cnt ∈ l) (hf : fr ∈ l) : ChainFrame rx l s (u.bump cnt fr fb n) :=
  h.trans (((Frame.refl l u).bump cnt fr fb n hc hf).chain rx)
theorem ChainFrame.modCal (h : ChainFrame rx l s u) (k : Nat) (f : Cal → Cal) : ChainFrame rx l s (u.modCal k f) :=
  h.inside (by cases rx <;> rfl) rfl rfl
theorem ChainFrame.calHit (h : ChainFrame rx l s u) (t i : Nat) (sel : Burst → Bool) : ChainFrame rx l s (u.calHit t i sel) := h.modCal _ _

theorem ChainFrame.modTxCar (h : ChainFrame false l s u) (k : Nat) (f : Carrier → Carrier) : ChainFrame false l s (u.modTxCar k f) :=
  h.inside rfl rfl rfl
theorem ChainFrame.modTxPath (h : ChainFrame false l s u) (k : Nat) (f : TxPath → TxPath) : ChainFrame false l s (u.modTxPath k f) :=
  h.inside rfl rfl rfl
theorem ChainFrame.modRxCar (h : ChainFrame true l s u) (k : Nat) (f : Carrier → Carrier) : ChainFrame true l s (u.modRxCar k f) :=
  h.inside rfl rfl rfl
theorem ChainFrame.modRxPath (h : ChainFrame true l s u) (k : Nat) (f : RxPath → RxPath) : ChainFrame true l s (u.modRxPath k f) :=
  h.inside rfl rfl rfl

theorem ChainFrame.settle (h : ChainFrame rx l s u) : ChainFrame rx l s u.settle := h.trans ((Frame.refl l u).settle.chain rx)

theorem Keeps.refl (l : List Nat) (s : State) : Keeps l s s := (Frame.refl l s).keeps

/-- A longer list keeps less. -/
theorem Keeps.mono {l' : List Nat} (h : Keeps l s u) (hl : ∀ a, a ∈ l → a ∈ l') : Keeps l' s u := by
  obtain ⟨hreg, hmem⟩ := h
  exact ⟨fun a ha => hreg a fun hin => ha (hl a hin), hmem⟩

theorem Keeps.advance (h : Keeps l s u) (n : Nat) : Keeps l s (u.advance n) := by
  obtain ⟨_, _, hadv⟩ := u.advance_eq n
  rw [hadv]
  exact h

/-- The clock, run to a value of the timebase, moves nothing else. -/
theorem State.advanceTb_eq (s : State) (n : Nat) : ∃ m b, s.advanceTb n = { s with now := m, tb := b } := by
  unfold State.advanceTb
  split
  · exact s.advance_eq _
  · exact ⟨s.now, s.tb, rfl⟩

theorem State.advanceTb_field {α : Type} (s : State) {n : Nat} (m : State → α) (hm : ∀ k b, m { s with now := k, tb := b } = m s) :
    m (s.advanceTb n) = m s := by
  obtain ⟨_, _, h⟩ := s.advanceTb_eq n
  rw [h, hm]

theorem Keeps.advanceTb (h : Keeps l s u) (n : Nat) : Keeps l s (u.advanceTb n) := by
  obtain ⟨_, _, hadv⟩ := u.advanceTb_eq n
  rw [hadv]
  exact h
end

/-! ### One carrier or path, of a state judged -/

section
variable (s : State)
theorem State.settle_txCar (k : Nat) : s.settle.txCar k = s.txCar k := by simp [State.txCar]
theorem State.settle_rxCar (k : Nat) : s.settle.rxCar k = s.rxCar k := by simp [State.rxCar]
theorem State.settle_txPath (k : Nat) : s.settle.txPath k = s.txPath k := by simp [State.txPath]
theorem State.settle_rxPath (k : Nat) : s.settle.rxPath k = s.rxPath k := by simp [State.rxPath]

theorem State.txCar_modTxCar (k : Nat) (f : Carrier → Carrier) (j : Nat) :
    (s.modTxCar k f).txCar j = if j = k then f (s.txCar k) else s.txCar j := s.txCar_setTxCar ..
theorem State.rxCar_modRxCar (k : Nat) (f : Carrier → Carrier) (j : Nat) :
    (s.modRxCar k f).rxCar j = if j = k then f (s.rxCar k) else s.rxCar j := s.rxCar_setRxCar ..

/-- A reading that a change of one carrier sets, and one that it keeps. -/
theorem State.modTxCar_sets {β : Type} {π : Carrier → β} {f : Carrier → Carrier} {v : β} (hf : ∀ x, π (f x) = v) (k j : Nat) :
    π ((s.modTxCar k f).txCar j) = if j = k then v else π (s.txCar j) := by
  rw [State.txCar_modTxCar, apply_ite π, hf]
theorem State.modRxCar_sets {β : Type} {π : Carrier → β} {f : Carrier → Carrier} {v : β} (hf : ∀ x, π (f x) = v) (k j : Nat) :
    π ((s.modRxCar k f).rxCar j) = if j = k then v else π (s.rxCar j) := by
  rw [State.rxCar_modRxCar, apply_ite π, hf]
theorem State.modTxCar_leaves {β : Type} {π : Carrier → β} {f : Carrier → Carrier} (hf : ∀ x, π (f x) = π x) (k j : Nat) :
    π ((s.modTxCar k f).txCar j) = π (s.txCar j) := by
  rw [State.txCar_modTxCar]
  split
  · next h => rw [hf, h]
  · rfl
theorem State.modRxCar_leaves {β : Type} {π : Carrier → β} {f : Carrier → Carrier} (hf : ∀ x, π (f x) = π x) (k j : Nat) :
    π ((s.modRxCar k f).rxCar j) = π (s.rxCar j) := by
  rw [State.rxCar_modRxCar]
  split
  · next h => rw [hf, h]
  · rfl

theorem State.txPath_modTxPath (k : Nat) (f : TxPath → TxPath) (j : Nat) :
    (s.modTxPath k f).txPath j = if j = k then f (s.txPath k) else s.txPath j := s.txPath_setTxPath ..
theorem State.rxPath_modRxPath (k : Nat) (f : RxPath → RxPath) (j : Nat) :
    (s.modRxPath k f).rxPath j = if j = k then f (s.rxPath k) else s.rxPath j := s.rxPath_setRxPath ..
end

end Sys2Proof.Machine
end

section
/-!
PROOFS. The gates of the carriers (R84, R98, R113) as the radio instructions open and close them at their effect instants.
-/
namespace Sys2Proof.Machine
open Reg F

/-! ### Effect instants (R54, R56) -/

section
variable {s : State} {e : Effect}

theorem State.atInstant_eq (s : State) (e : Effect) : ∃ l n b, s.atInstant e = { s with effects := l, now := n, tb := b } := by
  obtain ⟨n, b, h⟩ := ({ s with effects := s.effects.erase e } : State).advance_eq e.at_
  exact ⟨_, n, b, h⟩

/-- What an instant brings of its own: the clock and the list of effects go on, all else stays. -/
theorem State.atInstant_field {α : Type} (m : State → α) (hm : ∀ s l n b, m { s with effects := l, now := n, tb := b } = m s) :
    m (s.atInstant e) = m s := by
  obtain ⟨l, n, b, h⟩ := s.atInstant_eq e
  rw [h, hm]

theorem State.atInstant_reg (a : Nat) : (s.atInstant e).reg a = s.reg a := State.atInstant_field (·.reg a) fun _ _ _ _ => rfl
theorem State.atInstant_fld (a : Nat) (f : Fld) : (s.atInstant e).fld a f = s.fld a f := by simp only [State.fld, State.atInstant_reg]
theorem State.atInstant_txCar (k : Nat) : (s.atInstant e).txCar k = s.txCar k := State.atInstant_field (·.txCar k) fun _ _ _ _ => rfl
theorem State.atInstant_rxCar (k : Nat) : (s.atInstant e).rxCar k = s.rxCar k := State.atInstant_field (·.rxCar k) fun _ _ _ _ => rfl
theorem State.atInstant_rxPath (k : Nat) : (s.atInstant e).rxPath k = s.rxPath k := State.atInstant_field (·.rxPath k) fun _ _ _ _ => rfl

theorem Keeps.atInstant (l : List Nat) (s : State) (e : Effect) : Keeps l s (s.atInstant e) := by
  obtain ⟨_, _, _, h⟩ := s.atInstant_eq e
  rw [h]
  exact Keeps.refl l s

/-- A radio instruction whose effect is the next one does at its instant what it says. -/
theorem exec_of_effect {i : Instr} {die : Nat} {sel : Radio → Bool} {r : Radio} (hi : exec i s = done (s.atEffect die sel)) (h : s.NextEffect die e)
    (hr : e.radio = r) (hsel : sel r = true) : exec i s = done ((s.atInstant e).radioAt die e.proc r) := by
  subst hr
  rw [hi, State.atEffect_next h hsel]

/-- What an effect on the chains of one direction leaves as it was, when it is judged. -/
theorem ChainFrame.keeps_at_effect {rx : Bool} {l : List Nat} {v : State} (h : ChainFrame rx l (s.atInstant e) v) : Keeps l s v.settle :=
  ((Keeps.atInstant l s e).trans h.keeps).settle
theorem ChainFrame.rxCars_at_effect {l : List Nat} {v : State} (h : ChainFrame false l (s.atInstant e) v) : v.settle.rxCars = s.rxCars := by
  rw [State.settle_rxCars, h.field (·.rxCars) fun _ => rfl]
  exact State.atInstant_field (·.rxCars) fun _ _ _ _ => rfl
theorem ChainFrame.txCars_at_effect {l : List Nat} {v : State} (h : ChainFrame true l (s.atInstant e) v) : v.settle.txCars = s.txCars := by
  rw [State.settle_txCars, h.field (·.txCars) fun _ => rfl]
  exact State.atInstant_field (·.txCars) fun _ _ _ _ => rfl
end

theorem exec_radioTxon (t : Fin 4) (s : State) : exec (.radioTxon t) s = done (s.atEffect t Radio.isTxon) := rfl
theorem exec_radioTxoff (t : Fin 4) (s : State) : exec (.radioTxoff t) s = done (s.atEffect t Radio.isTxoff) := rfl
theorem exec_radioRxon (t : Fin 4) (s : State) : exec (.radioRxon t) s = done (s.atEffect t Radio.isRxon) := rfl
theorem exec_radioRxoff (t : Fin 4) (s : State) : exec (.radioRxoff t) s = done (s.atEffect t Radio.isRxoff) := rfl

/-! ### One gate -/

/-- A gate that opens at an instant, or is open already. -/
def Carrier.opens (k : Carrier) (now : Nat) : Carrier := if k.gate then k else { k with gate := true, openedAt := now }
/-- A gate that closes at an instant, or is closed already. -/
def Carrier.closes (k : Carrier) (now : Nat) : Carrier := if k.gate then k.shut now else k

theorem Carrier.opens_gate (now : Nat) (k : Carrier) : (k.opens now).gate = true := by
  unfold Carrier.opens
  split
  · assumption
  · rfl
theorem Carrier.closes_gate (now : Nat) (k : Carrier) : (k.closes now).gate = false := by
  unfold Carrier.closes
  split
  · rfl
  · exact Bool.eq_false_iff.2 ‹_›

section
variable (s : State) (t i c k : Nat)

theorem State.openTxGate_gate : ((s.openTxGate t i c).txCar k).gate = if k = carKey t i c then true else (s.txCar k).gate :=
  s.modTxCar_sets (π := Carrier.gate) (f := (·.opens s.now)) (Carrier.opens_gate _) _ k
theorem State.closeTxGate_gate : ((s.closeTxGate t i c).txCar k).gate = if k = carKey t i c then false else (s.txCar k).gate :=
  s.modTxCar_sets (π := Carrier.gate) (f := (·.closes s.now)) (Carrier.closes_gate _) _ k
theorem State.openRxGate_gate : ((s.openRxGate t i c).rxCar k).gate = if k = carKey t i c then true else (s.rxCar k).gate :=
  s.modRxCar_sets (π := Carrier.gate) (f := (·.opens s.now)) (Carrier.opens_gate _) _ k
theorem State.closeRxGate_gate : ((s.closeRxGate t i c).rxCar k).gate = if k = carKey t i c then false else (s.rxCar k).gate :=
  s.modRxCar_sets (π := Carrier.gate) (f := (·.closes s.now)) (Carrier.closes_gate _) _ k

/-- What TXON does to one carrier: its gate opens if it is not open yet, which strikes a burst (R203). -/
def State.txonCar (s : State) (t i c : Nat) : State :=
  if (s.txCar (carKey t i c)).gate then s else (s.openTxGate t i c).calHit t i fun b => b.measures false s.now

theorem State.txonCar_gate : ((s.txonCar t i c).txCar k).gate = if k = carKey t i c then true else (s.txCar k).gate := by
  unfold State.txonCar
  split
  · next h =>
    split
    · next hk => rw [hk, h]
    · rfl
  · exact s.openTxGate_gate t i c k

theorem State.wakeDacs_txCar (pmask : Nat) : (s.wakeDacs t pmask).txCar k = s.txCar k := by
  refine State.each_keeps (P := fun u => u.txCar k = s.txCar k) (fun _ _ h => ?_) _ rfl
  exact h
end

section
variable {l : List Nat} {s u : State}

theorem ChainFrame.closeTxGate (h : ChainFrame false l s u) (t i c : Nat) : ChainFrame false l s (u.closeTxGate t i c) :=
  (h.modTxCar _ _).modTxPath _ _
theorem ChainFrame.openRxGate (h : ChainFrame true l s u) (t i c : Nat) : ChainFrame true l s (u.openRxGate t i c) := h.modRxCar _ _
theorem ChainFrame.closeRxGate (h : ChainFrame true l s u) (t i c : Nat) : ChainFrame true l s (u.closeRxGate t i c) := h.modRxCar _ _

theorem ChainFrame.txonCar (h : ChainFrame false l s u) (t i c : Nat) : ChainFrame false l s (u.txonCar t i c) := by
  unfold State.txonCar
  split
  · exact h
  · exact ((h.modTxCar _ _).modTxPath _ _).calHit _ _ _

theorem ChainFrame.wakeDacs (h : ChainFrame false l s u) (t pmask : Nat) : ChainFrame false l s (u.wakeDacs t pmask) :=
  State.each_keeps (P := ChainFrame false l s) (fun _ _ hv => hv.modTxPath _ _) _ h

theorem ChainFrame.eachCar {rx : Bool} {f : State → Nat → Nat → State} (hf : ∀ v i c, ChainFrame rx l s v → ChainFrame rx l s (f v i c))
    (h : ChainFrame rx l s u) (cm : BitVec 4) (pm : BitVec 16) : ChainFrame rx l s (u.eachCar cm pm f) :=
  State.each_keeps (P := ChainFrame rx l s) (fun _ i hv => State.each_keeps (fun w c hw => hf w i c hw) _ hv) _ h
end

/-! ### TXON (R84, R98) -/

section
variable (s : State) (t : Nat) (cm : BitVec 4) (pm : BitVec 16)

theorem State.txonAt_locked (h : s.bit (TXCH_STATUS t) TXCH_STATUS_UNLOCK_HOLD = false) :
    s.txonAt t cm pm = (s.eachCar cm pm fun u i c => u.txonCar t i c).wakeDacs t pm.toNat := by
  rw [State.txonAt, if_neg (by simp [h])]
  rfl

theorem State.txonAt_unlocked (h : s.bit (TXCH_STATUS t) TXCH_STATUS_UNLOCK_HOLD = true) :
    s.txonAt t cm pm = (s.raise (Ev.TX_REFUSED_UNLOCKED t)).bump (TXCH_REFUSED_COUNT t) (TXCH_CNT_FLAGS t) 16 1 := by
  rw [State.txonAt, if_pos h]
end

theorem eventReg_txRefusedCount (t : Fin 4) : eventReg (TXCH_REFUSED_COUNT t) = false := by revert t; decide

theorem if_true_else_eq_or (p q : Bool) : (if p = true then true else q) = (q || p) := by cases p <;> simp
theorem if_false_else_eq_and_not (p q : Bool) : (if p = true then false else q) = (q && !p) := by cases p <;> simp

/-- Settles O9: each instruction changes the gate of one carrier after the other, TXON but for an unlocked interval. -/
theorem radioGates : Obligations.RadioGates := by
  intro s t e cm pm hnext u
  refine ⟨fun hr hlocked => ?on, fun hr hunlocked => ?refused, fun hr => ?off, fun hr => ?rxOn, fun hr => ?rxOff⟩
  case on =>
    have hgate : ∀ k, ((u.txonAt t cm pm).txCar k).gate = if inMasks t cm pm k then true else (u.txCar k).gate := fun k => by
      rw [State.txonAt_locked u t cm pm hlocked, State.wakeDacs_txCar]
      exact State.eachCar_reading (r := fun v => (v.txCar k).gate) (fun v i c => v.txonCar_gate t i c k) cm pm
    have hframe : ChainFrame false [] u (u.txonAt t cm pm) := by
      rw [State.txonAt_locked u t cm pm hlocked]
      exact (ChainFrame.eachCar (fun v i c hv => hv.txonCar t i c) (.refl ..) cm pm).wakeDacs _ _
    refine .of_done (exec_of_effect (exec_radioTxon t s) hnext hr rfl) ⟨fun k _ => ?_, hframe.rxCars_at_effect, hframe.keeps_at_effect⟩
    exact (congrArg Carrier.gate (State.settle_txCar ..)).trans ((hgate k).trans (by rw [State.atInstant_txCar, if_true_else_eq_or]))
  case refused =>
    have hne : TXCH_REFUSED_COUNT t ≠ TXCH_CNT_FLAGS t := by simp only [TXCH_REFUSED_COUNT, TXCH_CNT_FLAGS]; omega
    refine .of_done ((exec_of_effect (exec_radioTxon t s) hnext hr rfl).trans (congrArg done (u.txonAt_unlocked t cm pm hunlocked))) ⟨?_, ?_⟩
    · rw [State.fld_settle, State.fld_bump _ _ _ _ _ (eventReg_txRefusedCount t) hne, State.fld_raise _ _ _ _ (eventReg_txRefusedCount t),
        State.atInstant_fld]
    · exact (((Frame.refl _ u).raise _).bump _ _ _ _ (by simp) (by simp)).settle
  case off =>
    have hgate : ∀ k, ((u.eachCar cm pm fun v i c => v.closeTxGate t i c).txCar k).gate = if inMasks t cm pm k then false else (u.txCar k).gate :=
      fun k => State.eachCar_reading (r := fun v => (v.txCar k).gate) (fun v i c => v.closeTxGate_gate t i c k) cm pm
    have hframe : ChainFrame false [] u (u.eachCar cm pm fun v i c => v.closeTxGate t i c) :=
      ChainFrame.eachCar (fun v i c hv => hv.closeTxGate t i c) (.refl ..) cm pm
    refine .of_done (exec_of_effect (exec_radioTxoff t s) hnext hr rfl) ⟨fun k _ => ?_, hframe.rxCars_at_effect, hframe.keeps_at_effect⟩
    exact (congrArg Carrier.gate (State.settle_txCar ..)).trans ((hgate k).trans (by rw [State.atInstant_txCar, if_false_else_eq_and_not]))
  case rxOn =>
    have hgate : ∀ k, ((u.eachCar cm pm fun v i c => v.openRxGate t i c).rxCar k).gate = if inMasks t cm pm k then true else (u.rxCar k).gate :=
      fun k => State.eachCar_reading (r := fun v => (v.rxCar k).gate) (fun v i c => v.openRxGate_gate t i c k) cm pm
    have hframe : ChainFrame true [] u (u.eachCar cm pm fun v i c => v.openRxGate t i c) :=
      ChainFrame.eachCar (fun v i c hv => hv.openRxGate t i c) (.refl ..) cm pm
    refine .of_done (exec_of_effect (exec_radioRxon t s) hnext hr rfl) ⟨fun k _ => ?_, hframe.txCars_at_effect, hframe.keeps_at_effect⟩
    exact (congrArg Carrier.gate (State.settle_rxCar ..)).trans ((hgate k).trans (by rw [State.atInstant_rxCar, if_true_else_eq_or]))
  case rxOff =>
    have hgate : ∀ k, ((u.eachCar cm pm fun v i c => v.closeRxGate t i c).rxCar k).gate = if inMasks t cm pm k then false else (u.rxCar k).gate :=
      fun k => State.eachCar_reading (r := fun v => (v.rxCar k).gate) (fun v i c => v.closeRxGate_gate t i c k) cm pm
    have hframe : ChainFrame true [] u (u.eachCar cm pm fun v i c => v.closeRxGate t i c) :=
      ChainFrame.eachCar (fun v i c hv => hv.closeRxGate t i c) (.refl ..) cm pm
    refine .of_done (exec_of_effect (exec_radioRxoff t s) hnext hr rfl) ⟨fun k _ => ?_, hframe.txCars_at_effect, hframe.keeps_at_effect⟩
    exact (congrArg Carrier.gate (State.settle_rxCar ..)).trans ((hgate k).trans (by rw [State.atInstant_rxCar, if_false_else_eq_and_not]))

end Sys2Proof.Machine
end

section
/-!
PROOFS. Tuning, response and validity of the carriers (R78, R80, R83; R105, R109 to R111): what the operations that set them leave, and what checking
them again leaves.
-/
namespace Sys2Proof.Machine
open Reg F

/-- What is set of a carrier: its tuning word, its response, its ratio. -/
def Carrier.tuned (k : Carrier) : BitVec 48 × BitVec 4 × BitVec 12 := (k.tw, k.resp, k.ratio)

/-! ### Invalid runs -/

section
variable (s : State) (t i c : Nat)

/-- A run marks a carrier and changes nothing else of it. -/
theorem State.markTx_leaves {β : Type} {π : Carrier → β} (hπ : ∀ x rs, π { x with runs := rs } = π x) (T len k : Nat) :
    π ((s.markTx t i c T len).txCar k) = π (s.txCar k) := by
  unfold State.markTx
  exact s.modTxCar_leaves (fun _ => hπ ..) _ _
theorem State.markRx_leaves {β : Type} {π : Carrier → β} (hπ : ∀ x rs, π { x with runs := rs } = π x) (T len k : Nat) :
    π ((s.markRx t i c T len).rxCar k) = π (s.rxCar k) := by
  unfold State.markRx
  exact s.modRxCar_leaves (fun _ => hπ ..) _ _

theorem State.tuneTx_tw (tw : BitVec 48) (k : Nat) : ((s.tuneTx t i c tw).txCar k).tw = if k = carKey t i c then tw else (s.txCar k).tw := by
  unfold State.tuneTx
  rw [State.markTx_leaves (π := Carrier.tw) _ _ _ _ fun _ _ => rfl]
  exact s.modTxCar_sets (fun _ => rfl) _ _
theorem State.tuneRx_tw (tw : BitVec 48) (k : Nat) : ((s.tuneRx t i c tw).rxCar k).tw = if k = carKey t i c then tw else (s.rxCar k).tw := by
  unfold State.tuneRx
  rw [State.markRx_leaves (π := Carrier.tw) _ _ _ _ fun _ _ => rfl]
  exact s.modRxCar_sets (fun _ => rfl) _ _

/-- Response and ratio of a carrier. -/
def Carrier.filt (k : Carrier) : BitVec 4 × BitVec 12 := (k.resp, k.ratio)

theorem State.filterTx_filt (resp : BitVec 4) (ratio : BitVec 12) (k : Nat) :
    ((s.filterTx t i c resp ratio).txCar k).filt = if k = carKey t i c then (resp, ratio) else (s.txCar k).filt := by
  unfold State.filterTx State.settleTx
  rw [State.markTx_leaves (π := Carrier.filt) _ _ _ _ fun _ _ => rfl]
  exact s.modTxCar_sets (fun _ => rfl) _ _
theorem State.filterRx_filt (resp : BitVec 4) (ratio : BitVec 12) (k : Nat) :
    ((s.filterRx t i c resp ratio).rxCar k).filt = if k = carKey t i c then (resp, ratio) else (s.rxCar k).filt := by
  unfold State.filterRx State.settleRx
  rw [State.markRx_leaves (π := Carrier.filt) _ _ _ _ fun _ _ => rfl]
  exact s.modRxCar_sets (fun _ => rfl) _ _
end

section
variable {l : List Nat} {s u : State}

theorem ChainFrame.markTx (h : ChainFrame false l s u) (t i c T len : Nat) : ChainFrame false l s (u.markTx t i c T len) := by
  unfold State.markTx
  exact h.modTxCar _ _
theorem ChainFrame.markRx (h : ChainFrame true l s u) (t i c T len : Nat) : ChainFrame true l s (u.markRx t i c T len) := by
  unfold State.markRx
  exact h.modRxCar _ _
theorem ChainFrame.tuneTx (h : ChainFrame false l s u) (t i c : Nat) (tw : BitVec 48) : ChainFrame false l s (u.tuneTx t i c tw) :=
  (h.modTxCar _ _).markTx _ _ _ _ _
theorem ChainFrame.tuneRx (h : ChainFrame true l s u) (t i c : Nat) (tw : BitVec 48) : ChainFrame true l s (u.tuneRx t i c tw) :=
  (h.modRxCar _ _).markRx _ _ _ _ _
theorem ChainFrame.filterTx (h : ChainFrame false l s u) (t i c : Nat) (resp : BitVec 4) (ratio : BitVec 12) :
    ChainFrame false l s (u.filterTx t i c resp ratio) := (h.modTxCar _ _).markTx _ _ _ _ _
theorem ChainFrame.settleRx (h : ChainFrame true l s u) (t i c T : Nat) : ChainFrame true l s (u.settleRx t i c T) := h.markRx _ _ _ _ _
theorem ChainFrame.filterRx (h : ChainFrame true l s u) (t i c : Nat) (resp : BitVec 4) (ratio : BitVec 12) :
    ChainFrame true l s (u.filterRx t i c resp ratio) := (h.modRxCar _ _).settleRx _ _ _ _
end

/-! ### Validity checked again (R83, R111) -/

section
variable {P : State → Prop} {t : Nat} {s : State}

/-- What checking the transmit carriers keeps: all that a write of STATUS, an event, and a change of a carrier that leaves its settings keep. -/
theorem State.recheckTx_keeps (hstatus : ∀ u w, P u → P (u.setReg (TXCH_STATUS t) w)) (hraise : ∀ u e, P u → P (u.raise e))
    (hcar : ∀ u k f, (∀ x, (f x).tuned = x.tuned) → P u → P (u.modTxCar k f)) (hs : P s) : P (s.recheckTx t) := by
  have hsettle : ∀ u i c T, P u → P (u.settleTx t i c T) := fun u i c T hu => by
    unfold State.settleTx State.markTx
    exact hcar _ _ _ (fun _ => rfl) hu
  refine State.each_keeps (P := P) (fun u c hu => ?_) _ hs
  have hshown : P (u.setMaskBit (TXCH_STATUS t) TXCH_STATUS_CAR_INVALID c (u.txCarBad t c)) := hstatus _ _ hu
  dsimp only
  split
  · refine hraise _ _ (State.each_keeps (P := P) (fun v i hv => ?_) _ hshown)
    exact hcar _ _ _ (fun _ => rfl) hv
  · split
    · refine State.each_keeps (P := P) (fun v i hv => ?_) _ hshown
      have hmended : P (v.modTxCar (carKey t i c) (·.mend v.now)) := hcar _ _ _ (fun _ => rfl) hv
      split
      · exact hsettle _ _ _ _ hmended
      · exact hmended
    · exact hshown

/-- What checking the receive carriers and showing the reference carrier keeps. -/
theorem State.recheckRx_keeps (hstatus : ∀ u w, P u → P (u.setReg (RXCH_STATUS t) w)) (hraise : ∀ u e, P u → P (u.raise e))
    (hcar : ∀ u k f, (∀ x, (f x).tuned = x.tuned) → P u → P (u.modRxCar k f)) (hs : P s) : P (s.recheckRx t) := by
  have hsettle : ∀ u i c T, P u → P (u.settleRx t i c T) := fun u i c T hu => by
    unfold State.settleRx State.markRx
    exact hcar _ _ _ (fun _ => rfl) hu
  have hshow : ∀ u, P u → P (u.showRefCar t) := fun u hu => by
    unfold State.showRefCar
    split
    · exact hstatus _ _ (hstatus _ _ hu)
    · exact hstatus _ _ (hstatus _ _ hu)
  refine hshow _ ?_
  refine State.each_keeps (P := P) (fun u c hu => ?_) _ hs
  have hshown : P (u.setMaskBit (RXCH_STATUS t) RXCH_STATUS_CAR_INVALID c (u.rxCarBad t c)) := hstatus _ _ hu
  dsimp only
  split
  · refine hraise _ _ (State.each_keeps (P := P) (fun v i hv => ?_) _ hshown)
    exact hcar _ _ _ (fun _ => rfl) hv
  · split
    · refine State.each_keeps (P := P) (fun v i hv => ?_) _ hshown
      have hmended : P (v.modRxCar (carKey t i c) fun k => { k.mend v.now with runs := closeRun k.runs 3 1 (v.sampleAt t v.now) }) :=
        hcar _ _ _ (fun _ => rfl) hv
      split
      · exact hsettle _ _ _ _ hmended
      · exact hmended
    · exact hshown
end

section
variable {l : List Nat} {s u : State} {t : Nat}

theorem ChainFrame.recheckTx (h : ChainFrame false l s u) (ht : TXCH_STATUS t ∈ l) : ChainFrame false l s (u.recheckTx t) :=
  State.recheckTx_keeps (P := ChainFrame false l s) (fun _ w hv => hv.setReg _ w ht) (fun _ e hv => hv.raise e) (fun _ k f _ hv => hv.modTxCar k f) h
theorem ChainFrame.recheckRx (h : ChainFrame true l s u) (ht : RXCH_STATUS t ∈ l) : ChainFrame true l s (u.recheckRx t) :=
  State.recheckRx_keeps (P := ChainFrame true l s) (fun _ w hv => hv.setReg _ w ht) (fun _ e hv => hv.raise e) (fun _ k f _ hv => hv.modRxCar k f) h

theorem State.recheckTx_tuned (s : State) (t k : Nat) : ((s.recheckTx t).txCar k).tuned = (s.txCar k).tuned := by
  refine State.recheckTx_keeps (P := fun u => (u.txCar k).tuned = (s.txCar k).tuned) (fun _ _ h => h) (fun u e h => ?_)
    (fun u j f hf h => (u.modTxCar_leaves hf j k).trans h) rfl
  rw [State.txCar, State.raise_txCars]
  exact h
theorem State.recheckRx_tuned (s : State) (t k : Nat) : ((s.recheckRx t).rxCar k).tuned = (s.rxCar k).tuned := by
  refine State.recheckRx_keeps (P := fun u => (u.rxCar k).tuned = (s.rxCar k).tuned) (fun _ _ h => h) (fun u e h => ?_)
    (fun u j f hf h => (u.modRxCar_leaves hf j k).trans h) rfl
  rw [State.rxCar, State.raise_rxCars]
  exact h

theorem State.recheckTx_tw (s : State) (t k : Nat) : ((s.recheckTx t).txCar k).tw = (s.txCar k).tw := congrArg (·.1) (s.recheckTx_tuned t k)
theorem State.recheckRx_tw (s : State) (t k : Nat) : ((s.recheckRx t).rxCar k).tw = (s.rxCar k).tw := congrArg (·.1) (s.recheckRx_tuned t k)
theorem State.recheckTx_filt (s : State) (t k : Nat) : ((s.recheckTx t).txCar k).filt = (s.txCar k).filt := congrArg (·.2) (s.recheckTx_tuned t k)
theorem State.recheckRx_filt (s : State) (t k : Nat) : ((s.recheckRx t).rxCar k).filt = (s.rxCar k).filt := congrArg (·.2) (s.recheckRx_tuned t k)
end

end Sys2Proof.Machine
end

section
/-!
PROOFS. Writes of the transmit registers (R78 to R80, R86, R88, R89, R207, R208).
-/
namespace Sys2Proof.Machine
open Reg F

theorem exec_txRfHiWrite (t : Fin 4) (w : Word) (s : State) :
    exec (.txRfHiWrite t w) s = done (s.guarded (TXCH_RF_HI t) fun s => s.txRfHi t w) := rfl
theorem exec_txCarNcoHiWrite (t : Fin 4) (w : Word) (s : State) :
    exec (.txCarNcoHiWrite t w) s = done (s.guarded (TXCH_CAR_NCO_HI t) fun s => s.txNcoHi t w) := rfl
theorem exec_txCarFiltWrite (t : Fin 4) (w : Word) (s : State) :
    exec (.txCarFiltWrite t w) s = done (s.guarded (TXCH_CAR_FILT t) fun s => s.txFilt t w) := rfl
theorem exec_txTrimArmWrite (t : Fin 4) (pm : BitVec 16) (s : State) :
    exec (.txTrimArmWrite t pm) s = done (s.guarded (TXCH_TRIM_ARM t) fun s => s.txTrimArm t pm.toNat) := rfl
theorem exec_txGainTrimWrite (t : Fin 4) (i : Fin 16) (w : Word) (s : State) :
    exec (.txGainTrimWrite t i w) s = done (s.guarded (TXCH_GAIN t i) fun s => s.txGainWrite t i w) := rfl

/-- A register write whose block answers. -/
theorem Answers.of_guarded {i : Instr} {s : State} {a : Nat} {f : State → State} {Q : State → Prop} (hi : exec i s = done (s.guarded a f))
    (h : s.answers a = true) (hq : Q (f s).settle) : Answers i s Q :=
  .of_done (hi.trans (congrArg done (State.guarded_of h))) hq

section
variable (s : State) (a : Nat) (w : Word) (k : Nat)

theorem State.plainWrite_frame : Frame [a] s (s.plainWrite a w) := (Frame.refl _ s).plainWrite a w (List.mem_singleton_self a)
theorem State.plainWrite_txCar : (s.plainWrite a w).txCar k = s.txCar k := 
  ((s.plainWrite_frame a w).chain true).field (·.txCar k) fun _ => rfl
theorem State.plainWrite_txRf : (s.plainWrite a w).txRf k = s.txRf k := 
  ((s.plainWrite_frame a w).chain true).field (·.txRf k) fun _ => rfl
end

/-! ### The RF word (R79) -/

section
variable (s : State) (t : Nat) (w : Word)

/-- The word that a write of RF_HI commits. -/
def State.txRfWord : BitVec 48 := w.setWidth 16 ++ s.reg (TXCH_RF_LO t)

/-- The RF word committed. -/
def State.txRfCommit : State := (s.plainWrite (TXCH_RF_HI t) w).setTxRf t (s.txRfWord t w)

/-- The calibrations that rest on the RF word of the transmit chains end (R207, R208). -/
def State.endTxCals : State :=
  ((s.setBit (DFLY_CAL_STAT t) DFLY_CAL_STAT_TX_VALID false).setBit (DFLY_CAL_STAT t) DFLY_CAL_STAT_RCP_VALID false).modCal t
    fun c => { c with txGood := 0, rcpGood := 0 }

theorem State.txRfCommit_txRf (k : Nat) : (s.txRfCommit t w).txRf k = if k = t then s.txRfWord t w else s.txRf k := by
  rw [State.txRfCommit, State.txRf_setTxRf, State.plainWrite_txRf]

theorem State.txRfCommit_keeps : Keeps [TXCH_RF_HI t] s (s.txRfCommit t w) := (s.plainWrite_frame (TXCH_RF_HI t) w).keeps

theorem State.endTxCals_frame : ChainFrame false [DFLY_CAL_STAT t] s (s.endTxCals t) :=
  (((ChainFrame.refl ..).setReg _ _ (List.mem_singleton_self _)).setReg _ _ (List.mem_singleton_self _)).modCal _ _

theorem State.endTxCals_valid : (s.endTxCals t).bit (DFLY_CAL_STAT t) DFLY_CAL_STAT_TX_VALID = false ∧
    (s.endTxCals t).bit (DFLY_CAL_STAT t) DFLY_CAL_STAT_RCP_VALID = false := by
  let v := s.setBit (DFLY_CAL_STAT t) DFLY_CAL_STAT_TX_VALID false
  have htx : v.bit (DFLY_CAL_STAT t) DFLY_CAL_STAT_TX_VALID = false := s.bit_setBit _ _ _ (by decide) rfl
  have hapart : (v.setBit (DFLY_CAL_STAT t) DFLY_CAL_STAT_RCP_VALID false).fld (DFLY_CAL_STAT t) DFLY_CAL_STAT_TX_VALID =
      v.fld (DFLY_CAL_STAT t) DFLY_CAL_STAT_TX_VALID := v.fld_setFld_apart _ _ _ _ (by decide) (by decide)
  exact ⟨(congrArg (· != 0) hapart).trans htx, v.bit_setBit _ _ _ (by decide) rfl⟩

/-- A write of RF_HI in Configure, before the carriers are checked again. -/
def State.txRfWritten : State := if s.txRfWord t w = s.txRf t then s.txRfCommit t w else (s.txRfCommit t w).endTxCals t

variable {s t w}

theorem State.txRfHi_of_configure (hmode : s.mode = .configure) : s.txRfHi t w = (s.txRfWritten t w).recheckTx t := by
  rw [State.txRfHi, State.configOnly_of hmode]
  rfl

theorem State.txRfWritten_txRf (k : Nat) : (s.txRfWritten t w).txRf k = if k = t then s.txRfWord t w else s.txRf k := by
  have hend : ((s.txRfCommit t w).endTxCals t).txRf k = (s.txRfCommit t w).txRf k := (State.endTxCals_frame _ t).field (·.txRf k) fun _ => rfl
  rw [State.txRfWritten, apply_ite (fun u : State => u.txRf k), hend, ite_self, State.txRfCommit_txRf]

theorem State.txRfWritten_valid (h : s.txRfWord t w ≠ s.txRf t) : (s.txRfWritten t w).bit (DFLY_CAL_STAT t) DFLY_CAL_STAT_TX_VALID = false ∧
    (s.txRfWritten t w).bit (DFLY_CAL_STAT t) DFLY_CAL_STAT_RCP_VALID = false := by
  rw [State.txRfWritten, if_neg h]
  exact State.endTxCals_valid _ t

theorem State.txRfWritten_keeps : Keeps [TXCH_RF_HI t, DFLY_CAL_STAT t, TXCH_STATUS t] s (s.txRfWritten t w) := by
  have hcommit : Keeps [TXCH_RF_HI t, DFLY_CAL_STAT t, TXCH_STATUS t] s (s.txRfCommit t w) := (s.txRfCommit_keeps t w).mono (by simp)
  unfold State.txRfWritten
  split
  · exact hcommit
  · exact hcommit.trans ((State.endTxCals_frame _ t).keeps.mono (by simp))
end

theorem dflyCalStat_apart (t : Fin 4) : DFLY_CAL_STAT t ∉ [TXCH_STATUS t] ∧ DFLY_CAL_STAT t ∉ [TXCH_RF_HI t] ∧
    eventReg (DFLY_CAL_STAT t) = false := by
  revert t
  decide

theorem State.txRfWritten_calStat {s : State} {t : Fin 4} {w : Word} (h : s.txRfWord t w = s.txRf t) :
    (s.txRfWritten t w).reg (DFLY_CAL_STAT t) = s.reg (DFLY_CAL_STAT t) := by
  obtain ⟨-, hapart, hevent⟩ := dflyCalStat_apart t
  obtain ⟨hreg, -⟩ := s.txRfCommit_keeps t w
  rw [State.txRfWritten, if_pos h, hreg _ hapart hevent]

/-! ### TRIM_ARM (R88) -/

section
variable (s : State) (t : Nat) (m : BitVec 16)

/-- A path is armed for a boundary, if it is not armed for it already. -/
def TxPath.arm (p : TxPath) (B : Nat) : TxPath := { p with armed := if p.armed.contains B then p.armed else p.armed ++ [B] }

theorem TxPath.mem_arm (p : TxPath) (B B' : Nat) : B' ∈ (p.arm B).armed ↔ B' ∈ p.armed ∨ B' = B := by
  unfold TxPath.arm
  dsimp only
  split
  · next h =>
    have hB : B ∈ p.armed := by simpa using h
    exact ⟨Or.inl, fun h' => h'.elim id fun heq => heq ▸ hB⟩
  · simp

/-- The paths of a mask armed for a boundary. -/
def State.armPaths (B : Nat) : State := s.each (onesOf 16 m.toNat) fun u i => u.modTxPath (pathKey t i) (·.arm B)

theorem State.txTrimArm_zero (h : m = 0) : s.txTrimArm t m.toNat = s.armPaths t m s.trimBoundary := by
  subst h
  rfl
theorem State.txTrimArm_nonzero (h : m ≠ 0) :
    s.txTrimArm t m.toNat = (s.armPaths t m s.trimBoundary).setBit (TXCH_STATUS t) TXCH_STATUS_TRIM_PENDING true := by
  refine if_neg fun hzero => h (BitVec.eq_of_toNat_eq ?_)
  rwa [Nat.mod_eq_of_lt m.isLt] at hzero

theorem State.txTrimArm_txPath (k : Nat) : (s.txTrimArm t m.toNat).txPath k = (s.armPaths t m s.trimBoundary).txPath k := by
  by_cases h : m = 0
  · rw [State.txTrimArm_zero s t m h]
  · rw [State.txTrimArm_nonzero s t m h]
    rfl

theorem State.armPaths_armed (B B' i : Nat) : B' ∈ ((s.armPaths t m B).txPath (pathKey t i)).armed ↔
    if m.getLsbD i then B' ∈ (s.txPath (pathKey t i)).armed ∨ B' = B else B' ∈ (s.txPath (pathKey t i)).armed := by
  refine iff_of_eq (State.eachPath_reading (r := fun u => B' ∈ (u.txPath (pathKey t i)).armed) (g := fun p => p ∨ B' = B) (fun p => ?_)
    (fun u x _ => ?_) m)
  · simp only [or_assoc, or_self]
  · simp only [State.txPath_modTxPath, pathKey_inj, @eq_comm _ i x]
    split
    · next h => rw [h, TxPath.mem_arm]
    · rfl

theorem State.armPaths_txPath (B : Nat) {i : Nat} (hi : m.getLsbD i = false) : (s.armPaths t m B).txPath (pathKey t i) = s.txPath (pathKey t i) := by
  refine State.each_keeps_mem (P := fun u => u.txPath (pathKey t i) = s.txPath (pathKey t i)) (fun u x hx h => ?_) rfl
  have hne : i ≠ x := fun heq => by
    rw [mem_onesOf_toNat, ← heq, hi] at hx
    cases hx
  rw [State.txPath_modTxPath, if_neg (mt pathKey_inj.1 hne), h]

theorem State.txTrimArm_frame : ChainFrame false [TXCH_STATUS t] s (s.txTrimArm t m.toNat) := by
  have harm : ChainFrame false [TXCH_STATUS t] s (s.armPaths t m s.trimBoundary) :=
    State.each_keeps (P := ChainFrame false [TXCH_STATUS t] s) (fun _ _ h => h.modTxPath _ _) _ (.refl ..)
  by_cases h : m = 0
  · rwa [State.txTrimArm_zero s t m h]
  · rw [State.txTrimArm_nonzero s t m h]
    exact harm.setReg _ _ (List.mem_singleton_self _)
end

/-! ### The gain trim (R86, R89) -/

section
variable {l : List Nat} {s u : State}

theorem ChainFrame.setTrim (h : ChainFrame false l s u) (t i : Nat) (v : BitVec 16) (hi : TXCH_GAIN t i ∈ l) :
    ChainFrame false l s (u.setTrim t i v) := (h.modTxPath _ _).setReg _ _ hi

theorem State.setTrim_gain (s : State) (t i j : Nat) (v : BitVec 16) :
    (s.setTrim t i v).fld (TXCH_GAIN t j) TXCH_GAIN_GAIN = if i = j then v.toNat else s.fld (TXCH_GAIN t j) TXCH_GAIN_GAIN := by
  unfold State.setTrim
  split
  · next h =>
    subst h
    rw [State.fld_setFld _ _ _ _ (by decide)]
    exact Nat.mod_eq_of_lt v.isLt
  · next h =>
    rw [State.fld_setFld_ne _ _ _ _ (by simp only [TXCH_GAIN]; omega)]
    rfl
end

/-- Settles O13: each write goes to a register that answers; what it sets is read carrier by carrier and path by path. -/
theorem transmitWrites : Obligations.TransmitWrites := by
  intro s t w
  refine ⟨fun hans hmode => ?rf, fun hans hmode => ?rfElse, fun hans => ?nco, fun hans => ?filt, fun hans pm => ?arm, fun i hans => ?gain⟩
  case rf =>
    obtain ⟨hapart, -, hevent⟩ := dflyCalStat_apart t
    have hcheck : ChainFrame false [TXCH_STATUS t] (s.txRfWritten t w) ((s.txRfWritten t w).recheckTx t).settle :=
      ((ChainFrame.refl ..).recheckTx (List.mem_singleton_self _)).settle
    have hrf : ∀ k, ((s.txRfWritten t w).recheckTx t).settle.txRf k = if k = t then s.txRfWord t w else s.txRf k := fun k =>
      (hcheck.field (·.txRf k) fun _ => rfl).trans (State.txRfWritten_txRf k)
    have hthis : ((s.txRfWritten t w).recheckTx t).settle.txRf t = s.txRfWord t w := (hrf t).trans (if_pos rfl)
    have hstat : ((s.txRfWritten t w).recheckTx t).settle.reg (DFLY_CAL_STAT t) = (s.txRfWritten t w).reg (DFLY_CAL_STAT t) :=
      hcheck.reg _ hapart hevent
    refine .of_guarded (exec_txRfHiWrite t w s) hans ?_
    rw [State.txRfHi_of_configure hmode]
    refine ⟨fun k => ?_, fun hne => ?_, fun heq => ?_, State.txRfWritten_keeps.trans (hcheck.keeps.mono (by simp))⟩
    · rw [hrf, State.txRfWord]
      simp only [Fin.val_inj]
    · simp only [State.bit, hstat]
      exact State.txRfWritten_valid (hthis ▸ hne)
    · rw [hstat, State.txRfWritten_calStat (hthis ▸ heq)]
  case rfElse =>
    have hrun : s.txRfHi t w = s.accessError := State.configOnly_not hmode
    refine .of_guarded (exec_txRfHiWrite t w s) hans ?_
    rw [hrun]
    exact ⟨(Frame.refl [] s).accessError.settle, (State.stored_settle ..).trans s.stored_accessError⟩
  case nco =>
    refine .of_guarded (exec_txCarNcoHiWrite t w s) hans ⟨fun k => ?_, ?_⟩
    · rw [State.settle_txCar, State.txNcoHi, State.recheckTx_tw, State.tuneTx_tw, State.plainWrite_txCar]
    · have hwrite : ChainFrame false [TXCH_CAR_NCO_HI t, TXCH_STATUS t] s (s.plainWrite (TXCH_CAR_NCO_HI t) w) :=
        ((Frame.refl _ s).plainWrite _ _ (by simp)).chain false
      exact ((hwrite.tuneTx _ _ _ _).recheckTx (by simp)).keeps.settle
  case filt =>
    refine .of_guarded (exec_txCarFiltWrite t w s) hans ⟨fun k => ?_, ?_⟩
    · rw [State.settle_txCar]
      exact (State.recheckTx_filt ..).trans (State.filterTx_filt ..)
    · exact (((ChainFrame.refl ..).filterTx _ _ _ _ _).recheckTx (List.mem_singleton_self _)).keeps.settle
  case arm =>
    refine .of_guarded (exec_txTrimArmWrite t pm s) hans ⟨fun i hi B => ?_, fun i hi => ?_, fun hpm => ?_, (s.txTrimArm_frame t pm).keeps.settle⟩
    · rw [State.settle_txPath, State.txTrimArm_txPath, State.armPaths_armed, if_pos hi]
    · rw [State.settle_txPath, State.txTrimArm_txPath, State.armPaths_txPath _ _ _ _ hi]
    · rw [State.bit_settle, State.txTrimArm_nonzero s t pm hpm]
      exact State.bit_setBit _ _ _ _ (by decide) rfl
  case gain =>
    refine .of_guarded (exec_txGainTrimWrite t i w s) hans ⟨?_, ((ChainFrame.refl ..).setTrim _ _ _ (List.mem_singleton_self _)).keeps.settle⟩
    rw [State.fld_settle, State.txGainWrite, State.setTrim_gain, if_pos rfl]
    exact BitVec.toNat_setWidth ..

end Sys2Proof.Machine
end

section
/-!
PROOFS. GAIN, NCO and FILT at their effect instants (R78, R80, R86, R105, R109, R110, R117, R118).
-/
namespace Sys2Proof.Machine
open Reg F

theorem exec_radioGain (t : Fin 4) (s : State) : exec (.radioGain t) s = done (s.atEffect t Radio.isGain) := rfl
theorem exec_radioNco (t : Fin 4) (s : State) : exec (.radioNco t) s = done (s.atEffect t Radio.isNco) := rfl
theorem exec_radioFilt (t : Fin 4) (s : State) : exec (.radioFilt t) s = done (s.atEffect t Radio.isFilt) := rfl

/-! ### Bits of a mask field -/

theorem testBit_getF (w : Word) (f : Fld) {i : Nat} (hi : i < f.width) : (getF w f).testBit i = w.getLsbD (f.lo + i) := by
  rw [getF, Nat.testBit_mod_two_pow, Nat.testBit_div_two_pow, decide_eq_true hi, Bool.true_and, BitVec.testBit_toNat, Nat.add_comm]

theorem getLsbD_putF_bit (w : Word) {n m : Nat} (hn : n < 32) (hm : m < 32) (b : Bool) :
    (putF w ⟨n, 1⟩ (b2n b)).getLsbD m = if m = n then b else w.getLsbD m := by
  have hbit : ∀ v : Word, v.getLsbD m = (getF v ⟨m, 1⟩).testBit 0 := fun v => (testBit_getF v ⟨m, 1⟩ (i := 0) (by simp)).symm
  split
  · next h =>
    subst h
    rw [hbit, getF_putF _ _ _ (by simpa using hm)]
    cases b <;> simp [b2n]
  · next h =>
    rw [hbit, hbit, getF_putF_ne _ _ _ _ (by simp only; omega) (by simp only; omega)]

/-- One bit of a mask field after another was written. -/
theorem State.maskBit_setMaskBit (s : State) (a : Nat) (f : Fld) (hf : f.lo + f.width ≤ 32) {i j : Nat} (hi : i < f.width) (hj : j < f.width)
    (b : Bool) : (s.setMaskBit a f i b).maskBit a f j = if i = j then b else s.maskBit a f j := by
  unfold State.maskBit State.setMaskBit
  rw [State.fld, State.setFld_eq, State.reg_setReg_same, testBit_getF _ _ hj, getLsbD_putF_bit _ (by omega) (by omega), State.fld, testBit_getF _ _ hj]
  simp only [Nat.add_left_cancel_iff, @eq_comm _ j i]

/-! ### GAIN: step attenuators (R115, R117, R118) -/

section
variable (s : State) (t i : Nat) (code : BitVec 6)

/-- A code sent shows in STEP_CFG. -/
theorem State.sendCode_reg (a : Nat) : (s.sendCode t i code).reg a = (s.setFld (RXCH_STEP_CFG t i) RXCH_STEP_CFG_CODE code.toNat).reg a := by
  unfold State.sendCode
  dsimp only
  split
  · exact State.reg_each _ _ _ a fun _ _ => rfl
  · rfl

theorem State.markSteps_reg (T a : Nat) : (s.markSteps t i T).reg a = s.reg a := by
  refine State.reg_each _ _ _ a fun u c => ?_
  split
  · rfl
  · rfl

theorem State.gainNow_reg (a : Nat) : (s.gainNow t i code).reg a = (s.setFld (RXCH_STEP_CFG t i) RXCH_STEP_CFG_CODE code.toNat).reg a :=
  (State.reg_modCal ..).trans ((State.markSteps_reg ..).trans (s.sendCode_reg t i code a))

theorem State.gainNow_code (j : Nat) : (s.gainNow t i code).fld (RXCH_STEP_CFG t j) RXCH_STEP_CFG_CODE =
    if i = j then code.toNat else s.fld (RXCH_STEP_CFG t j) RXCH_STEP_CFG_CODE := by
  rw [State.fld, State.gainNow_reg, ← State.fld]
  split
  · next h =>
    subst h
    exact (s.fld_setFld _ _ _ (by decide)).trans (Nat.mod_eq_of_lt code.isLt)
  · next h => exact s.fld_setFld_ne _ _ _ (by simp only [RXCH_STEP_CFG]; omega)

theorem State.stepArm_gain (byAgc : Bool) (B proc j : Nat) : ((s.stepArm t i code byAgc B proc).rxPath (pathKey t j)).gain =
    if i = j then some (⟨code, byAgc, proc⟩, B) else (s.rxPath (pathKey t j)).gain := by
  unfold State.stepArm
  rw [State.rxPath_modRxPath]
  simp only [pathKey_inj, @eq_comm _ j i]
  split <;> rfl
end

section
variable {l : List Nat} {s u : State}

theorem ChainFrame.sendCode (h : ChainFrame true l s u) (t i : Nat) (code : BitVec 6) (hi : RXCH_STEP_CFG t i ∈ l) :
    ChainFrame true l s (u.sendCode t i code) := by
  have hshown : ChainFrame true l s (u.setFld (RXCH_STEP_CFG t i) RXCH_STEP_CFG_CODE code.toNat) := h.setReg _ _ hi
  unfold State.sendCode
  dsimp only
  split
  · refine State.each_keeps (P := ChainFrame true l s) (fun v k hv => ?_) _ hshown
    exact hv.inside rfl rfl rfl
  · exact hshown.inside rfl rfl rfl

theorem ChainFrame.markSteps (h : ChainFrame true l s u) (t i T : Nat) : ChainFrame true l s (u.markSteps t i T) := by
  refine State.each_keeps (P := ChainFrame true l s) (fun v c hv => ?_) _ h
  split
  · exact hv.markRx ..
  · exact hv

theorem ChainFrame.gainNow (h : ChainFrame true l s u) (t i : Nat) (code : BitVec 6) (hi : RXCH_STEP_CFG t i ∈ l) :
    ChainFrame true l s (u.gainNow t i code) :=
  (((h.sendCode t i code hi).modRxPath _ _).markSteps _ _ _).calHit _ _ _

theorem ChainFrame.stepArm (h : ChainFrame true l s u) (t i : Nat) (code : BitVec 6) (byAgc : Bool) (B proc : Nat) :
    ChainFrame true l s (u.stepArm t i code byAgc B proc) := h.modRxPath _ _

/-- A loop over the paths of a mask. -/
theorem ChainFrame.eachPath {rx : Bool} {f : State → Nat → State} (hf : ∀ v, ∀ i < 16, ChainFrame rx l s v → ChainFrame rx l s (f v i))
    (h : ChainFrame rx l s u) (m : Nat) : ChainFrame rx l s (u.each (onesOf 16 m) f) :=
  State.each_keeps_mem (P := ChainFrame rx l s) (fun v i hi hv => hf v i (lt_of_mem_onesOf hi) hv) h
end

/-- A register of each path of a tile. -/
theorem mem_eachPath {a : Nat → Nat} {i : Nat} (hi : i < 16) : a i ∈ (List.range 16).map a := List.mem_map_of_mem (List.mem_range.2 hi)

/-! ### FILT: zones (R105) -/

section
variable (s : State) (t i : Nat) (z : Bool)

/-- What a change of a zone keeps: all that a write of ZONE and changes of the receive paths and of the runs of carriers keep. -/
theorem State.setZone_keeps {P : State → Prop} (hzone : ∀ u w, P u → P (u.setReg (RXCH_ZONE t) w)) (hpath : ∀ u k f, P u → P (u.modRxPath k f))
    (hsettle : ∀ u i c T, P u → P (u.settleRx t i c T)) (hs : P s) : P (s.setZone t i z) := by
  unfold State.setZone
  split
  · exact hs
  · refine State.each_keeps (P := P) (fun u c hu => ?_) _ (hpath _ _ _ (hzone _ _ hs))
    split
    · exact hsettle _ _ _ _ hu
    · exact hu

theorem State.setZone_rxCar_filt (k : Nat) : ((s.setZone t i z).rxCar k).filt = (s.rxCar k).filt :=
  s.setZone_keeps t i z (P := fun u => (u.rxCar k).filt = (s.rxCar k).filt) (fun _ _ h => h) (fun _ _ _ h => h)
    (fun u i c T h => (u.markRx_leaves t i c (π := Carrier.filt) (fun _ _ => rfl) T _ k).trans h) rfl

/-- A zone set reads as it was set, those of other paths as before. -/
theorem State.setZone_zone (hi : i < 16) {j : Nat} (hj : j < 16) :
    (s.setZone t i z).maskBit (RXCH_ZONE t) RXCH_ZONE_Z j = if i = j then z else s.maskBit (RXCH_ZONE t) RXCH_ZONE_Z j := by
  unfold State.setZone
  split
  · next h =>
    split
    · next hij => rw [← hij, h]
    · rfl
  · rw [← s.maskBit_setMaskBit (RXCH_ZONE t) RXCH_ZONE_Z (by decide) hi hj z]
    have hreg := State.reg_each ((s.setMaskBit (RXCH_ZONE t) RXCH_ZONE_Z i z).modRxPath (pathKey t i) fun p =>
      { p with zones := keepPast p.zones s.now (!z) }) cars (fun u c => if (u.rxCfg t c).en then u.settleRx t i c u.now else u) (RXCH_ZONE t)
      fun u c => by split <;> rfl
    exact congrArg (fun w => (getF w RXCH_ZONE_Z).testBit j) hreg
end

theorem ChainFrame.setZone {l : List Nat} {s u : State} {t : Nat} (h : ChainFrame true l s u) (i : Nat) (z : Bool) (ht : RXCH_ZONE t ∈ l) :
    ChainFrame true l s (u.setZone t i z) :=
  u.setZone_keeps t i z (P := ChainFrame true l s) (fun _ w hv => hv.setReg _ w ht) (fun _ k f hv => hv.modRxPath k f)
    (fun _ i c T hv => hv.settleRx t i c T) h

/-! ### The paths and carriers of a mask -/

section
variable (u : State) (t : Nat) (pm : BitVec 16)

theorem State.setTrims_gain (v : BitVec 16) (i : Nat) : (u.each (onesOf 16 pm.toNat) fun u i => u.setTrim t i v).fld (TXCH_GAIN t i) TXCH_GAIN_GAIN =
    if pm.getLsbD i then v.toNat else u.fld (TXCH_GAIN t i) TXCH_GAIN_GAIN :=
  State.eachPath_reading (r := fun x => x.fld (TXCH_GAIN t i) TXCH_GAIN_GAIN) (g := fun _ => v.toNat) (fun _ => rfl)
    (fun w x _ => w.setTrim_gain t x i v) pm

theorem State.gainNows_code (code : BitVec 6) (i : Nat) :
    (u.each (onesOf 16 pm.toNat) fun u i => u.gainNow t i code).fld (RXCH_STEP_CFG t i) RXCH_STEP_CFG_CODE =
      if pm.getLsbD i then code.toNat else u.fld (RXCH_STEP_CFG t i) RXCH_STEP_CFG_CODE :=
  State.eachPath_reading (r := fun x => x.fld (RXCH_STEP_CFG t i) RXCH_STEP_CFG_CODE) (g := fun _ => code.toNat) (fun _ => rfl)
    (fun w x _ => w.gainNow_code t x code i) pm

theorem State.stepArms_gain (code : BitVec 6) (B proc i : Nat) :
    ((u.each (onesOf 16 pm.toNat) fun u i => u.stepArm t i code false B proc).rxPath (pathKey t i)).gain =
      if pm.getLsbD i then some (⟨code, false, proc⟩, B) else (u.rxPath (pathKey t i)).gain :=
  State.eachPath_reading (r := fun x => (x.rxPath (pathKey t i)).gain) (g := fun _ => some (⟨code, false, proc⟩, B)) (fun _ => rfl)
    (fun w x _ => w.stepArm_gain t x code false B proc i) pm

theorem State.setZones_zone (z zone : Bool) {i : Nat} (hi : i < 16) :
    (u.each (if z then onesOf 16 pm.toNat else []) fun u i => u.setZone t i zone).maskBit (RXCH_ZONE t) RXCH_ZONE_Z i =
      if z && pm.getLsbD i then zone else u.maskBit (RXCH_ZONE t) RXCH_ZONE_Z i := by
  cases z
  · rfl
  · exact State.eachPath_reading (r := fun x => x.maskBit (RXCH_ZONE t) RXCH_ZONE_Z i) (g := fun _ => zone) (fun _ => rfl)
      (fun w x hx => w.setZone_zone t x zone hx hi) pm
end

section
variable {u : State} {t : Nat} (pm : BitVec 16)

theorem State.gainSync_of_refCar {c : Nat} (h : u.refCar t = some c) (code : BitVec 6) (proc : Nat) : u.gainSync t pm code proc =
    u.each (onesOf 16 pm.toNat) fun v i => v.stepArm t i code false (u.rxBoundary t (u.rxCfg t c) u.tb.toNat) proc := by
  simp only [State.gainSync, h]
theorem State.gainSync_no_refCar (h : u.refCar t = none) (code : BitVec 6) (proc : Nat) :
    u.gainSync t pm code proc = u.raise (Ev.RX_GAIN_CP_OVERRUN t) := by
  simp only [State.gainSync, h]
end

theorem rxchZone_apart (t : Fin 4) : RXCH_ZONE t ∉ [RXCH_STATUS t] ∧ eventReg (RXCH_ZONE t) = false := by
  revert t
  decide

section
variable (u : State) (t : Fin 4) (car : BitVec 2) (pm : BitVec 16)

/-- NCO on receive carriers, and on transmit carriers. -/
def State.ncoRx (tw : BitVec 48) : State := (u.each (onesOf 16 pm.toNat) fun u i => u.tuneRx t i car.toNat tw).recheckRx t
def State.ncoTx (tw : BitVec 48) : State := (u.each (onesOf 16 pm.toNat) fun u i => u.tuneTx t i car.toNat tw).recheckTx t

theorem State.ncoRx_tw (tw : BitVec 48) (k : Nat) : ((u.ncoRx t car pm tw).rxCar k).tw =
    if inMasks t (BitVec.ofNat 4 (2 ^ car.toNat)) pm k then tw else (u.rxCar k).tw :=
  (State.recheckRx_tw ..).trans (State.eachPath_car_reading (r := fun x => (x.rxCar k).tw) (fun v i => v.tuneRx_tw t i car.toNat tw k) pm)
theorem State.ncoTx_tw (tw : BitVec 48) (k : Nat) : ((u.ncoTx t car pm tw).txCar k).tw =
    if inMasks t (BitVec.ofNat 4 (2 ^ car.toNat)) pm k then tw else (u.txCar k).tw :=
  (State.recheckTx_tw ..).trans (State.eachPath_car_reading (r := fun x => (x.txCar k).tw) (fun v i => v.tuneTx_tw t i car.toNat tw k) pm)

theorem State.ncoRx_frame (tw : BitVec 48) : ChainFrame true [RXCH_STATUS t] u (u.ncoRx t car pm tw) :=
  (ChainFrame.eachPath (fun _ i _ hv => hv.tuneRx _ i _ _) (.refl ..) _).recheckRx (List.mem_singleton_self _)
theorem State.ncoTx_frame (tw : BitVec 48) : ChainFrame false [TXCH_STATUS t] u (u.ncoTx t car pm tw) :=
  (ChainFrame.eachPath (fun _ i _ hv => hv.tuneTx _ i _ _) (.refl ..) _).recheckTx (List.mem_singleton_self _)

/-- FILT on receive carriers, and on transmit carriers. -/
def State.filtRx (z : Bool) (resp : BitVec 4) (zone : Bool) (ratio : BitVec 12) : State :=
  ((u.each (onesOf 16 pm.toNat) fun u i => u.filterRx t i car.toNat resp ratio).each (if z then onesOf 16 pm.toNat else [])
    fun u i => u.setZone t i zone).recheckRx t
def State.filtTx (resp : BitVec 4) (ratio : BitVec 12) : State :=
  (u.each (onesOf 16 pm.toNat) fun u i => u.filterTx t i car.toNat resp ratio).recheckTx t

theorem State.filtRx_filt (z : Bool) (resp : BitVec 4) (zone : Bool) (ratio : BitVec 12) (k : Nat) :
    ((u.filtRx t car pm z resp zone ratio).rxCar k).filt =
      if inMasks t (BitVec.ofNat 4 (2 ^ car.toNat)) pm k then (resp, ratio) else (u.rxCar k).filt := by
  have hzones : ∀ (v : State) l, ((v.each l fun u i => u.setZone t i zone).rxCar k).filt = (v.rxCar k).filt := fun v l =>
    State.each_keeps (P := fun x => (x.rxCar k).filt = (v.rxCar k).filt) (fun x i h => (x.setZone_rxCar_filt t i zone k).trans h) l rfl
  rw [State.filtRx, State.recheckRx_filt, hzones]
  exact State.eachPath_car_reading (r := fun x => (x.rxCar k).filt) (fun v i => v.filterRx_filt t i car.toNat resp ratio k) pm
theorem State.filtTx_filt (resp : BitVec 4) (ratio : BitVec 12) (k : Nat) : ((u.filtTx t car pm resp ratio).txCar k).filt =
    if inMasks t (BitVec.ofNat 4 (2 ^ car.toNat)) pm k then (resp, ratio) else (u.txCar k).filt :=
  (State.recheckTx_filt ..).trans
    (State.eachPath_car_reading (r := fun x => (x.txCar k).filt) (fun v i => v.filterTx_filt t i car.toNat resp ratio k) pm)

theorem State.filtRx_zone (z : Bool) (resp : BitVec 4) (zone : Bool) (ratio : BitVec 12) {i : Nat} (hi : i < 16) :
    (u.filtRx t car pm z resp zone ratio).maskBit (RXCH_ZONE t) RXCH_ZONE_Z i =
      if z && pm.getLsbD i then zone else u.maskBit (RXCH_ZONE t) RXCH_ZONE_Z i := by
  obtain ⟨hapart, hevent⟩ := rxchZone_apart t
  have hcheck : ∀ v : State, (v.recheckRx t).reg (RXCH_ZONE t) = v.reg (RXCH_ZONE t) := fun v =>
    ((ChainFrame.refl true [RXCH_STATUS t] v).recheckRx (List.mem_singleton_self _)).reg _ hapart hevent
  have hfilt : (u.each (onesOf 16 pm.toNat) fun u i => u.filterRx t i car.toNat resp ratio).reg (RXCH_ZONE t) = u.reg (RXCH_ZONE t) :=
    State.reg_each _ _ _ _ fun _ _ => rfl
  rw [State.filtRx, State.maskBit, State.fld, hcheck, ← State.fld, ← State.maskBit, State.setZones_zone _ _ _ _ _ hi]
  simp only [State.maskBit, State.fld, hfilt]

theorem State.filtRx_frame (z : Bool) (resp : BitVec 4) (zone : Bool) (ratio : BitVec 12) :
    ChainFrame true [RXCH_STATUS t, RXCH_ZONE t] u (u.filtRx t car pm z resp zone ratio) := by
  have hfilt : ChainFrame true [RXCH_STATUS t, RXCH_ZONE t] u (u.each (onesOf 16 pm.toNat) fun u i => u.filterRx t i car.toNat resp ratio) :=
    ChainFrame.eachPath (fun _ i _ hv => hv.filterRx _ i _ _ _) (.refl ..) _
  exact (State.each_keeps (P := ChainFrame true [RXCH_STATUS t, RXCH_ZONE t] u) (fun _ i hv => hv.setZone i zone (by simp)) _ hfilt).recheckRx
    (by simp)
theorem State.filtTx_frame (resp : BitVec 4) (ratio : BitVec 12) : ChainFrame false [TXCH_STATUS t] u (u.filtTx t car pm resp ratio) :=
  (ChainFrame.eachPath (fun _ i _ hv => hv.filterTx _ i _ _ _) (.refl ..) _).recheckTx (List.mem_singleton_self _)
end

/-! ### The statement -/

/-- Settles O10: each instruction acts on one path of its mask after the other, NCO and FILT before the carriers are checked again. -/
theorem radioSettings : Obligations.RadioSettings := by
  intro s t e pm hnext u one
  refine ⟨fun sync v hr => ?trim, fun v hr => ?code, fun v c hr hc => ?armed, fun v hr hc => ?noCarrier, fun rx car tw hr => ?nco,
    fun rx z car resp zone ratio hr => ?filt⟩
  case trim =>
    have hframe : ChainFrame false ((List.range 16).map fun i => TXCH_GAIN t i) u (u.each (onesOf 16 pm.toNat) fun u i => u.setTrim t i v) :=
      ChainFrame.eachPath (fun _ i hi hv => hv.setTrim t i v (mem_eachPath hi)) (.refl ..) _
    refine .of_done (exec_of_effect (exec_radioGain t s) hnext hr rfl) ⟨fun i => ?_, hframe.keeps_at_effect⟩
    exact (State.fld_settle ..).trans ((u.setTrims_gain t pm v i).trans (by rw [State.atInstant_fld]))
  case code =>
    have hframe : ChainFrame true ((List.range 16).map fun i => RXCH_STEP_CFG t i) u
        (u.each (onesOf 16 pm.toNat) fun u i => u.gainNow t i (v.setWidth 6)) :=
      ChainFrame.eachPath (fun _ i hi hv => hv.gainNow t i _ (mem_eachPath hi)) (.refl ..) _
    refine .of_done (exec_of_effect (exec_radioGain t s) hnext hr rfl) ⟨fun i => ?_, hframe.keeps_at_effect⟩
    exact (State.fld_settle ..).trans ((u.gainNows_code t pm (v.setWidth 6) i).trans (by rw [State.atInstant_fld, BitVec.toNat_setWidth]))
  case armed =>
    have hframe : ChainFrame true [] u (u.each (onesOf 16 pm.toNat) fun w i =>
        w.stepArm t i (v.setWidth 6) false (u.rxBoundary t (u.rxCfg t c) u.tb.toNat) e.proc) :=
      ChainFrame.eachPath (fun _ i _ hv => hv.stepArm t i _ _ _ _) (.refl ..) _
    refine .of_done ((exec_of_effect (exec_radioGain t s) hnext hr rfl).trans
      (congrArg done (State.gainSync_of_refCar pm hc (v.setWidth 6) e.proc))) ⟨fun i => ?_, hframe.keeps_at_effect⟩
    rw [State.settle_rxPath, State.stepArms_gain, State.atInstant_rxPath]
  case noCarrier =>
    exact exec_of_done (exec_of_effect (exec_radioGain t s) hnext hr rfl) (State.gainSync_no_refCar pm hc (v.setWidth 6) e.proc)
  case nco =>
    cases rx
    · have hframe := u.ncoTx_frame t car pm tw
      refine .of_done (exec_of_effect (exec_radioNco t s) hnext hr rfl) ⟨⟨fun k _ => ?_, hframe.rxCars_at_effect⟩, hframe.keeps_at_effect⟩
      exact (congrArg Carrier.tw (State.settle_txCar ..)).trans ((u.ncoTx_tw t car pm tw k).trans (by rw [State.atInstant_txCar]))
    · have hframe := u.ncoRx_frame t car pm tw
      refine .of_done (exec_of_effect (exec_radioNco t s) hnext hr rfl) ⟨⟨fun k _ => ?_, hframe.txCars_at_effect⟩, hframe.keeps_at_effect⟩
      exact (congrArg Carrier.tw (State.settle_rxCar ..)).trans ((u.ncoRx_tw t car pm tw k).trans (by rw [State.atInstant_rxCar]))
  case filt =>
    cases rx
    · have hframe := u.filtTx_frame t car pm resp ratio
      refine .of_done (exec_of_effect (exec_radioFilt t s) hnext hr rfl) ⟨⟨fun k _ => ?_, hframe.rxCars_at_effect⟩, hframe.keeps_at_effect⟩
      exact (congrArg Carrier.filt (State.settle_txCar ..)).trans ((u.filtTx_filt t car pm resp ratio k).trans (by rw [State.atInstant_txCar]; rfl))
    · have hframe := u.filtRx_frame t car pm z resp zone ratio
      refine .of_done (exec_of_effect (exec_radioFilt t s) hnext hr rfl)
        ⟨⟨fun k _ => ?_, fun i => ?_, hframe.txCars_at_effect⟩, hframe.keeps_at_effect⟩
      · exact (congrArg Carrier.filt (State.settle_rxCar ..)).trans
          ((u.filtRx_filt t car pm z resp zone ratio k).trans (by rw [State.atInstant_rxCar]; rfl))
      · have hbefore : u.fld (RXCH_ZONE t) RXCH_ZONE_Z = s.fld (RXCH_ZONE t) RXCH_ZONE_Z := State.atInstant_fld ..
        refine (congrArg (·.testBit i) (State.fld_settle ..)).trans ((u.filtRx_zone t car pm z resp zone ratio i.2).trans ?_)
        rw [State.maskBit, hbefore, State.maskBit]

end Sys2Proof.Machine
end

section
/-!
PROOFS. What the transmit chain does in time (R76, R77, R85, R88, R103, R494): trims at their boundary, symbols due, DACs that stop.
-/
namespace Sys2Proof.Machine
open Reg F

theorem exec_trimApply_tx (t : Fin 4) (s : State) : exec (.trimApply t false) s = done (s.txTrimApply t) := rfl
theorem exec_trimApply_rx (t : Fin 4) (s : State) : exec (.trimApply t true) s = done (s.rxTrimApply t) := rfl
theorem exec_txSymbolDeadline (t c : Fin 4) (s : State) : exec (.txSymbolDeadline t c) s = done (s.symbolDeadline t c) := rfl
theorem exec_dacGateIdle (t : Fin 4) (i : Fin 16) (s : State) : exec (.dacGateIdle t i) s = done (s.dacGateIdle t i) := rfl

/-! ### Trims at their boundary (R88, R103) -/

theorem State.fld_lt (s : State) (a : Nat) (f : Fld) : s.fld a f < 2 ^ f.width := Nat.mod_lt _ (Nat.two_pow_pos _)

theorem State.ofNat_fld_toNat (s : State) (a : Nat) (f : Fld) : (BitVec.ofNat f.width (s.fld a f)).toNat = s.fld a f :=
  (BitVec.toNat_ofNat ..).trans (Nat.mod_eq_of_lt (s.fld_lt a f))

/-- In a loop over the 16 paths whose steps each leave the registers and the other paths, a path that its step changes to show `x` shows `x` at the end. -/
theorem State.eachPath_visit {β γ : Type} {path : State → Nat → β} {shown : β → γ} {f : State → Nat → State} {s : State} {t i : Nat} {x : γ}
    (hi : i < 16) (hreg : ∀ u y a, (f u y).reg a = u.reg a) (hne : ∀ u y, y ≠ i → path (f u y) (pathKey t i) = path u (pathKey t i))
    (hsame : ∀ u, path u (pathKey t i) = path s (pathKey t i) → (∀ a, u.reg a = s.reg a) → shown (path (f u i) (pathKey t i)) = x) :
    shown (path (s.each paths f) (pathKey t i)) = x :=
  State.each_visit (P := fun u => path u (pathKey t i) = path s (pathKey t i) ∧ ∀ a, u.reg a = s.reg a)
    (Q := fun u => shown (path u (pathKey t i)) = x) List.nodup_range (List.mem_range.2 hi)
    (fun u y hy ⟨hpath, hregs⟩ => ⟨(hne u y hy).trans hpath, fun a => (hreg u y a).trans (hregs a)⟩)
    (fun u ⟨hpath, hregs⟩ => hsame u hpath hregs) (fun u y hy h => (congrArg shown (hne u y hy)).trans h) ⟨rfl, fun _ => rfl⟩

section
variable (s : State) (t B i : Nat)

/-- What the boundary B does to one transmit path. -/
def State.txTrimStep : State :=
  let p := s.txPath (pathKey t i)
  if p.armed.contains B then
    let d := BitVec.ofNat 13 (s.fld (TXCH_DELAY t i) TXCH_DELAY_DELAY)
    let a := s.sampleAt t s.now
    (s.setTxPath (pathKey t i) { p with delay := d, phase := BitVec.ofNat 16 (s.fld (TXCH_PHASE t i) TXCH_PHASE_PHASE),
                                        past := keepPast p.past s.now (p.delay, p.phase),
                                        armed := p.armed.erase B, runs := if d = p.delay then p.runs else addRun p.runs a (a + 16) }).calHit
      t i fun _ => true
  else s

theorem State.txTrimApply_due {s : State} {t B : Nat} (h : s.txTrimDue t = some B) :
    ∃ b, s.txTrimApply t = ((s.advanceTb B).each paths fun u i => u.txTrimStep t B i).setBit (TXCH_STATUS t) TXCH_STATUS_TRIM_PENDING b := by
  unfold State.txTrimApply
  rw [h]
  exact ⟨_, rfl⟩

theorem State.txTrimStep_reg (a : Nat) : (s.txTrimStep t B i).reg a = s.reg a := by
  unfold State.txTrimStep
  dsimp only
  split <;> rfl

theorem State.txTrimStep_ne {j : Nat} (h : i ≠ j) : (s.txTrimStep t B i).txPath (pathKey t j) = s.txPath (pathKey t j) := by
  unfold State.txTrimStep
  dsimp only
  split
  · exact (s.txPath_setTxPath ..).trans (if_neg (mt pathKey_inj.1 (Ne.symm h)))
  · rfl

theorem State.txTrimStep_idle (h : B ∉ (s.txPath (pathKey t i)).armed) : s.txTrimStep t B i = s := if_neg (by simpa using h)

/-- The trims of a transmit path, as the registers hold them. -/
def TxPath.trims (p : TxPath) : Nat × Nat := (p.delay.toNat, p.phase.toNat)

theorem State.txTrimStep_armed (h : B ∈ (s.txPath (pathKey t i)).armed) : ((s.txTrimStep t B i).txPath (pathKey t i)).trims =
    (s.fld (TXCH_DELAY t i) TXCH_DELAY_DELAY, s.fld (TXCH_PHASE t i) TXCH_PHASE_PHASE) := by
  unfold State.txTrimStep
  dsimp only
  rw [if_pos (by simpa using h)]
  refine (congrArg TxPath.trims ((s.txPath_setTxPath ..).trans (if_pos rfl))).trans ?_
  exact Prod.ext (s.ofNat_fld_toNat _ TXCH_DELAY_DELAY) (s.ofNat_fld_toNat _ TXCH_PHASE_PHASE)

/-- The boundary B, on all paths of the tile: one that is armed for it takes its shadows, another stays. -/
theorem State.txTrimSteps_armed (hi : i < 16) (h : B ∈ (s.txPath (pathKey t i)).armed) :
    ((s.each paths fun u i => u.txTrimStep t B i).txPath (pathKey t i)).trims =
      (s.fld (TXCH_DELAY t i) TXCH_DELAY_DELAY, s.fld (TXCH_PHASE t i) TXCH_PHASE_PHASE) := by
  refine State.eachPath_visit (path := State.txPath) (shown := TxPath.trims) hi (fun u y a => u.txTrimStep_reg t B y a)
    (fun u y hy => u.txTrimStep_ne t B y hy) fun u hpath hregs => ?_
  rw [u.txTrimStep_armed t B i (hpath ▸ h)]
  simp only [State.fld, hregs]

theorem State.txTrimSteps_idle (h : B ∉ (s.txPath (pathKey t i)).armed) :
    (s.each paths fun u i => u.txTrimStep t B i).txPath (pathKey t i) = s.txPath (pathKey t i) := by
  refine State.each_keeps (P := fun u => u.txPath (pathKey t i) = s.txPath (pathKey t i)) (fun u y hu => ?_) _ rfl
  by_cases hy : y = i
  · subst hy
    rwa [u.txTrimStep_idle t B y (hu ▸ h)]
  · exact (u.txTrimStep_ne t B y hy).trans hu

/-- What the boundary B does to one receive path. -/
def State.rxTrimStep : State :=
  let p := s.rxPath (pathKey t i)
  if p.armed.contains B then
    let d := BitVec.ofNat 13 (s.fld (RXCH_DELAY t i) RXCH_DELAY_DELAY)
    let u := (s.setRxPath (pathKey t i) { p with delay := d, phase := BitVec.ofNat 16 (s.fld (RXCH_PHASE t i) RXCH_PHASE_PHASE),
                                                 past := keepPast p.past s.now (p.delay, p.phase), armed := p.armed.erase B }).calHit t i fun _ => true
    if d = p.delay then u else u.each cars fun u c => u.settleRx t i c u.now
  else s

theorem State.rxTrimApply_due {s : State} {t B : Nat} (h : s.rxTrimDue t = some B) :
    s.rxTrimApply t = (s.advanceTb B).each paths fun u i => u.rxTrimStep t B i := by
  unfold State.rxTrimApply
  rw [h]
  rfl

theorem State.settleRxs_reg (a : Nat) : (s.each cars fun u c => u.settleRx t i c u.now).reg a = s.reg a := State.reg_each _ _ _ a fun _ _ => rfl
theorem State.settleRxs_rxPath (k : Nat) : (s.each cars fun u c => u.settleRx t i c u.now).rxPath k = s.rxPath k := by
  refine State.each_keeps (P := fun u => u.rxPath k = s.rxPath k) (fun _ _ h => ?_) _ rfl
  exact h

theorem State.rxTrimStep_reg (a : Nat) : (s.rxTrimStep t B i).reg a = s.reg a := by
  unfold State.rxTrimStep
  dsimp only
  split
  · split
    · rfl
    · exact State.settleRxs_reg ..
  · rfl

theorem State.rxTrimStep_ne {j : Nat} (h : i ≠ j) : (s.rxTrimStep t B i).rxPath (pathKey t j) = s.rxPath (pathKey t j) := by
  have hset : ∀ p, (s.setRxPath (pathKey t i) p).rxPath (pathKey t j) = s.rxPath (pathKey t j) := fun p =>
    (s.rxPath_setRxPath ..).trans (if_neg (mt pathKey_inj.1 (Ne.symm h)))
  unfold State.rxTrimStep
  dsimp only
  split
  · split
    · exact hset _
    · exact (State.settleRxs_rxPath ..).trans (hset _)
  · rfl

theorem State.rxTrimStep_idle (h : B ∉ (s.rxPath (pathKey t i)).armed) : s.rxTrimStep t B i = s := if_neg (by simpa using h)

/-- The trims of a receive path, as the registers hold them. -/
def RxPath.trims (p : RxPath) : Nat × Nat := (p.delay.toNat, p.phase.toNat)

theorem State.rxTrimStep_armed (h : B ∈ (s.rxPath (pathKey t i)).armed) : ((s.rxTrimStep t B i).rxPath (pathKey t i)).trims =
    (s.fld (RXCH_DELAY t i) RXCH_DELAY_DELAY, s.fld (RXCH_PHASE t i) RXCH_PHASE_PHASE) := by
  have hset : ∀ p : RxPath, ((s.setRxPath (pathKey t i) p).rxPath (pathKey t i)).trims = p.trims := fun p =>
    congrArg RxPath.trims ((s.rxPath_setRxPath ..).trans (if_pos rfl))
  have hshadow : ∀ p : RxPath, p.delay = BitVec.ofNat 13 (s.fld (RXCH_DELAY t i) RXCH_DELAY_DELAY) →
      p.phase = BitVec.ofNat 16 (s.fld (RXCH_PHASE t i) RXCH_PHASE_PHASE) →
      p.trims = (s.fld (RXCH_DELAY t i) RXCH_DELAY_DELAY, s.fld (RXCH_PHASE t i) RXCH_PHASE_PHASE) := fun p hd hp => by
    rw [RxPath.trims, hd, hp]
    exact Prod.ext (s.ofNat_fld_toNat _ RXCH_DELAY_DELAY) (s.ofNat_fld_toNat _ RXCH_PHASE_PHASE)
  unfold State.rxTrimStep
  dsimp only
  rw [if_pos (by simpa using h)]
  split
  · exact (hset _).trans (hshadow _ rfl rfl)
  · exact (congrArg RxPath.trims (State.settleRxs_rxPath ..)).trans ((hset _).trans (hshadow _ rfl rfl))

/-- The boundary B, on all paths of the tile: one that is armed for it takes its shadows, another stays. -/
theorem State.rxTrimSteps_armed (hi : i < 16) (h : B ∈ (s.rxPath (pathKey t i)).armed) :
    ((s.each paths fun u i => u.rxTrimStep t B i).rxPath (pathKey t i)).trims =
      (s.fld (RXCH_DELAY t i) RXCH_DELAY_DELAY, s.fld (RXCH_PHASE t i) RXCH_PHASE_PHASE) := by
  refine State.eachPath_visit (path := State.rxPath) (shown := RxPath.trims) hi (fun u y a => u.rxTrimStep_reg t B y a)
    (fun u y hy => u.rxTrimStep_ne t B y hy) fun u hpath hregs => ?_
  rw [u.rxTrimStep_armed t B i (hpath ▸ h)]
  simp only [State.fld, hregs]

theorem State.rxTrimSteps_idle (h : B ∉ (s.rxPath (pathKey t i)).armed) :
    (s.each paths fun u i => u.rxTrimStep t B i).rxPath (pathKey t i) = s.rxPath (pathKey t i) := by
  refine State.each_keeps (P := fun u => u.rxPath (pathKey t i) = s.rxPath (pathKey t i)) (fun u y hu => ?_) _ rfl
  by_cases hy : y = i
  · subst hy
    rwa [u.rxTrimStep_idle t B y (hu ▸ h)]
  · exact (u.rxTrimStep_ne t B y hy).trans hu

end

section
variable {l : List Nat} {s u : State}

theorem ChainFrame.setTxPath (h : ChainFrame false l s u) (k : Nat) (p : TxPath) : ChainFrame false l s (u.setTxPath k p) := h.inside rfl rfl rfl
theorem ChainFrame.setRxPath (h : ChainFrame true l s u) (k : Nat) (p : RxPath) : ChainFrame true l s (u.setRxPath k p) := h.inside rfl rfl rfl

theorem ChainFrame.txTrimStep (h : ChainFrame false l s u) (t B i : Nat) : ChainFrame false l s (u.txTrimStep t B i) := by
  unfold State.txTrimStep
  dsimp only
  split
  · exact (h.setTxPath _ _).calHit _ _ _
  · exact h

theorem ChainFrame.rxTrimStep (h : ChainFrame true l s u) (t B i : Nat) : ChainFrame true l s (u.rxTrimStep t B i) := by
  unfold State.rxTrimStep
  dsimp only
  split
  · split
    · exact (h.setRxPath _ _).calHit _ _ _
    · exact State.each_keeps (P := ChainFrame true l s) (fun _ c hv => hv.settleRx t i c _) _ ((h.setRxPath _ _).calHit _ _ _)
  · exact h
end

theorem State.advanceTb_fld (s : State) (n a : Nat) (f : Fld) : (s.advanceTb n).fld a f = s.fld a f := s.advanceTb_field (·.fld a f) fun _ _ => rfl
theorem State.advanceTb_txPath (s : State) (n k : Nat) : (s.advanceTb n).txPath k = s.txPath k := s.advanceTb_field (·.txPath k) fun _ _ => rfl
theorem State.advanceTb_rxPath (s : State) (n k : Nat) : (s.advanceTb n).rxPath k = s.rxPath k := s.advanceTb_field (·.rxPath k) fun _ _ => rfl

theorem State.txPath_setBit (s : State) (a : Nat) (f : Fld) (b : Bool) (k : Nat) : (s.setBit a f b).txPath k = s.txPath k := rfl

/-- The earliest boundary armed on the transmit paths of a tile, and on its receive paths. -/
theorem txTrim_due {s : State} {t : Fin 4} {B : Nat} (hdue : s.txTrimDue t = some B) : Answers (.trimApply t false) s fun u => (∀ i : Fin 16,
    if B ∈ (s.txPath (pathKey t i)).armed
      then (u.txPath (pathKey t i)).trims = (s.fld (TXCH_DELAY t i) TXCH_DELAY_DELAY, s.fld (TXCH_PHASE t i) TXCH_PHASE_PHASE)
      else u.txPath (pathKey t i) = s.txPath (pathKey t i)) ∧ Keeps [TXCH_STATUS t] s u := by
  obtain ⟨pending, hrun⟩ := State.txTrimApply_due hdue
  have hframe : ChainFrame false [TXCH_STATUS t] (s.advanceTb B) ((s.advanceTb B).each paths fun u i => u.txTrimStep t B i) :=
    State.each_keeps (P := ChainFrame false _ _) (fun _ i hv => hv.txTrimStep t B i) _ (.refl ..)
  have hdone := (exec_trimApply_tx t s).trans (congrArg done hrun)
  refine .of_done hdone ⟨fun i => ?_, ?_⟩
  · have hafter := (State.settle_txPath (((s.advanceTb B).each paths fun u i => u.txTrimStep t B i).setBit (TXCH_STATUS t)
      TXCH_STATUS_TRIM_PENDING pending) (pathKey t i)).trans (State.txPath_setBit ..)
    split
    · next h =>
      have harmed : B ∈ ((s.advanceTb B).txPath (pathKey t i)).armed := by rwa [State.advanceTb_txPath]
      rw [hafter, State.txTrimSteps_armed _ t B i i.2 harmed, State.advanceTb_fld, State.advanceTb_fld]
    · next h =>
      have hidle : B ∉ ((s.advanceTb B).txPath (pathKey t i)).armed := by rwa [State.advanceTb_txPath]
      rw [hafter, State.txTrimSteps_idle _ t B i hidle, State.advanceTb_txPath]
  · exact (((Keeps.refl _ s).advanceTb B).trans (hframe.setBit _ TXCH_STATUS_TRIM_PENDING pending (List.mem_singleton_self _)).keeps).settle

theorem rxTrim_due {s : State} {t : Fin 4} {B : Nat} (hdue : s.rxTrimDue t = some B) : Answers (.trimApply t true) s fun u => (∀ i : Fin 16,
    if B ∈ (s.rxPath (pathKey t i)).armed
      then (u.rxPath (pathKey t i)).trims = (s.fld (RXCH_DELAY t i) RXCH_DELAY_DELAY, s.fld (RXCH_PHASE t i) RXCH_PHASE_PHASE)
      else u.rxPath (pathKey t i) = s.rxPath (pathKey t i)) ∧ Keeps [] s u := by
  have hframe : ChainFrame true [] (s.advanceTb B) ((s.advanceTb B).each paths fun u i => u.rxTrimStep t B i) :=
    State.each_keeps (P := ChainFrame true _ _) (fun _ i hv => hv.rxTrimStep t B i) _ (.refl ..)
  have hdone := (exec_trimApply_rx t s).trans (congrArg done (State.rxTrimApply_due hdue))
  refine .of_done hdone ⟨fun i => ?_, ?_⟩
  · have hafter := State.settle_rxPath ((s.advanceTb B).each paths fun u i => u.rxTrimStep t B i) (pathKey t i)
    split
    · next h =>
      have harmed : B ∈ ((s.advanceTb B).rxPath (pathKey t i)).armed := by rwa [State.advanceTb_rxPath]
      rw [hafter, State.rxTrimSteps_armed _ t B i i.2 harmed, State.advanceTb_fld, State.advanceTb_fld]
    · next h =>
      have hidle : B ∉ ((s.advanceTb B).rxPath (pathKey t i)).armed := by rwa [State.advanceTb_rxPath]
      rw [hafter, State.rxTrimSteps_idle _ t B i hidle, State.advanceTb_rxPath]
  · exact (((Keeps.refl _ s).advanceTb B).trans hframe.keeps).settle

/-! ### Symbols due (R76, R77) -/

/-- The registers that count saturated samples of a tile. -/
def clipRegs (t : Nat) : List Nat := TXCH_CNT_FLAGS t :: (List.range 16).map fun i => TXCH_CLIP_COUNT t i

section
variable {s u : State} {t : Nat}

theorem ChainFrame.txClips (h : ChainFrame false (clipRegs t) s u) {i : Nat} (hi : i < 16) (n : Nat) :
    ChainFrame false (clipRegs t) s (u.txClips t i n) := by
  unfold State.txClips
  split
  · exact h
  · exact (h.bump _ _ _ _ (List.mem_cons_of_mem _ (mem_eachPath hi)) (List.mem_cons_self ..)).raise _

theorem ChainFrame.countTx (h : ChainFrame false (clipRegs t) s u) {i : Nat} (hi : i < 16) : ChainFrame false (clipRegs t) s (u.countTx t i) := by
  unfold State.countTx
  split
  · exact h
  · exact (h.modTxPath _ _).txClips hi _

theorem ChainFrame.countClips (h : ChainFrame false (clipRegs t) s u) (c sym : Nat) : ChainFrame false (clipRegs t) s (u.countClips t c sym) := by
  refine State.each_keeps_mem (P := ChainFrame false (clipRegs t) s) (fun v i hi hv => ?_) h
  have hi16 : i < 16 := List.mem_range.1 hi
  split
  · exact (hv.txClips hi16 _).countTx hi16
  · exact hv
end

theorem clipRegs_apart (t c : Fin 4) : (TXCH_CARCFG t c ∉ clipRegs t ∧ eventReg (TXCH_CARCFG t c) = false) ∧
    TXCH_LATE_DATA_COUNT t ∉ clipRegs t ∧ eventReg (TXCH_LATE_DATA_COUNT t) = false := by
  revert t c
  decide

theorem State.txCfg_congr {s u : State} {t c : Nat} (h : u.reg (TXCH_CARCFG t c) = s.reg (TXCH_CARCFG t c)) : u.txCfg t c = s.txCfg t c := by
  simp only [State.txCfg, State.bit, State.fld, h]

/-- The run that marks a whole symbol of a carrier on a path. -/
def State.symbolRun (s : State) (t : Nat) (k : Carcfg) (sym : Nat) : Run :=
  { first := s.sampleAt t (s.instantOf (k.symStart sym)), stop := s.sampleAt t (s.instantOf (k.symStart (sym + 1))) }

section
variable (s : State) (t c sym : Nat) {l : List Nat}

theorem State.markSymbol_runs (i : Nat) : s.symbolRun t (s.txCfg t c) sym ∈ ((s.markSymbol t i c sym).txCar (carKey t i c)).runs := by
  unfold State.markSymbol
  dsimp only
  rw [State.txCar_modTxCar, if_pos rfl]
  exact List.mem_cons_self ..

theorem State.markSymbol_ne {i j : Nat} (h : i ≠ j) : (s.markSymbol t i c sym).txCar (carKey t j c) = s.txCar (carKey t j c) := by
  unfold State.markSymbol
  dsimp only
  rw [State.txCar_modTxCar, if_neg (by simp only [carKey]; omega)]

theorem ChainFrame.markSymbol {s u : State} (h : ChainFrame false l s u) (t i c sym : Nat) : ChainFrame false l s (u.markSymbol t i c sym) := by
  unfold State.markSymbol
  exact h.modTxCar _ _

/-- Each path of a mask takes the mark. -/
theorem State.markSymbols_runs (m : BitVec 16) {i : Nat} (hi : m.getLsbD i = true) : s.symbolRun t (s.txCfg t c) sym ∈
    ((s.each (onesOf 16 m.toNat) fun u i => u.markSymbol t i c sym).txCar (carKey t i c)).runs :=
  State.each_visit (P := fun u => u.symbolRun t (u.txCfg t c) sym = s.symbolRun t (s.txCfg t c) sym)
    (Q := fun u => s.symbolRun t (s.txCfg t c) sym ∈ (u.txCar (carKey t i c)).runs) (List.nodup_range.filter _) ((mem_onesOf_toNat m i).2 hi)
    (fun _ _ _ h => h) (fun u h => h ▸ u.markSymbol_runs t c sym i) (fun u _ hy h => (u.markSymbol_ne t c sym hy).symm ▸ h) rfl
end

/-- The state when the saturated samples up to a boundary have been counted. -/
def State.clipsCounted (s : State) (t c b : Nat) : State := (s.advanceTb b).countClips t c ((s.txCfg t c).symAt b - 1)

/-- A symbol of a tile comes due: what is held of it is let go, and data of symbols that ended long ago. -/
def State.symbolTaken (s : State) (key : Nat) (data : List (Nat × Option Word)) : State := { s.setTxSym key {} with txData := data }

section
variable (s : State) (key : Nat) (data : List (Nat × Option Word))
theorem State.symbolTaken_txSym : (s.symbolTaken key data).txSym key = {} := (s.txSym_setTxSym ..).trans (if_pos rfl)
theorem State.symbolTaken_reg (a : Nat) : (s.symbolTaken key data).reg a = s.reg a := rfl
theorem State.symbolTaken_symbolRun (t : Nat) (k : Carcfg) (sym : Nat) : (s.symbolTaken key data).symbolRun t k sym = s.symbolRun t k sym := rfl
theorem Keeps.symbolTaken {l : List Nat} {s u : State} (h : Keeps l s u) (key : Nat) (data : List (Nat × Option Word)) :
    Keeps l s (u.symbolTaken key data) := h
end

/-- A symbol that lacks words is marked on the paths that lack them and counted (R76). -/
def State.symbolLate (s : State) (t c sym : Nat) (lacking : BitVec 16) : State :=
  ((s.each (onesOf 16 lacking.toNat) fun u i => u.markSymbol t i c sym).raise (Ev.TX_DATA_LATE t)).bump
    (TXCH_LATE_DATA_COUNT t) (TXCH_CNT_FLAGS t) 17 1

theorem State.symbolDeadline_due {s : State} {t c : Nat} (hen : (s.txCfg t c).en = true) (hok : (s.txCfg t c).ok = true)
    (hmode : s.mode = .onAir ∨ s.mode = .quiet ∨ s.mode = .test) :
    let b := (s.txCfg t c).nextBoundary (s.tb.toNat + 1)
    let sym := (s.txCfg t c).symAt b + 1
    let v := s.clipsCounted t c b
    let lacking := (v.txSym (symKey sym c t)).lacking
    ∃ data, s.symbolDeadline t c =
      if lacking = 0 then v.symbolTaken (symKey sym c t) data else (v.symbolTaken (symKey sym c t) data).symbolLate t c sym lacking := by
  have hruns : ¬ (!(s.txCfg t c).en || !(s.txCfg t c).ok || !(s.mode == .onAir || s.mode == .quiet || s.mode == .test)) = true := by
    rcases hmode with h | h | h <;> simp [hen, hok, h]
  exact ⟨_, if_neg hruns⟩

section
variable (s : State) (t c : Fin 4) (b : Nat)

theorem State.clipsCounted_frame : ChainFrame false (clipRegs t) (s.advanceTb b) (s.clipsCounted t c b) := (ChainFrame.refl ..).countClips _ _

theorem State.clipsCounted_reg {a : Nat} (ha : a ∉ clipRegs t) (he : eventReg a = false) : (s.clipsCounted t c b).reg a = s.reg a := by
  obtain ⟨_, _, hadv⟩ := s.advanceTb_eq b
  rw [(s.clipsCounted_frame t c b).reg a ha he, hadv]
  rfl

theorem State.clipsCounted_txSym (k : Nat) : (s.clipsCounted t c b).txSym k = s.txSym k := by
  obtain ⟨_, _, hadv⟩ := s.advanceTb_eq b
  rw [(s.clipsCounted_frame t c b).field (·.txSym k) fun _ => rfl, hadv]
  rfl

theorem State.clipsCounted_txCfg : (s.clipsCounted t c b).txCfg t c = s.txCfg t c := by
  obtain ⟨⟨hcfg, hevent⟩, -⟩ := clipRegs_apart t c
  exact State.txCfg_congr (s.clipsCounted_reg t c b hcfg hevent)

theorem State.clipsCounted_symbolRun (k : Carcfg) (sym : Nat) : (s.clipsCounted t c b).symbolRun t k sym = (s.advanceTb b).symbolRun t k sym :=
  (s.clipsCounted_frame t c b).field (·.symbolRun t k sym) fun _ => rfl

theorem State.clipsCounted_keeps : Keeps (clipRegs t) s (s.clipsCounted t c b) :=
  ((Keeps.refl _ s).advanceTb b).trans (s.clipsCounted_frame t c b).keeps
end

section
variable (s : State) (t : Fin 4) (c sym : Nat) (m : BitVec 16)

theorem State.symbolLate_frame : ChainFrame false (TXCH_LATE_DATA_COUNT t :: clipRegs t) s (s.symbolLate t c sym m) :=
  ((State.each_keeps (P := ChainFrame false _ s) (fun _ i hv => hv.markSymbol _ i _ _) _ (.refl ..)).raise _).bump _ _ _ _
    (List.mem_cons_self ..) (List.mem_cons_of_mem _ (List.mem_cons_self ..))

theorem State.symbolLate_count : (s.symbolLate t c sym m).fld (TXCH_LATE_DATA_COUNT t) TXCH_LATE_DATA_COUNT_COUNT =
    min (s.fld (TXCH_LATE_DATA_COUNT t) TXCH_LATE_DATA_COUNT_COUNT + 1) (2 ^ 32 - 1) := by
  obtain ⟨-, -, hevent⟩ := clipRegs_apart t 0
  have hmarks : (s.each (onesOf 16 m.toNat) fun u i => u.markSymbol t i c sym).reg (TXCH_LATE_DATA_COUNT t) = s.reg (TXCH_LATE_DATA_COUNT t) :=
    State.reg_each _ _ _ _ fun _ _ => rfl
  refine (State.fld_bump _ _ _ _ _ hevent (by simp only [TXCH_LATE_DATA_COUNT, TXCH_CNT_FLAGS]; omega)).trans ?_
  rw [State.fld_raise _ _ _ _ hevent, State.fld, hmarks, ← State.fld]

theorem State.symbolLate_runs {i : Nat} (hi : m.getLsbD i = true) :
    s.symbolRun t (s.txCfg t c) sym ∈ ((s.symbolLate t c sym m).txCar (carKey t i c)).runs := by
  have hcars : (s.symbolLate t c sym m).txCars = (s.each (onesOf 16 m.toNat) fun u i => u.markSymbol t i c sym).txCars := by
    obtain ⟨_, _, _, _, hbump⟩ := State.bump_event ((s.each (onesOf 16 m.toNat) fun u i => u.markSymbol t i c sym).raise (Ev.TX_DATA_LATE t))
      (TXCH_LATE_DATA_COUNT t) (TXCH_CNT_FLAGS t) 17 1
    rw [State.symbolLate, hbump, State.raise_txCars]
  rw [State.txCar, hcars]
  exact s.markSymbols_runs t c sym m hi
end

/-! ### DACs that stop (R85, R494) -/

section
variable {s : State} {t i : Nat}

theorem State.advance_now (s : State) (n : Nat) : (s.advance n).now = max s.now n := by
  unfold State.advance
  split
  · next h => exact (Nat.max_eq_right h.le).symm
  · next h => exact (Nat.max_eq_left (Nat.not_lt.1 h)).symm

theorem State.gateDac_gated (s : State) (t i : Nat) : ((s.gateDac t i).txPath (pathKey t i)).gated = true := by
  unfold State.gateDac
  rw [State.txPath_modTxPath, if_pos rfl]
  dsimp only
  split
  · assumption
  · rfl

theorem State.gateDac_now (s : State) (t i : Nat) : (s.gateDac t i).now = s.now := rfl

theorem Keeps.gateDac {l : List Nat} {u : State} (h : Keeps l s u) (t i : Nat) : Keeps l s (u.gateDac t i) := h

theorem State.dacGateIdle_idle (hgate : s.bit (TXCH_CTRL t) TXCH_CTRL_DAC_GATE = true) (hidle : s.dacIdle t i = true) :
    s.dacGateIdle t i = (s.advance (max ((s.txPath (pathKey t i)).idleSince + 2048) (s.quadTurn t (i / 4)))).gateDac t i :=
  if_pos (by rw [hgate, hidle]; rfl)
end

/-! ### The statement -/

/-- A symbol that comes due with all its words is let go. -/
theorem symbol_held {s : State} {t c : Fin 4} (hen : (s.txCfg t c).en = true) (hok : (s.txCfg t c).ok = true)
    (hmode : s.mode = .onAir ∨ s.mode = .quiet ∨ s.mode = .test) :
    let b := (s.txCfg t c).nextBoundary (s.tb.toNat + 1)
    let sym := (s.txCfg t c).symAt b + 1
    (s.txSym (symKey sym c t)).lacking = 0 →
      Answers (.txSymbolDeadline t c) s fun u => u.txSym (symKey sym c t) = {} ∧ Keeps (clipRegs t) s u := by
  intro b sym hlacking
  obtain ⟨data, hrun⟩ := State.symbolDeadline_due hen hok hmode
  rw [State.clipsCounted_txSym] at hrun
  refine .of_done ((exec_txSymbolDeadline t c s).trans (congrArg done (hrun.trans (if_pos hlacking)))) ⟨?_, ?_⟩
  · exact (State.settle_txSym ..).trans (State.symbolTaken_txSym ..)
  · exact ((s.clipsCounted_keeps t c b).symbolTaken _ data).settle

/-- One that lacks words is marked and counted. -/
theorem symbol_lacking {s : State} {t c : Fin 4} (hen : (s.txCfg t c).en = true) (hok : (s.txCfg t c).ok = true)
    (hmode : s.mode = .onAir ∨ s.mode = .quiet ∨ s.mode = .test) :
    let b := (s.txCfg t c).nextBoundary (s.tb.toNat + 1)
    let sym := (s.txCfg t c).symAt b + 1
    let x := s.txSym (symKey sym c t)
    x.lacking ≠ 0 → Answers (.txSymbolDeadline t c) s fun u => u.txSym (symKey sym c t) = {} ∧
      u.fld (TXCH_LATE_DATA_COUNT t) TXCH_LATE_DATA_COUNT_COUNT =
        min (s.fld (TXCH_LATE_DATA_COUNT t) TXCH_LATE_DATA_COUNT_COUNT + 1) (2 ^ 32 - 1) ∧
      (∀ i : Fin 16, x.lacking.getLsbD i = true → (s.advanceTb b).symbolRun t (s.txCfg t c) sym ∈ (u.txCar (carKey t i c)).runs) ∧
      Keeps (TXCH_LATE_DATA_COUNT t :: clipRegs t) s u := by
  intro b sym x hlacking
  obtain ⟨data, hrun⟩ := State.symbolDeadline_due hen hok hmode
  obtain ⟨-, hcount, hevent⟩ := clipRegs_apart t c
  rw [State.clipsCounted_txSym] at hrun
  have hlate := ((s.clipsCounted t c b).symbolTaken (symKey sym c t) data).symbolLate_frame t c sym x.lacking
  refine .of_done ((exec_txSymbolDeadline t c s).trans (congrArg done (hrun.trans (if_neg hlacking)))) ⟨?_, ?_, fun i hi => ?_, ?_⟩
  · exact (State.settle_txSym ..).trans ((hlate.field (·.txSym (symKey sym c t)) fun _ => rfl).trans (State.symbolTaken_txSym ..))
  · rw [State.fld_settle, State.symbolLate_count, State.fld, State.symbolTaken_reg, s.clipsCounted_reg t c b hcount hevent, ← State.fld]
  · have hmarked := ((s.clipsCounted t c b).symbolTaken (symKey sym c t) data).symbolLate_runs t c sym x.lacking hi
    rw [State.symbolTaken_symbolRun, State.txCfg_congr (State.symbolTaken_reg ..), State.clipsCounted_txCfg, State.clipsCounted_symbolRun] at hmarked
    rw [State.settle_txCar]
    exact hmarked
  · exact ((((s.clipsCounted_keeps t c b).symbolTaken _ data).mono fun _ => List.mem_cons_of_mem _).trans hlate.keeps).settle

/-- Settles O14: a trim boundary path by path, a symbol by whether it lacks words, a DAC that may stop. -/
theorem transmitTimes : Obligations.TransmitTimes := by
  intro s t clips
  refine ⟨fun B hdue => ?txTrim, fun B hdue => ?rxTrim, fun c hen hok hmode => ?symbol, fun i hgate hidle => ?dac⟩
  case txTrim => exact txTrim_due hdue
  case rxTrim => exact rxTrim_due hdue
  case symbol => exact ⟨symbol_held hen hok hmode, symbol_lacking hen hok hmode⟩
  case dac =>
    refine .of_done ((exec_dacGateIdle t i s).trans (congrArg done (State.dacGateIdle_idle hgate hidle))) ⟨?_, ?_, ?_⟩
    · rw [State.settle_txPath, State.gateDac_gated]
    · rw [State.settle_now, State.gateDac_now, State.advance_now]
    · exact (((Keeps.refl [] s).advance _).gateDac t i).settle

end Sys2Proof.Machine
end

section
/-!
PROOFS. Writes of the receive registers (R103 to R105, R109, R110, R121, R122, R207, R208).
-/
namespace Sys2Proof.Machine
open Reg F

theorem exec_rxRfHiWrite (t : Fin 4) (w : Word) (s : State) :
    exec (.rxRfHiWrite t w) s = done (s.guarded (RXCH_RF_HI t) fun s => s.rxRfHi t w) := rfl
theorem exec_rxCarNcoHiWrite (t : Fin 4) (w : Word) (s : State) :
    exec (.rxCarNcoHiWrite t w) s = done (s.guarded (RXCH_CAR_NCO_HI t) fun s => s.rxNcoHi t w) := rfl
theorem exec_rxCarFiltWrite (t : Fin 4) (w : Word) (s : State) :
    exec (.rxCarFiltWrite t w) s = done (s.guarded (RXCH_CAR_FILT t) fun s => s.rxFilt t w) := rfl
theorem exec_rxZoneWrite (t : Fin 4) (w : Word) (s : State) :
    exec (.rxZoneWrite t w) s = done (s.guarded (RXCH_ZONE t) fun s => s.rxZone t w) := rfl
theorem exec_rxTrimArmWrite (t : Fin 4) (pm : BitVec 16) (s : State) :
    exec (.rxTrimArmWrite t pm) s = done (s.guarded (RXCH_TRIM_ARM t) fun s => s.rxTrimArm t pm.toNat) := rfl
theorem exec_pmCfgWrite_pm (t : Fin 4) (w : Word) (s : State) :
    exec (.pmCfgWrite t false w) s = done (s.guarded (RXCH_PM_CFG t) fun s => s.pmCfg t w) := rfl
theorem exec_pmCfgWrite_wpd (t : Fin 4) (w : Word) (s : State) :
    exec (.pmCfgWrite t true w) s = done (s.guarded (RXCH_WPD_CFG t) fun s => s.wpdCfg t w) := rfl

/-- What a frame does not leave open is as it was. -/
theorem Frame.field {l : List Nat} {s u : State} (h : Frame l s u) {α : Type} (m : State → α) (hm : ∀ x : State, m x.core = m x) : m u = m s := by
  obtain ⟨hcore, -⟩ := h
  rw [← hm u, hcore, hm]

/-! ### The RF word (R104, R207, R208) -/

section
variable (s : State) (t : Nat) (w : Word)

/-- The word that a write of RF_HI commits. -/
def State.rxRfWord : BitVec 48 := w.setWidth 16 ++ s.reg (RXCH_RF_LO t)

/-- The RF word committed. -/
def State.rxRfCommit : State := (s.plainWrite (RXCH_RF_HI t) w).setRxRf t (s.rxRfWord t w)

/-- The calibrations that rest on the RF word of the receive chains end. -/
def State.endRxCals : State :=
  ((s.setBit (DFLY_CAL_STAT t) DFLY_CAL_STAT_RX_VALID false).setBit (DFLY_CAL_STAT t) DFLY_CAL_STAT_RCP_VALID false).modCal t
    fun c => { c with rxGood := 0, rcpGood := 0 }

/-- A write of RF_HI in Configure, before the carriers are checked again. -/
def State.rxRfWritten : State := if s.rxRfWord t w = s.rxRf t then s.rxRfCommit t w else (s.rxRfCommit t w).endRxCals t

theorem State.rxRfHi_of_configure {s : State} {t : Nat} {w : Word} (hmode : s.mode = .configure) :
    s.rxRfHi t w = (s.rxRfWritten t w).recheckRx t := by
  rw [State.rxRfHi, State.configOnly_of hmode]
  rfl

theorem State.rxRfCommit_keeps : Keeps [RXCH_RF_HI t] s (s.rxRfCommit t w) := (s.plainWrite_frame (RXCH_RF_HI t) w).keeps

theorem State.endRxCals_keeps : Keeps [DFLY_CAL_STAT t] s (s.endRxCals t) :=
  (((Frame.refl _ s).setBit _ DFLY_CAL_STAT_RX_VALID false (by simp)).setBit _ DFLY_CAL_STAT_RCP_VALID false (by simp)).keeps

/-- Two bits of a register cleared one after the other. -/
theorem State.bits_cleared (a : Nat) (f g : Fld) (hf : f.lo + f.width ≤ 32) (hg : g.lo + g.width ≤ 32) (hf1 : f.width = 1) (hg1 : g.width = 1)
    (hfg : g.lo + g.width ≤ f.lo ∨ f.lo + f.width ≤ g.lo) :
    let u := (s.setBit a f false).setBit a g false
    u.bit a f = false ∧ u.bit a g = false := by
  refine ⟨?_, State.bit_setBit _ _ _ _ hg hg1⟩
  exact (congrArg (· != 0) ((s.setBit a f false).fld_setFld_apart a g f (b2n false) hfg hf)).trans (s.bit_setBit a f false hf hf1)

theorem State.endRxCals_valid : (s.endRxCals t).bit (DFLY_CAL_STAT t) DFLY_CAL_STAT_RX_VALID = false ∧
    (s.endRxCals t).bit (DFLY_CAL_STAT t) DFLY_CAL_STAT_RCP_VALID = false :=
  s.bits_cleared _ _ _ (by decide) (by decide) rfl rfl (by decide)

theorem State.rxRfWritten_rxRf (k : Nat) : (s.rxRfWritten t w).rxRf k = if k = t then s.rxRfWord t w else s.rxRf k := by
  have hplain : (s.plainWrite (RXCH_RF_HI t) w).rxRf k = s.rxRf k := (s.plainWrite_frame _ w).field (·.rxRf k) fun _ => rfl
  have hend : ((s.rxRfCommit t w).endRxCals t).rxRf k = (s.rxRfCommit t w).rxRf k := rfl
  rw [State.rxRfWritten, apply_ite (fun u : State => u.rxRf k), hend, ite_self, State.rxRfCommit, State.rxRf_setRxRf, hplain]

theorem State.rxRfWritten_keeps : Keeps [RXCH_RF_HI t, DFLY_CAL_STAT t] s (s.rxRfWritten t w) := by
  have hcommit : Keeps [RXCH_RF_HI t, DFLY_CAL_STAT t] s (s.rxRfCommit t w) := (s.rxRfCommit_keeps t w).mono (by simp)
  unfold State.rxRfWritten
  split
  · exact hcommit
  · exact hcommit.trans ((State.endRxCals_keeps _ t).mono (by simp))

theorem State.rxRfWritten_valid (h : s.rxRfWord t w ≠ s.rxRf t) : (s.rxRfWritten t w).bit (DFLY_CAL_STAT t) DFLY_CAL_STAT_RX_VALID = false ∧
    (s.rxRfWritten t w).bit (DFLY_CAL_STAT t) DFLY_CAL_STAT_RCP_VALID = false := by
  rw [State.rxRfWritten, if_neg h]
  exact State.endRxCals_valid _ t
end

theorem dflyCalStat_apart_rx (t : Fin 4) : DFLY_CAL_STAT t ∉ [RXCH_STATUS t] ∧ DFLY_CAL_STAT t ∉ [RXCH_RF_HI t] ∧
    eventReg (DFLY_CAL_STAT t) = false := by
  revert t
  decide

theorem State.rxRfWritten_calStat {s : State} {t : Fin 4} {w : Word} (h : s.rxRfWord t w = s.rxRf t) :
    (s.rxRfWritten t w).reg (DFLY_CAL_STAT t) = s.reg (DFLY_CAL_STAT t) := by
  obtain ⟨-, hapart, hevent⟩ := dflyCalStat_apart_rx t
  obtain ⟨hreg, -⟩ := s.rxRfCommit_keeps t w
  rw [State.rxRfWritten, if_pos h, hreg _ hapart hevent]

/-- A committed RF word ends the calibrations that rest on it if it differs from the one before. -/
theorem rxRfHi_configure {s : State} {t : Fin 4} {w : Word} (hans : s.answers (RXCH_RF_HI t) = true) (hmode : s.mode = .configure) :
    Answers (.rxRfHiWrite t w) s fun u => (∀ k : Fin 4, u.rxRf k = if k = t then s.rxRfWord t w else s.rxRf k) ∧
      (u.rxRf t ≠ s.rxRf t →
        u.bit (DFLY_CAL_STAT t) DFLY_CAL_STAT_RX_VALID = false ∧ u.bit (DFLY_CAL_STAT t) DFLY_CAL_STAT_RCP_VALID = false) ∧
      (u.rxRf t = s.rxRf t → u.reg (DFLY_CAL_STAT t) = s.reg (DFLY_CAL_STAT t)) ∧
      Keeps [RXCH_RF_HI t, DFLY_CAL_STAT t, RXCH_STATUS t] s u := by
  obtain ⟨hapart, -, hevent⟩ := dflyCalStat_apart_rx t
  have hcheck : ChainFrame true [RXCH_STATUS t] (s.rxRfWritten t w) ((s.rxRfWritten t w).recheckRx t).settle :=
    ((ChainFrame.refl ..).recheckRx (List.mem_singleton_self _)).settle
  have hrf : ∀ k, ((s.rxRfWritten t w).recheckRx t).settle.rxRf k = if k = t then s.rxRfWord t w else s.rxRf k := fun k =>
    (hcheck.field (·.rxRf k) fun _ => rfl).trans (s.rxRfWritten_rxRf t w k)
  have hthis : ((s.rxRfWritten t w).recheckRx t).settle.rxRf t = s.rxRfWord t w := (hrf t).trans (if_pos rfl)
  have hstat : ((s.rxRfWritten t w).recheckRx t).settle.reg (DFLY_CAL_STAT t) = (s.rxRfWritten t w).reg (DFLY_CAL_STAT t) :=
    hcheck.reg _ hapart hevent
  refine .of_guarded (exec_rxRfHiWrite t w s) hans ?_
  rw [State.rxRfHi_of_configure hmode]
  refine ⟨fun k => ?_, fun hne => ?_, fun heq => ?_, ((s.rxRfWritten_keeps t w).mono (by simp)).trans (hcheck.keeps.mono (by simp))⟩
  · rw [hrf]
    simp only [Fin.val_inj]
  · simp only [State.bit, hstat]
    exact s.rxRfWritten_valid t w (hthis ▸ hne)
  · rw [hstat, State.rxRfWritten_calStat (hthis ▸ heq)]

/-! ### ZONE (R105) -/

section
variable (s : State) (t : Nat) (w : Word)

/-- The zones of the 16 paths set one after the other, before the carriers are checked again. -/
def State.zonesSet : State := s.each paths fun u i => u.setZone t i (w.getLsbD i)

theorem State.zonesSet_zone {i : Nat} (hi : i < 16) : (s.zonesSet t w).maskBit (RXCH_ZONE t) RXCH_ZONE_Z i = w.getLsbD i := by
  have hstep : ∀ u : State, ∀ x ∈ paths, True → (u.setZone t x (w.getLsbD x)).maskBit (RXCH_ZONE t) RXCH_ZONE_Z i =
      if x = i then w.getLsbD i else u.maskBit (RXCH_ZONE t) RXCH_ZONE_Z i := fun u x hx _ => by
    rw [u.setZone_zone t x _ (List.mem_range.1 hx) hi]
    split
    · next h => rw [h]
    · rfl
  exact (State.each_reading (I := fun _ => True) (r := fun u => u.maskBit (RXCH_ZONE t) RXCH_ZONE_Z i) (g := fun _ => w.getLsbD i) (fun _ => rfl)
    (fun _ _ _ => trivial) hstep trivial).trans (if_pos ⟨i, List.mem_range.2 hi, rfl⟩)

theorem State.zonesSet_fld : (s.zonesSet t w).fld (RXCH_ZONE t) RXCH_ZONE_Z = w.toNat % 65536 := by
  refine Nat.eq_of_testBit_eq fun i => ?_
  rw [show (65536 : Nat) = 2 ^ 16 from rfl, Nat.testBit_mod_two_pow]
  by_cases hi : i < 16
  · rw [decide_eq_true hi, Bool.true_and]
    exact s.zonesSet_zone t w hi
  · rw [decide_eq_false hi, Bool.false_and]
    exact Nat.testBit_lt_two_pow (lt_of_lt_of_le (State.fld_lt _ _ RXCH_ZONE_Z) (Nat.pow_le_pow_right (by decide) (Nat.le_of_not_lt hi)))

theorem State.zonesSet_frame : ChainFrame true [RXCH_ZONE t, RXCH_STATUS t] s (s.zonesSet t w) :=
  State.each_keeps (P := ChainFrame true _ s) (fun _ i hv => hv.setZone i _ (by simp)) _ (.refl ..)
end

/-! ### TRIM_ARM (R103) -/

section
variable (s : State) (t : Nat) (m : BitVec 16)

/-- A path is armed for a boundary, if it is not armed for it already. -/
def RxPath.arm (B : Nat) (p : RxPath) : RxPath := { p with armed := if p.armed.contains B then p.armed else p.armed ++ [B] }

theorem RxPath.mem_arm (p : RxPath) (B B' : Nat) : B' ∈ (p.arm B).armed ↔ B' ∈ p.armed ∨ B' = B := by
  unfold RxPath.arm
  dsimp only
  split
  · next h =>
    have hB : B ∈ p.armed := by simpa using h
    exact ⟨Or.inl, fun h' => h'.elim id fun heq => heq ▸ hB⟩
  · simp

/-- A path armed twice for a boundary is armed for it once. -/
theorem RxPath.arm_arm (B : Nat) (p : RxPath) : (p.arm B).arm B = p.arm B := by
  have hmem : (p.arm B).armed.contains B = true := by simpa using (p.mem_arm B B).2 (.inr rfl)
  rw [RxPath.arm, if_pos hmem]

theorem State.rxTrimArm_rxPath (i : Nat) : (s.rxTrimArm t m.toNat).rxPath (pathKey t i) =
    if m.getLsbD i then (s.rxPath (pathKey t i)).arm s.trimBoundary else s.rxPath (pathKey t i) := by
  refine State.eachPath_reading (r := fun u => u.rxPath (pathKey t i)) (g := RxPath.arm s.trimBoundary) (RxPath.arm_arm _) (fun u x _ => ?_) m
  rw [State.rxPath_modRxPath]
  simp only [pathKey_inj, @eq_comm _ i x]
  split
  · next h =>
    rw [h]
    rfl
  · rfl

theorem State.rxTrimArm_frame : ChainFrame true [] s (s.rxTrimArm t m.toNat) :=
  State.each_keeps (P := ChainFrame true _ s) (fun _ _ hv => hv.modRxPath _ _) _ (.refl ..)
end

/-! ### Measurements that start anew (R121, R122) -/

/-- A configuration is written, and on each path of the tile the measurement changes as the clock and t_A decide, its result no longer valid. -/
def State.meterRestart (s : State) (t cfg : Nat) (w : Word) (result : Nat → Nat) (valid : Fld) (g : State → RxPath → RxPath) : State :=
  (s.plainWrite cfg w).each paths fun u i => (u.modRxPath (pathKey t i) (g u)).setBit (result i) valid false

/-- The measurement on a carrier, and the wideband one, from an instant on. -/
def State.freshPm (t : Nat) (s : State) (p : RxPath) : RxPath := { p with pm := { next := s.sampleAt t s.now } }
def State.freshWpd (t : Nat) (s : State) (p : RxPath) : RxPath :=
  { p with wpd := { next := (15 * ((s.now : Int) - s.origin t) + 1) / 2, above := p.wpd.above } }

theorem State.pmCfg_eq (s : State) (t : Nat) (w : Word) :
    s.pmCfg t w = s.meterRestart t (RXCH_PM_CFG t) w (RXCH_PM_RESULT t) RXCH_PM_RESULT_VALID (State.freshPm t) := rfl
theorem State.wpdCfg_eq (s : State) (t : Nat) (w : Word) :
    s.wpdCfg t w = s.meterRestart t (RXCH_WPD_CFG t) w (RXCH_WPD_RESULT t) RXCH_WPD_RESULT_VALID (State.freshWpd t) := rfl

section
variable {s u : State} {t : Nat} (hnow : u.now = s.now) (horigins : u.origins = s.origins)
include hnow horigins

theorem State.freshPm_congr : State.freshPm t u = State.freshPm t s := by
  funext p
  simp only [State.freshPm, State.sampleAt, State.origin, hnow, horigins]
theorem State.freshWpd_congr : State.freshWpd t u = State.freshWpd t s := by
  funext p
  simp only [State.freshWpd, State.origin, hnow, horigins]
end

section
variable (s : State) (t cfg : Nat) (w : Word) {result : Nat → Nat} {valid : Fld} {g : State → RxPath → RxPath}

/-- Each path takes the change, and its result is not valid. -/
theorem State.meterRestart_path (hresult : ∀ i j, result i = result j → i = j) (hfits : valid.lo + valid.width ≤ 32) (hone : valid.width = 1)
    (hg : ∀ u v : State, u.now = v.now → u.origins = v.origins → g u = g v) {i : Nat} (hi : i < 16) :
    ((s.meterRestart t cfg w result valid g).rxPath (pathKey t i) = g s (s.rxPath (pathKey t i))) ∧
      (s.meterRestart t cfg w result valid g).bit (result i) valid = false := by
  have hwrite := s.plainWrite_frame cfg w
  refine State.each_visit (P := fun u => u.rxPath (pathKey t i) = s.rxPath (pathKey t i) ∧ u.now = s.now ∧ u.origins = s.origins)
    (Q := fun u => u.rxPath (pathKey t i) = g s (s.rxPath (pathKey t i)) ∧ u.bit (result i) valid = false)
    List.nodup_range (List.mem_range.2 hi) (fun u j hj hP => ?before) (fun u hP => ?visit) (fun u j hj hQ => ?after) ?start
  case start =>
    exact ⟨hwrite.field (·.rxPath (pathKey t i)) fun _ => rfl, hwrite.field (·.now) fun _ => rfl, hwrite.field (·.origins) fun _ => rfl⟩
  case before =>
    obtain ⟨hpath, hnow, horigins⟩ := hP
    exact ⟨((u.rxPath_modRxPath ..).trans (if_neg (mt pathKey_inj.1 (Ne.symm hj)))).trans hpath, hnow, horigins⟩
  case visit =>
    obtain ⟨hpath, hnow, horigins⟩ := hP
    refine ⟨(u.rxPath_modRxPath ..).trans ((if_pos rfl).trans ?_), State.bit_setBit _ _ _ _ hfits hone⟩
    rw [hg u s hnow horigins, hpath]
  case after =>
    obtain ⟨hpath, hbit⟩ := hQ
    refine ⟨((u.rxPath_modRxPath ..).trans (if_neg (mt pathKey_inj.1 (Ne.symm hj)))).trans hpath, ?_⟩
    exact (congrArg (· != 0) (State.fld_setFld_ne _ _ _ _ fun h => hj (hresult _ _ h).symm)).trans hbit

theorem State.meterRestart_frame : ChainFrame true (cfg :: (List.range 16).map result) s (s.meterRestart t cfg w result valid g) := by
  have hwrite : ChainFrame true (cfg :: (List.range 16).map result) s (s.plainWrite cfg w) :=
    ((Frame.refl _ s).plainWrite _ _ (List.mem_cons_self ..)).chain true
  refine State.each_keeps_mem (P := ChainFrame true _ s) (fun _ i hi hv => ?_) hwrite
  exact (hv.modRxPath _ _).setBit _ _ _ (List.mem_cons_of_mem _ (mem_eachPath (List.mem_range.1 hi)))
end

/-! ### The statement -/

/-- Settles O15: each write goes to a register that answers; what it sets is read carrier by carrier and path by path. -/
theorem receiveWrites : Obligations.ReceiveWrites := by
  intro s t w
  refine ⟨rxRfHi_configure, fun hans hmode => ?rfElse, fun hans => ?nco, fun hans => ?filt, fun hans => ?zone, fun hans pm => ?arm,
    fun hans => ?pm, fun hans => ?wpd⟩
  case rfElse =>
    refine .of_guarded (exec_rxRfHiWrite t w s) hans ?_
    rw [show s.rxRfHi t w = s.accessError from State.configOnly_not hmode]
    exact ⟨(Frame.refl [] s).accessError.settle, (State.stored_settle ..).trans s.stored_accessError⟩
  case nco =>
    refine .of_guarded (exec_rxCarNcoHiWrite t w s) hans ⟨fun k => ?_, ?_⟩
    · have hwrite : (s.plainWrite (RXCH_CAR_NCO_HI t) w).rxCar k = s.rxCar k := (s.plainWrite_frame _ w).field (·.rxCar k) fun _ => rfl
      rw [State.settle_rxCar, State.rxNcoHi, State.recheckRx_tw, State.tuneRx_tw, hwrite]
    · have hwrite : ChainFrame true [RXCH_CAR_NCO_HI t, RXCH_STATUS t] s (s.plainWrite (RXCH_CAR_NCO_HI t) w) :=
        ((Frame.refl _ s).plainWrite _ _ (by simp)).chain true
      exact ((hwrite.tuneRx _ _ _ _).recheckRx (by simp)).keeps.settle
  case filt =>
    refine .of_guarded (exec_rxCarFiltWrite t w s) hans ⟨fun k => ?_, ?_⟩
    · rw [State.settle_rxCar]
      exact (State.recheckRx_filt ..).trans (State.filterRx_filt ..)
    · exact (((ChainFrame.refl ..).filterRx _ _ _ _ _).recheckRx (List.mem_singleton_self _)).keeps.settle
  case zone =>
    obtain ⟨hapart, hevent⟩ := rxchZone_apart t
    have hcheck : ((s.zonesSet t w).recheckRx t).reg (RXCH_ZONE t) = (s.zonesSet t w).reg (RXCH_ZONE t) :=
      ((ChainFrame.refl true [RXCH_STATUS t] _).recheckRx (List.mem_singleton_self _)).reg _ hapart hevent
    refine .of_guarded (exec_rxZoneWrite t w s) hans ⟨?_, ((s.zonesSet_frame t w).recheckRx (by simp)).keeps.settle⟩
    rw [State.fld_settle, ← s.zonesSet_fld t w]
    exact congrArg (getF · RXCH_ZONE_Z) hcheck
  case arm =>
    refine .of_guarded (exec_rxTrimArmWrite t pm s) hans ⟨fun i hi B => ?_, fun i hi => ?_, (s.rxTrimArm_frame t pm).keeps.settle⟩
    · rw [State.settle_rxPath, State.rxTrimArm_rxPath, if_pos hi, RxPath.mem_arm]
    · rw [State.settle_rxPath, State.rxTrimArm_rxPath, if_neg (Bool.eq_false_iff.1 hi)]
  case pm =>
    refine .of_guarded (exec_pmCfgWrite_pm t w s) hans ⟨fun i => ?_, (s.meterRestart_frame t (RXCH_PM_CFG t) w).keeps.settle⟩
    obtain ⟨hpath, hbit⟩ := s.meterRestart_path t (RXCH_PM_CFG t) w (result := RXCH_PM_RESULT t) (valid := RXCH_PM_RESULT_VALID)
      (fun i j h => by simp only [RXCH_PM_RESULT] at h; omega) (by decide) rfl (fun _ _ => State.freshPm_congr) i.2
    exact ⟨congrArg RxPath.pm ((State.settle_rxPath ..).trans hpath), (State.bit_settle ..).trans hbit⟩
  case wpd =>
    refine .of_guarded (exec_pmCfgWrite_wpd t w s) hans ⟨fun i => ?_, (s.meterRestart_frame t (RXCH_WPD_CFG t) w).keeps.settle⟩
    obtain ⟨hpath, hbit⟩ := s.meterRestart_path t (RXCH_WPD_CFG t) w (result := RXCH_WPD_RESULT t) (valid := RXCH_WPD_RESULT_VALID)
      (fun i j h => by simp only [RXCH_WPD_RESULT] at h; omega) (by decide) rfl (fun _ _ => State.freshWpd_congr) i.2
    exact ⟨congrArg RxPath.wpd ((State.settle_rxPath ..).trans hpath), (State.bit_settle ..).trans hbit⟩

end Sys2Proof.Machine
end

section
/-!
PROOFS. Gain in time (R118 to R120): an armed code at its boundary, the decisions of gain control.
-/
namespace Sys2Proof.Machine
open Reg F

theorem exec_gainBoundaryApply (t : Fin 4) (i : Fin 16) (s : State) : exec (.gainBoundaryApply t i) s = done (s.gainApply t i) := rfl
theorem exec_agcDecision (t : Fin 4) (i : Fin 16) (s : State) : exec (.agcDecision t i) s = done (s.agcDecision t i) := rfl

section
variable (s : State)
/-- A reading of a path that a change of the path sets, and one that it keeps. -/
theorem State.modRxPath_sets {β : Type} {π : RxPath → β} {f : RxPath → RxPath} {v : β} (hf : ∀ p, π (f p) = v) (k : Nat) : π ((s.modRxPath k f).rxPath k) = v := by
  rw [State.rxPath_modRxPath, if_pos rfl, hf]
theorem State.modRxPath_leaves {β : Type} {π : RxPath → β} {f : RxPath → RxPath} (hf : ∀ p, π (f p) = π p) (k j : Nat) :
    π ((s.modRxPath k f).rxPath j) = π (s.rxPath j) := by
  rw [State.rxPath_modRxPath]
  split
  · next h => rw [hf, h]
  · rfl
end

/-! ### A code at its boundary (R118) -/

section
variable (s : State) (t i : Nat) (code : BitVec 6)

/-- The external change starts, and the compensation that follows STEP_SETTLE later is known. -/
def State.stepStart : State :=
  (s.sendCode t i code).modRxPath (pathKey t i) fun p =>
    { p with gain := none, comps := compsAfter p.comps (BitVec.ofNat 6 (s.fld (RXCH_STEP_CFG t i) RXCH_STEP_CFG_CODE))
                                      (s.now + s.fld (RXCH_GAINCFG t) RXCH_GAINCFG_STEP_SETTLE) code }

/-- What a step that starts now marks on the carriers of its path. -/
def State.stepMarks : State :=
  s.each cars fun u c =>
    if !(u.rxCfg t c).en then u
    else if (u.rxCfg t c).timeDomain then u.markStep t i c u.now
    else if u.stepFits t i c u.tb.toNat then u
    else (u.markStep t i c u.now).raise (Ev.RX_GAIN_CP_OVERRUN t)

theorem State.stepApply_eq : s.stepApply t i code = (s.stepStart t i code).stepMarks t i := rfl

theorem State.stepMarks_keeps {P : State → Prop} (hmark : ∀ u c T, P u → P (u.markStep t i c T)) (hraise : ∀ u e, P u → P (u.raise e))
    (hs : P s) : P (s.stepMarks t i) := by
  refine State.each_keeps (P := P) (fun u c hu => ?_) _ hs
  split
  · exact hu
  · split
    · exact hmark _ _ _ hu
    · split
      · exact hu
      · exact hraise _ _ (hmark _ _ _ hu)

theorem State.stepMarks_rxPath (k : Nat) : (s.stepMarks t i).rxPath k = s.rxPath k := by
  refine s.stepMarks_keeps t i (P := fun u => u.rxPath k = s.rxPath k) (fun _ _ _ h => h) (fun u e h => ?_) rfl
  rw [State.rxPath, State.raise_rxPaths]
  exact h

theorem State.stepApply_rxPath : ((s.stepApply t i code).rxPath (pathKey t i)).gain = none ∧
    ((s.stepApply t i code).rxPath (pathKey t i)).comps.head? = some (s.now + s.fld (RXCH_GAINCFG t) RXCH_GAINCFG_STEP_SETTLE, code) := by
  rw [State.stepApply_eq, State.stepMarks_rxPath]
  exact ⟨State.modRxPath_sets _ (π := RxPath.gain) (fun _ => rfl) _, State.modRxPath_sets _ (π := fun p => p.comps.head?) (fun _ => rfl) _⟩
end

section
variable {l : List Nat} {s u : State}

theorem ChainFrame.stepMarks (h : ChainFrame true l s u) (t i : Nat) : ChainFrame true l s (u.stepMarks t i) :=
  u.stepMarks_keeps t i (P := ChainFrame true l s) (fun _ c T hv => hv.markRx t i c T _) (fun _ e hv => hv.raise e) h

theorem ChainFrame.stepApply (h : ChainFrame true l s u) (t i : Nat) (code : BitVec 6) (hi : RXCH_STEP_CFG t i ∈ l) :
    ChainFrame true l s (u.stepApply t i code) :=
  ((h.sendCode t i code hi).modRxPath _ _).stepMarks t i

/-- A code that starts at its boundary: where a GAIN armed it, it strikes a burst (R203). -/
def State.gainStarts (s : State) (t i : Nat) (g : GainPend) : State :=
  let u := s.stepApply t i g.code
  if g.byAgc then u else u.calHit t i fun b => b.measures true u.now

theorem State.gainApply_armed {t i : Nat} {g : GainPend} {B : Nat} (h : (s.rxPath (pathKey t i)).gain = some (g, B)) :
    s.gainApply t i = (s.advanceTb B).gainStarts t i g := by
  unfold State.gainApply
  rw [h]
  rfl

theorem State.gainStarts_rxPath (s : State) (t i : Nat) (g : GainPend) (k : Nat) :
    (s.gainStarts t i g).rxPath k = (s.stepApply t i g.code).rxPath k := by
  unfold State.gainStarts
  dsimp only
  split <;> rfl

theorem ChainFrame.gainStarts (h : ChainFrame true l s u) (t i : Nat) (g : GainPend) (hi : RXCH_STEP_CFG t i ∈ l) :
    ChainFrame true l s (u.gainStarts t i g) := by
  unfold State.gainStarts
  dsimp only
  split
  · exact h.stepApply t i _ hi
  · exact (h.stepApply t i _ hi).calHit _ _ _
end

theorem eventReg_rxStepCfg (t : Fin 4) (i : Fin 16) : eventReg (RXCH_STEP_CFG t i) = false := by
  revert t i
  decide

/-- The code in force is the one that started. -/
theorem State.gainStarts_code (s : State) (t : Fin 4) (i : Fin 16) (g : GainPend) :
    (s.gainStarts t i g).fld (RXCH_STEP_CFG t i) RXCH_STEP_CFG_CODE = g.code.toNat := by
  have hmarks : (s.stepApply t i g.code).reg (RXCH_STEP_CFG t i) = (s.stepStart t i g.code).reg (RXCH_STEP_CFG t i) :=
    ((ChainFrame.refl true [] _).stepMarks t i).reg _ (by simp) (eventReg_rxStepCfg t i)
  have hhit : (s.gainStarts t i g).reg (RXCH_STEP_CFG t i) = (s.stepApply t i g.code).reg (RXCH_STEP_CFG t i) := by
    unfold State.gainStarts
    dsimp only
    split <;> rfl
  have hsent : (s.stepStart t i g.code).reg (RXCH_STEP_CFG t i) = _ := s.sendCode_reg t i g.code _
  rw [State.fld, hhit, hmarks, hsent, ← State.fld, State.fld_setFld _ _ _ _ (by decide)]
  exact Nat.mod_eq_of_lt g.code.isLt

/-- An armed code starts at its boundary, its compensation STEP_SETTLE later. -/
theorem gainBoundary_armed {s : State} {t : Fin 4} {i : Fin 16} {g : GainPend} {B : Nat} (h : (s.rxPath (pathKey t i)).gain = some (g, B)) :
    Answers (.gainBoundaryApply t i) s fun u =>
      u.fld (RXCH_STEP_CFG t i) RXCH_STEP_CFG_CODE = g.code.toNat ∧ (u.rxPath (pathKey t i)).gain = none ∧
      (u.rxPath (pathKey t i)).comps.head? = some ((s.advanceTb B).now + s.fld (RXCH_GAINCFG t) RXCH_GAINCFG_STEP_SETTLE, g.code) ∧
      Keeps [RXCH_STEP_CFG t i] s u := by
  obtain ⟨hgain, hcomps⟩ := (s.advanceTb B).stepApply_rxPath t i g.code
  refine .of_done ((exec_gainBoundaryApply t i s).trans (congrArg done (State.gainApply_armed h))) ⟨?_, ?_, ?_, ?_⟩
  · rw [State.fld_settle, State.gainStarts_code]
  · rw [State.settle_rxPath, State.gainStarts_rxPath, hgain]
  · rw [State.settle_rxPath, State.gainStarts_rxPath, hcomps, State.advanceTb_fld]
  · exact (((Keeps.refl _ s).advanceTb B).trans ((ChainFrame.refl ..).gainStarts t i g (List.mem_singleton_self _)).keeps).settle

/-! ### Gain control (R119, R120) -/

section
variable (s : State) (t i next : Nat)

/-- A boundary is judged. -/
def State.agcSeen : State := s.modRxPath (pathKey t i) fun p => { p with decided := s.now }
/-- The count of boundaries below LOW starts anew. -/
def State.agcRest : State := (s.agcSeen t i).modRxPath (pathKey t i) fun p => { p with hold := 0 }

/-- A GAIN is armed on a path for a boundary. -/
def RxPath.gainTakes (p : RxPath) (B : Nat) : Bool := match p.gain with | some (g, b) => !g.byAgc && b == B | none => false

/-- A decision for a code: nothing where it is in force already, or where a GAIN takes its boundary (R120). -/
def State.agcChange (v : Nat) : State :=
  if v = s.fld (RXCH_STEP_CFG t i) RXCH_STEP_CFG_CODE || (s.rxPath (pathKey t i)).gainTakes next then s.agcRest t i
  else (s.agcRest t i).stepArm t i (BitVec.ofNat 6 v) true next

/-- The decision of a path at a boundary, for the boundary `next`. -/
def State.agcJudge : State :=
  let W := signed 16 (s.fld (RXCH_WPD_RESULT t i) RXCH_WPD_RESULT_POWER)
  let cfg := RXCH_AGC_CFG t
  let step := max 1 (s.fld cfg RXCH_AGC_CFG_STEP)
  let code := s.fld (RXCH_STEP_CFG t i) RXCH_STEP_CFG_CODE
  if s.agcFrozen t i || !s.bit (RXCH_WPD_RESULT t i) RXCH_WPD_RESULT_VALID then s.agcSeen t i
  else if -256 * (s.fld cfg RXCH_AGC_CFG_HIGH : Int) < W then s.agcChange t i next (min 63 (code + step))
  else if W < -256 * (s.fld cfg RXCH_AGC_CFG_LOW : Int) then
    if max 1 (s.fld cfg RXCH_AGC_CFG_HOLD) ≤ (s.rxPath (pathKey t i)).hold + 1 then s.agcChange t i next (code - step)
    else (s.agcSeen t i).modRxPath (pathKey t i) fun p => { p with hold := p.hold + 1 }
  else s.agcRest t i

/-- Where no change is due by the boundary `b` of the reference carrier, gain control judges there. -/
theorem State.agcDecision_eq {s : State} {t i c : Nat} (hc : s.refCar t = some c) (hen : s.maskBit (RXCH_AGC_EN t) RXCH_AGC_EN_PMASK i = true)
    (hruns : s.rxRuns t i = true) :
    let b := s.rxBoundary t (s.rxCfg t c) (max s.tb.toNat (s.tbAt (s.rxPath (pathKey t i)).decided + 1))
    (∀ g B, (s.rxPath (pathKey t i)).gain = some (g, B) → b < B) →
      s.agcDecision t i = (s.advanceTb b).agcJudge t i ((s.advanceTb b).rxBoundary t (s.rxCfg t c) (b + 1)) := by
  intro b hlater
  unfold State.agcDecision
  rw [hc]
  refine (if_neg (by simp [hen, hruns])).trans ?_
  extract_lets k p b' v w
  have hw : w = v := by
    unfold w
    split
    · next g B h => exact if_neg (Nat.not_le.2 (hlater g B h))
    · rfl
  exact congrArg (fun u : State => u.agcJudge t i (u.rxBoundary t k (b' + 1))) hw

theorem State.agcChange_keeps {P : State → Prop} (hrest : P (s.agcRest t i)) (harm : ∀ u code, P u → P (u.stepArm t i code true next)) (v : Nat) :
    P (s.agcChange t i next v) := by
  unfold State.agcChange
  split
  · exact hrest
  · exact harm _ _ hrest

/-- What a decision keeps: all that the note of the boundary, a change of the count, and a step armed keep. -/
theorem State.agcJudge_keeps {P : State → Prop} (hseen : P (s.agcSeen t i))
    (hhold : ∀ u (f : RxPath → Nat), P u → P (u.modRxPath (pathKey t i) fun p => { p with hold := f p }))
    (harm : ∀ u code, P u → P (u.stepArm t i code true next)) : P (s.agcJudge t i next) := by
  have hrest : P (s.agcRest t i) := hhold _ _ hseen
  unfold State.agcJudge
  dsimp only
  split
  · exact hseen
  · split
    · exact s.agcChange_keeps t i next hrest harm _
    · split
      · split
        · exact s.agcChange_keeps t i next hrest harm _
        · exact hhold _ _ hseen
      · exact hrest

theorem State.agcJudge_decided : ((s.agcJudge t i next).rxPath (pathKey t i)).decided = s.now := by
  refine s.agcJudge_keeps t i next (P := fun u => (u.rxPath (pathKey t i)).decided = s.now) ?_ (fun u n h => ?_) (fun u code h => ?_)
  · exact s.modRxPath_sets (π := RxPath.decided) (fun _ => rfl) _
  · exact (u.modRxPath_leaves (π := RxPath.decided) (fun _ => by rfl) _ _).trans h
  · unfold State.stepArm
    exact (u.modRxPath_leaves (π := RxPath.decided) (fun _ => by rfl) _ _).trans h

theorem State.agcJudge_frame : ChainFrame true [] s (s.agcJudge t i next) :=
  s.agcJudge_keeps t i next (P := ChainFrame true [] s) ((ChainFrame.refl ..).modRxPath _ _) (fun _ _ h => h.modRxPath _ _)
    (fun _ code h => h.stepArm t i code true next 6)

variable {s t i next}

/-- With no change armed, a decision for another code arms it. -/
theorem State.agcChange_gain (hgain : (s.rxPath (pathKey t i)).gain = none) {v : Nat}
    (hv : v ≠ s.fld (RXCH_STEP_CFG t i) RXCH_STEP_CFG_CODE) :
    ((s.agcChange t i next v).rxPath (pathKey t i)).gain = some (⟨BitVec.ofNat 6 v, true, 6⟩, next) := by
  have hfree : (s.rxPath (pathKey t i)).gainTakes next = false := by rw [RxPath.gainTakes, hgain]
  rw [State.agcChange, if_neg (by simp [hv, hfree]), State.stepArm_gain, if_pos rfl]

section
variable (hfrozen : s.agcFrozen t i = false) (hvalid : s.bit (RXCH_WPD_RESULT t i) RXCH_WPD_RESULT_VALID = true)
include hfrozen hvalid

/-- Above HIGH. -/
theorem State.agcJudge_above
    (h : -256 * (s.fld (RXCH_AGC_CFG t) RXCH_AGC_CFG_HIGH : Int) < signed 16 (s.fld (RXCH_WPD_RESULT t i) RXCH_WPD_RESULT_POWER)) :
    s.agcJudge t i next = s.agcChange t i next
      (min 63 (s.fld (RXCH_STEP_CFG t i) RXCH_STEP_CFG_CODE + max 1 (s.fld (RXCH_AGC_CFG t) RXCH_AGC_CFG_STEP))) := by
  unfold State.agcJudge
  dsimp only
  rw [if_neg (by simp [hfrozen, hvalid]), if_pos h]

/-- Below LOW for HOLD boundaries. -/
theorem State.agcJudge_below
    (hhigh : signed 16 (s.fld (RXCH_WPD_RESULT t i) RXCH_WPD_RESULT_POWER) ≤ -256 * (s.fld (RXCH_AGC_CFG t) RXCH_AGC_CFG_HIGH : Int))
    (hlow : signed 16 (s.fld (RXCH_WPD_RESULT t i) RXCH_WPD_RESULT_POWER) < -256 * (s.fld (RXCH_AGC_CFG t) RXCH_AGC_CFG_LOW : Int))
    (hhold : max 1 (s.fld (RXCH_AGC_CFG t) RXCH_AGC_CFG_HOLD) ≤ (s.rxPath (pathKey t i)).hold + 1) :
    s.agcJudge t i next = s.agcChange t i next
      (s.fld (RXCH_STEP_CFG t i) RXCH_STEP_CFG_CODE - max 1 (s.fld (RXCH_AGC_CFG t) RXCH_AGC_CFG_STEP)) := by
  unfold State.agcJudge
  dsimp only
  rw [if_neg (by simp [hfrozen, hvalid]), if_neg (not_lt.2 hhigh), if_pos hlow, if_pos hhold]
end
end

section
variable (s : State) (n : Nat)
theorem State.advanceTb_bit (a : Nat) (f : Fld) : (s.advanceTb n).bit a f = s.bit a f := s.advanceTb_field (·.bit a f) fun _ _ => rfl
theorem State.advanceTb_rxBoundary (t : Nat) (k : Carcfg) (tick : Nat) : (s.advanceTb n).rxBoundary t k tick = s.rxBoundary t k tick :=
  s.advanceTb_field (·.rxBoundary t k tick) fun _ _ => rfl
end

/-- The decisions of gain control at the next boundary of the reference carrier. -/
theorem agcDecision_at_boundary {s : State} {t : Fin 4} {i : Fin 16} {c : Nat} (hc : s.refCar t = some c)
    (hen : s.maskBit (RXCH_AGC_EN t) RXCH_AGC_EN_PMASK i = true) (hruns : s.rxRuns t i = true) :
    let p := s.rxPath (pathKey t i)
    let b := s.rxBoundary t (s.rxCfg t c) (max s.tb.toNat (s.tbAt p.decided + 1))
    let next := s.rxBoundary t (s.rxCfg t c) (b + 1)
    let W := signed 16 (s.fld (RXCH_WPD_RESULT t i) RXCH_WPD_RESULT_POWER)
    let step := max 1 (s.fld (RXCH_AGC_CFG t) RXCH_AGC_CFG_STEP)
    let code := s.fld (RXCH_STEP_CFG t i) RXCH_STEP_CFG_CODE
    let judges := p.gain = none ∧ (s.advanceTb b).agcFrozen t i = false ∧ s.bit (RXCH_WPD_RESULT t i) RXCH_WPD_RESULT_VALID = true
    ((∀ g B, p.gain = some (g, B) → b < B) →
      Answers (.agcDecision t i) s fun u => (u.rxPath (pathKey t i)).decided = (s.advanceTb b).now ∧ Keeps [] s u) ∧
    (judges → -256 * (s.fld (RXCH_AGC_CFG t) RXCH_AGC_CFG_HIGH : Int) < W → min 63 (code + step) ≠ code → Answers (.agcDecision t i) s fun u =>
      (u.rxPath (pathKey t i)).gain = some (⟨BitVec.ofNat 6 (min 63 (code + step)), true, 6⟩, next)) ∧
    (judges → W ≤ -256 * (s.fld (RXCH_AGC_CFG t) RXCH_AGC_CFG_HIGH : Int) → W < -256 * (s.fld (RXCH_AGC_CFG t) RXCH_AGC_CFG_LOW : Int) →
      max 1 (s.fld (RXCH_AGC_CFG t) RXCH_AGC_CFG_HOLD) ≤ p.hold + 1 → code - step ≠ code → Answers (.agcDecision t i) s fun u =>
      (u.rxPath (pathKey t i)).gain = some (⟨BitVec.ofNat 6 (code - step), true, 6⟩, next)) := by
  intro p b next W step code judges
  have hnext : (s.advanceTb b).rxBoundary t (s.rxCfg t c) (b + 1) = next := s.advanceTb_rxBoundary ..
  have hrun : (∀ g B, p.gain = some (g, B) → b < B) → exec (.agcDecision t i) s = done ((s.advanceTb b).agcJudge t i next) := fun hlater =>
    (exec_agcDecision t i s).trans (congrArg done (hnext ▸ State.agcDecision_eq hc hen hruns hlater))
  have hnothing : p.gain = none → ∀ g B, p.gain = some (g, B) → b < B := fun h g B h' => by simp [h] at h'
  have hpath : (s.advanceTb b).rxPath (pathKey t i) = p := s.advanceTb_rxPath ..
  refine ⟨fun hlater => ?seen, fun ⟨hgain, hfrozen, hvalid⟩ habove hcode => ?above, fun ⟨hgain, hfrozen, hvalid⟩ hhigh hlow hhold hcode => ?below⟩
  case seen =>
    refine .of_done (hrun hlater) ⟨?_, (((Keeps.refl _ s).advanceTb b).trans (State.agcJudge_frame ..).keeps).settle⟩
    rw [State.settle_rxPath, State.agcJudge_decided]
  case above =>
    refine .of_done (hrun (hnothing hgain)) ?_
    rw [State.settle_rxPath, State.agcJudge_above hfrozen (by rwa [State.advanceTb_bit]) (by simpa only [State.advanceTb_fld] using habove),
      State.agcChange_gain (hpath ▸ hgain) (by simpa only [State.advanceTb_fld] using hcode)]
    simp only [State.advanceTb_fld, code, step]
  case below =>
    refine .of_done (hrun (hnothing hgain)) ?_
    rw [State.settle_rxPath, State.agcJudge_below hfrozen (by rwa [State.advanceTb_bit]) (by simpa only [State.advanceTb_fld] using hhigh)
      (by simpa only [State.advanceTb_fld] using hlow) (by simpa only [State.advanceTb_fld, hpath] using hhold),
      State.agcChange_gain (hpath ▸ hgain) (by simpa only [State.advanceTb_fld] using hcode)]
    simp only [State.advanceTb_fld, code, step]

end Sys2Proof.Machine
end

section
/-!
PROOFS. Powers and saturated samples of the receive chain (R101, R121, R122).
-/
namespace Sys2Proof.Machine
open Reg F

theorem exec_powerBlockResult (t : Fin 4) (i : Fin 16) (wide : Bool) (s : State) : exec (.powerBlockResult t i wide) s = done (s.powerBlock t i wide) := rfl

/-! ### Saturated samples (R101) -/

/-- The registers that count saturated samples of the receive paths of a tile. -/
def rxClipRegs (t : Nat) : List Nat := RXCH_CNT_FLAGS t :: (List.range 16).map fun i => RXCH_CLIP_COUNT t i

/-- What an event cannot change. -/
theorem State.EventOf.field {s u : State} (h : s.EventOf u) {α : Type} (m : State → α)
    (hm : ∀ (x : State) r g q l, m { x with regs := r, glides := g, logQ := q, loggedAts := l } = m x) : m u = m s := by
  obtain ⟨_, _, _, _, rfl⟩ := h
  exact hm ..

section
variable (s : State) (t i : Nat)

theorem State.rxClips_event (n : Nat) : s.EventOf (s.rxClips t i n) := by
  unfold State.rxClips
  split
  · exact .refl s
  · exact (s.bump_event ..).trans (State.raise_event ..)

/-- What counting the samples of a path up to now keeps. -/
theorem State.countRx_keeps {P : State → Prop} (hpath : ∀ u n, P u → P (u.modRxPath (pathKey t i) fun p => { p with counted := n }))
    (hcar : ∀ u k f, P u → P (u.modRxCar k f)) (hclips : ∀ u n, P u → P (u.rxClips t i n)) (hs : P s) : P (s.countRx t i) := by
  unfold State.countRx
  split
  · exact hs
  · refine State.each_keeps (P := P) (fun u c hu => ?_) _ (hclips _ _ (hpath _ _ hs))
    dsimp only
    split
    · exact hclips _ _ (hcar _ _ _ hu)
    · exact hu

/-- The meters of a path stay while its samples are counted. -/
theorem State.countRx_meters (k : Nat) :
    (((s.countRx t i).rxPath k).pm, ((s.countRx t i).rxPath k).wpd) = ((s.rxPath k).pm, (s.rxPath k).wpd) := by
  refine s.countRx_keeps t i (P := fun u => ((u.rxPath k).pm, (u.rxPath k).wpd) = ((s.rxPath k).pm, (s.rxPath k).wpd))
    (fun u n h => ?_) (fun _ _ _ h => h) (fun u n h => ?_) rfl
  · exact (u.modRxPath_leaves (π := fun p => (p.pm, p.wpd)) (fun _ => by rfl) _ _).trans h
  · exact ((u.rxClips_event t i n).field (fun x => ((x.rxPath k).pm, (x.rxPath k).wpd)) fun _ _ _ _ _ => rfl).trans h
end

section
variable {s u : State} {t i : Nat} (hi : i < 16)
include hi

theorem ChainFrame.rxClips (h : ChainFrame true (rxClipRegs t) s u) (n : Nat) : ChainFrame true (rxClipRegs t) s (u.rxClips t i n) := by
  unfold State.rxClips
  split
  · exact h
  · exact (h.bump _ _ _ _ (List.mem_cons_of_mem _ (mem_eachPath hi)) (List.mem_cons_self ..)).raise _

theorem ChainFrame.countRx (h : ChainFrame true (rxClipRegs t) s u) : ChainFrame true (rxClipRegs t) s (u.countRx t i) :=
  u.countRx_keeps t i (P := ChainFrame true (rxClipRegs t) s) (fun _ _ hv => hv.modRxPath _ _) (fun _ k f hv => hv.modRxCar k f)
    (fun _ n hv => hv.rxClips hi n) h
end

/-- The results of the measurements are no counters, nor is CAP_STAT. -/
theorem rxClipRegs_apart (t : Fin 4) (i : Fin 16) : (RXCH_PM_RESULT t i ∉ rxClipRegs t ∧ eventReg (RXCH_PM_RESULT t i) = false) ∧
    RXCH_WPD_RESULT t i ∉ rxClipRegs t ∧ eventReg (RXCH_WPD_RESULT t i) = false := by
  revert t i
  decide

/-! ### Results shown (R121) -/

section
variable (s : State) (a blk sum n avg full : Nat)

theorem State.showPower_frame : Frame [a] s (s.showPower a blk sum n avg full) :=
  (((Frame.refl _ s).setFld a _ _ (by simp)).setFld a _ _ (by simp)).setFld a _ _ (by simp)

/-- POWER shows the mean, FRESH is set, VALID tells whether the averager is full. -/
theorem State.showPower_shows : (s.showPower a blk sum n avg full).fld a ⟨0, 16⟩ = unsigned 16 (decibels 256 sum (n * 2 ^ (blk + full))) ∧
    (s.showPower a blk sum n avg full).bit a ⟨30, 1⟩ = true ∧ (s.showPower a blk sum n avg full).bit a ⟨31, 1⟩ = (n == 2 ^ min avg 8) := by
  let u := s.setFld a ⟨0, 16⟩ (unsigned 16 (decibels 256 sum (n * 2 ^ (blk + full))))
  refine ⟨?power, ?fresh, State.bit_setBit _ _ _ _ (by decide) rfl⟩
  case power =>
    have hlt : unsigned 16 (decibels 256 sum (n * 2 ^ (blk + full))) < 2 ^ 16 := by
      unfold unsigned
      omega
    refine (State.fld_setFld_apart _ _ _ _ _ (by decide) (by decide)).trans ((u.fld_setFld_apart _ _ _ _ (by decide) (by decide)).trans ?_)
    exact (s.fld_setFld _ _ _ (by decide)).trans (Nat.mod_eq_of_lt hlt)
  case fresh =>
    have hfresh : ((u.setFld a ⟨30, 1⟩ 1).setFld a ⟨31, 1⟩ (b2n (n == 2 ^ min avg 8))).fld a ⟨30, 1⟩ = 1 :=
      (State.fld_setFld_apart _ _ _ _ _ (by decide) (by decide)).trans (u.fld_setFld _ _ _ (by decide))
    exact congrArg (· != 0) hfresh

/-- A field that no result shows in stays. -/
theorem State.showPower_apart (g : Fld) (hlo : 16 ≤ g.lo) (hhi : g.lo + g.width ≤ 30) : (s.showPower a blk sum n avg full).fld a g = s.fld a g :=
  (State.fld_setFld_apart _ _ _ _ _ (by simp only; omega) (by omega)).trans
    ((State.fld_setFld_apart _ _ _ _ _ (by simp only; omega) (by omega)).trans (s.fld_setFld_apart _ _ _ _ (by simp only; omega) (by omega)))
end

/-- A new result of a measurement, where there is one, is shown. -/
def State.showResult (s : State) (a blk avg full : Nat) : Option (Nat × Nat) → State
  | some (sum, n) => s.showPower a blk sum n avg full
  | none => s

section
variable (s : State) (a blk avg full : Nat) (r : Option (Nat × Nat))

theorem State.showResult_frame : Frame [a] s (s.showResult a blk avg full r) := by
  cases r with
  | none => exact .refl _ s
  | some x => exact s.showPower_frame ..

theorem State.showResult_apart (g : Fld) (hlo : 16 ≤ g.lo) (hhi : g.lo + g.width ≤ 30) : (s.showResult a blk avg full r).fld a g = s.fld a g := by
  cases r with
  | none => rfl
  | some x => exact s.showPower_apart _ _ _ _ _ _ g hlo hhi
end

/-! ### The measurement on a carrier (R121) -/

theorem State.advance_fld (s : State) (n a : Nat) (f : Fld) : (s.advance n).fld a f = s.fld a f := by rw [State.fld, State.advance_reg, ← State.fld]

theorem State.powerBlock_pm {s : State} {t i : Nat} (h : s.rxRuns t i = true) : s.powerBlock t i false = (s.carrierBlock t i).countRx t i := by
  rw [State.powerBlock, if_neg (by simp [h])]
  rfl
theorem State.powerBlock_wide {s : State} {t i : Nat} (h : s.rxRuns t i = true) : s.powerBlock t i true = (s.wideBlock t i).countRx t i := by
  rw [State.powerBlock, if_neg (by simp [h])]
  rfl

/-- A block of valid samples that brings a new result. -/
theorem State.carrierBlock_result {s : State} {t i : Nat} :
    let c := s.fld (RXCH_PM_CFG t) RXCH_PM_CFG_SRC
    let m := (s.rxPath (pathKey t i)).pm
    let B := blkLog2 (s.fld (RXCH_PM_CFG t) RXCH_PM_CFG_BLK_LOG2)
    let avg := s.fld (RXCH_PM_CFG t) RXCH_PM_CFG_AVG_LOG2
    let ns := s.outputsFrom t i c (2 ^ B) m.next
    let last := ns.getLastD m.next
    let v := s.advance ((s.sampleTime t last + 14) / 15).toNat
    let block := (ns.map fun j => (v.carrierOut t i c j).norm2).sum
    ∀ {m' sum n}, c < 4 → (s.rxCfg t c).en = true → (∀ j ∈ ns, v.carrierValid t i c j = true) →
      m.step (s.fld (RXCH_PM_CFG t) RXCH_PM_CFG_WIN) (s.fld (RXCH_PM_CFG t) RXCH_PM_CFG_RANK) avg block = (m', some (sum, n)) →
      s.carrierBlock t i = (v.modRxPath (pathKey t i) fun p => { p with pm := { m' with next := last + 1 } }).showPower
        (RXCH_PM_RESULT t i) B sum n avg 30 := by
  intro c m B avg ns last v block m' sum n hc hen hvalid hstep
  have hinvalid : (ns.any fun j => !v.carrierValid t i c j) = false := by
    rw [List.any_eq_false]
    intro j hj
    simp [hvalid j hj]
  have hpair : (if (ns.any fun j => !v.carrierValid t i c j) = true then (m, none) else m.step (v.fld (RXCH_PM_CFG t) RXCH_PM_CFG_WIN)
      (v.fld (RXCH_PM_CFG t) RXCH_PM_CFG_RANK) (v.fld (RXCH_PM_CFG t) RXCH_PM_CFG_AVG_LOG2) block) = (m', some (sum, n)) := by
    rw [if_neg (Bool.eq_false_iff.1 hinvalid), s.advance_fld, s.advance_fld, s.advance_fld]
    exact hstep
  have havg : v.fld (RXCH_PM_CFG t) RXCH_PM_CFG_AVG_LOG2 = avg := s.advance_fld ..
  unfold State.carrierBlock
  refine (if_neg (by rw [hen]; simpa using hc)).trans ?_
  rw [← havg]
  exact congrArg (fun x : Meter × Option (Nat × Nat) => (v.modRxPath (pathKey t i) fun p => { p with pm := { x.1 with next := last + 1 } }).showResult
    (RXCH_PM_RESULT t i) B (v.fld (RXCH_PM_CFG t) RXCH_PM_CFG_AVG_LOG2) 30 x.2) hpair

/-- What is counted with a block changes only counters. -/
theorem Keeps.countRx {s v : State} {t : Nat} {i : Fin 16} {a : Nat} (h : Keeps (a :: rxClipRegs t) s v) :
    Keeps (a :: rxClipRegs t) s (v.countRx t i) :=
  h.trans (((ChainFrame.refl ..).countRx i.2).keeps.mono fun _ => List.mem_cons_of_mem a)

theorem State.countRx_result (v : State) {t : Fin 4} {i : Fin 16} {a : Nat} (ha : a ∉ rxClipRegs t) (he : eventReg a = false) :
    (v.countRx t i).settle.reg a = v.reg a := by
  rw [State.reg_settle, ((ChainFrame.refl true (rxClipRegs t) v).countRx i.2).reg a ha he]

/-- A block of valid samples enters the meter of its path and shows the result. -/
theorem carrierBlock_shown {s : State} {t : Fin 4} {i : Fin 16} :
    let c := s.fld (RXCH_PM_CFG t) RXCH_PM_CFG_SRC
    s.rxRuns t i = true → c < 4 → (s.rxCfg t c).en = true →
    let m := (s.rxPath (pathKey t i)).pm
    let B := blkLog2 (s.fld (RXCH_PM_CFG t) RXCH_PM_CFG_BLK_LOG2)
    let avg := s.fld (RXCH_PM_CFG t) RXCH_PM_CFG_AVG_LOG2
    let ns := s.outputsFrom t i c (2 ^ B) m.next
    let last := ns.getLastD m.next
    let v := s.advance ((s.sampleTime t last + 14) / 15).toNat
    let block := (ns.map fun j => (v.carrierOut t i c j).norm2).sum
    ∀ m' sum n, (∀ j ∈ ns, v.carrierValid t i c j = true) →
      m.step (s.fld (RXCH_PM_CFG t) RXCH_PM_CFG_WIN) (s.fld (RXCH_PM_CFG t) RXCH_PM_CFG_RANK) avg block = (m', some (sum, n)) →
      Answers (.powerBlockResult t i false) s fun u =>
        (u.rxPath (pathKey t i)).pm = { m' with next := last + 1 } ∧
        u.fld (RXCH_PM_RESULT t i) RXCH_PM_RESULT_POWER = unsigned 16 (decibels 256 sum (n * 2 ^ (B + 30))) ∧
        u.bit (RXCH_PM_RESULT t i) RXCH_PM_RESULT_FRESH = true ∧
        u.bit (RXCH_PM_RESULT t i) RXCH_PM_RESULT_VALID = (n == 2 ^ min avg 8) ∧ Keeps (RXCH_PM_RESULT t i :: rxClipRegs t) s u := by
  intro c hruns hc hen m B avg ns last v block m' sum n hvalid hstep
  obtain ⟨⟨hapart, hevent⟩, -⟩ := rxClipRegs_apart t i
  let x := v.modRxPath (pathKey t i) fun p => { p with pm := { m' with next := last + 1 } }
  have hrun : s.powerBlock t i false = (x.showPower (RXCH_PM_RESULT t i) B sum n avg 30).countRx t i :=
    (State.powerBlock_pm hruns).trans (congrArg (·.countRx t i) (State.carrierBlock_result hc hen hvalid hstep))
  have hreg := (x.showPower (RXCH_PM_RESULT t i) B sum n avg 30).countRx_result (i := i) hapart hevent
  obtain ⟨hpower, hfresh, hfull⟩ := x.showPower_shows (RXCH_PM_RESULT t i) B sum n avg 30
  have hshown := x.showPower_frame (RXCH_PM_RESULT t i) B sum n avg 30
  have hpm : ((x.showPower (RXCH_PM_RESULT t i) B sum n avg 30).rxPath (pathKey t i)).pm = { m' with next := last + 1 } :=
    (hshown.field (fun y => (y.rxPath (pathKey t i)).pm) fun _ => rfl).trans (v.modRxPath_sets (π := RxPath.pm) (fun _ => by rfl) _)
  refine .of_done ((exec_powerBlockResult t i false s).trans (congrArg done hrun)) ⟨?_, ?_, ?_, ?_, ?_⟩
  · rw [State.settle_rxPath]
    exact (congrArg Prod.fst (State.countRx_meters _ t i (pathKey t i))).trans hpm
  · exact (congrArg (getF · RXCH_PM_RESULT_POWER) hreg).trans hpower
  · exact (congrArg (bitF · RXCH_PM_RESULT_FRESH) hreg).trans hfresh
  · exact (congrArg (bitF · RXCH_PM_RESULT_VALID) hreg).trans hfull
  · have hmoved : ChainFrame true (RXCH_PM_RESULT t i :: rxClipRegs t) v x := (ChainFrame.refl ..).modRxPath _ _
    exact ((((Keeps.refl _ s).advance _).trans hmoved.keeps).trans (hshown.mono (by simp)).keeps).countRx.settle

/-! ### The wideband detector (R121, R122) -/

section
variable (s : State) (t i : Nat)

/-- The ADC samples of a block of 2^B from sample n on, and the largest magnitude among them. -/
def State.wideSamples (n : Int) (B : Nat) : List Int := (List.range (2 ^ B)).map fun (j : Nat) => s.adcSample t i (n + j)
def State.widePeak (n : Int) (B : Nat) : Nat := ((s.wideSamples t i n B).map Int.natAbs).foldl max 0

/-- The meter after a block of valid samples, or as it was after another. -/
def State.wideMeter (m : Meter) (B : Nat) : Meter × Option (Nat × Nat) :=
  if s.wideInvalid t i m.next (m.next + 2 ^ B) then (m, none)
  else m.step (s.fld (RXCH_WPD_CFG t) RXCH_WPD_CFG_WIN) (s.fld (RXCH_WPD_CFG t) RXCH_WPD_CFG_RANK) (s.fld (RXCH_WPD_CFG t) RXCH_WPD_CFG_AVG_LOG2)
    ((s.wideSamples t i m.next B).map fun x => x.natAbs ^ 2).sum

/-- The peak of a block shows; one above the threshold after one that was not is an overload (R122). -/
def State.widePeakShown (m : Meter) (B : Nat) : State :=
  let u := s.setFld (RXCH_WPD_RESULT t i) RXCH_WPD_RESULT_PEAK (min 8191 (s.widePeak t i m.next B))
  if decide (s.fld (RXCH_WPD_THRESH t) RXCH_WPD_THRESH_THRESH < s.widePeak t i m.next B) && !m.above then u.raise (Ev.RX_OVERLOAD t) else u

/-- The meter of a path goes on to the next block. -/
def State.wideMoved (m : Meter) (B : Nat) : State :=
  (s.widePeakShown t i m B).modRxPath (pathKey t i) fun p =>
    { p with wpd := { (s.wideMeter t i m B).1 with
                        above := decide (s.fld (RXCH_WPD_THRESH t) RXCH_WPD_THRESH_THRESH < s.widePeak t i m.next B), next := m.next + 2 ^ B } }

theorem State.wideBlock_eq :
    let m := (s.rxPath (pathKey t i)).wpd
    let B := blkLog2 (s.fld (RXCH_WPD_CFG t) RXCH_WPD_CFG_BLK_LOG2)
    let v := s.advance ((s.adcTime t (m.next + 2 ^ B - 1) + 14) / 15).toNat
    s.wideBlock t i = (v.wideMoved t i m B).showResult (RXCH_WPD_RESULT t i) B (v.fld (RXCH_WPD_CFG t) RXCH_WPD_CFG_AVG_LOG2) 25
      (v.wideMeter t i m B).2 := rfl

theorem State.wideMoved_next (m : Meter) (B : Nat) : ((s.wideMoved t i m B).rxPath (pathKey t i)).wpd.next = m.next + 2 ^ B :=
  State.modRxPath_sets _ (π := fun p => p.wpd.next) (fun _ => rfl) _
end

section
variable (s : State) (t : Fin 4) (i : Fin 16) (m : Meter) (B : Nat)

theorem State.wideMoved_peak : (s.wideMoved t i m B).fld (RXCH_WPD_RESULT t i) RXCH_WPD_RESULT_PEAK = min 8191 (s.widePeak t i m.next B) := by
  obtain ⟨-, -, hevent⟩ := rxClipRegs_apart t i
  have hshown : (s.setFld (RXCH_WPD_RESULT t i) RXCH_WPD_RESULT_PEAK (min 8191 (s.widePeak t i m.next B))).fld (RXCH_WPD_RESULT t i)
      RXCH_WPD_RESULT_PEAK = min 8191 (s.widePeak t i m.next B) :=
    (s.fld_setFld _ _ _ (by decide)).trans (Nat.mod_eq_of_lt (lt_of_le_of_lt (min_le_left ..) (by decide)))
  have hreg : (s.wideMoved t i m B).reg (RXCH_WPD_RESULT t i) = (s.widePeakShown t i m B).reg (RXCH_WPD_RESULT t i) := rfl
  rw [State.fld, hreg, ← State.fld]
  unfold State.widePeakShown
  dsimp only
  split
  · rw [State.fld_raise _ _ _ _ hevent, hshown]
  · exact hshown

theorem State.wideMoved_frame : ChainFrame true (RXCH_WPD_RESULT t i :: rxClipRegs t) s (s.wideMoved t i m B) := by
  have hpeak : ChainFrame true (RXCH_WPD_RESULT t i :: rxClipRegs t) s
      (s.setFld (RXCH_WPD_RESULT t i) RXCH_WPD_RESULT_PEAK (min 8191 (s.widePeak t i m.next B))) := (ChainFrame.refl ..).setReg _ _ (by simp)
  refine ChainFrame.modRxPath ?_ _ _
  unfold State.widePeakShown
  dsimp only
  split
  · exact hpeak.raise _
  · exact hpeak
end

/-- A wideband block shows its peak. -/
theorem wideBlock_shown {s : State} {t : Fin 4} {i : Fin 16} (hruns : s.rxRuns t i = true) :
    let m := (s.rxPath (pathKey t i)).wpd
    let B := blkLog2 (s.fld (RXCH_WPD_CFG t) RXCH_WPD_CFG_BLK_LOG2)
    let v := s.advance ((s.adcTime t (m.next + 2 ^ B - 1) + 14) / 15).toNat
    Answers (.powerBlockResult t i true) s fun u =>
      u.fld (RXCH_WPD_RESULT t i) RXCH_WPD_RESULT_PEAK =
        min 8191 (((List.range (2 ^ B)).map fun (j : Nat) => (v.adcSample t i (m.next + j)).natAbs).foldl max 0) ∧
      (u.rxPath (pathKey t i)).wpd.next = m.next + 2 ^ B ∧ Keeps (RXCH_WPD_RESULT t i :: rxClipRegs t) s u := by
  intro m B v
  obtain ⟨-, hapart, hevent⟩ := rxClipRegs_apart t i
  let avg := v.fld (RXCH_WPD_CFG t) RXCH_WPD_CFG_AVG_LOG2
  let r := (v.wideMeter t i m B).2
  let x := v.wideMoved t i m B
  have hrun : s.powerBlock t i true = (x.showResult (RXCH_WPD_RESULT t i) B avg 25 r).countRx t i :=
    (State.powerBlock_wide hruns).trans (congrArg (·.countRx t i) (s.wideBlock_eq t i))
  have hshown := x.showResult_frame (RXCH_WPD_RESULT t i) B avg 25 r
  have hreg := (x.showResult (RXCH_WPD_RESULT t i) B avg 25 r).countRx_result (i := i) hapart hevent
  have hpath : (x.showResult (RXCH_WPD_RESULT t i) B avg 25 r).rxPath (pathKey t i) = x.rxPath (pathKey t i) :=
    hshown.field (·.rxPath (pathKey t i)) fun _ => rfl
  have hpeak : v.widePeak t i m.next B = ((List.range (2 ^ B)).map fun (j : Nat) => (v.adcSample t i (m.next + j)).natAbs).foldl max 0 :=
    congrArg (List.foldl max 0) List.map_map
  refine .of_done ((exec_powerBlockResult t i true s).trans (congrArg done hrun)) ⟨?_, ?_, ?_⟩
  · rw [State.fld, hreg, ← State.fld, State.showResult_apart _ _ _ _ _ _ _ (by decide) (by decide), State.wideMoved_peak, hpeak]
  · rw [State.settle_rxPath]
    refine (congrArg (fun y : Meter × Meter => y.2.next) (State.countRx_meters _ t i (pathKey t i))).trans ?_
    dsimp only
    rw [hpath, State.wideMoved_next]
  · exact ((((Keeps.refl _ s).advance _).trans (v.wideMoved_frame t i m B).keeps).trans (hshown.mono (by simp)).keeps).countRx.settle

end Sys2Proof.Machine
end

section
/-!
PROOFS. Symbols of the receive chain (R101, R113, R114, R124, R406).
-/
namespace Sys2Proof.Machine
open Reg F

theorem exec_rxSymbolDeliver (t : Fin 4) (i : Fin 16) (c : Fin 4) (sym : Nat) (s : State) :
    exec (.rxSymbolDeliver t i c sym) s = done (s.rxDeliver t i c sym) := rfl

/-! ### The words of a symbol -/

/-- The words of a symbol reach the hub. -/
def State.wordsDelivered (s : State) (sym c path n : Nat) (word : Nat → Word) : State :=
  s.each (List.range n) fun u j => u.setPathWord (ulWordKey sym c path j) (some (word j))

section
variable (s : State) (sym c path n : Nat) (word : Nat → Word)

theorem State.wordsDelivered_word {j : Nat} (hj : j < n) : (s.wordsDelivered sym c path n word).pathWord (ulWordKey sym c path j) = some (word j) := by
  have hstep : ∀ u : State, ∀ x ∈ List.range n, True → (u.setPathWord (ulWordKey sym c path x) (some (word x))).pathWord (ulWordKey sym c path j) =
      if x = j then some (word j) else u.pathWord (ulWordKey sym c path j) := fun u x _ _ => by
    rw [State.pathWord_setPathWord]
    simp only [ulWordKey, Nat.add_left_cancel_iff, @eq_comm _ j x]
    split
    · next h => rw [h]
    · rfl
  exact (State.each_reading (I := fun _ => True) (r := fun u => u.pathWord (ulWordKey sym c path j)) (g := fun _ => some (word j)) (fun _ => rfl)
    (fun _ _ _ => trivial) hstep trivial).trans (if_pos ⟨j, List.mem_range.2 hj, rfl⟩)

/-- Words change the data of paths and nothing else. -/
theorem State.wordsDelivered_eq : ∃ d, s.wordsDelivered sym c path n word = { s with pathData := d } :=
  State.each_keeps (P := fun u => ∃ d, u = { s with pathData := d }) (fun u j h => by obtain ⟨_, rfl⟩ := h; exact ⟨_, rfl⟩) _
    ⟨s.pathData, rfl⟩

theorem State.wordsDelivered_pathMark (k : Nat) : (s.wordsDelivered sym c path n word).pathMark k = s.pathMark k := by
  obtain ⟨d, h⟩ := s.wordsDelivered_eq sym c path n word
  rw [h]
  rfl

theorem Keeps.wordsDelivered {l : List Nat} {s u : State} (h : Keeps l s u) (sym c path n : Nat) (word : Nat → Word) :
    Keeps l s (u.wordsDelivered sym c path n word) := by
  obtain ⟨d, hd⟩ := u.wordsDelivered_eq sym c path n word
  rw [hd]
  exact h
end

section
variable (s : State)
theorem State.setPathMark_pathData (k : Nat) (x : Option Bool) : (s.setPathMark k x).pathData = s.pathData := rfl
theorem State.settle_pathWord (k : Nat) : s.settle.pathWord k = s.pathWord k := by simp [State.pathWord]
end

/-! ### Delivery (R113, R114) -/

/-- The state when a symbol is due at the hub, 6,144 Tc after its useful part, its saturated samples counted. -/
def State.symbolDue (s : State) (t i c sym : Nat) : State :=
  let v := s.advanceTb ((s.rxSymSpan t c sym).2.2 + 6144)
  (v.countRx t i).rxClips t i (v.symClips t i c sym)

/-- The gate was open from the start of the prefix to the end of the FFT window. -/
def State.symbolOpen (s : State) (t i c sym : Nat) : Bool :=
  let v := s.advanceTb ((s.rxSymSpan t c sym).2.2 + 6144)
  (s.rxCar (carKey t i c)).openThrough (v.instantOf (s.rxSymSpan t c sym).1) (v.instantOf (s.rxSymSpan t c sym).2.1)

theorem State.symbolDue_frame (s : State) (t : Nat) (i : Fin 16) (c sym : Nat) :
    ChainFrame true (rxClipRegs t) (s.advanceTb ((s.rxSymSpan t c sym).2.2 + 6144)) (s.symbolDue t i c sym) :=
  ((ChainFrame.refl ..).countRx i.2).rxClips i.2 _

section
variable {s : State} {t : Fin 4} {i : Fin 16} {c : Fin 4} {sym : Nat}

theorem State.symbolDue_keeps : Keeps (rxClipRegs t) s (s.symbolDue t i c sym) :=
  ((Keeps.refl _ s).advanceTb _).trans (s.symbolDue_frame t i c sym).keeps

theorem State.symbolDue_field {α : Type} (m : State → α) (hchain : ∀ x, m (x.beside true) = m x) (hclock : ∀ x k b, m { x with now := k, tb := b } = m x) :
    m (s.symbolDue t i c sym) = m s :=
  ((s.symbolDue_frame t i c sym).field m hchain).trans (s.advanceTb_field m (hclock s))

end

section
variable (s : State) (t i c sym : Nat)

/-- What the hub gets of a symbol of which the samples have been counted: its words and its mark, or that it is not delivered. -/
def State.symbolSent (n : Nat) (through : Bool) : State :=
  let key := ulSymKey sym c (16 * t + i)
  if !through then s.setPathMark key (some false)
  else (s.setPathMark key (some (s.symMarked t i c sym || s.pathMark key == some true))).wordsDelivered sym c (16 * t + i) n (s.fftWord t i c sym)

theorem State.rxDeliver_eq : s.rxDeliver t i c sym =
    if !(s.rxCfg t c).en || (s.rxCfg t c).timeDomain then s
    else if !s.rxRuns t i then
      if s.mode == .onAir || s.mode == .quiet
      then (s.advanceTb ((s.rxSymSpan t c sym).2.2 + 6144)).setPathMark (ulSymKey sym c (16 * t + i)) (some true) else s
    else
      let w := s.symbolDue t i c sym
      if !(w.mode == .onAir || w.mode == .quiet) then w
      else w.symbolSent t i c sym (12 * (s.rxCfg t c).nrb)
        ((s.rxCar (carKey t i c)).openThrough (w.instantOf (s.rxSymSpan t c sym).1) (w.instantOf (s.rxSymSpan t c sym).2.1)) := rfl

theorem Mode.delivers {m : Mode} (h : m = .onAir ∨ m = .quiet) : (m == .onAir || m == .quiet) = true ∧ m.runsGlide = true := by
  rcases h with rfl | rfl <;> decide
end

section
variable {s : State} {t : Fin 4} {i : Fin 16} {c : Fin 4} {sym : Nat} (hen : (s.rxCfg t c).en = true) (hnr : (s.rxCfg t c).timeDomain = false)
  (hmode : s.mode = .onAir ∨ s.mode = .quiet)
include hen hnr hmode

/-- A symbol of a path whose chain runs. -/
theorem State.rxDeliver_running (hon : s.domOn (38 + 4 * (t : Nat) + (i : Nat) / 4) = true) :
    s.rxDeliver t i c sym = (s.symbolDue t i c sym).symbolSent t i c sym (12 * (s.rxCfg t c).nrb) (s.symbolOpen t i c sym) := by
  obtain ⟨hdelivers, hglide⟩ := Mode.delivers hmode
  have hruns : s.rxRuns t i = true := by rw [State.rxRuns, hglide, hon]; rfl
  have hmode' : (s.symbolDue t i c sym).mode = s.mode := State.symbolDue_field (·.mode) (fun _ => rfl) fun _ _ _ => rfl
  have hopen : (s.rxCar (carKey t i c)).openThrough ((s.symbolDue t i c sym).instantOf (s.rxSymSpan t c sym).1)
      ((s.symbolDue t i c sym).instantOf (s.rxSymSpan t c sym).2.1) = s.symbolOpen t i c sym :=
    (s.symbolDue_frame t i c sym).field (fun v => (s.rxCar (carKey t i c)).openThrough (v.instantOf (s.rxSymSpan t c sym).1)
      (v.instantOf (s.rxSymSpan t c sym).2.1)) fun _ => rfl
  rw [State.rxDeliver_eq, if_neg (by simp [hen, hnr]), if_neg (by simp [hruns])]
  dsimp only
  rw [hmode', if_neg (by simp [hdelivers]), hopen]

/-- A path whose domain is not ON delivers nothing, and is marked (R406). -/
theorem State.rxDeliver_off (hoff : s.domOn (38 + 4 * (t : Nat) + (i : Nat) / 4) = false) :
    s.rxDeliver t i c sym =
      (s.advanceTb ((s.rxSymSpan t c sym).2.2 + 6144)).setPathMark (ulSymKey sym c (16 * (t : Nat) + i)) (some true) := by
  obtain ⟨hdelivers, -⟩ := Mode.delivers hmode
  rw [State.rxDeliver_eq, if_neg (by simp [hen, hnr]), if_pos (by simp [State.rxRuns, hoff]), if_pos hdelivers]

/-- A symbol whose gate was open throughout reaches the hub with its words and its mark, another does not. -/
theorem rxSymbol_delivered (hon : s.domOn (38 + 4 * (t : Nat) + (i : Nat) / 4) = true) :
    let w := s.symbolDue t i c sym
    let key := ulSymKey sym c (16 * (t : Nat) + i)
    (s.symbolOpen t i c sym = true → Answers (.rxSymbolDeliver t i c sym) s fun u =>
      u.pathMark key = some (w.symMarked t i c sym || s.pathMark key == some true) ∧
      (∀ j < 12 * (s.rxCfg t c).nrb, u.pathWord (ulWordKey sym c (16 * (t : Nat) + i) j) = some (w.fftWord t i c sym j)) ∧
      Keeps (rxClipRegs t) s u) ∧
    (s.symbolOpen t i c sym = false → Answers (.rxSymbolDeliver t i c sym) s fun u =>
      u.pathMark key = some false ∧ u.pathData = s.pathData ∧ Keeps (rxClipRegs t) s u) := by
  intro w key
  have hrun := (exec_rxSymbolDeliver t i c sym s).trans (congrArg done (State.rxDeliver_running hen hnr hmode hon))
  have hmark : w.pathMark key = s.pathMark key := State.symbolDue_field (·.pathMark key) (fun _ => rfl) fun _ _ _ => rfl
  refine ⟨fun hopen => .of_done hrun ?through, fun hshut => .of_done hrun ?shut⟩
  case through =>
    rw [hopen, State.symbolSent, if_neg (by decide)]
    refine ⟨?_, fun j hj => ?_, ((State.symbolDue_keeps.setPathMark _ _).wordsDelivered _ _ _ _ _).settle⟩
    · rw [State.settle_pathMark, State.wordsDelivered_pathMark, State.pathMark_setPathMark, if_pos rfl]
      exact congrArg (fun m => some (w.symMarked t i c sym || m == some true)) hmark
    · rw [State.settle_pathWord, State.wordsDelivered_word _ _ _ _ _ _ hj]
  case shut =>
    rw [hshut, State.symbolSent, if_pos (by decide)]
    refine ⟨?_, ?_, (State.symbolDue_keeps.setPathMark _ _).settle⟩
    · rw [State.settle_pathMark, State.pathMark_setPathMark, if_pos rfl]
    · rw [State.settle_pathData, State.setPathMark_pathData]
      exact State.symbolDue_field (·.pathData) (fun _ => rfl) fun _ _ _ => rfl

/-- A symbol of a path whose domain is not ON. -/
theorem rxSymbol_off (hoff : s.domOn (38 + 4 * (t : Nat) + (i : Nat) / 4) = false) : Answers (.rxSymbolDeliver t i c sym) s fun u =>
    u.pathMark (ulSymKey sym c (16 * (t : Nat) + i)) = some true ∧ u.pathData = s.pathData ∧ Keeps [] s u := by
  refine .of_done ((exec_rxSymbolDeliver t i c sym s).trans (congrArg done (State.rxDeliver_off hen hnr hmode hoff)))
    ⟨?_, ?_, (((Keeps.refl _ s).advanceTb _).setPathMark _ _).settle⟩
  · rw [State.settle_pathMark, State.pathMark_setPathMark, if_pos rfl]
  · rw [State.settle_pathData, State.setPathMark_pathData]
    exact s.advanceTb_field (·.pathData) fun _ _ => rfl
end

end Sys2Proof.Machine
end

section
/-!
PROOFS. Granules of a capture (R126, R128), and what the receive chain does in time.
-/
namespace Sys2Proof.Machine
open Reg F

theorem exec_captureGranule (t : Fin 4) (d : Fin 16) (s : State) : exec (.captureGranule t d) s = done (s.granule t d) := rfl

/-! ### Bytes -/

/-- Bytes stored in capture SRAM read back, and the others as before. -/
theorem State.sramStore_capByte (bs : List Byte) (j : Nat) : ∀ (s : State) (a : Nat), (s.sramStore a bs).capByte j =
    if a ≤ j ∧ j < a + bs.length then bs.getD (j - a) 0 else s.capByte j := by
  induction bs with
  | nil => exact fun s a => (if_neg (by simp only [List.length_nil]; omega)).symm
  | cons b bs ih =>
    intro s a
    rw [State.sramStore, ih, State.capByte_setCapByte, List.length_cons]
    by_cases hj : j = a
    · rw [if_neg (by omega), if_pos hj, if_pos (by omega), hj, Nat.sub_self]
      rfl
    · rw [if_neg hj]
      by_cases hin : a + 1 ≤ j ∧ j < a + 1 + bs.length
      · rw [if_pos hin, if_pos (by omega), show j - a = (j - (a + 1)) + 1 by omega, List.getD_cons_succ]
      · rw [if_neg hin, if_neg (by omega)]

/-- A store in capture SRAM changes no register. -/
theorem State.sramStore_reg (bs : List Byte) (x : Nat) : ∀ (s : State) (a : Nat), (s.sramStore a bs).reg x = s.reg x := by
  induction bs with
  | nil => exact fun _ _ => rfl
  | cons b bs ih => exact fun s a => ih (s.setCapByte a b) (a + 1)

theorem leBytes_length (n v : Nat) : (leBytes n v).length = n := by
  induction n generalizing v with
  | zero => rfl
  | succ n ih => rw [leBytes, List.length_cons, ih]

/-- A granule has 64 bytes (R126). -/
theorem State.granuleBytes_length (s : State) (t : Nat) (k : Capture) {used : Nat} (h : used ≤ 15) (num : Nat) :
    (s.granuleBytes t k used num).length = 64 := by
  have hslots : ((List.range used).flatMap fun j => bytesOf (s.slotWord t k num j)).length = used * 4 := by
    rw [List.length_flatMap]
    simp [bytesOf]
  rw [State.granuleBytes, List.length_append, List.length_append, leBytes_length, hslots, List.length_replicate]
  omega

/-! ### One granule taken -/

/-- A counter of a field of its register. -/
theorem Frame.bumpWith {l : List Nat} {s u : State} (h : Frame l s u) (e cnt : Nat) (f : Fld) (fr fb n : Nat) (hc : cnt ∈ l) (hf : fr ∈ l) :
    Frame l s (u.bumpWith (·.raise e) cnt f fr fb n) := by
  unfold State.bumpWith
  dsimp only
  split
  · exact ((h.setFld _ _ _ hc).setFld _ _ _ hf).raise _
  · exact h.setFld _ _ _ hc

/-- Another field of the counter's register stays. -/
theorem State.fld_bumpWith_apart (s : State) (e cnt : Nat) (f g : Fld) (fr fb n : Nat) (hc : eventReg cnt = false) (hne : cnt ≠ fr)
    (hfg : f.lo + f.width ≤ g.lo ∨ g.lo + g.width ≤ f.lo) (hg : g.lo + g.width ≤ 32) :
    (s.bumpWith (·.raise e) cnt f fr fb n).fld cnt g = s.fld cnt g := by
  unfold State.bumpWith
  dsimp only
  split
  · rw [State.fld_raise _ _ _ _ hc, State.fld_setFld_ne _ _ _ _ hne, State.fld_setFld_apart _ _ _ _ _ hfg hg]
  · exact s.fld_setFld_apart _ _ _ _ hfg hg

/-- The bytes of a granule stored, the capture gone on to `k`. -/
def State.granuleStored (s : State) (t d : Nat) (bytes : List Byte) (k : Capture) : State :=
  ((s.setCapBusy t (max (s.capBusy t) (s.now * 100000) + granuleTime)).sramStore
    ((s.cap (16 * t + d)).base + (s.cap (16 * t + d)).offset) bytes).setCap (16 * t + d) k

/-- A granule stored and counted. -/
def State.granuleTaken (s : State) (t d : Nat) (bytes : List Byte) (k : Capture) : State :=
  (s.granuleStored t d bytes k).bumpWith (·.raise Ev.COUNTER_SATURATED) (RXCH_CAP_STAT t d) RXCH_CAP_STAT_GRANULES (RXCH_CNT_FLAGS t) (16 + d) 1

theorem State.putGranule_sram {s : State} {t : Nat} {k : Capture} (hdram : k.dram = false) (hroom : s.sramRoom t = true) (bytes : List Byte) :
    s.putGranule t k bytes =
      some ((s.setCapBusy t (max (s.capBusy t) (s.now * 100000) + granuleTime)).sramStore (k.base + k.offset) bytes) := by
  unfold State.putGranule State.capWrite
  rw [if_neg (by simp [hdram]), if_pos hroom, if_neg (by simp [hdram])]

theorem State.takeGranule_sram {s : State} {t d : Nat} (used num : Nat) (hdram : (s.cap (16 * t + d)).dram = false) (hroom : s.sramRoom t = true) :
    ∃ k, (k.done = (s.cap (16 * t + d)).done + num ∧ k.src = (s.cap (16 * t + d)).src) ∧
      s.takeGranule t d used num = some (s.granuleTaken t d (s.granuleBytes t (s.cap (16 * t + d)) used num) k) := by
  unfold State.takeGranule
  dsimp only
  rw [State.putGranule_sram hdram hroom, Option.map_some]
  refine ⟨_, ?_, rfl⟩
  exact ⟨rfl, rfl⟩

/-- CAP_STAT is neither a counter's flag register nor an event's. -/
theorem rxchCapStat_apart (t : Fin 4) (d : Fin 16) : RXCH_CAP_STAT t d ≠ RXCH_CNT_FLAGS t ∧ eventReg (RXCH_CAP_STAT t d) = false := by
  revert t d
  decide

section
variable (s : State) (t : Fin 4) (d : Fin 16) (bytes : List Byte) (k : Capture)

theorem State.setCapBusy_reg (n a : Nat) : (s.setCapBusy t n).reg a = s.reg a := rfl
theorem State.setCap_reg (a : Nat) : (s.setCap (16 * t + d) k).reg a = s.reg a := rfl

theorem State.granuleStored_reg (a : Nat) : (s.granuleStored t d bytes k).reg a = s.reg a := by
  rw [State.granuleStored, State.setCap_reg, State.sramStore_reg, State.setCapBusy_reg]

theorem State.granuleTaken_frame :
    Frame [RXCH_CAP_STAT t d, RXCH_CNT_FLAGS t] (s.granuleStored t d bytes k) (s.granuleTaken t d bytes k) :=
  (Frame.refl _ _).bumpWith _ _ _ _ _ _ (by simp) (by simp)

theorem State.granuleTaken_cap : (s.granuleTaken t d bytes k).cap (16 * t + d) = k := by
  rw [(s.granuleTaken_frame t d bytes k).field (·.cap (16 * t + d)) fun _ => rfl, State.granuleStored, State.cap_setCap, if_pos rfl]

theorem State.granuleTaken_capByte (hlen : bytes.length = 64) (a : Nat) :
    let b := (s.cap (16 * t + d)).base + (s.cap (16 * t + d)).offset
    (s.granuleTaken t d bytes k).capByte a = if b ≤ a ∧ a < b + 64 then bytes.getD (a - b) 0 else s.capByte a := by
  intro b
  have hsetCap : ∀ u : State, (u.setCap (16 * t + d) k).capByte a = u.capByte a := fun _ => rfl
  have hbusy : ∀ n, (s.setCapBusy t n).capByte a = s.capByte a := fun _ => rfl
  rw [(s.granuleTaken_frame t d bytes k).field (·.capByte a) fun _ => rfl, State.granuleStored, hsetCap, State.sramStore_capByte, hlen, hbusy]

/-- The capture is still in progress. -/
theorem State.granuleTaken_capturing : (s.granuleTaken t d bytes k).capturing t d = s.capturing t d := by
  obtain ⟨hne, hevent⟩ := rxchCapStat_apart t d
  rw [State.capturing, State.granuleTaken, State.fld_bumpWith_apart _ _ _ _ _ _ _ _ hevent hne (by decide) (by decide), State.fld,
    State.granuleStored_reg, ← State.fld, ← State.capturing]
end

/-! ### The next granule of a carrier's capture -/

/-- A capture that ends, but for the results of a Dragonfly capture. -/
def State.captureEnded (s : State) (t d cause : Nat) : State :=
  ((s.setFld (RXCH_CAP_STAT t d) RXCH_CAP_STAT_STATE 3).setFld (RXCH_CAP_STAT t d) RXCH_CAP_STAT_END cause).raise (Ev.CAPT_DONE t)

theorem State.endCapture_carrier {s : State} {t d cause : Nat} (hsrc : (s.cap (16 * t + d)).src ≤ 3) (hcause : cause ≠ 4) :
    s.endCapture t d cause = s.captureEnded t d cause := by
  unfold State.endCapture
  dsimp only
  rw [if_neg hcause, if_neg (by omega)]
  rfl

theorem State.captureEnded_frame (s : State) (t d cause : Nat) : Frame [RXCH_CAP_STAT t d] s (s.captureEnded t d cause) :=
  (((Frame.refl _ s).setFld _ _ _ (by simp)).setFld _ _ _ (by simp)).raise _

theorem State.captureEnded_shows (s : State) (t : Fin 4) (d : Fin 16) {cause : Nat} (hcause : cause < 8) :
    (s.captureEnded t d cause).fld (RXCH_CAP_STAT t d) RXCH_CAP_STAT_STATE = 3 ∧
      (s.captureEnded t d cause).fld (RXCH_CAP_STAT t d) RXCH_CAP_STAT_END = cause := by
  obtain ⟨-, hevent⟩ := rxchCapStat_apart t d
  have hstate : (s.setFld (RXCH_CAP_STAT t d) RXCH_CAP_STAT_STATE 3).fld (RXCH_CAP_STAT t d) RXCH_CAP_STAT_STATE = 3 :=
    s.fld_setFld _ _ _ (by decide)
  constructor
  · rw [State.captureEnded, State.fld_raise _ _ _ _ hevent, State.fld_setFld_apart _ _ _ _ _ (by decide) (by decide), hstate]
  · rw [State.captureEnded, State.fld_raise _ _ _ _ hevent, State.fld_setFld _ _ _ _ (by decide)]
    exact Nat.mod_eq_of_lt hcause

/-- The samples of a carrier count at the combining rate, 5 in 4 Tc. -/
theorem capClock_carrier {src : Nat} (h : src ≤ 3) : capClock src = (5, 4) := if_pos h

section
variable {s : State} {t d : Nat} {k : Capture} (hsrc : k.src ≤ 3)
include hsrc

theorem State.granuleSize_carrier : s.granuleSize t k = (min 15 (k.len - k.done), min 15 (k.len - k.done)) := by
  unfold State.granuleSize
  dsimp only
  rw [if_neg (by omega), if_neg (by omega), if_neg (by omega)]

theorem State.granuleAt_carrier (hk : s.cap (16 * t + d) = k) (hrun : s.capturing t d = true) (hen : (s.rxCfg t k.src).en = true) :
    s.granuleAt t d = some (s.capTime t (5, 4) (s.capIndex t k (min 15 (k.len - k.done) - 1))) := by
  unfold State.granuleAt
  dsimp only
  rw [hk, if_neg (by simp [hrun, State.capFed, hen]), if_neg (by omega), State.granuleSize_carrier hsrc, capClock_carrier hsrc]
end

/-- A granule of a carrier's samples that is the next of its tile and finds room: the capture ends at LEN or where its region is full, else goes on. -/
theorem State.granule_carrier {s : State} {t : Fin 4} {d : Fin 16} (hrun : s.capturing t d = true) :
    let k := s.cap (16 * t + d)
    let num := min 15 (k.len - k.done)
    let at_ := s.capTime t (5, 4) (s.capIndex t k (num - 1))
    let v := s.advance at_
    k.src ≤ 3 → (s.rxCfg t k.src).en = true → k.dram = false → s.granuleFirst t d at_ = true → v.sramRoom t = true →
    ∃ k', k'.done = k.done + num ∧ s.granule t d =
      let x := v.granuleTaken t d (v.granuleBytes t k num num) k'
      if k.len ≤ k.done + num then x.captureEnded t d 0
      else if k.ring = false ∧ k.size < k.offset + 128 then x.captureEnded t d 3 else x := by
  intro k num at_ v hsrc hen hdram hfirst hroom
  have hk : v.cap (16 * t + d) = k := by
    obtain ⟨_, _, h⟩ := s.advance_eq at_
    rw [show v = _ from h]
    rfl
  obtain ⟨k', ⟨hdone, hsrc'⟩, htaken⟩ := State.takeGranule_sram (t := t) (d := d) num num (hk ▸ hdram) hroom
  rw [hk] at hdone hsrc' htaken
  refine ⟨k', hdone, ?_⟩
  extract_lets x
  have hend : ∀ cause, cause ≠ 4 → x.endCapture t d cause = x.captureEnded t d cause := fun _ =>
    State.endCapture_carrier (by rw [State.granuleTaken_cap, hsrc']; exact hsrc)
  unfold State.granule
  rw [State.granuleAt_carrier hsrc rfl hrun hen]
  dsimp only
  rw [if_neg (by simp [hfirst, num, at_, k]), show s.granuleSize t k = _ from State.granuleSize_carrier hsrc]
  dsimp only
  rw [htaken, ← hend 0 (by decide), ← hend 3 (by decide)]
  simp only [Bool.not_eq_true']
  rfl

/-- What time passing leaves: the state but for its clocks. -/
theorem State.advance_field (s : State) (n : Nat) {α : Type} (m : State → α) (hm : ∀ x k b, m { x with now := k, tb := b } = m x) :
    m (s.advance n) = m s := by
  obtain ⟨_, _, h⟩ := s.advance_eq n
  rw [h, hm]

theorem State.settle_cap (s : State) (k : Nat) : s.settle.cap k = s.cap k := by simp [State.cap]
theorem State.settle_capByte (s : State) (k : Nat) : s.settle.capByte k = s.capByte k := by simp [State.capByte]

/-- A granule of a carrier's samples is written to capture SRAM, and the capture ends or goes on. -/
theorem granule_written {s : State} {t : Fin 4} {d : Fin 16} (hrun : s.capturing t d = true) :
    let k := s.cap (16 * (t : Nat) + d)
    let st := RXCH_CAP_STAT t d
    let num := min 15 (k.len - k.done)
    let at_ := s.capTime t (5, 4) (s.capIndex t k (num - 1))
    let v := s.advance at_
    k.src ≤ 3 → (s.rxCfg t k.src).en = true → k.dram = false → s.granuleFirst t d at_ = true → v.sramRoom t = true →
    Answers (.captureGranule t d) s fun u =>
      (u.cap (16 * (t : Nat) + d)).done = k.done + num ∧
      (∀ a, u.capByte a = if k.base + k.offset ≤ a ∧ a < k.base + k.offset + 64
        then (v.granuleBytes t k num num).getD (a - (k.base + k.offset)) 0 else s.capByte a) ∧
      (if k.len ≤ k.done + num then u.fld st RXCH_CAP_STAT_STATE = 3 ∧ u.fld st RXCH_CAP_STAT_END = 0
        else if k.ring = false ∧ k.size < k.offset + 128 then u.fld st RXCH_CAP_STAT_STATE = 3 ∧ u.fld st RXCH_CAP_STAT_END = 3
        else u.capturing t d = true) ∧
      ∀ a, a ∉ [st, RXCH_CNT_FLAGS t] → eventReg a = false → u.reg a = s.reg a := by
  intro k st num at_ v hsrc hen hdram hfirst hroom
  obtain ⟨k', hdone, hrun'⟩ := State.granule_carrier hrun hsrc hen hdram hfirst hroom
  extract_lets x at hrun'
  have hframe : Frame [st] x (s.granule t d) := by
    rw [hrun']
    split
    · exact x.captureEnded_frame ..
    · split
      · exact x.captureEnded_frame ..
      · exact .refl ..
  refine .of_done (exec_captureGranule t d s) ⟨?_, fun a => ?_, ?_, fun a ha he => ?_⟩
  · rw [State.settle_cap, hframe.field (·.cap (16 * t + d)) fun _ => rfl, State.granuleTaken_cap, hdone]
  · have hcap : v.cap (16 * t + d) = k := s.advance_field at_ (·.cap (16 * t + d)) fun _ _ _ => rfl
    have hbyte : v.capByte a = s.capByte a := s.advance_field at_ (·.capByte a) fun _ _ _ => rfl
    have htaken := v.granuleTaken_capByte t d (v.granuleBytes t k num num) k' (v.granuleBytes_length t k (min_le_left _ _) num) a
    rw [hcap, hbyte] at htaken
    rw [State.settle_capByte, hframe.field (·.capByte a) fun _ => rfl]
    exact htaken
  · rw [State.fld_settle, State.fld_settle, hrun']
    by_cases hlen : k.len ≤ k.done + num
    · rw [if_pos hlen, if_pos hlen]
      exact x.captureEnded_shows t d (by decide)
    by_cases hfull : k.ring = false ∧ k.size < k.offset + 128
    · rw [if_neg hlen, if_pos hfull, if_neg hlen, if_pos hfull]
      exact x.captureEnded_shows t d (by decide)
    · rw [if_neg hlen, if_neg hfull, if_neg hlen, if_neg hfull, State.capturing, State.fld_settle, ← State.capturing,
        State.granuleTaken_capturing, State.capturing, State.advance_fld, ← State.capturing, hrun]
  · rw [List.mem_pair, not_or] at ha
    rw [State.reg_settle, hframe.reg (by simpa using ha.1) he, (v.granuleTaken_frame t d _ _).reg (by simpa using ha) he,
      State.granuleStored_reg, State.advance_reg]

/-! ### The statement -/

/-- Settles O16: an armed code at its boundary, the decision of gain control, the two power blocks, a symbol with its path on and off, and the
next granule of a carrier's capture, each by its own theorem. -/
theorem receiveTimes : Obligations.ReceiveTimes := by
  intro s t i clips
  refine ⟨fun g B h => gainBoundary_armed h, fun c hc hen hruns => agcDecision_at_boundary hc hen hruns, carrierBlock_shown, wideBlock_shown,
    fun c sym hen hnr hmode hon => rxSymbol_delivered hen hnr hmode hon, fun c sym hen hnr hmode hoff => rxSymbol_off hen hnr hmode hoff,
    fun d hrun => granule_written hrun⟩

end Sys2Proof.Machine
end

section
/-!
PROOFS. Host beam commands (R138, R140, R141, R143, R144): how they are taken, what bars them, and what each leaves behind.
-/
namespace Sys2Proof.Machine
open Reg F

/-! ### Events while a write is made

What raising an event does is the same whatever bits race with a write (R12). -/

/-- Other bits race with the write in progress. -/
def State.setRacing (s : State) (r : Word) : State := { s with racing := r }

section
variable (s : State) (r : Word)

theorem State.withRace_eq (f : State → State) : s.withRace r f = (f (s.setRacing r)).setRacing s.racing := rfl
theorem State.setRacing_setRacing (r' : Word) : (s.setRacing r).setRacing r' = s.setRacing r' := rfl
theorem State.setRacing_racing : s.setRacing s.racing = s := rfl

@[simp] theorem State.setRacing_bit (a : Nat) (f : Fld) : (s.setRacing r).bit a f = s.bit a f := rfl
@[simp] theorem State.setRacing_setStored (src : Nat) (b : Bool) : (s.setRacing r).setStored src b = (s.setStored src b).setRacing r := rfl
@[simp] theorem State.setRacing_setLoggedAt (k : Nat) (x : Option (Nat × Nat)) :
    (s.setRacing r).setLoggedAt k x = (s.setLoggedAt k x).setRacing r := rfl

theorem State.setRacing_ite (c : Prop) [Decidable c] (t u : State) : (if c then t else u).setRacing r = if c then t.setRacing r else u.setRacing r :=
  apply_ite (·.setRacing r) c t u

theorem State.setRacing_each {α : Type} {f : State → α → State} (h : ∀ u x, f (u.setRacing r) x = (f u x).setRacing r) (l : List α) :
    (s.setRacing r).each l f = (s.each l f).setRacing r := by
  induction l generalizing s with
  | nil => rfl
  | cons x l ih => rw [State.each_cons, State.each_cons, h, ih]

@[simp] theorem State.setRacing_flagGlides (src : Nat) : (s.setRacing r).flagGlides src = (s.flagGlides src).setRacing r :=
  s.setRacing_each r (fun _ _ => rfl) _

@[simp] theorem State.setRacing_raiseQuiet (src : Nat) : (s.setRacing r).raiseQuiet src = (s.raiseQuiet src).setRacing r := by
  simp [State.raiseQuiet, State.setRacing_ite]

@[simp] theorem State.setRacing_pushLog (x : LogRec) : (s.setRacing r).pushLog x = (s.pushLog x).setRacing r := by
  have hcount : ∀ u : State, (u.setRacing r).bumpWith (·.raiseQuiet Ev.COUNTER_SATURATED) RILYN_LOG_DROP RILYN_LOG_DROP_COUNT RILYN_CNT_FLAGS 3 1 =
      (u.bumpWith (·.raiseQuiet Ev.COUNTER_SATURATED) RILYN_LOG_DROP RILYN_LOG_DROP_COUNT RILYN_CNT_FLAGS 3 1).setRacing r := by
    intro u
    unfold State.bumpWith
    dsimp only
    rw [State.setRacing_ite, ← State.setRacing_raiseQuiet]
    rfl
  rw [State.pushLog, State.pushLog, State.setRacing_ite, hcount]
  rfl

@[simp] theorem State.setRacing_logEvent (src : Nat) : (s.setRacing r).logEvent src = (s.logEvent src).setRacing r := by
  have hlogged : (s.setRacing r).loggedAt src = s.loggedAt src := rfl
  rw [State.logEvent, State.logEvent, State.setRacing_ite, hlogged]
  cases s.loggedAt src with
  | none => simp only [State.setRacing_setLoggedAt, State.setRacing_pushLog]; rfl
  | some x => simp only [State.setRacing_setLoggedAt, State.setRacing_pushLog, State.setRacing_ite]; rfl

theorem State.setRacing_raise (src : Nat) : (s.setRacing r).raise src = (s.raise src).setRacing r := by
  simp only [State.raise, State.setRacing_ite, State.setRacing_bit, State.setRacing_setStored, State.setRacing_flagGlides,
    ← State.setRacing_logEvent]
  rfl

/-- An access error that a write comes to is one without the write. -/
theorem State.withRace_accessError : s.withRace r State.accessError = s.accessError := by
  have hraise := s.setRacing_raise s.racing Ev.REG_ACCESS_ERROR
  rw [State.withRace_eq, State.accessError, State.setRacing_raise, State.setRacing_setRacing, ← hraise, State.setRacing_racing]
  rfl
end

/-! ### Accesses (R143) -/

/-- Table 5-7: BEAM_DATA_w lies from offset 0x400 on in Slalom's block on the hub; it is no flag register. -/
theorem beamData_place (w : Fin 64) : (BitVec.ofNat 28 (SLALOM_BEAM_DATA w)).toNat = SLALOM_BEAM_DATA w ∧ SLALOM_BEAM_DATA w % 4 = 0 ∧
    dieOf (SLALOM_BEAM_DATA w) = 0 ∧ blockOf (SLALOM_BEAM_DATA w) = 2 ∧ 0x400 ≤ offOf (SLALOM_BEAM_DATA w) ∧
    isCntFlags (SLALOM_BEAM_DATA w) = false := by
  revert w
  decide +kernel

/-- A whole write of a hub register crosses no link (R16). -/
theorem State.hostWrite_hub {s : State} {a : BitVec 28} (halign : a.toNat % 4 = 0) (hdie : dieOf a.toNat = 0) (hans : s.answers a.toNat = true)
    (w : Word) (lat : Nat) (ofs : Int) : s.hostWrite a w 0xF lat ofs = s.writeAt a.toNat w lat ofs := by
  rw [State.hostWrite, if_pos ⟨rfl, halign⟩, if_neg (by omega), State.linkWrite, if_neg (by omega), State.writeOne, State.guarded_of hans]

theorem State.writeAt_beamData (s : State) (w : Fin 64) (x : Word) (lat : Nat) (ofs : Int) :
    s.writeAt (SLALOM_BEAM_DATA w) x lat ofs = s.beamDataWrite (SLALOM_BEAM_DATA w) x := by
  obtain ⟨-, -, -, hblock, hoff, hflags⟩ := beamData_place w
  have hslalom : s.writeSlalom (offOf (SLALOM_BEAM_DATA w)) (SLALOM_BEAM_DATA w) x = s.beamDataWrite (SLALOM_BEAM_DATA w) x := by
    rw [State.writeSlalom, if_neg (by omega), if_neg (by omega), if_pos hoff]
  rw [← hslalom, State.writeAt]
  simp only [hflags, hblock]
  rfl

/-- BEAM_DATA is not written while a command is in progress. -/
theorem exec_beamDataWrite_busy {s : State} {w : Fin 64} (hans : s.answers (SLALOM_BEAM_DATA w) = true)
    (hbusy : s.bit SLALOM_BEAM_STAT SLALOM_BEAM_STAT_BUSY = true) (x : Word) (lat : Fin 4) (ofs : Int) (raced : Word) :
    exec (.registerWrite (BitVec.ofNat 28 (SLALOM_BEAM_DATA w)) x 0xF lat ofs raced) s = done s.accessError := by
  obtain ⟨haddr, halign, hdie, -⟩ := beamData_place w
  have hwrite : (s.setRacing raced).hostWrite (BitVec.ofNat 28 (SLALOM_BEAM_DATA w)) x 0xF lat ofs = (s.setRacing raced).accessError := by
    rw [State.hostWrite_hub (by rwa [haddr]) (by rwa [haddr]) (by rw [haddr]; exact hans), haddr, State.writeAt_beamData,
      State.beamDataWrite, State.setRacing_bit, hbusy, if_pos rfl]
  rw [exec_registerWrite, State.withRace_eq, hwrite, ← State.withRace_eq, State.withRace_accessError]

theorem exec_beamDefine (id : BitVec 15) (s : State) :
    exec (.beamDefine id) s = done (s.guarded SLALOM_BEAM_CMD fun u => u.beamCmdWrite 1 id.toNat) := rfl
theorem exec_beamDefinePinned (id : BitVec 15) (s : State) :
    exec (.beamDefinePinned id) s = done (s.guarded SLALOM_BEAM_CMD fun u => u.beamCmdWrite 2 id.toNat) := rfl
theorem exec_beamDelete (id : BitVec 15) (s : State) :
    exec (.beamDelete id) s = done (s.guarded SLALOM_BEAM_CMD fun u => u.beamCmdWrite 3 id.toNat) := rfl
theorem exec_beamRead (id : BitVec 15) (s : State) :
    exec (.beamRead id) s = done (s.guarded SLALOM_BEAM_CMD fun u => u.beamCmdWrite 4 id.toNat) := rfl
theorem exec_beamCmdDone (after : Fin 1025) (s : State) : exec (.beamCmdDone after) s = done (s.hostBeamDone after) := rfl

/-- A command that has been taken is in progress from now on. -/
def State.beamCmdTaken (s : State) (op id : Nat) : State :=
  { s.setBit SLALOM_BEAM_STAT SLALOM_BEAM_STAT_BUSY true with beamCmd := some (op, id, s.now) }

theorem State.beamCmdWrite_idle {s : State} (hidle : s.bit SLALOM_BEAM_STAT SLALOM_BEAM_STAT_BUSY = false) {op : Nat} (hop : 1 ≤ op ∧ op ≤ 4)
    (id : Nat) : s.beamCmdWrite op id = s.beamCmdTaken op id := by
  rw [State.beamCmdWrite, if_neg (by rw [hidle]; decide), if_pos hop]
  rfl

theorem State.beamCmdWrite_busy {s : State} (hbusy : s.bit SLALOM_BEAM_STAT SLALOM_BEAM_STAT_BUSY = true) (op id : Nat) :
    s.beamCmdWrite op id = s.accessError := if_pos hbusy

/-! ### What the engine's own records can change -/

/-- `t` is `s` but for the states of entries and pages, the section-symbols and the last committed versions. -/
def State.WorkOf (s t : State) : Prop := ∃ es ps xs ls, t = { s with entries := es, pagesSt := ps, secs := xs, lastCommits := ls }

section
variable {s t u : State}

theorem State.WorkOf.refl (s : State) : s.WorkOf s := ⟨_, _, _, _, rfl⟩

theorem State.WorkOf.trans (h : s.WorkOf t) (h' : t.WorkOf u) : s.WorkOf u := by
  obtain ⟨_, _, _, _, rfl⟩ := h
  obtain ⟨_, _, _, _, rfl⟩ := h'
  exact ⟨_, _, _, _, rfl⟩

/-- What does not read those records stays. -/
theorem State.WorkOf.field (h : s.WorkOf t) {α : Type} (m : State → α)
    (hm : ∀ (x : State) es ps xs ls, m { x with entries := es, pagesSt := ps, secs := xs, lastCommits := ls } = m x) : m t = m s := by
  obtain ⟨_, _, _, _, rfl⟩ := h
  exact hm ..

theorem State.WorkOf.each {α : Type} {f : State → α → State} (hf : ∀ (u : State) x, u.WorkOf (f u x)) (l : List α) (h : s.WorkOf t) :
    s.WorkOf (t.each l f) :=
  State.each_keeps (P := s.WorkOf) (fun u x hu => hu.trans (hf u x)) l h

theorem State.setEntry_work (s : State) (e : Nat) (x : EntryState) : s.WorkOf (s.setEntry e x) := ⟨_, _, _, _, rfl⟩
theorem State.setPage_work (s : State) (p : Nat) (x : PageState) : s.WorkOf (s.setPage p x) := ⟨_, _, _, _, rfl⟩
theorem State.modSec_work (s : State) (k : SecKey) (f : SecSym → SecSym) : s.WorkOf (s.modSec k f) := ⟨_, _, _, _, rfl⟩

theorem State.labelPages_work (s : State) (ps : List Nat) (l : PageState) : s.WorkOf (s.labelPages ps l) :=
  (State.WorkOf.refl s).each (fun u p => u.setPage_work p l) ps

theorem State.dropItem_work (s : State) (k : SecKey) : s.WorkOf (s.dropItem k) := by
  unfold State.dropItem
  split
  · exact .refl s
  · dsimp only
    split
    · exact (s.labelPages_work ..).trans (State.modSec_work ..)
    · exact s.modSec_work ..

theorem State.requeue_work (s : State) (a : Nat) (k : SecKey) : s.WorkOf (State.requeue a s k) := (s.dropItem_work k).trans (State.modSec_work ..)

theorem State.beamChanged_work (s : State) (a id : Nat) : s.WorkOf (s.beamChanged a id) :=
  (State.WorkOf.refl s).each (fun u k => u.requeue_work a k) _

theorem State.reclaim_work (s : State) : s.WorkOf s.reclaim :=
  .each (fun u p => u.setPage_work p .free) _ (.each (fun u e => u.setEntry_work e .free) _ ⟨_, _, _, _, rfl⟩)
end

/-! ### Definition and deletion (R138) -/

/-- The words of an entry written. -/
def State.storeEntry (s : State) (e : Nat) (words : List Word) : State :=
  (List.range 64).foldl (fun s p => s.setWeight (beamWordAt e p) (words.getD p 0)) s

/-- BEAM_DATA filled from an entry, as `t` holds it. -/
def State.showEntry (s t : State) (e : Nat) : State :=
  (List.range 64).foldl (fun u w => u.setReg (SLALOM_BEAM_DATA w) (t.weight (beamWordAt e w))) s

section
variable {put : State → Nat → Word → State}

/-- What no store of a run changes, the run leaves. -/
theorem foldl_put_field {α : Type} (m : State → α) (hm : ∀ s k x, m (put s k x) = m s) (key : Nat → Nat) (x : Nat → Word) (n : Nat)
    (s : State) : m ((List.range n).foldl (fun s w => put s (key w) (x w)) s) = m s := by
  induction n with
  | zero => rfl
  | succ n ih => rw [List.range_succ, List.foldl_append, List.foldl_cons, List.foldl_nil, hm, ih]

variable {get : State → Nat → Word} (hget : ∀ s k x j, get (put s k x) j = if j = k then x else get s j) (key : Nat → Nat) (x : Nat → Word)
include hget

theorem foldl_put_apart {n j : Nat} (h : ∀ w < n, j ≠ key w) (s : State) :
    get ((List.range n).foldl (fun s w => put s (key w) (x w)) s) j = get s j := by
  induction n with
  | zero => rfl
  | succ n ih =>
    rw [List.range_succ, List.foldl_append, List.foldl_cons, List.foldl_nil, hget, if_neg (h n (Nat.lt_succ_self n)),
      ih fun w hw => h w (Nat.lt_succ_of_lt hw)]

theorem foldl_put_same (hkey : Function.Injective key) {n w : Nat} (hw : w < n) (s : State) :
    get ((List.range n).foldl (fun s w => put s (key w) (x w)) s) (key w) = x w := by
  induction n with
  | zero => exact absurd hw (Nat.not_lt_zero w)
  | succ n ih =>
    rw [List.range_succ, List.foldl_append, List.foldl_cons, List.foldl_nil, hget]
    by_cases hlast : w = n
    · rw [if_pos (congrArg key hlast), hlast]
    · rw [if_neg fun h => hlast (hkey h), ih (by omega)]
end

theorem beamWordAt_injective (e : Nat) : Function.Injective (beamWordAt e) := fun _ _ h => Nat.add_left_cancel h
theorem beamData_injective : Function.Injective SLALOM_BEAM_DATA := fun _ _ h => by simpa [SLALOM_BEAM_DATA] using h

section
variable (s t : State) (e : Nat) (words : List Word)

theorem State.storeEntry_field {α : Type} (m : State → α) (hm : ∀ (u : State) k x, m (u.setWeight k x) = m u) :
    m (s.storeEntry e words) = m s :=
  foldl_put_field m hm _ _ _ s

theorem State.storeEntry_weight {w : Nat} (hw : w < 64) : (s.storeEntry e words).weight (beamWordAt e w) = words.getD w 0 :=
  foldl_put_same (fun u k x j => u.weight_setWeight k x j) _ _ (beamWordAt_injective e) hw s

theorem State.storeEntry_weight_apart {k : Nat} (hk : ∀ w < 64, k ≠ beamWordAt e w) : (s.storeEntry e words).weight k = s.weight k :=
  foldl_put_apart (fun u k x j => u.weight_setWeight k x j) _ _ hk s

theorem State.showEntry_field {α : Type} (m : State → α) (hm : ∀ (u : State) a x, m (u.setReg a x) = m u) : m (s.showEntry t e) = m s :=
  foldl_put_field m hm _ _ _ s

theorem State.showEntry_data {w : Nat} (hw : w < 64) : (s.showEntry t e).reg (SLALOM_BEAM_DATA w) = t.weight (beamWordAt e w) :=
  foldl_put_same (fun u a x b => u.reg_setReg a x b) _ (fun w => t.weight (beamWordAt e w)) beamData_injective hw s

theorem State.showEntry_reg {a : Nat} (ha : ∀ w < 64, a ≠ SLALOM_BEAM_DATA w) : (s.showEntry t e).reg a = s.reg a :=
  foldl_put_apart (fun u a x b => u.reg_setReg a x b) _ (fun w => t.weight (beamWordAt e w)) ha s
end

/-- A definition but for the engine's records: the ID names its entry, which holds the words. -/
theorem State.defineBeam_work (s : State) (a id : Nat) (pinned : Bool) (words : List Word) (e : Nat) :
    (((s.setEntry e .current).setBeam id (some ⟨e, pinned⟩)).storeEntry e words).WorkOf (s.defineBeam a id pinned words e) := by
  have hfree : ∀ (t : State) l, t.WorkOf ((t.each l fun u e => u.setEntry e .free).beamChanged a id).reclaim := fun t l =>
    ((State.WorkOf.refl t).each (fun u e => u.setEntry_work e .free) l).trans ((State.beamChanged_work ..).trans (State.reclaim_work _))
  unfold State.defineBeam
  dsimp only
  split
  · exact (State.setEntry_work ..).trans (hfree _ _)
  · exact hfree _ _

/-- A deletion but for the engine's records: the ID names no entry. -/
theorem State.deleteBeam_work (s : State) (a : Nat) {id : Nat} {b : BeamSlot} (h : s.beam id = some b) :
    ((s.setEntry b.entry .retiring).setBeam id none).WorkOf (s.deleteBeam a id) := by
  rw [State.deleteBeam, h]
  exact (State.beamChanged_work ..).trans (State.reclaim_work _)

/-! ### The end of a command (R143) -/

/-- The command in progress has come to its end. -/
def State.beamCmdEnded (s : State) (n : Nat) : State :=
  ({ s.advance n with beamCmd := none } : State).setBit SLALOM_BEAM_STAT SLALOM_BEAM_STAT_BUSY false

def State.showBeamResult (s : State) (r : Nat) : State := s.setFld SLALOM_BEAM_STAT SLALOM_BEAM_STAT_RESULT r
def State.showBeamUsed (s : State) (e : Nat) : State := (s.showBeamResult 0).setFld SLALOM_BEAM_STAT SLALOM_BEAM_STAT_ENTRY e

/-- BEAM_DATA_0 to BEAM_DATA_63. -/
def State.beamData (s : State) : List Word := (List.range 64).map fun w => s.reg (SLALOM_BEAM_DATA w)

theorem State.beamCmdEnded_field (s : State) (n : Nat) {α : Type} (m : State → α)
    (hm : ∀ (x : State) rs k b, m { x with regs := rs, now := k, tb := b, beamCmd := none } = m x) : m (s.beamCmdEnded n) = m s := by
  obtain ⟨k, b, h⟩ := s.advance_eq n
  rw [State.beamCmdEnded, h]
  exact hm s _ k b

theorem State.beamCmdEnded_reg (s : State) (n : Nat) {a : Nat} (ha : a ≠ SLALOM_BEAM_STAT) : (s.beamCmdEnded n).reg a = s.reg a := by
  rw [State.beamCmdEnded, State.setBit_eq, State.reg_setReg_ne _ _ ha]
  exact s.advance_reg n a

theorem State.beamCmdEnded_freeEntry (s : State) (n : Nat) : (s.beamCmdEnded n).freeEntry = s.freeEntry :=
  s.beamCmdEnded_field n (·.freeEntry) fun _ _ _ _ => rfl
theorem State.beamCmdEnded_beam (s : State) (n id : Nat) : (s.beamCmdEnded n).beam id = s.beam id :=
  s.beamCmdEnded_field n (·.beam id) fun _ _ _ _ => rfl

/-- The operation of a command that has come to its end. -/
def State.beamOperation (u : State) (op id : Nat) : State :=
  if op ≤ 2 then match u.freeEntry with
    | none => u.tableFull.showBeamResult 1
    | some e => (u.defineBeam u.tb.toNat id (op == 2) u.beamData e).showBeamUsed e
  else match u.beam id with
    | none => u.showBeamResult 2
    | some b => if op = 3 then (u.deleteBeam u.tb.toNat id).showBeamUsed b.entry else (u.showEntry u b.entry).showBeamUsed b.entry

theorem State.beamCmdDone_eq {s : State} {op id t after : Nat} (hcmd : s.beamCmd = some (op, id, t)) (hafter : after ≤ 1024) (hlow : 1 ≤ op)
    (hhigh : op ≤ 4) : s.beamCmdDone after = (s.beamCmdEnded (t + after)).beamOperation op id := by
  unfold State.beamCmdDone State.beamOperation
  rw [hcmd, min_eq_right hafter]
  dsimp only
  rw [← State.beamCmdEnded]
  by_cases hdef : op ≤ 2
  · rw [if_pos hdef]
    obtain rfl | rfl : op = 1 ∨ op = 2 := by omega
    all_goals cases (s.beamCmdEnded (t + after)).freeEntry <;> rfl
  · rw [if_neg hdef]
    obtain rfl | rfl : op = 3 ∨ op = 4 := by omega
    · cases (s.beamCmdEnded (t + after)).beam id <;> [rfl; exact (if_pos rfl).symm]
    · cases (s.beamCmdEnded (t + after)).beam id <;> [rfl; exact (if_neg (by decide)).symm]

section
variable {u : State} {op id : Nat}

theorem State.beamOperation_define {e : Nat} (hop : op ≤ 2) (hfree : u.freeEntry = some e) :
    u.beamOperation op id = (u.defineBeam u.tb.toNat id (op == 2) u.beamData e).showBeamUsed e := by
  rw [State.beamOperation, if_pos hop, hfree]

theorem State.beamOperation_full (hop : op ≤ 2) (hfree : u.freeEntry = none) : u.beamOperation op id = u.tableFull.showBeamResult 1 := by
  rw [State.beamOperation, if_pos hop, hfree]

theorem State.beamOperation_delete {b : BeamSlot} (hb : u.beam id = some b) :
    u.beamOperation 3 id = (u.deleteBeam u.tb.toNat id).showBeamUsed b.entry := by
  rw [State.beamOperation, if_neg (by decide), hb]
  exact if_pos rfl

theorem State.beamOperation_read {b : BeamSlot} (hb : u.beam id = some b) :
    u.beamOperation 4 id = (u.showEntry u b.entry).showBeamUsed b.entry := by
  rw [State.beamOperation, if_neg (by decide), hb]
  exact if_neg (by decide)

theorem State.beamOperation_undefined (hop : 3 ≤ op) (hb : u.beam id = none) : u.beamOperation op id = u.showBeamResult 2 := by
  rw [State.beamOperation, if_neg (by omega), hb]
end

/-! ### What a command that has ended leaves (R138, R140, R143) -/

/-- No command is in progress, and it is instant `n`. -/
def State.BeamIdleAt (s : State) (n : Nat) : Prop :=
  s.beamCmd = none ∧ s.bit SLALOM_BEAM_STAT SLALOM_BEAM_STAT_BUSY = false ∧ s.now = n

section
variable {s t : State} {n : Nat}

theorem State.beamCmdEnded_idle (s : State) (n : Nat) : (s.beamCmdEnded n).BeamIdleAt (max s.now n) :=
  ⟨rfl, State.bit_setBit _ _ _ _ (by decide) rfl, s.advance_now n⟩

/-- A field of BEAM_STAT below BUSY leaves it. -/
theorem State.BeamIdleAt.setFld (h : s.BeamIdleAt n) (f : Fld) (v : Nat) (hf : f.lo + f.width ≤ 31) :
    (s.setFld SLALOM_BEAM_STAT f v).BeamIdleAt n := by
  obtain ⟨hcmd, hbusy, hnow⟩ := h
  refine ⟨hcmd, ?_, hnow⟩
  rw [← hbusy]
  exact congrArg (· != 0) (s.fld_setFld_apart _ f SLALOM_BEAM_STAT_BUSY v (.inl hf) (by decide))

theorem State.BeamIdleAt.showBeamResult (h : s.BeamIdleAt n) (r : Nat) : (s.showBeamResult r).BeamIdleAt n := h.setFld _ r (by decide)
theorem State.BeamIdleAt.showBeamUsed (h : s.BeamIdleAt n) (e : Nat) : (s.showBeamUsed e).BeamIdleAt n :=
  (h.showBeamResult 0).setFld _ e (by decide)

theorem State.BeamIdleAt.work (h : s.BeamIdleAt n) (hw : s.WorkOf t) : t.BeamIdleAt n := by
  rwa [hw.field (·.BeamIdleAt n) fun _ _ _ _ _ => rfl]

theorem State.BeamIdleAt.frame {l : List Nat} (h : s.BeamIdleAt n) (hf : Frame l s t) (hl : SLALOM_BEAM_STAT ∉ l) : t.BeamIdleAt n := by
  obtain ⟨hcmd, hbusy, hnow⟩ := h
  exact ⟨(hf.field (·.beamCmd) fun _ => rfl).trans hcmd, by rwa [State.bit, hf.reg hl (by decide), ← State.bit],
    (hf.field (·.now) fun _ => rfl).trans hnow⟩

theorem State.tableFull_frame (s : State) : Frame [SLALOM_BEAM_TABLE_FULL, SLALOM_CNT_FLAGS] s s.tableFull :=
  ((Frame.refl _ s).bump _ _ _ _ (by simp) (by simp)).raise _

theorem State.BeamIdleAt.defineBeam (h : s.BeamIdleAt n) (a id : Nat) (pinned : Bool) (words : List Word) (e : Nat) :
    (s.defineBeam a id pinned words e).BeamIdleAt n := by
  refine State.BeamIdleAt.work ?_ (s.defineBeam_work a id pinned words e)
  rwa [State.storeEntry_field _ e words (·.BeamIdleAt n) fun _ _ _ => rfl]

theorem State.BeamIdleAt.deleteBeam (h : s.BeamIdleAt n) (a : Nat) {id : Nat} {b : BeamSlot} (hb : s.beam id = some b) :
    (s.deleteBeam a id).BeamIdleAt n :=
  State.BeamIdleAt.work (s := (s.setEntry b.entry .retiring).setBeam id none) h (s.deleteBeam_work a hb)

theorem beamData_ne_beamStat (w : Nat) : SLALOM_BEAM_STAT ≠ SLALOM_BEAM_DATA w := by
  simp only [SLALOM_BEAM_STAT, SLALOM_BEAM_DATA]
  omega

theorem State.BeamIdleAt.showEntry (h : s.BeamIdleAt n) (e : Nat) : (s.showEntry t e).BeamIdleAt n := by
  obtain ⟨hcmd, hbusy, hnow⟩ := h
  refine ⟨?_, ?_, ?_⟩
  · rw [s.showEntry_field t e (·.beamCmd) fun _ _ _ => rfl, hcmd]
  · rwa [State.bit, s.showEntry_reg t e fun w _ => beamData_ne_beamStat w, ← State.bit]
  · rw [s.showEntry_field t e (·.now) fun _ _ _ => rfl, hnow]

theorem State.showBeamResult_result (s : State) {r : Nat} (hr : r < 8) : (s.showBeamResult r).fld SLALOM_BEAM_STAT SLALOM_BEAM_STAT_RESULT = r :=
  (s.fld_setFld _ _ r (by decide)).trans (Nat.mod_eq_of_lt hr)

theorem State.showBeamUsed_result (s : State) (e : Nat) : (s.showBeamUsed e).fld SLALOM_BEAM_STAT SLALOM_BEAM_STAT_RESULT = 0 :=
  (State.fld_setFld_apart _ _ _ _ _ (by decide) (by decide)).trans (s.showBeamResult_result (by decide))

theorem State.showBeamUsed_entry (s : State) {e : Nat} (he : e < 8192) : (s.showBeamUsed e).fld SLALOM_BEAM_STAT SLALOM_BEAM_STAT_ENTRY = e :=
  (State.fld_setFld _ _ _ e (by decide)).trans (Nat.mod_eq_of_lt he)

theorem State.showBeamUsed_reg (s : State) (e : Nat) {a : Nat} (ha : a ≠ SLALOM_BEAM_STAT) : (s.showBeamUsed e).reg a = s.reg a := by
  rw [State.showBeamUsed, State.setFld_eq, State.reg_setReg_ne _ _ ha, State.showBeamResult, State.setFld_eq, State.reg_setReg_ne _ _ ha]

theorem State.showBeamUsed_field (s : State) (e : Nat) {α : Type} (m : State → α) (hm : ∀ (u : State) a w, m (u.setReg a w) = m u) :
    m (s.showBeamUsed e) = m s := by
  rw [State.showBeamUsed, State.setFld_eq, hm, State.showBeamResult, State.setFld_eq, hm]

theorem State.freeEntry_lt {e : Nat} (h : s.freeEntry = some e) : e < 8192 := by
  rw [State.freeEntry] at h
  exact List.mem_range.1 (List.mem_of_find?_eq_some h)

theorem State.beamData_getD (s : State) {w : Nat} (hw : w < 64) : s.beamData.getD w 0 = s.reg (SLALOM_BEAM_DATA w) := by
  simp [State.beamData, hw]
end

section
variable {u : State} {op id : Nat}

/-- Whatever the operation, no command is in progress after it. -/
theorem State.BeamIdleAt.beamOperation {n : Nat} (h : u.BeamIdleAt n) (hop : op ≤ 4) : (u.beamOperation op id).BeamIdleAt n := by
  by_cases hdef : op ≤ 2
  · cases hfree : u.freeEntry with
    | none =>
      rw [State.beamOperation_full hdef hfree]
      exact (h.frame u.tableFull_frame (by decide)).showBeamResult 1
    | some e =>
      rw [State.beamOperation_define hdef hfree]
      exact (h.defineBeam ..).showBeamUsed e
  · cases hb : u.beam id with
    | none =>
      rw [State.beamOperation_undefined (by omega) hb]
      exact h.showBeamResult 2
    | some b =>
      obtain rfl | rfl : op = 3 ∨ op = 4 := by omega
      · rw [State.beamOperation_delete hb]
        exact (h.deleteBeam _ hb).showBeamUsed _
      · rw [State.beamOperation_read hb]
        exact (h.showEntry _).showBeamUsed _

/-- R138, R141: the ID names the entry, which holds BEAM_DATA; no other entry changes. -/
theorem State.beamOperation_defined {e : Nat} (hop : op ≤ 2) (hfree : u.freeEntry = some e) :
    let v := u.beamOperation op id
    v.beam id = some ⟨e, op == 2⟩ ∧ (∀ w < 64, v.weight (beamWordAt e w) = u.reg (SLALOM_BEAM_DATA w)) ∧
      (∀ k, (∀ w < 64, k ≠ beamWordAt e w) → v.weight k = u.weight k) ∧
      v.fld SLALOM_BEAM_STAT SLALOM_BEAM_STAT_RESULT = 0 ∧ v.fld SLALOM_BEAM_STAT SLALOM_BEAM_STAT_ENTRY = e := by
  intro v
  have hv : v = _ := State.beamOperation_define hop hfree
  have hwork := u.defineBeam_work u.tb.toNat id (op == 2) u.beamData e
  have hweight : ∀ k, v.weight k = (((u.setEntry e .current).setBeam id (some ⟨e, op == 2⟩)).storeEntry e u.beamData).weight k := fun k => by
    rw [hv, State.showBeamUsed_field _ e (·.weight k) fun _ _ _ => rfl]
    exact hwork.field (·.weight k) fun _ _ _ _ _ => rfl
  refine ⟨?_, fun w hw => ?_, fun k hk => ?_, ?_, ?_⟩
  · rw [hv, State.showBeamUsed_field _ e (·.beam id) fun _ _ _ => rfl, hwork.field (·.beam id) fun _ _ _ _ _ => rfl,
      State.storeEntry_field _ e _ (·.beam id) fun _ _ _ => rfl, State.beam_setBeam, if_pos rfl]
  · rw [hweight, State.storeEntry_weight _ e _ hw, u.beamData_getD hw]
  · rw [hweight, State.storeEntry_weight_apart _ e _ hk]
    rfl
  · rw [hv, State.showBeamUsed_result]
  · rw [hv, State.showBeamUsed_entry _ (State.freeEntry_lt hfree)]

/-- R140: a definition that finds no free entry changes no beam. -/
theorem State.beamOperation_rejected (hop : op ≤ 2) (hfree : u.freeEntry = none) :
    let v := u.beamOperation op id
    v.beamMap = u.beamMap ∧ v.weights = u.weights ∧ v.fld SLALOM_BEAM_STAT SLALOM_BEAM_STAT_RESULT = 1 := by
  intro v
  rw [show v = _ from State.beamOperation_full hop hfree]
  exact ⟨u.tableFull_frame.field (·.beamMap) fun _ => rfl, u.tableFull_frame.field (·.weights) fun _ => rfl,
    State.showBeamResult_result _ (by decide)⟩

/-- R138: a deleted ID names no entry. -/
theorem State.beamOperation_deleted {b : BeamSlot} (hop : op = 3) (hb : u.beam id = some b) :
    let v := u.beamOperation op id
    v.beam id = none ∧ v.weights = u.weights ∧ v.fld SLALOM_BEAM_STAT SLALOM_BEAM_STAT_RESULT = 0 := by
  subst hop
  intro v
  have hwork := u.deleteBeam_work u.tb.toNat hb
  rw [show v = _ from State.beamOperation_delete hb]
  refine ⟨?_, ?_, State.showBeamUsed_result ..⟩
  · rw [State.showBeamUsed_field _ _ (·.beam id) fun _ _ _ => rfl, hwork.field (·.beam id) fun _ _ _ _ _ => rfl, State.beam_setBeam, if_pos rfl]
  · rw [State.showBeamUsed_field _ _ (·.weights) fun _ _ _ => rfl, hwork.field (·.weights) fun _ _ _ _ _ => rfl]
    rfl

/-- R143: BEAM_DATA shows the entry of the ID. -/
theorem State.beamOperation_shown {b : BeamSlot} (hop : op = 4) (hb : u.beam id = some b) :
    let v := u.beamOperation op id
    (∀ w < 64, v.reg (SLALOM_BEAM_DATA w) = u.weight (beamWordAt b.entry w)) ∧ v.weights = u.weights ∧ v.beamMap = u.beamMap ∧
      v.fld SLALOM_BEAM_STAT SLALOM_BEAM_STAT_RESULT = 0 := by
  subst hop
  intro v
  rw [show v = _ from State.beamOperation_read hb]
  refine ⟨fun w hw => ?_, ?_, ?_, State.showBeamUsed_result ..⟩
  · rw [State.showBeamUsed_reg _ _ (beamData_ne_beamStat w).symm, State.showEntry_data _ _ _ hw]
  · rw [State.showBeamUsed_field _ _ (·.weights) fun _ _ _ => rfl, State.showEntry_field _ _ _ (·.weights) fun _ _ _ => rfl]
  · rw [State.showBeamUsed_field _ _ (·.beamMap) fun _ _ _ => rfl, State.showEntry_field _ _ _ (·.beamMap) fun _ _ _ => rfl]

/-- R143: a deletion or a read of an undefined ID does nothing. -/
theorem State.beamOperation_of_undefined (hop : 3 ≤ op) (hb : u.beam id = none) :
    let v := u.beamOperation op id
    v.beamMap = u.beamMap ∧ v.weights = u.weights ∧ v.fld SLALOM_BEAM_STAT SLALOM_BEAM_STAT_RESULT = 2 := by
  intro v
  rw [show v = _ from State.beamOperation_undefined hop hb]
  exact ⟨rfl, rfl, State.showBeamResult_result _ (by decide)⟩
end

/-! ### The control commands accepted by then (R144) -/

theorem State.advance_advance (s : State) (n : Nat) : (s.advance n).advance n = s.advance n := by
  rw [State.advance.eq_def (s.advance n), if_neg (by rw [s.advance_now]; omega)]

theorem State.hostBeamDone_eq {s : State} {op id t after : Nat} (hcmd : s.beamCmd = some (op, id, t)) (hafter : after ≤ 1024) :
    let v := s.advance (t + after)
    s.hostBeamDone after = (v.ctrlDue v.tb.toNat).beamCmdDone after := by
  rw [State.hostBeamDone, hcmd]
  dsimp only
  rw [min_eq_right hafter]

/-- Where no control command waits, the host's acts alone. -/
theorem State.hostBeamDone_alone {s : State} {op id t after : Nat} (hcmd : s.beamCmd = some (op, id, t)) (hafter : after ≤ 1024)
    (hctrl : s.ctrlCmds = []) : s.hostBeamDone after = s.beamCmdDone after := by
  have hnone : (s.advance (t + after)).ctrlDue (s.advance (t + after)).tb.toNat = s.advance (t + after) := by
    rw [State.ctrlDue, s.advance_field _ (·.ctrlCmds) fun _ _ _ => rfl, hctrl, State.each_nil]
  have hcmd' : (s.advance (t + after)).beamCmd = some (op, id, t) := (s.advance_field _ (·.beamCmd) fun _ _ _ => rfl).trans hcmd
  rw [State.hostBeamDone_eq hcmd hafter, hnone, State.beamCmdDone, State.beamCmdDone, hcmd, hcmd', min_eq_right hafter]
  dsimp only
  rw [State.advance_advance]

/-- What the judging of MSI vectors leaves. -/
theorem State.settle_field (s : State) {α : Type} (m : State → α) (hm : ∀ (x : State) o p, m { x with out := o, msiPend := p } = m x) :
    m s.settle = m s := by
  obtain ⟨o, h⟩ := s.settle_eq
  rw [h, hm]

theorem Answers.of_unsettled {i : Instr} {s u : State} {Q : State → Prop} (h : exec i s = done u)
    (hQ : ∀ (x : State) o p, Q { x with out := o, msiPend := p } = Q x) (hq : Q u) : Answers i s Q :=
  .of_done h ((u.settle_field Q hQ).mpr hq)

/-! ### The statement -/

/-- Settles O17: the access of a command or of BEAM_DATA by BUSY, and the end of a command by its operation and by what it finds. -/
theorem beamCommands : Obligations.BeamCommands := by
  intro s id after a taken
  have hafter : (after : Nat) ≤ 1024 := Nat.le_of_lt_succ after.2
  refine ⟨fun hans hidle => ?_, fun hans hbusy i hi => ?_, fun w hans hbusy x lat ofs raced => exec_beamDataWrite_busy hans hbusy x lat ofs raced,
    fun op t hcmd => ⟨?_, fun hlow hhigh hctrl => ?_⟩⟩
  · have htaken : ∀ op, 1 ≤ op ∧ op ≤ 4 → done (s.guarded SLALOM_BEAM_CMD fun u => u.beamCmdWrite op id.toNat) = .next (taken op) := by
      intro op hop
      rw [State.guarded_of hans, State.beamCmdWrite_idle hidle hop]
      rfl
    exact ⟨htaken 1 (by decide), htaken 2 (by decide), htaken 3 (by decide), htaken 4 (by decide)⟩
  · have hbarred : ∀ op, done (s.guarded SLALOM_BEAM_CMD fun u => u.beamCmdWrite op id.toNat) = .next s.accessError.settle := fun op => by
      rw [State.guarded_of hans, State.beamCmdWrite_busy hbusy]
      rfl
    simp only [List.mem_cons, List.not_mem_nil, or_false] at hi
    rcases hi with rfl | rfl | rfl | rfl
    · exact hbarred 1
    · exact hbarred 2
    · exact hbarred 3
    · exact hbarred 4
  · rw [exec_beamCmdDone, State.hostBeamDone_eq hcmd hafter]
    rfl
  · refine .of_unsettled (exec_beamCmdDone after s) (fun _ _ _ => rfl) ?_
    have hidle := s.beamCmdEnded_idle (t + after)
    have hfree := s.beamCmdEnded_freeEntry (t + after)
    have hbeam := s.beamCmdEnded_beam (t + after) id.toNat
    have hmap : (s.beamCmdEnded (t + after)).beamMap = s.beamMap := s.beamCmdEnded_field _ (·.beamMap) fun _ _ _ _ => rfl
    have hweights : (s.beamCmdEnded (t + after)).weights = s.weights := s.beamCmdEnded_field _ (·.weights) fun _ _ _ _ => rfl
    have hweight : ∀ k, (s.beamCmdEnded (t + after)).weight k = s.weight k := fun k => s.beamCmdEnded_field _ (·.weight k) fun _ _ _ _ => rfl
    have hdata : ∀ w, (s.beamCmdEnded (t + after)).reg (SLALOM_BEAM_DATA w) = s.reg (SLALOM_BEAM_DATA w) := fun w =>
      s.beamCmdEnded_reg _ (beamData_ne_beamStat w).symm
    rw [State.hostBeamDone_alone hcmd hafter hctrl, State.beamCmdDone_eq hcmd hafter hlow hhigh]
    simp only [← hfree, ← hbeam, ← hmap, ← hweights, ← hweight, ← hdata]
    obtain ⟨hnone, hbusy, hnow⟩ := hidle.beamOperation hhigh
    exact ⟨hnone, hbusy, hnow, fun e hop => State.beamOperation_defined hop, fun hop => State.beamOperation_rejected hop,
      fun b => State.beamOperation_deleted, fun b => State.beamOperation_shown, fun hop => State.beamOperation_of_undefined hop⟩

end Sys2Proof.Machine
end

section
/-!
PROOFS. Slalom (chapter 05): where two statements fail. A change of a section-symbol reaches every one of its key (R149), and the words of a symbol
lie 4,096 apart from path to path (R134, R145).
-/
namespace Sys2Proof.Machine
open Reg F

theorem exec_commitHorizon (ul : Bool) (c : Fin 4) (s : State) : exec (.commitHorizon ul c) s = done (s.commitDue ul c) := rfl

/-! ### Two section-symbols of one key -/

/-- An uplink section-symbol whose item completes before its horizon. -/
def inPipeline : SecSym := { key := ⟨true, 1, 7, 31⟩, desc := { layer := 3, nrb := 1, version := 2 }, stage := .computing }

/-- One of the same key, no longer pending, with another description. -/
def dispatchedTwin : SecSym := { key := ⟨true, 1, 7, 31⟩, desc := { layer := 3, nrb := 1, version := 1 }, stage := .dispatched }

def twoOfOneKey : State := { mode := .onAir, secs := [inPipeline, dispatchedTwin] }

/-- The item's completion at the horizon marks the twin complete too; it is judged after the first, and its description is the one committed. -/
theorem twoOfOneKey_commits_twin :
    ((twoOfOneKey.commitDue true (1 : Fin 4)).sec inPipeline.key).map (·.used) = some dispatchedTwin.desc := by decide +kernel

theorem twoOfOneKey_in_time :
    (twoOfOneKey.advanceTb (twoOfOneKey.horizonAt true 1 31)).tbAt inPipeline.doneAt ≤ twoOfOneKey.horizonAt true 1 31 := by
  decide +kernel

/-- Refutes O18: its clause on the horizon asks that one section-symbol be pending and the first of its key, not that it be the only one of its key,
though section IDs are unique within one carrier, direction and symbol (chapter 05). With a dispatched one of the same key behind it, that one's
description is committed in place of its own. -/
theorem not_slalomWork : ¬ Obligations.SlalomWork := by
  intro h
  obtain ⟨-, -, hcommit⟩ := h twoOfOneKey inPipeline rfl (by decide)
  obtain ⟨u, hrun, -, ⟨y, hy, -, hform⟩, -⟩ := hcommit true 1 (by decide) rfl rfl rfl (by simp [twoOfOneKey])
  obtain ⟨hused, -⟩ := hform ⟨.inl rfl, twoOfOneKey_in_time⟩
  rw [exec_commitHorizon] at hrun
  obtain rfl := Host.Outcome.next.inj hrun
  have htwin := twoOfOneKey_commits_twin
  rw [State.sec, State.settle_secs, ← State.sec] at hy
  rw [hy, Option.map_some, hused] at htwin
  exact absurd htwin (by decide)

/-! ### A carrier of 342 resource blocks -/

/-- A committed downlink section-symbol of one resource block, of beam entry 0. -/
def firstBlockSec : SecSym :=
  { key := ⟨false, 0, 7, 2⟩, desc := { nrb := 1 }, stage := .committed, used := { nrb := 1 }, weights := .entry 0 }

/-- CARCFG_0 of tile 0 enables a carrier of NRB 342: the field's 9 bits hold it, and R72 does not allow it. Path 1 has a
weight and the section layer data at subcarrier 0. -/
def wideCarrier : State :=
  { mode := .onAir, regs := [(TXCH_CARCFG 0 0, 0x81567701)], secs := [firstBlockSec], weights := [(beamWordAt 0 1, 0x4000)],
    layerData := [(layerKey 2 0 0 0, some 0x4000)] }

/-- The word of path 0 at subcarrier 4,096 is kept where that of path 1 at subcarrier 0 is. -/
theorem dlKey_overlap (n c p : Nat) : dlKey n c p 4096 = dlKey n c (p + 1) 0 := by
  simp only [dlKey]
  omega

/-- The two words differ. -/
theorem wideCarrier_words_differ : let v := wideCarrier.advanceTb (wideCarrier.horizonAt false 0 2 + 0)
    (v.dlWord [firstBlockSec] 0 2 0 4096).1 ≠ (v.dlWord [firstBlockSec] 0 2 1 0).1 := by decide +kernel

/-- Refutes O19: its clause on dispatch bounds NRB by no rule. With NRB 342 a symbol has 4,104 subcarriers, and the statement asks for two different
words at one place: that of path 0 at subcarrier 4,096, and that of path 1 at subcarrier 0. -/
theorem not_slalomOutput : ¬ Obligations.SlalomOutput := by
  intro h
  let v := wideCarrier.advanceTb (wideCarrier.horizonAt false 0 2 + 0)
  obtain ⟨hdispatch, -⟩ := h wideCarrier 0
  obtain ⟨hwords, -⟩ := hdispatch 0 rfl (by decide +kernel)
  obtain ⟨u, -, htimely, -⟩ := hwords (by decide +kernel)
  obtain ⟨-, hat⟩ := htimely (by decide +kernel) 0 (by decide +kernel) (by decide +kernel) (by decide +kernel)
  have hlast : u.txWord (dlKey 2 0 0 4096) = some (v.dlWord [firstBlockSec] 0 2 0 4096).1 := hat 0 (by decide) 4096 (by decide +kernel)
  have hnext : u.txWord (dlKey 2 0 1 0) = some (v.dlWord [firstBlockSec] 0 2 1 0).1 := hat 1 (by decide) 0 (by decide +kernel)
  rw [dlKey_overlap, hnext] at hlast
  exact wideCarrier_words_differ (Option.some.inj hlast).symm

end Sys2Proof.Machine
end

section
/-!
PROOFS. Predistortion tables, banks and swaps (R167 to R170, R186, R188).
-/
namespace Sys2Proof.Machine
open Reg F

theorem exec_dpdSwapArmWrite (t : Fin 4) (pm : BitVec 16) (s : State) :
    exec (.dpdSwapArmWrite t pm) s = done (s.guarded (TDPD_SWAP_ARM t) fun s => s.swapArm t pm.toNat) := rfl
theorem exec_dpdSwapApply (t : Fin 4) (s : State) : exec (.dpdSwapApply t) s = done (s.swapApply t) := rfl
theorem exec_dpdTblDataWrite (t : Fin 4) (w : Word) (s : State) :
    exec (.dpdTblDataWrite t w) s = done (s.guarded (TDPD_TBL_DATA t) fun s => s.tblWrite t w) := rfl
theorem exec_dpdTblDataRead (t : Fin 4) (s : State) :
    exec (.dpdTblDataRead t) s = done (s.guardedRead (TDPD_TBL_DATA t) fun s => s.tblRead t) := rfl

/-! ### The arming of swaps (R169) -/

/-- One path armed for the boundary B. -/
def State.armSwap (s : State) (t B i : Nat) : State :=
  (s.setMaskBit (TDPD_SWAP_STAT t) TDPD_SWAP_STAT_PENDING i true).setDpdSwapAt (pathKey t i) B

section
variable (s : State) (t m : Nat)

/-- The paths that an arming arms: those of the mask that are not armed yet. -/
theorem State.mem_swapArmed {i : Nat} (hi : i < 16) :
    (∃ x ∈ (onesOf 16 m).filter fun i => !s.swapPending t i, x = i) ↔ m.testBit i = true ∧ s.swapPending t i = false := by
  simp [onesOf, hi, and_comm]

theorem State.armSwap_pending (B : Nat) {i j : Nat} (hi : i < 16) (hj : j < 16) :
    (s.armSwap t B i).swapPending t j = if i = j then true else s.swapPending t j :=
  s.maskBit_setMaskBit _ _ (by decide) hi hj true

theorem State.armSwap_at (B i j : Nat) :
    (s.armSwap t B i).dpdSwapAt (pathKey t j) = if i = j then B else s.dpdSwapAt (pathKey t j) := by
  rw [State.armSwap, State.dpdSwapAt_setDpdSwapAt]
  simp only [pathKey_inj, @eq_comm _ j i]
  rfl

theorem State.swapArm_pending {i : Nat} (hi : i < 16) :
    (s.swapArm t m).swapPending t i = (m.testBit i || s.swapPending t i) := by
  have hread : (s.swapArm t m).swapPending t i =
      if ∃ x ∈ (onesOf 16 m).filter fun i => !s.swapPending t i, x = i then true else s.swapPending t i :=
    State.each_reading (I := fun _ => True) (r := (·.swapPending t i)) (g := fun _ => true) (fun _ => rfl) (fun _ _ _ => trivial)
      (fun u x hx _ => u.armSwap_pending t _ (lt_of_mem_onesOf (List.mem_of_mem_filter hx)) hi) trivial
  rw [hread]
  simp only [s.mem_swapArmed t m hi]
  cases m.testBit i <;> cases s.swapPending t i <;> simp

theorem State.swapArm_at {i : Nat} (hi : i < 16) : (s.swapArm t m).dpdSwapAt (pathKey t i) =
    if m.testBit i = true ∧ s.swapPending t i = false then s.swapBoundary t else s.dpdSwapAt (pathKey t i) := by
  simp only [← s.mem_swapArmed t m hi]
  exact State.each_reading (I := fun _ => True) (r := (·.dpdSwapAt (pathKey t i))) (g := fun _ => s.swapBoundary t) (fun _ => rfl)
    (fun _ _ _ => trivial) (fun u x _ _ => u.armSwap_at t _ x i) trivial

/-- Arming changes the bits of SWAP_STAT and the instants armed for, nothing else. -/
theorem State.swapArm_reg {a : Nat} (ha : a ≠ TDPD_SWAP_STAT t) : (s.swapArm t m).reg a = s.reg a :=
  State.reg_each _ _ _ a fun u _ => u.reg_setReg_ne _ ha

theorem State.swapArm_rest : ∃ r x, s.swapArm t m = { s with regs := r, dpdSwapAts := x } :=
  State.each_keeps (P := fun u => ∃ r x, u = { s with regs := r, dpdSwapAts := x })
    (fun _ i ⟨_, _, hu⟩ => ⟨_, _, congrArg (·.armSwap t (s.swapBoundary t) i) hu⟩) _
    ⟨s.regs, s.dpdSwapAts, rfl⟩

theorem State.swapArm_keeps : Keeps [TDPD_SWAP_STAT t] s (s.swapArm t m) := by
  refine ⟨fun a ha _ => s.swapArm_reg t m (fun h => ha (List.mem_singleton.2 h)), ?_⟩
  obtain ⟨_, _, h⟩ := s.swapArm_rest t m
  rw [h]
  exact ⟨rfl, rfl, rfl, rfl, rfl, rfl, rfl, rfl, fun _ => rfl⟩
end

/-! ### Table writes that begin (R186, R189) -/

theorem SameMemory.trans {s u v : State} (h : SameMemory s u) (h' : SameMemory u v) : SameMemory s v := by
  obtain ⟨hsram, hdram, hweights, htables, hcoefs, hprogram, hbuffer, hflash, himem⟩ := h
  obtain ⟨hsram', hdram', hweights', htables', hcoefs', hprogram', hbuffer', hflash', himem'⟩ := h'
  exact ⟨hsram'.trans hsram, hdram'.trans hdram, hweights'.trans hweights, htables'.trans htables, hcoefs'.trans hcoefs,
    hprogram'.trans hprogram, hbuffer'.trans hbuffer, hflash'.trans hflash, fun p => (himem' p).trans (himem p)⟩

theorem State.advanceTb_sameMemory (s : State) (n : Nat) : SameMemory s (s.advanceTb n) := ((Keeps.refl [] s).advanceTb n).2

/-- `u` is `s` but for the locks of shadow banks and for the steps of the solver and of a coefficient command. -/
structure State.LocksOnly (s u : State) : Prop where
  rest : { u with regs := s.regs, solver := s.solver, coefCmd := s.coefCmd } = s
  reg : ∀ a, (∀ q, a ≠ TDPD_SWAP_STAT q) → u.reg a = s.reg a
  pending : ∀ t i, u.swapPending t i = s.swapPending t i

section
variable {s u : State}

theorem State.LocksOnly.refl (s : State) : s.LocksOnly s := ⟨rfl, fun _ _ => rfl, fun _ _ => rfl⟩

theorem State.LocksOnly.lockPath (h : s.LocksOnly u) (path : Nat) (b : Bool) : s.LocksOnly (u.lockPath path b) := by
  refine ⟨h.rest, fun a ha => ?_, fun t i => ?_⟩
  · rw [← h.reg a ha]
    exact u.reg_setReg_ne _ (ha _)
  · rw [← h.pending t i]
    refine congrArg (fun n : Nat => n.testBit i) ?_
    by_cases ht : TDPD_SWAP_STAT t = TDPD_SWAP_STAT (path / 16)
    · rw [ht]
      exact u.fld_setFld_apart _ _ _ _ (.inl (show 0 + path % 16 + 1 ≤ 16 by omega)) (by decide)
    · exact u.fld_setFld_ne _ _ _ ht

theorem State.LocksOnly.step (h : s.LocksOnly u) (x : Option SolverStep) (c : Option CoefCmd) :
    s.LocksOnly { u with solver := x, coefCmd := c } := ⟨h.rest, h.reg, h.pending⟩

theorem State.LocksOnly.field (h : s.LocksOnly u) {α : Type} (m : State → α)
    (hm : ∀ (x : State) r v c, m { x with regs := r, solver := v, coefCmd := c } = m x) : m u = m s := by
  rw [← hm u s.regs s.solver s.coefCmd, h.rest]

theorem State.LocksOnly.sameMemory (h : s.LocksOnly u) : SameMemory s u :=
  ⟨h.field (·.capSram) fun _ _ _ _ => rfl, h.field (·.dram) fun _ _ _ _ => rfl, h.field (·.weights) fun _ _ _ _ => rfl,
    h.field (·.dpdTbl) fun _ _ _ _ => rfl, h.field (·.coefs) fun _ _ _ _ => rfl, h.field (·.pmem) fun _ _ _ _ => rfl,
    h.field (·.bufWords) fun _ _ _ _ => rfl, h.field (·.flash) fun _ _ _ _ => rfl, fun p => h.field (fun x => (x.glide p).imem) fun _ _ _ _ => rfl⟩
end

/-- The solver's table write begins, or its job ends in a freeze, once no swap of its path is pending. -/
def State.awaitEnds (s : State) : State :=
  match s.solver with
  | some (.await path nmse coefs) =>
    if s.swapPending (path / 16) (path % 16) then s
    else if s.dpdFrozen then (s.endJob path 6 nmse).solverKick
    else { (s.lockPath path true) with solver := some (.write path (s.now + s.writeTime path) nmse coefs) }
  | _ => s

/-- So does the table write of a coefficient command. -/
def State.cmdBegins (s : State) : State :=
  match s.coefCmd with
  | some c =>
    if c.stop.isSome || s.swapPending (c.path / 16) (c.path % 16) then s
    else { (s.lockPath c.path true) with coefCmd := some { c with stop := some (s.now + s.writeTime c.path) } }
  | none => s

theorem State.beginWrites_eq (s : State) : s.beginWrites = s.awaitEnds.cmdBegins := rfl

theorem State.LocksOnly.cmdBegins {s u : State} (h : s.LocksOnly u) : s.LocksOnly u.cmdBegins := by
  unfold State.cmdBegins
  split
  · split
    · exact h
    · exact (h.lockPath _ true).step _ _
  · exact h

/-- No job ends where updates are not frozen. -/
theorem State.awaitEnds_locksOnly {s : State} (hfree : s.dpdFrozen = false) : s.LocksOnly s.awaitEnds := by
  unfold State.awaitEnds
  split
  · rw [hfree, if_neg Bool.false_ne_true]
    split
    · exact .refl s
    · exact ((State.LocksOnly.refl s).lockPath _ true).step _ _
  · exact .refl s

theorem State.beginWrites_locksOnly {s : State} (hfree : s.dpdFrozen = false) : s.LocksOnly s.beginWrites :=
  (State.awaitEnds_locksOnly hfree).cmdBegins

/-! ### A swap (R168 to R170) -/

/-- The banks of a path change places: its selection, its PENDING bit, its ACTIVE bit. -/
def State.swapBanks (s : State) (t i : Nat) : State :=
  ((s.setDpdSel (pathKey t i) (!s.dpdSel (pathKey t i))).setMaskBit (TDPD_SWAP_STAT t) TDPD_SWAP_STAT_PENDING i false).setMaskBit (TDPD_ENABLE t)
    TDPD_ENABLE_ACTIVE i (s.maskBit (TDPD_ENABLE t) TDPD_ENABLE_SHADOW i)

/-- The swap of one path at its boundary, with the marks it leaves on the path, on its job and on its acquisitions. -/
def State.swapPath (s : State) (t i : Nat) : State :=
  let p := pathKey t i
  let u := s.swapBanks t i
  let awaited := match u.solver with | some (.await q _ _) => q == p | _ => false
  let u := u.modTxPath p fun x => { x with swapAt := s.now, swapWas := s.maskBit (TDPD_ENABLE t) TDPD_ENABLE_ACTIVE i }
  let v := { u with jobs := u.jobs.map fun (j : Job) => if j.path = p && !awaited then { j with swapped := true } else j }
  v.each [0, 1] fun v r => v.modDfly (2 * t + r) fun x => if x.train = some i ∧ x.trainAt = none then { x with swapped := true } else x

section
variable (s : State) (t i : Nat)

theorem State.swapPath_eq : ∃ p j d, s.swapPath t i = { s.swapBanks t i with txPaths := p, jobs := j, dflies := d } := ⟨_, _, _, rfl⟩

theorem State.swapPath_sameMemory : SameMemory s (s.swapPath t i) := by
  obtain ⟨_, _, _, h⟩ := s.swapPath_eq t i
  rw [h]
  exact ⟨rfl, rfl, rfl, rfl, rfl, rfl, rfl, rfl, fun _ => rfl⟩

theorem State.swapBanks_sel : (s.swapBanks t i).dpdSel (pathKey t i) = !s.dpdSel (pathKey t i) :=
  (s.dpdSel_setDpdSel _ _ _).trans (if_pos rfl)

theorem State.swapBanks_pending (hi : i < 16) : (s.swapBanks t i).swapPending t i = false := by
  have hstat : TDPD_SWAP_STAT t ≠ TDPD_ENABLE t := by
    simp only [TDPD_SWAP_STAT, TDPD_ENABLE]
    omega
  exact (congrArg (fun n : Nat => n.testBit i) (State.fld_setFld_ne _ _ _ _ hstat)).trans
    ((State.maskBit_setMaskBit _ _ TDPD_SWAP_STAT_PENDING (by decide) hi hi false).trans (if_pos rfl))

theorem State.swapBanks_active (hi : i < 16) : (s.swapBanks t i).maskBit (TDPD_ENABLE t) TDPD_ENABLE_ACTIVE i =
    s.maskBit (TDPD_ENABLE t) TDPD_ENABLE_SHADOW i :=
  (State.maskBit_setMaskBit _ _ _ (by decide) hi hi _).trans (if_pos rfl)

theorem State.swapBanks_frozen : (s.swapBanks t i).dpdFrozen = s.dpdFrozen := by
  have hreg : (s.swapBanks t i).reg PMU_WARN_STAT = s.reg PMU_WARN_STAT :=
    (State.reg_setReg_ne _ _ (by simp only [PMU_WARN_STAT, TDPD_ENABLE]; omega)).trans
      (State.reg_setReg_ne _ _ (by simp only [PMU_WARN_STAT, TDPD_SWAP_STAT]; omega))
  simp only [State.dpdFrozen, State.bit, hreg]
end

section
variable {s : State} {t : Nat} {k : Fin 16} (hk : s.swapPending t k = true) (hone : ∀ j : Fin 16, j ≠ k → s.swapPending t j = false)
include hk hone

/-- The paths armed on a tile on which one is. -/
theorem State.armed_one : (paths.filter fun i => s.swapPending t i) = [(k : Nat)] := by
  have hsame : ∀ i ∈ paths, s.swapPending t i = (i == (k : Nat)) := by
    intro i hi
    by_cases hik : i = k
    · rw [hik, hk, beq_self_eq_true]
    · rw [beq_false_of_ne hik]
      exact hone ⟨i, List.mem_range.1 hi⟩ fun h => hik (congrArg Fin.val h)
  rw [List.filter_congr hsame]
  clear hk hone hsame
  revert k
  decide

theorem State.swapApply_frozen (hfrozen : s.dpdFrozen = true) : s.swapApply t = s := by
  simp only [State.swapApply, State.armed_one hk hone, hfrozen]
  rfl

theorem State.swapApply_one (hfree : s.dpdFrozen = false) :
    s.swapApply t = ((s.advanceTb (s.dpdSwapAt (pathKey t k))).swapPath t k).beginWrites := by
  have hat : (s.advanceTb (s.dpdSwapAt (pathKey t k))).dpdSwapAt (pathKey t k) = s.dpdSwapAt (pathKey t k) :=
    s.advanceTb_field (·.dpdSwapAt (pathKey t k)) fun _ _ => rfl
  simp only [State.swapApply, State.armed_one hk hone, List.map_cons, List.map_nil, List.min?_singleton, hfree, Bool.false_eq_true, if_false,
    List.filter_cons, List.filter_nil, hat, beq_self_eq_true, if_true]
  rfl
end

/-- The earliest boundary of a tile on which one path is armed. -/
theorem swap_applied {s : State} {t : Fin 4} {k : Fin 16} (hk : s.swapPending t k = true)
    (hone : ∀ j : Fin 16, j ≠ k → s.swapPending t j = false) (hfree : s.dpdFrozen = false) : Answers (.dpdSwapApply t) s fun u =>
    u.dpdSel (pathKey t k) = !s.dpdSel (pathKey t k) ∧ u.swapPending t k = false ∧
    u.maskBit (TDPD_ENABLE t) TDPD_ENABLE_ACTIVE k = s.maskBit (TDPD_ENABLE t) TDPD_ENABLE_SHADOW k ∧
    u.tb = (s.advanceTb (s.dpdSwapAt (pathKey t k))).tb ∧ SameMemory s u := by
  refine .of_unsettled ((exec_dpdSwapApply t s).trans (congrArg done (State.swapApply_one hk hone hfree))) (fun _ _ _ => rfl) ?_
  let v := s.advanceTb (s.dpdSwapAt (pathKey t k))
  obtain ⟨p, j, d, hswap⟩ := v.swapPath_eq t k
  have hlocks : (v.swapPath t k).LocksOnly (v.swapPath t k).beginWrites := by
    refine State.beginWrites_locksOnly ?_
    rw [hswap]
    exact (v.swapBanks_frozen t k).trans ((s.advanceTb_field (·.dpdFrozen) fun _ _ => rfl).trans hfree)
  refine ⟨?_, ?_, ?_, ?_, ((s.advanceTb_sameMemory _).trans (v.swapPath_sameMemory t k)).trans hlocks.sameMemory⟩
  · rw [hlocks.field (·.dpdSel (pathKey t k)) fun _ _ _ _ => rfl, hswap]
    exact (v.swapBanks_sel t k).trans (congrArg (!·) (s.advanceTb_field (·.dpdSel (pathKey t k)) fun _ _ => rfl))
  · rw [hlocks.pending, hswap]
    exact v.swapBanks_pending t k k.2
  · rw [State.maskBit, State.fld, hlocks.reg _ (by simp only [TDPD_ENABLE, TDPD_SWAP_STAT]; omega), hswap]
    exact (v.swapBanks_active t k k.2).trans (s.advanceTb_field (·.maskBit _ _ k) fun _ _ => rfl)
  · rw [hlocks.field (·.tb) fun _ _ _ _ => rfl, hswap]
    rfl

/-! ### The table window (R167) -/

section
variable (s : State) (t : Nat) (w : Word)

theorem State.tblWrite_shadow (hbank : s.bit (TDPD_TBL_ADDR t) TDPD_TBL_ADDR_BANK = false)
    (hfree : s.maskBit (TDPD_SWAP_STAT t) TDPD_SWAP_STAT_LOCK (s.fld (TDPD_TBL_ADDR t) TDPD_TBL_ADDR_PIDX) = false) : s.tblWrite t w =
    (if s.fld (TDPD_TBL_ADDR t) TDPD_TBL_ADDR_WORD < 1920 then
      s.setDpdEntry (s.tblKey (pathKey t (s.fld (TDPD_TBL_ADDR t) TDPD_TBL_ADDR_PIDX)) false (s.fld (TDPD_TBL_ADDR t) TDPD_TBL_ADDR_WORD)) w
    else s).tblAdvance t := by
  simp only [State.tblWrite, hbank, hfree, Bool.or_self, Bool.false_eq_true, if_false]

theorem State.tblWrite_barred (h : s.bit (TDPD_TBL_ADDR t) TDPD_TBL_ADDR_BANK = true ∨
    s.maskBit (TDPD_SWAP_STAT t) TDPD_SWAP_STAT_LOCK (s.fld (TDPD_TBL_ADDR t) TDPD_TBL_ADDR_PIDX) = true) :
    s.tblWrite t w = s.accessError.tblAdvance t := by
  have hbar := (Bool.or_eq_true _ _).mpr h
  simp only [State.tblWrite, hbar, if_true]
end

theorem tblAddr_place (t : Fin 4) : TDPD_TBL_ADDR t ≠ HIVE_STATUS (Ev.REG_ACCESS_ERROR / 32) ∧ eventReg (TDPD_TBL_ADDR t) = false := by
  revert t
  decide

/-- A barred write of the window is an access error, and the address moves on all the same. -/
theorem tblData_barred {s : State} {t : Fin 4} {w : Word} (hans : s.answers (TDPD_TBL_DATA t) = true)
    (h : s.bit (TDPD_TBL_ADDR t) TDPD_TBL_ADDR_BANK = true ∨
      s.maskBit (TDPD_SWAP_STAT t) TDPD_SWAP_STAT_LOCK (s.fld (TDPD_TBL_ADDR t) TDPD_TBL_ADDR_PIDX) = true) :
    Answers (.dpdTblDataWrite t w) s fun u => u.stored Ev.REG_ACCESS_ERROR = true ∧
      u.fld (TDPD_TBL_ADDR t) TDPD_TBL_ADDR_WORD = (s.fld (TDPD_TBL_ADDR t) TDPD_TBL_ADDR_WORD + 1) % 2048 ∧ Frame [TDPD_TBL_ADDR t] s u := by
  obtain ⟨hstatus, hevent⟩ := tblAddr_place t
  refine .of_guarded (exec_dpdTblDataWrite t w s) hans ?_
  rw [State.tblWrite_barred s t w h]
  refine ⟨?_, ?_, ((Frame.refl _ s).accessError.setFld _ _ _ (List.mem_singleton_self _)).settle⟩
  · rw [State.stored_settle, State.tblAdvance, State.setFld_eq, State.stored_setReg _ _ _ _ hstatus]
    exact s.stored_accessError
  · rw [State.fld_settle, State.tblAdvance, State.fld_setFld _ _ _ _ (by decide), State.accessError, State.fld_raise _ _ _ _ hevent]
    rfl

/-! ### The statement -/

/-- Settles O21: the arming of swaps, the boundary of a tile on which one path is armed, and the accesses of the table window. -/
theorem predistortion : Obligations.Predistortion := by
  intro s t w
  refine ⟨fun hans pm => ?_, fun k hk hone => ⟨fun hfrozen => ?_, swap_applied hk hone⟩, fun hans => ⟨?_, ?_, tblData_barred hans, ?_⟩⟩
  · refine .of_guarded (exec_dpdSwapArmWrite t pm s) hans ⟨(s.swapArm_keeps t pm.toNat).settle, fun k => ?_⟩
    have hpending : (s.swapArm t pm.toNat).settle.swapPending t k = (pm.getLsbD k || s.swapPending t k) :=
      (congrArg (·.testBit (k : Nat)) (State.fld_settle _ _ _)).trans (s.swapArm_pending t pm.toNat k.2)
    have hat : (s.swapArm t pm.toNat).settle.dpdSwapAt (pathKey t k) =
        if pm.getLsbD k = true ∧ s.swapPending t k = false then s.swapBoundary t else s.dpdSwapAt (pathKey t k) :=
      (State.settle_field _ (·.dpdSwapAt (pathKey t k)) fun _ _ _ => rfl).trans (s.swapArm_at t pm.toNat k.2)
    rw [hpending, hat]
    refine ⟨fun hk => ⟨by rw [hk, Bool.or_false], fun hpm => if_pos ⟨hpm, hk⟩⟩, fun hk => ⟨by rw [hk, Bool.or_true], if_neg ?_⟩⟩
    simp [hk]
  · rw [exec_dpdSwapApply, State.swapApply_frozen hk hone hfrozen]
    rfl
  · intro hbank hfree hword
    rw [exec_dpdTblDataWrite, State.guarded_of hans, State.tblWrite_shadow s t w hbank hfree, if_pos hword]
    rfl
  · intro hbank hfree hword
    rw [exec_dpdTblDataWrite, State.guarded_of hans, State.tblWrite_shadow s t w hbank hfree, if_neg (by omega)]
    rfl
  · rw [exec_dpdTblDataRead, State.guardedRead_of hans]
    rfl

end Sys2Proof.Machine
end

section
/-!
PROOFS. What an event tells of a tile's sources (R466, R467), and training acquisitions (R181 to R183).
-/
namespace Sys2Proof.Machine
open Reg F

/-! ### Events told -/

section
variable {s u : State}

/-- A source without a condition that may assert is told of by its stored bit. -/
theorem Told.of_stored {src : Nat} (hl : hasLevel src = false) (h : s.mayAssert src = true → u.stored src = true) : Told s u src := by
  intro ha
  rw [State.status, State.follows, hl, Bool.false_and, if_neg Bool.false_ne_true]
  exact h ha

/-- Whether a tile's source may assert rests on two registers. -/
theorem State.mayAssert_congr {t src : Nat} (htile : (src - 96) / 40 = t) (hdom : u.reg (PMU_DOM (10 + t)) = s.reg (PMU_DOM (10 + t)))
    (hlink : u.reg (TXCH_STATUS t) = s.reg (TXCH_STATUS t)) : u.mayAssert src = s.mayAssert src := by
  simp only [State.mayAssert, htile, State.domOn, State.bit, State.fld, hdom, hlink]

theorem State.stored_raise_of_mayAssert {src : Nat} (hl : hasLevel src = false) (ha : s.mayAssert src = true) : (s.raise src).stored src = true :=
  s.stored_raise src ha (by rw [State.follows, hl, Bool.false_and])

/-- A counter that goes up clears no status bit. -/
theorem State.stored_bump_keep (s : State) {cnt fr : Nat} (fb n : Nat) {j : Nat} (hj : j < 256) (hc : cnt ≠ HIVE_STATUS (j / 32))
    (hf : fr ≠ HIVE_STATUS (j / 32)) (h : s.stored j = true) : (s.bump cnt fr fb n).stored j = true := by
  have hcount : ∀ f v, (s.setFld cnt f v).stored j = true := fun f v => (s.stored_setReg _ _ _ hc).trans h
  unfold State.bump State.bumpWith
  dsimp only
  split
  · exact State.stored_raise_keep _ _ _ hj ((State.stored_setReg _ _ _ _ hf).trans (hcount _ _))
  · exact hcount _ _
end

/-! ### Dragonfly receivers -/

theorem State.dfly_modDfly (s : State) (k : Nat) (f : Dfly → Dfly) (j : Nat) :
    (s.modDfly k f).dfly j = if j = k then f (s.dfly k) else s.dfly j := s.dfly_setDfly ..

/-! ### The solver takes what is ready (R185) -/

/-- The solver that takes an acquisition changes its jobs and its step. -/
theorem State.solverKick_eq (s : State) : ∃ js x, s.solverKick = { s with jobs := js, solver := x } ∧ ∀ j ∈ s.jobs, j ∈ js := by
  unfold State.solverKick
  split
  · exact ⟨s.jobs, s.solver, rfl, fun _ => id⟩
  · split
    · exact ⟨s.jobs, s.solver, rfl, fun _ => id⟩
    · refine ⟨_, _, rfl, fun j hj => ?_⟩
      split
      · exact hj
      · exact List.mem_append_left _ hj

theorem State.solverKick_field (s : State) {α : Type} (m : State → α) (hm : ∀ (u : State) js x, m { u with jobs := js, solver := x } = m u) :
    m s.solverKick = m s := by
  obtain ⟨_, _, h, -⟩ := s.solverKick_eq
  rw [h, hm]

theorem State.mem_jobs_solverKick {s : State} {j : Job} (hj : j ∈ s.jobs) : j ∈ s.solverKick.jobs := by
  obtain ⟨_, _, h, hmem⟩ := s.solverKick_eq
  rw [h]
  exact hmem j hj

theorem State.solverKick_reg (s : State) (a : Nat) : s.solverKick.reg a = s.reg a := s.solverKick_field (·.reg a) fun _ _ _ => rfl

/-! ### An acquisition is judged (R181 to R183) -/

theorem exec_trainingBufferReady (t : Fin 4) (r : Fin 2) (s : State) : exec (.trainingBufferReady t r) s = done (s.trainReady t r) := rfl

/-- The reason of Table 6-2 for an acquisition of the pairs, the delay and the alignment `z`. -/
def State.acqReason (s : State) (t r i : Nat) (z : List TrainPair × Int × Bool) (swapped : Bool) : Nat :=
  if z.1 = [] ∨ z.1.length < 256 * s.fld HDPD_CTRL HDPD_CTRL_MIN_VALID then 2
  else if z.2.2 = false then 3
  else if s.maskBit (DFLY_STATUS t) DFLY_STATUS_STALE r then 4
  else if s.bandCovers t r i = false then 5
  else if swapped then 6
  else 0

/-- An acquisition shown in ACQ_STAT and ACQ_DLY. -/
def State.acqShown (s : State) (t r i reason : Nat) (z : List TrainPair × Int × Bool) : State :=
  (((s.setFld (DFLY_ACQ_STAT t r) DFLY_ACQ_STAT_REASON reason).setFld (DFLY_ACQ_STAT t r) DFLY_ACQ_STAT_PIDX i).setFld (DFLY_ACQ_STAT t r)
    DFLY_ACQ_STAT_VALID z.1.length).setFld (DFLY_ACQ_DLY t r) DFLY_ACQ_DLY_DELAY (unsigned 16 z.2.1)

/-- An acquisition accepted: its pairs wait for the solver. -/
def State.acqHeld (s : State) (t r : Nat) (z : List TrainPair × Int × Bool) : State :=
  (s.modDfly (2 * t + r) fun y => { y with ready := true, readyAt := s.now, trainAt := none, pairs := z.1 }).solverKick

/-- An acquisition rejected: its buffer is free, it is counted and told of. -/
def State.acqRejected (s : State) (t r : Nat) : State :=
  ((s.freeBuffer t r).bump (DFLY_ACQ_REJECT_COUNT t) (DFLY_CNT_FLAGS t) 0 1).raise (Ev.DPD_ACQ_REJECTED t)

section
variable (s : State) (t r i reason : Nat) (z : List TrainPair × Int × Bool)

theorem State.acqReason_lt (swapped : Bool) : s.acqReason t r i z swapped < 16 := by
  unfold State.acqReason
  repeat' split
  all_goals decide

theorem State.acqReason_advance (n : Nat) (swapped : Bool) : (s.advance n).acqReason t r i z swapped = s.acqReason t r i z swapped :=
  s.advance_field n (·.acqReason t r i z swapped) fun _ _ _ => rfl

theorem State.trainReady_eq {at_ : Nat} (htrain : (s.dfly (2 * t + r)).train = some i) (hat : (s.dfly (2 * t + r)).trainAt = some at_)
    (hz : (s.advance at_).acquire t r i (s.dfly (2 * t + r)).trainFirst (s.dfly (2 * t + r)).trainLen = z)
    (hreason : s.acqReason t r i z (s.dfly (2 * t + r)).swapped = reason) :
    s.trainReady t r = if reason = 0 then ((s.advance at_).acqShown t r i reason z).acqHeld t r z
      else ((s.advance at_).acqShown t r i reason z).acqRejected t r := by
  rw [← hreason, ← State.acqReason_advance s t r i z at_]
  simp only [State.trainReady, htrain, hat, hz, State.acqReason, List.length_eq_zero_iff, Bool.not_eq_true']
  rfl

theorem State.acqShown_reason (h : reason < 16) : (s.acqShown t r i reason z).fld (DFLY_ACQ_STAT t r) DFLY_ACQ_STAT_REASON = reason := by
  rw [State.acqShown, State.fld_setFld_ne _ _ _ _ (by simp only [DFLY_ACQ_STAT, DFLY_ACQ_DLY]; omega),
    State.fld_setFld_apart _ _ _ _ _ (by decide) (by decide), State.fld_setFld_apart _ _ _ _ _ (by decide) (by decide),
    State.fld_setFld _ _ _ _ (by decide)]
  exact Nat.mod_eq_of_lt h

theorem State.acqShown_path (h : i < 16) : (s.acqShown t r i reason z).fld (DFLY_ACQ_STAT t r) DFLY_ACQ_STAT_PIDX = i := by
  rw [State.acqShown, State.fld_setFld_ne _ _ _ _ (by simp only [DFLY_ACQ_STAT, DFLY_ACQ_DLY]; omega),
    State.fld_setFld_apart _ _ _ _ _ (by decide) (by decide), State.fld_setFld _ _ _ _ (by decide)]
  exact Nat.mod_eq_of_lt h

theorem unsigned_lt (n : Nat) (v : Int) : unsigned n v < 2 ^ n := by
  have hpos : (0 : Int) < (2 ^ n : Nat) := Int.natCast_pos.2 (Nat.two_pow_pos n)
  have hlt := Int.emod_lt_of_pos v hpos
  have hnonneg := Int.emod_nonneg v hpos.ne'
  unfold unsigned
  omega

theorem State.acqShown_delay : (s.acqShown t r i reason z).fld (DFLY_ACQ_DLY t r) DFLY_ACQ_DLY_DELAY = unsigned 16 z.2.1 := by
  rw [State.acqShown, State.fld_setFld _ _ _ _ (by decide)]
  exact Nat.mod_eq_of_lt (unsigned_lt 16 _)

theorem State.acqShown_reg {a : Nat} (hstat : a ≠ DFLY_ACQ_STAT t r) (hdly : a ≠ DFLY_ACQ_DLY t r) :
    (s.acqShown t r i reason z).reg a = s.reg a := by
  simp only [State.acqShown, State.setFld_eq, State.reg_setReg, if_neg hstat, if_neg hdly]

theorem State.acqShown_now : (s.acqShown t r i reason z).now = s.now := rfl

theorem State.acqHeld_now : (s.acqHeld t r z).now = s.now := State.solverKick_field _ (·.now) fun _ _ _ => rfl

theorem State.acqHeld_reg (a : Nat) : (s.acqHeld t r z).reg a = s.reg a := State.solverKick_reg _ a

theorem State.acqHeld_dfly : (s.acqHeld t r z).dfly (2 * t + r) =
    { s.dfly (2 * t + r) with ready := true, readyAt := s.now, trainAt := none, pairs := z.1 } :=
  (State.solverKick_field _ (·.dfly (2 * t + r)) fun _ _ _ => rfl).trans ((s.dfly_modDfly _ _ _).trans (if_pos rfl))

theorem State.freeBuffer_train : ((s.freeBuffer t r).dfly (2 * t + r)).train = none := by
  rw [State.freeBuffer, State.dfly_modDfly, if_pos rfl]

theorem State.freeBuffer_now : (s.freeBuffer t r).now = s.now := rfl

theorem State.freeBuffer_reg {a : Nat} (ha : a ≠ DFLY_STATUS t) : (s.freeBuffer t r).reg a = s.reg a := s.reg_setReg_ne _ ha

theorem State.acqRejected_frame : Frame [DFLY_ACQ_REJECT_COUNT t, DFLY_CNT_FLAGS t] (s.freeBuffer t r) (s.acqRejected t r) :=
  ((Frame.refl _ _).bump _ _ _ _ (by simp) (by simp)).raise _
end

/-- Where the registers of an acquisition of a tile lie. -/
theorem acq_place (t : Fin 4) (r : Fin 2) :
    (∀ a ∈ [DFLY_ACQ_STAT t r, DFLY_ACQ_DLY t r], a ∉ [DFLY_ACQ_REJECT_COUNT t, DFLY_CNT_FLAGS t] ∧ eventReg a = false ∧ a ≠ DFLY_STATUS t) ∧
    (∀ a ∈ [DFLY_ACQ_REJECT_COUNT t, PMU_DOM (10 + t), TXCH_STATUS t], a ≠ DFLY_ACQ_STAT t r ∧ a ≠ DFLY_ACQ_DLY t r ∧ a ≠ DFLY_STATUS t ∧
      eventReg a = false ∧ a ≠ DFLY_CNT_FLAGS t) ∧
    (∀ a ∈ [PMU_DOM (10 + t), TXCH_STATUS t], a ≠ DFLY_ACQ_REJECT_COUNT t) ∧ (Ev.DPD_ACQ_REJECTED t - 96) / 40 = t ∧
    hasLevel (Ev.DPD_ACQ_REJECTED t) = false := by
  revert t r
  decide

section
variable {s : State} {t : Fin 4} {r : Fin 2} {i : Fin 16} {reason : Nat} {z : List TrainPair × Int × Bool}

/-- What a rejected acquisition leaves. -/
theorem State.acqRejected_after (n : Nat) : let u := ((s.advance n).acqShown t r i reason z).acqRejected t r
    (u.dfly (2 * t + r)).train = none ∧ Told s u (Ev.DPD_ACQ_REJECTED t) ∧
      u.fld (DFLY_ACQ_REJECT_COUNT t) DFLY_ACQ_REJECT_COUNT_COUNT =
        min (s.fld (DFLY_ACQ_REJECT_COUNT t) DFLY_ACQ_REJECT_COUNT_COUNT + 1) (2 ^ 32 - 1) := by
  obtain ⟨-, hapart, hflags, htile, hlevel⟩ := acq_place t r
  have hshown : ∀ a ∈ [DFLY_ACQ_REJECT_COUNT t, PMU_DOM (10 + t), TXCH_STATUS t],
      (((s.advance n).acqShown t r i reason z).freeBuffer t r).reg a = s.reg a := fun a ha => by
    obtain ⟨hstat, hdly, hstatus, -⟩ := hapart a ha
    rw [State.freeBuffer_reg _ _ _ hstatus, State.acqShown_reg _ _ _ _ _ _ hstat hdly, State.advance_reg]
  have hbumped : ∀ a ∈ [PMU_DOM (10 + t), TXCH_STATUS t],
      ((((s.advance n).acqShown t r i reason z).freeBuffer t r).bump (DFLY_ACQ_REJECT_COUNT t) (DFLY_CNT_FLAGS t) 0 1).reg a = s.reg a := fun a ha => by
    have hmem := List.mem_cons_of_mem (DFLY_ACQ_REJECT_COUNT t) ha
    obtain ⟨-, -, -, hevent, hne⟩ := hapart a hmem
    refine Eq.trans (Frame.reg (l := [DFLY_ACQ_REJECT_COUNT t, DFLY_CNT_FLAGS t]) ((Frame.refl _ _).bump _ _ _ _ (by simp) (by simp)) ?_ hevent)
      (hshown a hmem)
    simp [hflags a ha, hne]
  refine ⟨?_, .of_stored hlevel fun ha => State.stored_raise_of_mayAssert hlevel ?_, ?_⟩
  · rw [(State.acqRejected_frame _ t r).field (·.dfly (2 * (t : Nat) + r)) fun _ => rfl]
    exact State.freeBuffer_train _ _ _
  · exact (State.mayAssert_congr htile (hbumped _ (by simp)) (hbumped _ (by simp))).trans ha
  · obtain ⟨-, -, -, hevent, hne⟩ := hapart _ (List.mem_cons_self ..)
    rw [State.acqRejected, State.fld_raise _ _ _ _ hevent, State.fld_bump _ _ _ _ _ hevent hne, State.fld, hshown _ (List.mem_cons_self ..)]
    rfl

/-- Held or rejected, an acquisition stays as shown. -/
theorem State.trainReady_shown {at_ : Nat} (htrain : (s.dfly (2 * t + r)).train = some i.val) (hat : (s.dfly (2 * t + r)).trainAt = some at_)
    (hz : (s.advance at_).acquire t r i (s.dfly (2 * t + r)).trainFirst (s.dfly (2 * t + r)).trainLen = z)
    (hreason : s.acqReason t r i z (s.dfly (2 * t + r)).swapped = reason) : (s.trainReady t r).now = max s.now at_ ∧
    ∀ a ∈ [DFLY_ACQ_STAT t r, DFLY_ACQ_DLY t r], (s.trainReady t r).reg a = ((s.advance at_).acqShown t r i reason z).reg a := by
  rw [s.trainReady_eq t r i reason z htrain hat hz hreason]
  split
  · refine ⟨?_, fun a _ => State.acqHeld_reg _ _ _ _ a⟩
    rw [State.acqHeld_now, State.acqShown_now, State.advance_now]
  · obtain ⟨hacq, -⟩ := acq_place t r
    have hframe := ((s.advance at_).acqShown t r i reason z).acqRejected_frame t r
    refine ⟨?_, fun a ha => ?_⟩
    · rw [hframe.field (·.now) fun _ => rfl, State.freeBuffer_now, State.acqShown_now, State.advance_now]
    · obtain ⟨hcount, hevent, hstatus⟩ := hacq a ha
      rw [hframe.reg hcount hevent, State.freeBuffer_reg _ _ _ hstatus]

/-- An acquisition is judged: its reason, and what becomes of it. -/
theorem acquisition_judged {at_ : Nat} (htrain : (s.dfly (2 * t + r)).train = some i.val) (hat : (s.dfly (2 * t + r)).trainAt = some at_)
    (hz : (s.advance at_).acquire t r i (s.dfly (2 * t + r)).trainFirst (s.dfly (2 * t + r)).trainLen = z)
    (hreason : s.acqReason t r i z (s.dfly (2 * t + r)).swapped = reason) : Answers (.trainingBufferReady t r) s fun u =>
    u.now = max s.now at_ ∧ u.fld (DFLY_ACQ_STAT t r) DFLY_ACQ_STAT_REASON = reason ∧
      u.fld (DFLY_ACQ_STAT t r) DFLY_ACQ_STAT_PIDX = i ∧ u.fld (DFLY_ACQ_DLY t r) DFLY_ACQ_DLY_DELAY = unsigned 16 z.2.1 ∧
      (reason = 0 → (u.dfly (2 * t + r)).ready = true ∧ (u.dfly (2 * t + r)).pairs = z.1) ∧
      (reason ≠ 0 → (u.dfly (2 * t + r)).train = none ∧ Told s u (Ev.DPD_ACQ_REJECTED t) ∧
        u.fld (DFLY_ACQ_REJECT_COUNT t) DFLY_ACQ_REJECT_COUNT_COUNT =
          min (s.fld (DFLY_ACQ_REJECT_COUNT t) DFLY_ACQ_REJECT_COUNT_COUNT + 1) (2 ^ 32 - 1)) := by
  refine .of_unsettled (exec_trainingBufferReady t r s) (fun _ _ _ => rfl) ?_
  have hlt : reason < 16 := hreason ▸ s.acqReason_lt t r i z _
  obtain ⟨hnow, hreg⟩ := State.trainReady_shown htrain hat hz hreason
  have heq := s.trainReady_eq t r i reason z htrain hat hz hreason
  refine ⟨hnow, ?_, ?_, ?_, fun h => ?_, fun h => ?_⟩
  · rw [State.fld, hreg _ (by simp)]
    exact State.acqShown_reason _ _ _ _ _ _ hlt
  · rw [State.fld, hreg _ (by simp)]
    exact State.acqShown_path _ _ _ _ _ _ i.2
  · rw [State.fld, hreg _ (by simp)]
    exact State.acqShown_delay _ _ _ _ _ _
  · rw [heq, if_pos h, State.acqHeld_dfly]
    exact ⟨rfl, rfl⟩
  · rw [heq, if_neg h]
    exact State.acqRejected_after at_
end

end Sys2Proof.Machine
end

section
/-!
PROOFS. The solver's steps and coefficient commands (R184 to R187, R189), and the window on the coefficients.
-/
namespace Sys2Proof.Machine
open Reg F

theorem exec_dpdAccumulationDone (s : State) : exec .dpdAccumulationDone s = done s.accumulationDone := rfl
theorem exec_dpdSolveDone (s : State) : exec .dpdSolveDone s = done s.solveDone := rfl
theorem exec_dpdTableWriteDone (s : State) : exec .dpdTableWriteDone s = done s.tableWriteDone := rfl
theorem exec_coefIdentity (path : Fin 64) (s : State) :
    exec (.coefIdentity path) s = done (s.guarded HDPD_COEF_CMD fun s => s.coefStart 1 path) := rfl
theorem exec_coefTablesFromCoef (path : Fin 64) (s : State) :
    exec (.coefTablesFromCoef path) s = done (s.guarded HDPD_COEF_CMD fun s => s.coefStart 2 path) := rfl
theorem exec_coefCmdDone (s : State) : exec .coefCmdDone s = done s.coefDone := rfl
theorem exec_coefDataAccess_write (v : Word) (s : State) :
    exec (.coefDataAccess (some v)) s = done (s.guarded HDPD_COEF_DATA fun s => s.coefWrite v) := rfl
theorem exec_coefDataAccess_read (s : State) :
    exec (.coefDataAccess none) s = done (s.guardedRead HDPD_COEF_DATA fun s => s.coefRead) := rfl

/-! ### An acquisition is accumulated (R185) -/

/-- A job takes the pairs of an acquisition of its path. -/
def Job.take (path : Nat) (ps : List TrainPair) (j : Job) : Job :=
  if j.path = path then { j with count := j.count + 1, pairs := j.pairs ++ ps } else j

theorem Job.take_path (path : Nat) (ps : List TrainPair) (j : Job) : (j.take path ps).path = j.path := by
  unfold Job.take
  split <;> rfl
theorem Job.take_count (path : Nat) (ps : List TrainPair) (j : Job) :
    (j.take path ps).count = if j.path = path then j.count + 1 else j.count := by
  unfold Job.take
  split <;> rfl
theorem Job.take_pairs (path : Nat) (ps : List TrainPair) (j : Job) :
    (j.take path ps).pairs = if j.path = path then j.pairs ++ ps else j.pairs := by
  unfold Job.take
  split <;> rfl

/-- The buffer is freed, the jobs have taken its pairs, and the solver goes on to `x`. -/
def State.accumulated (s : State) (path t r stop : Nat) (x : Option SolverStep) : State :=
  { (s.advance stop).freeBuffer t r with jobs := s.jobs.map (Job.take path (s.dfly (2 * t + r)).pairs), solver := x }

section
variable {s : State} {path t r stop : Nat}

theorem State.accumulationDone_eq (h : s.solver = some (.accumulate path t r stop)) :
    ∃ x, s.accumulationDone = s.accumulated path t r stop x ∨ s.accumulationDone = (s.accumulated path t r stop x).solverKick := by
  have hjobs : (s.advance stop).jobs = s.jobs := s.advance_field stop (·.jobs) fun _ _ _ => rfl
  have hpairs : ((s.advance stop).dfly (2 * t + r)).pairs = (s.dfly (2 * t + r)).pairs :=
    s.advance_field stop (fun u => (u.dfly (2 * t + r)).pairs) fun _ _ _ => rfl
  simp only [State.accumulationDone, h, hjobs, hpairs]
  exact ⟨_, ite_eq_or_eq _ _ _⟩

theorem accumulation_done (h : s.solver = some (.accumulate path t r stop)) : Answers .dpdAccumulationDone s fun u =>
    (u.dfly (2 * t + r)).train = none ∧ u.now = max s.now stop ∧ ∀ j ∈ s.jobs, ∃ j' ∈ u.jobs, j'.path = j.path ∧
      j'.count = (if j.path = path then j.count + 1 else j.count) ∧
      j'.pairs = if j.path = path then j.pairs ++ (s.dfly (2 * t + r)).pairs else j.pairs := by
  refine .of_unsettled (exec_dpdAccumulationDone s) (fun _ _ _ => rfl) ?_
  obtain ⟨x, hdone⟩ := State.accumulationDone_eq h
  have htrain : ((s.accumulated path t r stop x).dfly (2 * t + r)).train = none := State.freeBuffer_train _ t r
  have hnow : (s.accumulated path t r stop x).now = max s.now stop := s.advance_now stop
  have hjobs : ∀ j ∈ s.jobs, j.take path (s.dfly (2 * t + r)).pairs ∈ (s.accumulated path t r stop x).jobs := fun j hj =>
    List.mem_map_of_mem hj
  have htaken : ∀ js : List Job, (∀ j ∈ s.jobs, j.take path (s.dfly (2 * t + r)).pairs ∈ js) → ∀ j ∈ s.jobs, ∃ j' ∈ js, j'.path = j.path ∧
      j'.count = (if j.path = path then j.count + 1 else j.count) ∧
      j'.pairs = if j.path = path then j.pairs ++ (s.dfly (2 * t + r)).pairs else j.pairs :=
    fun js hall j hj => ⟨_, hall j hj, j.take_path .., j.take_count .., j.take_pairs ..⟩
  rcases hdone with hdone | hdone <;> rw [hdone]
  · exact ⟨htrain, hnow, htaken _ hjobs⟩
  · refine ⟨?_, ?_, htaken _ fun j hj => State.mem_jobs_solverKick (hjobs j hj)⟩
    · rw [State.solverKick_field _ (fun u => (u.dfly (2 * t + r)).train) fun _ _ _ => rfl, htrain]
    · rw [State.solverKick_field _ (·.now) fun _ _ _ => rfl, hnow]
end

/-! ### A job ends (R186) -/

/-- The result of a job as RESULT_nn shows it. -/
def State.jobResult (s : State) (path outcome n : Nat) (nmse : Int) : State :=
  ((s.setFld (HDPD_RESULT path) HDPD_RESULT_OUTCOME outcome).setFld (HDPD_RESULT path) HDPD_RESULT_NACQ n).setFld (HDPD_RESULT path)
    HDPD_RESULT_NMSE (unsigned 16 nmse)

/-- The acquisitions that the job of a path has taken. -/
def State.jobCount (s : State) (path : Nat) : Nat := ((s.jobs.find? fun (j : Job) => j.path == path).map Job.count).getD 0

/-- Beside the counts and the event, the end of a job shows its result, takes it from the open jobs and leaves the solver idle. -/
def State.jobClosed (s : State) (path outcome : Nat) (nmse : Int) : State :=
  { s.jobResult path outcome (s.jobCount path) nmse with jobs := s.jobs.filter fun (j : Job) => j.path != path, solver := none }

/-- The registers that count jobs. -/
def jobRegs : List Nat := [HDPD_JOB_COUNT, HDPD_JOB_REJECT_COUNT, HDPD_CNT_FLAGS]

section
variable (s : State) (path outcome n : Nat) (nmse : Int)

theorem State.jobResult_outcome (h : outcome < 16) :
    (s.jobResult path outcome n nmse).fld (HDPD_RESULT path) HDPD_RESULT_OUTCOME = outcome := by
  rw [State.jobResult, State.fld_setFld_apart _ _ _ _ _ (by decide) (by decide), State.fld_setFld_apart _ _ _ _ _ (by decide) (by decide),
    State.fld_setFld _ _ _ _ (by decide)]
  exact Nat.mod_eq_of_lt h

theorem State.jobResult_nmse : (s.jobResult path outcome n nmse).fld (HDPD_RESULT path) HDPD_RESULT_NMSE = unsigned 16 nmse := by
  rw [State.jobResult, State.fld_setFld _ _ _ _ (by decide)]
  exact Nat.mod_eq_of_lt (unsigned_lt 16 _)

theorem State.jobResult_reg {a : Nat} (ha : a ≠ HDPD_RESULT path) : (s.jobResult path outcome n nmse).reg a = s.reg a := by
  simp only [State.jobResult, State.setFld_eq, State.reg_setReg, if_neg ha]

theorem State.jobClosed_reg (a : Nat) : (s.jobClosed path outcome nmse).reg a = (s.jobResult path outcome (s.jobCount path) nmse).reg a := by
  have hregs : (s.jobClosed path outcome nmse).regs = (s.jobResult path outcome (s.jobCount path) nmse).regs := rfl
  rw [State.reg, hregs, State.reg]

theorem State.endJob_eq : s.endJob path outcome nmse =
    (if 2 ≤ outcome ∧ outcome ≤ 7 then
      ((s.jobClosed path outcome nmse).bump HDPD_JOB_COUNT HDPD_CNT_FLAGS 0 1).bump HDPD_JOB_REJECT_COUNT HDPD_CNT_FLAGS 1 1
    else (s.jobClosed path outcome nmse).bump HDPD_JOB_COUNT HDPD_CNT_FLAGS 0 1).raise Ev.DPD_JOB_DONE := rfl

theorem State.endJob_frame : Frame jobRegs (s.jobClosed path outcome nmse) (s.endJob path outcome nmse) := by
  have hcounted := (Frame.refl jobRegs (s.jobClosed path outcome nmse)).bump HDPD_JOB_COUNT HDPD_CNT_FLAGS 0 1 (by decide) (by decide)
  rw [State.endJob_eq]
  refine Frame.raise ?_ _
  split
  · exact hcounted.bump _ _ _ _ (by decide) (by decide)
  · exact hcounted

theorem State.endJob_field {α : Type} (m : State → α) (hcore : ∀ x : State, m x.core = m x)
    (hm : ∀ (x : State) r js v, m { x with regs := r, jobs := js, solver := v } = m x) : m (s.endJob path outcome nmse) = m s := by
  rw [(s.endJob_frame path outcome nmse).field m hcore]
  exact hm s ..

theorem State.endJob_now : (s.endJob path outcome nmse).now = s.now := s.endJob_field _ _ _ (·.now) (fun _ => rfl) fun _ _ _ _ => rfl

theorem State.endJob_stored : (s.endJob path outcome nmse).stored Ev.DPD_JOB_DONE = true := by
  rw [State.endJob_eq]
  exact State.stored_raise_hub _ _ (by decide) (by decide)

theorem State.endJob_reg {a : Nat} (ha : a ∉ jobRegs) (he : eventReg a = false) (hne : a ≠ HDPD_RESULT path) :
    (s.endJob path outcome nmse).reg a = s.reg a := by
  rw [(s.endJob_frame path outcome nmse).reg ha he, State.jobClosed_reg, State.jobResult_reg _ _ _ _ _ hne]

theorem jobResult_place {path : Nat} (h : path < 64) : HDPD_RESULT path ∉ jobRegs ∧ eventReg (HDPD_RESULT path) = false := by
  constructor
  · simp only [jobRegs, List.mem_cons, List.not_mem_nil, HDPD_RESULT, HDPD_JOB_COUNT, HDPD_JOB_REJECT_COUNT, HDPD_CNT_FLAGS,
      or_false]
    omega
  · simp only [eventReg, HDPD_RESULT, RILYN_LOG_DROP, RILYN_CNT_FLAGS, Bool.or_eq_false_iff, Bool.and_eq_false_iff, decide_eq_false_iff_not,
      beq_eq_false_iff_ne]
    omega

/-- A job that ends shows its outcome and its error. -/
theorem State.endJob_result (hpath : path < 64) (h : outcome < 16) :
    (s.endJob path outcome nmse).fld (HDPD_RESULT path) HDPD_RESULT_OUTCOME = outcome ∧
    (s.endJob path outcome nmse).fld (HDPD_RESULT path) HDPD_RESULT_NMSE = unsigned 16 nmse := by
  obtain ⟨hcount, hevent⟩ := jobResult_place hpath
  have hreg := (s.endJob_frame path outcome nmse).reg hcount hevent
  rw [State.jobClosed_reg] at hreg
  constructor
  · rw [State.fld, hreg, ← State.fld, State.jobResult_outcome _ _ _ _ _ h]
  · rw [State.fld, hreg, ← State.fld, State.jobResult_nmse]
end

/-! ### A solve ends (R186, Table 6-3) -/

/-- What the end of a job by itself leaves: the instant, the result, the event. -/
structure State.JobEnded (s : State) (path outcome now : Nat) (nmse : Int) : Prop where
  now_eq : s.now = now
  outcome_eq : s.fld (HDPD_RESULT path) HDPD_RESULT_OUTCOME = outcome
  nmse_eq : s.fld (HDPD_RESULT path) HDPD_RESULT_NMSE = unsigned 16 nmse
  told : s.stored Ev.DPD_JOB_DONE = true

theorem State.endJob_ended (s : State) {path outcome : Nat} (nmse : Int) (hpath : path < 64) (h : outcome < 16) :
    (s.endJob path outcome nmse).solverKick.JobEnded path outcome s.now nmse := by
  obtain ⟨houtcome, hnmse⟩ := s.endJob_result path outcome nmse hpath h
  refine ⟨?_, ?_, ?_, ?_⟩
  · rw [State.solverKick_field _ (·.now) fun _ _ _ => rfl, State.endJob_now]
  · rw [State.fld, State.solverKick_reg]
    exact houtcome
  · rw [State.fld, State.solverKick_reg]
    exact hnmse
  · rw [State.solverKick_field _ (·.stored Ev.DPD_JOB_DONE) fun _ _ _ => rfl, State.endJob_stored]

/-- The error that a solve finds, or a free value. -/
def State.foundError (s : State) (path : Nat) : Int := ((s.solve path).map Prod.fst).getD (s.freeNow.setWidth 16).toInt

/-- The instant at which a solve ends, its free value used. -/
def State.solved (s : State) (stop : Nat) : State := (s.advance stop).useFree

section
variable (s : State) (stop : Nat)

theorem State.solved_field {α : Type} (m : State → α) (hm : ∀ (x : State) n b f, m { x with now := n, tb := b, free := f } = m x) :
    m (s.solved stop) = m s := by
  obtain ⟨n, b, h⟩ := s.advance_eq stop
  rw [State.solved, h]
  exact hm s ..

theorem State.solved_now : (s.solved stop).now = max s.now stop := s.advance_now stop
end

/-- The job's table write waits for a pending swap of its path. -/
def State.awaiting (s : State) (stop path : Nat) (nmse : Int) (c : List Int) : State :=
  { s.solved stop with solver := some (.await path nmse c) }

/-- With the gain found, a job converges, or ends on its coefficients, or goes on to its table write. -/
def State.gainFound (s : State) (stop path : Nat) (nmse : Int) (coefs : Option (List Int)) : State :=
  if nmse ≤ -16 * s.fld HDPD_CTRL HDPD_CTRL_CONV then ((s.solved stop).endJob path 1 nmse).solverKick
  else match coefs with
    | none => ((s.solved stop).endJob path 3 nmse).solverKick
    | some c => if outOfRange s.solverK c (s.tablesInUse (path / 16) (path % 16)) then ((s.solved stop).endJob path 4 nmse).solverKick
      else (s.awaiting stop path nmse c).beginWrites

section
variable {s : State} {path stop : Nat} (h : s.solver = some (.solve path stop))
include h

theorem State.solveDone_swapped (hswap : (s.jobs.any fun (j : Job) => j.path == path && j.swapped) = true) :
    s.solveDone = ((s.solved stop).endJob path 5 ((s.advance stop).foundError path)).solverKick := by
  rw [← s.solved_field stop (·.jobs.any fun (j : Job) => j.path == path && j.swapped) fun _ _ _ _ => rfl] at hswap
  simp only [State.solveDone, h]
  exact if_pos hswap

variable (hswap : (s.jobs.any fun (j : Job) => j.path == path && j.swapped) = false)
include hswap

theorem State.solveDone_noGain (hsolve : (s.advance stop).solve path = none) :
    s.solveDone = ((s.solved stop).endJob path 2 ((s.advance stop).foundError path)).solverKick := by
  rw [← s.solved_field stop (·.jobs.any fun (j : Job) => j.path == path && j.swapped) fun _ _ _ _ => rfl] at hswap
  simp only [State.solveDone, h, hsolve, State.foundError]
  exact if_neg (Bool.eq_false_iff.1 hswap)

theorem State.solveDone_gain {nmse : Int} {coefs : Option (List Int)} (hsolve : (s.advance stop).solve path = some (nmse, coefs)) :
    s.solveDone = s.gainFound stop path nmse coefs := by
  rw [← s.solved_field stop (·.jobs.any fun (j : Job) => j.path == path && j.swapped) fun _ _ _ _ => rfl] at hswap
  unfold State.gainFound
  rw [← s.solved_field stop (·.fld HDPD_CTRL HDPD_CTRL_CONV) fun _ _ _ _ => rfl, ← s.solved_field stop (·.solverK) fun _ _ _ _ => rfl,
    ← s.solved_field stop (·.tablesInUse (path / 16) (path % 16)) fun _ _ _ _ => rfl]
  simp only [State.solveDone, h, hsolve]
  cases coefs <;> exact if_neg (Bool.eq_false_iff.1 hswap)
end

section
variable {s : State} {nmse : Int} (stop path : Nat)

theorem State.gainFound_converged (h : nmse ≤ -16 * s.fld HDPD_CTRL HDPD_CTRL_CONV) (coefs : Option (List Int)) :
    s.gainFound stop path nmse coefs = ((s.solved stop).endJob path 1 nmse).solverKick := if_pos h

variable (h : -16 * (s.fld HDPD_CTRL HDPD_CTRL_CONV : Int) < nmse)
include h

theorem State.gainFound_singular : s.gainFound stop path nmse none = ((s.solved stop).endJob path 3 nmse).solverKick := if_neg h.not_ge

variable {c : List Int}

theorem State.gainFound_range (hout : outOfRange s.solverK c (s.tablesInUse (path / 16) (path % 16)) = true) :
    s.gainFound stop path nmse (some c) = ((s.solved stop).endJob path 4 nmse).solverKick := (if_neg h.not_ge).trans (if_pos hout)

theorem State.gainFound_fits (hfits : outOfRange s.solverK c (s.tablesInUse (path / 16) (path % 16)) = false) :
    s.gainFound stop path nmse (some c) = (s.awaiting stop path nmse c).beginWrites :=
  (if_neg h.not_ge).trans (if_neg (Bool.eq_false_iff.1 hfits))
end

theorem State.cmdBegins_field (s : State) {α : Type} (m : State → α) (hm : ∀ (x : State) r c, m { x with regs := r, coefCmd := c } = m x) :
    m s.cmdBegins = m s := by
  unfold State.cmdBegins
  split
  · split
    · rfl
    · exact hm s ..
  · rfl

section
variable {s : State} {path : Nat} {nmse : Int} {coefs : List Int} (h : s.solver = some (.await path nmse coefs))
include h

/-- A table write waits for a pending swap of its path. -/
theorem State.beginWrites_waits (hpending : s.swapPending (path / 16) (path % 16) = true) :
    s.beginWrites.solver = some (.await path nmse coefs) := by
  rw [State.beginWrites_eq, State.cmdBegins_field _ (·.solver) fun _ _ _ => rfl]
  simp only [State.awaitEnds, h, hpending, if_true]

/-- Else it begins, unless updates are frozen. -/
theorem State.beginWrites_begins (hpending : s.swapPending (path / 16) (path % 16) = false) (hfree : s.dpdFrozen = false) :
    s.beginWrites.solver = some (.write path (s.now + s.writeTime path) nmse coefs) := by
  rw [State.beginWrites_eq, State.cmdBegins_field _ (·.solver) fun _ _ _ => rfl]
  simp only [State.awaitEnds, h, hpending, hfree, Bool.false_eq_true, if_false]
end

theorem State.beginWrites_now (s : State) : s.beginWrites.now = s.now := by
  rw [State.beginWrites_eq, State.cmdBegins_field _ (·.now) fun _ _ _ => rfl]
  unfold State.awaitEnds
  split
  · split
    · rfl
    · split
      · rw [State.solverKick_field _ (·.now) fun _ _ _ => rfl, State.endJob_now]
      · rfl
  · rfl

/-- The table write of a job that has solved: it waits for a pending swap of its path, else it begins unless updates are frozen. -/
theorem State.awaited_write (s : State) (stop path : Nat) (nmse : Int) (c : List Int) :
    let u := (s.awaiting stop path nmse c).beginWrites
    (s.swapPending (path / 16) (path % 16) = true → u.solver = some (.await path nmse c)) ∧
      (s.swapPending (path / 16) (path % 16) = false → s.dpdFrozen = false → u.solver = some (.write path (u.now + s.writeTime path) nmse c)) := by
  have hpending := s.solved_field stop (·.swapPending (path / 16) (path % 16)) fun _ _ _ _ => rfl
  have hfrozen := s.solved_field stop (·.dpdFrozen) fun _ _ _ _ => rfl
  have htime := s.solved_field stop (·.writeTime path) fun _ _ _ _ => rfl
  refine ⟨fun hp => State.beginWrites_waits rfl (hpending.trans hp), fun hp hf => ?_⟩
  rw [State.beginWrites_now, State.beginWrites_begins (s := s.awaiting stop path nmse c) rfl (hpending.trans hp) (hfrozen.trans hf), ← htime]
  rfl

/-- Code 5, and the codes by what the solve found. -/
theorem solve_done {s : State} {path stop : Nat} (hpath : path < 64) (h : s.solver = some (.solve path stop)) :
    let swapped := s.jobs.any fun (j : Job) => j.path == path && j.swapped
    let conv : Int := -16 * s.fld HDPD_CTRL HDPD_CTRL_CONV
    let ends := fun (u : State) (code : Nat) => u.fld (HDPD_RESULT path) HDPD_RESULT_OUTCOME = code ∧ u.stored Ev.DPD_JOB_DONE = true
    let late := fun (c : List Int) => outOfRange s.solverK c (s.tablesInUse (path / 16) (path % 16))
    Answers .dpdSolveDone s fun u => u.now = max s.now stop ∧ (swapped = true → ends u 5) ∧
      (swapped = false → match (s.advance stop).solve path with
        | none => ends u 2
        | some (nmse, coefs) => (nmse ≤ conv → ends u 1 ∧ u.fld (HDPD_RESULT path) HDPD_RESULT_NMSE = unsigned 16 nmse) ∧
            (conv < nmse → coefs = none → ends u 3) ∧
            (∀ c, conv < nmse → coefs = some c → late c = true → ends u 4) ∧
            (∀ c, conv < nmse → coefs = some c → late c = false →
              (s.swapPending (path / 16) (path % 16) = true → u.solver = some (.await path nmse c)) ∧
              (s.swapPending (path / 16) (path % 16) = false → s.dpdFrozen = false →
                u.solver = some (.write path (u.now + s.writeTime path) nmse c)))) := by
  intro swapped conv ends late
  refine .of_unsettled (exec_dpdSolveDone s) (fun _ _ _ => rfl) ?_
  have hended : ∀ code < 16, ∀ nmse, ((s.solved stop).endJob path code nmse).solverKick.JobEnded path code (max s.now stop) nmse :=
    fun code hcode nmse => s.solved_now stop ▸ State.endJob_ended _ nmse hpath hcode
  cases hswap : swapped with
  | true =>
    rw [State.solveDone_swapped h hswap]
    obtain ⟨hnow, houtcome, -, htold⟩ := hended 5 (by decide) ((s.advance stop).foundError path)
    exact ⟨hnow, fun _ => ⟨houtcome, htold⟩, nofun⟩
  | false =>
    cases hsolve : (s.advance stop).solve path with
    | none =>
      rw [State.solveDone_noGain h hswap hsolve]
      obtain ⟨hnow, houtcome, -, htold⟩ := hended 2 (by decide) ((s.advance stop).foundError path)
      exact ⟨hnow, nofun, fun _ => ⟨houtcome, htold⟩⟩
    | some found =>
      obtain ⟨nmse, coefs⟩ := found
      rw [State.solveDone_gain h hswap hsolve]
      rcases le_or_gt nmse conv with hconv | hconv
      · obtain ⟨hnow, houtcome, hnmse, htold⟩ := hended 1 (by decide) nmse
        rw [State.gainFound_converged stop path hconv]
        exact ⟨hnow, nofun, fun _ => ⟨fun _ => ⟨⟨houtcome, htold⟩, hnmse⟩, fun hgt => absurd hconv hgt.not_ge, fun _ hgt => absurd hconv hgt.not_ge,
          fun _ hgt => absurd hconv hgt.not_ge⟩⟩
      · cases coefs with
        | none =>
          obtain ⟨hnow, houtcome, -, htold⟩ := hended 3 (by decide) nmse
          rw [State.gainFound_singular stop path hconv]
          exact ⟨hnow, nofun, fun _ => ⟨fun hle => absurd hconv hle.not_gt, fun _ _ => ⟨houtcome, htold⟩, nofun, nofun⟩⟩
        | some c =>
          cases hlate : late c with
          | true =>
            obtain ⟨hnow, houtcome, -, htold⟩ := hended 4 (by decide) nmse
            rw [State.gainFound_range stop path hconv hlate]
            refine ⟨hnow, nofun, fun _ => ⟨fun hle => absurd hconv hle.not_gt, nofun, fun _ _ _ _ => ⟨houtcome, htold⟩, fun c' _ hc hfits => ?_⟩⟩
            exact absurd (Option.some.inj hc ▸ hlate) (Bool.eq_false_iff.1 hfits)
          | false =>
            rw [State.gainFound_fits stop path hconv hlate]
            refine ⟨(State.beginWrites_now _).trans (s.solved_now stop), nofun, fun _ => ⟨fun hle => absurd hconv hle.not_gt, nofun,
              fun c' _ hc hout => ?_, fun c' _ hc _ => ?_⟩⟩
            · exact absurd hout (Bool.eq_false_iff.1 (Option.some.inj hc ▸ hlate))
            · obtain rfl := Option.some.inj hc
              exact State.awaited_write s stop path nmse c
end Sys2Proof.Machine
end

section
/-!
PROOFS. Coefficients and the tables they give (R186, R189), and the statement on the solver.
-/
namespace Sys2Proof.Machine
open Reg F

/-! ### Coefficients stored -/

/-- The coefficient words of a path written. -/
def State.putCoefs (s : State) (path : Nat) (x : Nat → Word) : State :=
  (List.range 480).foldl (fun u w => u.setCoef (coefKey path w) (x w)) s

section
variable (s : State) (path : Nat) (x : Nat → Word)

theorem State.putCoefs_field {α : Type} (m : State → α) (hm : ∀ (u : State) k v, m (u.setCoef k v) = m u) : m (s.putCoefs path x) = m s :=
  foldl_put_field m hm _ _ _ s

theorem State.putCoefs_coef {w : Nat} (hw : w < 480) : (s.putCoefs path x).coef (coefKey path w) = x w :=
  foldl_put_same (fun u k v j => u.coef_setCoef k v j) _ _ (fun _ _ h => Nat.add_left_cancel h) hw s

theorem State.putCoefs_apart {p w : Nat} (hp : p ≠ path) (hw : w < 480) : (s.putCoefs path x).coef (coefKey p w) = s.coef (coefKey p w) :=
  foldl_put_apart (fun u k v j => u.coef_setCoef k v j) _ _ (fun w' hw' => by simp only [coefKey]; omega) s
end

/-! ### Tables written to the shadow bank -/

/-- One table of a path's shadow bank written. -/
def State.writeTable (s : State) (path j : Nat) (g : Nat → Word) : State :=
  s.each (List.range 64) fun s e => s.setDpdEntry (s.tblKey path false (64 * j + e)) (g e)

theorem State.writeTables_eq (s : State) (path : Nat) (js : List Nat) (f : Nat → Nat → Word) :
    s.writeTables path js f = s.each js fun s j => s.writeTable path j (f j) := rfl

theorem State.tblKey_congr {s u : State} (h : u.dpdSels = s.dpdSels) (path : Nat) (active : Bool) (word : Nat) :
    u.tblKey path active word = s.tblKey path active word := by
  rw [State.tblKey, State.tblKey, State.dpdSel, State.dpdSel, h]

section
variable (s : State) (path j : Nat) (g : Nat → Word)

/-- No entry written moves the bank. -/
theorem State.writeTable_eq : s.writeTable path j g =
    (List.range 64).foldl (fun u e => u.setDpdEntry (s.tblKey path false (64 * j + e)) (g e)) s := by
  have hloop : ∀ (l : List Nat) (u : State), u.dpdSels = s.dpdSels → u.each l (fun v e => v.setDpdEntry (v.tblKey path false (64 * j + e)) (g e)) =
      l.foldl (fun v e => v.setDpdEntry (s.tblKey path false (64 * j + e)) (g e)) u := by
    intro l
    induction l with
    | nil => exact fun _ _ => rfl
    | cons e l ih =>
      intro u hu
      rw [State.each_cons, State.tblKey_congr hu, List.foldl_cons]
      exact ih _ hu
  exact hloop _ s rfl

theorem State.writeTable_field {α : Type} (m : State → α) (hm : ∀ (u : State) k v, m (u.setDpdEntry k v) = m u) :
    m (s.writeTable path j g) = m s := by
  rw [State.writeTable_eq]
  exact foldl_put_field m hm _ _ _ s

theorem State.writeTable_entry {e : Nat} (he : e < 64) : (s.writeTable path j g).dpdEntry (s.tblKey path false (64 * j + e)) = g e := by
  rw [State.writeTable_eq]
  exact foldl_put_same (fun u k v i => u.dpdEntry_setDpdEntry k v i) _ _
    (fun a b h => by simpa only [State.tblKey, Nat.add_left_cancel_iff] using h) he s

theorem State.writeTable_apart {i e : Nat} (hi : i ≠ j) (he : e < 64) :
    (s.writeTable path j g).dpdEntry (s.tblKey path false (64 * i + e)) = s.dpdEntry (s.tblKey path false (64 * i + e)) := by
  rw [State.writeTable_eq]
  exact foldl_put_apart (fun u k v i => u.dpdEntry_setDpdEntry k v i) _ _ (fun w hw => by simp only [State.tblKey]; omega) s
end

section
variable (s : State) (path : Nat) (js : List Nat) (f : Nat → Nat → Word)

theorem State.writeTables_field {α : Type} (m : State → α) (hm : ∀ (u : State) k v, m (u.setDpdEntry k v) = m u) :
    m (s.writeTables path js f) = m s := by
  rw [State.writeTables_eq]
  exact State.each_keeps (P := fun u => m u = m s) (fun u j hu => (u.writeTable_field path j _ m hm).trans hu) js rfl

/-- Every entry of the tables written reads what was written to it. -/
theorem State.writeTables_entry {j e : Nat} (hj : j ∈ js) (he : e < 64) :
    (s.writeTables path js f).dpdEntry (s.tblKey path false (64 * j + e)) = f j e := by
  have hsels : ∀ (u : State) i, (u.writeTable path i (f i)).dpdSels = u.dpdSels := fun u i => u.writeTable_field path i _ (·.dpdSels) fun _ _ _ => rfl
  have hwritten : ∀ u : State, u.dpdSels = s.dpdSels → (u.writeTable path j (f j)).dpdEntry (s.tblKey path false (64 * j + e)) = f j e := fun u hu => by
    rw [← State.tblKey_congr hu]
    exact u.writeTable_entry path j _ he
  rw [State.writeTables_eq]
  refine State.each_establishes (Q := fun i u => i = j → u.dpdSels = s.dpdSels → u.dpdEntry (s.tblKey path false (64 * j + e)) = f j e)
    ?_ ?_ hj s rfl (s.writeTables_field path js f (·.dpdSels) fun _ _ _ => rfl)
  · rintro u i rfl hu
    exact hwritten u ((hsels u i).symm.trans hu)
  · rintro u i y hQ rfl hu
    have hbefore := (hsels u y).symm.trans hu
    by_cases hy : i = y
    · subst hy
      exact hwritten u hbefore
    · have happart := u.writeTable_apart path y (f y) hy he
      rw [State.tblKey_congr hbefore] at happart
      exact happart.trans (hQ rfl hbefore)
end

/-! ### Entries from coefficients -/

/-- A part of an entry in 16 bits stands in its half of the word. -/
theorem State.entryWord_part (s : State) (path j e : Nat) {part : Nat} (hpart : part ≤ 1)
    (hhigh : entryPart s.solverK (s.coefWords path) j e part ≤ 32767) (hlow : -32768 ≤ entryPart s.solverK (s.coefWords path) j e part) :
    (s.entryWord path j e).extractLsb' (16 * part) 16 = BitVec.ofInt 16 (entryPart s.solverK (s.coefWords path) j e part) := by
  obtain rfl | rfl : part = 0 ∨ part = 1 := by omega
  · exact BitVec.extractLsb'_append_eq_right.trans (if_pos ⟨hlow, hhigh⟩)
  · exact BitVec.extractLsb'_append_eq_left.trans (if_pos ⟨hlow, hhigh⟩)

section
variable (s : State) (path : Nat)

/-- The coefficients found written: the tables in use hold the entries that they give. -/
theorem State.tablesFromCoefs_entry {j e part : Nat} (hj : j ∈ s.tablesInUse (path / 16) (path % 16)) (he : e < 64) (hpart : part ≤ 1)
    (hhigh : entryPart s.solverK (s.coefWords path) j e part ≤ 32767) (hlow : -32768 ≤ entryPart s.solverK (s.coefWords path) j e part) :
    ((s.tablesFromCoefs path).dpdEntry (s.tblKey path false (64 * j + e))).extractLsb' (16 * part) 16 =
      BitVec.ofInt 16 (entryPart s.solverK (s.coefWords path) j e part) := by
  rw [← s.entryWord_part path j e hpart hhigh hlow]
  exact congrArg (·.extractLsb' (16 * part) 16) (s.writeTables_entry path _ (fun j e => s.entryWord path j e) hj he)

theorem State.tablesFromCoefs_field {α : Type} (m : State → α) (hm : ∀ (u : State) k v, m (u.setDpdEntry k v) = m u)
    (hfree : ∀ u : State, m u.useFree = m u) : m (s.tablesFromCoefs path) = m s :=
  (hfree _).trans (s.writeTables_field path _ _ m hm)

theorem State.lockPath_reg {a : Nat} (b : Bool) (ha : ∀ q, a ≠ TDPD_SWAP_STAT q) : (s.lockPath path b).reg a = s.reg a := s.reg_setReg_ne _ (ha _)

theorem State.lockPath_solverK (b : Bool) : (s.lockPath path b).solverK = s.solverK := by
  rw [State.solverK, State.fld, State.lockPath_reg _ _ _ (by simp only [HDPD_CTRL, TDPD_SWAP_STAT]; omega)]
  rfl

/-- Which tables are in use rests on CTRL and the branches, not on the locks. -/
theorem State.lockPath_tablesInUse (b : Bool) (t i : Nat) : (s.lockPath path b).tablesInUse t i = s.tablesInUse t i := by
  have hctrl : (s.lockPath path b).reg (TDPD_CTRL t) = s.reg (TDPD_CTRL t) :=
    s.lockPath_reg _ _ fun q => by simp only [TDPD_CTRL, TDPD_SWAP_STAT]; omega
  have htaps : ∀ k ∈ List.range 8, (s.lockPath path b).branchTaps t k = s.branchTaps t k := fun k hk => by
    have hk8 := List.mem_range.1 hk
    have hbranch : (s.lockPath path b).reg (TDPD_BRANCH t k) = s.reg (TDPD_BRANCH t k) :=
      s.lockPath_reg _ _ fun q => by simp only [TDPD_BRANCH, TDPD_SWAP_STAT]; omega
    rw [State.branchTaps, State.branchTaps, State.bit, State.bit, State.fld, State.fld, hbranch]
  have hbranches : ((List.range 8).flatMap fun k => (List.range ((s.lockPath path b).branchTaps t k)).map fun n => 3 * k + n) =
      (List.range 8).flatMap fun k => (List.range (s.branchTaps t k)).map fun n => 3 * k + n :=
    List.flatMap_congr fun k hk => by rw [htaps k hk]
  simp only [State.tablesInUse, hbranches, State.fld, hctrl]
end

/-- Tables written from the coefficients that `c` holds, in a state that agrees with `s` on what they rest on. -/
theorem tables_held {s c u : State} {path : Nat} (hK : c.solverK = s.solverK)
    (huse : c.tablesInUse (path / 16) (path % 16) = s.tablesInUse (path / 16) (path % 16)) (hsel : c.dpdSels = s.dpdSels)
    (htables : u.dpdTbl = (c.tablesFromCoefs path).dpdTbl) : ∀ j ∈ s.tablesInUse (path / 16) (path % 16), ∀ e < 64, ∀ part ≤ 1,
      let v := entryPart s.solverK (c.coefWords path) j e part
      v ≤ 32767 → -32768 ≤ v → (u.dpdEntry (s.tblKey path false (64 * j + e))).extractLsb' (16 * part) 16 = BitVec.ofInt 16 v := by
  intro j hj e he part hpart
  rw [← hK, State.dpdEntry, htables, ← State.tblKey_congr hsel]
  exact c.tablesFromCoefs_entry path (huse ▸ hj) he hpart

/-! ### A table write of the solver ends (R186) -/

/-- The shadow bank is unlocked at the end of a write. -/
def State.unlocked (s : State) (path stop : Nat) : State := (s.advance stop).lockPath path false

section
variable (s : State) (path stop : Nat)

theorem State.unlocked_field {α : Type} (m : State → α) (hm : ∀ (x : State) n b r, m { x with now := n, tb := b, regs := r } = m x) :
    m (s.unlocked path stop) = m s := by
  obtain ⟨n, b, h⟩ := s.advance_eq stop
  rw [State.unlocked, h]
  exact hm s ..

theorem State.unlocked_reg {a : Nat} (ha : ∀ q, a ≠ TDPD_SWAP_STAT q) : (s.unlocked path stop).reg a = s.reg a := by
  rw [State.unlocked, State.lockPath_reg _ _ _ ha, State.advance_reg]

theorem State.unlocked_solverK : (s.unlocked path stop).solverK = s.solverK :=
  (State.lockPath_solverK ..).trans (s.advance_field stop (·.solverK) fun _ _ _ => rfl)

theorem State.unlocked_tablesInUse (t i : Nat) : (s.unlocked path stop).tablesInUse t i = s.tablesInUse t i :=
  (State.lockPath_tablesInUse ..).trans (s.advance_field stop (·.tablesInUse t i) fun _ _ _ => rfl)
end

/-- The coefficients that a job found, held. -/
def State.jobCoefs (s : State) (path stop : Nat) (coefs : List Int) : State :=
  (s.unlocked path stop).putCoefs path fun w => BitVec.ofInt 32 (coefs.getD w 0)

/-- The swap armed, or the update reported. -/
def State.updateOut (s : State) (path : Nat) : State :=
  if s.bit HDPD_CTRL HDPD_CTRL_AUTO_SWAP then s.swapArm (path / 16) (2 ^ (path % 16)) else s.raise Ev.DPD_UPDATE_READY

section
variable (s : State) (path : Nat)

theorem State.updateOut_field {α : Type} (m : State → α)
    (hm : ∀ (x : State) r g q l a, m { x with regs := r, glides := g, logQ := q, loggedAts := l, dpdSwapAts := a } = m x) :
    m (s.updateOut path) = m s := by
  unfold State.updateOut
  split
  · obtain ⟨r, a, h⟩ := s.swapArm_rest (path / 16) (2 ^ (path % 16))
    rw [h]
    exact hm s r s.glides s.logQ s.loggedAts a
  · obtain ⟨r, g, q, l, h⟩ := s.raise_event Ev.DPD_UPDATE_READY
    rw [h]
    exact hm s r g q l s.dpdSwapAts

theorem State.updateOut_reg {a : Nat} (ha : ∀ q, a ≠ TDPD_SWAP_STAT q) (he : eventReg a = false) : (s.updateOut path).reg a = s.reg a := by
  unfold State.updateOut
  split
  · exact s.swapArm_reg _ _ (ha _)
  · exact s.reg_raise _ _ he

variable {s}

theorem State.updateOut_stored {src : Nat} (hsrc : src < 256) (h : s.stored src = true) : (s.updateOut path).stored src = true := by
  unfold State.updateOut
  split
  · rw [State.stored, State.swapArm_reg _ _ _ (by simp only [HIVE_STATUS, TDPD_SWAP_STAT]; omega)]
    exact h
  · exact s.stored_raise_keep _ _ hsrc h

theorem State.updateOut_reported (h : s.bit HDPD_CTRL HDPD_CTRL_AUTO_SWAP = false) : (s.updateOut path).stored Ev.DPD_UPDATE_READY = true := by
  rw [State.updateOut, if_neg (Bool.eq_false_iff.1 h)]
  exact s.stored_raise_hub _ (by decide) (by decide)

theorem State.updateOut_armed (h : s.bit HDPD_CTRL HDPD_CTRL_AUTO_SWAP = true) :
    (s.updateOut path).swapPending (path / 16) (path % 16) = true := by
  rw [State.updateOut, if_pos h, State.swapArm_pending _ _ _ (Nat.mod_lt _ (by decide)), Nat.testBit_two_pow_self, Bool.true_or]
end

section
variable {s : State} {path stop : Nat} {nmse : Int} {coefs : List Int}

theorem State.tableWriteDone_eq (h : s.solver = some (.write path stop nmse coefs))
    (hswap : (s.jobs.any fun (j : Job) => j.path == path && j.swapped) = false) :
    s.tableWriteDone = ((((s.jobCoefs path stop coefs).tablesFromCoefs path).endJob path 0 nmse).updateOut path).solverKick := by
  rw [← s.unlocked_field path stop (·.jobs.any fun (j : Job) => j.path == path && j.swapped) fun _ _ _ _ => rfl] at hswap
  simp only [State.tableWriteDone, h]
  exact if_neg (Bool.eq_false_iff.1 hswap)

/-- A register away from the results, the counts of jobs and the locks, at the end of a job's table write. -/
theorem State.jobWritten_reg {a : Nat} (ha : ∀ q, a ≠ TDPD_SWAP_STAT q) (hjob : a ∉ jobRegs) (he : eventReg a = false) (hne : a ≠ HDPD_RESULT path) :
    (((s.jobCoefs path stop coefs).tablesFromCoefs path).endJob path 0 nmse).reg a = s.reg a := by
  rw [State.endJob_reg _ _ _ _ hjob he hne, State.tablesFromCoefs_field _ _ (·.reg a) (fun _ _ _ => rfl) fun _ => rfl, State.jobCoefs,
    State.putCoefs_field _ _ _ (·.reg a) fun _ _ _ => rfl, State.unlocked_reg _ _ _ ha]

/-- A table write of a path whose swap has not applied since the job opened. -/
theorem table_written (hpath : path < 64) (h : s.solver = some (.write path stop nmse coefs))
    (hswap : (s.jobs.any fun (j : Job) => j.path == path && j.swapped) = false) : Answers .dpdTableWriteDone s fun u =>
    u.fld (HDPD_RESULT path) HDPD_RESULT_OUTCOME = 0 ∧ u.stored Ev.DPD_JOB_DONE = true ∧
      (s.bit HDPD_CTRL HDPD_CTRL_AUTO_SWAP = false → u.stored Ev.DPD_UPDATE_READY = true) ∧
      (s.bit HDPD_CTRL HDPD_CTRL_AUTO_SWAP = true → u.swapPending (path / 16) (path % 16) = true) ∧
      (∀ w < 480, u.coef (coefKey path w) = BitVec.ofInt 32 (coefs.getD w 0)) ∧
      ∀ j ∈ s.tablesInUse (path / 16) (path % 16), ∀ e < 64, ∀ part ≤ 1,
        let v := entryPart s.solverK (u.coefWords path) j e part
        v ≤ 32767 → -32768 ≤ v → (u.dpdEntry (s.tblKey path false (64 * j + e))).extractLsb' (16 * part) 16 = BitVec.ofInt 16 v := by
  refine .of_unsettled ((exec_dpdTableWriteDone s).trans (congrArg done (State.tableWriteDone_eq h hswap))) (fun _ _ _ => rfl) ?_
  let c := s.jobCoefs path stop coefs
  let e := (c.tablesFromCoefs path).endJob path 0 nmse
  have hcoefs : (e.updateOut path).solverKick.coefs = c.coefs := by
    rw [State.solverKick_field _ (·.coefs) fun _ _ _ => rfl, State.updateOut_field _ _ (·.coefs) fun _ _ _ _ _ _ => rfl,
      State.endJob_field _ _ _ _ (·.coefs) (fun _ => rfl) fun _ _ _ _ => rfl, State.tablesFromCoefs_field _ _ (·.coefs) (fun _ _ _ => rfl) fun _ => rfl]
  have htables : (e.updateOut path).solverKick.dpdTbl = (c.tablesFromCoefs path).dpdTbl := by
    rw [State.solverKick_field _ (·.dpdTbl) fun _ _ _ => rfl, State.updateOut_field _ _ (·.dpdTbl) fun _ _ _ _ _ _ => rfl,
      State.endJob_field _ _ _ _ (·.dpdTbl) (fun _ => rfl) fun _ _ _ _ => rfl]
  have hcoef : ∀ k, (e.updateOut path).solverKick.coef k = c.coef k := fun k => by rw [State.coef, hcoefs, State.coef]
  have hwords : (e.updateOut path).solverKick.coefWords path = c.coefWords path := by simp only [State.coefWords, hcoef]
  have hauto : e.bit HDPD_CTRL HDPD_CTRL_AUTO_SWAP = s.bit HDPD_CTRL HDPD_CTRL_AUTO_SWAP := by
    rw [State.bit, State.jobWritten_reg (by simp only [HDPD_CTRL, TDPD_SWAP_STAT]; omega) (by decide) (by decide)
      (by simp only [HDPD_CTRL, HDPD_RESULT]; omega), State.bit]
  refine ⟨?_, ?_, fun hoff => ?_, fun hon => ?_, fun w hw => ?_, ?_⟩
  · obtain ⟨-, hevent⟩ := jobResult_place hpath
    rw [State.fld, State.solverKick_reg, State.updateOut_reg _ _ (by simp only [HDPD_RESULT, TDPD_SWAP_STAT]; omega) hevent, ← State.fld]
    exact ((c.tablesFromCoefs path).endJob_result path 0 nmse hpath (by decide)).1
  · rw [State.solverKick_field _ (·.stored Ev.DPD_JOB_DONE) fun _ _ _ => rfl]
    exact State.updateOut_stored path (by decide) (State.endJob_stored ..)
  · rw [State.solverKick_field _ (·.stored Ev.DPD_UPDATE_READY) fun _ _ _ => rfl]
    exact State.updateOut_reported path (hauto.trans hoff)
  · rw [State.solverKick_field _ (·.swapPending (path / 16) (path % 16)) fun _ _ _ => rfl]
    exact State.updateOut_armed path (hauto.trans hon)
  · exact (hcoef _).trans (State.putCoefs_coef _ _ _ hw)
  · rw [hwords]
    refine tables_held (c := c) ?_ ?_ ?_ htables
    · exact (State.putCoefs_field _ _ _ (·.solverK) fun _ _ _ => rfl).trans (s.unlocked_solverK path stop)
    · exact (State.putCoefs_field _ _ _ (·.tablesInUse _ _) fun _ _ _ => rfl).trans (s.unlocked_tablesInUse path stop _ _)
    · exact (State.putCoefs_field _ _ _ (·.dpdSels) fun _ _ _ => rfl).trans (s.unlocked_field path stop (·.dpdSels) fun _ _ _ _ => rfl)
end

/-! ### Coefficient commands (R189) -/

/-- The coefficients and the entries of OP 1: c(0, 0) is 1 in Q8.24, and table 0 holds 1 in units of 2^-14. -/
def identityCoef (w : Nat) : Word := if w = 0 then 0x01000000 else 0
def identityEntry (j _ : Nat) : Word := if j = 0 then 0x00004000 else 0

/-- The end of a coefficient command's write. -/
def State.cmdEnded (s : State) (path stop : Nat) : State := { s.unlocked path stop with coefCmd := none }

section
variable {s : State} {path op stop : Nat}

theorem State.coefStart_taken (hfree : s.coefBusy path = false) (hop : op = 1 ∨ op = 2) :
    s.coefStart op path = ({ s with coefCmd := some ⟨path, op, none⟩ } : State).beginWrites := by
  rw [State.coefStart, hfree, if_neg Bool.false_ne_true, if_pos hop]

theorem State.coefStart_busy (hbusy : s.coefBusy path = true) (op : Nat) : s.coefStart op path = s.accessError := by
  rw [State.coefStart, hbusy, if_pos rfl]

theorem State.coefDone_identity (h : s.coefCmd = some ⟨path, 1, some stop⟩) : s.coefDone =
    ((s.cmdEnded path stop).putCoefs path identityCoef).writeTables path (List.range 30) identityEntry := by
  simp only [State.coefDone, h]
  rfl

theorem State.coefDone_tables (h : s.coefCmd = some ⟨path, 2, some stop⟩) : s.coefDone = (s.cmdEnded path stop).tablesFromCoefs path := by
  simp only [State.coefDone, h]
  rfl

theorem State.cmdEnded_now : (s.cmdEnded path stop).now = max s.now stop := s.advance_now stop
theorem State.cmdEnded_coefs : (s.cmdEnded path stop).coefs = s.coefs := s.unlocked_field path stop (·.coefs) fun _ _ _ _ => rfl
theorem State.cmdEnded_sels : (s.cmdEnded path stop).dpdSels = s.dpdSels := s.unlocked_field path stop (·.dpdSels) fun _ _ _ _ => rfl

/-- OP 1: the identity. -/
theorem coefCmd_identity (h : s.coefCmd = some ⟨path, 1, some stop⟩) : Answers .coefCmdDone s fun u => u.coefCmd = none ∧ u.now = max s.now stop ∧
    (∀ p w, p ≠ path → w < 480 → u.coef (coefKey p w) = s.coef (coefKey p w)) ∧
    (∀ w < 480, u.coef (coefKey path w) = if w = 0 then 0x01000000 else 0) ∧
    ∀ j < 30, ∀ e < 64, u.dpdEntry (s.tblKey path false (64 * j + e)) = if j = 0 then 0x00004000 else 0 := by
  refine .of_unsettled ((exec_coefCmdDone s).trans (congrArg done (State.coefDone_identity h))) (fun _ _ _ => rfl) ?_
  let c := (s.cmdEnded path stop).putCoefs path identityCoef
  have hfield : ∀ {α : Type} (m : State → α), (∀ (u : State) k v, m (u.setDpdEntry k v) = m u) → (∀ (u : State) k v, m (u.setCoef k v) = m u) →
      m (c.writeTables path (List.range 30) identityEntry) = m (s.cmdEnded path stop) := fun m htable hcoef =>
    (c.writeTables_field path _ _ m htable).trans (State.putCoefs_field _ path _ m hcoef)
  have hcoef : ∀ k, (c.writeTables path (List.range 30) identityEntry).coef k = c.coef k := fun k =>
    c.writeTables_field path _ _ (·.coef k) fun _ _ _ => rfl
  refine ⟨?_, ?_, fun p w hp hw => ?_, fun w hw => ?_, fun j hj e he => ?_⟩
  · rw [hfield (·.coefCmd) (fun _ _ _ => rfl) fun _ _ _ => rfl, State.cmdEnded]
  · rw [hfield (·.now) (fun _ _ _ => rfl) fun _ _ _ => rfl, State.cmdEnded_now]
  · rw [hcoef, State.putCoefs_apart _ _ _ hp hw, State.coef, State.cmdEnded_coefs, State.coef]
  · rw [hcoef, State.putCoefs_coef _ _ _ hw, identityCoef]
  · have hsels : c.dpdSels = s.dpdSels := (State.putCoefs_field _ path _ (·.dpdSels) fun _ _ _ => rfl).trans State.cmdEnded_sels
    rw [← State.tblKey_congr hsels]
    exact c.writeTables_entry path _ _ (List.mem_range.2 hj) he

/-- OP 2: the tables that the coefficients held give. -/
theorem coefCmd_tables (h : s.coefCmd = some ⟨path, 2, some stop⟩) : Answers .coefCmdDone s fun u => u.coefCmd = none ∧ u.now = max s.now stop ∧
    u.coefs = s.coefs ∧ ∀ j ∈ s.tablesInUse (path / 16) (path % 16), ∀ e < 64, ∀ part ≤ 1,
      let v := entryPart s.solverK (s.coefWords path) j e part
      v ≤ 32767 → -32768 ≤ v → (u.dpdEntry (s.tblKey path false (64 * j + e))).extractLsb' (16 * part) 16 = BitVec.ofInt 16 v := by
  refine .of_unsettled ((exec_coefCmdDone s).trans (congrArg done (State.coefDone_tables h))) (fun _ _ _ => rfl) ?_
  have hfield : ∀ {α : Type} (m : State → α), (∀ (u : State) k v, m (u.setDpdEntry k v) = m u) → (∀ u : State, m u.useFree = m u) →
      m ((s.cmdEnded path stop).tablesFromCoefs path) = m (s.cmdEnded path stop) := fun m => State.tablesFromCoefs_field _ path m
  have hwords : (s.cmdEnded path stop).coefWords path = s.coefWords path := s.unlocked_field path stop (·.coefWords path) fun _ _ _ _ => rfl
  refine ⟨hfield (·.coefCmd) (fun _ _ _ => rfl) fun _ => rfl, (hfield (·.now) (fun _ _ _ => rfl) fun _ => rfl).trans State.cmdEnded_now,
    (hfield (·.coefs) (fun _ _ _ => rfl) fun _ => rfl).trans State.cmdEnded_coefs, ?_⟩
  rw [← hwords]
  exact tables_held (c := s.cmdEnded path stop) (s.unlocked_solverK path stop) (s.unlocked_tablesInUse path stop _ _) State.cmdEnded_sels rfl
end

/-- A coefficient command ends. -/
theorem coefCmd_done {s : State} {path op stop : Nat} (hop : op = 1 ∨ op = 2) (h : s.coefCmd = some ⟨path, op, some stop⟩) :
    Answers .coefCmdDone s fun u => u.coefCmd = none ∧ u.now = max s.now stop ∧
      (∀ p w, p ≠ path → w < 480 → u.coef (coefKey p w) = s.coef (coefKey p w)) ∧
      (op = 1 → (∀ w < 480, u.coef (coefKey path w) = if w = 0 then 0x01000000 else 0) ∧
        ∀ j < 30, ∀ e < 64, u.dpdEntry (s.tblKey path false (64 * j + e)) = if j = 0 then 0x00004000 else 0) ∧
      (op = 2 → (∀ w < 480, u.coef (coefKey path w) = s.coef (coefKey path w)) ∧
        ∀ j ∈ s.tablesInUse (path / 16) (path % 16), ∀ e < 64, ∀ part ≤ 1,
          let v := entryPart s.solverK (s.coefWords path) j e part
          v ≤ 32767 → -32768 ≤ v → (u.dpdEntry (s.tblKey path false (64 * j + e))).extractLsb' (16 * part) 16 = BitVec.ofInt 16 v) := by
  rcases hop with rfl | rfl
  · refine (coefCmd_identity h).imp fun u hu => ?_
    obtain ⟨hcmd, hnow, hothers, hcoefs, htables⟩ := hu
    exact ⟨hcmd, hnow, hothers, fun _ => ⟨hcoefs, htables⟩, nofun⟩
  · refine (coefCmd_tables h).imp fun u hu => ?_
    obtain ⟨hcmd, hnow, hcoefs, htables⟩ := hu
    have hcoef : ∀ k, u.coef k = s.coef k := fun k => by rw [State.coef, hcoefs, State.coef]
    exact ⟨hcmd, hnow, fun p w _ _ => hcoef _, nofun, fun _ => ⟨fun w _ => hcoef _, htables⟩⟩

/-! ### The window on the coefficients (R189) -/

theorem State.coefWrite_free {s : State} (h : s.coefBusy (s.fld HDPD_COEF_ADDR HDPD_COEF_ADDR_PATH) = false) (v : Word) : s.coefWrite v =
    (s.setCoef (coefKey (s.fld HDPD_COEF_ADDR HDPD_COEF_ADDR_PATH) (s.fld HDPD_COEF_ADDR HDPD_COEF_ADDR_WORD)) v).coefAdvance := by
  simp only [State.coefWrite, h, Bool.false_eq_true, if_false]

theorem State.coefWrite_busy {s : State} (h : s.coefBusy (s.fld HDPD_COEF_ADDR HDPD_COEF_ADDR_PATH) = true) (v : Word) :
    s.coefWrite v = s.accessError.coefAdvance := by
  simp only [State.coefWrite, h, if_true]

/-- A discarded write is an access error, and the address moves on all the same. -/
theorem coefData_discarded {s : State} (hans : s.answers HDPD_COEF_DATA = true)
    (hbusy : s.coefBusy (s.fld HDPD_COEF_ADDR HDPD_COEF_ADDR_PATH) = true) (v : Word) :
    Answers (.coefDataAccess (some v)) s fun u => u.stored Ev.REG_ACCESS_ERROR = true ∧
      u.fld HDPD_COEF_ADDR HDPD_COEF_ADDR_WORD =
        (if 479 ≤ s.fld HDPD_COEF_ADDR HDPD_COEF_ADDR_WORD then 0 else s.fld HDPD_COEF_ADDR HDPD_COEF_ADDR_WORD + 1) ∧
      Frame [HDPD_COEF_ADDR] s u := by
  refine .of_guarded (exec_coefDataAccess_write v s) hans ?_
  rw [State.coefWrite_busy hbusy]
  refine ⟨?_, ?_, ((Frame.refl _ s).accessError.setFld _ _ _ (List.mem_singleton_self _)).settle⟩
  · rw [State.stored_settle, State.coefAdvance, State.setFld_eq, State.stored_setReg _ _ _ _ (by decide)]
    exact s.stored_accessError
  · have hword : s.accessError.fld HDPD_COEF_ADDR HDPD_COEF_ADDR_WORD = s.fld HDPD_COEF_ADDR HDPD_COEF_ADDR_WORD := s.fld_raise _ _ _ (by decide)
    rw [State.fld_settle, State.coefAdvance, State.fld_setFld _ _ _ _ (by decide), hword]
    exact Nat.mod_eq_of_lt (show _ < 512 by split <;> omega)

/-! ### The statement -/

/-- Settles O22: an acquisition is judged by its reason, each step of the solver by what it ends in, a coefficient command by its OP, and an access of
the window by what bars it. -/
theorem dpdSolver : Obligations.DpdSolver := by
  refine ⟨fun s => ⟨fun t r i at_ htrain hat => acquisition_judged htrain hat rfl rfl, fun path t r stop => accumulation_done,
    fun path stop hpath h => solve_done hpath h, fun path stop nmse coefs hpath h hswap => table_written hpath h hswap⟩, fun s path => ⟨?_, ?_, ?_, ?_⟩⟩
  · intro hans hfree
    rw [exec_coefIdentity, exec_coefTablesFromCoef, State.guarded_of hans, State.guarded_of hans, State.coefStart_taken hfree (.inl rfl),
      State.coefStart_taken hfree (.inr rfl)]
    exact ⟨rfl, rfl⟩
  · intro hans hbusy
    rw [exec_coefIdentity, exec_coefTablesFromCoef, State.guarded_of hans, State.guarded_of hans, State.coefStart_busy hbusy,
      State.coefStart_busy hbusy]
    exact ⟨rfl, rfl⟩
  · exact fun op stop hop h => coefCmd_done hop h
  · intro p w next hans
    refine ⟨?_, fun hfree v => ?_, fun hbusy v => coefData_discarded hans hbusy v⟩
    · rw [exec_coefDataAccess_read, State.guardedRead_of hans]
      rfl
    · rw [exec_coefDataAccess_write, State.guarded_of hans, State.coefWrite_free hfree]
      rfl

end Sys2Proof.Machine
end

section
/-!
PROOFS. The registers of the Dragonfly receivers, and the end of an image calibration (R172, R176, R201).
-/
namespace Sys2Proof.Machine
open Reg F

theorem exec_dflyCtrlWrite (t : Fin 4) (w : Word) (s : State) :
    exec (.dflyCtrlWrite t w) s = done (s.guarded (DFLY_CTRL t) fun s => s.dflyCtrl t w) := rfl
theorem exec_imageCalEnd (t : Fin 4) (r : Fin 2) (rej : BitVec 8) (taps : List (Int × Int)) (s : State) :
    exec (.imageCalEnd t r rej taps) s = done (s.imageEnd t r rej taps) := rfl

/-! ### DFLY.CTRL (R172) -/

/-- The training enables written. -/
def State.trainEnables (s : State) (t : Nat) (w : Word) : State :=
  (s.setFld (DFLY_CTRL t) DFLY_CTRL_TRAIN_EN_0 (getF w DFLY_CTRL_TRAIN_EN_0)).setFld (DFLY_CTRL t) DFLY_CTRL_TRAIN_EN_1 (getF w DFLY_CTRL_TRAIN_EN_1)

section
variable (s : State) (t : Nat) (w : Word)

theorem getF_mod (f : Fld) : getF w f % 2 ^ f.width = getF w f := Nat.mod_mod ..

theorem State.trainEnables_fields : (s.trainEnables t w).fld (DFLY_CTRL t) ⟨0, 2⟩ = s.fld (DFLY_CTRL t) ⟨0, 2⟩ ∧
    (s.trainEnables t w).fld (DFLY_CTRL t) DFLY_CTRL_TRAIN_EN_0 = getF w DFLY_CTRL_TRAIN_EN_0 ∧
    (s.trainEnables t w).fld (DFLY_CTRL t) DFLY_CTRL_TRAIN_EN_1 = getF w DFLY_CTRL_TRAIN_EN_1 := by
  refine ⟨?_, ?_, ?_⟩
  · rw [State.trainEnables, State.fld_setFld_apart _ _ _ _ _ (by decide) (by decide), State.fld_setFld_apart _ _ _ _ _ (by decide) (by decide)]
  · rw [State.trainEnables, State.fld_setFld_apart _ _ _ _ _ (by decide) (by decide), State.fld_setFld _ _ _ _ (by decide), getF_mod]
  · rw [State.trainEnables, State.fld_setFld _ _ _ _ (by decide), getF_mod]

theorem State.dflyCtrl_configure (hmode : s.mode = .configure) : s.dflyCtrl t w = s.plainWrite (DFLY_CTRL t) w := if_pos hmode

theorem State.dflyCtrl_other (hmode : s.mode ≠ .configure) : s.dflyCtrl t w =
    if getF w ⟨0, 2⟩ = s.fld (DFLY_CTRL t) ⟨0, 2⟩ then s.trainEnables t w else (s.trainEnables t w).accessError := if_neg hmode

theorem State.trainEnables_frame : Frame [DFLY_CTRL t] s (s.trainEnables t w) :=
  ((Frame.refl _ s).setFld _ _ _ (List.mem_singleton_self _)).setFld _ _ _ (List.mem_singleton_self _)
end

/-- Outside Configure the SIDE bits stay, the training enables are written. -/
theorem dflyCtrl_written {s : State} {t : Fin 4} {w : Word} (hans : s.answers (DFLY_CTRL t) = true) (hmode : s.mode ≠ .configure) :
    Answers (.dflyCtrlWrite t w) s fun u => u.fld (DFLY_CTRL t) ⟨0, 2⟩ = s.fld (DFLY_CTRL t) ⟨0, 2⟩ ∧
      u.fld (DFLY_CTRL t) DFLY_CTRL_TRAIN_EN_0 = getF w DFLY_CTRL_TRAIN_EN_0 ∧
      u.fld (DFLY_CTRL t) DFLY_CTRL_TRAIN_EN_1 = getF w DFLY_CTRL_TRAIN_EN_1 ∧
      (getF w ⟨0, 2⟩ ≠ s.fld (DFLY_CTRL t) ⟨0, 2⟩ → u.stored Ev.REG_ACCESS_ERROR = true) ∧ Frame [DFLY_CTRL t] s u := by
  refine .of_guarded (exec_dflyCtrlWrite t w s) hans ?_
  obtain ⟨hside, hen0, hen1⟩ := s.trainEnables_fields t w
  have hframe := s.trainEnables_frame t w
  simp only [State.fld_settle, State.stored_settle]
  rw [State.dflyCtrl_other _ _ _ hmode]
  split
  · next hsame => exact ⟨hside, hen0, hen1, fun hne => absurd hsame hne, hframe.settle⟩
  · have hevent : eventReg (DFLY_CTRL t) = false := by
      clear * -
      revert t
      decide
    rw [State.accessError, State.fld_raise _ _ _ _ hevent, State.fld_raise _ _ _ _ hevent, State.fld_raise _ _ _ _ hevent]
    exact ⟨hside, hen0, hen1, fun _ => State.stored_accessError _, (hframe.raise _).settle⟩

/-! ### The result of an image calibration (R176) -/

theorem Frame.setMaskBit {l : List Nat} {s u : State} (h : Frame l s u) (a : Nat) (f : Fld) (i : Nat) (b : Bool) (ha : a ∈ l) :
    Frame l s (u.setMaskBit a f i b) := h.setFld _ _ _ ha

theorem Keeps.modDfly {l : List Nat} {s u : State} (h : Keeps l s u) (k : Nat) (f : Dfly → Dfly) : Keeps l s (u.modDfly k f) := h

theorem State.modDfly_reg (s : State) (k : Nat) (f : Dfly → Dfly) (a : Nat) : (s.modDfly k f).reg a = s.reg a := rfl

/-- The image calibration ends at its instant. -/
def State.imageStopped (s : State) (t r : Nat) : State := (s.advance (s.dfly (2 * t + r)).imgStop).endImage t r

/-- The correction found shown in IMG_STAT and STATUS. -/
def State.imageShown (s : State) (t r : Nat) (rej : BitVec 8) : State :=
  ((((s.setFld (DFLY_IMG_STAT t r) DFLY_IMG_STAT_REJ rej.toNat).setFld (DFLY_IMG_STAT t r) DFLY_IMG_STAT_TEMP
    (unsigned 12 (s.tileTemp t))).setMaskBit (DFLY_STATUS t) DFLY_STATUS_IMG_VALID r true).setMaskBit (DFLY_STATUS t) DFLY_STATUS_IMG_DUE r
      false).setMaskBit (DFLY_STATUS t) DFLY_STATUS_STALE r false

/-- It is applied and stamped. -/
def State.imageTaken (s : State) (t r : Nat) (rej : BitVec 8) (taps : List (Int × Int)) : State :=
  (s.imageShown t r rej).modDfly (2 * t + r) fun x => { x with imgAt := some s.now, imgTold := false, taps := taps }

section
variable (s : State) (t r : Nat) (rej : BitVec 8) (taps : List (Int × Int))

theorem State.imageResult_taken (h : s.fld (DFLY_IMG_CFG t) DFLY_IMG_CFG_IMG_MIN ≤ rej.toNat) :
    s.imageResult t r rej taps = s.imageTaken t r rej taps := if_pos h

theorem State.imageResult_failed (h : rej.toNat < s.fld (DFLY_IMG_CFG t) DFLY_IMG_CFG_IMG_MIN) :
    s.imageResult t r rej taps = s.raise (Ev.DFLY_IMGCAL_FAIL t) := if_neg h.not_ge

theorem State.imageStopped_now : (s.imageStopped t r).now = max s.now (s.dfly (2 * t + r)).imgStop := s.advance_now _

theorem State.imageStopped_field {α : Type} (m : State → α) (hm : ∀ (x : State) n b d, m { x with now := n, tb := b, dflies := d } = m x) :
    m (s.imageStopped t r) = m s := by
  obtain ⟨n, b, h⟩ := s.advance_eq (s.dfly (2 * t + r)).imgStop
  rw [State.imageStopped, h]
  exact hm s ..

theorem State.imageStopped_imaging : ((s.imageStopped t r).dfly (2 * t + r)).imaging = false := by
  rw [State.imageStopped, State.endImage, State.dfly_modDfly, if_pos rfl]

theorem State.imageStopped_taps : ((s.imageStopped t r).dfly (2 * t + r)).taps = (s.dfly (2 * t + r)).taps := by
  rw [State.imageStopped, State.endImage, State.dfly_modDfly, if_pos rfl]
  exact s.advance_field _ (fun u => (u.dfly (2 * t + r)).taps) fun _ _ _ => rfl

theorem State.imageTaken_dfly : (s.imageTaken t r rej taps).dfly (2 * t + r) =
    { s.dfly (2 * t + r) with imgAt := some s.now, imgTold := false, taps := taps } :=
  (State.dfly_modDfly _ _ _ _).trans (if_pos rfl)

theorem State.imageShown_frame : Frame [DFLY_IMG_STAT t r, DFLY_STATUS t] s (s.imageShown t r rej) := by
  have hstat : DFLY_IMG_STAT t r ∈ [DFLY_IMG_STAT t r, DFLY_STATUS t] := List.mem_cons_self ..
  have hstatus : DFLY_STATUS t ∈ [DFLY_IMG_STAT t r, DFLY_STATUS t] := List.mem_cons_of_mem _ (List.mem_singleton_self _)
  exact (((((Frame.refl _ s).setFld _ _ _ hstat).setFld _ _ _ hstat).setMaskBit _ _ _ _ hstatus).setMaskBit _ _ _ _ hstatus).setMaskBit _ _ _ _ hstatus

/-- A mask bit of another field of the same register. -/
theorem State.maskBit_setMaskBit_apart (a : Nat) {f g : Fld} (h : f.lo + f.width ≤ g.lo ∨ g.lo + g.width ≤ f.lo) (hg : g.lo + g.width ≤ 32)
    {i : Nat} (hi : i < f.width) (j : Nat) (b : Bool) : (s.setMaskBit a f i b).maskBit a g j = s.maskBit a g j := by
  rw [State.maskBit, State.setMaskBit, State.fld_setFld_apart _ _ _ _ _ (by simp only; omega) hg, State.maskBit]

variable {r}

theorem State.imageShown_status (hr : r < 2) : (s.imageShown t r rej).maskBit (DFLY_STATUS t) DFLY_STATUS_IMG_VALID r = true ∧
    (s.imageShown t r rej).maskBit (DFLY_STATUS t) DFLY_STATUS_IMG_DUE r = false ∧
    (s.imageShown t r rej).maskBit (DFLY_STATUS t) DFLY_STATUS_STALE r = false := by
  refine ⟨?_, ?_, ?_⟩
  · rw [State.imageShown, State.maskBit_setMaskBit_apart _ _ (by decide) (by decide) hr, State.maskBit_setMaskBit_apart _ _ (by decide) (by decide) hr,
      State.maskBit_setMaskBit _ _ _ (by decide) hr hr, if_pos rfl]
  · rw [State.imageShown, State.maskBit_setMaskBit_apart _ _ (by decide) (by decide) hr, State.maskBit_setMaskBit _ _ _ (by decide) hr hr, if_pos rfl]
  · rw [State.imageShown, State.maskBit_setMaskBit _ _ _ (by decide) hr hr, if_pos rfl]

theorem State.imageShown_rej : (s.imageShown t r rej).fld (DFLY_IMG_STAT t r) DFLY_IMG_STAT_REJ = rej.toNat := by
  have hne : DFLY_IMG_STAT t r ≠ DFLY_STATUS t := by
    simp only [DFLY_IMG_STAT, DFLY_STATUS]
    omega
  rw [State.imageShown, State.setMaskBit, State.setMaskBit, State.setMaskBit, State.fld_setFld_ne _ _ _ _ hne, State.fld_setFld_ne _ _ _ _ hne,
    State.fld_setFld_ne _ _ _ _ hne, State.fld_setFld_apart _ _ _ _ _ (by decide) (by decide), State.fld_setFld _ _ _ _ (by decide)]
  exact Nat.mod_eq_of_lt rej.isLt
end

/-! ### The port stops being busy (R201) -/

theorem ChainFrame.mono {rx : Bool} {l l' : List Nat} {s u : State} (h : ChainFrame rx l s u) (hl : ∀ a, a ∈ l → a ∈ l') : ChainFrame rx l' s u :=
  ⟨h.rest, h.quiet, fun a ha => h.reg a fun hin => ha (hl a hin)⟩

/-- `u` is `s` but for what the end of a burst does beside its receivers: counts, the port, events. -/
structure State.PortOnly (t : Nat) (s u : State) : Prop where
  frame : ChainFrame false (DFLY_CAL_STAT t :: clipRegs t) s u
  stored : ∀ src < 256, s.stored src = true → u.stored src = true

theorem State.PortOnly.refl (t : Nat) (s : State) : s.PortOnly t s := ⟨.refl .., fun _ _ => id⟩

/-- The port of a tile free, its burst gone. -/
def State.portClosed (s : State) (t : Nat) : State :=
  ((s.countTile t).setBit (DFLY_CAL_STAT t) DFLY_CAL_STAT_BUSY false).modCal t fun c => { c with burst := none }

section
variable {s : State} {t : Nat}

theorem State.countTile_frame (s : State) (t : Nat) : ChainFrame false (clipRegs t) s (s.countTile t) :=
  State.each_keeps_mem (P := ChainFrame false (clipRegs t) s) (fun _ _ hi hu => hu.countTx (List.mem_range.1 hi)) (.refl ..)

/-- Counting saturated samples clears no status bit. -/
theorem State.countTile_stored {src : Nat} (hsrc : src < 256) (h : s.stored src = true) : (s.countTile t).stored src = true := by
  refine State.each_keeps (P := fun u => u.stored src = true) (fun u i hu => ?_) _ h
  unfold State.countTx State.txClips
  dsimp only
  split
  · exact hu
  · split
    · exact hu
    · refine State.stored_raise_keep _ _ _ hsrc (State.stored_bump_keep _ _ _ hsrc ?_ ?_ hu)
      · simp only [TXCH_CLIP_COUNT, HIVE_STATUS]
        omega
      · simp only [TXCH_CNT_FLAGS, HIVE_STATUS]
        omega

theorem State.portClosed_frame : ChainFrame false (DFLY_CAL_STAT t :: clipRegs t) s (s.portClosed t) :=
  (((s.countTile_frame t).mono fun _ => List.mem_cons_of_mem _).setBit _ _ _ (List.mem_cons_self ..)).modCal _ _

theorem State.portClosed_only (s : State) (t : Nat) : s.PortOnly t ((s.portClosed t).raise (Ev.CAL_DONE t)) := by
  refine ⟨s.portClosed_frame.raise _, fun src hsrc h => State.stored_raise_keep _ _ _ hsrc ?_⟩
  · refine (State.stored_setReg _ _ _ _ ?_).trans (State.countTile_stored hsrc h)
    simp only [DFLY_CAL_STAT, HIVE_STATUS]
    omega

theorem State.portClosed_burst (s : State) (t : Nat) : ((s.portClosed t).cal t).burst = none := by
  rw [State.portClosed, State.modCal, State.cal_setCal, if_pos rfl]

theorem State.portClosed_busy (s : State) (t : Nat) : (s.portClosed t).bit (DFLY_CAL_STAT t) DFLY_CAL_STAT_BUSY = false :=
  State.bit_setBit _ _ _ _ (by decide) rfl

/-- A burst of KIND 3 none of whose receivers is at work leaves its port. -/
theorem State.portFree_idle {b : Burst} (hb : (s.cal t).burst = some b) (hkind : b.kind = 3)
    (hidle : ∀ k < 2, b.pmask.getLsbD k = true → (s.dfly (2 * t + k)).imaging = false) :
    s.portFree t = (s.portClosed t).raise (Ev.CAL_DONE t) := by
  have hdfly : ∀ k, (s.portClosed t).dfly k = s.dfly k := fun k => s.portClosed_frame.field (·.dfly k) fun _ => rfl
  have hcond : ∀ k < 2, ((b.pmask.getLsbD k && ((s.portClosed t).dfly (2 * t + k)).imaging) = true) = False := fun k hk => by
    rw [hdfly]
    cases hpm : b.pmask.getLsbD k with
    | false => simp
    | true => simp [hidle k hk hpm]
  have hloop : (s.portClosed t).each [0, 1] (fun u r => if b.pmask.getLsbD r && (u.dfly (2 * t + r)).imaging then u.endImage t r else u) =
      s.portClosed t := by
    simp only [State.each_cons, State.each_nil, hcond 0 (by decide), hcond 1 (by decide), if_false]
  simp only [State.portFree, hb, hkind, if_true]
  exact congrArg (·.raise (Ev.CAL_DONE t)) hloop
end

/-! ### The end of an image calibration (R176, R201) -/

/-- The image calibration has ended with its result. -/
def State.imageJudged (s : State) (t r : Nat) (rej : BitVec 8) (taps : List (Int × Int)) : State := (s.imageStopped t r).imageResult t r rej taps

section
variable (s : State) (t r : Nat) (rej : BitVec 8) (taps : List (Int × Int))

theorem State.imageJudged_taken (h : s.fld (DFLY_IMG_CFG t) DFLY_IMG_CFG_IMG_MIN ≤ rej.toNat) :
    s.imageJudged t r rej taps = (s.imageStopped t r).imageTaken t r rej taps :=
  State.imageResult_taken _ _ _ _ _ ((s.imageStopped_field t r (·.fld _ DFLY_IMG_CFG_IMG_MIN) fun _ _ _ _ => rfl).trans_le h)

theorem State.imageJudged_failed (h : rej.toNat < s.fld (DFLY_IMG_CFG t) DFLY_IMG_CFG_IMG_MIN) :
    s.imageJudged t r rej taps = (s.imageStopped t r).raise (Ev.DFLY_IMGCAL_FAIL t) :=
  State.imageResult_failed _ _ _ _ _ (h.trans_eq (s.imageStopped_field t r (·.fld _ DFLY_IMG_CFG_IMG_MIN) fun _ _ _ _ => rfl).symm)

theorem State.imageStopped_keeps (l : List Nat) : Keeps l s (s.imageStopped t r) := ((Keeps.refl l s).advance _).modDfly _ _

/-- A state after the result in which the earlier one stands. -/
theorem State.imageStopped_dfly_raise (e : Nat) : ((s.imageStopped t r).raise e).dfly (2 * t + r) = (s.imageStopped t r).dfly (2 * t + r) := by
  rw [State.dfly, State.raise_dflies, State.dfly]

theorem State.imageTaken_now : (s.imageTaken t r rej taps).now = s.now := rfl

theorem State.imageTaken_cal : (s.imageTaken t r rej taps).cal t = s.cal t := rfl

theorem State.imageTaken_keeps : Keeps [DFLY_IMG_STAT t r, DFLY_STATUS t] s (s.imageTaken t r rej taps) :=
  (s.imageShown_frame t r rej).keeps.modDfly _ _

theorem State.cal_raise (e k : Nat) : (s.raise e).cal k = s.cal k := by rw [State.cal, State.raise_cals, State.cal]

theorem State.imageJudged_keeps : Keeps [DFLY_IMG_STAT t r, DFLY_STATUS t] s (s.imageJudged t r rej taps) := by
  refine (s.imageStopped_keeps t r _).trans ?_
  rcases le_or_gt (s.fld (DFLY_IMG_CFG t) DFLY_IMG_CFG_IMG_MIN) rej.toNat with h | h
  · rw [State.imageJudged_taken _ _ _ _ _ h]
    exact State.imageTaken_keeps ..
  · rw [State.imageJudged_failed _ _ _ _ _ h]
    exact ((Frame.refl _ _).raise _).keeps

theorem State.imageJudged_now : (s.imageJudged t r rej taps).now = max s.now (s.dfly (2 * t + r)).imgStop := by
  rcases le_or_gt (s.fld (DFLY_IMG_CFG t) DFLY_IMG_CFG_IMG_MIN) rej.toNat with h | h
  · rw [State.imageJudged_taken _ _ _ _ _ h, State.imageTaken_now, State.imageStopped_now]
  · rw [State.imageJudged_failed _ _ _ _ _ h, State.raise_now, State.imageStopped_now]

theorem State.imageJudged_cal : (s.imageJudged t r rej taps).cal t = s.cal t := by
  have hstopped : (s.imageStopped t r).cal t = s.cal t := s.imageStopped_field t r (·.cal t) fun _ _ _ _ => rfl
  rcases le_or_gt (s.fld (DFLY_IMG_CFG t) DFLY_IMG_CFG_IMG_MIN) rej.toNat with h | h
  · rw [State.imageJudged_taken _ _ _ _ _ h, State.imageTaken_cal, hstopped]
  · rw [State.imageJudged_failed _ _ _ _ _ h, State.cal_raise, hstopped]

theorem State.imageJudged_imaging : ((s.imageJudged t r rej taps).dfly (2 * t + r)).imaging = false := by
  rcases le_or_gt (s.fld (DFLY_IMG_CFG t) DFLY_IMG_CFG_IMG_MIN) rej.toNat with h | h
  · rw [State.imageJudged_taken _ _ _ _ _ h, State.imageTaken_dfly]
    exact s.imageStopped_imaging t r
  · rw [State.imageJudged_failed _ _ _ _ _ h, State.imageStopped_dfly_raise, State.imageStopped_imaging]

theorem State.imageEnd_idle (h : (s.dfly (2 * t + r)).imaging = false) : s.imageEnd t r rej taps = s := by
  rw [State.imageEnd, h]
  rfl

variable {s r}

/-- A burst that holds this receiver alone leaves its port with it. -/
theorem State.imageEnd_burst {b : Burst} (h : (s.dfly (2 * t + r)).imaging = true) (hb : (s.cal t).burst = some b) (hkind : b.kind = 3)
    (hmask : b.pmask.toNat = 2 ^ r) : s.imageEnd t r rej taps = ((s.imageJudged t r rej taps).portClosed t).raise (Ev.CAL_DONE t) := by
  have hburst : ((s.imageJudged t r rej taps).cal t).burst = some b := by rw [State.imageJudged_cal, hb]
  have hidle : ∀ k < 2, b.pmask.getLsbD k = true → ((s.imageJudged t r rej taps).dfly (2 * t + k)).imaging = false := fun k _ hk => by
    rw [← BitVec.testBit_toNat, hmask, Nat.testBit_two_pow, decide_eq_true_eq] at hk
    rw [← hk, State.imageJudged_imaging]
  rw [← State.portFree_idle hburst hkind hidle]
  have hall : ([0, 1].all fun k => !b.pmask.getLsbD k || !((s.imageJudged t r rej taps).dfly (2 * t + k)).imaging) = true := by
    refine List.all_eq_true.mpr fun k hk => ?_
    have hlt : k < 2 := by
      simp only [List.mem_cons, List.not_mem_nil, or_false] at hk
      omega
    cases hpm : b.pmask.getLsbD k with
    | false => rfl
    | true => rw [hidle k hlt hpm, Bool.not_false, Bool.or_true]
  unfold State.imageJudged State.imageStopped at hburst hall ⊢
  simp only [State.imageEnd, h, Bool.not_true, Bool.false_eq_true, if_false, hburst, hkind, hall, decide_true, Bool.and_self, if_true]

/-- Beside the result only what the end of a burst does. -/
theorem State.imageEnd_portOnly (h : (s.dfly (2 * t + r)).imaging = true) :
    (s.imageJudged t r rej taps).PortOnly t (s.imageEnd t r rej taps) := by
  unfold State.imageEnd
  simp only [h, Bool.not_true, Bool.false_eq_true, if_false]
  split
  · next b hb =>
    split
    · next hfree =>
      obtain ⟨hkind, hall⟩ := Bool.and_eq_true_iff.mp hfree
      have hidle : ∀ k < 2, b.pmask.getLsbD k = true → ((s.imageJudged t r rej taps).dfly (2 * t + k)).imaging = false := fun k hk hpm => by
        have hjudged := List.all_eq_true.mp hall k (by simp only [List.mem_cons, List.not_mem_nil]; omega)
        rwa [hpm, Bool.not_true, Bool.false_or, Bool.not_eq_true'] at hjudged
      exact (State.portFree_idle hb (of_decide_eq_true hkind) hidle) ▸ State.portClosed_only _ t
    · exact .refl ..
  · exact .refl ..
end

/-! ### The statement -/

/-- Where the registers of an image calibration of a tile lie, and its events. -/
theorem image_place (t : Fin 4) (r : Fin 2) :
    (∀ a ∈ [DFLY_STATUS t, DFLY_IMG_STAT t r, PMU_DOM (10 + t), TXCH_STATUS t], a ∉ DFLY_CAL_STAT t :: clipRegs t ∧ eventReg a = false) ∧
    (∀ a ∈ [PMU_DOM (10 + t), TXCH_STATUS t], a ∉ [DFLY_IMG_STAT t r, DFLY_STATUS t]) ∧ eventReg (DFLY_CAL_STAT t) = false ∧
    ∀ e ∈ [Ev.DFLY_IMGCAL_FAIL t, Ev.CAL_DONE t], (e - 96) / 40 = t ∧ hasLevel e = false ∧ e < 256 := by
  revert t r
  decide

section
variable {s : State} {t : Fin 4} {r : Fin 2} {rej : BitVec 8} (taps : List (Int × Int))

theorem State.imageEnd_dfly (himg : (s.dfly (2 * t + r)).imaging = true) (k : Nat) :
    (s.imageEnd t r rej taps).dfly k = (s.imageJudged t r rej taps).dfly k :=
  (State.imageEnd_portOnly t rej taps himg).frame.field (·.dfly k) fun _ => rfl

theorem State.imageEnd_now (himg : (s.dfly (2 * t + r)).imaging = true) :
    (s.imageEnd t r rej taps).now = max s.now (s.dfly (2 * t + r)).imgStop :=
  ((State.imageEnd_portOnly t rej taps himg).frame.field (·.now) fun _ => rfl).trans (s.imageJudged_now t r rej taps)

theorem State.imageEnd_reg (himg : (s.dfly (2 * t + r)).imaging = true) {a : Nat} (ha : a ∈ [DFLY_STATUS t, DFLY_IMG_STAT t r]) :
    (s.imageEnd t r rej taps).reg a = (s.imageJudged t r rej taps).reg a := by
  obtain ⟨hapart, -⟩ := image_place t r
  obtain ⟨hnot, hevent⟩ := hapart a (List.mem_append_left [PMU_DOM (10 + t), TXCH_STATUS t] ha)
  exact (State.imageEnd_portOnly t rej taps himg).frame.reg a hnot hevent

/-- The correction found is applied and stamped (R176). -/
theorem State.imageEnd_taken (himg : (s.dfly (2 * t + r)).imaging = true) (hmin : s.fld (DFLY_IMG_CFG t) DFLY_IMG_CFG_IMG_MIN ≤ rej.toNat) :
    let u := s.imageEnd t r rej taps
    u.maskBit (DFLY_STATUS t) DFLY_STATUS_IMG_VALID r = true ∧ u.maskBit (DFLY_STATUS t) DFLY_STATUS_IMG_DUE r = false ∧
      u.maskBit (DFLY_STATUS t) DFLY_STATUS_STALE r = false ∧ u.fld (DFLY_IMG_STAT t r) DFLY_IMG_STAT_REJ = rej.toNat ∧
      (u.dfly (2 * t + r)).taps = taps ∧ (u.dfly (2 * t + r)).imgAt = some u.now := by
  obtain ⟨hvalid, hdue, hstale⟩ := (s.imageStopped t r).imageShown_status t rej r.isLt
  have hrej := (s.imageStopped t r).imageShown_rej t rej (r := r)
  have hreg : ∀ a ∈ [DFLY_STATUS t, DFLY_IMG_STAT t r], (s.imageEnd t r rej taps).reg a = ((s.imageStopped t r).imageShown t r rej).reg a :=
    fun a ha => by rw [State.imageEnd_reg taps himg ha, State.imageJudged_taken _ _ _ _ _ hmin, State.imageTaken, State.modDfly_reg]
  intro u
  simp only [u, State.maskBit, State.fld, hreg _ (List.mem_cons_self ..), hreg _ (List.mem_cons_of_mem _ (List.mem_singleton_self _)),
    State.imageEnd_dfly taps himg, State.imageEnd_now taps himg, State.imageJudged_taken _ _ _ _ _ hmin, State.imageTaken_dfly,
    State.imageStopped_now] at hvalid hdue hstale hrej ⊢
  exact ⟨hvalid, hdue, hstale, hrej, trivial, trivial⟩

/-- The earlier correction stays (R176). -/
theorem State.imageEnd_failed (himg : (s.dfly (2 * t + r)).imaging = true) (hmin : rej.toNat < s.fld (DFLY_IMG_CFG t) DFLY_IMG_CFG_IMG_MIN) :
    let u := s.imageEnd t r rej taps
    Told s u (Ev.DFLY_IMGCAL_FAIL t) ∧ u.reg (DFLY_IMG_STAT t r) = s.reg (DFLY_IMG_STAT t r) ∧ u.reg (DFLY_STATUS t) = s.reg (DFLY_STATUS t) ∧
      (u.dfly (2 * t + r)).taps = (s.dfly (2 * t + r)).taps := by
  obtain ⟨hplace, -, -, hevents⟩ := image_place t r
  obtain ⟨htile, hlevel, hlt⟩ := hevents _ (List.mem_cons_self ..)
  have hstopped : ∀ a, (s.imageStopped t r).reg a = s.reg a := fun a => s.imageStopped_field t r (·.reg a) fun _ _ _ _ => rfl
  have hfailed := s.imageJudged_failed t r rej taps hmin
  have hreg : ∀ a ∈ [DFLY_STATUS t, DFLY_IMG_STAT t r], (s.imageEnd t r rej taps).reg a = s.reg a := fun a ha => by
    obtain ⟨-, hevent⟩ := hplace a (List.mem_append_left [PMU_DOM (10 + t), TXCH_STATUS t] ha)
    rw [State.imageEnd_reg taps himg ha, hfailed, State.reg_raise _ _ _ hevent, hstopped]
  refine ⟨.of_stored hlevel fun hmay => (State.imageEnd_portOnly t rej taps himg).stored _ hlt ?_, hreg _ (by simp), hreg _ (by simp), ?_⟩
  · rw [hfailed]
    exact State.stored_raise_of_mayAssert hlevel ((State.mayAssert_congr htile (hstopped _) (hstopped _)).trans hmay)
  · rw [State.imageEnd_dfly taps himg, hfailed, State.imageStopped_dfly_raise, State.imageStopped_taps]

/-- The port of a burst of this receiver alone is free (R201). -/
theorem State.imageEnd_port {b : Burst} (himg : (s.dfly (2 * t + r)).imaging = true) (hb : (s.cal t).burst = some b) (hkind : b.kind = 3)
    (hmask : b.pmask.toNat = 2 ^ r.val) : let u := s.imageEnd t r rej taps
    (u.cal t).burst = none ∧ Told s u (Ev.CAL_DONE t) ∧ u.bit (DFLY_CAL_STAT t) DFLY_CAL_STAT_BUSY = false := by
  obtain ⟨hplace, hapart, hevent, hevents⟩ := image_place t r
  obtain ⟨htile, hlevel, -⟩ := hevents (Ev.CAL_DONE t) (by simp)
  have hreg : ∀ a ∈ [PMU_DOM (10 + t), TXCH_STATUS t], ((s.imageJudged t r rej taps).portClosed t).reg a = s.reg a := fun a ha => by
    obtain ⟨hnot, hquiet⟩ := hplace a (List.mem_append_right [DFLY_STATUS t, DFLY_IMG_STAT t r] ha)
    obtain ⟨hjudged, -⟩ := s.imageJudged_keeps t r rej taps
    rw [State.portClosed_frame.reg a hnot hquiet, hjudged a (hapart a ha) hquiet]
  intro u
  have hu : u = ((s.imageJudged t r rej taps).portClosed t).raise (Ev.CAL_DONE t) := State.imageEnd_burst t rej taps himg hb hkind hmask
  refine ⟨?_, .of_stored hlevel fun hmay => ?_, ?_⟩
  · rw [hu, State.cal_raise, State.portClosed_burst]
  · rw [hu]
    exact State.stored_raise_of_mayAssert hlevel ((State.mayAssert_congr htile (hreg _ (by simp)) (hreg _ (by simp))).trans hmay)
  · rw [hu, State.bit_raise _ _ _ _ hevent, State.portClosed_busy]

theorem State.imageEnd_keeps (himg : (s.dfly (2 * t + r)).imaging = true) :
    Keeps ([DFLY_IMG_STAT t r, DFLY_STATUS t, DFLY_CAL_STAT t, TXCH_CNT_FLAGS t] ++ (List.range 16).map fun i => TXCH_CLIP_COUNT t i) s
      (s.imageEnd t r rej taps) :=
  ((s.imageJudged_keeps t r rej taps).mono fun _ h => List.mem_append_left _ (List.mem_append_left [DFLY_CAL_STAT t, TXCH_CNT_FLAGS t] h)).trans
    ((State.imageEnd_portOnly t rej taps himg).frame.keeps.mono fun _ h => List.mem_append_right [DFLY_IMG_STAT t r, DFLY_STATUS t] h)
end

/-- Settles O23: the SIDE bits and the training enables by the mode, and the end of an image calibration by its result and by its burst. -/
theorem dragonflyRegisters : Obligations.DragonflyRegisters := by
  intro s t w
  refine ⟨fun hans hmode => ?_, dflyCtrl_written, fun r rej taps himg => ?_, fun r rej taps himg => ?_⟩
  · rw [exec_dflyCtrlWrite, State.guarded_of hans, State.dflyCtrl_configure _ _ _ hmode]
    rfl
  · have himaging : ((s.imageEnd t r rej taps).dfly (2 * t + r)).imaging = false := by
      rw [State.imageEnd_dfly taps himg, State.imageJudged_imaging]
    exact .of_unsettled (exec_imageCalEnd t r rej taps s) (fun _ _ _ => rfl)
      ⟨himaging, State.imageEnd_now taps himg, State.imageEnd_taken taps himg, State.imageEnd_failed taps himg,
        fun _ => State.imageEnd_port taps himg, State.imageEnd_keeps taps himg⟩
  · rw [exec_imageCalEnd, State.imageEnd_idle _ _ _ _ _ himg]
    rfl

end Sys2Proof.Machine
end

section
/-!
PROOFS. The commands of CAL_CMD (R201), and the calibrations of the converters (R195, R197).
-/
namespace Sys2Proof.Machine
open Reg F

/-! ### CAL_CMD (R201) -/

section
variable (s : State) (t : Nat) (pm : BitVec 16)

/-- A burst commanded through CAL_CMD waits for its effect instant. -/
def State.calWaits (kind : Nat) : State := s.modCal t fun c =>
  { c with pend := c.pend ++ [⟨kind, pm, (s.now + 2048 + 3) / 4 * 4, s.fld (DFLY_CAL_DUR t) DFLY_CAL_DUR_DUR, true, false, 0, 0⟩] }

variable {kind : Nat}

theorem State.calCmd_taken (hmode : s.mode = .calibrate ∨ s.mode = .onAir) (hkind : kind < 4) : s.calCmd t kind pm = s.calWaits t pm kind := by
  rw [State.calCmd, if_pos hmode, if_neg (by omega)]
  rfl

theorem State.calCmd_barred (hcal : s.mode ≠ .calibrate) (hair : s.mode ≠ .onAir) : s.calCmd t kind pm = s.accessError :=
  if_neg (by simp [hcal, hair])
end

section
variable {s : State} {t : Fin 4} (pm : BitVec 16) (hans : s.answers (DFLY_CAL_CMD t) = true)
include hans

theorem calCmd_waits (hmode : s.mode = .calibrate ∨ s.mode = .onAir) :
    exec (.calCmdArrayTx t pm) s = .next (s.calWaits t pm 0).settle ∧ exec (.calCmdArrayRx t pm) s = .next (s.calWaits t pm 1).settle ∧
      exec (.calCmdReciprocity t pm) s = .next (s.calWaits t pm 2).settle ∧ exec (.calCmdImage t pm) s = .next (s.calWaits t pm 3).settle := by
  have htaken : ∀ kind < 4, done (s.guarded (DFLY_CAL_CMD t) fun u => u.calCmd t kind pm) = .next (s.calWaits t pm kind).settle := fun kind hkind => by
    rw [State.guarded_of hans, s.calCmd_taken t pm hmode hkind]
    rfl
  exact ⟨htaken 0 (by decide), htaken 1 (by decide), htaken 2 (by decide), htaken 3 (by decide)⟩

theorem calCmd_refused (hcal : s.mode ≠ .calibrate) (hair : s.mode ≠ .onAir) :
    ∀ i ∈ [Instr.calCmdArrayTx t pm, .calCmdArrayRx t pm, .calCmdReciprocity t pm, .calCmdImage t pm],
      Answers i s fun u => Frame [] s u ∧ u.stored Ev.REG_ACCESS_ERROR = true := by
  have hbarred : ∀ {i kind}, exec i s = done (s.guarded (DFLY_CAL_CMD t) fun u => u.calCmd t kind pm) →
      Answers i s fun u => Frame [] s u ∧ u.stored Ev.REG_ACCESS_ERROR = true := fun hi => by
    refine .of_guarded hi hans ?_
    rw [s.calCmd_barred t pm hcal hair]
    exact ⟨(Frame.refl [] s).accessError.settle, (State.stored_settle ..).trans s.stored_accessError⟩
  intro i hi
  simp only [List.mem_cons, List.not_mem_nil, or_false] at hi
  rcases hi with rfl | rfl | rfl | rfl
  · exact hbarred (kind := 0) rfl
  · exact hbarred (kind := 1) rfl
  · exact hbarred (kind := 2) rfl
  · exact hbarred (kind := 3) rfl
end

/-! ### The converters (R195, R197) -/

theorem exec_adcCalUpdate (t : Fin 4) (i : Fin 16) (corrections : List Int) (ok : Bool) (s : State) :
    exec (.adcCalUpdate t i corrections ok) s = done (s.adcCal t i corrections ok) := rfl
theorem exec_dacCellCalDone (t : Fin 4) (i : Fin 16) (s : State) : exec (.dacCellCalDone t i) s = done (s.dacCal t i) := rfl

/-- An update of an ADC's estimates comes due. -/
def State.adcDue (s : State) (t i : Nat) : State :=
  (s.advance (s.adcAt (pathKey t i) + 1024)).setAdcAt (pathKey t i) (s.advance (s.adcAt (pathKey t i) + 1024)).now

/-- The estimates found are in force. -/
def State.adcTaken (s : State) (t i : Nat) (corrections : List Int) (ok : Bool) : State :=
  (s.setMaskBit (DFLY_CONV_STAT t) DFLY_CONV_STAT_ADC_CONV i ok).setAdcCorr (pathKey t i) (some corrections)

/-- The cases of R195 in which a path's calibration is held, by the power of the block that ends. -/
def State.adcHeld (s : State) (t i : Nat) (power : Int) : Prop :=
  s.bit (RXCH_STATUS t) RXCH_STATUS_UNLOCK = true ∨ s.aligningTo t ≠ none ∨ s.maskBit (DFLY_CONV_CTRL t) DFLY_CONV_CTRL_FREEZE i = true ∨
    power < -50 * 256 ∨ -1 * 256 < power

section
variable (s : State) (t i : Nat) (corrections : List Int) (ok : Bool)

theorem State.adcDue_now : (s.adcDue t i).now = max s.now (s.adcAt (pathKey t i) + 1024) := s.advance_now _

theorem State.adcDue_field {α : Type} (m : State → α) (hm : ∀ (x : State) n b a, m { x with now := n, tb := b, adcAts := a } = m x) :
    m (s.adcDue t i) = m s := by
  obtain ⟨n, b, h⟩ := s.advance_eq (s.adcAt (pathKey t i) + 1024)
  rw [State.adcDue, h]
  exact hm s ..

theorem State.adcDue_keeps (l : List Nat) : Keeps l s (s.adcDue t i) := (Keeps.refl l s).advance _

theorem State.adcTaken_keeps : Keeps [DFLY_CONV_STAT t] s (s.adcTaken t i corrections ok) :=
  ((Frame.refl _ s).setMaskBit _ _ _ _ (List.mem_singleton_self _)).keeps

theorem State.adcTaken_inForce : (s.adcTaken t i corrections ok).adcInForce t i = corrections := by
  rw [State.adcInForce, State.adcTaken, State.adcCorr_setAdcCorr, if_pos rfl, Option.getD_some]

theorem State.adcTaken_shown (hi : i < 16) :
    (s.adcTaken t i corrections ok).maskBit (DFLY_CONV_STAT t) DFLY_CONV_STAT_ADC_CONV i = ok :=
  (s.maskBit_setMaskBit _ _ (by decide) hi hi ok).trans (if_pos rfl)

variable {s t i}

/-- An update of a path whose receive chain runs. -/
theorem State.adcCal_eq (hmode : s.mode.runsGlide = true) (hdom : s.domOn (38 + 4 * t + i / 4) = true) :
    let p := (s.advance (s.adcAt (pathKey t i) + 1024)).adcBlockPower t i
    (s.adcHeld t i p → s.adcCal t i corrections ok = s.adcDue t i) ∧
    (¬ s.adcHeld t i p → s.adcCal t i corrections ok =
      if s.maskBit (DFLY_CONV_STAT t) DFLY_CONV_STAT_ADC_CONV i && !ok then ((s.adcDue t i).adcTaken t i corrections ok).raise (Ev.CONV_LOST t)
      else (s.adcDue t i).adcTaken t i corrections ok) := by
  intro p
  have hheld : ((s.adcDue t i).bit (RXCH_STATUS t) RXCH_STATUS_UNLOCK || ((s.adcDue t i).aligningTo t).isSome
      || (s.adcDue t i).maskBit (DFLY_CONV_CTRL t) DFLY_CONV_CTRL_FREEZE i || decide ((s.adcDue t i).adcBlockPower t i < -12800)
      || decide (-256 < (s.adcDue t i).adcBlockPower t i)) = true ↔ s.adcHeld t i p := by
    have hpower : (s.adcDue t i).adcBlockPower t i = p := rfl
    rw [hpower, s.adcDue_field t i (·.bit _ _) fun _ _ _ _ => rfl, s.adcDue_field t i (·.aligningTo t) fun _ _ _ _ => rfl,
      s.adcDue_field t i (·.maskBit _ _ i) fun _ _ _ _ => rfl]
    simp only [State.adcHeld, Bool.or_eq_true, decide_eq_true_eq, Option.isSome_iff_ne_none, or_assoc]
    exact Iff.rfl
  have hwas : (s.adcDue t i).maskBit (DFLY_CONV_STAT t) DFLY_CONV_STAT_ADC_CONV i = s.maskBit (DFLY_CONV_STAT t) DFLY_CONV_STAT_ADC_CONV i :=
    s.adcDue_field t i (·.maskBit _ _ i) fun _ _ _ _ => rfl
  have hruns : (!s.mode.runsGlide || !s.domOn (38 + 4 * t + i / 4)) = false := by rw [hmode, hdom]; rfl
  unfold State.adcCal
  rw [if_neg (by rw [hruns]; exact Bool.false_ne_true)]
  refine ⟨fun h => if_pos (hheld.mpr h), fun h => ?_⟩
  rw [← hwas]
  exact if_neg (mt hheld.mp h)
end

/-- Where CONV_STAT lies, and the event of its estimates. -/
theorem convStat_place (t : Fin 4) : eventReg (DFLY_CONV_STAT t) = false ∧ (Ev.CONV_LOST t - 96) / 40 = t ∧ hasLevel (Ev.CONV_LOST t) = false ∧
    ∀ a ∈ [PMU_DOM (10 + t), TXCH_STATUS t], a ∉ [DFLY_CONV_STAT t] ∧ eventReg a = false := by
  revert t
  decide

/-- The estimates found are in force and shown, the figures no longer met told of. -/
theorem State.adcTaken_raised (s : State) (t : Fin 4) (i : Fin 16) (corrections : List Int) (ok : Bool) :
    let v := s.adcTaken t i corrections ok
    let u := if s.maskBit (DFLY_CONV_STAT t) DFLY_CONV_STAT_ADC_CONV i && !ok then v.raise (Ev.CONV_LOST t) else v
    u.now = s.now ∧ Keeps [DFLY_CONV_STAT t] s u ∧ u.adcInForce t i = corrections ∧
      u.maskBit (DFLY_CONV_STAT t) DFLY_CONV_STAT_ADC_CONV i = ok ∧
      (s.maskBit (DFLY_CONV_STAT t) DFLY_CONV_STAT_ADC_CONV i = true → ok = false → Told s u (Ev.CONV_LOST t)) := by
  intro v u
  obtain ⟨hevent, htile, hlevel, hplace⟩ := convStat_place t
  have hkeeps : Keeps [DFLY_CONV_STAT t] s v := s.adcTaken_keeps t i corrections ok
  have hframe : Frame [] v u := by
    dsimp only [u]
    split
    · exact (Frame.refl _ v).raise _
    · exact .refl ..
  refine ⟨(hframe.chain false).field (·.now) fun _ => rfl, hkeeps.trans (hframe.mono (by simp)).keeps, ?_, ?_, fun hwas hlost => ?_⟩
  · exact ((hframe.chain false).field (·.adcInForce t i) fun _ => rfl).trans (s.adcTaken_inForce t i corrections ok)
  · rw [State.maskBit, State.fld, hframe.reg (by simp) hevent]
    exact s.adcTaken_shown t i corrections ok i.2
  · have hu : u = v.raise (Ev.CONV_LOST t) := if_pos (by rw [hwas, hlost]; rfl)
    have hreg : ∀ a ∈ [PMU_DOM (10 + t), TXCH_STATUS t], v.reg a = s.reg a := fun a ha => by
      obtain ⟨hnot, hquiet⟩ := hplace a ha
      exact hkeeps.1 a hnot hquiet
    rw [hu]
    exact .of_stored hlevel fun hmay =>
      State.stored_raise_of_mayAssert hlevel ((State.mayAssert_congr htile (hreg _ (by simp)) (hreg _ (by simp))).trans hmay)

/-- R195: an update of a running path's estimates. -/
theorem adcCal_updated {s : State} {t : Fin 4} {i : Fin 16} (corrections : List Int) (ok : Bool) (hmode : s.mode.runsGlide = true)
    (hdom : s.domOn (38 + 4 * (t : Nat) + (i : Nat) / 4) = true) :
    let p := (s.advance (s.adcAt (pathKey t i) + 1024)).adcBlockPower t i
    Answers (.adcCalUpdate t i corrections ok) s fun u => u.now = max s.now (s.adcAt (pathKey t i) + 1024) ∧ Keeps [DFLY_CONV_STAT t] s u ∧
      (s.adcHeld t i p → u.adcInForce t i = s.adcInForce t i ∧ u.reg (DFLY_CONV_STAT t) = s.reg (DFLY_CONV_STAT t)) ∧
      (¬ s.adcHeld t i p → u.adcInForce t i = corrections ∧ u.maskBit (DFLY_CONV_STAT t) DFLY_CONV_STAT_ADC_CONV i = ok ∧
        (s.maskBit (DFLY_CONV_STAT t) DFLY_CONV_STAT_ADC_CONV i = true → ok = false → Told s u (Ev.CONV_LOST t))) := by
  intro p
  obtain ⟨hheld, htaken⟩ := State.adcCal_eq corrections ok hmode hdom
  refine .of_unsettled (exec_adcCalUpdate t i corrections ok s) (fun _ _ _ => rfl) ?_
  have hdue : Keeps [DFLY_CONV_STAT t] s (s.adcDue t i) := s.adcDue_keeps t i _
  by_cases h : s.adcHeld t i p
  · rw [hheld h]
    exact ⟨s.adcDue_now t i, hdue, fun _ => ⟨s.adcDue_field t i (·.adcInForce t i) fun _ _ _ _ => rfl,
      s.adcDue_field t i (·.reg _) fun _ _ _ _ => rfl⟩, fun hn => absurd h hn⟩
  · have hwas : (s.adcDue t i).maskBit (DFLY_CONV_STAT t) DFLY_CONV_STAT_ADC_CONV i = s.maskBit (DFLY_CONV_STAT t) DFLY_CONV_STAT_ADC_CONV i :=
      s.adcDue_field t i (·.maskBit _ _ i) fun _ _ _ _ => rfl
    have hmay : (s.adcDue t i).mayAssert (Ev.CONV_LOST t) = s.mayAssert (Ev.CONV_LOST t) :=
      s.adcDue_field t i (·.mayAssert _) fun _ _ _ _ => rfl
    obtain ⟨hnow, hkeeps, hforce, hshown, htold⟩ := (s.adcDue t i).adcTaken_raised t i corrections ok
    rw [htaken h, ← hwas]
    refine ⟨hnow.trans (s.adcDue_now t i), hdue.trans hkeeps, fun hh => absurd hh h, fun _ => ⟨hforce, hshown, fun h1 h2 => ?_⟩⟩
    unfold Told
    rw [← hmay]
    exact htold h1 h2

/-- R197: a DAC that runs. -/
theorem dacCal_done {s : State} {t : Fin 4} {i : Fin 16} (h : s.dacRuns t i = true) : Answers (.dacCellCalDone t i) s fun u =>
    u.maskBit (DFLY_CONV_STAT t) DFLY_CONV_STAT_DAC_OK i = true ∧ Frame [DFLY_CONV_STAT t] s u := by
  refine .of_done (exec_dacCellCalDone t i s) ?_
  rw [State.dacCal, if_pos h]
  refine ⟨?_, ((Frame.refl _ s).setMaskBit _ _ _ _ (List.mem_singleton_self _)).settle⟩
  rw [State.maskBit, State.fld_settle]
  exact (s.maskBit_setMaskBit _ DFLY_CONV_STAT_DAC_OK (by decide) i.2 i.2 true).trans (if_pos rfl)

theorem State.dacCal_stopped {s : State} {t i : Nat} (h : s.dacRuns t i = false) : s.dacCal t i = s :=
  if_neg (by rw [h]; exact Bool.false_ne_true)

end Sys2Proof.Machine
end

section
/-!
PROOFS. The bursts of a tile's calibration port: their start (R201), what becomes of their measurements (R205 to R208), their end (R203).
-/
namespace Sys2Proof.Machine
open Reg F

/-! ### A burst at its effect instant (R201) -/

theorem exec_calBurstStart (t : Fin 4) (s : State) : exec (.calBurstStart t) s = done ((s.burstStart t).startCalFollow t) := rfl

/-- Outside step 8 of a start nothing follows a burst. -/
theorem State.startCalFollow_none {s : State} (t : Nat) (h : s.startCal = none) : s.startCalFollow t = s := by
  unfold State.startCalFollow State.startCalStep
  rw [h]
  exact ite_self s

theorem State.countTile_cal (s : State) (t k : Nat) : (s.countTile t).cal k = s.cal k := by
  refine State.each_keeps (P := fun u => u.cal k = s.cal k) (fun u i hu => ?_) _ rfl
  unfold State.countTx State.txClips
  dsimp only
  split
  · exact hu
  · split
    · exact hu
    · exact (State.cal_raise ..).trans (((State.bump_event ..).field (·.cal k) fun _ _ _ _ _ => rfl).trans hu)

theorem State.cal_setReg (s : State) (a : Nat) (w : Word) (k : Nat) : (s.setReg a w).cal k = s.cal k := by
  rw [State.cal, State.setReg_cals, State.cal]

/-- The port is busy with a burst that begins. -/
def State.portTaken (s : State) (t : Nat) (b : Burst) : State :=
  ((s.setBit (DFLY_CAL_STAT t) DFLY_CAL_STAT_BUSY true).setFld (DFLY_CAL_STAT t) DFLY_CAL_STAT_KIND b.kind).modCal t fun c =>
    { c with burst := some { b with running := true, at_ := s.now } }

section
variable (s : State) (t : Nat) (b : Burst)

theorem State.portTaken_frame : ChainFrame false [DFLY_CAL_STAT t] s (s.portTaken t b) :=
  (((ChainFrame.refl ..).setBit _ _ _ (List.mem_singleton_self _)).setReg _ _ (List.mem_singleton_self _)).modCal _ _

theorem State.portTaken_cal : (s.portTaken t b).cal t = { s.cal t with burst := some { b with running := true, at_ := s.now } } := by
  rw [State.portTaken, State.modCal, State.cal_setCal, if_pos rfl, State.setFld_eq, State.setBit_eq, State.cal_setReg, State.cal_setReg]

theorem State.portTaken_busy : (s.portTaken t b).bit (DFLY_CAL_STAT t) DFLY_CAL_STAT_BUSY = true := by
  have hbusy := s.bit_setBit (DFLY_CAL_STAT t) DFLY_CAL_STAT_BUSY true (by decide) rfl
  rw [State.bit, bitF, ← State.fld] at hbusy
  rw [State.portTaken, State.bit, State.reg_modCal, bitF, ← State.fld, State.fld_setFld_apart _ _ _ _ _ (by decide) (by decide), hbusy]

/-- What a burst that begins leaves at the port. -/
def State.burstBegun : State := (s.countTile t).portTaken t b

theorem State.burstBegun_field {α : Type} (m : State → α) (hm : ∀ x, m (x.beside false) = m x) : m (s.burstBegun t b) = m s :=
  ((State.portTaken_frame _ t b).field m hm).trans ((s.countTile_frame t).field m hm)

theorem State.burstBegun_cal : (s.burstBegun t b).cal t = { s.cal t with burst := some { b with running := true, at_ := s.now } } := by
  have hnow : (s.countTile t).now = s.now := (s.countTile_frame t).field (·.now) fun _ => rfl
  rw [State.burstBegun, State.portTaken_cal, s.countTile_cal, hnow]

/-- A burst that begins takes its receivers and wakes the DACs of its paths. -/
def State.receiversTaken : State :=
  if b.kind = 3 then s.each [0, 1] fun u r => if b.pmask.getLsbD r then u.beginImage t r (u.now + b.dur) else u
  else if b.kind = 1 then s
  else (((s.occupy t 1 (s.now + b.dur)).moveSwitch t 1 (0, 2)).wakeDacs t b.pmask.toNat).each (onesOf 16 b.pmask.toNat) fun u i =>
    u.modTxPath (pathKey t i) fun p =>
      { p with idleSince := max p.idleSince (u.now + if b.kind = 0 then b.dur else 4096 * (b.dur / 4096 / 2)) }

theorem State.receiversTaken_eq : ∃ d p, s.receiversTaken t b = { s with dflies := d, txPaths := p } := by
  have keep : ∀ {α : Type} {f : State → α → State} (_ : ∀ u x, ∃ d p, f u x = { u with dflies := d, txPaths := p }) (l : List α) {u : State},
      (∃ d p, u = { s with dflies := d, txPaths := p }) → ∃ d p, u.each l f = { s with dflies := d, txPaths := p } :=
    fun hf l _ hu => State.each_keeps (P := fun u => ∃ d p, u = { s with dflies := d, txPaths := p }) (fun u x ⟨_, _, hu⟩ => by
      obtain ⟨d, p, h⟩ := hf u x
      exact ⟨d, p, by rw [h, hu]⟩) l hu
  unfold State.receiversTaken
  split
  · refine keep (fun u r => ?_) _ ⟨s.dflies, s.txPaths, rfl⟩
    split
    · exact ⟨_, u.txPaths, rfl⟩
    · exact ⟨u.dflies, u.txPaths, rfl⟩
  · split
    · exact ⟨s.dflies, s.txPaths, rfl⟩
    · exact keep (fun u _ => ⟨u.dflies, _, rfl⟩) _ (keep (fun u _ => ⟨u.dflies, _, rfl⟩) _ ⟨_, s.txPaths, rfl⟩)

variable {s t b}

theorem State.burstAt_refused (h : s.burstRefused t b = true) : s.burstAt t b = s.raise (Ev.CALB_REFUSED t) := if_pos h

theorem State.burstAt_begun (h : s.burstRefused t b = false) : s.burstAt t b = (s.burstBegun t b).receiversTaken t b :=
  if_neg (by rw [h]; exact Bool.false_ne_true)

theorem State.burstAt_field (h : s.burstRefused t b = false) {α : Type} (m : State → α)
    (hm : ∀ (x : State) d p, m { x with dflies := d, txPaths := p } = m x) : m (s.burstAt t b) = m (s.burstBegun t b) := by
  obtain ⟨d, p, hd⟩ := (s.burstBegun t b).receiversTaken_eq t b
  rw [State.burstAt_begun h, hd, hm]

theorem State.burstStart_first {rest : List Burst} (h : (s.cal t).pend = b :: rest) :
    s.burstStart t = ((s.advance b.at_).modCal t fun c => { c with pend := rest }).burstAt t b := by
  rw [State.burstStart, h]
end

/-- R201: the first burst that waits, outside step 8 of a start. -/
theorem burst_reached {s : State} {t : Fin 4} {b : Burst} {rest : List Burst} (hcal : s.startCal = none) (hpend : (s.cal t).pend = b :: rest) :
    let u := (s.advance b.at_).modCal t fun c => { c with pend := rest }
    (u.burstRefused t b = true → exec (.calBurstStart t) s = .next (u.raise (Ev.CALB_REFUSED t)).settle) ∧
    (u.burstRefused t b = false → Answers (.calBurstStart t) s fun v =>
      (v.cal t).burst = some { b with running := true, at_ := u.now } ∧ (v.cal t).pend = rest ∧
      v.bit (DFLY_CAL_STAT t) DFLY_CAL_STAT_BUSY = true ∧ v.now = u.now) := by
  intro u
  have hstart : s.burstStart t = u.burstAt t b := State.burstStart_first hpend
  have hu : u.startCal = none := (s.advance_field _ (·.startCal) fun _ _ _ => rfl).trans hcal
  have hrest : (u.cal t).pend = rest := by
    simp only [u, State.modCal, State.cal_setCal, if_pos]
  refine ⟨fun hrefused => ?_, fun htaken => ?_⟩
  · have hkept : (u.raise (Ev.CALB_REFUSED t)).startCal = none := by
      rw [State.raise_startCal, hu]
    rw [exec_calBurstStart, hstart, State.burstAt_refused hrefused, State.startCalFollow_none _ hkept]
    rfl
  · have hkept : (u.burstAt t b).startCal = none :=
      (State.burstAt_field htaken (·.startCal) fun _ _ _ => rfl).trans ((u.burstBegun_field t b (·.startCal) fun _ => rfl).trans hu)
    have hport : (u.burstAt t b).cal t = { u.cal t with burst := some { b with running := true, at_ := u.now } } :=
      (State.burstAt_field htaken (·.cal t) fun _ _ _ => rfl).trans (u.burstBegun_cal t b)
    have hexec := exec_calBurstStart t s
    rw [hstart, State.startCalFollow_none _ hkept] at hexec
    refine .of_unsettled hexec (fun _ _ _ => rfl) ⟨by rw [hport], by rw [hport, hrest], ?_, ?_⟩
    · exact (State.burstAt_field htaken (·.bit _ _) fun _ _ _ => rfl).trans (State.portTaken_busy ..)
    · exact (State.burstAt_field htaken (·.now) fun _ _ _ => rfl).trans (u.burstBegun_field t b (·.now) fun _ => rfl)

/-! ### What the results of a burst leave as it was (R205 to R212) -/

/-- `u` is `s` in what the end of a burst on tile `t` rests on, and in the registers `w`. -/
structure State.BurstKept (t : Nat) (w : List Nat) (s u : State) : Prop where
  now : u.now = s.now
  startCal : u.startCal = s.startCal
  burst : (u.cal t).burst = (s.cal t).burst
  memory : SameMemory s u
  dom : u.reg (PMU_DOM (10 + t)) = s.reg (PMU_DOM (10 + t))
  link : u.bit (TXCH_STATUS t) TXCH_STATUS_MUTE_LINK = s.bit (TXCH_STATUS t) TXCH_STATUS_MUTE_LINK
  reg : ∀ a ∈ w, u.reg a = s.reg a

section
variable {t : Nat} {w l : List Nat} {s u v : State}

theorem State.BurstKept.refl (t : Nat) (w : List Nat) (s : State) : s.BurstKept t w s := ⟨rfl, rfl, rfl, (Keeps.refl [] s).2, rfl, rfl, fun _ _ => rfl⟩

theorem State.BurstKept.trans (h : s.BurstKept t w u) (h' : u.BurstKept t w v) : s.BurstKept t w v :=
  ⟨h'.now.trans h.now, h'.startCal.trans h.startCal, h'.burst.trans h.burst, h.memory.trans h'.memory, h'.dom.trans h.dom, h'.link.trans h.link,
    fun a ha => (h'.reg a ha).trans (h.reg a ha)⟩

theorem State.BurstKept.forget (h : s.BurstKept t w u) : s.BurstKept t [] u := { h with reg := fun _ ha => absurd ha (List.not_mem_nil) }

theorem Frame.burstKept (h : Frame l s u) (hl : ∀ a ∈ PMU_DOM (10 + t) :: TXCH_STATUS t :: w, a ∉ l ∧ eventReg a = false) :
    s.BurstKept t w u := by
  have hreg : ∀ a ∈ PMU_DOM (10 + t) :: TXCH_STATUS t :: w, u.reg a = s.reg a := fun a ha => h.reg (hl a ha).1 (hl a ha).2
  have hfield : ∀ {α : Type} (m : State → α), m u.core = m s.core := fun m => congrArg m h.1
  refine ⟨hfield (·.now), hfield (·.startCal), hfield fun x => (x.cal t).burst, h.keeps.2, hreg _ (by simp), ?_, fun a ha => hreg a (by simp [ha])⟩
  rw [State.bit, State.bit, hreg _ (by simp)]

theorem State.BurstKept.modCal (h : s.BurstKept t w u) {f : Cal → Cal} (hf : (f (u.cal t)).burst = (u.cal t).burst) :
    s.BurstKept t w (u.modCal t f) := by
  refine ⟨h.now, h.startCal, ?_, h.memory, h.dom, h.link, h.reg⟩
  rw [State.modCal, State.cal_setCal, if_pos rfl, hf, h.burst]

theorem State.BurstKept.useFree (h : s.BurstKept t w u) : s.BurstKept t w u.useFree := ⟨h.now, h.startCal, h.burst, h.memory, h.dom, h.link, h.reg⟩

theorem State.BurstKept.modTxPath (h : s.BurstKept t w u) (k : Nat) (f : TxPath → TxPath) : s.BurstKept t w (u.modTxPath k f) :=
  ⟨h.now, h.startCal, h.burst, h.memory, h.dom, h.link, h.reg⟩
theorem State.BurstKept.modRxPath (h : s.BurstKept t w u) (k : Nat) (f : RxPath → RxPath) : s.BurstKept t w (u.modRxPath k f) :=
  ⟨h.now, h.startCal, h.burst, h.memory, h.dom, h.link, h.reg⟩

/-- TRIM_PENDING lies in the register of MUTE_LINK, beside it. -/
theorem State.BurstKept.trimPending (h : s.BurstKept t w u) (hw : TXCH_STATUS t ∉ w) (hdom : PMU_DOM (10 + t) ≠ TXCH_STATUS t) :
    s.BurstKept t w (u.setBit (TXCH_STATUS t) TXCH_STATUS_TRIM_PENDING true) := by
  refine ⟨h.now, h.startCal, ?_, h.memory, (u.reg_setReg_ne _ hdom).trans h.dom, ?_, fun a ha => ?_⟩
  · rw [State.setBit_eq, State.cal_setReg, h.burst]
  · rw [State.bit, bitF, ← State.fld, State.setBit, State.fld_setFld_apart _ _ _ _ _ (by decide) (by decide)]
    exact h.link
  · exact (u.reg_setReg_ne _ fun heq : a = TXCH_STATUS t => hw (heq ▸ ha)).trans (h.reg a ha)

theorem State.BurstKept.txTrimArm (h : s.BurstKept t w u) (hw : TXCH_STATUS t ∉ w) (hdom : PMU_DOM (10 + t) ≠ TXCH_STATUS t) (pmask : Nat) :
    s.BurstKept t w (u.txTrimArm t pmask) := by
  have harm : ∀ f : Nat → TxPath → TxPath, s.BurstKept t w (u.each (onesOf 16 pmask) fun u i => u.modTxPath (pathKey t i) (f i)) := fun f =>
    State.each_keeps (P := s.BurstKept t w) (fun _ _ hu => hu.modTxPath _ _) _ h
  unfold State.txTrimArm
  dsimp only
  split
  · exact harm _
  · exact (harm _).trimPending hw hdom

theorem State.BurstKept.rxTrimArm (h : s.BurstKept t w u) (pmask : Nat) : s.BurstKept t w (u.rxTrimArm t pmask) :=
  State.each_keeps (P := s.BurstKept t w) (fun _ _ hu => hu.modRxPath _ _) _ h
end

/-! ### Records (R205, R212) -/

theorem calR_eq {kind : Nat} (h : kind ≤ 2) (t i : Nat) : calR t kind i = 0x11B0300 + 0x1000000 * t + 0x80 * kind + 4 * i := by
  simp only [calR, DFLY_TXR, DFLY_RXR, DFLY_RCP]
  split
  · omega
  · split
    · omega
    · omega

theorem calD_eq {kind : Nat} (h : kind ≤ 2) (t i : Nat) : calD t kind i = 0x11B0340 + 0x1000000 * t + 0x80 * kind + 4 * i := by
  simp only [calD, DFLY_TXD, DFLY_RXD, DFLY_RCPD]
  split
  · omega
  · split
    · omega
    · omega

/-- The registers of a tile that the results of a burst of a kind change beside the records. -/
def resultRegs (t kind : Nat) : List Nat :=
  [DFLY_CAL_STAT t, DFLY_FAIL_COUNT t, DFLY_CAL_CNT_FLAGS t, DFLY_STAMP t kind, DFLY_STIME t kind] ++
    (List.range 16).flatMap fun i => [TXCH_DELAY t i, TXCH_PHASE t i, RXCH_DELAY t i, RXCH_PHASE t i]

theorem tilePower_place (t : Fin 4) : eventReg (PMU_DOM (10 + t)) = false ∧ eventReg (TXCH_STATUS t) = false := by
  revert t
  decide

theorem record_place (t : Fin 4) {kind : Nat} (hkind : kind ≤ 2) (i : Nat) :
    ∀ a ∈ PMU_DOM (10 + t) :: TXCH_STATUS t :: [], a ∉ [calR t kind i, calD t kind i] ∧ eventReg a = false := by
  obtain ⟨hdom, hstatus⟩ := tilePower_place t
  rw [calR_eq hkind, calD_eq hkind]
  simp only [List.forall_mem_cons, hdom, hstatus, and_true]
  simp only [List.mem_cons, List.not_mem_nil, or_false, PMU_DOM, TXCH_STATUS]
  exact ⟨by omega, by omega, fun _ h => absurd h id⟩

theorem result_place (t : Fin 4) {kind : Nat} (hkind : kind ≤ 2) (k : Fin 16) :
    ∀ a ∈ PMU_DOM (10 + t) :: TXCH_STATUS t :: [calR t kind k], a ∉ resultRegs t kind ∧ eventReg a = false := by
  obtain ⟨hdom, hstatus⟩ := tilePower_place t
  have hcode : eventReg (calR t kind k) = false := by
    rw [calR_eq hkind]
    simp only [eventReg, RILYN_LOG_DROP, RILYN_CNT_FLAGS, Bool.or_eq_false_iff, Bool.and_eq_false_iff, decide_eq_false_iff_not, beq_eq_false_iff_ne]
    omega
  have happart : ∀ a, a < 0x1180000 ∨ a = TXCH_STATUS t ∨ (0x11B0300 + 0x1000000 * (t : Nat) ≤ a ∧ a < 0x11B0500 + 0x1000000 * (t : Nat)) →
      a ∉ resultRegs t kind := by
    intro a ha hin
    simp only [resultRegs, List.mem_append, List.mem_flatMap, List.mem_range, List.mem_cons, List.not_mem_nil, or_false] at hin
    simp only [DFLY_CAL_STAT, DFLY_FAIL_COUNT, DFLY_CAL_CNT_FLAGS, DFLY_STAMP, DFLY_STIME, TXCH_DELAY, TXCH_PHASE, RXCH_DELAY, RXCH_PHASE] at hin
    simp only [TXCH_STATUS] at ha
    omega
  simp only [List.forall_mem_cons, hdom, hstatus, hcode, and_true]
  refine ⟨happart _ (by simp only [PMU_DOM]; omega), happart _ (.inr (.inl rfl)), happart _ ?_, fun _ h => absurd h List.not_mem_nil⟩
  rw [calR_eq hkind]
  omega

section
variable (s : State) (t : Nat) {kind : Nat} (hkind : kind ≤ 2) (i code : Nat) (amp : Int) (phase : Nat) (delay : Int)

theorem State.calRecord_frame : Frame [calR t kind i, calD t kind i] s (s.calRecord t kind i code amp phase delay) := by
  have hr : calR t kind i ∈ [calR t kind i, calD t kind i] := List.mem_cons_self ..
  exact ((((Frame.refl _ s).setFld _ _ _ hr).setFld _ _ _ hr).setFld _ _ _ hr).setFld _ _ _ (by simp)

include hkind

theorem State.calRecord_code : (s.calRecord t kind i code amp phase delay).fld (calR t kind i) DFLY_TXR_CODE = code % 2 ^ 4 := by
  rw [State.calRecord, State.fld_setFld_ne _ _ _ _ (by rw [calR_eq hkind, calD_eq hkind]; omega),
    State.fld_setFld_apart _ _ _ _ _ (by decide) (by decide), State.fld_setFld_apart _ _ _ _ _ (by decide) (by decide),
    State.fld_setFld _ _ _ _ (by decide)]

/-- The record of another path stays. -/
theorem State.calRecord_other {k : Nat} (h : i ≠ k) (hk : k < 16) :
    (s.calRecord t kind i code amp phase delay).reg (calR t kind k) = s.reg (calR t kind k) := by
  have hr : calR t kind k ≠ calR t kind i := by
    rw [calR_eq hkind, calR_eq hkind]
    omega
  have hd : calR t kind k ≠ calD t kind i := by
    rw [calR_eq hkind, calD_eq hkind]
    omega
  simp only [State.calRecord, State.setFld_eq, State.reg_setReg_ne _ _ hr, State.reg_setReg_ne _ _ hd]
end

section
variable {f : State → Nat → State} {c : Nat → Nat} {kind : Nat}

/-- The records of a list of paths, one after the other. -/
theorem State.records_kept {t : Fin 4} (hkind : kind ≤ 2) (hf : ∀ u i, ∃ amp phase delay, f u i = u.calRecord t kind i (c i) amp phase delay)
    (s : State) (l : List Nat) : s.BurstKept t [] (s.each l f) := by
  refine State.each_keeps (P := s.BurstKept t []) (fun u i hu => ?_) _ (.refl ..)
  obtain ⟨amp, phase, delay, h⟩ := hf u i
  rw [h]
  exact hu.trans ((u.calRecord_frame t i _ amp phase delay).burstKept (record_place t hkind i))

theorem State.records_code {t : Nat} (hkind : kind ≤ 2) (hf : ∀ u i, ∃ amp phase delay, f u i = u.calRecord t kind i (c i) amp phase delay)
    (s : State) (pm : BitVec 16) {k : Nat} (hk : pm.getLsbD k = true) :
    (s.each (onesOf 16 pm.toNat) f).fld (calR t kind k) DFLY_TXR_CODE = c k % 2 ^ 4 := by
  refine State.each_visit (P := fun _ => True) (Q := fun u => u.fld (calR t kind k) DFLY_TXR_CODE = c k % 2 ^ 4) (List.nodup_range.filter _)
    ((mem_onesOf_toNat pm k).2 hk) (fun _ _ _ _ => trivial) (fun u _ => ?_) (fun u i hi hu => ?_) trivial
  · obtain ⟨amp, phase, delay, h⟩ := hf u k
    rw [h, State.calRecord_code _ _ hkind]
  · obtain ⟨amp, phase, delay, h⟩ := hf u i
    rw [h, State.fld, State.calRecord_other _ _ hkind _ _ _ _ _ hi (BitVec.lt_of_getLsbD hk)]
    exact hu
end

/-- A burst's results `v`: what the end of the burst rests on is as in `s`, and a path that was struck has code 5. -/
structure State.Recorded (s : State) (t : Nat) (b : Burst) (hit : BitVec 16) (v : State) : Prop where
  kept : s.BurstKept t [] v
  struck : ∀ k : Fin 16, b.pmask.getLsbD k = true → hit.getLsbD k = true → v.fld (calR t b.kind k) DFLY_TXR_CODE = 5

theorem measOf_path (ms : List CalMeas) {i : Nat} (hi : i < 16) : (measOf ms i).path.val = i := by
  unfold measOf
  cases h : ms.find? fun m => m.path.val == i with
  | none => exact Nat.mod_eq_of_lt hi
  | some m => simpa using List.find?_some h

/-- A path struck while its direction was measured has code 5 (R205). -/
theorem State.measCode_struck (s : State) (t : Nat) (b : Burst) (tx : Bool) (ms : List CalMeas) (k : Fin 16)
    (h : (if tx then b.hit else b.hitRx).getLsbD k = true) : s.measCode t b tx (measOf ms k) = 5 := by
  unfold State.measCode
  dsimp only
  rw [if_pos (by rw [measOf_path ms k.2]; exact h)]

section
variable {t : Fin 4} {kind : Nat} {k : Fin 16} {s u : State}

/-- The stamps of a kind, and the codes of its paths counted, leave the records. -/
theorem State.calStamp_kept (hkind : kind ≤ 2) : s.BurstKept t [calR t kind k] (s.calStamp t kind) := by
  have hstat : DFLY_CAL_STAT t ∈ resultRegs t kind := by simp [resultRegs]
  have hframe : Frame (resultRegs t kind) s (((s.setFld (DFLY_STAMP t kind) DFLY_STAMP_TEMP (unsigned 12 (s.tileTemp t))).setReg (DFLY_STIME t kind)
      (s.tb.extractLsb' 16 32)).setMaskBit (DFLY_CAL_STAT t) DFLY_CAL_STAT_DUE kind false) :=
    (((Frame.refl _ s).setFld _ _ _ (by simp [resultRegs])).setReg _ _ (by simp [resultRegs])).setMaskBit _ _ _ _ hstat
  exact (hframe.burstKept (result_place t hkind k)).modCal rfl

theorem State.burstCodes_kept (hkind : kind ≤ 2) (codes : List (Nat × Nat)) : s.BurstKept t [calR t kind k] (s.burstCodes t codes) := by
  have hstat : ∀ v, Frame (resultRegs t kind) s (s.setFld (DFLY_CAL_STAT t) DFLY_CAL_STAT_FAIL v) := fun v =>
    (Frame.refl _ s).setFld _ _ _ (by simp [resultRegs])
  refine Frame.burstKept ?_ (result_place t hkind k)
  unfold State.burstCodes
  dsimp only
  split
  · exact hstat _
  · exact ((hstat _).bumpWith _ _ _ _ _ _ (by simp [resultRegs]) (by simp [resultRegs])).raise _

theorem State.BurstKept.reported (h : s.BurstKept t [calR t kind k] u) (hkind : kind ≤ 2) (p : Prop) [Decidable p] (codes : List (Nat × Nat)) :
    s.BurstKept t [calR t kind k] ((if p then u else u.calStamp t kind).burstCodes t codes) := by
  refine .trans ?_ (State.burstCodes_kept hkind codes)
  split
  · exact h
  · exact h.trans (State.calStamp_kept hkind)

/-- The validity of a kind shown once every path has a good result (R207). -/
theorem State.BurstKept.shown (h : s.BurstKept t [calR t kind k] u) (hkind : kind ≤ 2) (p : Prop) [Decidable p] (f : Fld) :
    s.BurstKept t [calR t kind k] (if p then u.setBit (DFLY_CAL_STAT t) f true else u) := by
  split
  · exact h.trans (((Frame.refl (resultRegs t kind) u).setBit _ _ _ (by simp [resultRegs])).burstKept (result_place t hkind k))
  · exact h

/-- The trims of a path set. -/
theorem State.BurstKept.trims (h : s.BurstKept t [calR t kind k] u) (hkind : kind ≤ 2) (tx : Bool) {i : Nat} (hi : i < 16) (d p : Nat) :
    s.BurstKept t [calR t kind k] (if tx then (u.setFld (TXCH_DELAY t i) TXCH_DELAY_DELAY d).setFld (TXCH_PHASE t i) TXCH_PHASE_PHASE p
      else (u.setFld (RXCH_DELAY t i) RXCH_DELAY_DELAY d).setFld (RXCH_PHASE t i) RXCH_PHASE_PHASE p) := by
  have hin : ∀ a ∈ [TXCH_DELAY t i, TXCH_PHASE t i, RXCH_DELAY t i, RXCH_PHASE t i], a ∈ resultRegs t kind := fun a ha =>
    List.mem_append_right _ (List.mem_flatMap.2 ⟨i, List.mem_range.2 hi, ha⟩)
  refine h.trans (Frame.burstKept (l := resultRegs t kind) ?_ (result_place t hkind k))
  split
  · exact ((Frame.refl _ u).setFld _ _ _ (hin _ (by simp))).setFld _ _ _ (hin _ (by simp))
  · exact ((Frame.refl _ u).setFld _ _ _ (hin _ (by simp))).setFld _ _ _ (hin _ (by simp))

theorem State.Recorded.of_records {b : Burst} {hit : BitVec 16} {f : State → Nat → State} {c : Nat → Nat} {u v : State} (hkind : b.kind ≤ 2)
    (hu : u = s.each (onesOf 16 b.pmask.toNat) f)
    (hf : ∀ u i, ∃ amp phase delay, f u i = u.calRecord t b.kind i (c i) amp phase delay) (hc : ∀ k : Fin 16, hit.getLsbD k = true → c k = 5)
    (hv : ∀ k : Fin 16, u.BurstKept t [calR t b.kind k] v) : s.Recorded t b hit v := by
  subst hu
  refine ⟨(State.records_kept hkind hf s _).trans (hv 0).forget, fun k hk hhit => ?_⟩
  rw [State.fld, (hv k).reg _ (List.mem_singleton_self _), ← State.fld, State.records_code hkind hf s b.pmask hk, hc k hhit]
  rfl

theorem State.Recorded.useFree {b : Burst} {hit : BitVec 16} {v : State} (h : s.Recorded t b hit v) : s.Recorded t b hit v.useFree :=
  ⟨h.kept.useFree, h.struck⟩
end

theorem txchStatus_not_record (t : Fin 4) {kind : Nat} (hkind : kind ≤ 2) (k : Nat) : TXCH_STATUS t ∉ [calR t kind k] ∧
    PMU_DOM (10 + t) ≠ TXCH_STATUS t := by
  rw [calR_eq hkind, List.mem_singleton]
  simp only [TXCH_STATUS, PMU_DOM]
  omega

/-- The results of a burst of KIND 0 or 1 (R205 to R207). -/
theorem State.arrayResults_recorded (s : State) (t : Fin 4) {b : Burst} (hkind : b.kind ≤ 2) (tx : Bool) (ms : List CalMeas) :
    s.Recorded t b (if tx then b.hit else b.hitRx) (s.arrayResults t b tx ms) := by
  unfold State.arrayResults
  extract_lets ctrl abs ref m0 refBad tauT phiT ps code codes good u apply mask w x x' v
  refine .of_records (u := u) (c := fun i => code (measOf ms i)) hkind rfl (fun u i => ⟨_, _, _, rfl⟩) (fun k hk => ?_) fun k => ?_
  · have hfive := s.measCode_struck t b tx ms k hk
    simp only [code, hfive]
    rfl
  · obtain ⟨hstatus, hdom⟩ := txchStatus_not_record t hkind k
    have hgood : ∀ i ∈ good, i < 16 := fun i hi => by
      simp only [good, codes, List.mem_map, List.mem_filter] at hi
      obtain ⟨_, ⟨⟨j, hj, rfl⟩, -⟩, rfl⟩ := hi
      exact lt_of_mem_onesOf hj
    have hw : u.BurstKept t [calR t b.kind k] w :=
      State.each_keeps_mem (P := u.BurstKept t _) (fun _ i hi hu => hu.trims hkind tx (hgood i hi) _ _) (.refl ..)
    have hx : u.BurstKept t [calR t b.kind k] x := (hw.txTrimArm hstatus hdom mask).modCal rfl
    have hx' : u.BurstKept t [calR t b.kind k] x' := (hw.rxTrimArm mask).modCal rfl
    refine State.BurstKept.reported ?_ hkind _ _
    dsimp only [v]
    split
    · exact .refl ..
    · split
      · exact hx.shown hkind _ _
      · exact hx'.shown hkind _ _

/-- The results of a burst of KIND 2 (R208). -/
theorem State.reciprocity_recorded (s : State) (t : Fin 4) {b : Burst} (hkind : b.kind = 2) (tx rx : List CalMeas) :
    s.Recorded t b b.hit (s.reciprocity t b tx rx) := by
  unfold State.reciprocity
  extract_lets ref both refBad ps code amp dly ph u good mask x v
  refine .of_records (u := u) (c := code) hkind.le rfl (fun u i => ?_) (fun k hk => ?_) fun k => ?_
  · rw [hkind]
    split
    · next hsix =>
      rw [hsix]
      exact ⟨_, _, _, rfl⟩
    · exact ⟨_, _, _, rfl⟩
  · have hfive : s.measCode t b true (measOf tx k) = 5 := s.measCode_struck t b true tx k hk
    simp only [code, both, hfive]
    rfl
  · rw [hkind]
    have hx : u.BurstKept t [calR t 2 k] x := (State.BurstKept.refl ..).modCal rfl
    exact (hx.shown (le_refl 2) _ _).reported (le_refl 2) _ _

/-! ### The end of a burst (R201) -/

theorem exec_calBurstResults (t : Fin 4) (after : Fin 16385) (tx rx : List CalMeas) (s : State) :
    exec (.calBurstResults t after tx rx) s = done ((s.burstResults t after tx rx).startCalFollow t) := rfl

/-- A burst of KIND 0 to 2 leaves the port; of KIND 0 or 2 it releases receiver 1. -/
def State.portLeft (s : State) (t : Nat) (b : Burst) : State := if b.kind = 1 then s.portClosed t else (s.portClosed t).vacate t 1

theorem State.portLeft_field (s : State) (t : Nat) (b : Burst) {α : Type} (m : State → α) (hm : ∀ (x : State) d, m { x with dflies := d } = m x) :
    m (s.portLeft t b) = m (s.portClosed t) := by
  unfold State.portLeft
  split
  · rfl
  · exact hm _ _

theorem State.portFree_left {s : State} {t : Nat} {b : Burst} (hb : (s.cal t).burst = some b) (hkind : b.kind ≠ 3) :
    s.portFree t = (s.portLeft t b).raise (Ev.CAL_DONE t) := by
  rw [State.portFree, hb]
  dsimp only
  rw [if_neg hkind]
  rfl

/-- The port is free, and CAL_DONE told of. -/
theorem State.portFree_ended {s : State} {t : Fin 4} {b : Burst} (hb : (s.cal t).burst = some b) (hkind : b.kind ≠ 3) : let u := s.portFree t
    (u.cal t).burst = none ∧ u.bit (DFLY_CAL_STAT t) DFLY_CAL_STAT_BUSY = false ∧
      (s.mayAssert (Ev.CAL_DONE t) = true → u.stored (Ev.CAL_DONE t) = true) ∧ u.now = s.now ∧ u.startCal = s.startCal ∧
      Keeps (DFLY_CAL_STAT t :: clipRegs t) s u := by
  obtain ⟨hplace, -, hevent, hevents⟩ := image_place t 0
  obtain ⟨htile, hlevel, -⟩ := hevents (Ev.CAL_DONE t) (by simp)
  have hclosed := s.portClosed_frame (t := t)
  have hreg : ∀ a ∈ [PMU_DOM (10 + t), TXCH_STATUS t], (s.portLeft t b).reg a = s.reg a := fun a ha => by
    obtain ⟨hnot, hquiet⟩ := hplace a (List.mem_append_right [DFLY_STATUS t, DFLY_IMG_STAT t (0 : Fin 2)] ha)
    exact (s.portLeft_field t b (·.reg a) fun _ _ => rfl).trans (hclosed.reg a hnot hquiet)
  intro u
  have hu : u = (s.portLeft t b).raise (Ev.CAL_DONE t) := State.portFree_left hb hkind
  rw [hu]
  refine ⟨?_, ?_, fun hmay => ?_, ?_, ?_, ?_⟩
  · rw [State.cal_raise, s.portLeft_field t b (·.cal t) fun _ _ => rfl, State.portClosed_burst]
  · rw [State.bit_raise _ _ _ _ hevent, s.portLeft_field t b (·.bit _ _) fun _ _ => rfl, State.portClosed_busy]
  · exact State.stored_raise_of_mayAssert hlevel ((State.mayAssert_congr htile (hreg _ (by simp)) (hreg _ (by simp))).trans hmay)
  · rw [State.raise_now, s.portLeft_field t b (·.now) fun _ _ => rfl]
    exact hclosed.field (·.now) fun _ => rfl
  · rw [State.raise_startCal, s.portLeft_field t b (·.startCal) fun _ _ => rfl]
    exact hclosed.field (·.startCal) fun _ => rfl
  · have hleft : Keeps (DFLY_CAL_STAT t :: clipRegs t) s (s.portLeft t b) := by
      unfold State.portLeft
      split
      · exact hclosed.keeps
      · exact hclosed.keeps.modDfly _ _
    exact hleft.trans ((Frame.refl _ _).raise _).keeps

/-- Whether CAL_DONE may assert stays. -/
theorem State.BurstKept.mayAssert {t : Fin 4} {w : List Nat} {s u : State} (h : s.BurstKept t w u) :
    u.mayAssert (Ev.CAL_DONE t) = s.mayAssert (Ev.CAL_DONE t) := by
  have htile : (Ev.CAL_DONE t - 96) / 40 = t := by simp only [Ev.CAL_DONE]; omega
  simp only [State.mayAssert, htile, State.domOn, State.fld, h.dom, h.link]

theorem portRegs_place (t : Fin 4) {kind : Nat} (hkind : kind ≤ 2) (k : Fin 16) : calR t kind k ∉ DFLY_CAL_STAT t :: clipRegs t := by
  rw [calR_eq hkind]
  simp only [clipRegs, List.mem_cons, List.mem_map, List.mem_range, not_or, not_exists, not_and, DFLY_CAL_STAT, TXCH_CNT_FLAGS, TXCH_CLIP_COUNT]
  exact ⟨by omega, by omega, fun i hi => by omega⟩

/-- The burst of KIND 0 to 2 at the port ends with its results. -/
theorem State.burstResults_recorded {s : State} {t : Fin 4} {b : Burst} (hb : (s.cal t).burst = some b) (hkind : b.kind ≤ 2) (after : Nat)
    (tx rx : List CalMeas) : ∃ v, (s.advance (b.at_ + 4096 * (b.dur / 4096) + after)).Recorded t b (if b.kind = 1 then b.hitRx else b.hit) v ∧
      s.burstResults t after tx rx = v.portFree t := by
  unfold State.burstResults
  rw [hb]
  dsimp only
  obtain h | h | h : b.kind = 0 ∨ b.kind = 1 ∨ b.kind = 2 := by omega
  · rw [h, if_neg (by decide)]
    exact ⟨_, (State.arrayResults_recorded _ t hkind true tx).useFree, rfl⟩
  · rw [h, if_pos rfl]
    exact ⟨_, (State.arrayResults_recorded _ t hkind false rx).useFree, rfl⟩
  · rw [h, if_neg (by decide)]
    exact ⟨_, (State.reciprocity_recorded _ t h tx rx).useFree, rfl⟩

/-- R201, R203: the results of a burst of KIND 0 to 2, outside step 8 of a start. -/
theorem burst_ended {s : State} {t : Fin 4} {b : Burst} (hcal : s.startCal = none) (after : Fin 16385) (tx rx : List CalMeas)
    (hb : (s.cal t).burst = some b) (hkind : b.kind ≤ 2) : Answers (.calBurstResults t after tx rx) s fun v =>
      (v.cal t).burst = none ∧ v.bit (DFLY_CAL_STAT t) DFLY_CAL_STAT_BUSY = false ∧ Told s v (Ev.CAL_DONE t) ∧
      v.now = max s.now (b.at_ + 4096 * (b.dur / 4096) + after) ∧ SameMemory s v ∧
      ∀ k : Fin 16, b.pmask.getLsbD k = true → (if b.kind = 1 then b.hitRx else b.hit).getLsbD k = true → v.fld (calR t b.kind k) DFLY_TXR_CODE = 5 := by
  obtain ⟨v, ⟨hkept, hstruck⟩, hend⟩ := State.burstResults_recorded hb hkind after tx rx
  let e := b.at_ + 4096 * (b.dur / 4096) + after
  have hburst : (v.cal t).burst = some b := hkept.burst.trans ((s.advance_field e (fun x => (x.cal t).burst) fun _ _ _ => rfl).trans hb)
  obtain ⟨hfree, hbusy, htold, hnow, hstart, hkeeps, hmemory⟩ := State.portFree_ended hburst (by omega)
  have hstep : (v.portFree t).startCal = none :=
    hstart.trans (hkept.startCal.trans ((s.advance_field e (·.startCal) fun _ _ _ => rfl).trans hcal))
  have hmay : v.mayAssert (Ev.CAL_DONE t) = s.mayAssert (Ev.CAL_DONE t) :=
    hkept.mayAssert.trans (s.advance_field e (·.mayAssert _) fun _ _ _ => rfl)
  obtain ⟨-, hadvanced⟩ := (Keeps.refl [] s).advance e
  obtain ⟨-, -, -, hevents⟩ := image_place t 0
  obtain ⟨-, hlevel, -⟩ := hevents (Ev.CAL_DONE t) (by simp)
  have hexec := exec_calBurstResults t after tx rx s
  rw [hend, State.startCalFollow_none _ hstep] at hexec
  refine .of_unsettled hexec (fun _ _ _ => rfl) ⟨hfree, hbusy, .of_stored hlevel fun h => htold (hmay.trans h), ?_,
    (hadvanced.trans hkept.memory).trans hmemory, fun k hk hhit => ?_⟩
  · rw [hnow, hkept.now, State.advance_now]
  · obtain ⟨-, hplace⟩ := List.forall_mem_cons.1 (result_place t hkind k)
    obtain ⟨-, hplace⟩ := List.forall_mem_cons.1 hplace
    obtain ⟨-, hevent⟩ := hplace _ (List.mem_singleton_self _)
    rw [State.fld, hkeeps _ (portRegs_place t hkind k) hevent]
    exact hstruck k hk hhit

/-- Settles O20: a command of CAL_CMD by the mode, a burst at its instant by the conditions that refuse it, the results of a burst with their codes
kept to its end, an update of an ADC's estimates by what holds it, a DAC by whether it runs. -/
theorem calibrations : Obligations.Calibrations := by
  refine ⟨fun s t pm hans => ⟨calCmd_waits pm hans, calCmd_refused pm hans⟩, fun s t i =>
    ⟨fun hcal b rest => burst_reached hcal, fun hcal after tx rx b => burst_ended hcal after tx rx,
      fun corrections ok hmode hdom => adcCal_updated corrections ok hmode hdom, dacCal_done, fun hstop => ?_⟩⟩
  rw [exec_dacCellCalDone, State.dacCal_stopped hstop]
  rfl

end Sys2Proof.Machine
end

section
/-!
PROOFS. Quad sequencers and bias outputs (R213 to R226): the registers they change, and what their shared operations set and leave.
-/
namespace Sys2Proof.Machine
open Reg F

/-! ### What the operations of the front end keep -/

/-- No register of a tile is one of events. -/
theorem eventReg_of_tile {a : Nat} (h : 0x1000000 ≤ a) : eventReg a = false := by
  simp only [eventReg, RILYN_LOG_DROP, RILYN_CNT_FLAGS, Bool.or_eq_false_iff, Bool.and_eq_false_iff, decide_eq_false_iff_not, beq_eq_false_iff_ne]
  omega

section
variable {l : List Nat} {s u : State}

theorem Keeps.setReg (h : Keeps l s u) (a : Nat) (w : Word) (ha : a ∈ l) : Keeps l s (u.setReg a w) := h.trans ((Frame.refl l u).setReg a w ha).keeps
theorem Keeps.setFld (h : Keeps l s u) (a : Nat) (f : Fld) (v : Nat) (ha : a ∈ l) : Keeps l s (u.setFld a f v) := h.setReg a _ ha
theorem Keeps.setBit (h : Keeps l s u) (a : Nat) (f : Fld) (b : Bool) (ha : a ∈ l) : Keeps l s (u.setBit a f b) := h.setReg a _ ha
theorem Keeps.event (h : Keeps l s u) (e : Nat) : Keeps l s (u.raise e) := h.trans (.raise (Frame.refl l u) e)
theorem Keeps.modQuad (h : Keeps l s u) (k : Nat) (f : Quad → Quad) : Keeps l s (u.modQuad k f) := h
theorem Keeps.modBias (h : Keeps l s u) (k : Nat) (f : Bias → Bias) : Keeps l s (u.modBias k f) := h
theorem Keeps.setEnds (h : Keeps l s u) (t q : Nat) (e : Option Nat) : Keeps l s (u.setEnds t q e) := h
theorem Keeps.seeCause (h : Keeps l s u) (t q c : Nat) : Keeps l s (u.seeCause t q c) := h

/-- A register of a tile that is not among those that change. -/
theorem Keeps.tileReg (h : Keeps l s u) {a : Nat} (ha : a ∉ l) (htile : 0x1000000 ≤ a) : u.reg a = s.reg a := by
  obtain ⟨hreg, -⟩ := h
  exact hreg a ha (eventReg_of_tile htile)

theorem Keeps.memory (h : Keeps l s u) : SameMemory s u := by
  obtain ⟨-, hmem⟩ := h
  exact hmem

/-- The intervals of the PAEN pins belong to the transmit paths. -/
theorem State.judgePins_field (s : State) (t : Nat) {α : Type} (m : State → α) (hm : ∀ (x : State) p, m { x with txPaths := p } = m x) :
    m (s.judgePins t) = m s :=
  State.each_keeps (P := fun u => m u = m s) (fun u i h => by dsimp only; split <;> [exact h; exact (hm u _).trans h]) paths rfl

theorem Keeps.judgePins (h : Keeps l s u) (t : Nat) : Keeps l s (u.judgePins t) := (u.judgePins_field t (Keeps l s) fun _ _ => rfl).mpr h
end

/-! ### An event told of -/

/-- A tile's event without a condition is told of, where the registers on which it rests are as they were. -/
theorem Told.raised {s v : State} {t src : Nat} (hl : hasLevel src = false) (htile : (src - 96) / 40 = t)
    (hdom : v.reg (PMU_DOM (10 + t)) = s.reg (PMU_DOM (10 + t))) (hlink : v.reg (TXCH_STATUS t) = s.reg (TXCH_STATUS t)) : Told s (v.raise src) src :=
  .of_stored hl fun h => State.stored_raise_of_mayAssert hl ((State.mayAssert_congr htile hdom hlink).trans h)

/-! ### A quad: its status register and what its sequencer holds -/

/-- What shows of a quad. -/
def State.quadView (s : State) (t q : Nat) : Word × Quad := (s.reg (SEQ_STAT t q), s.quad (quadKey t q))

theorem seqStat_inj {t p q : Nat} : SEQ_STAT t p = SEQ_STAT t q ↔ p = q := by
  simp only [SEQ_STAT]
  omega

theorem quadKey_inj {t p q : Nat} : quadKey t p = quadKey t q ↔ p = q := by
  simp only [quadKey]
  omega

section
variable {s u : State} {t q p : Nat}

theorem State.seqState_congr (h : u.reg (SEQ_STAT t q) = s.reg (SEQ_STAT t q)) : u.seqState t q = s.seqState t q := congrArg (getF · SEQ_STAT_STATE) h

theorem State.gateMask_congr (h : u.reg (SEQ_CFG t q) = s.reg (SEQ_CFG t q)) : u.gateMask t q = s.gateMask t q := congrArg (getF · SEQ_CFG_GATE_MASK) h

theorem State.statFld_of_view (h : u.quadView t q = s.quadView t q) (f : Fld) : u.fld (SEQ_STAT t q) f = s.fld (SEQ_STAT t q) f :=
  congrArg (fun x : Word × Quad => getF x.1 f) h

theorem State.seqState_of_view (h : u.quadView t q = s.quadView t q) : u.seqState t q = s.seqState t q := State.statFld_of_view h _

theorem State.quad_of_view (h : u.quadView t q = s.quadView t q) : u.quad (quadKey t q) = s.quad (quadKey t q) := congrArg Prod.snd h

variable (s) (t q p)

theorem State.modQuad_reg (k : Nat) (f : Quad → Quad) (a : Nat) : (s.modQuad k f).reg a = s.reg a := rfl

theorem State.quad_modQuad (k j : Nat) (f : Quad → Quad) : (s.modQuad k f).quad j = if j = k then f (s.quad k) else s.quad j := s.quad_setQuad ..

theorem State.quad_setEnds (e : Option Nat) : (s.setEnds t q e).quad (quadKey t q) = { s.quad (quadKey t q) with ends := e } :=
  (s.quad_modQuad ..).trans (if_pos rfl)

theorem State.seqState_setSeqState {st : Nat} (hst : st < 16) : (s.setSeqState t q st).seqState t p = if p = q then st else s.seqState t p := by
  split
  · next h =>
    subst h
    exact (s.fld_setFld _ _ _ (by decide)).trans (Nat.mod_eq_of_lt hst)
  · next h => exact s.fld_setFld_ne _ _ _ (mt seqStat_inj.1 h)

theorem State.seqState_clearRec : (s.clearRec t q).seqState t p = s.seqState t p := by
  by_cases h : p = q
  · subst h
    exact s.fld_setFld_apart _ _ _ _ (by decide) (by decide)
  · exact s.fld_setFld_ne _ _ _ (mt seqStat_inj.1 h)

variable {s t q p}

/-- What changes the status register of another quad, or what its sequencer holds, leaves a quad. -/
theorem State.quadView_setReg_ne (h : p ≠ q) (w : Word) : (s.setReg (SEQ_STAT t q) w).quadView t p = s.quadView t p :=
  congrArg (·, s.quad (quadKey t p)) (s.reg_setReg_ne w (mt seqStat_inj.1 h))

theorem State.quadView_modQuad_ne (h : p ≠ q) (f : Quad → Quad) : (s.modQuad (quadKey t q) f).quadView t p = s.quadView t p :=
  congrArg (s.reg (SEQ_STAT t p), ·) ((s.quad_modQuad ..).trans (if_neg (mt quadKey_inj.1 h)))

theorem State.quadView_raise (e : Nat) : (s.raise e).quadView t p = s.quadView t p := by
  have hquad : (s.raise e).quad (quadKey t p) = s.quad (quadKey t p) := by rw [State.quad, State.raise_quadsSt, State.quad]
  exact Prod.ext (s.reg_raise _ _ (eventReg_of_tile (by simp only [SEQ_STAT]; omega))) hquad

theorem State.quadView_judgePins : (s.judgePins t).quadView t p = s.quadView t p := s.judgePins_field t (·.quadView t p) fun _ _ => rfl

/-- A loop over the quads of a mask comes to quad `q` at most once, in a state that shows it as it was. -/
theorem State.eachQuad_visit {f : State → Nat → State} (hother : ∀ u p, p ≠ q → (f u p).quadView t q = u.quadView t q) (qm : BitVec 4) :
    ∃ u : State, u.quadView t q = s.quadView t q ∧
      (s.each (onesOf 4 qm.toNat) f).quadView t q = (if qm.getLsbD q then f u q else u).quadView t q := by
  split
  · next h =>
    refine State.each_visit (P := fun u => u.quadView t q = s.quadView t q)
      (Q := fun v => ∃ u : State, u.quadView t q = s.quadView t q ∧ v.quadView t q = (f u q).quadView t q)
      (List.nodup_range.filter _) ((mem_onesOf_toNat qm q).2 h) (fun u p hp hu => (hother u p hp).trans hu) (fun u hu => ⟨u, hu, rfl⟩)
      (fun u p hp hu => ?_) rfl
    obtain ⟨v, hv, huv⟩ := hu
    exact ⟨v, hv, (hother u p hp).trans huv⟩
  · next h =>
    refine ⟨s, rfl, State.each_keeps_mem (P := fun u => u.quadView t q = s.quadView t q) (fun u p hp hu => (hother u p ?_).trans hu) rfl⟩
    rintro rfl
    exact h ((mem_onesOf_toNat qm p).1 hp)
end

/-! ### A bias output: its status register and what it holds -/

/-- What shows of a bias output. -/
def State.biasView (s : State) (t i : Nat) : Word × Bias := (s.reg (BIASOUT_STAT t i), s.bias (biasKey t i))

theorem biasKey_inj {t i j : Nat} : biasKey t i = biasKey t j ↔ i = j := by
  simp only [biasKey]
  omega

section
variable {s u : State} {t q i j : Nat}

theorem State.biasState_congr (h : u.reg (BIASOUT_STAT t i) = s.reg (BIASOUT_STAT t i)) : u.biasState t i = s.biasState t i :=
  congrArg (getF · BIASOUT_STAT_STATE) h

theorem State.biasStatFld_of_view (h : u.biasView t i = s.biasView t i) (f : Fld) : u.fld (BIASOUT_STAT t i) f = s.fld (BIASOUT_STAT t i) f :=
  congrArg (fun x : Word × Bias => getF x.1 f) h

theorem State.biasState_of_view (h : u.biasView t i = s.biasView t i) : u.biasState t i = s.biasState t i := State.biasStatFld_of_view h _

theorem State.bias_of_view (h : u.biasView t i = s.biasView t i) : u.bias (biasKey t i) = s.bias (biasKey t i) := congrArg Prod.snd h

theorem State.biasView_of (hreg : u.reg (BIASOUT_STAT t i) = s.reg (BIASOUT_STAT t i)) (hbias : u.bias (biasKey t i) = s.bias (biasKey t i)) :
    u.biasView t i = s.biasView t i := Prod.ext hreg hbias

variable (s) (t i)

theorem State.bias_modBias (k j : Nat) (f : Bias → Bias) : (s.modBias k f).bias j = if j = k then f (s.bias k) else s.bias j := s.bias_setBias ..

/-- Entry to DRIVE (R221, R223): the safe code is in force from now on. -/
theorem State.enterDrive_drives : (s.enterDrive t i).biasState t i = BiasSt.drive ∧
    (s.enterDrive t i).fld (BIASOUT_STAT t i) BIASOUT_STAT_PIN_CODE = s.fld (BIASOUT_SAFE t i) BIASOUT_SAFE_CODE ∧
    ((s.enterDrive t i).bias (biasKey t i)).since = s.now := by
  refine ⟨?_, ?_, ?_⟩
  · exact (State.fld_setFld_apart _ _ BIASOUT_STAT_PIN_CODE BIASOUT_STAT_STATE _ (by decide) (by decide)).trans (s.fld_setFld _ _ _ (by decide))
  · exact (State.fld_setFld _ _ BIASOUT_STAT_PIN_CODE _ (by decide)).trans (Nat.mod_eq_of_lt (s.fld_lt _ _))
  · exact congrArg Bias.since ((State.bias_modBias ..).trans (if_pos rfl))

theorem State.enterDrive_keeps : Keeps [BIASOUT_STAT t i] s (s.enterDrive t i) :=
  ((((Keeps.refl _ s).setFld _ _ _ (by simp)).setFld _ _ _ (by simp)).modBias _ _)

theorem State.enableBias_keeps : Keeps [BIASOUT_CFG t i, BIASOUT_STAT t i] s (s.enableBias t i) := by
  unfold State.enableBias
  split
  · exact ((Keeps.refl _ s).setBit _ _ _ (by simp)).trans ((State.enterDrive_keeps _ t i).mono (by simp))
  · exact .refl ..

theorem State.enableBias_now : (s.enableBias t i).now = s.now := by
  unfold State.enableBias
  split <;> rfl

/-- An output enabled is no longer in HIZ; one that was not stays as it was. -/
theorem State.enableBias_enabled : (s.enableBias t i).biasState t i ≠ BiasSt.hiz := by
  unfold State.enableBias
  split
  · obtain ⟨hdrive, -⟩ := (s.setBit (BIASOUT_CFG t i) BIASOUT_CFG_EN true).enterDrive_drives t i
    rw [hdrive]
    decide
  · assumption

theorem State.disableBias_hiz : (s.disableBias t i).biasState t i = BiasSt.hiz :=
  State.fld_setFld _ _ BIASOUT_STAT_STATE _ (by decide)

theorem State.disableBias_keeps : Keeps [BIASOUT_CFG t i, BIASOUT_STAT t i] s (s.disableBias t i) :=
  (((Keeps.refl _ s).setBit _ _ _ (by simp)).setFld _ _ _ (by simp)).modBias _ _

variable {s t i}

/-- The registers of one output of a tile hold no other output's status. -/
theorem biasStat_apart (hj : j < 16) (h : i ≠ j) : BIASOUT_STAT t i ∉ [BIASOUT_CFG t j, BIASOUT_STAT t j] := by
  simp only [List.mem_cons, List.not_mem_nil, or_false, BIASOUT_CFG, BIASOUT_STAT]
  omega

/-- An output already enabled, or another one. -/
theorem State.enableBias_view (hj : j < 16) (h : i = j → s.biasState t i ≠ BiasSt.hiz) : (s.enableBias t j).biasView t i = s.biasView t i := by
  by_cases hij : i = j
  · subst hij
    exact congrArg (State.biasView · t i) (if_neg (h rfl))
  · refine State.biasView_of ((s.enableBias_keeps t j).tileReg (biasStat_apart hj hij) (by simp only [BIASOUT_STAT]; omega)) ?_
    unfold State.enableBias
    split
    · exact (State.bias_modBias ..).trans (if_neg (mt biasKey_inj.1 hij))
    · rfl
end

end Sys2Proof.Machine
end

section
/-!
PROOFS. The judging of gate bias (R213, R214, R218): what it can make of the quads and bias outputs of a tile.
-/
namespace Sys2Proof.Machine
open Reg F

/-! ### Loops with one step per element -/

/-- What the step at `x` establishes and the steps at the elements of a list keep holds at the end. -/
theorem State.each_establishes_mem {α : Type} {Q : State → Prop} {f : State → α → State} {l : List α} {x : α} (hx : x ∈ l) (hstep : ∀ u, Q (f u x))
    (hkeep : ∀ u, ∀ y ∈ l, Q u → Q (f u y)) (s : State) : Q (s.each l f) := by
  induction l generalizing s with
  | nil => cases hx
  | cons y l ih =>
    have hrest := fun u z hz => hkeep u z (List.mem_cons_of_mem y hz)
    rw [State.each_cons]
    rcases List.mem_cons.1 hx with rfl | hx
    · exact State.each_keeps_mem hrest (hstep s)
    · exact ih hx hrest _

theorem mem_onesOf {n m i : Nat} : i ∈ onesOf n m ↔ i < n ∧ m.testBit i = true := by
  rw [onesOf, List.mem_filter, List.mem_range]

theorem mem_quads {q : Nat} : q ∈ quads ↔ q < 4 := by
  simp only [quads, List.mem_cons, List.not_mem_nil, or_false]
  omega

/-! ### The registers of bias outputs, and those of gates -/

/-- The registers of the bias outputs of a tile that their enabling and disabling change. -/
def biasRegs (t : Nat) : List Nat := (List.range 16).flatMap fun i => [BIASOUT_CFG t i, BIASOUT_STAT t i]

/-- Those that the judging of gate bias changes: the status of the quads beside them. -/
def gateRegs (t : Nat) : List Nat := (List.range 4).map (SEQ_STAT t) ++ biasRegs t

section
variable {t i q a : Nat}

theorem mem_biasRegs : a ∈ biasRegs t ↔ ∃ i < 16, a = BIASOUT_CFG t i ∨ a = BIASOUT_STAT t i := by
  simp only [biasRegs, List.mem_flatMap, List.mem_range, List.mem_cons, List.not_mem_nil, or_false]

theorem mem_gateRegs : a ∈ gateRegs t ↔ (∃ q < 4, a = SEQ_STAT t q) ∨ a ∈ biasRegs t := by
  simp only [gateRegs, List.mem_append, List.mem_map, List.mem_range, eq_comm (a := a)]

theorem seqStat_mem_gateRegs (hq : q < 4) : SEQ_STAT t q ∈ gateRegs t := mem_gateRegs.2 (.inl ⟨q, hq, rfl⟩)

theorem biasRegs_of_output (hi : i < 16) (h : a ∈ [BIASOUT_CFG t i, BIASOUT_STAT t i]) : a ∈ biasRegs t := by
  refine mem_biasRegs.2 ⟨i, hi, ?_⟩
  simpa only [List.mem_cons, List.not_mem_nil, or_false] using h

theorem gateRegs_of_output (hi : i < 16) (h : a ∈ [BIASOUT_CFG t i, BIASOUT_STAT t i]) : a ∈ gateRegs t :=
  mem_gateRegs.2 (.inr (biasRegs_of_output hi h))

theorem seqStat_not_biasReg (hq : q < 4) : SEQ_STAT t q ∉ biasRegs t := by
  rintro h
  obtain ⟨i, hi, h | h⟩ := mem_biasRegs.1 h <;> simp only [SEQ_STAT, BIASOUT_CFG, BIASOUT_STAT] at h <;> omega

/-- A register of the sequencers' block that shows no quad's status. -/
theorem seqReg_not_gateReg (hlow : 0x11C0000 + 0x1000000 * t ≤ a) (hhigh : a < 0x11D0000 + 0x1000000 * t) (h : a % 16 ≠ 12) : a ∉ gateRegs t := by
  intro hin
  rcases mem_gateRegs.1 hin with ⟨q, hq, rfl⟩ | hin
  · simp only [SEQ_STAT] at h
    omega
  · obtain ⟨i, hi, rfl | rfl⟩ := mem_biasRegs.1 hin <;> simp only [BIASOUT_CFG, BIASOUT_STAT] at hhigh <;> omega

/-- The domain of a tile and its link are told of by registers of other blocks. -/
theorem tilePower_not_gateReg (t : Fin 4) : PMU_DOM (10 + t) ∉ gateRegs t ∧ TXCH_STATUS t ∉ gateRegs t := by
  revert t
  decide

theorem seqCfg_not_gateReg (hq : q < 4) : SEQ_CFG t q ∉ gateRegs t :=
  seqReg_not_gateReg (by simp only [SEQ_CFG]; omega) (by simp only [SEQ_CFG]; omega) (by simp only [SEQ_CFG]; omega)
end

/-- What keeps all but the registers of gates keeps the tile's power and link. -/
theorem Keeps.tilePower {s u : State} {t : Fin 4} (h : Keeps (gateRegs t) s u) :
    u.reg (PMU_DOM (10 + t)) = s.reg (PMU_DOM (10 + t)) ∧ u.reg (TXCH_STATUS t) = s.reg (TXCH_STATUS t) := by
  obtain ⟨hreg, -⟩ := h
  obtain ⟨hdom, hlink⟩ := tilePower_not_gateReg t
  obtain ⟨hdomEvent, hlinkEvent⟩ := tilePower_place t
  exact ⟨hreg _ hdom hdomEvent, hreg _ hlink hlinkEvent⟩

/-! ### The outputs of a mask are enabled -/

/-- Every disabled output of a mask is enabled (R213). -/
def State.enableGates (s : State) (t m : Nat) : State := s.each (onesOf 16 m) fun u i => u.enableBias t i

section
variable (s : State) (t m : Nat) {i : Nat}

theorem State.enableGates_keeps : Keeps (biasRegs t) s (s.enableGates t m) :=
  State.each_keeps_mem (P := Keeps (biasRegs t) s)
    (fun u j hj h => h.trans ((u.enableBias_keeps t j).mono fun _ => biasRegs_of_output (lt_of_mem_onesOf hj))) (.refl ..)

theorem State.enableGates_now : (s.enableGates t m).now = s.now :=
  State.each_keeps (P := fun u => u.now = s.now) (fun u i h => (u.enableBias_now t i).trans h) _ rfl

variable {s t m}

/-- An output already enabled, or outside the mask, stays as it was. -/
theorem State.enableGates_view (h : i ∈ onesOf 16 m → s.biasState t i ≠ BiasSt.hiz) : (s.enableGates t m).biasView t i = s.biasView t i := by
  refine State.each_keeps_mem (P := fun u => u.biasView t i = s.biasView t i)
    (fun u j hj hu => (State.enableBias_view (lt_of_mem_onesOf hj) fun hij => ?_).trans hu) rfl
  rw [State.biasState_of_view hu]
  exact h (hij ▸ hj)

theorem State.enableGates_enabled (h : i ∈ onesOf 16 m) : (s.enableGates t m).biasState t i ≠ BiasSt.hiz :=
  State.each_establishes_mem (Q := fun u => u.biasState t i ≠ BiasSt.hiz) h (fun u => u.enableBias_enabled t i)
    (fun u j hj hu => by rwa [State.biasState_of_view (State.enableBias_view (lt_of_mem_onesOf hj) fun _ => hu)]) s
end

/-! ### A quad waits for gate bias, settles, sees a cause -/

section
variable {s : State} {t q p i : Nat}

theorem State.setSeqState_keeps (hq : q < 4) (st : Nat) : Keeps (gateRegs t) s (s.setSeqState t q st) :=
  (Keeps.refl _ s).setFld _ _ _ (seqStat_mem_gateRegs hq)

theorem State.enterGateWait_keeps (hq : q < 4) : Keeps (gateRegs t) s (s.enterGateWait t q) :=
  ((State.setSeqState_keeps hq _).trans ((State.enableGates_keeps ..).mono fun _ h => mem_gateRegs.2 (.inr h))).setEnds ..

theorem State.enterGateWait_now (s : State) (t q : Nat) : (s.enterGateWait t q).now = s.now := State.enableGates_now _ t (s.gateMask t q)

theorem State.enterGateWait_seqState (hp : p < 4) : (s.enterGateWait t q).seqState t p = if p = q then Seq.gateWait else s.seqState t p :=
  (State.seqState_congr ((State.enableGates_keeps ..).tileReg (seqStat_not_biasReg hp) (by simp only [SEQ_STAT]; omega))).trans
    (s.seqState_setSeqState t q p (by decide))

theorem State.biasView_setSeqState (hq : q < 4) (st : Nat) : (s.setSeqState t q st).biasView t i = s.biasView t i :=
  State.biasView_of (s.reg_setReg_ne _ (by simp only [SEQ_STAT, BIASOUT_STAT]; omega)) rfl

/-- On the way to GATE_WAIT an output already enabled, or outside the quad's mask, stays as it was. -/
theorem State.enterGateWait_biasView (hq : q < 4) (h : i ∈ onesOf 16 (s.gateMask t q) → s.biasState t i ≠ BiasSt.hiz) :
    (s.enterGateWait t q).biasView t i = s.biasView t i := by
  refine (State.enableGates_view fun hi => ?_).trans (State.biasView_setSeqState hq _)
  rw [State.biasState_of_view (State.biasView_setSeqState hq _)]
  exact h hi

theorem State.enterGateWait_enabled (h : i ∈ onesOf 16 (s.gateMask t q)) : (s.enterGateWait t q).biasState t i ≠ BiasSt.hiz :=
  State.enableGates_enabled h

theorem State.enterGateSettle_keeps (hq : q < 4) : Keeps (gateRegs t) s (s.enterGateSettle t q) := (State.setSeqState_keeps hq _).setEnds ..

theorem State.enterGateSettle_seqState (s : State) (t q p : Nat) :
    (s.enterGateSettle t q).seqState t p = if p = q then Seq.gateSettle else s.seqState t p := s.seqState_setSeqState t q p (by decide)

theorem State.enterGateSettle_biasView (hq : q < 4) : (s.enterGateSettle t q).biasView t i = s.biasView t i := State.biasView_setSeqState hq _
end

/-! ### Gate bias judged -/

section
variable {P : State → Prop} {s : State} {t : Nat}

/-- Where gate bias is lost, a quad in GATE_SETTLE goes back to GATE_WAIT, or a cause is seen (R214, R218). -/
theorem State.loseBias_keeps {q : Nat} (hwait : s.seqState t q = Seq.gateSettle → P s → P (s.enterGateWait t q))
    (hsee : ∀ u c, P u → P (u.seeCause t q c)) (driven : Bool) (h : P s) : P (s.loseBias t q driven) := by
  unfold State.loseBias
  dsimp only
  split
  · exact h
  · split
    · next hsettle =>
      split
      · exact hwait hsettle h
      · exact h
    · split
      · have hdriven : P (if driven then s else s.seeCause t q 3) := by
          split
          · exact h
          · exact hsee _ _ h
        split
        · exact hdriven
        · exact hsee _ _ hdriven
      · exact h

/-- Where it is present, a quad in GATE_WAIT settles. -/
theorem State.gainBias_keeps {q : Nat} (hsettle : s.seqState t q = Seq.gateWait → P s → P (s.enterGateSettle t q)) (h : P s) :
    P (s.gainBias t q) := by
  unfold State.gainBias
  split
  · next hgain =>
    simp only [Bool.and_eq_true, beq_iff_eq] at hgain
    obtain ⟨⟨-, hwaits⟩, -⟩ := hgain
    exact hsettle hwaits h
  · exact h

/-- What the losses of gate bias keep and its gains keep, the judging of a tile's quads keeps. -/
theorem State.judgeQuads_of {Q : State → Prop} (hwait : ∀ u, ∀ q < 4, u.seqState t q = Seq.gateSettle → P u → P (u.enterGateWait t q))
    (hsee : ∀ u q c, P u → P (u.seeCause t q c)) (hPQ : ∀ u, P u → Q u)
    (hsettle : ∀ u, ∀ q < 4, u.seqState t q = Seq.gateWait → Q u → Q (u.enterGateSettle t q)) (h : P s) : Q (s.judgeQuads t) :=
  State.each_keeps_mem (fun u q hq hu => State.gainBias_keeps (hsettle u q (mem_quads.1 hq)) hu)
    (hPQ _ (State.each_keeps_mem (fun u q hq hu => State.loseBias_keeps (hwait u q (mem_quads.1 hq)) (fun v c => hsee v q c) _ hu) h))

variable (s t)

theorem State.judgeQuads_keeps : Keeps (gateRegs t) s (s.judgeQuads t) :=
  State.judgeQuads_of (P := Keeps (gateRegs t) s) (fun _ _ hq _ hu => hu.trans (State.enterGateWait_keeps hq)) (fun _ q c hu => hu.seeCause t q c)
    (fun _ => id) (fun _ _ hq _ hu => hu.trans (State.enterGateSettle_keeps hq)) (.refl ..)

theorem State.judgeQuads_now : (s.judgeQuads t).now = s.now :=
  State.judgeQuads_of (P := fun u => u.now = s.now) (fun u q _ _ hu => (u.enterGateWait_now t q).trans hu) (fun _ _ _ => id) (fun _ => id)
    (fun _ _ _ _ => id) rfl

variable {s t} {p i : Nat}

/-- A quad that neither waits for gate bias nor settles keeps its state. -/
theorem State.judgeQuads_seqState (hp : p < 4) (hwait : s.seqState t p ≠ Seq.gateWait) (hsettle : s.seqState t p ≠ Seq.gateSettle) :
    (s.judgeQuads t).seqState t p = s.seqState t p := by
  refine State.judgeQuads_of (P := fun u => u.seqState t p = s.seqState t p) (fun u q _ hq hu => ?_) (fun _ _ _ => id) (fun _ => id)
    (fun u q _ hq hu => ?_) rfl
  · rw [State.enterGateWait_seqState hp, if_neg, hu]
    rintro rfl
    exact hsettle (hu.symm.trans hq)
  · rw [State.enterGateSettle_seqState, if_neg, hu]
    rintro rfl
    exact hwait (hu.symm.trans hq)

/-- One that waits for gate bias or settles goes on to do so. -/
theorem State.judgeQuads_started (hp : p < 4) (h : s.seqState t p = Seq.gateWait ∨ s.seqState t p = Seq.gateSettle) :
    (s.judgeQuads t).seqState t p = Seq.gateWait ∨ (s.judgeQuads t).seqState t p = Seq.gateSettle := by
  refine State.judgeQuads_of (P := fun u => u.seqState t p = Seq.gateWait ∨ u.seqState t p = Seq.gateSettle) (fun u q _ _ hu => ?_)
    (fun _ _ _ => id) (fun _ => id) (fun u q _ _ hu => ?_) h
  · rw [State.enterGateWait_seqState hp]
    split
    · exact .inl rfl
    · exact hu
  · rw [State.enterGateSettle_seqState]
    split
    · exact .inr rfl
    · exact hu

/-- An output stays as it was, but where a quad in GATE_SETTLE has it disabled among its own. -/
theorem State.judgeQuads_biasView (h : ∀ q < 4, s.seqState t q = Seq.gateSettle → i ∈ onesOf 16 (s.gateMask t q) → s.biasState t i ≠ BiasSt.hiz) :
    (s.judgeQuads t).biasView t i = s.biasView t i := by
  refine State.judgeQuads_of
    (P := fun u => u.biasView t i = s.biasView t i ∧ Keeps (gateRegs t) s u ∧ ∀ q < 4, u.seqState t q = Seq.gateSettle → s.seqState t q = Seq.gateSettle)
    (Q := fun u => u.biasView t i = s.biasView t i) (fun u q hq hsettle ⟨hview, hkeeps, hquads⟩ => ⟨?_, ?_, fun p hp hps => ?_⟩) (fun _ _ _ => id)
    (fun _ ⟨hview, _⟩ => hview) (fun u q hq _ hu => (State.enterGateSettle_biasView hq).trans hu) ⟨rfl, .refl .., fun _ _ => id⟩
  · refine (State.enterGateWait_biasView hq fun hi => ?_).trans hview
    rw [State.gateMask_congr (hkeeps.tileReg (seqCfg_not_gateReg hq) (by simp only [SEQ_CFG]; omega))] at hi
    rw [State.biasState_of_view hview]
    exact h q hq (hquads q hq hsettle) hi
  · exact hkeeps.trans (State.enterGateWait_keeps hq)
  · rw [State.enterGateWait_seqState hp] at hps
    split at hps
    · cases hps
    · exact hquads p hp hps

theorem State.judgeQuads_enabled (h : s.biasState t i ≠ BiasSt.hiz) : (s.judgeQuads t).biasView t i = s.biasView t i :=
  State.judgeQuads_biasView fun _ _ _ _ => h
end

end Sys2Proof.Machine
end

section
/-!
PROOFS. Requests to the sequencers (R215, R218, Table 8-2): power-up, shutdown, the clearing of faults.
-/
namespace Sys2Proof.Machine
open Reg F

theorem exec_seqPowerUp (t : Fin 4) (qm : BitVec 4) (s : State) :
    exec (.seqPowerUp t qm) s = done (s.guarded (SEQ_CMD t) fun s => s.powerUp t qm) := rfl
theorem exec_seqShutdown (t : Fin 4) (qm : BitVec 4) (s : State) :
    exec (.seqShutdown t qm) s = done (s.guarded (SEQ_CMD t) fun s => s.shutdown t qm) := rfl
theorem exec_seqClearFault (t : Fin 4) (qm : BitVec 4) (s : State) :
    exec (.seqClearFault t qm) s = done (s.guarded (SEQ_CMD t) fun s => s.clearFault t qm) := rfl

/-- A register write whose block answers, and a claim that the judging of MSI vectors does not touch. -/
theorem Answers.of_guarded_unsettled {i : Instr} {s : State} {a : Nat} {f : State → State} {Q : State → Prop} (hi : exec i s = done (s.guarded a f))
    (h : s.answers a = true) (hQ : ∀ (x : State) o p, Q { x with out := o, msiPend := p } = Q x) (hq : Q (f s)) : Answers i s Q :=
  .of_unsettled (hi.trans (congrArg done (State.guarded_of h))) hQ hq

/-! ### A power-up of quads in OFF -/

/-- A quad waits for gate bias or settles, its gate outputs enabled. -/
def State.Starting (s : State) (t q : Nat) : Prop :=
  (s.seqState t q = Seq.gateWait ∨ s.seqState t q = Seq.gateSettle) ∧ ∀ i ∈ onesOf 16 (s.gateMask t q), s.biasState t i ≠ BiasSt.hiz

section
variable {s u : State} {t q p : Nat}

theorem Keeps.gateMask (h : Keeps (gateRegs t) s u) (hq : q < 4) : u.gateMask t q = s.gateMask t q :=
  State.gateMask_congr (h.tileReg (seqCfg_not_gateReg hq) (by simp only [SEQ_CFG]; omega))

theorem State.Starting.enterGateWait (hp : p < 4) (hq : q < 4) (h : s.Starting t p) : (s.enterGateWait t q).Starting t p := by
  obtain ⟨hstate, hbias⟩ := h
  refine ⟨?_, fun i hi => ?_⟩
  · rw [State.enterGateWait_seqState hp]
    split
    · exact .inl rfl
    · exact hstate
  · rw [(State.enterGateWait_keeps hq).gateMask hp] at hi
    rw [State.biasState_of_view (State.enterGateWait_biasView hq fun _ => hbias i hi)]
    exact hbias i hi

theorem State.enterGateWait_starting (hq : q < 4) : (s.enterGateWait t q).Starting t q := by
  refine ⟨.inl ?_, fun i hi => ?_⟩
  · rw [State.enterGateWait_seqState hq, if_pos rfl]
  · rw [(State.enterGateWait_keeps hq).gateMask hq] at hi
    exact State.enterGateWait_enabled hi

theorem State.Starting.judgeQuads (hp : p < 4) (h : s.Starting t p) : (s.judgeQuads t).Starting t p := by
  obtain ⟨hstate, hbias⟩ := h
  refine ⟨State.judgeQuads_started hp hstate, fun i hi => ?_⟩
  rw [(s.judgeQuads_keeps t).gateMask hp] at hi
  rw [State.biasState_of_view (State.judgeQuads_enabled (hbias i hi))]
  exact hbias i hi

theorem State.startQuad_keeps (hq : q < 4) : Keeps (gateRegs t) s (s.startQuad t q) :=
  (State.enterGateWait_keeps hq).trans (State.judgeQuads_keeps ..)

/-- A quad that neither waits for gate bias nor settles keeps its state while another one starts. -/
theorem State.startQuad_seqState (hp : p < 4) (hpq : p ≠ q) (hwait : s.seqState t p ≠ Seq.gateWait) (hsettle : s.seqState t p ≠ Seq.gateSettle) :
    (s.startQuad t q).seqState t p = s.seqState t p := by
  have hother : (s.enterGateWait t q).seqState t p = s.seqState t p := (State.enterGateWait_seqState hp).trans (if_neg hpq)
  exact (State.judgeQuads_seqState hp (hother ▸ hwait) (hother ▸ hsettle)).trans hother

/-- Every quad of a list that starts is starting at the end. -/
theorem State.startQuads_starting {l : List Nat} (hl : ∀ q ∈ l, q < 4) (hq : q ∈ l) : (s.each l fun u q => u.startQuad t q).Starting t q :=
  State.each_establishes_mem (Q := fun u => u.Starting t q) hq (fun _ => (State.enterGateWait_starting (hl q hq)).judgeQuads (hl q hq))
    (fun _ p hp hu => (hu.enterGateWait (hl q hq) (hl p hp)).judgeQuads (hl q hq)) s

theorem State.startQuads_keeps {l : List Nat} (hl : ∀ q ∈ l, q < 4) : Keeps (gateRegs t) s (s.each l fun u q => u.startQuad t q) :=
  State.each_keeps_mem (P := Keeps (gateRegs t) s) (fun _ q hq h => h.trans (State.startQuad_keeps (hl q hq))) (.refl ..)

theorem State.startQuads_seqState {l : List Nat} (hp : p < 4) (hpl : p ∉ l) (hwait : s.seqState t p ≠ Seq.gateWait)
    (hsettle : s.seqState t p ≠ Seq.gateSettle) : (s.each l fun u q => u.startQuad t q).seqState t p = s.seqState t p := by
  refine State.each_keeps_mem (P := fun u => u.seqState t p = s.seqState t p) (fun u q hq hu => ?_) rfl
  refine (State.startQuad_seqState hp (fun h => hpl (h ▸ hq)) ?_ ?_).trans hu
  · rwa [hu]
  · rwa [hu]
end

section
variable {s : State} {t : Nat} {qm : BitVec 4}

/-- The quads of a mask that a power-up starts. -/
def State.startable (s : State) (t : Nat) (qm : BitVec 4) : List Nat :=
  (onesOf 4 qm.toNat).filter fun q => !s.refusesUp t q && s.seqState t q == Seq.off

theorem State.startable_lt : ∀ q ∈ s.startable t qm, q < 4 := fun _ h => lt_of_mem_onesOf (List.mem_of_mem_filter h)

/-- The state with those started. -/
def State.started (s : State) (t : Nat) (qm : BitVec 4) : State := s.each (s.startable t qm) fun u q => u.startQuad t q

theorem State.refusesUp_off {q : Nat} (h : s.seqState t q = Seq.off) (hmode : s.mode = .onAir ∨ s.mode = .quiet) : s.refusesUp t q = false := by
  rw [State.refusesUp, h]
  rcases hmode with hmode | hmode <;> rw [hmode] <;> rfl

/-- A quad that refuses a power-up neither waits for gate bias nor settles (Table 8-2). -/
theorem State.refusesUp_resting {q : Nat} (h : s.refusesUp t q = true) : s.seqState t q ≠ Seq.gateWait ∧ s.seqState t q ≠ Seq.gateSettle := by
  constructor <;> intro hstate <;> rw [State.refusesUp, hstate] at h <;> cases h

theorem State.powerUp_accepted (h : ∀ q ∈ onesOf 4 qm.toNat, s.refusesUp t q = false) : s.powerUp t qm = s.started t qm := by
  have hnone : (onesOf 4 qm.toNat).any (fun q => s.refusesUp t q) = false := by
    rw [List.any_eq_false]
    exact fun q hq => by rw [h q hq]; decide
  unfold State.powerUp
  dsimp only
  rw [hnone]
  rfl

theorem State.powerUp_refused {q : Nat} (hq : q ∈ onesOf 4 qm.toNat) (h : s.refusesUp t q = true) :
    s.powerUp t qm = (s.started t qm).seqRefused t (Ev.SEQ_REQ_REFUSED t) :=
  if_pos (List.any_eq_true.2 ⟨q, hq, h⟩)
end

theorem seqCount_place (t : Fin 4) : SEQ_REFUSED_COUNT t ∉ gateRegs t ∧ eventReg (SEQ_REFUSED_COUNT t) = false ∧
    SEQ_REFUSED_COUNT t ≠ SEQ_CNT_FLAGS t ∧ hasLevel (Ev.SEQ_REQ_REFUSED t) = false ∧ (Ev.SEQ_REQ_REFUSED t - 96) / 40 = t ∧
    ∀ j < 8, SEQ_REFUSED_COUNT t ≠ HIVE_STATUS j ∧ SEQ_CNT_FLAGS t ≠ HIVE_STATUS j := by
  revert t
  decide

/-- A refused request is counted once and told of. -/
theorem State.seqRefused_counted {s u : State} {t : Fin 4} (h : Keeps (gateRegs t) s u) : let v := u.seqRefused t (Ev.SEQ_REQ_REFUSED t)
    v.fld (SEQ_REFUSED_COUNT t) SEQ_REFUSED_COUNT_COUNT = min (s.fld (SEQ_REFUSED_COUNT t) SEQ_REFUSED_COUNT_COUNT + 1) (2 ^ 32 - 1) ∧
    Told s v (Ev.SEQ_REQ_REFUSED t) ∧ SameMemory s v := by
  obtain ⟨hplace, hevent, hne, hlevel, htile, hstatus⟩ := seqCount_place t
  obtain ⟨hdom, hlink⟩ := h.tilePower
  have hframe := ((Frame.refl (SEQ_REFUSED_COUNT t :: SEQ_CNT_FLAGS t :: gateRegs t) u).raise (Ev.SEQ_REQ_REFUSED t)).bump _ _ 0 1
    (List.mem_cons_self ..) (List.mem_cons_of_mem _ (List.mem_cons_self ..))
  have hkeeps := (h.mono fun _ ha => List.mem_cons_of_mem _ (List.mem_cons_of_mem _ ha)).trans hframe.keeps
  obtain ⟨hreg, -⟩ := h
  intro v
  refine ⟨?_, .of_stored hlevel fun hmay => ?_, ?_⟩
  · refine (State.fld_bump _ _ _ _ _ hevent hne).trans ?_
    rw [State.fld_raise _ _ _ _ hevent, State.fld, hreg _ hplace hevent]
    rfl
  · have hlt : Ev.SEQ_REQ_REFUSED t < 256 := by simp only [Ev.SEQ_REQ_REFUSED]; omega
    obtain ⟨hcount, hflags⟩ := hstatus (Ev.SEQ_REQ_REFUSED t / 32) (by omega)
    exact State.stored_bump_keep _ _ _ hlt hcount hflags
      (State.stored_raise_of_mayAssert hlevel ((State.mayAssert_congr htile hdom hlink).trans hmay))
  · exact hkeeps.memory

section
variable {s : State} {t : Fin 4} {qm : BitVec 4}

/-- Quads in OFF start, in On-air and Quiet. -/
theorem powerUp_starts (hans : s.answers (SEQ_CMD t) = true) (hmode : s.mode = .onAir ∨ s.mode = .quiet)
    (hoff : ∀ q : Fin 4, qm.getLsbD q = true → s.seqState t q = Seq.off) : Answers (.seqPowerUp t qm) s fun u => SameMemory s u ∧
      ∀ q : Fin 4, qm.getLsbD q = true → (u.seqState t q = Seq.gateWait ∨ u.seqState t q = Seq.gateSettle) ∧
        ∀ i : Fin 16, (s.gateMask t q).testBit i = true → u.biasState t i ≠ BiasSt.hiz := by
  have hall : ∀ q ∈ onesOf 4 qm.toNat, s.seqState t q = Seq.off ∧ s.refusesUp t q = false := fun q hq =>
    have hq' := hoff ⟨q, lt_of_mem_onesOf hq⟩ ((mem_onesOf_toNat qm q).1 hq)
    ⟨hq', State.refusesUp_off hq' hmode⟩
  have hkeeps : Keeps (gateRegs t) s (s.started t qm) := State.startQuads_keeps State.startable_lt
  refine .of_guarded_unsettled (exec_seqPowerUp ..) hans (fun _ _ _ => rfl) ?_
  rw [State.powerUp_accepted fun q hq => (hall q hq).2]
  refine ⟨hkeeps.memory, fun q hq => ?_⟩
  have hmem : (q : Nat) ∈ s.startable t qm := by
    have hq' := (mem_onesOf_toNat qm q).2 hq
    obtain ⟨hstate, hrefuses⟩ := hall q hq'
    exact List.mem_filter.2 ⟨hq', by rw [hstate, hrefuses]; rfl⟩
  have hstarting : (s.started t qm).Starting t q := State.startQuads_starting State.startable_lt hmem
  obtain ⟨hstate, hbias⟩ := hstarting
  refine ⟨hstate, fun i hi => hbias i ?_⟩
  rw [hkeeps.gateMask q.2]
  exact mem_onesOf.2 ⟨i.2, hi⟩

/-- A request that some quad refuses is counted once, and leaves that quad as it is. -/
theorem powerUp_refused (hans : s.answers (SEQ_CMD t) = true) (h : ∃ q : Fin 4, qm.getLsbD q = true ∧ s.refusesUp t q = true) :
    Answers (.seqPowerUp t qm) s fun u =>
      u.fld (SEQ_REFUSED_COUNT t) SEQ_REFUSED_COUNT_COUNT = min (s.fld (SEQ_REFUSED_COUNT t) SEQ_REFUSED_COUNT_COUNT + 1) (2 ^ 32 - 1) ∧
      Told s u (Ev.SEQ_REQ_REFUSED t) ∧ SameMemory s u ∧
      ∀ q : Fin 4, qm.getLsbD q = true → s.refusesUp t q = true → u.seqState t q = s.seqState t q := by
  obtain ⟨q₀, hq₀, hrefuses₀⟩ := h
  have hkeeps : Keeps (gateRegs t) s (s.started t qm) := State.startQuads_keeps State.startable_lt
  refine .of_guarded_unsettled (exec_seqPowerUp ..) hans (fun _ _ _ => rfl) ?_
  rw [State.powerUp_refused ((mem_onesOf_toNat qm q₀).2 hq₀) hrefuses₀]
  obtain ⟨hcount, htold, hmemory⟩ := State.seqRefused_counted hkeeps
  refine ⟨hcount, htold, hmemory, fun q _ hrefuses => ?_⟩
  have hbump := ((Frame.refl [SEQ_REFUSED_COUNT t, SEQ_CNT_FLAGS t] (s.started t qm)).raise (Ev.SEQ_REQ_REFUSED t)).bump _ _ 0 1
    (List.mem_cons_self ..) (List.mem_cons_of_mem _ (List.mem_cons_self ..))
  have hapart : SEQ_STAT t q ∉ [SEQ_REFUSED_COUNT t, SEQ_CNT_FLAGS t] := by
    simp only [List.mem_cons, List.not_mem_nil, or_false, SEQ_STAT, SEQ_REFUSED_COUNT, SEQ_CNT_FLAGS]
    omega
  have hout : (q : Nat) ∉ s.startable t qm := fun hin => by
    obtain ⟨-, hin⟩ := List.mem_filter.1 hin
    rw [hrefuses] at hin
    cases hin
  obtain ⟨hwait, hsettle⟩ := State.refusesUp_resting hrefuses
  exact (State.seqState_congr (hbump.keeps.tileReg hapart (by simp only [SEQ_STAT]; omega))).trans (State.startQuads_seqState q.2 hout hwait hsettle)
end

/-! ### A shutdown request on one quad (Table 8-2, R218) -/

section
variable (s : State) (t q : Nat)

/-- A request that follows a cause already seen is held for FAULT. -/
def State.holdSeen : State := if (s.quad (quadKey t q)).seen.isSome then s.modQuad (quadKey t q) fun k => { k with heldReq := true } else s

theorem State.holdSeen_reg (a : Nat) : (s.holdSeen t q).reg a = s.reg a := by
  unfold State.holdSeen
  split <;> rfl

theorem State.holdSeen_seqState (p : Nat) : (s.holdSeen t q).seqState t p = s.seqState t p := State.seqState_congr (s.holdSeen_reg ..)

variable {s t q}

/-- A request finds the quad in its state (Table 8-2). -/
theorem State.shutQuad_early (h : s.seqState t q = Seq.gateWait ∨ s.seqState t q = Seq.gateSettle) :
    s.shutQuad t q = (s.holdSeen t q).enterSdDrain t q 0 := by
  rw [State.shutQuad, ← State.holdSeen, State.holdSeen_seqState]
  rcases h with h | h <;> rw [h] <;> rfl

theorem State.shutQuad_driving (h : s.seqState t q = Seq.drainSettle ∨ s.seqState t q = Seq.ready) : s.shutQuad t q =
    ((s.holdSeen t q).enterSdPa t q).modQuad (quadKey t q) fun k => { k with leftAt := some (s.holdSeen t q).now } := by
  rw [State.shutQuad, ← State.holdSeen, State.holdSeen_seqState]
  rcases h with h | h <;> rw [h] <;> rfl

theorem State.shutQuad_fault (h : s.seqState t q = Seq.fault) : s.shutQuad t q =
    if (s.quad (quadKey t q)).ends.isSome then (s.holdSeen t q).modQuad (quadKey t q) fun k => { k with heldReq := true }
    else (s.holdSeen t q).enterOff t q := by
  rw [State.shutQuad, ← State.holdSeen, State.holdSeen_seqState, h]
  rfl

theorem State.shutQuad_down (h : s.seqState t q ≠ Seq.gateWait ∧ s.seqState t q ≠ Seq.gateSettle ∧ s.seqState t q ≠ Seq.drainSettle ∧
    s.seqState t q ≠ Seq.ready ∧ s.seqState t q ≠ Seq.fault) : s.shutQuad t q = s.holdSeen t q := by
  obtain ⟨h1, h2, h3, h4, h7⟩ := h
  rw [State.shutQuad, ← State.holdSeen, State.holdSeen_seqState]
  split
  · contradiction
  · contradiction
  · contradiction
  · contradiction
  · contradiction
  · rfl


/-- What the state goes to by a shutdown request; a quad in FAULT waits for the end of its delay. -/
def Seq.shutTo (st : Nat) (waits : Bool) : Nat :=
  match st with
  | 1 | 2 => Seq.sdDrain
  | 3 | 4 => Seq.sdPa
  | 7 => if waits then Seq.fault else Seq.off
  | k => k

theorem State.enterOff_seqState (s : State) (t q : Nat) : (s.enterOff t q).seqState t q = Seq.off := by
  refine (State.fld_raise _ _ _ _ (eventReg_of_tile (by simp only [SEQ_STAT]; omega))).trans ?_
  exact (State.seqState_clearRec ..).trans ((s.seqState_setSeqState t q q (by decide)).trans (if_pos rfl))

theorem State.enterOff_rec (s : State) (t q : Nat) : (s.enterOff t q).fld (SEQ_STAT t q) SEQ_STAT_PAEN_REC = 0 :=
  (State.fld_raise _ _ _ _ (eventReg_of_tile (by simp only [SEQ_STAT]; omega))).trans (State.fld_setFld _ _ SEQ_STAT_PAEN_REC _ (by decide))

theorem State.enterSdPa_seqState (s : State) (t q : Nat) : (s.enterSdPa t q).seqState t q = Seq.sdPa := by
  refine (State.judgePins_field _ t (·.seqState t q) fun _ _ => rfl).trans ?_
  exact (State.seqState_clearRec ..).trans ((s.seqState_setSeqState t q q (by decide)).trans (if_pos rfl))

theorem State.enterSdDrain_seqState (s : State) (t q delay : Nat) : (s.enterSdDrain t q delay).seqState t q = Seq.sdDrain :=
  (s.seqState_setSeqState t q q (by decide)).trans (if_pos rfl)

theorem State.shutQuad_seqState (s : State) (t q : Nat) :
    (s.shutQuad t q).seqState t q = Seq.shutTo (s.seqState t q) (s.quad (quadKey t q)).ends.isSome := by
  unfold Seq.shutTo
  split
  · next h => rw [State.shutQuad_early (.inl h), State.enterSdDrain_seqState]
  · next h => rw [State.shutQuad_early (.inr h), State.enterSdDrain_seqState]
  · next h =>
    rw [State.shutQuad_driving (.inl h)]
    exact State.enterSdPa_seqState ..
  · next h =>
    rw [State.shutQuad_driving (.inr h)]
    exact State.enterSdPa_seqState ..
  · next h =>
    rw [State.shutQuad_fault h]
    split
    · exact (s.holdSeen_seqState t q q).trans h
    · exact State.enterOff_seqState ..
  · next h1 h2 h3 h4 h7 =>
    rw [State.shutQuad_down ⟨h1, h2, h3, h4, h7⟩, State.holdSeen_seqState]

/-- A request that finds the quad in FAULT, its delay not yet over, is held. -/
theorem State.shutQuad_held {s : State} {t q : Nat} (h : s.seqState t q = Seq.fault) (hends : (s.quad (quadKey t q)).ends.isSome = true) :
    ((s.shutQuad t q).quad (quadKey t q)).heldReq = true := by
  rw [State.shutQuad_fault h, if_pos hends, State.quad_modQuad, if_pos rfl]

/-- After it the quad is OFF, its recorded outputs cleared. -/
theorem State.shutQuad_cleared {s : State} {t q : Nat} (h : s.seqState t q = Seq.fault) (hends : (s.quad (quadKey t q)).ends.isSome = false) :
    (s.shutQuad t q).fld (SEQ_STAT t q) SEQ_STAT_PAEN_REC = 0 := by
  rw [State.shutQuad_fault h, hends]
  exact State.enterOff_rec ..

/-- A request on one quad changes its status, what its sequencer holds, the pins, and tells of an event. -/
theorem State.shutQuad_of {P : State → Prop} {s : State} {t q : Nat} (hreg : ∀ u w, P u → P (u.setReg (SEQ_STAT t q) w))
    (hquad : ∀ u f, P u → P (u.modQuad (quadKey t q) f)) (hraise : ∀ u e, P u → P (u.raise e)) (hpins : ∀ u, P u → P (u.judgePins t)) (h : P s) :
    P (s.shutQuad t q) := by
  have hheld : P (s.holdSeen t q) := by
    unfold State.holdSeen
    split
    · exact hquad _ _ h
    · exact h
  have hoff : P ((s.holdSeen t q).enterOff t q) := hraise _ _ (hquad _ _ (hreg _ _ (hreg _ _ hheld)))
  have hpa : P ((s.holdSeen t q).enterSdPa t q) := hpins _ (hquad _ _ (hreg _ _ (hreg _ _ hheld)))
  have hdrain : P ((s.holdSeen t q).enterSdDrain t q 0) :=
    hquad ((s.holdSeen t q).setSeqState t q Seq.sdDrain) (fun k => { k with ends := some (delayEnd (s.holdSeen t q).now 0) }) (hreg _ _ hheld)
  rw [State.shutQuad, ← State.holdSeen]
  split
  · exact hdrain
  · exact hdrain
  · exact hquad _ _ hpa
  · exact hquad _ _ hpa
  · split
    · exact hquad _ _ hheld
    · exact hoff
  · exact hheld

theorem State.shutQuad_keeps {s : State} {t q : Nat} (hq : q < 4) : Keeps (gateRegs t) s (s.shutQuad t q) :=
  State.shutQuad_of (fun _ _ h => h.setReg _ _ (seqStat_mem_gateRegs hq)) (fun _ _ => id) (fun _ e h => h.event e) (fun _ h => h.judgePins t) (.refl ..)

theorem State.shutQuad_view_ne {s : State} {t q p : Nat} (h : p ≠ q) : (s.shutQuad t q).quadView t p = s.quadView t p :=
  State.shutQuad_of (P := fun u => u.quadView t p = s.quadView t p) (fun _ w hu => (State.quadView_setReg_ne h w).trans hu)
    (fun _ f hu => (State.quadView_modQuad_ne h f).trans hu) (fun _ e hu => (State.quadView_raise e).trans hu)
    (fun _ hu => State.quadView_judgePins.trans hu) rfl
end

/-! ### Requests on the quads of a mask -/

section
variable {s : State} {t : Fin 4} {qm : BitVec 4}

/-- A shutdown moves each quad of the mask as its state says. -/
theorem shutdown_moves (hans : s.answers (SEQ_CMD t) = true) : Answers (.seqShutdown t qm) s fun u => SameMemory s u ∧ ∀ q : Fin 4,
    u.seqState t q = (if qm.getLsbD q then Seq.shutTo (s.seqState t q) (s.quad (quadKey t q)).ends.isSome else s.seqState t q) ∧
    (qm.getLsbD q = true → s.seqState t q = Seq.fault → (s.quad (quadKey t q)).ends.isSome = true → (u.quad (quadKey t q)).heldReq = true) := by
  refine .of_guarded_unsettled (exec_seqShutdown ..) hans (fun _ _ _ => rfl) ⟨?_, fun q => ?_⟩
  · exact (State.each_keeps_mem (P := Keeps (gateRegs t) s) (fun _ _ hq h => h.trans (State.shutQuad_keeps (lt_of_mem_onesOf hq))) (.refl ..)).memory
  · obtain ⟨u, hu, hview⟩ := State.eachQuad_visit (s := s) (t := t) (q := q) (f := fun u p => u.shutQuad t p)
      (fun _ _ hp => State.shutQuad_view_ne hp.symm) qm
    change (s.shutdown t qm).quadView t q = _ at hview
    have hstate := State.seqState_of_view hu
    have hquad := State.quad_of_view hu
    rw [State.seqState_of_view hview, State.quad_of_view hview, ← hstate, ← hquad]
    by_cases hq : qm.getLsbD q = true
    · rw [if_pos hq, if_pos hq]
      exact ⟨State.shutQuad_seqState .., fun _ => State.shutQuad_held⟩
    · rw [if_neg hq, if_neg hq]
      exact ⟨rfl, fun h => absurd h hq⟩

/-- The clearing of a fault on one quad (R215): a shutdown in FAULT, a request held where a cause has been seen. -/
def State.clearQuad (s : State) (t q : Nat) : State :=
  if s.seqState t q = Seq.fault then s.shutQuad t q else s.holdSeen t q

theorem State.clearFault_eq (s : State) (t : Nat) : s.clearFault t qm = s.each (onesOf 4 qm.toNat) fun u q => u.clearQuad t q := rfl

theorem State.holdSeen_view_ne {s : State} {t q p : Nat} (h : p ≠ q) : (s.holdSeen t q).quadView t p = s.quadView t p := by
  unfold State.holdSeen
  split
  · exact State.quadView_modQuad_ne h _
  · rfl

theorem State.clearQuad_view_ne {s : State} {t q p : Nat} (h : p ≠ q) : (s.clearQuad t q).quadView t p = s.quadView t p := by
  unfold State.clearQuad
  split
  · exact State.shutQuad_view_ne h
  · exact State.holdSeen_view_ne h

theorem State.clearQuad_keeps {s : State} {t q : Nat} (hq : q < 4) : Keeps (gateRegs t) s (s.clearQuad t q) := by
  unfold State.clearQuad
  split
  · exact State.shutQuad_keeps hq
  · unfold State.holdSeen
    split
    · exact (Keeps.refl _ s).modQuad _ _
    · exact .refl ..

/-- OP 3 on a quad in FAULT. -/
theorem State.clearQuad_fault {s : State} {t q : Nat} (h : s.seqState t q = Seq.fault) :
    if (s.quad (quadKey t q)).ends.isSome then (s.clearQuad t q).seqState t q = Seq.fault ∧ ((s.clearQuad t q).quad (quadKey t q)).heldReq = true
    else (s.clearQuad t q).seqState t q = Seq.off ∧ (s.clearQuad t q).fld (SEQ_STAT t q) SEQ_STAT_PAEN_REC = 0 := by
  rw [State.clearQuad, if_pos h, State.shutQuad_seqState, h]
  split
  · next hends =>
    rw [hends]
    exact ⟨rfl, State.shutQuad_held h hends⟩
  · next hends =>
    rw [Bool.eq_false_iff.2 hends]
    exact ⟨rfl, State.shutQuad_cleared h (Bool.eq_false_iff.2 hends)⟩

/-- OP 3 on another quad. -/
theorem State.clearQuad_other {s : State} {t q : Nat} (h : s.seqState t q ≠ Seq.fault) : (s.clearQuad t q).seqState t q = s.seqState t q ∧
    ((s.quad (quadKey t q)).seen.isSome = true → ((s.clearQuad t q).quad (quadKey t q)).heldReq = true) := by
  rw [State.clearQuad, if_neg h]
  refine ⟨s.holdSeen_seqState .., fun hseen => ?_⟩
  rw [State.holdSeen, if_pos hseen, State.quad_modQuad, if_pos rfl]

theorem clearFault_clears (hans : s.answers (SEQ_CMD t) = true) : Answers (.seqClearFault t qm) s fun u => SameMemory s u ∧ ∀ q : Fin 4,
    (qm.getLsbD q = true → s.seqState t q = Seq.fault →
      if (s.quad (quadKey t q)).ends.isSome then u.seqState t q = Seq.fault ∧ (u.quad (quadKey t q)).heldReq = true
      else u.seqState t q = Seq.off ∧ u.fld (SEQ_STAT t q) SEQ_STAT_PAEN_REC = 0) ∧
    (qm.getLsbD q = true → s.seqState t q ≠ Seq.fault →
      u.seqState t q = s.seqState t q ∧ ((s.quad (quadKey t q)).seen.isSome = true → (u.quad (quadKey t q)).heldReq = true)) ∧
    (qm.getLsbD q = false → u.seqState t q = s.seqState t q ∧ u.quad (quadKey t q) = s.quad (quadKey t q)) := by
  refine .of_guarded_unsettled (exec_seqClearFault ..) hans (fun _ _ _ => rfl) ⟨?_, fun q => ?_⟩
  · exact (State.each_keeps_mem (P := Keeps (gateRegs t) s) (fun _ _ hq h => h.trans (State.clearQuad_keeps (lt_of_mem_onesOf hq))) (.refl ..)).memory
  · obtain ⟨u, hu, hview⟩ := State.eachQuad_visit (s := s) (t := t) (q := q) (f := fun u p => u.clearQuad t p)
      (fun _ _ hp => State.clearQuad_view_ne hp.symm) qm
    rw [← State.clearFault_eq] at hview
    have hstate := State.seqState_of_view hu
    have hquad := State.quad_of_view hu
    rw [State.seqState_of_view hview, State.quad_of_view hview, State.statFld_of_view hview, ← hstate, ← hquad]
    by_cases hq : qm.getLsbD q = true
    · rw [if_pos hq]
      exact ⟨fun _ => State.clearQuad_fault, fun _ => State.clearQuad_other, fun h => absurd hq (Bool.eq_false_iff.1 h)⟩
    · rw [if_neg hq]
      exact ⟨fun h => absurd h hq, fun h => absurd h hq, fun _ => ⟨rfl, rfl⟩⟩
end

/-- Settles O24: a power-up by whether some quad refuses it, a shutdown and a clearing of faults by what the loop finds at each quad. -/
theorem sequencerRequests : Obligations.SequencerRequests := by
  intro s t qm hans
  exact ⟨powerUp_starts hans, powerUp_refused hans, shutdown_moves hans, clearFault_clears hans⟩

end Sys2Proof.Machine
end

section
/-!
PROOFS. The steps of the sequencers (R213, R214, R218, R219, Table 8-1): GATEOK as the device sees it, the ends of delays, the entry to FAULT.
-/
namespace Sys2Proof.Machine
open Reg F

theorem exec_gateokChange (t q : Fin 4) (level : Bool) (ago : Fin 33) (brief : Bool) (s : State) :
    exec (.gateokChange t q level ago brief) s = done (s.gateOk t q level ago brief) := rfl
theorem exec_seqGateSettleEnd (t q : Fin 4) (s : State) : exec (.seqGateSettleEnd t q) s = done (s.gateSettleEnd t q) := rfl
theorem exec_seqDrainSettleEnd (t q : Fin 4) (s : State) : exec (.seqDrainSettleEnd t q) s = done (s.drainSettleEnd t q) := rfl
theorem exec_seqPaoffEnd (t q : Fin 4) (s : State) : exec (.seqPaoffEnd t q) s = done (s.paoffEnd t q) := rfl
theorem exec_seqDrainoffEnd (t q : Fin 4) (s : State) : exec (.seqDrainoffEnd t q) s = done (s.drainoffEnd t q) := rfl
theorem exec_seqGokTimeout (t q : Fin 4) (s : State) : exec (.seqGokTimeout t q) s = done (s.gokTimeout t q) := rfl
theorem exec_seqFaultEntry (t q : Fin 4) (s : State) : exec (.seqFaultEntry t q) s = done (s.faultEntry t q) := rfl

/-! ### GATEOK (R213) -/

section
variable {s : State} {t q ago : Nat} {level brief : Bool}

/-- The state 32 Tc after the pin changed. -/
def State.gateSeen (s : State) (t q : Nat) (level : Bool) (ago : Nat) : State :=
  { s.advance (s.now + 32 - ago) with
    gatePins := if level then s.gatePins ||| BitVec.ofNat 16 (2 ^ quadKey t q) else s.gatePins &&& ~~~ BitVec.ofNat 16 (2 ^ quadKey t q) }

theorem State.gateSeen_reg (a : Nat) : (s.gateSeen t q level ago).reg a = s.reg a := s.advance_reg _ a

theorem State.gateOk_brief (hbrief : brief = true) (hlevel : level = false) : s.gateOk t q level ago brief = s := by
  rw [hbrief, hlevel]
  rfl

/-- A level that lasts is seen; it is judged where it changes what the tile's domain, ON, has seen. -/
theorem State.gateOk_seen (h : brief = false ∨ level = true) : s.gateOk t q level ago brief =
    if s.domOn (10 + t) = true ∧ s.bit (SEQ_STAT t q) SEQ_STAT_GATEOK ≠ level then
      ((s.gateSeen t q level ago).setBit (SEQ_STAT t q) SEQ_STAT_GATEOK level).judgeQuad t q
    else s.gateSeen t q level ago := by
  have hlasts : ¬ ((brief && !level) = true) := by rcases h with h | h <;> simp [h]
  have hpins : (s.advance (s.now + 32 - ago)).gatePins = s.gatePins := s.advance_field _ (·.gatePins) fun _ _ _ => rfl
  have hdom : (s.gateSeen t q level ago).domOn (10 + t) = s.domOn (10 + t) := by rw [State.domOn, State.fld, State.gateSeen_reg]; rfl
  have hbit : (s.gateSeen t q level ago).bit (SEQ_STAT t q) SEQ_STAT_GATEOK = s.bit (SEQ_STAT t q) SEQ_STAT_GATEOK := by
    rw [State.bit, State.gateSeen_reg]; rfl
  unfold State.gateOk
  rw [if_neg hlasts]
  dsimp only
  rw [hpins, ← State.gateSeen, hdom, hbit]
  by_cases hon : s.domOn (10 + t) = true <;> by_cases hsame : s.bit (SEQ_STAT t q) SEQ_STAT_GATEOK = level <;> simp [hon, hsame]
end

/-! ### Delays that end (R214) -/

section
variable {s : State} {t q e st : Nat} {f : State → State}

theorem State.atSeq_at (hends : (s.quad (quadKey t q)).ends = some e) (hst : s.seqState t q = st) : s.atSeq t q st f = f (s.advance e) := by
  unfold State.atSeq
  rw [hends]
  exact if_pos hst

theorem State.atSeq_other (hst : s.seqState t q ≠ st) : s.atSeq t q st f = s := by
  unfold State.atSeq
  split
  · exact if_neg hst
  · rfl

theorem State.atSeq_idle (hends : (s.quad (quadKey t q)).ends = none) : s.atSeq t q st f = s := by
  unfold State.atSeq
  rw [hends]

theorem State.gateSettleEnd_at (hends : (s.quad (quadKey t q)).ends = some e) (hst : s.seqState t q = Seq.gateSettle) : s.gateSettleEnd t q =
    ((s.advance e).setSeqState t q Seq.drainSettle).setEnds t q
      (some (delayEnd (s.advance e).now (s.fld (SEQ_DLY_A t q) SEQ_DLY_A_T_DRAIN))) := by
  rw [State.gateSettleEnd, State.atSeq_at hends hst, State.advance_fld]

theorem State.drainSettleEnd_at (hends : (s.quad (quadKey t q)).ends = some e) (hst : s.seqState t q = Seq.drainSettle)
    (hseen : (s.quad (quadKey t q)).seen = none) :
    s.drainSettleEnd t q = (((s.advance e).setSeqState t q Seq.ready).setEnds t q none).raise (Ev.SEQ_READY t) := by
  have hdue : ¬ s.faultDue t q = true := by rw [State.faultDue, hseen]; decide
  rw [State.drainSettleEnd, if_neg hdue, State.atSeq_at hends hst]

/-- While the entry to FAULT is due DRAIN_SETTLE does not end (log entry 12). -/
theorem State.drainSettleEnd_due (hseen : (s.quad (quadKey t q)).seen ≠ none) : s.drainSettleEnd t q = s :=
  if_pos (Option.isSome_iff_ne_none.2 hseen)

theorem State.paoffEnd_at (hends : (s.quad (quadKey t q)).ends = some e) (hst : s.seqState t q = Seq.sdPa) : s.paoffEnd t q =
    ((s.advance e).setSeqState t q Seq.sdDrain).setEnds t q
      (some (delayEnd (s.advance e).now (s.fld (SEQ_DLY_B t q) SEQ_DLY_B_T_DRAINOFF))) := by
  rw [State.paoffEnd, State.atSeq_at hends hst, State.advance_fld, State.enterSdDrain]

theorem State.gokTimeout_at (hends : (s.quad (quadKey t q)).ends = some e) (hst : s.seqState t q = Seq.gateWait) :
    s.gokTimeout t q = ((s.advance e).seeCause t q 1).setEnds t q none := by
  rw [State.gokTimeout, State.atSeq_at hends hst]
end

/-! ### The gate outputs when T_DRAINOFF ends (R219) -/

/-- One gate output: with GATE_KEEP its safe code where it drives, else disabled. -/
def State.restGate (s : State) (t q i : Nat) : State :=
  if s.bit (SEQ_CFG t q) SEQ_CFG_GATE_KEEP then
    if s.biasState t i = BiasSt.drive then
      (s.setCode t i (s.fld (BIASOUT_SAFE t i) BIASOUT_SAFE_CODE)).modBias (biasKey t i) fun b => { b with queue := [] }
    else s
  else s.disableBias t i

/-- Those of a quad. -/
def State.restGates (s : State) (t q : Nat) : State := s.each (onesOf 16 (s.gateMask t q)) fun u i => u.restGate t q i

theorem State.handleGates_eq (s : State) (t q : Nat) : s.handleGates t q = (s.restGates t q).judgeQuads t := rfl

section
variable (s : State) (t q : Nat) {i j p : Nat}

theorem State.setCode_keeps (i v : Nat) : Keeps [BIASOUT_STAT t i] s (s.setCode t i v) := by
  unfold State.setCode
  dsimp only
  split
  · exact (Keeps.refl _ s).setFld _ _ _ (by simp)
  · exact ((Keeps.refl _ s).setFld _ _ _ (by simp)).modBias _ _

theorem State.setCode_reg (i v a : Nat) : (s.setCode t i v).reg a = (s.setFld (BIASOUT_STAT t i) BIASOUT_STAT_PIN_CODE v).reg a := by
  unfold State.setCode
  dsimp only
  split <;> rfl

/-- A code leaves the state of its output. -/
theorem State.setCode_biasState (i v : Nat) : (s.setCode t i v).biasState t i = s.biasState t i :=
  (congrArg (getF · BIASOUT_STAT_STATE) (s.setCode_reg t i v _)).trans (s.fld_setFld_apart _ _ _ _ (by decide) (by decide))

theorem State.restGate_keeps : Keeps [BIASOUT_CFG t i, BIASOUT_STAT t i] s (s.restGate t q i) := by
  unfold State.restGate
  split
  · split
    · exact ((s.setCode_keeps t i _).mono (by simp)).modBias _ _
    · exact .refl ..
  · exact s.disableBias_keeps t i

theorem State.restGate_biasState : (s.restGate t q i).biasState t i =
    if s.bit (SEQ_CFG t q) SEQ_CFG_GATE_KEEP then s.biasState t i else BiasSt.hiz := by
  unfold State.restGate
  split
  · split
    · exact s.setCode_biasState t i _
    · rfl
  · exact s.disableBias_hiz t i

theorem State.restGates_keeps : Keeps (biasRegs t) s (s.restGates t q) :=
  State.each_keeps_mem (P := Keeps (biasRegs t) s)
    (fun u _ hj h => h.trans ((u.restGate_keeps t q).mono fun _ => biasRegs_of_output (lt_of_mem_onesOf hj))) (.refl ..)

variable {s t q}

/-- The outputs of the mask keep their state with GATE_KEEP, else are disabled. -/
theorem State.restGates_biasState (hq : q < 4) (hi : i ∈ onesOf 16 (s.gateMask t q)) : (s.restGates t q).biasState t i =
    if s.bit (SEQ_CFG t q) SEQ_CFG_GATE_KEEP then s.biasState t i else BiasSt.hiz := by
  have hcfg : ∀ (u : State) j, (u.restGate t q j).bit (SEQ_CFG t q) SEQ_CFG_GATE_KEEP = u.bit (SEQ_CFG t q) SEQ_CFG_GATE_KEEP := fun u j => by
    refine congrArg (bitF · SEQ_CFG_GATE_KEEP) ((u.restGate_keeps t q (i := j)).tileReg ?_ (by simp only [SEQ_CFG]; omega))
    simp only [List.mem_cons, List.not_mem_nil, or_false, SEQ_CFG, BIASOUT_CFG, BIASOUT_STAT]
    omega
  refine (State.each_reading (r := (·.biasState t i))
    (I := fun u => u.bit (SEQ_CFG t q) SEQ_CFG_GATE_KEEP = s.bit (SEQ_CFG t q) SEQ_CFG_GATE_KEEP)
    (g := fun x => if s.bit (SEQ_CFG t q) SEQ_CFG_GATE_KEEP then x else BiasSt.hiz) (p := (· = i)) (fun x => ?_)
    (fun u j hu => (hcfg u j).trans hu) (fun u j hj hu => ?_) rfl).trans (if_pos ⟨i, hi, rfl⟩)
  · split <;> rfl
  · split
    · next hji =>
      subst hji
      rw [State.restGate_biasState, hu]
    · next hji =>
      exact State.biasState_congr ((u.restGate_keeps t q).tileReg (biasStat_apart (lt_of_mem_onesOf hj) (Ne.symm hji))
        (by simp only [BIASOUT_STAT]; omega))

theorem State.handleGates_keeps (s : State) (t q : Nat) : Keeps (gateRegs t) s (s.handleGates t q) :=
  ((s.restGates_keeps t q).mono fun _ h => mem_gateRegs.2 (.inr h)).trans (State.judgeQuads_keeps ..)

theorem State.restGates_seqState (hp : p < 4) : (s.restGates t q).seqState t p = s.seqState t p :=
  State.seqState_congr ((s.restGates_keeps t q).tileReg (seqStat_not_biasReg hp) (by simp only [SEQ_STAT]; omega))

/-- A quad that neither waits for gate bias nor settles keeps its state. -/
theorem State.handleGates_seqState (hp : p < 4) (hwait : s.seqState t p ≠ Seq.gateWait) (hsettle : s.seqState t p ≠ Seq.gateSettle) :
    (s.handleGates t q).seqState t p = s.seqState t p := by
  have hrest : (s.restGates t q).seqState t p = s.seqState t p := State.restGates_seqState hp
  rw [State.handleGates_eq]
  exact (State.judgeQuads_seqState hp (hrest ▸ hwait) (hrest ▸ hsettle)).trans hrest

/-- Where no quad of the tile settles, the outputs stay as T_DRAINOFF leaves them. -/
theorem State.handleGates_biasState (hq : q < 4) (h : ∀ p < 4, s.seqState t p ≠ Seq.gateSettle) (hi : i ∈ onesOf 16 (s.gateMask t q)) :
    (s.handleGates t q).biasState t i = if s.bit (SEQ_CFG t q) SEQ_CFG_GATE_KEEP then s.biasState t i else BiasSt.hiz := by
  rw [State.handleGates_eq]
  refine (State.biasState_of_view (State.judgeQuads_biasView fun p hp hsettle => ?_)).trans (State.restGates_biasState hq hi)
  rw [State.restGates_seqState hp] at hsettle
  exact absurd hsettle (h p hp)
end

/-! ### T_DRAINOFF ends, in SD_DRAIN or FAULT (R219) -/

section
variable {s : State} {t q : Nat}

theorem State.enterOff_ends (s : State) (t q : Nat) : ((s.enterOff t q).quad (quadKey t q)).ends = none := by
  rw [State.enterOff, State.quad, State.raise_quadsSt, ← State.quad, State.quad_modQuad, if_pos rfl]

theorem State.drainoffEnd_drain {e : Nat} (hends : (s.quad (quadKey t q)).ends = some e) (hst : s.seqState t q = Seq.sdDrain) :
    s.drainoffEnd t q = ((s.advance e).handleGates t q).enterOff t q := by
  rw [State.drainoffEnd, State.atSeq_at hends hst, State.atSeq_idle (State.enterOff_ends ..)]

theorem State.drainoffEnd_fault {e : Nat} (hends : (s.quad (quadKey t q)).ends = some e) (hst : s.seqState t q = Seq.fault) : s.drainoffEnd t q =
    if (s.quad (quadKey t q)).heldReq then (((s.advance e).handleGates t q).setEnds t q none).enterOff t q
    else ((s.advance e).handleGates t q).setEnds t q none := by
  have hquad : (s.advance e).quad (quadKey t q) = s.quad (quadKey t q) := s.advance_field _ (·.quad (quadKey t q)) fun _ _ _ => rfl
  have hdrain : s.seqState t q ≠ Seq.sdDrain := by rw [hst]; decide
  rw [State.drainoffEnd, State.atSeq_other hdrain, State.atSeq_at hends hst, hquad]
end

theorem seqEvent_place (t : Fin 4) : hasLevel (Ev.SEQ_OFF t) = false ∧ (Ev.SEQ_OFF t - 96) / 40 = t ∧
    (Ev.SEQ_FAULT t - 96) / 40 = t ∧ eventReg (HIVE_SRC_CFG (Ev.SEQ_FAULT t)) = false := by
  revert t
  decide

section
variable {s u : State} {t q : Fin 4} {e : Nat}

/-- A quad that reaches OFF is told of. -/
theorem State.enterOff_told (h : Keeps (gateRegs t) s u) : Told s (u.enterOff t q) (Ev.SEQ_OFF t) := by
  obtain ⟨hlevel, htile, -⟩ := seqEvent_place t
  have hrest : Keeps (gateRegs t) s (((u.setSeqState t q Seq.off).clearRec t q).modQuad (quadKey t q) fun k =>
      { k with ends := none, heldReq := k.heldReq && k.seen.isSome }) :=
    ((h.setFld _ _ _ (seqStat_mem_gateRegs q.2)).setFld _ _ _ (seqStat_mem_gateRegs q.2)).modQuad _ _
  obtain ⟨hdom, hlink⟩ := hrest.tilePower
  exact .raised hlevel htile hdom hlink

theorem State.enterOff_biasState (s : State) (t q : Fin 4) (i : Nat) : (s.enterOff t q).biasState t i = s.biasState t i := by
  refine (State.fld_raise _ _ _ _ (eventReg_of_tile (by simp only [BIASOUT_STAT]; omega))).trans ?_
  have hapart : BIASOUT_STAT t i ≠ SEQ_STAT t q := by simp only [BIASOUT_STAT, SEQ_STAT]; omega
  exact (State.fld_setFld_ne _ _ _ _ hapart).trans (State.fld_setFld_ne _ _ _ _ hapart)

/-- T_DRAINOFF ends in SD_DRAIN. -/
theorem drainoff_drained (hends : (s.quad (quadKey t q)).ends = some e) (hst : s.seqState t q = Seq.sdDrain) :
    Answers (.seqDrainoffEnd t q) s fun u =>
      u.seqState t q = Seq.off ∧ u.fld (SEQ_STAT t q) SEQ_STAT_PAEN_REC = 0 ∧ (u.quad (quadKey t q)).ends = none ∧ Told s u (Ev.SEQ_OFF t) ∧
      ((∀ p : Fin 4, s.seqState t p ≠ Seq.gateSettle) → ∀ i : Fin 16, (s.gateMask t q).testBit i = true →
        u.biasState t i = if s.bit (SEQ_CFG t q) SEQ_CFG_GATE_KEEP then s.biasState t i else BiasSt.hiz) := by
  refine .of_unsettled (exec_seqDrainoffEnd ..) (fun _ _ _ => rfl) ?_
  rw [State.drainoffEnd_drain hends hst]
  refine ⟨State.enterOff_seqState .., State.enterOff_rec .., State.enterOff_ends .., ?_, fun hnone i hi => ?_⟩
  · exact State.enterOff_told (((Keeps.refl _ s).advance e).trans (State.handleGates_keeps ..))
  · have hfld := fun a f => s.advance_fld e a f
    refine (State.enterOff_biasState ..).trans ((State.handleGates_biasState q.2 (fun p hp => ?_) ?_).trans ?_)
    · rw [State.seqState, hfld]
      exact hnone ⟨p, hp⟩
    · rw [State.gateMask, hfld]
      exact mem_onesOf.2 ⟨i.2, hi⟩
    · rw [State.bit, State.advance_reg, State.biasState, hfld]
      rfl

/-- T_DRAINOFF ends in FAULT: a request held leads to OFF. -/
theorem drainoff_fault (hends : (s.quad (quadKey t q)).ends = some e) (hst : s.seqState t q = Seq.fault) :
    Answers (.seqDrainoffEnd t q) s fun u =>
      u.seqState t q = (if (s.quad (quadKey t q)).heldReq then Seq.off else Seq.fault) ∧ (u.quad (quadKey t q)).ends = none := by
  refine .of_unsettled (exec_seqDrainoffEnd ..) (fun _ _ _ => rfl) ?_
  rw [State.drainoffEnd_fault hends hst]
  have hfault : (s.advance e).seqState t q = Seq.fault := (s.advance_fld ..).trans hst
  split
  · exact ⟨State.enterOff_seqState .., State.enterOff_ends ..⟩
  · refine ⟨(State.handleGates_seqState q.2 ?_ ?_).trans hfault, congrArg Quad.ends (State.quad_setEnds ..)⟩ <;> rw [hfault] <;> decide
end

/-! ### The entry to FAULT (R218) -/

/-- The conditions of SEQ_FAULT and BIAS_MISMATCH (Table 21-3): a quad of the tile stands in FAULT, an output of it shows a mismatch. -/
theorem State.levelCond_frontEnd (s : State) (t : Fin 4) :
    s.levelCond (Ev.SEQ_FAULT t) = (s.mayAssert (Ev.SEQ_FAULT t) && quads.any fun q => s.seqState t q == Seq.fault) ∧
    s.levelCond (Ev.BIAS_MISMATCH t) = (s.mayAssert (Ev.BIAS_MISMATCH t) && paths.any fun i => s.bit (BIASOUT_STAT t i) BIASOUT_STAT_MM) := by
  have hhub : ∀ src, 96 ≤ src → ∀ j < 96, src ≠ j := fun src h j hj => by omega
  have hfault : 96 ≤ Ev.SEQ_FAULT t ∧ (Ev.SEQ_FAULT t - 96) % 40 = 28 ∧ (Ev.SEQ_FAULT t - 96) / 40 = t := by
    simp only [Ev.SEQ_FAULT]
    omega
  have hmismatch : 96 ≤ Ev.BIAS_MISMATCH t ∧ (Ev.BIAS_MISMATCH t - 96) % 40 = 31 ∧ (Ev.BIAS_MISMATCH t - 96) / 40 = t := by
    simp only [Ev.BIAS_MISMATCH]
    omega
  constructor
  · obtain ⟨h, hk, htile⟩ := hfault
    unfold State.levelCond
    repeat rw [if_neg (hhub _ h _ ?_)]
    · rw [hk, htile]
      rfl
    all_goals decide
  · obtain ⟨h, hk, htile⟩ := hmismatch
    unfold State.levelCond
    repeat rw [if_neg (hhub _ h _ ?_)]
    · rw [hk, htile]
      rfl
    all_goals decide

/-- A tile's event with a condition is told of where its condition holds. -/
theorem Told.raised_level {s v : State} {src : Nat} (hcfg : eventReg (HIVE_SRC_CFG src) = false) (hmay : v.mayAssert src = s.mayAssert src)
    (hcond : s.mayAssert src = true → (v.raise src).levelCond src = true) : Told s (v.raise src) src := by
  intro h
  have hfollows : (v.raise src).follows src = v.follows src := by rw [State.follows, State.bit_raise _ _ _ _ hcfg, State.follows]
  rw [State.status]
  split
  · exact hcond h
  · next hf =>
    rw [hfollows] at hf
    exact v.stored_raise src (hmay.trans h) (Bool.eq_false_iff.2 hf)

/-- The quad in FAULT with its cause, T_DRAINOFF begun. -/
def State.faulted (s : State) (t q cause : Nat) : State :=
  (((s.setSeqState t q Seq.fault).clearRec t q).setFld (SEQ_STAT t q) SEQ_STAT_CAUSE cause).modQuad (quadKey t q) fun k =>
    { k with seen := none, ends := some (delayEnd s.now (s.fld (SEQ_DLY_B t q) SEQ_DLY_B_T_DRAINOFF)) }

theorem State.faultEntry_at {s : State} {t q cause e : Nat} (h : (s.quad (quadKey t q)).seen = some (cause, e)) :
    s.faultEntry t q = (((s.advance e).faulted t q cause).raise (Ev.SEQ_FAULT t)).judgePins t := by
  unfold State.faultEntry
  rw [h]
  rfl

section
variable (s : State) (t q cause : Nat)

theorem State.faulted_stat : (s.faulted t q cause).seqState t q = Seq.fault ∧
    (s.faulted t q cause).fld (SEQ_STAT t q) SEQ_STAT_CAUSE = cause % 2 ^ 4 ∧ (s.faulted t q cause).fld (SEQ_STAT t q) SEQ_STAT_PAEN_REC = 0 := by
  have hfld : ∀ f, (s.faulted t q cause).fld (SEQ_STAT t q) f =
      (((s.setSeqState t q Seq.fault).clearRec t q).setFld (SEQ_STAT t q) SEQ_STAT_CAUSE cause).fld (SEQ_STAT t q) f := fun f =>
    congrArg (getF · f) (State.modQuad_reg ..)
  rw [State.seqState, hfld, hfld, hfld, State.fld_setFld _ _ _ _ (by decide), State.fld_setFld_apart _ _ _ _ _ (by decide) (by decide),
    State.fld_setFld_apart _ _ _ _ _ (by decide) (by decide)]
  exact ⟨(State.seqState_clearRec ..).trans ((s.seqState_setSeqState t q q (by decide)).trans (if_pos rfl)), rfl,
    State.fld_setFld _ _ SEQ_STAT_PAEN_REC _ (by decide)⟩

theorem State.faulted_quad : (s.faulted t q cause).quad (quadKey t q) = { s.quad (quadKey t q) with
    seen := none, ends := some (delayEnd s.now (s.fld (SEQ_DLY_B t q) SEQ_DLY_B_T_DRAINOFF)) } :=
  (State.quad_modQuad ..).trans (if_pos rfl)

theorem State.faulted_keeps (hq : q < 4) : Keeps (gateRegs t) s (s.faulted t q cause) :=
  ((((Keeps.refl _ s).setFld _ _ _ (seqStat_mem_gateRegs hq)).setFld _ _ _ (seqStat_mem_gateRegs hq)).setFld _ _ _ (seqStat_mem_gateRegs hq)).modQuad _ _
end

theorem State.faulted_told {s v : State} {t q : Fin 4} (h : Keeps (gateRegs t) s v) (hst : v.seqState t q = Seq.fault) :
    Told s (v.raise (Ev.SEQ_FAULT t)) (Ev.SEQ_FAULT t) := by
  obtain ⟨-, -, htile, hcfg⟩ := seqEvent_place t
  obtain ⟨hdom, hlink⟩ := h.tilePower
  have hmay := State.mayAssert_congr htile hdom hlink
  refine .raised_level hcfg hmay fun ha => ?_
  obtain ⟨hdom', hlink'⟩ := (h.event (Ev.SEQ_FAULT t)).tilePower
  have hfault : (v.raise (Ev.SEQ_FAULT t)).seqState t q = Seq.fault :=
    (State.fld_raise _ _ _ _ (eventReg_of_tile (by simp only [SEQ_STAT]; omega))).trans hst
  obtain ⟨hcond, -⟩ := (v.raise (Ev.SEQ_FAULT t)).levelCond_frontEnd t
  rw [hcond, (State.mayAssert_congr htile hdom' hlink').trans ha, Bool.true_and, List.any_eq_true]
  exact ⟨q, mem_quads.2 q.2, beq_iff_eq.2 hfault⟩

theorem fault_entered {s : State} {t q : Fin 4} {cause e : Nat} (h : (s.quad (quadKey t q)).seen = some (cause, e)) (hcause : cause < 8) :
    Answers (.seqFaultEntry t q) s fun u =>
      u.seqState t q = Seq.fault ∧ u.fld (SEQ_STAT t q) SEQ_STAT_CAUSE = cause ∧ u.fld (SEQ_STAT t q) SEQ_STAT_PAEN_REC = 0 ∧
      Told s u (Ev.SEQ_FAULT t) ∧ (u.quad (quadKey t q)).seen = none ∧
      (u.quad (quadKey t q)).ends = some (delayEnd (s.advance e).now (s.fld (SEQ_DLY_B t q) SEQ_DLY_B_T_DRAINOFF)) := by
  refine .of_unsettled (exec_seqFaultEntry ..) (fun _ _ _ => rfl) ?_
  rw [State.faultEntry_at h]
  refine (State.judgePins_field _ t (fun u => u.seqState t q = Seq.fault ∧ u.fld (SEQ_STAT t q) SEQ_STAT_CAUSE = cause ∧
    u.fld (SEQ_STAT t q) SEQ_STAT_PAEN_REC = 0 ∧ Told s u (Ev.SEQ_FAULT t) ∧ (u.quad (quadKey t q)).seen = none ∧
    (u.quad (quadKey t q)).ends = some (delayEnd (s.advance e).now (s.fld (SEQ_DLY_B t q) SEQ_DLY_B_T_DRAINOFF))) fun _ _ => rfl).mpr ?_
  have hview : (((s.advance e).faulted t q cause).raise (Ev.SEQ_FAULT t)).quadView t q = ((s.advance e).faulted t q cause).quadView t q :=
    State.quadView_raise _
  obtain ⟨hst, hcode, hrec⟩ := (s.advance e).faulted_stat t q cause
  rw [State.seqState_of_view hview, State.statFld_of_view hview, State.statFld_of_view hview, State.quad_of_view hview, State.faulted_quad,
    State.advance_fld]
  exact ⟨hst, hcode.trans (Nat.mod_eq_of_lt (by omega)), hrec,
    State.faulted_told (((Keeps.refl _ s).advance e).trans (State.faulted_keeps _ _ _ _ q.2)) hst, rfl, rfl⟩

/-- Settles O25: a level at a GATEOK pin by whether it lasts and is news, each delay by the state that it ends, the entry to FAULT by its cause. -/
theorem sequencerSteps : Obligations.SequencerSteps := by
  intro s t q e
  refine ⟨fun level ago brief => ⟨fun hbrief hlevel => ?_, fun h hon hne => ?_, fun h hidle => ?_⟩,
    fun hends => ⟨fun hst => ?_, fun hst hseen => ?_, fun hseen => ?_, fun hst => ?_, drainoff_drained hends, drainoff_fault hends, fun hst => ?_⟩,
    fun cause => fault_entered⟩
  · exact exec_of_done (exec_gateokChange ..) (State.gateOk_brief hbrief hlevel)
  · exact exec_of_done (exec_gateokChange ..) ((State.gateOk_seen h).trans (if_pos ⟨hon, hne⟩))
  · refine exec_of_done (exec_gateokChange ..) ((State.gateOk_seen h).trans (if_neg ?_))
    rintro ⟨hon, hne⟩
    rcases hidle with hoff | hsame
    · rw [hoff] at hon
      cases hon
    · exact hne hsame
  · exact exec_of_done (exec_seqGateSettleEnd ..) (State.gateSettleEnd_at hends hst)
  · exact exec_of_done (exec_seqDrainSettleEnd ..) (State.drainSettleEnd_at hends hst hseen)
  · exact exec_of_done (exec_seqDrainSettleEnd ..) (State.drainSettleEnd_due hseen)
  · exact exec_of_done (exec_seqPaoffEnd ..) (State.paoffEnd_at hends hst)
  · exact exec_of_done (exec_seqGokTimeout ..) (State.gokTimeout_at hends hst)

end Sys2Proof.Machine
end

section
/-!
PROOFS. Bias outputs (R221 to R226): writes of CFG, the end of a range change, codes queued and in force, read-back.
-/
namespace Sys2Proof.Machine
open Reg F

theorem exec_biasCfgWrite (t : Fin 4) (i : Fin 16) (w : Word) (s : State) :
    exec (.biasCfgWrite t i w) s = done (s.guarded (BIASOUT_CFG t i) fun s => s.biasCfg t i w) := rfl
theorem exec_biasRangeChangeEnd (t : Fin 4) (i : Fin 16) (s : State) : exec (.biasRangeChangeEnd t i) s = done (s.rangeChangeEnd t i) := rfl
theorem exec_biasCodeWrite (t : Fin 4) (i : Fin 16) (w : Word) (s : State) :
    exec (.biasCodeWrite t i w) s = done (s.guarded (BIASOUT_CODE t i) fun s => s.biasCode t i w) := rfl
theorem exec_biasUpdateTick (t : Fin 4) (i : Fin 16) (s : State) : exec (.biasUpdateTick t i) s = done (s.biasTick t i) := rfl
theorem exec_biasReadback (t : Fin 4) (i : Fin 16) (reading : BitVec 12) (s : State) :
    exec (.biasReadback t i reading) s = done (s.biasReadback t i reading) := rfl

/-- The meaning of a register write whose block answers. -/
theorem exec_of_guarded {i : Instr} {s v : State} {a : Nat} {f : State → State} (hi : exec i s = done (s.guarded a f)) (h : s.answers a = true)
    (hv : f s = v) : exec i s = .next v.settle := exec_of_done hi ((State.guarded_of h).trans hv)

/-! ### Writes of CFG (R221, R225) -/

/-- A write of CFG that a lock bars: it would disable the output, or change its range. -/
def State.biasBarred (s : State) (t i : Nat) (w : Word) : Prop :=
  s.biasLocked t i = true ∧ ((s.bit (BIASOUT_CFG t i) BIASOUT_CFG_EN = true ∧ bitF w BIASOUT_CFG_EN = false) ∨
    getF w BIASOUT_CFG_RANGE ≠ s.fld (BIASOUT_CFG t i) BIASOUT_CFG_RANGE)

section
variable {s : State} {t i : Nat} {w : Word}

theorem State.biasCfg_barred (h : s.biasBarred t i w) : s.biasCfg t i w = s.accessError.raise (Ev.SEQ_BIAS_LOCKED t) := by
  refine if_pos ?_
  simpa only [State.biasBarred, Bool.and_eq_true, Bool.or_eq_true, Bool.not_eq_true', bne_iff_ne] using h

/-- A write that no lock bars disables the output, enables it, moves its range, or none of these. -/
theorem State.biasCfg_allowed (h : ¬ s.biasBarred t i w) : s.biasCfg t i w =
    if bitF w BIASOUT_CFG_EN = false then
      if s.biasState t i = BiasSt.hiz then s.plainWrite (BIASOUT_CFG t i) w
      else ((s.plainWrite (BIASOUT_CFG t i) w).disableBias t i).judgeQuads t
    else if s.biasState t i = BiasSt.hiz then ((s.plainWrite (BIASOUT_CFG t i) w).enterDrive t i).judgeQuads t
    else if getF w BIASOUT_CFG_RANGE ≠ s.fld (BIASOUT_CFG t i) BIASOUT_CFG_RANGE then
      (((s.plainWrite (BIASOUT_CFG t i) w).setFld (BIASOUT_STAT t i) BIASOUT_STAT_STATE BiasSt.rangeChange).modBias (biasKey t i)
        fun b => { b with rangeEnd := s.now + 49152 }).judgeQuads t
    else s.plainWrite (BIASOUT_CFG t i) w := by
  refine (if_neg ?_).trans ?_
  · simpa only [State.biasBarred, Bool.and_eq_true, Bool.or_eq_true, Bool.not_eq_true', bne_iff_ne] using h
  · simp only [Bool.not_eq_true', bne_iff_ne]
end

section
variable {s : State} {t : Fin 4} {i : Fin 16} {w : Word}

/-- An output enabled drives its safe code from now on. -/
theorem biasCfg_enables (hans : s.answers (BIASOUT_CFG t i) = true) (hfree : ¬ s.biasBarred t i w) (hen : bitF w BIASOUT_CFG_EN = true)
    (hhiz : s.biasState t i = BiasSt.hiz) : Answers (.biasCfgWrite t i w) s fun u => u.biasState t i = BiasSt.drive ∧
      u.fld (BIASOUT_STAT t i) BIASOUT_STAT_PIN_CODE = s.fld (BIASOUT_SAFE t i) BIASOUT_SAFE_CODE ∧ (u.bias (biasKey t i)).since = s.now := by
  have hwrite := s.plainWrite_frame (BIASOUT_CFG t i) w
  have hsafe : (s.plainWrite (BIASOUT_CFG t i) w).reg (BIASOUT_SAFE t i) = s.reg (BIASOUT_SAFE t i) := by
    refine hwrite.keeps.tileReg ?_ (by simp only [BIASOUT_SAFE]; omega)
    simp only [List.mem_singleton, BIASOUT_SAFE, BIASOUT_CFG]
    omega
  refine .of_guarded_unsettled (exec_biasCfgWrite ..) hans (fun _ _ _ => rfl) ?_
  rw [State.biasCfg_allowed hfree, hen, if_neg (by decide), if_pos hhiz]
  obtain ⟨hdrive, hcode, hsince⟩ := (s.plainWrite (BIASOUT_CFG t i) w).enterDrive_drives t i
  have hview := State.judgeQuads_enabled (s := (s.plainWrite (BIASOUT_CFG t i) w).enterDrive t i) (by rw [hdrive]; decide)
  rw [State.biasState_of_view hview, State.biasStatFld_of_view hview, State.bias_of_view hview]
  exact ⟨hdrive, hcode.trans (congrArg (getF · BIASOUT_SAFE_CODE) hsafe), hsince.trans (hwrite.field (·.now) fun _ => rfl)⟩

/-- A change of range begins. -/
theorem biasCfg_moves (hans : s.answers (BIASOUT_CFG t i) = true) (hfree : ¬ s.biasBarred t i w) (hen : bitF w BIASOUT_CFG_EN = true)
    (hhiz : s.biasState t i ≠ BiasSt.hiz) (hmoved : getF w BIASOUT_CFG_RANGE ≠ s.fld (BIASOUT_CFG t i) BIASOUT_CFG_RANGE) :
    Answers (.biasCfgWrite t i w) s fun u => u.biasState t i = BiasSt.rangeChange ∧ (u.bias (biasKey t i)).rangeEnd = s.now + 49152 := by
  refine .of_guarded_unsettled (exec_biasCfgWrite ..) hans (fun _ _ _ => rfl) ?_
  rw [State.biasCfg_allowed hfree, hen, if_neg (by decide), if_neg hhiz, if_pos hmoved]
  have hstate : (((s.plainWrite (BIASOUT_CFG t i) w).setFld (BIASOUT_STAT t i) BIASOUT_STAT_STATE BiasSt.rangeChange).modBias (biasKey t i)
      fun b => { b with rangeEnd := s.now + 49152 }).biasState t i = BiasSt.rangeChange := State.fld_setFld _ _ BIASOUT_STAT_STATE _ (by decide)
  have hview := State.judgeQuads_enabled (by rw [hstate]; decide)
  rw [State.biasState_of_view hview, State.bias_of_view hview, State.bias_modBias, if_pos rfl]
  exact ⟨hstate, rfl⟩

theorem State.biasCfg_plain (hfree : ¬ s.biasBarred t i w) (hen : bitF w BIASOUT_CFG_EN = true ↔ s.biasState t i ≠ BiasSt.hiz)
    (hstays : ¬ getF w BIASOUT_CFG_RANGE ≠ s.fld (BIASOUT_CFG t i) BIASOUT_CFG_RANGE) : s.biasCfg t i w = s.plainWrite (BIASOUT_CFG t i) w := by
  rw [State.biasCfg_allowed hfree]
  by_cases hhiz : s.biasState t i = BiasSt.hiz
  · rw [if_pos (Bool.eq_false_iff.2 fun h => hen.1 h hhiz), if_pos hhiz]
  · rw [hen.2 hhiz, if_neg (by decide), if_neg hhiz, if_neg hstays]

theorem State.not_biasLocked {q : Nat} (h : s.biasLocked t i = false) (hq : q < 4) (hmask : (s.gateMask t q).testBit i = true) :
    s.seqState t q = Seq.off := by
  have hall := List.any_eq_false.1 h q (mem_quads.2 hq)
  rw [hmask, Bool.true_and, bne_iff_ne, ne_eq, not_not] at hall
  exact hall

/-- An output that no quad locks is disabled. -/
theorem biasCfg_disables (hans : s.answers (BIASOUT_CFG t i) = true) (hlock : s.biasLocked t i = false) (hen : bitF w BIASOUT_CFG_EN = false) :
    Answers (.biasCfgWrite t i w) s fun u => u.biasState t i = BiasSt.hiz := by
  have hwrite := (s.plainWrite_frame (BIASOUT_CFG t i) w).keeps
  have hfree : ¬ s.biasBarred t i w := fun ⟨h, _⟩ => by rw [hlock] at h; cases h
  refine .of_guarded_unsettled (exec_biasCfgWrite ..) hans (fun _ _ _ => rfl) ?_
  rw [State.biasCfg_allowed hfree, if_pos hen]
  split
  · next hhiz =>
    refine (State.biasState_congr (hwrite.tileReg ?_ (by simp only [BIASOUT_STAT]; omega))).trans hhiz
    simp only [List.mem_singleton, BIASOUT_STAT, BIASOUT_CFG]
    omega
  · have hkeeps : Keeps (biasRegs t) s ((s.plainWrite (BIASOUT_CFG t i) w).disableBias t i) :=
      (hwrite.mono fun a ha => biasRegs_of_output i.2 (List.mem_cons.2 (.inl (List.mem_singleton.1 ha)))).trans
        ((State.disableBias_keeps ..).mono fun _ => biasRegs_of_output i.2)
    refine (State.biasState_of_view (State.judgeQuads_biasView fun q hq hsettle hi => ?_)).trans (State.disableBias_hiz ..)
    rw [State.seqState_congr (hkeeps.tileReg (seqStat_not_biasReg hq) (by simp only [SEQ_STAT]; omega))] at hsettle
    rw [(hkeeps.mono fun _ h => mem_gateRegs.2 (.inr h)).gateMask hq] at hi
    obtain ⟨-, hmask⟩ := mem_onesOf.1 hi
    have hoff := State.not_biasLocked hlock hq hmask
    rw [hoff] at hsettle
    cases hsettle

/-- A change of range ends in DRIVE with the safe code. -/
theorem rangeChange_ends (h : s.biasState t i = BiasSt.rangeChange) : Answers (.biasRangeChangeEnd t i) s fun u => u.biasState t i = BiasSt.drive ∧
    u.fld (BIASOUT_STAT t i) BIASOUT_STAT_PIN_CODE = s.fld (BIASOUT_SAFE t i) BIASOUT_SAFE_CODE ∧
    u.now = max s.now (s.bias (biasKey t i)).rangeEnd := by
  refine .of_unsettled (exec_biasRangeChangeEnd ..) (fun _ _ _ => rfl) ?_
  rw [State.rangeChangeEnd, if_pos h]
  obtain ⟨hdrive, hcode, -⟩ := (s.advance (s.bias (biasKey t i)).rangeEnd).enterDrive_drives t i
  have hview := State.judgeQuads_enabled (s := (s.advance (s.bias (biasKey t i)).rangeEnd).enterDrive t i) (by rw [hdrive]; decide)
  rw [State.biasState_of_view hview, State.biasStatFld_of_view hview, State.judgeQuads_now]
  exact ⟨hdrive, hcode.trans (s.advance_fld ..), s.advance_now _⟩
end

/-! ### Codes (R223, R224) -/

section
variable {s : State} {t i : Nat} {w : Word}

theorem State.biasCode_queued (h : (s.bias (biasKey t i)).queue.length < 16) :
    s.biasCode t i w = s.modBias (biasKey t i) fun b => { b with queue := b.queue ++ [w.setWidth 16] } := if_pos h

theorem State.biasCode_full (h : 16 ≤ (s.bias (biasKey t i)).queue.length) :
    s.biasCode t i w = (s.setBit (BIASOUT_STAT t i) BIASOUT_STAT_QFULL true).raise (Ev.BIAS_QUEUE_FULL t) := if_neg (Nat.not_lt.2 h)

variable (s t i)

theorem State.setCode_code {v : Nat} (hv : v < 2 ^ 16) : (s.setCode t i v).fld (BIASOUT_STAT t i) BIASOUT_STAT_PIN_CODE = v :=
  (congrArg (getF · BIASOUT_STAT_PIN_CODE) (s.setCode_reg t i v _)).trans ((s.fld_setFld _ _ _ (by decide)).trans (Nat.mod_eq_of_lt hv))

/-- A code in force changes of its output only the instant of its latest change. -/
theorem State.setCode_bias {α : Type} (π : Bias → α) (hπ : ∀ b n, π { b with since := n } = π b) (v : Nat) :
    π ((s.setCode t i v).bias (biasKey t i)) = π (s.bias (biasKey t i)) := by
  unfold State.setCode
  dsimp only
  split
  · rfl
  · rw [State.bias_modBias, if_pos rfl, hπ]
    rfl

theorem State.setCode_now (v : Nat) : (s.setCode t i v).now = s.now := by
  unfold State.setCode
  dsimp only
  split <;> rfl

theorem sineCode_lt (ao : Word) (phase : BitVec 32) : sineCode ao phase < 2 ^ 16 := by
  simp only [sineCode, clampI]
  omega

/-- What the output holds after a tick of the update clock, its queue and phase aside. -/
def State.ticked (s : State) (t i : Nat) : Bias :=
  { s.bias (biasKey t i) with
    tick := (s.bias (biasKey t i)).tick + s.biasStep t i, sine := s.bit (BIASOUT_CFG t i) BIASOUT_CFG_SINE }

/-- The phase of sine mode at a tick (R224). -/
def State.sinePhase (s : State) (t i : Nat) : BitVec 32 :=
  (if (s.bias (biasKey t i)).sine then (s.bias (biasKey t i)).phase else 0) + s.reg (BIASOUT_SINE_INC t i)

variable {s t i}

/-- At a tick a step of the sine goes out, or the oldest code queued, or nothing. -/
theorem State.biasTick_eq (h : s.biasState t i = BiasSt.drive) : s.biasTick t i =
    let u := s.advance (s.bias (biasKey t i)).tick
    if s.bit (BIASOUT_CFG t i) BIASOUT_CFG_SINE then
      (u.setBias (biasKey t i) { s.ticked t i with phase := s.sinePhase t i }).setCode t i
        (sineCode (s.reg (BIASOUT_SINE_AO t i)) (s.sinePhase t i))
    else match (s.bias (biasKey t i)).queue with
      | c :: rest => (u.setBias (biasKey t i) { s.ticked t i with queue := rest }).setCode t i c.toNat
      | [] => u.setBias (biasKey t i) (s.ticked t i) := by
  have hstep : (s.advance (s.bias (biasKey t i)).tick).biasStep t i = s.biasStep t i := s.advance_field _ (·.biasStep t i) fun _ _ _ => rfl
  have hbit : (s.advance (s.bias (biasKey t i)).tick).bit (BIASOUT_CFG t i) BIASOUT_CFG_SINE = s.bit (BIASOUT_CFG t i) BIASOUT_CFG_SINE :=
    s.advance_field _ (·.bit (BIASOUT_CFG t i) BIASOUT_CFG_SINE) fun _ _ _ => rfl
  unfold State.biasTick
  rw [if_neg (not_not.2 h)]
  dsimp only
  rw [hstep, hbit, State.advance_reg, State.advance_reg]
  rfl
theorem State.biasTick_sine (h : s.biasState t i = BiasSt.drive) (hsine : s.bit (BIASOUT_CFG t i) BIASOUT_CFG_SINE = true) : s.biasTick t i =
    ((s.advance (s.bias (biasKey t i)).tick).setBias (biasKey t i) { s.ticked t i with phase := s.sinePhase t i }).setCode t i
      (sineCode (s.reg (BIASOUT_SINE_AO t i)) (s.sinePhase t i)) := (State.biasTick_eq h).trans (if_pos hsine)

theorem State.biasTick_code (h : s.biasState t i = BiasSt.drive) (hsine : s.bit (BIASOUT_CFG t i) BIASOUT_CFG_SINE = false) {c : BitVec 16}
    {rest : List (BitVec 16)} (hqueue : (s.bias (biasKey t i)).queue = c :: rest) : s.biasTick t i =
    ((s.advance (s.bias (biasKey t i)).tick).setBias (biasKey t i) { s.ticked t i with queue := rest }).setCode t i c.toNat := by
  rw [State.biasTick_eq h, hsine, hqueue]
  rfl

theorem State.biasTick_idle (h : s.biasState t i = BiasSt.drive) (hsine : s.bit (BIASOUT_CFG t i) BIASOUT_CFG_SINE = false)
    (hqueue : (s.bias (biasKey t i)).queue = []) : s.biasTick t i =
    (s.advance (s.bias (biasKey t i)).tick).setBias (biasKey t i) (s.ticked t i) := by
  rw [State.biasTick_eq h, hsine, hqueue]
  rfl

/-- What every tick does: time passes, the next tick is set, at most the output's status changes. -/
theorem State.biasTick_always (h : s.biasState t i = BiasSt.drive) : (s.biasTick t i).now = max s.now (s.bias (biasKey t i)).tick ∧
    ((s.biasTick t i).bias (biasKey t i)).tick = (s.bias (biasKey t i)).tick + s.biasStep t i ∧ Keeps [BIASOUT_STAT t i] s (s.biasTick t i) := by
  let u := s.advance (s.bias (biasKey t i)).tick
  have hnow : u.now = max s.now (s.bias (biasKey t i)).tick := s.advance_now _
  have hkeeps : Keeps [BIASOUT_STAT t i] s u := (Keeps.refl _ s).advance _
  have hbias : ∀ b, (u.setBias (biasKey t i) b).bias (biasKey t i) = b := fun b => (u.bias_setBias ..).trans (if_pos rfl)
  have hcode : ∀ b v, b.tick = (s.bias (biasKey t i)).tick + s.biasStep t i → let x := (u.setBias (biasKey t i) b).setCode t i v
      x.now = max s.now (s.bias (biasKey t i)).tick ∧
      (x.bias (biasKey t i)).tick = (s.bias (biasKey t i)).tick + s.biasStep t i ∧ Keeps [BIASOUT_STAT t i] s x := fun b v hb =>
    ⟨(State.setCode_now ..).trans hnow, (State.setCode_bias _ t i Bias.tick (fun _ _ => rfl) v).trans ((congrArg Bias.tick (hbias b)).trans hb),
      Keeps.trans (u := u.setBias (biasKey t i) b) hkeeps (State.setCode_keeps ..)⟩
  cases hsine : s.bit (BIASOUT_CFG t i) BIASOUT_CFG_SINE with
  | true =>
    rw [State.biasTick_sine h hsine]
    exact hcode _ _ rfl
  | false =>
    cases hqueue : (s.bias (biasKey t i)).queue with
    | nil =>
      rw [State.biasTick_idle h hsine hqueue]
      exact ⟨hnow, congrArg Bias.tick (hbias _), hkeeps⟩
    | cons c rest =>
      rw [State.biasTick_code h hsine hqueue]
      exact hcode _ _ rfl
end

/-- A tick of the update clock of an output in DRIVE. -/
theorem bias_ticks {s : State} {t : Fin 4} {i : Fin 16} (h : s.biasState t i = BiasSt.drive) :
    let k := biasKey t i
    let stat := BIASOUT_STAT t i
    let sine := s.bit (BIASOUT_CFG t i) BIASOUT_CFG_SINE
    Answers (.biasUpdateTick t i) s fun u =>
      u.now = max s.now (s.bias k).tick ∧ (u.bias k).tick = (s.bias k).tick + s.biasStep t i ∧ Keeps [stat] s u ∧
      (∀ c rest, sine = false → (s.bias k).queue = c :: rest → u.fld stat BIASOUT_STAT_PIN_CODE = c.toNat ∧ (u.bias k).queue = rest) ∧
      (sine = false → (s.bias k).queue = [] → u.reg stat = s.reg stat) ∧
      (sine = true → (u.bias k).phase = s.sinePhase t i ∧
        u.fld stat BIASOUT_STAT_PIN_CODE = sineCode (s.reg (BIASOUT_SINE_AO t i)) (s.sinePhase t i)) := by
  intro k stat sine
  obtain ⟨hnow, htick, hkeeps⟩ := State.biasTick_always h
  refine .of_unsettled (exec_biasUpdateTick ..) (fun _ _ _ => rfl) ⟨hnow, htick, hkeeps, fun c rest hsine hqueue => ?_, fun hsine hqueue => ?_,
    fun hsine => ?_⟩
  · rw [State.biasTick_code h hsine hqueue]
    refine ⟨State.setCode_code _ t i c.isLt, (State.setCode_bias _ t i Bias.queue (fun _ _ => rfl) _).trans ?_⟩
    rw [State.bias_setBias, if_pos rfl]
  · rw [State.biasTick_idle h hsine hqueue]
    exact s.advance_reg _ _
  · rw [State.biasTick_sine h hsine]
    refine ⟨(State.setCode_bias _ t i Bias.phase (fun _ _ => rfl) _).trans ?_, State.setCode_code _ t i (sineCode_lt ..)⟩
    rw [State.bias_setBias, if_pos rfl]

/-! ### Read-back (R226) -/

/-- The quads that a mismatch of output `i` trips see cause 4 (R218). -/
def State.tripQuads (s : State) (t i : Nat) : State :=
  s.each quads fun u q =>
    if (u.gateMask t q).testBit i && u.bit (SEQ_CFG t q) SEQ_CFG_MM_TRIP && u.causeOpen t q then u.seeCause t q 4 else u

theorem State.tripQuads_field (s : State) (t i : Nat) {α : Type} (m : State → α) (hm : ∀ (x : State) k f, m (x.modQuad k f) = m x) :
    m (s.tripQuads t i) = m s :=
  State.each_keeps (P := fun u => m u = m s) (fun u q h => by
    split
    · exact (hm u _ _).trans h
    · exact h) quads rfl

/-- A reading is compared: the output drives a code of its own that has settled. -/
def State.biasCompared (s : State) (t i : Nat) : Prop :=
  s.biasState t i = BiasSt.drive ∧ s.bit (BIASOUT_CFG t i) BIASOUT_CFG_SINE = false ∧
    196608 * s.fld (BIASOUT_RB_CFG t) BIASOUT_RB_CFG_SETTLE ≤ 100 * (s.now - (s.bias (biasKey t i)).since)

/-- It lies within the tolerance. -/
def State.biasWithin (s : State) (t i : Nat) (reading : BitVec 12) : Prop :=
  |16 * (reading.toNat : Int) - (s.fld (BIASOUT_STAT t i) BIASOUT_STAT_PIN_CODE : Int)| ≤ 16 * (s.fld (BIASOUT_RB_CFG t) BIASOUT_RB_CFG_TOL : Int)

/-- Compared readings in a row that make a mismatch. -/
def State.biasCnt (s : State) (t : Nat) : Nat := max 1 (s.fld (BIASOUT_RB_CFG t) BIASOUT_RB_CFG_CNT)

/-- One more reading in a row is out of tolerance. -/
def State.biasOff (s : State) (t i : Nat) : State :=
  s.modBias (biasKey t i) fun b => { b with off := min (s.biasCnt t) (b.off + 1) }

section
variable {s : State} {t i : Nat} {reading : BitVec 12}

theorem State.biasReadback_idle (h : ¬ s.biasCompared t i) : s.biasReadback t i reading = s := by
  refine if_pos ?_
  by_contra hno
  rw [not_or, not_or, not_not, Bool.not_eq_true, Nat.not_lt] at hno
  exact h hno

theorem State.biasReadback_compared (h : s.biasCompared t i) : s.biasReadback t i reading =
    if |16 * (reading.toNat : Int) - (s.fld (BIASOUT_STAT t i) BIASOUT_STAT_PIN_CODE : Int)| ≤
        16 * (s.fld (BIASOUT_RB_CFG t) BIASOUT_RB_CFG_TOL : Int) then
      (s.setBit (BIASOUT_STAT t i) BIASOUT_STAT_MM false).modBias (biasKey t i) fun b => { b with off := 0 }
    else if s.biasCnt t ≤ (s.bias (biasKey t i)).off + 1 ∧ !s.bit (BIASOUT_STAT t i) BIASOUT_STAT_MM then
      (((s.biasOff t i).setBit (BIASOUT_STAT t i) BIASOUT_STAT_MM true).raise (Ev.BIAS_MISMATCH t)).tripQuads t i
    else s.biasOff t i := by
  refine if_neg ?_
  rw [not_or, not_or, not_not, Bool.not_eq_true, Nat.not_lt]
  exact h

theorem State.biasReadback_within (h : s.biasCompared t i) (hw : s.biasWithin t i reading) : s.biasReadback t i reading =
    (s.setBit (BIASOUT_STAT t i) BIASOUT_STAT_MM false).modBias (biasKey t i) fun b => { b with off := 0 } :=
  (State.biasReadback_compared h).trans (if_pos hw)

theorem State.biasReadback_trips (h : s.biasCompared t i) (hw : ¬ s.biasWithin t i reading)
    (hcnt : s.biasCnt t ≤ (s.bias (biasKey t i)).off + 1) (hmm : s.bit (BIASOUT_STAT t i) BIASOUT_STAT_MM = false) : s.biasReadback t i reading =
    (((s.biasOff t i).setBit (BIASOUT_STAT t i) BIASOUT_STAT_MM true).raise (Ev.BIAS_MISMATCH t)).tripQuads t i := by
  rw [State.biasReadback_compared h]
  exact (if_neg hw).trans (if_pos ⟨hcnt, by rw [hmm]; rfl⟩)

theorem State.biasReadback_counts (h : s.biasCompared t i) (hw : ¬ s.biasWithin t i reading)
    (hno : ¬ (s.biasCnt t ≤ (s.bias (biasKey t i)).off + 1 ∧ s.bit (BIASOUT_STAT t i) BIASOUT_STAT_MM = false)) :
    s.biasReadback t i reading = s.biasOff t i := by
  rw [State.biasReadback_compared h]
  refine (if_neg hw).trans (if_neg ?_)
  rwa [Bool.not_eq_true']

theorem State.biasOff_off : ((s.biasOff t i).bias (biasKey t i)).off = min (s.biasCnt t) ((s.bias (biasKey t i)).off + 1) := by
  rw [State.biasOff, State.bias_modBias, if_pos rfl]
end

theorem biasMismatch_place (t : Fin 4) : (Ev.BIAS_MISMATCH t - 96) / 40 = t ∧ eventReg (HIVE_SRC_CFG (Ev.BIAS_MISMATCH t)) = false := by
  revert t
  decide

/-- A mismatch shown is told of. -/
theorem State.mismatch_told {s v : State} {t : Fin 4} {i : Fin 16} (h : Keeps (gateRegs t) s v)
    (hmm : v.bit (BIASOUT_STAT t i) BIASOUT_STAT_MM = true) : Told s (v.raise (Ev.BIAS_MISMATCH t)) (Ev.BIAS_MISMATCH t) := by
  obtain ⟨htile, hcfg⟩ := biasMismatch_place t
  obtain ⟨hdom, hlink⟩ := h.tilePower
  refine .raised_level hcfg (State.mayAssert_congr htile hdom hlink) fun ha => ?_
  obtain ⟨hdom', hlink'⟩ := (h.event (Ev.BIAS_MISMATCH t)).tilePower
  obtain ⟨-, hcond⟩ := (v.raise (Ev.BIAS_MISMATCH t)).levelCond_frontEnd t
  rw [hcond, (State.mayAssert_congr htile hdom' hlink').trans ha, Bool.true_and, List.any_eq_true]
  exact ⟨i, List.mem_range.2 i.2, (State.bit_raise _ _ _ _ (eventReg_of_tile (by simp only [BIASOUT_STAT]; omega))).trans hmm⟩

/-- A reading beyond the tolerance counts towards a mismatch. -/
theorem readback_beyond {s : State} {t : Fin 4} {i : Fin 16} {reading : BitVec 12} (h : s.biasCompared t i) (hw : ¬ s.biasWithin t i reading) :
    let k := biasKey t i
    let stat := BIASOUT_STAT t i
    Answers (.biasReadback t i reading) s fun u => (u.bias k).off = min (s.biasCnt t) ((s.bias k).off + 1) ∧ Keeps [stat] s u ∧
      u.bit stat BIASOUT_STAT_MM = (s.bit stat BIASOUT_STAT_MM || decide (s.biasCnt t ≤ (s.bias k).off + 1)) ∧
      (s.biasCnt t ≤ (s.bias k).off + 1 → s.bit stat BIASOUT_STAT_MM = false → Told s u (Ev.BIAS_MISMATCH t)) := by
  intro k stat
  refine .of_unsettled (exec_biasReadback ..) (fun _ _ _ => rfl) ?_
  have hoff : Keeps [stat] s (s.biasOff t i) := (Keeps.refl _ s).modBias _ _
  by_cases htrips : s.biasCnt t ≤ (s.bias k).off + 1 ∧ s.bit stat BIASOUT_STAT_MM = false
  · obtain ⟨hcnt, hmm⟩ := htrips
    let v := (s.biasOff t i).setBit stat BIASOUT_STAT_MM true
    have hv : Keeps [stat] s v := hoff.setBit _ _ _ (List.mem_singleton_self _)
    have hshown : v.bit stat BIASOUT_STAT_MM = true := State.bit_setBit _ _ _ _ (by decide) (by decide)
    have hbias : (v.raise (Ev.BIAS_MISMATCH t)).bias k = (s.biasOff t i).bias k := by rw [State.bias, State.raise_biases]; rfl
    have hgates : Keeps (gateRegs t) s v := hv.mono fun a ha => gateRegs_of_output i.2 (List.mem_cons_of_mem _ ha)
    rw [State.biasReadback_trips h hw hcnt hmm]
    refine ⟨?_, ?_, ?_, fun _ _ => ?_⟩
    · rw [State.tripQuads_field _ _ _ (·.bias k) fun _ _ _ => rfl, hbias, State.biasOff_off]
    · exact (State.tripQuads_field _ _ _ (Keeps [stat] s) fun _ _ _ => rfl).mpr (hv.event _)
    · rw [State.tripQuads_field _ _ _ (·.bit stat BIASOUT_STAT_MM) fun _ _ _ => rfl,
        State.bit_raise _ _ _ _ (eventReg_of_tile (by simp only [stat, BIASOUT_STAT]; omega)), hshown, hmm, decide_eq_true hcnt]
      rfl
    · exact (State.tripQuads_field _ _ _ (Told s · (Ev.BIAS_MISMATCH t)) fun _ _ _ => rfl).mpr (State.mismatch_told hgates hshown)
  · rw [State.biasReadback_counts h hw htrips]
    refine ⟨State.biasOff_off, hoff, ?_, fun hcnt hmm => absurd ⟨hcnt, hmm⟩ htrips⟩
    change s.bit stat BIASOUT_STAT_MM = _
    cases hmm : s.bit stat BIASOUT_STAT_MM with
    | true => rfl
    | false => rw [decide_eq_false fun hcnt => htrips ⟨hcnt, hmm⟩]; rfl

/-- Settles O26: a write of CFG by what a lock bars and by what it changes, the end of a range change, codes by the room in their queue and by what a
tick finds, a reading by whether it is compared and within tolerance. -/
theorem biasOutputs : Obligations.BiasOutputs := by
  intro s t i w
  refine ⟨fun hans => ⟨fun hbarred => ?_, biasCfg_enables hans, biasCfg_moves hans, fun hfree hen hstays => ?_, biasCfg_disables hans⟩,
    rangeChange_ends, fun hans hroom => ?_, fun hans hfull => ?_, bias_ticks, fun reading => ⟨fun hcompared hwithin => ?_, readback_beyond, fun hidle => ?_⟩⟩
  · exact exec_of_guarded (exec_biasCfgWrite ..) hans (State.biasCfg_barred hbarred)
  · exact exec_of_guarded (exec_biasCfgWrite ..) hans (State.biasCfg_plain hfree hen hstays)
  · exact exec_of_guarded (exec_biasCodeWrite ..) hans (State.biasCode_queued hroom)
  · exact exec_of_guarded (exec_biasCodeWrite ..) hans (State.biasCode_full hfull)
  · exact exec_of_done (exec_biasReadback ..) (State.biasReadback_within hcompared hwithin)
  · exact exec_of_done (exec_biasReadback ..) (State.biasReadback_idle hidle)

end Sys2Proof.Machine
end

section
/-!
PROOFS. RFFE masters (R227 to R230): commands queued, the frame that ends, timed frames, results read.
-/
namespace Sys2Proof.Machine
open Reg F

theorem exec_rffeFrameDone (t q : Fin 4) (data : Byte) (bad : Bool) (s : State) :
    exec (.rffeFrameDone t q data bad) s = done (s.frameDone t q data bad) := rfl
theorem exec_rffeTimedFrameStart (t q : Fin 4) (s : State) : exec (.rffeTimedFrameStart t q) s = done (s.timedStart t q) := rfl
theorem exec_rffeRdRead (t q : Fin 4) (s : State) :
    exec (.rffeRdRead t q) s = done (s.guardedRead (RFFE_RD t q) fun s => s.rffeRead t q) := rfl

/-- Each command row queues its command. -/
theorem exec_rffeCommand {t q : Fin 4} {usid : BitVec 4} {addr : BitVec 16} {data : Byte} {i : Instr} {c : RffeCmd}
    (h : (i, c) ∈ rffeCommands t q usid addr data) (s : State) : exec i s = done (s.guarded (RFFE_CMD t q) fun s => s.rffeCmd t q c) := by
  simp only [rffeCommands, List.mem_cons, List.not_mem_nil, or_false, Prod.mk.injEq] at h
  rcases h with ⟨rfl, rfl⟩ | ⟨rfl, rfl⟩ | ⟨rfl, rfl⟩ | ⟨rfl, rfl⟩ | ⟨rfl, rfl⟩ | ⟨rfl, rfl⟩ | ⟨rfl, rfl⟩ <;> rfl

theorem rffeEvent_place (t : Fin 4) : (∀ src ∈ [Ev.RFFE_QUEUE_FULL t, Ev.RFFE_PARITY t, Ev.RFFE_STEP_DELAYED t],
    hasLevel src = false ∧ (src - 96) / 40 = t ∧ src < 256) := by
  revert t
  decide

/-- The registers of power and link are none of a master's. -/
theorem tilePower_not_rffeStat (t q : Fin 4) : PMU_DOM (10 + t) ∉ [RFFE_STAT t q] ∧ TXCH_STATUS t ∉ [RFFE_STAT t q] := by
  revert t q
  decide

/-- An event of a master is told of, where of registers at most its status has changed. -/
theorem Told.raised_rffe {s v : State} {t q : Fin 4} {src : Nat} (h : Keeps [RFFE_STAT t q] s v)
    (hsrc : src ∈ [Ev.RFFE_QUEUE_FULL t, Ev.RFFE_PARITY t, Ev.RFFE_STEP_DELAYED t]) : s.mayAssert src = true → (v.raise src).stored src = true := by
  obtain ⟨hlevel, htile, -⟩ := rffeEvent_place t src hsrc
  obtain ⟨hdom, hlink⟩ := tilePower_not_rffeStat t q
  obtain ⟨hdomEvent, hlinkEvent⟩ := tilePower_place t
  obtain ⟨hreg, -⟩ := h
  exact fun hmay => State.stored_raise_of_mayAssert hlevel
    ((State.mayAssert_congr htile (hreg _ hdom hdomEvent) (hreg _ hlink hlinkEvent)).trans hmay)

theorem State.rffe_modRffe (s : State) (k : Nat) (f : Rffe → Rffe) : (s.modRffe k f).rffe k = f (s.rffe k) := (s.rffe_setRffe ..).trans (if_pos rfl)

/-! ### Commands (R228) -/

section
variable {s : State} {t q : Fin 4} {c : RffeCmd}

theorem State.rffeCmd_full (h : 32 ≤ (s.rffe (quadKey t q)).queued s.now) : s.rffeCmd t q c =
    ((s.setBit (RFFE_STAT t q) RFFE_STAT_QFULL true).accessError).raise (Ev.RFFE_QUEUE_FULL t) := if_pos h

theorem State.rffeCmd_joins (h : (s.rffe (quadKey t q)).queued s.now < 32) (hok : c.ok = true) : s.rffeCmd t q c =
    (s.modRffe (quadKey t q) fun m => { m with queue := m.queue ++ [c] }).rffeKick t q := by
  rw [State.rffeCmd, if_neg (Nat.not_le.2 h), hok]
  rfl

theorem State.rffeCmd_bad (h : (s.rffe (quadKey t q)).queued s.now < 32) (hok : c.ok = false) : s.rffeCmd t q c = s.accessError := by
  rw [State.rffeCmd, if_neg (Nat.not_le.2 h), hok]
  rfl

/-- A command that finds the queue full. -/
theorem rffe_full {i : Instr} (hi : exec i s = done (s.guarded (RFFE_CMD t q) fun s => s.rffeCmd t q c)) (hans : s.answers (RFFE_CMD t q) = true)
    (h : 32 ≤ (s.rffe (quadKey t q)).queued s.now) : Answers i s fun u => u.bit (RFFE_STAT t q) RFFE_STAT_QFULL = true ∧
      u.stored Ev.REG_ACCESS_ERROR = true ∧ Told s u (Ev.RFFE_QUEUE_FULL t) ∧ Frame [RFFE_STAT t q] s u := by
  have hevent : eventReg (RFFE_STAT t q) = false := eventReg_of_tile (by simp only [RFFE_STAT]; omega)
  have hframe := ((Frame.refl [RFFE_STAT t q] s).setBit _ RFFE_STAT_QFULL true (List.mem_singleton_self _)).accessError
  obtain ⟨hlevel, -⟩ := rffeEvent_place t _ (List.mem_cons_self ..)
  refine .of_guarded_unsettled hi hans (fun _ _ _ => rfl) ?_
  rw [State.rffeCmd_full h]
  refine ⟨?_, State.stored_raise_keep _ _ _ (by decide) (State.stored_accessError _), .of_stored hlevel ?_, hframe.raise _⟩
  · rw [State.bit_raise _ _ _ _ hevent, State.accessError, State.bit_raise _ _ _ _ hevent, State.bit_setBit _ _ _ _ (by decide) (by decide)]
  · exact Told.raised_rffe hframe.keeps (List.mem_cons_self ..)
end

/-! ### The next frame (R228, R229) -/

/-- From `s` to `u` master k may begin its next frame: what it has sent and read, and when its bus became free, stay; no event is forgotten. -/
structure State.RffeGoesOn (k : Nat) (s u : State) : Prop where
  out : u.out = s.out
  now : s.now ≤ u.now
  freeAt : (u.rffe k).freeAt = (s.rffe k).freeAt
  fifo : (u.rffe k).fifo = (s.rffe k).fifo
  keeps : Keeps [] s u
  stored : ∀ j < 256, s.stored j = true → u.stored j = true

section
variable {k : Nat} {s u v : State}

theorem State.RffeGoesOn.refl (k : Nat) (s : State) : s.RffeGoesOn k s := ⟨rfl, le_rfl, rfl, rfl, .refl .., fun _ _ => id⟩

theorem State.RffeGoesOn.advance (h : s.RffeGoesOn k u) (n : Nat) : s.RffeGoesOn k (u.advance n) := by
  obtain ⟨hout, hnow, hfree, hfifo, hkeeps, hstored⟩ := h
  have hrffe : (u.advance n).rffe k = u.rffe k := u.advance_field _ (·.rffe k) fun _ _ _ => rfl
  refine ⟨(u.advance_field _ (·.out) fun _ _ _ => rfl).trans hout, ?_, hrffe ▸ hfree, hrffe ▸ hfifo, hkeeps.advance n, fun j hj hs => ?_⟩
  · rw [State.advance_now]
    exact hnow.trans (le_max_left ..)
  · exact (u.advance_field _ (·.stored j) fun _ _ _ => rfl).trans (hstored j hj hs)

theorem State.RffeGoesOn.setRffe (h : s.RffeGoesOn k u) {m : Rffe} (hfree : m.freeAt = (u.rffe k).freeAt) (hfifo : m.fifo = (u.rffe k).fifo) :
    s.RffeGoesOn k (u.setRffe k m) := by
  have hm : (u.setRffe k m).rffe k = m := (u.rffe_setRffe ..).trans (if_pos rfl)
  exact ⟨h.out, h.now, by rw [hm, hfree, h.freeAt], by rw [hm, hfifo, h.fifo], h.keeps, h.stored⟩

theorem State.RffeGoesOn.startFrame {t q : Nat} (h : s.RffeGoesOn (quadKey t q) u) (c : RffeCmd) (start : Nat) (due : Option Nat) :
    s.RffeGoesOn (quadKey t q) (u.startFrame t q c start due) := h.setRffe rfl rfl

theorem State.RffeGoesOn.raise (h : s.RffeGoesOn k u) (e : Nat) : s.RffeGoesOn k (u.raise e) := by
  obtain ⟨hout, hnow, hfree, hfifo, hkeeps, hstored⟩ := h
  have hrffe : (u.raise e).rffe k = u.rffe k := by rw [State.rffe, State.raise_rffes, State.rffe]
  exact ⟨(u.raise_out e).trans hout, (u.raise_now e).symm ▸ hnow, hrffe ▸ hfree, hrffe ▸ hfifo, hkeeps.event e,
    fun j hj hs => State.stored_raise_keep _ _ _ hj (hstored j hj hs)⟩

/-- The settling of step attenuators is marked on carriers. -/
theorem State.markSteps_field (s : State) (t i T : Nat) {α : Type} (m : State → α) (hm : ∀ (x : State) r, m { x with rxCars := r } = m x) :
    m (s.markSteps t i T) = m s :=
  State.each_keeps (P := fun u => m u = m s) (fun u c h => by
    split
    · exact (hm u _).trans h
    · exact h) cars rfl

theorem State.RffeGoesOn.markSteps (h : s.RffeGoesOn k u) (t i T : Nat) : s.RffeGoesOn k (u.markSteps t i T) :=
  (u.markSteps_field t i T (s.RffeGoesOn k) fun _ _ => propext ⟨fun h => ⟨h.out, h.now, h.freeAt, h.fifo, h.keeps, h.stored⟩,
    fun h => ⟨h.out, h.now, h.freeAt, h.fifo, h.keeps, h.stored⟩⟩).mpr h
end

section
variable (s : State) (t q : Nat)

theorem State.rffeKick_goesOn : s.RffeGoesOn (quadKey t q) (s.rffeKick t q) := by
  unfold State.rffeKick
  dsimp only
  split
  · split
    · exact .refl ..
    · exact State.RffeGoesOn.startFrame (u := s.modRffe (quadKey t q) _) ((State.RffeGoesOn.refl _ s).setRffe rfl rfl) _ _ _
  · exact .refl ..

/-- Nothing queued, nothing begins. -/
theorem State.rffeKick_empty (h : (s.rffe (quadKey t q)).queue = []) : s.rffeKick t q = s := by
  unfold State.rffeKick
  dsimp only
  rw [h]
  split
  · contradiction
  · rfl

theorem Rffe.recall_kept (m : Rffe) (now : Nat) : (m.recall now).freeAt = m.freeAt ∧ (m.recall now).fifo = m.fifo := by
  unfold Rffe.recall
  split
  · split <;> exact ⟨rfl, rfl⟩
  · exact ⟨rfl, rfl⟩

/-- Whether the next timed frame counts as late: those due at one instant are late together. -/
def Rffe.lateFor (m : Rffe) (x : RffeTimed) : Bool := if m.lastDue = some x.at_ then m.late else decide (x.at_ < m.freeAt)

/-- A timed frame goes onto the free bus of a master. -/
def State.timedBegun (s : State) (t q : Nat) (m : Rffe) (x : RffeTimed) (start : Nat) (late : Bool) : State :=
  ((s.advance start).setRffe (quadKey t q) { m with timed := m.timed.erase x, lastDue := some x.at_, late := late }).startFrame
    t q x.cmd start (some x.at_)

variable {s t q}

theorem State.timedStart_busy {x : RffeTimed} (h : firstTimed (s.rffe (quadKey t q)).timed = some x)
    (hbus : ((s.rffe (quadKey t q)).recall (max x.at_ s.now - 1)).bus ≠ none) : s.timedStart t q = s := by
  unfold State.timedStart
  rw [h]
  dsimp only
  split
  · rfl
  · contradiction

theorem State.timedStart_free {x : RffeTimed} (h : firstTimed (s.rffe (quadKey t q)).timed = some x) {m : Rffe}
    (hm : (s.rffe (quadKey t q)).recall (max x.at_ s.now - 1) = m) (hbus : m.bus = none) : s.timedStart t q =
    let u := s.timedBegun t q m x (max x.at_ m.freeAt) (m.lateFor x)
    if m.lateFor x then (u.raise (Ev.RFFE_STEP_DELAYED t)).markSteps t x.path (max x.at_ m.freeAt) else u := by
  unfold State.timedStart
  rw [h]
  dsimp only
  rw [hm]
  split
  · next hbusy =>
    rw [hbus] at hbusy
    cases hbusy
  · rfl

theorem State.timedStart_goesOn (s : State) (t q : Nat) : s.RffeGoesOn (quadKey t q) (s.timedStart t q) := by
  cases h : firstTimed (s.rffe (quadKey t q)).timed with
  | none =>
    unfold State.timedStart
    rw [h]
    exact .refl ..
  | some x =>
    by_cases hbus : ((s.rffe (quadKey t q)).recall (max x.at_ s.now - 1)).bus = none
    · obtain ⟨hfree, hfifo⟩ := (s.rffe (quadKey t q)).recall_kept (max x.at_ s.now - 1)
      have hbegun : ∀ start late, s.RffeGoesOn (quadKey t q) (s.timedBegun t q ((s.rffe (quadKey t q)).recall (max x.at_ s.now - 1)) x start late) :=
        fun start late => by
          have hrffe : (s.advance start).rffe (quadKey t q) = s.rffe (quadKey t q) := s.advance_field _ (·.rffe (quadKey t q)) fun _ _ _ => rfl
          exact (((State.RffeGoesOn.refl _ s).advance start).setRffe (by rw [hrffe]; exact hfree) (by rw [hrffe]; exact hfifo)).startFrame ..
      rw [State.timedStart_free h rfl hbus]
      dsimp only
      split
      · exact ((hbegun ..).raise _).markSteps ..
      · exact hbegun ..
    · rw [State.timedStart_busy h hbus]
      exact .refl ..
end

/-! ### Timed frames (R229) -/

section
variable {s : State} {t q : Fin 4} {x : RffeTimed} {m : Rffe}

/-- At its instant, on a bus that is free. -/
theorem State.timedStart_punctual (h : firstTimed (s.rffe (quadKey t q)).timed = some x)
    (hm : (s.rffe (quadKey t q)).recall (max x.at_ s.now - 1) = m) (hbus : m.bus = none) (hfree : m.freeAt ≤ x.at_) (hdue : m.lastDue ≠ some x.at_) :
    s.timedStart t q = s.timedBegun t q m x x.at_ false := by
  have hlate : m.lateFor x = false := (if_neg hdue).trans (decide_eq_false (Nat.not_lt.2 hfree))
  rw [State.timedStart_free h hm hbus, hlate, max_eq_left hfree]
  rfl

/-- As the bus becomes free, after its instant: reported. -/
theorem timed_delayed (h : firstTimed (s.rffe (quadKey t q)).timed = some x) (hm : (s.rffe (quadKey t q)).recall (max x.at_ s.now - 1) = m)
    (hbus : m.bus = none) (hfree : x.at_ < m.freeAt) (hdue : m.lastDue ≠ some x.at_) : Answers (.rffeTimedFrameStart t q) s fun u =>
      Told s u (Ev.RFFE_STEP_DELAYED t) ∧ u.now = max s.now m.freeAt ∧ (u.rffe (quadKey t q)).timed = m.timed.erase x ∧
      (u.rffe (quadKey t q)).bus = some ⟨x.cmd, m.freeAt, m.freeAt + s.rffeTime t q x.cmd.op, some x.at_⟩ := by
  have hlate : m.lateFor x = true := (if_neg hdue).trans (decide_eq_true hfree)
  let u := s.timedBegun t q m x m.freeAt true
  have hbegun : u.rffe (quadKey t q) =
      { m with timed := m.timed.erase x, lastDue := some x.at_, late := true,
               bus := some ⟨x.cmd, m.freeAt, m.freeAt + s.rffeTime t q x.cmd.op, some x.at_⟩ } := by
    have htime : ((s.advance m.freeAt).setRffe (quadKey t q) { m with timed := m.timed.erase x, lastDue := some x.at_, late := true }).rffeTime
        t q x.cmd.op = s.rffeTime t q x.cmd.op := s.advance_field _ (·.rffeTime t q x.cmd.op) fun _ _ _ => rfl
    simp only [u, State.timedBegun, State.startFrame]
    rw [State.rffe_modRffe, State.rffe_setRffe, if_pos rfl, htime]
  have hkeeps : Keeps [RFFE_STAT t q] s u := (Keeps.refl _ s).advance _
  have hraised : (u.raise (Ev.RFFE_STEP_DELAYED t)).rffe (quadKey t q) = u.rffe (quadKey t q) := by rw [State.rffe, State.raise_rffes, State.rffe]
  have hsrc : Ev.RFFE_STEP_DELAYED t ∈ [Ev.RFFE_QUEUE_FULL t, Ev.RFFE_PARITY t, Ev.RFFE_STEP_DELAYED t] := by simp
  obtain ⟨hlevel, -⟩ := rffeEvent_place t _ hsrc
  refine .of_unsettled (exec_rffeTimedFrameStart ..) (fun _ _ _ => rfl) ?_
  rw [State.timedStart_free h hm hbus, hlate, max_eq_right hfree.le]
  refine (State.markSteps_field _ t x.path m.freeAt (fun v => Told s v (Ev.RFFE_STEP_DELAYED t) ∧ v.now = max s.now m.freeAt ∧
    (v.rffe (quadKey t q)).timed = m.timed.erase x ∧
    (v.rffe (quadKey t q)).bus = some ⟨x.cmd, m.freeAt, m.freeAt + s.rffeTime t q x.cmd.op, some x.at_⟩) fun _ _ => rfl).mpr ?_
  rw [hraised, hbegun, State.raise_now]
  exact ⟨.of_stored hlevel (Told.raised_rffe hkeeps hsrc), s.advance_now _, rfl, rfl⟩
end

/-! ### The frame on the bus ends (R228, R230) -/

section
variable (s : State) (t q : Nat) (f : RffeFrame) (data : Byte) (bad : Bool)

/-- The frame has gone out and the bus is free. -/
def State.frameOut : State :=
  ((s.advance f.stop).emit (.rffe (quadKey t q) f.cmd)).modRffe (quadKey t q) fun m => { m with bus := none, freeAt := f.stop }

/-- A read's result joins the FIFO; one with bad parity is reported. -/
def State.resultTaken : State :=
  if rffeReads f.cmd.op then
    let w := s.modRffe (quadKey t q) fun m => { m with fifo := m.fifo ++ [⟨bad, f.cmd.usid, f.cmd.addr, data⟩] }
    if bad then (w.setBit (RFFE_STAT t q) RFFE_STAT_PARERR true).raise (Ev.RFFE_PARITY t) else w
  else s

/-- Queues and FIFO are emptied where a flush waited for the frame (R230). -/
def State.rffeFlushed : State :=
  if (s.rffe (quadKey t q)).flush then s.modRffe (quadKey t q) fun m => { m with queue := [], timed := [], fifo := [], flush := false } else s

/-- The state as the frame ends, before the next one. -/
def State.frameTaken : State := ((s.frameOut t q f).resultTaken t q f data bad).rffeFlushed t q

/-- The next frame. -/
def State.rffeNext : State :=
  if (s.rffe (quadKey t q)).timed.any fun y => decide (y.at_ ≤ s.now) then s.timedStart t q else s.rffeKick t q

theorem State.frameEnd_eq : s.frameEnd t q f data bad = (s.frameTaken t q f data bad).rffeNext t q := rfl

theorem State.rffeNext_goesOn : s.RffeGoesOn (quadKey t q) (s.rffeNext t q) := by
  unfold State.rffeNext
  split
  · exact s.timedStart_goesOn t q
  · exact s.rffeKick_goesOn t q

theorem State.rffeNext_empty (hqueue : (s.rffe (quadKey t q)).queue = []) (htimed : (s.rffe (quadKey t q)).timed = []) : s.rffeNext t q = s := by
  rw [State.rffeNext, htimed]
  exact s.rffeKick_empty t q hqueue

/-- What the master holds after a result, and what has been sent. -/
theorem State.resultTaken_rffe : (s.resultTaken t q f data bad).rffe (quadKey t q) = { s.rffe (quadKey t q) with
    fifo := if rffeReads f.cmd.op then (s.rffe (quadKey t q)).fifo ++ [⟨bad, f.cmd.usid, f.cmd.addr, data⟩] else (s.rffe (quadKey t q)).fifo } := by
  have hraise : ∀ (u : State) e, (u.raise e).rffe (quadKey t q) = u.rffe (quadKey t q) := fun u e => by
    rw [State.rffe, State.raise_rffes, State.rffe]
  have hset : ∀ (u : State) a g b, (u.setBit a g b).rffe (quadKey t q) = u.rffe (quadKey t q) := fun _ _ _ _ => rfl
  unfold State.resultTaken
  dsimp only
  split
  · split
    · rw [hraise, hset, State.rffe_modRffe]
    · exact State.rffe_modRffe ..
  · rfl

theorem State.resultTaken_field {α : Type} (m : State → α) (hrffe : ∀ (x : State) k f, m (x.modRffe k f) = m x)
    (hreg : ∀ (x : State) a w, m (x.setReg a w) = m x) (hraise : ∀ (x : State) e, m (x.raise e) = m x) :
    m (s.resultTaken t q f data bad) = m s := by
  unfold State.resultTaken
  dsimp only
  split
  · split
    · rw [hraise]
      exact (hreg ..).trans (hrffe ..)
    · exact hrffe ..
  · rfl

theorem State.rffeFlushed_field {α : Type} (m : State → α) (hrffe : ∀ (x : State) k f, m (x.modRffe k f) = m x) :
    m (s.rffeFlushed t q) = m s := by
  unfold State.rffeFlushed
  split
  · exact hrffe ..
  · rfl

theorem State.frameTaken_out : Out.rffe (quadKey t q) f.cmd ∈ (s.frameTaken t q f data bad).out := by
  rw [State.frameTaken, State.rffeFlushed_field _ _ _ (·.out) fun _ _ _ => rfl,
    State.resultTaken_field _ _ _ _ _ _ (·.out) (fun _ _ _ => rfl) (fun _ _ _ => rfl) fun x e => x.raise_out e]
  exact List.mem_append_right _ (List.mem_singleton_self _)

theorem State.frameTaken_now : f.stop ≤ (s.frameTaken t q f data bad).now := by
  rw [State.frameTaken, State.rffeFlushed_field _ _ _ (·.now) fun _ _ _ => rfl,
    State.resultTaken_field _ _ _ _ _ _ (·.now) (fun _ _ _ => rfl) (fun _ _ _ => rfl) fun x e => x.raise_now e]
  exact (le_max_right ..).trans (s.advance_now f.stop).ge

theorem State.frameOut_rffe : (s.frameOut t q f).rffe (quadKey t q) = { s.rffe (quadKey t q) with bus := none, freeAt := f.stop } := by
  have hrffe : ((s.advance f.stop).emit (.rffe (quadKey t q) f.cmd)).rffe (quadKey t q) = s.rffe (quadKey t q) :=
    s.advance_field _ (·.rffe (quadKey t q)) fun _ _ _ => rfl
  rw [State.frameOut, State.rffe_modRffe, hrffe]

/-- The master as the frame ends, where no flush waited. -/
theorem State.frameTaken_going (h : (s.rffe (quadKey t q)).flush = false) : (s.frameTaken t q f data bad).rffe (quadKey t q) =
    { s.rffe (quadKey t q) with
      bus := none, freeAt := f.stop,
      fifo := if rffeReads f.cmd.op then (s.rffe (quadKey t q)).fifo ++ [⟨bad, f.cmd.usid, f.cmd.addr, data⟩] else (s.rffe (quadKey t q)).fifo } := by
  have hmaster := (s.frameOut t q f).resultTaken_rffe t q f data bad
  rw [State.frameOut_rffe] at hmaster
  have hflush : ¬ (((s.frameOut t q f).resultTaken t q f data bad).rffe (quadKey t q)).flush = true := by
    rw [hmaster, h]
    decide
  rw [State.frameTaken, State.rffeFlushed, if_neg hflush, hmaster]

/-- And where one did. -/
theorem State.frameTaken_flushed (h : (s.rffe (quadKey t q)).flush = true) : (s.frameTaken t q f data bad).rffe (quadKey t q) =
    { s.rffe (quadKey t q) with bus := none, freeAt := f.stop, queue := [], timed := [], fifo := [], flush := false } := by
  have hmaster := (s.frameOut t q f).resultTaken_rffe t q f data bad
  rw [State.frameOut_rffe] at hmaster
  have hflush : (((s.frameOut t q f).resultTaken t q f data bad).rffe (quadKey t q)).flush = true := by rw [hmaster, h]
  rw [State.frameTaken, State.rffeFlushed, if_pos hflush, State.rffe_modRffe, hmaster]

theorem State.frameTaken_freeAt : ((s.frameTaken t q f data bad).rffe (quadKey t q)).freeAt = f.stop := by
  cases h : (s.rffe (quadKey t q)).flush with
  | false => rw [State.frameTaken_going s t q f data bad h]
  | true => rw [State.frameTaken_flushed s t q f data bad h]
end

/-- A result with bad parity shows in the master's status and is told of. -/
theorem State.frameTaken_parity (s : State) (t q : Fin 4) (f : RffeFrame) (data : Byte) (hreads : rffeReads f.cmd.op = true) :
    (s.frameTaken t q f data true).bit (RFFE_STAT t q) RFFE_STAT_PARERR = true ∧
    (s.mayAssert (Ev.RFFE_PARITY t) = true → (s.frameTaken t q f data true).stored (Ev.RFFE_PARITY t) = true) := by
  let w := (s.frameOut t q f).modRffe (quadKey t q) fun m => { m with fifo := m.fifo ++ [⟨true, f.cmd.usid, f.cmd.addr, data⟩] }
  have hkeeps : Keeps [RFFE_STAT t q] s (w.setBit (RFFE_STAT t q) RFFE_STAT_PARERR true) :=
    Keeps.setBit (u := w) ((Keeps.refl _ s).advance f.stop) _ _ _ (List.mem_singleton_self _)
  have htaken : (s.frameOut t q f).resultTaken t q f data true = (w.setBit (RFFE_STAT t q) RFFE_STAT_PARERR true).raise (Ev.RFFE_PARITY t) :=
    if_pos hreads
  rw [State.frameTaken, htaken, State.rffeFlushed_field _ _ _ (·.bit (RFFE_STAT t q) RFFE_STAT_PARERR) fun _ _ _ => rfl,
    State.rffeFlushed_field _ _ _ (·.stored (Ev.RFFE_PARITY t)) fun _ _ _ => rfl,
    State.bit_raise _ _ _ _ (eventReg_of_tile (by simp only [RFFE_STAT]; omega)), State.bit_setBit _ _ _ _ (by decide) (by decide)]
  exact ⟨rfl, Told.raised_rffe hkeeps (by simp)⟩

/-- What has been sent stays sent when a command has been judged. -/
theorem State.mem_out_settle {s : State} {o : Out} (h : o ∈ s.out) : o ∈ s.settle.out := by
  refine State.each_keeps (P := fun u => o ∈ u.out) (fun u v hu => ?_) _ h
  unfold State.sendMsi
  split
  · exact List.mem_append_left _ hu
  · exact hu

/-- The frame on the bus ends, and the next may begin. -/
theorem frame_done {s : State} {t q : Fin 4} {data : Byte} {f : RffeFrame} {bad : Bool} (h : (s.rffe (quadKey t q)).bus = some f) :
    let k := quadKey t q
    Answers (.rffeFrameDone t q data bad) s fun u =>
      Out.rffe k f.cmd ∈ u.out ∧ f.stop ≤ u.now ∧ (u.rffe k).freeAt = f.stop ∧
      (rffeReads f.cmd.op = true → bad = true → u.bit (RFFE_STAT t q) RFFE_STAT_PARERR = true ∧ Told s u (Ev.RFFE_PARITY t)) ∧
      ((s.rffe k).flush = false → (u.rffe k).fifo =
        if rffeReads f.cmd.op then (s.rffe k).fifo ++ [⟨bad, f.cmd.usid, f.cmd.addr, data⟩] else (s.rffe k).fifo) ∧
      ((s.rffe k).flush = true → (u.rffe k).bus = none ∧ (u.rffe k).queue = [] ∧ (u.rffe k).timed = [] ∧ (u.rffe k).fifo = []) := by
  intro k
  let x := s.frameTaken t q f data bad
  have hend : s.frameDone t q data bad = x.rffeNext t q := by
    unfold State.frameDone
    rw [h]
    exact State.frameEnd_eq ..
  have hgo : x.RffeGoesOn k (x.rffeNext t q) := x.rffeNext_goesOn t q
  have hsrc : Ev.RFFE_PARITY t ∈ [Ev.RFFE_QUEUE_FULL t, Ev.RFFE_PARITY t, Ev.RFFE_STEP_DELAYED t] := by simp
  obtain ⟨hlevel, -, hlt⟩ := rffeEvent_place t _ hsrc
  refine .of_done ((exec_rffeFrameDone ..).trans (congrArg done hend)) ⟨State.mem_out_settle ?_, ?_⟩
  · rw [hgo.out]
    exact s.frameTaken_out t q f data bad
  refine (State.settle_field _ (fun u => f.stop ≤ u.now ∧ (u.rffe k).freeAt = f.stop ∧
    (rffeReads f.cmd.op = true → bad = true → u.bit (RFFE_STAT t q) RFFE_STAT_PARERR = true ∧ Told s u (Ev.RFFE_PARITY t)) ∧
    ((s.rffe k).flush = false → (u.rffe k).fifo =
      if rffeReads f.cmd.op then (s.rffe k).fifo ++ [⟨bad, f.cmd.usid, f.cmd.addr, data⟩] else (s.rffe k).fifo) ∧
    ((s.rffe k).flush = true → (u.rffe k).bus = none ∧ (u.rffe k).queue = [] ∧ (u.rffe k).timed = [] ∧ (u.rffe k).fifo = []))
    fun _ _ _ => rfl).mpr ⟨?_, ?_, fun hreads hbad => ?_, fun hflush => ?_, fun hflush => ?_⟩
  · exact (s.frameTaken_now t q f data bad).trans hgo.now
  · rw [hgo.freeAt]
    exact s.frameTaken_freeAt t q f data bad
  · subst hbad
    obtain ⟨hshown, hstored⟩ := s.frameTaken_parity t q f data hreads
    have hstat : (x.rffeNext t q).reg (RFFE_STAT t q) = x.reg (RFFE_STAT t q) :=
      hgo.keeps.tileReg (List.not_mem_nil) (by simp only [RFFE_STAT]; omega)
    exact ⟨(congrArg (bitF · RFFE_STAT_PARERR) hstat).trans hshown, .of_stored hlevel fun hmay => hgo.stored _ hlt (hstored hmay)⟩
  · rw [hgo.fifo, s.frameTaken_going t q f data bad hflush]
  · have hmaster := s.frameTaken_flushed t q f data bad hflush
    rw [State.rffeNext_empty x t q (by rw [hmaster]) (by rw [hmaster]), hmaster]
    exact ⟨rfl, rfl, rfl, rfl⟩

/-! ### Results read (R228) -/

/-- A result as a read of RD shows it. -/
def RffeRes.word (r : RffeRes) : Word :=
  putF (putF (putF (putF (putF 0 RFFE_RD_VALID 1) RFFE_RD_PAR (b2n r.bad)) RFFE_RD_USID r.usid.toNat) RFFE_RD_ADDR r.addr.toNat) RFFE_RD_DATA r.data.toNat

theorem RffeRes.getF_word (r : RffeRes) : getF r.word RFFE_RD_VALID = 1 ∧ getF r.word RFFE_RD_PAR = b2n r.bad ∧
    getF r.word RFFE_RD_USID = r.usid.toNat ∧ getF r.word RFFE_RD_DATA = r.data.toNat ∧ getF r.word RFFE_RD_ADDR = r.addr.toNat := by
  have hpar : b2n r.bad % 2 ^ 1 = b2n r.bad := by cases r.bad <;> rfl
  have husid : r.usid.toNat % 2 ^ 4 = r.usid.toNat := Nat.mod_eq_of_lt r.usid.isLt
  have haddr : r.addr.toNat % 2 ^ 16 = r.addr.toNat := Nat.mod_eq_of_lt r.addr.isLt
  have hdata : r.data.toNat % 2 ^ 8 = r.data.toNat := Nat.mod_eq_of_lt r.data.isLt
  simp (disch := decide) only [RffeRes.word, getF_putF, getF_putF_ne, hpar, husid, haddr, hdata]
  decide

section
variable {s : State} {t q : Fin 4}

theorem State.rffeRead_empty (h : (s.rffe (quadKey t q)).fifo = []) : s.rffeRead t q = { s with reply := 0 } := by
  unfold State.rffeRead
  rw [h]

/-- The state with a word in the reply. -/
def State.withReply (s : State) (w : Word) : State := { s with reply := w }

theorem State.withReply_reply (s : State) (w : Word) : (s.withReply w).reply = w := rfl

theorem State.withReply_rffe (s : State) (w : Word) : (s.withReply w).rffe = s.rffe := rfl

theorem State.rffeRead_oldest {r : RffeRes} {rest : List RffeRes} (h : (s.rffe (quadKey t q)).fifo = r :: rest) : s.rffeRead t q =
    ((s.modRffe (quadKey t q) fun m => { m with fifo := rest }).rffeKick t q).withReply r.word := by
  simp only [State.rffeRead, h, RffeRes.word, State.withReply]

theorem exec_rffeRdRead_of (hans : s.answers (RFFE_RD t q) = true) : exec (.rffeRdRead t q) s = done (s.rffeRead t q) :=
  (exec_rffeRdRead ..).trans (congrArg done (State.guardedRead_of hans))

/-- A read of RD takes the oldest result. -/
theorem rffe_read {r : RffeRes} {rest : List RffeRes} (hans : s.answers (RFFE_RD t q) = true) (h : (s.rffe (quadKey t q)).fifo = r :: rest) :
    Answers (.rffeRdRead t q) s fun u =>
      getF u.reply RFFE_RD_VALID = 1 ∧ getF u.reply RFFE_RD_PAR = b2n r.bad ∧ getF u.reply RFFE_RD_USID = r.usid.toNat ∧
      getF u.reply RFFE_RD_DATA = r.data.toNat ∧ getF u.reply RFFE_RD_ADDR = r.addr.toNat ∧ (u.rffe (quadKey t q)).fifo = rest := by
  have hfifo : (((s.modRffe (quadKey t q) fun m => { m with fifo := rest }).rffeKick t q).rffe (quadKey t q)).fifo = rest := by
    rw [(State.rffeKick_goesOn _ t q).fifo, State.rffe_modRffe]
  refine .of_unsettled (exec_rffeRdRead_of hans) (fun _ _ _ => rfl) ?_
  rw [State.rffeRead_oldest h, State.withReply_reply, State.withReply_rffe, hfifo]
  obtain ⟨hvalid, hpar, husid, hdata, haddr⟩ := r.getF_word
  exact ⟨hvalid, hpar, husid, hdata, haddr, rfl⟩
end

/-- Settles O27: a command by the room in its master's queue, a frame by what the next one leaves of it, a timed frame by the bus, a read by the FIFO. -/
theorem rffeMasters : Obligations.RffeMasters := by
  intro s t q data
  refine ⟨fun usid addr i c hmem hans => ⟨rffe_full (exec_rffeCommand hmem s) hans, fun hroom hok => ?_, fun hroom hbad => ?_⟩,
    fun f bad => frame_done, fun x hfirst => ⟨fun hbus hfree hdue => ?_, timed_delayed hfirst rfl, fun hbusy => ?_⟩, fun hans hempty => ?_,
    fun r rest => rffe_read⟩
  · exact exec_of_guarded (exec_rffeCommand hmem s) hans (State.rffeCmd_joins hroom hok)
  · exact exec_of_guarded (exec_rffeCommand hmem s) hans (State.rffeCmd_bad hroom hbad)
  · exact exec_of_done (exec_rffeTimedFrameStart ..) (State.timedStart_punctual hfirst rfl hbus hfree hdue)
  · exact exec_of_done (exec_rffeTimedFrameStart ..) (State.timedStart_busy hfirst hbusy)
  · exact exec_of_done (exec_rffeRdRead_of hans) (State.rffeRead_empty hempty)

end Sys2Proof.Machine
end

section
/-!
PROOFS. Support for serial lanes and Ethernet ports (chapter 09): fields of registers beside those written, what a counter leaves, and the settings
of a lane and a port.
-/
namespace Sys2Proof.Machine
open Reg F

/-- The registers of lanes and ports lie below those of events. -/
theorem eventReg_of_low {a : Nat} (h : a < 0xB0000) : eventReg a = false := by
  simp only [eventReg, RILYN_LOG_DROP, RILYN_CNT_FLAGS, Bool.or_eq_false_iff, Bool.and_eq_false_iff, decide_eq_false_iff_not, beq_eq_false_iff_ne]
  omega

section
variable (s : State) (a : Nat) {f g : Fld}

theorem State.bit_setFld_apart (v : Nat) (h : f.lo + f.width ≤ g.lo ∨ g.lo + g.width ≤ f.lo) (hg : g.lo + g.width ≤ 32) :
    (s.setFld a f v).bit a g = s.bit a g := congrArg (· != 0) (s.fld_setFld_apart a f g v h hg)

theorem State.bit_setBit_apart (b : Bool) (h : f.lo + f.width ≤ g.lo ∨ g.lo + g.width ≤ f.lo) (hg : g.lo + g.width ≤ 32) :
    (s.setBit a f b).bit a g = s.bit a g := s.bit_setFld_apart a (b2n b) h hg

theorem State.fld_setBit_apart (b : Bool) (h : f.lo + f.width ≤ g.lo ∨ g.lo + g.width ≤ f.lo) (hg : g.lo + g.width ≤ 32) :
    (s.setBit a f b).fld a g = s.fld a g := s.fld_setFld_apart a f g (b2n b) h hg
end

section
variable {l : List Nat} {s u : State}

theorem Keeps.bump (h : Keeps l s u) (cnt fr fb n : Nat) (hc : cnt ∈ l) (hf : fr ∈ l) : Keeps l s (u.bump cnt fr fb n) :=
  h.trans ((Frame.refl l u).bump cnt fr fb n hc hf).keeps

/-- A register below those of events that is not among those that change. -/
theorem Keeps.lowReg (h : Keeps l s u) {a : Nat} (ha : a ∉ l) (hlow : a < 0xB0000) : u.reg a = s.reg a := by
  obtain ⟨hreg, -⟩ := h
  exact hreg a ha (eventReg_of_low hlow)
end

/-- What a counter that goes up leaves. -/
theorem State.bump_field (s : State) (cnt fr fb n : Nat) {α : Type} (m : State → α)
    (hm : ∀ (x : State) r g q l, m { x with regs := r, glides := g, logQ := q, loggedAts := l } = m x) : m (s.bump cnt fr fb n) = m s := by
  obtain ⟨r, g, q, l, h⟩ := s.bump_event cnt fr fb n
  rw [h, hm]

/-- What an event leaves. -/
theorem State.raise_field (s : State) (e : Nat) {α : Type} (m : State → α)
    (hm : ∀ (x : State) r g q l, m { x with regs := r, glides := g, logQ := q, loggedAts := l } = m x) : m (s.raise e) = m s := by
  obtain ⟨r, g, q, l, h⟩ := s.raise_event e
  rw [h, hm]

/-- The count of a counter of 32 bits is its register. -/
theorem State.toNat_reg_bump (s : State) (cnt fr fb n : Nat) (hc : eventReg cnt = false) (hf : cnt ≠ fr) :
    ((s.bump cnt fr fb n).reg cnt).toNat = min ((s.reg cnt).toNat + n) (2 ^ 32 - 1) := by
  have hwhole : ∀ u : State, u.fld cnt ⟨0, 32⟩ = (u.reg cnt).toNat := fun u => by
    simp only [State.fld, getF, Nat.pow_zero, Nat.div_one]
    exact Nat.mod_eq_of_lt (u.reg cnt).isLt
  simpa only [hwhole] using s.fld_bump cnt fr fb n hc hf

end Sys2Proof.Machine
end

section
/-!
PROOFS. Ethernet frames (R238 to R241, R246): the rows of Table 9-3 for a frame received, loops, the codewords of RS-FEC, and frames sent.
-/
namespace Sys2Proof.Machine
open Reg F

theorem exec_ethFrameReceive (p : Fin 8) (bytes : List Byte) (bad : Bool) (ago : Nat) (s : State) :
    exec (.ethFrameReceive p bytes bad ago) s = done (s.ethReceive p bytes bad ago) := rfl
theorem exec_ethFrameTransmit (p : Fin 8) (s : State) : exec (.ethFrameTransmit p) s = done (s.ethTransmit p) := rfl

/-! ### The rows of Table 9-3 -/

/-- A frame with one tag, and the EtherType behind it. -/
abbrev frameTagged (bytes : List Byte) : Prop :=
  num bytes 12 2 = 0x8100 ∧ num bytes 16 2 ≠ 0x8100 ∧ num bytes 16 2 ≠ 0x88A8 ∧ num bytes 16 2 ≠ 0x9100
def frameType (bytes : List Byte) : Nat := if frameTagged bytes then num bytes 16 2 else num bytes 12 2

/-- A frame whose length a port takes, whose destination it has, and whose tag is that of its fronthaul. -/
abbrev State.frameSized (s : State) (p : Nat) (bytes : List Byte) : Prop := 60 ≤ bytes.length ∧ bytes.length + 4 ≤ s.maxFrame p
abbrev State.frameMine (s : State) (p : Nat) (bytes : List Byte) : Prop :=
  slice bytes 0 6 = s.portAddr p ∨ natOf (slice bytes 0 6) = 0xFFFFFFFFFFFF ∨ natOf (slice bytes 0 6) = 0x011B19000000 ∨
    natOf (slice bytes 0 6) = 0x0180C200000E
abbrev State.frameOurs (s : State) (p : Nat) (bytes : List Byte) : Prop :=
  if s.bit (MAC_VLAN p) MAC_VLAN_FH_TAG then frameTagged bytes ∧ num bytes 14 2 % 4096 = s.fld (MAC_VLAN p) MAC_VLAN_FH_VID
  else ¬ frameTagged bytes

/-- A counter of a port goes up by one. -/
def State.portCount (s : State) (p a k : Nat) : State := s.bump a (MAC_CNT_FLAGS p) k 1

section
variable (s : State) (p : Nat) (bytes : List Byte) (ago : Nat)

/-- Table 9-3 below its first row. -/
theorem State.ethTake_good : s.ethTake p bytes false ago =
    if ¬ s.frameSized p bytes then s.portCount p (MAC_RX_DISCARD p) 3
    else if ¬ s.frameMine p bytes then s.portCount p (MAC_RX_DISCARD p) 3
    else if frameType bytes = 0x8808 then s.portCount p (MAC_RX_DISCARD p) 3
    else if frameType bytes = 0xAEFE ∧ s.frameOurs p bytes then
      (s.portCount p (MAC_RX_FRAMES p) 0).fhReceive p ago (bytes.drop (if frameTagged bytes then 18 else 14))
    else if frameType bytes = 0x88F7 then (s.portCount p (MAC_RX_FRAMES p) 0).ptpReceive p ago bytes
    else if s.bit (MAC_PCFG p) MAC_PCFG_MGMT_EN then
      { s.portCount p (MAC_RX_FRAMES p) 0 with mgmtIn := s.mgmtIn ++ [⟨p, s.now, bytes⟩] }
    else s.portCount p (MAC_RX_DISCARD p) 3 := by
  have htagged : (num bytes 12 2 == 0x8100 && num bytes 16 2 != 0x8100 && num bytes 16 2 != 0x88A8 && num bytes 16 2 != 0x9100) =
      decide (frameTagged bytes) := by
    simp only [frameTagged, Bool.decide_and, Bool.and_assoc, bne, beq_eq_decide, ne_eq, decide_not]
  have hsized : (bytes.length + 4 < 64 ∨ s.maxFrame p < bytes.length + 4) ↔ ¬ s.frameSized p bytes := by
    simp only [frameSized]
    omega
  have hmine : (slice bytes 0 6 ≠ s.portAddr p ∧ natOf (slice bytes 0 6) ≠ 0xFFFFFFFFFFFF ∧ natOf (slice bytes 0 6) ≠ 0x011B19000000 ∧
      natOf (slice bytes 0 6) ≠ 0x0180C200000E) ↔ ¬ s.frameMine p bytes := by simp only [frameMine, not_or, ne_eq]
  have hours : ((if s.bit (MAC_VLAN p) MAC_VLAN_FH_TAG then
      decide (frameTagged bytes) && num bytes 14 2 % 4096 == s.fld (MAC_VLAN p) MAC_VLAN_FH_VID else !decide (frameTagged bytes)) = true) ↔
      s.frameOurs p bytes := by
    simp only [frameOurs]
    split
    · rw [Bool.and_eq_true, decide_eq_true_eq, beq_iff_eq]
    · rw [Bool.not_eq_true', decide_eq_false_iff_not]
  unfold State.ethTake
  simp only [htagged, hsized, hmine, hours, decide_eq_true_eq, if_neg Bool.false_ne_true]
  rfl
end

/-! ### Frames received: loops, the link, and the codewords counted -/

/-- A port whose lanes are all in a far-end loop sends back what its pins bring (R246). -/
def State.farBack (s : State) (p : Nat) (bytes : List Byte) : State :=
  if (s.portLanes p).all s.farEnd then s.emit (.frame p bytes) else s

section
variable (s : State) (p : Nat) (bytes : List Byte)

theorem State.farBack_field {α : Type} (m : State → α) (hm : ∀ (x : State) o, m { x with out := o } = m x) : m (s.farBack p bytes) = m s := by
  unfold State.farBack
  split
  · exact hm ..
  · rfl

/-- The counters of a port's codewords, and the flags of its counters. -/
def fecRegs (p : Nat) : List Nat := [MAC_FEC_UNCORR p, MAC_FEC_CORR p, MAC_CNT_FLAGS p]

theorem State.fecCount_reg {a : Nat} (ha : a ∉ fecRegs p) (hlow : a < 0xB0000) : (s.fecCount p).reg a = s.reg a := by
  have hcounted : ∀ m n, Keeps (fecRegs p) s ((s.bump (MAC_FEC_UNCORR p) (MAC_CNT_FLAGS p) 5 m).bump (MAC_FEC_CORR p) (MAC_CNT_FLAGS p) 6 n) :=
    fun m n => ((Keeps.refl _ s).bump _ _ 5 m (by simp [fecRegs]) (by simp [fecRegs])).bump _ _ 6 n (by simp [fecRegs]) (by simp [fecRegs])
  exact (hcounted _ _).lowReg ha hlow

theorem State.fecCount_field {α : Type} (m : State → α)
    (hm : ∀ (x : State) r g q l, m { x with regs := r, glides := g, logQ := q, loggedAts := l } = m x)
    (hfree : ∀ x : State, m x.useFree = m x) : m (s.fecCount p) = m s := by
  unfold State.fecCount
  dsimp only
  rw [hfree, State.bump_field _ _ _ _ _ m hm, State.bump_field _ _ _ _ _ m hm]
end

/-- The state in which a frame is judged: sent back where it is looped, and its codewords counted. -/
def State.frameIn (s : State) (p : Nat) (bytes : List Byte) : State := (s.farBack p bytes).fecCount p

section
variable (s : State) (p : Fin 8) (bytes : List Byte)

/-- What the judging of a frame reads: settings of the port, the queue of management frames, the clock. -/
theorem State.frameIn_reg {a : Nat} (ha : a ∈ [MAC_PCFG p, MAC_ADDR_LO p, MAC_ADDR_HI p, MAC_VLAN p]) :
    (s.frameIn p bytes).reg a = s.reg a := by
  have hplace : a ∉ fecRegs p ∧ a < 0xB0000 := by
    simp only [List.mem_cons, List.not_mem_nil, or_false, MAC_PCFG, MAC_ADDR_LO, MAC_ADDR_HI, MAC_VLAN] at ha
    simp only [fecRegs, List.mem_cons, List.not_mem_nil, or_false, MAC_FEC_UNCORR, MAC_FEC_CORR, MAC_CNT_FLAGS]
    omega
  obtain ⟨hne, hlow⟩ := hplace
  exact (State.fecCount_reg _ _ hne hlow).trans (s.farBack_field p bytes (·.reg a) fun _ _ => rfl)

theorem State.frameIn_mgmtIn : (s.frameIn p bytes).mgmtIn = s.mgmtIn :=
  (State.fecCount_field _ _ (·.mgmtIn) (fun _ _ _ _ _ => rfl) fun _ => rfl).trans (s.farBack_field p bytes (·.mgmtIn) fun _ _ => rfl)

theorem State.frameIn_now : (s.frameIn p bytes).now = s.now :=
  (State.fecCount_field _ _ (·.now) (fun _ _ _ _ _ => rfl) fun _ => rfl).trans (s.farBack_field p bytes (·.now) fun _ _ => rfl)

theorem State.frameIn_pcfg (f : Fld) : (s.frameIn p bytes).fld (MAC_PCFG p) f = s.fld (MAC_PCFG p) f :=
  congrArg (getF · f) (s.frameIn_reg p bytes (by simp))

theorem State.frameIn_sized : (s.frameIn p bytes).frameSized p bytes = s.frameSized p bytes := by
  simp only [State.frameSized, State.maxFrame, State.frameIn_pcfg]

theorem State.frameIn_mine : (s.frameIn p bytes).frameMine p bytes = s.frameMine p bytes := by
  have haddr : (s.frameIn p bytes).portAddr p = s.portAddr p := by
    simp only [State.portAddr, State.fld, s.frameIn_reg p bytes (a := MAC_ADDR_HI p) (by simp), s.frameIn_reg p bytes (a := MAC_ADDR_LO p) (by simp)]
  rw [State.frameMine, haddr]

theorem State.frameIn_ours : (s.frameIn p bytes).frameOurs p bytes = s.frameOurs p bytes := by
  unfold State.frameOurs State.bit State.fld
  rw [s.frameIn_reg p bytes (by simp)]
end

section
variable {s : State} {p : Fin 8} {bytes : List Byte} {bad : Bool} {ago : Nat}

theorem State.ethReceive_near (hnear : (s.portLanes p).any s.nearEnd = true) : s.ethReceive p bytes bad ago = s := if_pos hnear

/-- Pins that no near-end loop shuts off. -/
theorem State.ethReceive_open (hnear : (s.portLanes p).any s.nearEnd = false) : s.ethReceive p bytes bad ago =
    if s.cutByDown p ago then (s.farBack p bytes).portCount p (MAC_RX_DISCARD p) 3
    else if s.bit (MAC_PSTAT p) MAC_PSTAT_LINK then (s.frameIn p bytes).ethTake p bytes bad ago else s.farBack p bytes := by
  have hcut : (s.farBack p bytes).cutByDown p ago = s.cutByDown p ago := s.farBack_field p bytes (·.cutByDown p ago) fun _ _ => rfl
  have hlink : (s.farBack p bytes).bit (MAC_PSTAT p) MAC_PSTAT_LINK = s.bit (MAC_PSTAT p) MAC_PSTAT_LINK :=
    s.farBack_field p bytes (·.bit (MAC_PSTAT p) MAC_PSTAT_LINK) fun _ _ => rfl
  rw [State.ethReceive, if_neg (by rw [hnear]; decide), ← hcut, ← hlink]
  change (if (s.farBack p bytes).cutByDown p ago then _ else if !(s.farBack p bytes).bit (MAC_PSTAT p) MAC_PSTAT_LINK then _ else _) = _
  cases (s.farBack p bytes).bit (MAC_PSTAT p) MAC_PSTAT_LINK <;> rfl

theorem State.ethReceive_linked (hnear : (s.portLanes p).any s.nearEnd = false) (hcut : s.cutByDown p ago = false)
    (hlink : s.bit (MAC_PSTAT p) MAC_PSTAT_LINK = true) : s.ethReceive p bytes bad ago = (s.frameIn p bytes).ethTake p bytes bad ago := by
  rw [State.ethReceive_open hnear, if_neg (by rw [hcut]; decide), if_pos hlink]

/-! Rows of Table 9-3 for a frame that the link brings whole. -/

theorem State.frameIn_discarded (h : ¬ s.frameSized p bytes ∨ ¬ s.frameMine p bytes ∨ frameType bytes = 0x8808) :
    (s.frameIn p bytes).ethTake p bytes false ago = (s.frameIn p bytes).portCount p (MAC_RX_DISCARD p) 3 := by
  simp only [State.ethTake_good, State.frameIn_sized, State.frameIn_mine]
  by_cases hsized : s.frameSized p bytes
  · rw [if_neg (not_not.2 hsized)]
    by_cases hmine : s.frameMine p bytes
    · rw [if_neg (not_not.2 hmine), if_pos ((h.resolve_left (not_not.2 hsized)).resolve_left (not_not.2 hmine))]
    · exact if_pos hmine
  · exact if_pos hsized

/-- The rows of the EtherTypes. -/
theorem State.frameIn_typed (hsized : s.frameSized p bytes) (hmine : s.frameMine p bytes) (hpause : frameType bytes ≠ 0x8808) :
    (s.frameIn p bytes).ethTake p bytes false ago =
      if frameType bytes = 0xAEFE ∧ s.frameOurs p bytes then
        ((s.frameIn p bytes).portCount p (MAC_RX_FRAMES p) 0).fhReceive p ago (bytes.drop (if frameTagged bytes then 18 else 14))
      else if frameType bytes = 0x88F7 then ((s.frameIn p bytes).portCount p (MAC_RX_FRAMES p) 0).ptpReceive p ago bytes
      else if s.bit (MAC_PCFG p) MAC_PCFG_MGMT_EN then
        { (s.frameIn p bytes).portCount p (MAC_RX_FRAMES p) 0 with mgmtIn := s.mgmtIn ++ [⟨p, s.now, bytes⟩] }
      else (s.frameIn p bytes).portCount p (MAC_RX_DISCARD p) 3 := by
  have hmgmt : (s.frameIn p bytes).bit (MAC_PCFG p) MAC_PCFG_MGMT_EN = s.bit (MAC_PCFG p) MAC_PCFG_MGMT_EN :=
    congrArg (· != 0) (s.frameIn_pcfg p bytes _)
  simp only [State.ethTake_good, State.frameIn_sized, State.frameIn_mine, State.frameIn_ours, hmgmt, State.frameIn_mgmtIn, State.frameIn_now]
  rw [if_neg (not_not.2 hsized), if_neg (not_not.2 hmine), if_neg hpause]
end

/-! ### Frames sent -/

section
variable {s : State} {p : Fin 8} {f : TxFrame}

theorem State.ethTransmit_down (h : s.bit (MAC_PSTAT p) MAC_PSTAT_LINK = false) : s.ethTransmit p = s := if_pos (by rw [h]; rfl)

theorem State.ethTransmit_next (hlink : s.bit (MAC_PSTAT p) MAC_PSTAT_LINK = true) (hidle : (s.port p).sending = none)
    (hnext : (s.port p).next = some f) : s.ethTransmit p =
      let z := (s.modPort p fun q => { q with queue := q.queue.erase f }).stampFrame p f
      z.1.modPort p fun q => { q with sending := some z.2, sentAt := z.1.now } := by
  rw [State.ethTransmit, if_neg (by rw [hlink]; decide)]
  dsimp only
  rw [hidle]
  dsimp only
  rw [hnext]

theorem State.port_modPort (s : State) (k : Nat) (g : Port → Port) : (s.modPort k g).port k = g (s.port k) :=
  (s.port_setPort ..).trans (if_pos rfl)

/-- Outside Test mode no loop acts (R246). -/
theorem State.laneLoop_of_not_test (h : s.mode ≠ .test) (l : Nat) : s.laneLoop l = 0 := if_neg fun hl => h hl.1

theorem typeLanes_pos (ty : Nat) : 0 < typeLanes ty := by
  unfold typeLanes
  split <;> decide

/-- A frame sent outside Test mode is counted and goes out. -/
theorem State.ethSent_out (h : s.mode ≠ .test) (bytes : List Byte) :
    s.ethSent p bytes = (s.bump (MAC_TX_FRAMES p) (MAC_CNT_FLAGS p) 1 1).emit (.frame p bytes) := by
  have hloop : ∀ u : State, u.mode = s.mode → ∀ l, u.laneLoop l = 0 := fun u hu => u.laneLoop_of_not_test (hu ▸ h)
  have hpins : ∀ u : State, u.mode = s.mode → (u.portLanes p).all u.pinsLocal = true := fun u hu => by
    simp [State.pinsLocal, State.farEnd, hloop u hu]
  have hnear : ∀ u : State, u.mode = s.mode → (u.portLanes p).all u.nearEnd = false := fun u hu => by
    have hlanes : ∃ x, x < typeLanes (portType u p) := ⟨0, typeLanes_pos _⟩
    simpa [State.nearEnd, hloop u hu, State.portLanes] using hlanes
  have hcount : (s.bump (MAC_TX_FRAMES p) (MAC_CNT_FLAGS p) 1 1).mode = s.mode := s.bump_field _ _ _ _ (·.mode) fun _ _ _ _ _ => rfl
  simp only [State.ethSent, State.when, hpins _ hcount, if_true]
  exact if_neg (by rw [hnear (State.emit _ _) hcount]; decide)

/-- The last frame of a port's queue ends. -/
theorem State.ethTransmit_last (hlink : s.bit (MAC_PSTAT p) MAC_PSTAT_LINK = true) (hmode : s.mode ≠ .test)
    (hsending : (s.port p).sending = some f) (hempty : (s.port p).queue = []) : s.ethTransmit p =
      ((s.modPort p fun q => { q with sending := none }).bump (MAC_TX_FRAMES p) (MAC_CNT_FLAGS p) 1 1).emit (.frame p f.bytes) := by
  have hsent := State.ethSent_out (s := s.modPort p fun q => { q with sending := none }) (p := p) hmode f.bytes
  have hport : (((s.modPort p fun q => { q with sending := none }).bump (MAC_TX_FRAMES p) (MAC_CNT_FLAGS p) 1 1).emit (.frame p f.bytes)).port p =
      { s.port p with sending := none } :=
    (State.bump_field _ _ _ _ _ (fun x => x.port p) fun _ _ _ _ _ => rfl).trans (s.port_modPort ..)
  rw [State.ethTransmit, if_neg (by rw [hlink]; decide)]
  dsimp only
  rw [hsending]
  dsimp only
  rw [hsent, hport, Port.next, hempty]
  rfl
end

/-! ### The statement -/

/-- Settles O30: the loops and the link first, then the first row of Table 9-3 that fits, in the state whose codewords are counted. -/
theorem ethernetFrames : Obligations.EthernetFrames := by
  intro s p bytes ago
  refine ⟨fun hnear bad => exec_of_done (exec_ethFrameReceive ..) (State.ethReceive_near hnear), fun hnear hcut bad => ?cut,
    fun hnear hcut hlink bad => ?down, fun hnear hcut hlink => ⟨?bad, fun h => ?discarded, fun hsized hmine htype hours => ?fronthaul,
      fun hsized hmine htype => ?ptp, fun hsized hmine hpause hfh hptp => ?mgmt⟩,
    fun hlink => exec_of_done (exec_ethFrameTransmit ..) (State.ethTransmit_down hlink),
    fun f hlink hidle hnext => exec_of_done (exec_ethFrameTransmit ..) (State.ethTransmit_next hlink hidle hnext),
    fun f hlink hmode hsending hempty => exec_of_done (exec_ethFrameTransmit ..) (State.ethTransmit_last hlink hmode hsending hempty)⟩
  case cut => exact exec_of_done (exec_ethFrameReceive ..) ((State.ethReceive_open hnear).trans (if_pos hcut))
  case down =>
    refine exec_of_done (exec_ethFrameReceive ..) ((State.ethReceive_open hnear).trans ?_)
    rw [if_neg (by rw [hcut]; decide), if_neg (by rw [hlink]; decide)]
    rfl
  case bad => exact exec_of_done (exec_ethFrameReceive ..) (State.ethReceive_linked hnear hcut hlink)
  case discarded =>
    exact exec_of_done (exec_ethFrameReceive ..) ((State.ethReceive_linked hnear hcut hlink).trans (State.frameIn_discarded h))
  all_goals have hrow : ∀ hpause, s.ethReceive p bytes false ago = _ := fun hpause =>
    (State.ethReceive_linked hnear hcut hlink).trans (State.frameIn_typed hsized hmine hpause)
  case fronthaul =>
    exact exec_of_done (exec_ethFrameReceive ..) ((hrow (by rw [frameType, htype]; decide)).trans (if_pos ⟨htype, hours⟩))
  case ptp =>
    exact exec_of_done (exec_ethFrameReceive ..) ((hrow (htype.trans_ne (by decide))).trans
      ((if_neg fun h => absurd (htype.symm.trans h.1) (by decide)).trans (if_pos htype)))
  case mgmt =>
    refine (exec_of_done (exec_ethFrameReceive ..) ((hrow hpause).trans ((if_neg hfh).trans (if_neg hptp)))).trans ?_
    split <;> rfl

end Sys2Proof.Machine
end
section
/-!
PROOFS. The links of the ports (R237, R238): what makes a link due, a link that follows it, and one that goes down.
-/
namespace Sys2Proof.Machine
open Reg F

theorem exec_macLinkChange (p : Fin 8) (aligned lf rf : Bool) (skew : Nat) (s : State) :
    exec (.macLinkChange p aligned lf rf skew) s = done (s.macLink p aligned lf rf skew) := rfl

/-! ### The registers of a link -/

/-- A field that is given the value it has. -/
theorem putF_getF (w : Word) (f : Fld) : putF w f (getF w f) = w := by
  refine BitVec.eq_of_getLsbD_eq fun i hi => ?_
  simp only [putF, maskF, getF, BitVec.getLsbD_or, BitVec.getLsbD_and, BitVec.getLsbD_not, BitVec.getLsbD_ofNat, hi, decide_true, Bool.true_and,
    Nat.testBit_mul_two_pow, Nat.testBit_two_pow_sub_one, Nat.testBit_mod_two_pow, Nat.testBit_div_two_pow]
  by_cases hlo : f.lo ≤ i
  · by_cases hwidth : i - f.lo < f.width
    · simp [hlo, hwidth, BitVec.testBit_toNat]
    · simp [hwidth]
  · simp [hlo]

/-- A bit that is given the value it has. -/
theorem putF_b2n_of_bitF {w : Word} {f : Fld} {b : Bool} (hw : f.width = 1) (h : bitF w f = b) : putF w f (b2n b) = w := by
  have hlt : getF w f < 2 ^ f.width := Nat.mod_lt _ (Nat.two_pow_pos _)
  have hval : b2n b = getF w f := by
    rw [hw] at hlt
    subst h
    unfold bitF
    cases hv : getF w f with
    | zero => rfl
    | succ n =>
      have hn : n = 0 := by omega
      rw [hn]
      rfl
  rw [hval, putF_getF]

/-- The registers that a change of a port's link changes. -/
def portRegs (p : Nat) : List Nat := [MAC_PSTAT p, MAC_TX_DISCARD p, MAC_CNT_FLAGS p]

theorem pstat_low (p : Fin 8) : MAC_PSTAT p < 0xB0000 := by
  simp only [MAC_PSTAT]
  omega

theorem pstat_mem_portRegs (p : Nat) : MAC_PSTAT p ∈ portRegs p := List.mem_cons_self ..

/-- The conditions of a link (R238). -/
def State.linkDue (s : State) (p : Nat) : Bool :=
  s.portUsable p && s.lanesUp p && s.bit (MAC_PSTAT p) MAC_PSTAT_ALIGNED && !s.bit (MAC_PSTAT p) MAC_PSTAT_LOCAL_FAULT &&
    !s.bit (MAC_PSTAT p) MAC_PSTAT_REMOTE_FAULT

/-- Settings of lanes and ports lie apart from the status of a port. -/
theorem pstat_apart (p : Fin 8) {a n : Nat} (ha : a ∈ [MAC_PCFG n, LANEQ_LSTAT n, LANEQ_LCTRL n, LANEQ_QCFG n]) : a ≠ MAC_PSTAT p := by
  simp only [List.mem_cons, List.not_mem_nil, or_false, MAC_PCFG, LANEQ_LSTAT, LANEQ_LCTRL, LANEQ_QCFG] at ha
  simp only [MAC_PSTAT]
  omega

section
variable (s : State) (p : Fin 8) (w : Word)

/-- What a port shows of its status says nothing of its lanes. -/
theorem State.lanesUp_pstat (q : Nat) : (s.setReg (MAC_PSTAT p) w).lanesUp q = s.lanesUp q := by
  have hreg : ∀ a n, a ∈ [MAC_PCFG n, LANEQ_LSTAT n, LANEQ_LCTRL n, LANEQ_QCFG n] → ∀ f,
      (s.setReg (MAC_PSTAT p) w).fld a f = s.fld a f := fun a n ha f => congrArg (getF · f) (s.reg_setReg_ne w (pstat_apart p ha))
  have hcfg := fun n => hreg (MAC_PCFG n) n (by simp)
  have hstat := fun n => hreg (LANEQ_LSTAT n) n (by simp)
  have hctrl := fun n => hreg (LANEQ_LCTRL n) n (by simp)
  have hquad := fun n => hreg (LANEQ_QCFG n) n (by simp)
  simp only [State.lanesUp, State.portLanes, portType, portLane, State.laneIs, State.lanePattern, State.patternOf, State.setReg_mode, hcfg, hstat,
    hctrl, hquad]
end

/-! ### A link that goes down -/

/-- The link is down, and a frame being sent is counted as discarded. -/
def State.linkCut (s : State) (p : Nat) : State :=
  let u := s.setBit (MAC_PSTAT p) MAC_PSTAT_LINK false
  if (u.port p).sending.isSome then u.bump (MAC_TX_DISCARD p) (MAC_CNT_FLAGS p) 4 1 else u

section
variable {s : State} {p : Nat}

theorem State.linkDown_up (h : s.bit (MAC_PSTAT p) MAC_PSTAT_LINK = true) : s.linkDown p =
    ((s.linkCut p).modPort p fun q => { q with sending := none, downAt := some (s.linkCut p).now }).raise Ev.MAC_LINK_DOWN := if_pos h

theorem State.linkDown_not (h : s.bit (MAC_PSTAT p) MAC_PSTAT_LINK = false) : s.linkDown p = s := if_neg (by rw [h]; decide)
end

section
variable (s : State) (p : Nat)

theorem State.linkCut_keeps : Keeps (portRegs p) s (s.linkCut p) := by
  have hlink := (Keeps.refl (portRegs p) s).setBit _ MAC_PSTAT_LINK false (pstat_mem_portRegs p)
  unfold State.linkCut
  dsimp only
  split
  · exact hlink.bump _ _ _ _ (by simp [portRegs]) (by simp [portRegs])
  · exact hlink

theorem State.linkDown_keeps : Keeps (portRegs p) s (s.linkDown p) := by
  cases h : s.bit (MAC_PSTAT p) MAC_PSTAT_LINK
  · rw [State.linkDown_not h]
    exact .refl ..
  · rw [State.linkDown_up h]
    exact Keeps.event (u := (s.linkCut p).modPort p _) (s.linkCut_keeps p) _

variable (p : Fin 8)

theorem State.linkCut_pstat : (s.linkCut p).reg (MAC_PSTAT p) = (s.setBit (MAC_PSTAT p) MAC_PSTAT_LINK false).reg (MAC_PSTAT p) := by
  have hne : MAC_PSTAT p ∉ [MAC_TX_DISCARD p, MAC_CNT_FLAGS p] := by
    simp only [List.mem_cons, List.not_mem_nil, or_false, MAC_PSTAT, MAC_TX_DISCARD, MAC_CNT_FLAGS]
    omega
  unfold State.linkCut
  dsimp only
  split
  · exact ((Keeps.refl _ _).bump _ _ _ _ (by simp) (by simp)).lowReg hne (pstat_low p)
  · rfl

theorem State.linkDown_pstat : (s.linkDown p).reg (MAC_PSTAT p) = putF (s.reg (MAC_PSTAT p)) MAC_PSTAT_LINK (b2n false) := by
  cases h : s.bit (MAC_PSTAT p) MAC_PSTAT_LINK
  · rw [State.linkDown_not h]
    exact (putF_b2n_of_bitF rfl h).symm
  · rw [State.linkDown_up h, State.reg_raise _ _ _ (eventReg_of_low (pstat_low p))]
    exact (s.linkCut_pstat p).trans (s.reg_setReg_same _ _)
end

/-! ### A link that follows its conditions -/

section
variable (s : State) (p : Fin 8)

theorem State.trainPort_reg (p a : Nat) : (s.trainPort p).reg a = s.reg a := by
  unfold State.trainPort
  split
  · exact State.reg_each _ _ _ _ fun _ _ => rfl
  · rfl

theorem State.judgeLink_eq (p : Nat) : s.judgeLink p =
    if s.linkDue p = true then
      if s.bit (MAC_PSTAT p) MAC_PSTAT_LINK then s else ((s.setBit (MAC_PSTAT p) MAC_PSTAT_LINK true).trainPort p).raise Ev.MAC_LINK_UP
    else s.linkDown p := rfl

theorem State.judgeLink_down (hdue : s.linkDue p = false) : s.judgeLink p = s.linkDown p := by
  rw [State.judgeLink_eq, hdue, if_neg Bool.false_ne_true]

/-- The status of a port as its link is judged. -/
theorem State.judgeLink_pstat : (s.judgeLink p).reg (MAC_PSTAT p) = putF (s.reg (MAC_PSTAT p)) MAC_PSTAT_LINK (b2n (s.linkDue p)) := by
  cases hdue : s.linkDue p
  · rw [s.judgeLink_down p hdue, s.linkDown_pstat]
  · rw [State.judgeLink_eq, if_pos hdue]
    split
    · next hlink => exact (putF_b2n_of_bitF rfl hlink).symm
    · rw [State.reg_raise _ _ _ (eventReg_of_low (pstat_low p)), State.trainPort_reg]
      exact s.reg_setReg_same _ _

theorem State.judgeLink_link : (s.judgeLink p).bit (MAC_PSTAT p) MAC_PSTAT_LINK = s.linkDue p := by
  rw [State.bit, s.judgeLink_pstat, ← s.reg_setReg_same (MAC_PSTAT p) (putF _ _ _)]
  exact s.bit_setBit (MAC_PSTAT p) MAC_PSTAT_LINK (s.linkDue p) (by decide) rfl

theorem State.judgeLink_bit {g : Fld} (h : MAC_PSTAT_LINK.lo + MAC_PSTAT_LINK.width ≤ g.lo ∨ g.lo + g.width ≤ MAC_PSTAT_LINK.lo)
    (hg : g.lo + g.width ≤ 32) : (s.judgeLink p).bit (MAC_PSTAT p) g = s.bit (MAC_PSTAT p) g := by
  rw [State.bit, s.judgeLink_pstat]
  exact congrArg (· != 0) (getF_putF_ne _ _ _ _ h hg)

end

/-! ### What a link that goes down tells -/

section
variable {s : State} {p : Fin 8}

theorem State.linkDown_sending (h : s.bit (MAC_PSTAT p) MAC_PSTAT_LINK = true) : ((s.linkDown p).port p).sending = none := by
  rw [State.linkDown_up h, State.raise_field _ _ (fun u => u.port p) fun _ _ _ _ _ => rfl, State.port_modPort]

/-- MAC_LINK_DOWN follows a port that is enabled and has no link (Table 21-3). -/
theorem State.levelCond_linkDown (hen : s.bit (MAC_PCFG p) MAC_PCFG_EN = true) (hlink : s.bit (MAC_PSTAT p) MAC_PSTAT_LINK = false) :
    s.levelCond Ev.MAC_LINK_DOWN = true := by
  rw [State.levelCond, if_pos rfl, List.any_eq_true]
  exact ⟨p, List.mem_range.2 p.2, by rw [hen, hlink]; rfl⟩

/-- A link that goes down shows: as an event, or by the condition that its source follows. -/
theorem State.linkDown_status (h : s.bit (MAC_PSTAT p) MAC_PSTAT_LINK = true)
    (htold : s.follows Ev.MAC_LINK_DOWN = false ∨ s.bit (MAC_PCFG p) MAC_PCFG_EN = true) : (s.linkDown p).status Ev.MAC_LINK_DOWN = true := by
  have hplace : HIVE_SRC_CFG Ev.MAC_LINK_DOWN ∉ portRegs p ∧ MAC_PCFG p ∉ portRegs p ∧ MAC_PCFG p < 0xB0000 := by
    simp only [portRegs, List.mem_cons, List.not_mem_nil, or_false, HIVE_SRC_CFG, MAC_PCFG, MAC_PSTAT, MAC_TX_DISCARD, MAC_CNT_FLAGS]
    omega
  obtain ⟨hcfg, hpcfg, hlow⟩ := hplace
  have hfollows : ∀ u : State, Keeps (portRegs p) s u → u.follows Ev.MAC_LINK_DOWN = s.follows Ev.MAC_LINK_DOWN := fun u ⟨hreg, _⟩ => by
    rw [State.follows, State.bit, hreg _ hcfg (by decide)]
    rfl
  have hdown := s.linkDown_keeps p
  rw [State.status, hfollows _ hdown]
  cases hf : s.follows Ev.MAC_LINK_DOWN
  · rw [if_neg Bool.false_ne_true, State.linkDown_up h]
    exact State.stored_raise _ _ (by rfl) ((hfollows _ (s.linkCut_keeps p)).trans hf)
  · rw [if_pos rfl]
    refine State.levelCond_linkDown (p := p) ?_ ?_
    · rw [State.bit, hdown.lowReg hpcfg hlow]
      exact htold.resolve_left (by rw [hf]; decide)
    · rw [State.bit, s.linkDown_pstat, bitF, getF_putF _ _ _ (by decide)]
      rfl
end

/-! ### MAC_LINK_CHANGE -/

/-- Alignment and faults of a port as they are reported. -/
def State.portTold (s : State) (p : Nat) (aligned lf rf : Bool) : State :=
  ((s.setAligned p aligned).setBit (MAC_PSTAT p) MAC_PSTAT_LOCAL_FAULT lf).setBit (MAC_PSTAT p) MAC_PSTAT_REMOTE_FAULT rf

section
variable (s : State) (p : Fin 8) (aligned lf rf : Bool)

theorem State.macLink_eq (skew : Nat) : s.macLink p aligned lf rf skew =
    (s.portTold p (aligned && (typeLanes (portType s p) == 1 || decide (skew ≤ 64))) lf rf).judgeLink p := rfl

theorem State.portTold_bits : let u := s.portTold p aligned lf rf
    u.bit (MAC_PSTAT p) MAC_PSTAT_ALIGNED = (aligned && s.portUsable p && s.lanesUp p) ∧ u.bit (MAC_PSTAT p) MAC_PSTAT_LOCAL_FAULT = lf ∧
    u.bit (MAC_PSTAT p) MAC_PSTAT_REMOTE_FAULT = rf ∧ u.bit (MAC_PSTAT p) MAC_PSTAT_LINK = s.bit (MAC_PSTAT p) MAC_PSTAT_LINK ∧
    u.bit (MAC_PSTAT p) MAC_PSTAT_INVALID = s.bit (MAC_PSTAT p) MAC_PSTAT_INVALID := by
  unfold State.portTold State.setAligned
  simp (disch := decide) only [State.bit_setBit, State.bit_setBit_apart, and_self]

theorem State.portTold_keeps : Keeps [MAC_PSTAT p] s (s.portTold p aligned lf rf) :=
  (((Keeps.refl _ s).setBit _ _ _ (by simp)).setBit _ _ _ (by simp)).setBit _ _ _ (by simp)

theorem pcfg_place (p : Fin 8) : MAC_PCFG p ∉ [MAC_PSTAT p] ∧ MAC_PCFG p < 0xB0000 := by
  simp only [List.mem_singleton, MAC_PCFG, MAC_PSTAT]
  omega

/-- What is reported of a port makes its link due where it is usable, its lanes are up and no fault is signalled. -/
theorem State.portTold_linkDue : (s.portTold p aligned lf rf).linkDue p = (s.portUsable p && s.lanesUp p && aligned && !lf && !rf) := by
  obtain ⟨haligned, hlf, hrf, -, hinvalid⟩ := s.portTold_bits p aligned lf rf
  have hlanes : (s.portTold p aligned lf rf).lanesUp p = s.lanesUp p := by
    simp only [State.portTold, State.setAligned, State.setBit_eq, State.lanesUp_pstat]
  have husable : (s.portTold p aligned lf rf).portUsable p = s.portUsable p := by
    obtain ⟨hne, hlow⟩ := pcfg_place p
    rw [State.portUsable, hinvalid, State.bit, (s.portTold_keeps p aligned lf rf).lowReg hne hlow]
    rfl
  rw [State.linkDue, haligned, hlf, hrf, hlanes, husable]
  cases s.portUsable p <;> cases s.lanesUp p <;> simp
end

/-- A port told of and judged: its status, and a link that goes down. -/
theorem State.portTold_judged (s : State) (p : Fin 8) (told lf rf : Bool) :
    let u := (s.portTold p told lf rf).judgeLink p
    let ready := s.portUsable p && s.lanesUp p && told
    u.bit (MAC_PSTAT p) MAC_PSTAT_ALIGNED = ready ∧ u.bit (MAC_PSTAT p) MAC_PSTAT_LOCAL_FAULT = lf ∧
    u.bit (MAC_PSTAT p) MAC_PSTAT_REMOTE_FAULT = rf ∧ u.bit (MAC_PSTAT p) MAC_PSTAT_LINK = (ready && !lf && !rf) ∧
    (s.bit (MAC_PSTAT p) MAC_PSTAT_LINK = true → (ready && !lf && !rf) = false →
      (u.port p).sending = none ∧
      (s.follows Ev.MAC_LINK_DOWN = false ∨ s.bit (MAC_PCFG p) MAC_PCFG_EN = true → u.status Ev.MAC_LINK_DOWN = true)) := by
  intro u ready
  obtain ⟨haligned, hlf, hrf, hlink, -⟩ := s.portTold_bits p told lf rf
  have hdue : (s.portTold p told lf rf).linkDue p = (ready && !lf && !rf) := s.portTold_linkDue p told lf rf
  have hready : (told && s.portUsable p && s.lanesUp p) = ready := by rw [Bool.and_assoc, Bool.and_comm]
  refine ⟨?_, ?_, ?_, (State.judgeLink_link ..).trans hdue, fun hup hoff => ?_⟩
  · exact (State.judgeLink_bit _ _ (by decide) (by decide)).trans (haligned.trans hready)
  · exact (State.judgeLink_bit _ _ (by decide) (by decide)).trans hlf
  · exact (State.judgeLink_bit _ _ (by decide) (by decide)).trans hrf
  · have hkeeps := s.portTold_keeps p told lf rf
    obtain ⟨hreg, -⟩ := id hkeeps
    have hcfg : HIVE_SRC_CFG Ev.MAC_LINK_DOWN ∉ [MAC_PSTAT p] := by
      simp only [List.mem_singleton, HIVE_SRC_CFG, MAC_PSTAT]
      omega
    obtain ⟨hne, hlow⟩ := pcfg_place p
    rw [show u = (s.portTold p told lf rf).linkDown p from State.judgeLink_down _ _ (hdue.trans hoff)]
    refine ⟨State.linkDown_sending (hlink.trans hup), fun hsource => State.linkDown_status (hlink.trans hup) ?_⟩
    rw [State.follows, State.bit, hreg _ hcfg (by decide), State.bit, hkeeps.lowReg hne hlow]
    exact hsource

end Sys2Proof.Machine
end

section
/-!
PROOFS. Eye scans (R244, R245): how a point begins and ends; with the links of the ports, the statement on both.
-/
namespace Sys2Proof.Machine
open Reg F

theorem exec_eyeScanGo (w : Word) (s : State) : exec (.eyeScanGo w) s = done (s.guarded LANEQ_EYE_CTRL fun s => s.eyeGo w) := rfl
theorem exec_eyeScanDone (n : Nat) (s : State) : exec (.eyeScanDone n) s = done (s.eyeDone n) := rfl

/-! ### A point ends -/

/-- No point is in progress; the lane of the one that was has been scanned. -/
def State.eyeFreed (s : State) : State :=
  match s.eye with
  | some e => { (s.modLane e.lane fun x => { x with scanned := true }) with eye := none }
  | none => s

section
variable (s : State) (r : Nat)

theorem State.eyeFreed_eq : ∃ x, s.eyeFreed = { s with eye := none, lanes := x } := by
  unfold State.eyeFreed
  split
  · exact ⟨_, rfl⟩
  · next h => exact ⟨s.lanes, by rw [← h]⟩

theorem State.eyeFreed_field {α : Type} (m : State → α) (hm : ∀ (x : State) ls e, m { x with eye := e, lanes := ls } = m x) :
    m s.eyeFreed = m s := by
  obtain ⟨ls, h⟩ := s.eyeFreed_eq
  rw [h]
  exact hm ..

theorem State.eyeEnd_eq : s.eyeEnd r = (((s.eyeFreed.setFld LANEQ_EYE_STAT LANEQ_EYE_STAT_RESULT r).setBit LANEQ_EYE_STAT LANEQ_EYE_STAT_DONE
    true).setBit LANEQ_EYE_STAT LANEQ_EYE_STAT_BUSY false).raise Ev.EYESCAN_DONE := rfl

/-- What the end of a point shows (R244). -/
theorem State.eyeEnd_shown : (s.eyeEnd r).bit LANEQ_EYE_STAT LANEQ_EYE_STAT_BUSY = false ∧
    (s.eyeEnd r).bit LANEQ_EYE_STAT LANEQ_EYE_STAT_DONE = true ∧ (s.eyeEnd r).fld LANEQ_EYE_STAT LANEQ_EYE_STAT_RESULT = r % 2 ^ 2 ∧
    (s.eyeEnd r).stored Ev.EYESCAN_DONE = true := by
  rw [State.eyeEnd_eq]
  refine ⟨?_, ?_, ?_, State.stored_raise_hub _ _ (by decide) (by decide)⟩
  · rw [State.bit_raise _ _ _ _ (by decide), State.bit_setBit _ _ _ _ (by decide) rfl]
  · rw [State.bit_raise _ _ _ _ (by decide), State.bit_setBit_apart _ _ _ (by decide) (by decide), State.bit_setBit _ _ _ _ (by decide) rfl]
  · rw [State.fld_raise _ _ _ _ (by decide), State.fld_setBit_apart _ _ _ (by decide) (by decide),
      State.fld_setBit_apart _ _ _ (by decide) (by decide), State.fld_setFld _ _ _ _ (by decide)]

theorem State.eyeEnd_eye : (s.eyeEnd r).eye = none := by
  obtain ⟨_, h⟩ := s.eyeFreed_eq
  rw [State.eyeEnd_eq, State.raise_eye, h]
  rfl

theorem State.eyeEnd_now : (s.eyeEnd r).now = s.now := (State.raise_now _ _).trans (s.eyeFreed_field (·.now) fun _ _ _ => rfl)

theorem State.eyeEnd_keeps : Keeps [LANEQ_EYE_STAT] s (s.eyeEnd r) := by
  have hfreed : Keeps [LANEQ_EYE_STAT] s s.eyeFreed := (s.eyeFreed_field (Keeps [LANEQ_EYE_STAT] s) fun _ _ _ => rfl).mpr (.refl ..)
  exact (((hfreed.setFld _ _ _ (by simp)).setBit _ _ _ (by simp)).setBit _ _ _ (by simp)).event _
end

/-- EYE_SCAN_DONE: the point completes with its count. -/
theorem eyeScan_done {s : State} {e : EyeScan} (heye : s.eye = some e) (n : Nat) : Answers (.eyeScanDone n) s fun u =>
    u.eye = none ∧ u.now = max s.now e.stop ∧
    u.bit LANEQ_EYE_STAT LANEQ_EYE_STAT_BUSY = false ∧ u.bit LANEQ_EYE_STAT LANEQ_EYE_STAT_DONE = true ∧
    u.fld LANEQ_EYE_STAT LANEQ_EYE_STAT_RESULT = 0 ∧ u.stored Ev.EYESCAN_DONE = true ∧
    (u.reg LANEQ_EYE_ERR).toNat = min ((s.reg LANEQ_EYE_ERR).toNat + n) (2 ^ 32 - 1) := by
  have hdone : s.eyeDone n = ((s.advance e.stop).bump LANEQ_EYE_ERR LANEQ_CNT_FLAGS 16 n).eyeEnd 0 := by rw [State.eyeDone, heye]
  refine .of_unsettled (exec_eyeScanDone ..) (fun _ _ _ => rfl) ?_
  rw [hdone, (State.eyeEnd_keeps _ 0).lowReg (by decide) (by decide), State.toNat_reg_bump _ _ _ _ _ (by decide) (by decide), s.advance_reg,
    State.eyeEnd_now, State.bump_field _ _ _ _ _ (·.now) fun _ _ _ _ _ => rfl, s.advance_now]
  obtain ⟨hbusy, hend, hresult, htold⟩ := State.eyeEnd_shown ((s.advance e.stop).bump LANEQ_EYE_ERR LANEQ_CNT_FLAGS 16 n) 0
  exact ⟨State.eyeEnd_eye .., rfl, hbusy, hend, hresult, htold, rfl⟩

/-! ### A point begins -/

/-- A lane on which no point can run: not ACTIVE, not locked, or looped apart from its receiver (R244, R245). -/
def State.eyeBarred (s : State) (l : Nat) : Prop := s.laneState l ≠ laneActive ∨ s.bit (LANEQ_LSTAT l) LANEQ_LSTAT_CDR_LOCK = false ∨
  (s.mode = .test ∧ s.fld (LANEQ_LCTRL l) LANEQ_LCTRL_LOOP = 2)

/-- EYE_CTRL is written, and the count of a new point cleared. -/
def State.eyeArmed (s : State) (w : Word) : State :=
  ((s.plainWrite LANEQ_EYE_CTRL w).setReg LANEQ_EYE_ERR 0).setBit LANEQ_CNT_FLAGS LANEQ_CNT_FLAGS_EYE_OVF false

/-- A point that runs on lane l until `stop`. -/
def State.eyeRuns (s : State) (l stop : Nat) : State :=
  { ((s.setBit LANEQ_EYE_STAT LANEQ_EYE_STAT_BUSY true).setBit (LANEQ_LSTAT l) LANEQ_LSTAT_FOM_STALE true) with eye := some ⟨l, stop⟩ }

/-- When a point that begins now ends: its symbols at the lane's rate, and 2 µs (R244). -/
def State.eyeStop (s : State) (w : Word) : Nat :=
  let rate := symbolRate (s.fld (LANEQ_QCFG (getF w LANEQ_EYE_CTRL_LANE / 4)) LANEQ_QCFG_RATE)
  s.now + (2 ^ clampN 16 36 (getF w LANEQ_EYE_CTRL_DWELL_LOG2) * 196608 + rate - 1) / rate + usTc 2

section
variable {s : State} {w : Word}

theorem State.eyeArmed_keeps : Keeps [LANEQ_EYE_CTRL, LANEQ_EYE_ERR, LANEQ_CNT_FLAGS] s (s.eyeArmed w) :=
  ((((Frame.refl _ s).plainWrite _ w (by simp)).setReg _ 0 (by simp)).setBit _ _ false (by simp)).keeps

theorem State.eyeArmed_frame : Frame [LANEQ_EYE_CTRL, LANEQ_EYE_ERR, LANEQ_CNT_FLAGS] s (s.eyeArmed w) :=
  (((Frame.refl _ s).plainWrite _ w (by simp)).setReg _ 0 (by simp)).setBit _ _ false (by simp)

/-- The registers of a lane, and of its quad, lie apart from those of eye scans. -/
theorem lane_apart_eye {l : Nat} (h : l < 16) : ∀ a ∈ [LANEQ_LSTAT l, LANEQ_LCTRL l, LANEQ_QCFG (l / 4)],
    a ∉ [LANEQ_EYE_CTRL, LANEQ_EYE_ERR, LANEQ_CNT_FLAGS] ∧ a < 0xB0000 := by
  simp only [List.mem_cons, List.not_mem_nil, or_false, LANEQ_LSTAT, LANEQ_LCTRL, LANEQ_QCFG, LANEQ_EYE_CTRL, LANEQ_EYE_ERR, LANEQ_CNT_FLAGS]
  omega

theorem State.eyeArmed_reg {l : Nat} (h : l < 16) {a : Nat} (ha : a ∈ [LANEQ_LSTAT l, LANEQ_LCTRL l, LANEQ_QCFG (l / 4)]) :
    (s.eyeArmed w).reg a = s.reg a := by
  obtain ⟨hne, hlow⟩ := lane_apart_eye h a ha
  exact State.eyeArmed_keeps.lowReg hne hlow

theorem State.eyeArmed_err : (s.eyeArmed w).reg LANEQ_EYE_ERR = 0 := by
  rw [State.eyeArmed, State.setBit_eq, State.reg_setReg_ne _ _ (by decide), State.reg_setReg_same]

theorem State.eyeArmed_barred {l : Nat} (h : l < 16) : (s.eyeArmed w).eyeBarred l ↔ s.eyeBarred l := by
  have hmode : (s.eyeArmed w).mode = s.mode := State.eyeArmed_frame.field (·.mode) fun _ => rfl
  simp only [State.eyeBarred, State.laneState, State.bit, State.fld, hmode, State.eyeArmed_reg h (a := LANEQ_LSTAT l) (by simp),
    State.eyeArmed_reg h (a := LANEQ_LCTRL l) (by simp)]

theorem getF_eyeLane_lt (w : Word) : getF w LANEQ_EYE_CTRL_LANE < 16 := Nat.mod_lt _ (by decide)

theorem State.eyeArmed_stop : (s.eyeArmed w).eyeStop w = s.eyeStop w := by
  have hnow : (s.eyeArmed w).now = s.now := State.eyeArmed_frame.field (·.now) fun _ => rfl
  simp only [State.eyeStop, State.fld, hnow, State.eyeArmed_reg (getF_eyeLane_lt w) (a := LANEQ_QCFG (getF w LANEQ_EYE_CTRL_LANE / 4)) (by simp)]

theorem State.eyeGo_write (hfree : s.bit LANEQ_EYE_STAT LANEQ_EYE_STAT_BUSY = false) (hgo : bitF w LANEQ_EYE_CTRL_GO = false) :
    s.eyeGo w = s.plainWrite LANEQ_EYE_CTRL w := by
  rw [State.eyeGo, if_neg (by rw [hfree]; decide), if_pos (by rw [hgo]; rfl)]

theorem State.eyeGo_go (hfree : s.bit LANEQ_EYE_STAT LANEQ_EYE_STAT_BUSY = false) (hgo : bitF w LANEQ_EYE_CTRL_GO = true) :
    (s.eyeBarred (getF w LANEQ_EYE_CTRL_LANE) → s.eyeGo w = (s.eyeArmed w).eyeEnd 1) ∧
    (¬ s.eyeBarred (getF w LANEQ_EYE_CTRL_LANE) → s.eyeGo w = (s.eyeArmed w).eyeRuns (getF w LANEQ_EYE_CTRL_LANE) (s.eyeStop w)) := by
  have hgoes : s.eyeGo w = let v := s.eyeArmed w
      let l := getF w LANEQ_EYE_CTRL_LANE
      if v.laneState l ≠ laneActive ∨ !v.bit (LANEQ_LSTAT l) LANEQ_LSTAT_CDR_LOCK ∨ (v.mode = .test ∧ v.fld (LANEQ_LCTRL l) LANEQ_LCTRL_LOOP = 2)
      then v.eyeEnd 1 else v.eyeRuns l (v.eyeStop w) := by
    rw [State.eyeGo, if_neg (by rw [hfree]; decide), if_neg (by rw [hgo]; decide)]
    rfl
  have hbarred := State.eyeArmed_barred (s := s) (w := w) (getF_eyeLane_lt w)
  rw [hgoes, ← hbarred, ← State.eyeArmed_stop]
  simp only [State.eyeBarred, Bool.not_eq_true']
  exact ⟨fun h => if_pos h, fun h => if_neg h⟩

/-- A point that runs shows as such. -/
theorem State.eyeRuns_shown (u : State) (l stop : Nat) : (u.eyeRuns l stop).bit LANEQ_EYE_STAT LANEQ_EYE_STAT_BUSY = true ∧
    (u.eyeRuns l stop).bit (LANEQ_LSTAT l) LANEQ_LSTAT_FOM_STALE = true ∧
    (u.eyeRuns l stop).reg LANEQ_EYE_ERR = u.reg LANEQ_EYE_ERR := by
  have hne : LANEQ_EYE_STAT ≠ LANEQ_LSTAT l ∧ LANEQ_EYE_ERR ≠ LANEQ_LSTAT l := by
    simp only [LANEQ_EYE_STAT, LANEQ_EYE_ERR, LANEQ_LSTAT]
    omega
  obtain ⟨hstat, herr⟩ := hne
  refine ⟨?_, State.bit_setBit _ _ _ _ (by decide) rfl, ?_⟩
  · exact (congrArg (bitF · LANEQ_EYE_STAT_BUSY) (State.reg_setReg_ne _ _ hstat)).trans (State.bit_setBit _ _ _ _ (by decide) rfl)
  · exact (State.reg_setReg_ne _ _ herr).trans (State.reg_setReg_ne _ _ (by decide))

theorem exec_eyeScanGo_of (hans : s.answers LANEQ_EYE_CTRL = true) : exec (.eyeScanGo w) s = done (s.eyeGo w) :=
  (exec_eyeScanGo ..).trans (congrArg done (State.guarded_of hans))

theorem eyeScan_begins (hans : s.answers LANEQ_EYE_CTRL = true) (hfree : s.bit LANEQ_EYE_STAT LANEQ_EYE_STAT_BUSY = false)
    (hgo : bitF w LANEQ_EYE_CTRL_GO = true) (hbad : ¬ s.eyeBarred (getF w LANEQ_EYE_CTRL_LANE)) : Answers (.eyeScanGo w) s fun u =>
      u.bit LANEQ_EYE_STAT LANEQ_EYE_STAT_BUSY = true ∧ u.reg LANEQ_EYE_ERR = 0 ∧
      u.bit (LANEQ_LSTAT (getF w LANEQ_EYE_CTRL_LANE)) LANEQ_LSTAT_FOM_STALE = true ∧
      ∃ e, u.eye = some e ∧ e.lane = getF w LANEQ_EYE_CTRL_LANE ∧ e.stop = s.eyeStop w := by
  obtain ⟨-, hruns⟩ := State.eyeGo_go hfree hgo
  obtain ⟨hbusy, hstale, herr⟩ := (s.eyeArmed w).eyeRuns_shown (getF w LANEQ_EYE_CTRL_LANE) (s.eyeStop w)
  refine .of_unsettled (exec_eyeScanGo_of hans) (fun _ _ _ => rfl) ?_
  rw [hruns hbad]
  exact ⟨hbusy, herr.trans State.eyeArmed_err, hstale, _, rfl, rfl, rfl⟩

theorem eyeScan_barred (hans : s.answers LANEQ_EYE_CTRL = true) (hfree : s.bit LANEQ_EYE_STAT LANEQ_EYE_STAT_BUSY = false)
    (hgo : bitF w LANEQ_EYE_CTRL_GO = true) (hbad : s.eyeBarred (getF w LANEQ_EYE_CTRL_LANE)) : Answers (.eyeScanGo w) s fun u =>
      u.bit LANEQ_EYE_STAT LANEQ_EYE_STAT_BUSY = false ∧ u.bit LANEQ_EYE_STAT LANEQ_EYE_STAT_DONE = true ∧
      u.fld LANEQ_EYE_STAT LANEQ_EYE_STAT_RESULT = 1 ∧ u.stored Ev.EYESCAN_DONE = true := by
  obtain ⟨hends, -⟩ := State.eyeGo_go hfree hgo
  refine .of_unsettled (exec_eyeScanGo_of hans) (fun _ _ _ => rfl) ?_
  rw [hends hbad]
  exact (s.eyeArmed w).eyeEnd_shown 1
end

/-! ### The statement -/

/-- Settles O29: a point by the lane it is asked of, and a link by the status that a port is judged with. -/
theorem eyeAndLinks : Obligations.EyeAndLinks := by
  intro s w
  refine ⟨fun hans hbusy => ?_, fun hans hfree => ⟨fun hgo => ?_, eyeScan_begins hans hfree, eyeScan_barred hans hfree⟩,
    fun e n heye => eyeScan_done heye n, fun hnone n => ?_, fun p aligned lf rf skew => ?_⟩
  · exact exec_of_done (exec_eyeScanGo_of hans) (if_pos hbusy)
  · exact exec_of_done (exec_eyeScanGo_of hans) (State.eyeGo_write hfree hgo)
  · exact exec_of_done (exec_eyeScanDone ..) (by rw [State.eyeDone, hnone])
  · have hready : (s.portUsable p && s.lanesUp p && aligned && (typeLanes (portType s p) == 1 || decide (skew ≤ 64))) =
        (s.portUsable p && s.lanesUp p && (aligned && (typeLanes (portType s p) == 1 || decide (skew ≤ 64)))) := Bool.and_assoc ..
    refine .of_unsettled (exec_macLinkChange ..) (fun _ _ _ => rfl) ?_
    rw [hready, s.macLink_eq]
    exact s.portTold_judged ..

end Sys2Proof.Machine
end

section
/-!
PROOFS. What follows a change of lanes (R237, R238, R293, R297): links of ports and Burog ports go up or down, and the lanes stay as they are but for
the training of a port.
-/
namespace Sys2Proof.Machine
open Reg F

/-- The registers that show links: of the Ethernet ports, of the Burog ports, and the count of upstream records that a lost link leaves late. -/
def linkRegs : List Nat := (List.range 8).flatMap portRegs ++ [BUROG_PSTAT 0, BUROG_PSTAT 1, SLALOM_PSUM_LATE_COUNT, SLALOM_CNT_FLAGS]

theorem mem_linkRegs_of_port {p a : Nat} (hp : p < 8) (ha : a ∈ portRegs p) : a ∈ linkRegs :=
  List.mem_append_left _ (List.mem_flatMap.2 ⟨p, List.mem_range.2 hp, ha⟩)

/-- None of them is a register of LANEQ. -/
theorem linkRegs_apart : ∀ a ∈ linkRegs, a < 0x40000 ∨ 0x50000 ≤ a := by decide

/-- What a lane holds whatever its links do: complete coefficients, and the mark of a lost PLL. -/
def Lane.holds (x : Lane) : Bool × Bool := (x.coef, x.lost)

/-- From `s` to `u` only links change. -/
structure State.LinksOnly (s u : State) : Prop where
  keeps : Keeps linkRegs s u
  holds : ∀ k, (u.lane k).holds = (s.lane k).holds

/-- A change of a lane that leaves what it holds. -/
theorem State.holds_modLane (s : State) {f : Lane → Lane} (hf : ∀ x, (f x).holds = x.holds) (k j : Nat) :
    ((s.modLane k f).lane j).holds = (s.lane j).holds := by
  rw [State.modLane, State.lane_setLane]
  split
  · next h => rw [h, hf]
  · rfl

section
variable {s u : State}

theorem State.LinksOnly.refl (s : State) : s.LinksOnly s := ⟨.refl .., fun _ => rfl⟩

theorem State.LinksOnly.setReg (h : s.LinksOnly u) (a : Nat) (w : Word) (ha : a ∈ linkRegs) : s.LinksOnly (u.setReg a w) :=
  ⟨h.keeps.setReg a w ha, h.holds⟩

theorem State.LinksOnly.setBit (h : s.LinksOnly u) (a : Nat) (f : Fld) (b : Bool) (ha : a ∈ linkRegs) : s.LinksOnly (u.setBit a f b) :=
  h.setReg a _ ha

theorem State.LinksOnly.setFld (h : s.LinksOnly u) (a : Nat) (f : Fld) (v : Nat) (ha : a ∈ linkRegs) : s.LinksOnly (u.setFld a f v) :=
  h.setReg a _ ha

theorem State.LinksOnly.raise (h : s.LinksOnly u) (e : Nat) : s.LinksOnly (u.raise e) :=
  ⟨h.keeps.event e, fun k => (u.raise_field e (fun x => (x.lane k).holds) fun _ _ _ _ _ => rfl).trans (h.holds k)⟩

theorem State.LinksOnly.bump (h : s.LinksOnly u) (cnt fr fb n : Nat) (hc : cnt ∈ linkRegs) (hf : fr ∈ linkRegs) : s.LinksOnly (u.bump cnt fr fb n) :=
  ⟨h.keeps.bump cnt fr fb n hc hf, fun k => (u.bump_field cnt fr fb n (fun x => (x.lane k).holds) fun _ _ _ _ _ => rfl).trans (h.holds k)⟩

theorem State.LinksOnly.modPort (h : s.LinksOnly u) (k : Nat) (f : Port → Port) : s.LinksOnly (u.modPort k f) := ⟨h.keeps, h.holds⟩
theorem State.LinksOnly.setBurog (h : s.LinksOnly u) (k : Nat) (x : BPort) : s.LinksOnly (u.setBurog k x) := ⟨h.keeps, h.holds⟩
theorem State.LinksOnly.modSec (h : s.LinksOnly u) (k : SecKey) (f : SecSym → SecSym) : s.LinksOnly (u.modSec k f) := ⟨h.keeps, h.holds⟩

/-! ### The links of the ports -/

theorem State.LinksOnly.trainPort (h : s.LinksOnly u) (p : Nat) : s.LinksOnly (u.trainPort p) := by
  unfold State.trainPort
  split
  · refine State.each_keeps (P := s.LinksOnly) (fun v l hv => ?_) _ h
    refine ⟨hv.keeps, fun k => ?_⟩
    exact (v.holds_modLane (f := fun x => { x with trained := some v.free }) (fun _ => rfl) l k).trans (hv.holds k)
  · exact h

variable {p : Nat}

theorem State.LinksOnly.linkDown (h : s.LinksOnly u) (hp : p < 8) : s.LinksOnly (u.linkDown p) := by
  have hmem : ∀ a ∈ portRegs p, a ∈ linkRegs := fun a => mem_linkRegs_of_port hp
  have hcut : s.LinksOnly (u.linkCut p) := by
    have hlink := h.setBit _ MAC_PSTAT_LINK false (hmem _ (pstat_mem_portRegs p))
    unfold State.linkCut
    dsimp only
    split
    · exact hlink.bump _ _ _ _ (hmem _ (by simp [portRegs])) (hmem _ (by simp [portRegs]))
    · exact hlink
  cases hlink : u.bit (MAC_PSTAT p) MAC_PSTAT_LINK
  · rwa [State.linkDown_not hlink]
  · rw [State.linkDown_up hlink]
    exact (hcut.modPort ..).raise _

theorem State.LinksOnly.judgeLink (h : s.LinksOnly u) (hp : p < 8) : s.LinksOnly (u.judgeLink p) := by
  rw [State.judgeLink_eq]
  split
  · split
    · exact h
    · exact ((h.setBit _ _ _ (mem_linkRegs_of_port hp (pstat_mem_portRegs p))).trainPort p).raise _
  · exact h.linkDown hp

theorem State.LinksOnly.lanesChanged (h : s.LinksOnly u) : s.LinksOnly u.lanesChanged := by
  refine State.each_keeps_mem (P := s.LinksOnly) (fun v p hp hv => ?_) h
  have hp := List.mem_range.1 hp
  exact (hv.setBit _ _ _ (mem_linkRegs_of_port hp (pstat_mem_portRegs p))).judgeLink hp

/-! ### The Burog ports -/

theorem burogPstat_mem {k : Nat} (hk : k < 2) : BUROG_PSTAT k ∈ linkRegs := by
  have hall : ∀ k < 2, BUROG_PSTAT k ∈ linkRegs := by decide
  exact hall k hk

theorem State.LinksOnly.expireWaits (h : s.LinksOnly u) : s.LinksOnly u.expireWaits := by
  unfold State.expireWaits
  split
  · refine State.each_keeps (P := s.LinksOnly) (fun v x hv => ?_) _ h
    exact ((hv.modSec ..).bump _ _ _ _ (by decide) (by decide)).raise _
  · exact h

variable {k : Nat}

theorem State.LinksOnly.burogGoDown (h : s.LinksOnly u) (hk : k < 2) : s.LinksOnly (u.burogGoDown k) := by
  have hmem := burogPstat_mem hk
  have hwaits : s.LinksOnly (u.when (k == 1) State.expireWaits) := by
    unfold State.when
    split
    · exact h.expireWaits
    · exact h
  unfold State.burogGoDown
  split
  · exact h
  · exact ((((hwaits.setBurog k {}).setFld _ _ _ hmem).setBit _ _ _ hmem).setFld _ _ _ hmem).raise _

theorem State.LinksOnly.burogTrain (h : s.LinksOnly u) (hk : k < 2) : s.LinksOnly (u.burogTrain k) := by
  unfold State.burogTrain
  split
  · exact h.setFld _ _ _ (burogPstat_mem hk)
  · exact h

theorem State.LinksOnly.burogLanesChanged (h : s.LinksOnly u) : s.LinksOnly u.burogLanesChanged := by
  refine State.each_keeps_mem (P := s.LinksOnly) (fun v k hk hv => ?_) h
  have hk : k < 2 := by
    simp only [List.mem_cons, List.not_mem_nil, or_false] at hk
    omega
  refine State.LinksOnly.burogTrain ?_ hk
  split
  · exact hv
  · exact hv.burogGoDown hk
end

section
variable (s : State)

theorem State.lanesSettle_links : s.LinksOnly s.lanesSettle := (State.LinksOnly.refl s).lanesChanged.burogLanesChanged

/-- No register of LANEQ follows a change of lanes. -/
theorem State.lanesSettle_reg {a : Nat} (hlo : 0x40000 ≤ a) (hhi : a < 0x50000) : s.lanesSettle.reg a = s.reg a :=
  s.lanesSettle_links.keeps.lowReg (fun ha => by have := linkRegs_apart a ha; omega) (by omega)

theorem State.lanesSettle_coef (k : Nat) : (s.lanesSettle.lane k).coef = (s.lane k).coef := congrArg (·.1) (s.lanesSettle_links.holds k)
theorem State.lanesSettle_lost (k : Nat) : (s.lanesSettle.lane k).lost = (s.lane k).lost := congrArg (·.2) (s.lanesSettle_links.holds k)
end

end Sys2Proof.Machine
end

section
/-!
PROOFS. The states of a lane (R242, R248 to R250): what entering a state, giving up coefficients and moving towards what is asked leave of a lane and
of its quad.
-/
namespace Sys2Proof.Machine
open Reg F

/-! ### Registers -/

/-- The registers that a change of lane l's state can change: its status, that of its quad, and that of eye scans. -/
def laneRegs (l : Nat) : List Nat := [LANEQ_EYE_STAT, LANEQ_LSTAT l, LANEQ_QSTAT (l / 4)]

theorem lstat_mem_laneRegs (l : Nat) : LANEQ_LSTAT l ∈ laneRegs l := by simp [laneRegs]

theorem lstat_low {l : Nat} (hl : l < 16) : LANEQ_LSTAT l < 0xB0000 := by
  simp only [LANEQ_LSTAT]
  omega

/-- The status of a lane lies apart from that of its quad, of eye scans, and of other lanes. -/
theorem lstat_apart {l k : Nat} (hl : l < 16) (hk : k < 16) : LANEQ_LSTAT k ∉ [LANEQ_QSTAT (l / 4)] ∧ LANEQ_LSTAT k ∉ [LANEQ_EYE_STAT] ∧
    (k ≠ l → LANEQ_LSTAT k ∉ laneRegs l) := by
  simp only [laneRegs, List.mem_cons, List.not_mem_nil, or_false, LANEQ_LSTAT, LANEQ_QSTAT, LANEQ_EYE_STAT]
  omega

theorem State.laneState_of_reg {s u : State} {l : Nat} (h : u.reg (LANEQ_LSTAT l) = s.reg (LANEQ_LSTAT l)) : u.laneState l = s.laneState l :=
  congrArg (getF · LANEQ_LSTAT_STATE) h

theorem State.when_field (s : State) (c : Bool) (f : State → State) {α : Type} (m : State → α) (h : m (f s) = m s) : m (s.when c f) = m s := by
  unfold State.when
  split
  · exact h
  · rfl

/-! ### What is asked of a lane -/

/-- The state of a lane of which `req` is requested (R234, R250). -/
def State.laneWant (s : State) (l req : Nat) : Nat :=
  if s.quadRuns (l / 4) = false then laneDisabled else if s.domOn (6 + l / 4) = false then laneSleep else req

section
variable {s u : State} {l : Nat}

theorem State.laneTarget_eq (s : State) (l : Nat) : s.laneTarget l = s.laneWant l (s.fld (LANEQ_LCTRL l) LANEQ_LCTRL_REQ) := by
  unfold State.laneTarget State.laneWant
  cases s.quadRuns (l / 4) <;> cases s.domOn (6 + l / 4) <;> rfl

/-- What is wanted of a lane rests on its quad's settings, its quad's domain and the mode. -/
theorem State.laneWant_congr {L : List Nat} (hl : l < 16) (h : Keeps L s u) (hmode : u.mode = s.mode) (hcfg : LANEQ_QCFG (l / 4) ∉ L)
    (hdom : PMU_DOM (6 + l / 4) ∉ L) (req : Nat) : u.laneWant l req = s.laneWant l req := by
  have hquad : ∀ n < 4, eventReg (LANEQ_QCFG n) = false ∧ eventReg (PMU_DOM (6 + n)) = false := by decide
  obtain ⟨hcfgEvent, hdomEvent⟩ := hquad (l / 4) (by omega)
  obtain ⟨hreg, -⟩ := h
  unfold State.laneWant State.quadRuns State.quadUse State.domOn State.fld
  rw [hreg _ hcfg hcfgEvent, hreg _ hdom hdomEvent, hmode]

theorem State.laneTarget_congr {L : List Nat} (hl : l < 16) (h : Keeps L s u) (hmode : u.mode = s.mode) (hcfg : LANEQ_QCFG (l / 4) ∉ L)
    (hdom : PMU_DOM (6 + l / 4) ∉ L) (hreq : LANEQ_LCTRL l ∉ L) : u.laneTarget l = s.laneTarget l := by
  have hlow : LANEQ_LCTRL l < 0xB0000 := by
    simp only [LANEQ_LCTRL]
    omega
  rw [State.laneTarget_eq, State.laneTarget_eq, State.laneWant_congr hl h hmode hcfg hdom, State.fld, h.lowReg hreq hlow, State.fld]

theorem State.laneWant_lt (s : State) (l : Nat) {req : Nat} (h : req < 4) : s.laneWant l req < 4 := by
  unfold State.laneWant
  split
  · decide
  · split
    · decide
    · exact h

theorem State.laneTarget_lt (s : State) (l : Nat) : s.laneTarget l < 4 := by
  rw [State.laneTarget_eq]
  exact s.laneWant_lt l (s.fld_lt _ _)
end

/-! ### What a change of a lane's state leaves -/

/-- From `s` to `u` a change of lane l's state has been made, or part of one. -/
structure State.LaneOnly (l : Nat) (s u : State) : Prop where
  keeps : Keeps (laneRegs l) s u
  holds : ∀ k, (u.lane k).holds = (s.lane k).holds
  now : u.now = s.now

section
variable {l : Nat} {s u : State}

theorem State.LaneOnly.refl (l : Nat) (s : State) : s.LaneOnly l s := ⟨.refl .., fun _ => rfl, rfl⟩

theorem State.LaneOnly.setReg (h : s.LaneOnly l u) (a : Nat) (w : Word) (ha : a ∈ laneRegs l) : s.LaneOnly l (u.setReg a w) :=
  ⟨h.keeps.setReg a w ha, h.holds, h.now⟩

theorem State.LaneOnly.setFld (h : s.LaneOnly l u) (a : Nat) (f : Fld) (v : Nat) (ha : a ∈ laneRegs l) : s.LaneOnly l (u.setFld a f v) :=
  h.setReg a _ ha

theorem State.LaneOnly.setBit (h : s.LaneOnly l u) (a : Nat) (f : Fld) (b : Bool) (ha : a ∈ laneRegs l) : s.LaneOnly l (u.setBit a f b) :=
  h.setReg a _ ha

theorem State.LaneOnly.modLane (h : s.LaneOnly l u) (k : Nat) {f : Lane → Lane} (hf : ∀ x, (f x).holds = x.holds) :
    s.LaneOnly l (u.modLane k f) := ⟨h.keeps, fun j => (u.holds_modLane hf k j).trans (h.holds j), h.now⟩

theorem State.LaneOnly.eyeEnd (h : s.LaneOnly l u) (r : Nat) : s.LaneOnly l (u.eyeEnd r) := by
  refine ⟨h.keeps.trans ((u.eyeEnd_keeps r).mono fun a ha => ?_), fun k => ?_, (u.eyeEnd_now r).trans h.now⟩
  · exact List.mem_of_mem_head? (by rw [List.mem_singleton.1 ha]; rfl)
  · have hfreed : (u.eyeFreed.lane k).holds = (u.lane k).holds := by
      unfold State.eyeFreed
      split
      · exact u.holds_modLane (f := fun x => { x with scanned := true }) (fun _ => rfl) _ k
      · rfl
    rw [State.eyeEnd_eq, ← h.holds k, ← hfreed]
    exact State.raise_field _ _ (fun x => (x.lane k).holds) fun _ _ _ _ _ => rfl

theorem State.LaneOnly.eyeAbort (h : s.LaneOnly l u) (k : Nat) : s.LaneOnly l (u.eyeAbort k) := by
  unfold State.eyeAbort
  split
  · split
    · exact h.eyeEnd 2
    · exact h
  · exact h

theorem qstat_mem_laneRegs (l : Nat) : LANEQ_QSTAT (l / 4) ∈ laneRegs l := by simp [laneRegs]

theorem State.LaneOnly.judgeQuadPll (h : s.LaneOnly l u) : s.LaneOnly l (u.judgeQuadPll (l / 4)) := by
  unfold State.judgeQuadPll
  dsimp only
  split
  · exact h.setBit _ _ _ (qstat_mem_laneRegs l)
  · exact (h.setBit _ _ _ (qstat_mem_laneRegs l)).setBit _ _ _ (qstat_mem_laneRegs l)
end

/-! ### The PLL of a quad (R248) -/

section
variable (s : State) (n : Nat)

theorem State.judgeQuadPll_keeps : Keeps [LANEQ_QSTAT n] s (s.judgeQuadPll n) := by
  have hon := fun b => (Keeps.refl [LANEQ_QSTAT n] s).setBit (LANEQ_QSTAT n) LANEQ_QSTAT_PLL_ON b (by simp)
  unfold State.judgeQuadPll
  dsimp only
  split
  · exact hon _
  · exact (hon _).setBit _ _ _ (by simp)

/-- The PLL of a quad keeps its lock while a lane of it is neither asleep nor disabled. -/
theorem State.judgeQuadPll_lock {i : Nat} (hi : i < 4) (hsleep : s.laneState (4 * n + i) ≠ laneSleep)
    (hdisabled : s.laneState (4 * n + i) ≠ laneDisabled) :
    (s.judgeQuadPll n).bit (LANEQ_QSTAT n) LANEQ_QSTAT_PLL_LOCK = s.bit (LANEQ_QSTAT n) LANEQ_QSTAT_PLL_LOCK := by
  have hon : ([0, 1, 2, 3].any fun i => s.laneState (4 * n + i) != laneSleep && s.laneState (4 * n + i) != laneDisabled) = true :=
    List.any_eq_true.2 ⟨i, by simp only [List.mem_cons, List.not_mem_nil, or_false]; omega, by simp [hsleep, hdisabled]⟩
  unfold State.judgeQuadPll
  dsimp only
  rw [hon, if_pos rfl, State.bit_setBit_apart _ _ _ (by decide) (by decide)]
end

/-! ### A lane enters a state -/

/-- The status of a lane that enters a state: ADAPTED in a running one at most, and nothing received where it is off. -/
def lstatWord (w : Word) (st : Nat) : Word :=
  let w := putF w LANEQ_LSTAT_STATE st
  let w := if st = laneActive ∨ st = laneIdle then w else putF w LANEQ_LSTAT_ADAPTED (b2n false)
  if st == laneSleep || st == laneDisabled then
    putF (putF (putF (putF w LANEQ_LSTAT_FOM 0) LANEQ_LSTAT_SIGNAL (b2n false)) LANEQ_LSTAT_CDR_LOCK (b2n false)) LANEQ_LSTAT_FOM_STALE (b2n false)
  else w

theorem getF_lstatWord_state (w : Word) {st : Nat} (h : st < 8) : getF (lstatWord w st) LANEQ_LSTAT_STATE = st := by
  have hwritten : getF (putF w LANEQ_LSTAT_STATE st) LANEQ_LSTAT_STATE = st := (getF_putF _ _ _ (by decide)).trans (Nat.mod_eq_of_lt h)
  unfold lstatWord
  dsimp only
  split <;> split <;> simp (disch := decide) only [getF_putF_ne, hwritten]

/-- A lane does not become ADAPTED by entering a state. -/
theorem bitF_lstatWord_adapted {w : Word} (h : bitF w LANEQ_LSTAT_ADAPTED = false) (st : Nat) : bitF (lstatWord w st) LANEQ_LSTAT_ADAPTED = false := by
  have hwritten : getF (putF w LANEQ_LSTAT_STATE st) LANEQ_LSTAT_ADAPTED = getF w LANEQ_LSTAT_ADAPTED := getF_putF_ne _ _ _ _ (by decide) (by decide)
  have hcleared : ∀ x, getF (putF x LANEQ_LSTAT_ADAPTED (b2n false)) LANEQ_LSTAT_ADAPTED = 0 := fun x => getF_putF _ _ _ (by decide)
  have hzero : getF w LANEQ_LSTAT_ADAPTED = 0 := by simpa [bitF] using h
  unfold lstatWord bitF
  dsimp only
  split <;> split <;> simp (disch := decide) only [getF_putF_ne, hwritten, hcleared, hzero, bne_self_eq_false]

/-- The status of a lane that enters a state. -/
def State.laneShown (s : State) (l st : Nat) : State :=
  let s := s.setFld (LANEQ_LSTAT l) LANEQ_LSTAT_STATE st
  let s := if st = laneActive ∨ st = laneIdle then s else (s.setBit (LANEQ_LSTAT l) LANEQ_LSTAT_ADAPTED false)
  if st == laneSleep || st == laneDisabled then
    ((((s.setFld (LANEQ_LSTAT l) LANEQ_LSTAT_FOM 0).setBit (LANEQ_LSTAT l) LANEQ_LSTAT_SIGNAL false).setBit (LANEQ_LSTAT l)
      LANEQ_LSTAT_CDR_LOCK false).setBit (LANEQ_LSTAT l) LANEQ_LSTAT_FOM_STALE false).modLane l fun x => { x with scanned := false, low := 0 }
  else s

/-- A lane that has entered its state, before its quad's PLL is judged: a point on a lane that leaves ACTIVE is aborted. -/
def State.laneEntered (s : State) (l st : Nat) : State :=
  let u := (if st = laneActive then s else s.eyeAbort l).laneShown l st
  u.modLane l fun x => { x with since := u.now }

section
variable (s : State) (l st : Nat)

theorem State.laneEnter_eq : s.laneEnter l st = (s.laneEntered l st).judgeQuadPll (l / 4) := by
  rfl

theorem State.laneShown_only {u : State} (h : s.LaneOnly l u) : s.LaneOnly l (u.laneShown l st) := by
  have hmem := lstat_mem_laneRegs l
  have hstate := h.setFld _ LANEQ_LSTAT_STATE st hmem
  have hadapted : s.LaneOnly l (if st = laneActive ∨ st = laneIdle then u.setFld (LANEQ_LSTAT l) LANEQ_LSTAT_STATE st
      else (u.setFld (LANEQ_LSTAT l) LANEQ_LSTAT_STATE st).setBit (LANEQ_LSTAT l) LANEQ_LSTAT_ADAPTED false) := by
    split
    · exact hstate
    · exact hstate.setBit _ _ _ hmem
  unfold State.laneShown
  dsimp only
  split
  · exact ((((hadapted.setFld _ _ _ hmem).setBit _ _ _ hmem).setBit _ _ _ hmem).setBit _ _ _ hmem).modLane l fun _ => rfl
  · exact hadapted

theorem State.laneEntered_only : s.LaneOnly l (s.laneEntered l st) := by
  have hleft : s.LaneOnly l (if st = laneActive then s else s.eyeAbort l) := by
    split
    · exact .refl ..
    · exact (State.LaneOnly.refl l s).eyeAbort l
  unfold State.laneEntered
  exact (s.laneShown_only l st hleft).modLane l fun _ => rfl

theorem State.laneEnter_only : s.LaneOnly l (s.laneEnter l st) := by
  rw [State.laneEnter_eq]
  exact (s.laneEntered_only l st).judgeQuadPll

theorem State.laneShown_lstat : (s.laneShown l st).reg (LANEQ_LSTAT l) = lstatWord (s.reg (LANEQ_LSTAT l)) st := by
  have hlane : ∀ (u : State) f a, (u.modLane l f).reg a = u.reg a := fun _ _ _ => rfl
  unfold State.laneShown lstatWord
  dsimp only
  split <;> split <;> simp only [hlane, State.setFld_eq, State.setBit_eq, State.reg_setReg_same]

variable {l}

theorem State.laneEntered_lstat (hl : l < 16) : (s.laneEntered l st).reg (LANEQ_LSTAT l) = lstatWord (s.reg (LANEQ_LSTAT l)) st := by
  obtain ⟨-, heye, -⟩ := lstat_apart hl hl
  have hleft : (if st = laneActive then s else s.eyeAbort l).reg (LANEQ_LSTAT l) = s.reg (LANEQ_LSTAT l) := by
    split
    · rfl
    · unfold State.eyeAbort
      split
      · split
        · exact (s.eyeEnd_keeps 2).lowReg heye (lstat_low hl)
        · rfl
      · rfl
  rw [← hleft]
  exact State.laneShown_lstat _ l st

theorem State.laneEnter_lstat (hl : l < 16) : (s.laneEnter l st).reg (LANEQ_LSTAT l) = lstatWord (s.reg (LANEQ_LSTAT l)) st := by
  obtain ⟨hquad, -⟩ := lstat_apart hl hl
  rw [State.laneEnter_eq, (State.judgeQuadPll_keeps _ _).lowReg hquad (lstat_low hl), s.laneEntered_lstat st hl]

theorem State.laneEnter_state (hl : l < 16) (hst : st < 8) : (s.laneEnter l st).laneState l = st := by
  rw [State.laneState, State.fld, s.laneEnter_lstat st hl]
  exact getF_lstatWord_state _ hst
end

/-! ### Coefficients given up, and a move begun (R248, R249) -/

section
variable (s : State) (l st : Nat)

theorem State.lane_modLane (k : Nat) (f : Lane → Lane) : (s.modLane k f).lane k = f (s.lane k) := (s.lane_setLane ..).trans (if_pos rfl)

theorem State.laneForget_coef : ((s.laneForget l).lane l).coef = false :=
  congrArg Lane.coef (s.lane_modLane l fun x => { x with coef := false, trained := none })

theorem State.laneForget_coef_of (k : Nat) (h : (s.lane k).coef = false) : ((s.laneForget l).lane k).coef = false := by
  change ((s.modLane l fun x => { x with coef := false, trained := none }).lane k).coef = false
  rw [State.modLane, State.lane_setLane]
  split
  · rfl
  · exact h

theorem State.laneForget_lost (k : Nat) : ((s.laneForget l).lane k).lost = (s.lane k).lost := by
  change ((s.modLane l fun x => { x with coef := false, trained := none }).lane k).lost = (s.lane k).lost
  rw [State.modLane, State.lane_setLane]
  split
  · next h => rw [h]
  · rfl

theorem State.laneForget_state : (s.laneForget l).laneState l = s.laneState l := State.fld_setBit_apart _ _ _ (by decide) (by decide)

theorem State.laneForget_adapted : (s.laneForget l).bit (LANEQ_LSTAT l) LANEQ_LSTAT_ADAPTED = false := State.bit_setBit _ _ _ _ (by decide) rfl

theorem State.laneForget_keeps : Keeps (laneRegs l) s (s.laneForget l) :=
  Keeps.setBit (u := s.modLane l fun x => { x with coef := false, trained := none }) (.refl _ s) _ _ _ (lstat_mem_laneRegs l)

theorem State.laneStart_only : s.LaneOnly l (s.laneStart l st) := by
  have hasked := (State.LaneOnly.refl l s).modLane l (f := fun x => { x with asked := s.now }) fun _ => rfl
  have henter := State.laneEnter_only (s.modLane l fun x => { x with asked := s.now }) l st
  exact ⟨hasked.keeps.trans henter.keeps, fun k => (henter.holds k).trans (hasked.holds k), henter.now⟩

variable {l}

theorem State.laneStart_state (hl : l < 16) (hst : st < 8) : (s.laneStart l st).laneState l = st := State.laneEnter_state _ st hl hst

/-! ### A lane moves towards what is asked of it (R248 to R250) -/

/-- What a move of a lane is made of. -/
theorem State.laneGo_closed {P : State → Prop} (hforget : ∀ u, P u → P (u.laneForget l)) (henter : ∀ u st, P u → P (u.laneEnter l st))
    (hstart : ∀ u st, P u → P (u.laneStart l st)) (h : P s) : P (s.laneGo l) := by
  unfold State.laneGo
  dsimp only
  split
  · split
    · exact h
    · exact henter _ _ (hforget _ h)
  · split
    · split
      · exact h
      · refine henter _ _ ?_
        split
        · exact hforget _ h
        · exact h
    · split
      · split
        · exact h
        · exact henter _ _ h
      · split
        · split
          · exact hstart _ _ h
          · exact hstart _ _ (hforget _ h)
        · split
          · exact hstart _ _ h
          · exact h

/-- The state a lane comes to that moves towards `want`. -/
def State.laneNext (s : State) (l want : Nat) : Nat :=
  if want = laneDisabled ∨ want = laneSleep then want
  else if s.laneState l = laneActive ∨ s.laneState l = laneIdle then
    (if want = laneActive ∧ s.bit (LANEQ_QSTAT (l / 4)) LANEQ_QSTAT_PLL_LOCK = false then s.laneState l else want)
  else if s.laneState l = laneSleep then (if (s.lane l).coef ∧ !Config.steppingA1 then laneResuming else laneAdapting)
  else if s.laneState l = laneDisabled then laneAdapting else s.laneState l

theorem State.laneGo_state (hl : l < 16) : (s.laneGo l).laneState l = s.laneNext l (s.laneTarget l) := by
  have hwant : s.laneTarget l < 8 := (s.laneTarget_lt l).trans (by decide)
  have henter : ∀ (u : State) st, st < 8 → (u.laneEnter l st).laneState l = st := fun u st => u.laneEnter_state st hl
  have hstart : ∀ (u : State) st, st < 8 → (u.laneStart l st).laneState l = st := fun u st => u.laneStart_state st hl
  unfold State.laneGo State.laneNext
  dsimp only
  by_cases hdisabled : s.laneTarget l = laneDisabled
  · have hoff : s.laneTarget l = laneDisabled ∨ s.laneTarget l = laneSleep := .inl hdisabled
    rw [if_pos hdisabled, if_pos hoff, hdisabled]
    split
    · assumption
    · exact henter _ _ (by decide)
  rw [if_neg hdisabled]
  by_cases hsleep : s.laneTarget l = laneSleep
  · have hoff : s.laneTarget l = laneDisabled ∨ s.laneTarget l = laneSleep := .inr hsleep
    rw [if_pos hsleep, if_pos hoff, hsleep]
    split
    · assumption
    · exact henter _ _ (by decide)
  rw [if_neg hsleep, if_neg (not_or.2 ⟨hdisabled, hsleep⟩)]
  by_cases hruns : s.laneState l = laneActive ∨ s.laneState l = laneIdle
  · rw [if_pos hruns, if_pos hruns]
    simp only [Bool.not_eq_true']
    by_cases hlock : s.laneTarget l = laneActive ∧ s.bit (LANEQ_QSTAT (l / 4)) LANEQ_QSTAT_PLL_LOCK = false
    · rw [if_pos (.inr hlock), if_pos hlock]
    · rw [if_neg hlock]
      split
      · next h => exact h.resolve_right hlock
      · exact henter _ _ hwant
  rw [if_neg hruns, if_neg hruns]
  by_cases hasleep : s.laneState l = laneSleep
  · rw [if_pos hasleep, if_pos hasleep]
    split
    · exact hstart _ _ (by decide)
    · exact hstart _ _ (by decide)
  rw [if_neg hasleep, if_neg hasleep]
  split
  · exact hstart _ _ (by decide)
  · rfl

theorem State.laneGo_keeps : Keeps (laneRegs l) s (s.laneGo l) :=
  s.laneGo_closed (P := Keeps (laneRegs l) s) (fun u h => h.trans (u.laneForget_keeps l)) (fun u st h => h.trans (u.laneEnter_only l st).keeps)
    (fun u st h => h.trans (u.laneStart_only l st).keeps) (.refl ..)

theorem State.laneGo_lost (k : Nat) : ((s.laneGo l).lane k).lost = (s.lane k).lost :=
  s.laneGo_closed (P := fun u => (u.lane k).lost = (s.lane k).lost) (fun u h => (u.laneForget_lost l k).trans h)
    (fun u st h => (congrArg (·.2) ((u.laneEnter_only l st).holds k)).trans h)
    (fun u st h => (congrArg (·.2) ((u.laneStart_only l st).holds k)).trans h) rfl

/-- A lane without coefficients moves without them. -/
theorem State.laneGo_coef {k : Nat} (h : (s.lane k).coef = false) : ((s.laneGo l).lane k).coef = false :=
  s.laneGo_closed (P := fun u => (u.lane k).coef = false) (fun u h => u.laneForget_coef_of l k h)
    (fun u st h => (congrArg (·.1) ((u.laneEnter_only l st).holds k)).trans h)
    (fun u st h => (congrArg (·.1) ((u.laneStart_only l st).holds k)).trans h) h

theorem State.laneEnter_adapted (hl : l < 16) (h : s.bit (LANEQ_LSTAT l) LANEQ_LSTAT_ADAPTED = false) :
    (s.laneEnter l st).bit (LANEQ_LSTAT l) LANEQ_LSTAT_ADAPTED = false := by
  rw [State.bit, s.laneEnter_lstat st hl]
  exact bitF_lstatWord_adapted h st

theorem State.laneStart_adapted (hl : l < 16) (h : s.bit (LANEQ_LSTAT l) LANEQ_LSTAT_ADAPTED = false) :
    (s.laneStart l st).bit (LANEQ_LSTAT l) LANEQ_LSTAT_ADAPTED = false := State.laneEnter_adapted _ st hl h

theorem State.laneGo_adapted (hl : l < 16) (h : s.bit (LANEQ_LSTAT l) LANEQ_LSTAT_ADAPTED = false) :
    (s.laneGo l).bit (LANEQ_LSTAT l) LANEQ_LSTAT_ADAPTED = false :=
  s.laneGo_closed (P := fun u => u.bit (LANEQ_LSTAT l) LANEQ_LSTAT_ADAPTED = false) (fun u _ => u.laneForget_adapted l)
    (fun u st hu => u.laneEnter_adapted st hl hu) (fun u st hu => u.laneStart_adapted st hl hu) h
end

/-! ### A lane that has become ready (R242) -/

/-- The running state a lane becomes ready for. -/
def State.laneRuns (s : State) (l : Nat) : Nat := if s.laneTarget l = laneIdle then laneIdle else laneActive

theorem State.laneReady_shown (s : State) {l : Nat} (hl : l < 16) (resumed : Bool) : (s.laneReady l resumed).laneState l = s.laneRuns l ∧
    (s.laneReady l resumed).bit (LANEQ_LSTAT l) LANEQ_LSTAT_ADAPTED =
      (s.bit (LANEQ_LSTAT l) LANEQ_LSTAT_SIGNAL && s.bit (LANEQ_LSTAT l) LANEQ_LSTAT_CDR_LOCK) ∧
    ((s.laneReady l resumed).lane l).coef = true := by
  have hplace : 0x40000 ≤ LANEQ_LSTAT l ∧ LANEQ_LSTAT l < 0x50000 := by
    simp only [LANEQ_LSTAT]
    omega
  obtain ⟨hlo, hhi⟩ := hplace
  have hruns : s.laneRuns l < 8 := by
    unfold State.laneRuns
    split <;> decide
  have hcoef := congrArg (·.1) (((s.modLane l fun x => { x with coef := true, resumed := resumed }).laneEnter_only l (s.laneRuns l)).holds l)
  refine ⟨(State.laneState_of_reg (State.lanesSettle_reg _ hlo hhi)).trans ?_, ?_, ?_⟩
  · exact (State.fld_setBit_apart _ _ _ (by decide) (by decide)).trans (State.laneEnter_state _ _ hl hruns)
  · rw [State.bit, State.laneReady, State.lanesSettle_reg _ hlo hhi]
    exact State.bit_setBit _ _ _ _ (by decide) rfl
  · rw [State.laneReady, State.lanesSettle_coef]
    exact hcoef.trans (congrArg Lane.coef (s.lane_modLane l fun x => { x with coef := true, resumed := resumed }))

end Sys2Proof.Machine
end

section
/-!
PROOFS. Requests to the lanes (R245, R248, R249): what a write of LCTRL stores, and where it moves its lane.
-/
namespace Sys2Proof.Machine
open Reg F

theorem exec_laneReqWrite (l : Fin 16) (w : Word) (s : State) :
    exec (.laneReqWrite l w) s = done (s.guarded (LANEQ_LCTRL l) fun s => s.lctrlWrite l w) := rfl
theorem exec_laneFullAdapt (l : Fin 16) (w : Word) (s : State) :
    exec (.laneFullAdapt l w) s = done (s.guarded (LANEQ_LCTRL l) fun s => s.lctrlWrite l (putF w LANEQ_LCTRL_FULL_ADAPT 1)) := rfl

/-- The registers that a write of LCTRL changes before its lane moves. -/
def lctrlRegs (l : Nat) : List Nat := [LANEQ_LCTRL l, LANEQ_EYE_STAT, LANEQ_PRBS_ERR l, LANEQ_CNT_FLAGS]

/-- LCTRL is written: a point whose loop changes is aborted, and the count of another pattern begins at 0. -/
def State.lctrlStored (s : State) (l : Nat) (w : Word) : State :=
  let u := s.plainWrite (LANEQ_LCTRL l) w
  let v := u.when (u.fld (LANEQ_LCTRL l) LANEQ_LCTRL_LOOP ≠ s.fld (LANEQ_LCTRL l) LANEQ_LCTRL_LOOP ∧ u.mode = .test) fun u => u.eyeAbort l
  if v.fld (LANEQ_LCTRL l) LANEQ_LCTRL_PAT_RX ≠ s.fld (LANEQ_LCTRL l) LANEQ_LCTRL_PAT_RX then
    (v.setReg (LANEQ_PRBS_ERR l) 0).setMaskBit LANEQ_CNT_FLAGS LANEQ_CNT_FLAGS_PRBS_OVF l false else v

/-- Its lane moves: a full adaptation gives up the coefficients first. -/
def State.laneAsked (s : State) (l : Nat) (full : Bool) : State :=
  if full ∧ s.laneState l ≠ laneDisabled then
    if s.laneTarget l = laneActive ∨ s.laneTarget l = laneIdle then (s.laneForget l).laneStart l laneAdapting else (s.laneForget l).laneGo l
  else s.laneGo l

section
variable (s : State) (l : Nat) (w : Word)

theorem State.lctrlWrite_eq : s.lctrlWrite l w = ((s.lctrlStored l w).laneAsked l (bitF w LANEQ_LCTRL_FULL_ADAPT)).lanesSettle := rfl

/-- What a property must be kept by for a write of LCTRL to keep it. -/
theorem State.lctrlStored_closed {P : State → Prop} (hwrite : P (s.plainWrite (LANEQ_LCTRL l) w)) (heye : ∀ u, P u → P (u.eyeAbort l))
    (hcount : ∀ u, P u → P ((u.setReg (LANEQ_PRBS_ERR l) 0).setMaskBit LANEQ_CNT_FLAGS LANEQ_CNT_FLAGS_PRBS_OVF l false)) :
    P (s.lctrlStored l w) := by
  have hloop : ∀ c, P ((s.plainWrite (LANEQ_LCTRL l) w).when c fun u => u.eyeAbort l) := fun c => by
    unfold State.when
    split
    · exact heye _ hwrite
    · exact hwrite
  unfold State.lctrlStored
  dsimp only
  split
  · exact hcount _ (hloop _)
  · exact hloop _

theorem State.eyeAbort_keeps : Keeps [LANEQ_EYE_STAT] s (s.eyeAbort l) := by
  unfold State.eyeAbort
  split
  · split
    · exact s.eyeEnd_keeps 2
    · exact .refl ..
  · exact .refl ..

theorem State.lctrlStored_keeps : Keeps (lctrlRegs l) s (s.lctrlStored l w) := by
  refine s.lctrlStored_closed l w (P := Keeps (lctrlRegs l) s) ?_ (fun u h => ?_) fun u h => ?_
  · exact ((Frame.refl (lctrlRegs l) s).plainWrite _ w (by simp [lctrlRegs])).keeps
  · exact h.trans ((u.eyeAbort_keeps l).mono (by simp [lctrlRegs]))
  · exact (h.setReg _ 0 (by simp [lctrlRegs])).setFld _ _ _ (by simp [lctrlRegs])

theorem State.lctrlStored_holds (k : Nat) : ((s.lctrlStored l w).lane k).holds = (s.lane k).holds := by
  refine s.lctrlStored_closed l w (P := fun u => (u.lane k).holds = (s.lane k).holds) ?_ (fun u h => ?_) fun u h => h
  · exact ((Frame.refl [LANEQ_LCTRL l] s).plainWrite _ w (by simp)).field (fun u => (u.lane k).holds) fun _ => rfl
  · exact (((State.LaneOnly.refl l u).eyeAbort l).holds k).trans h

theorem State.lctrlStored_mode : (s.lctrlStored l w).mode = s.mode := by
  refine s.lctrlStored_closed l w (P := fun u => u.mode = s.mode) (s.plainWrite_mode _ w) (fun u h => (u.eyeAbort_mode l).trans h) fun u h => ?_
  exact (State.setMaskBit_mode ..).trans h

/-- Table 9-12: what is RW of LCTRL, REQ among it. -/
theorem lctrl_row : ∀ l : Fin 16, (regAt (LANEQ_LCTRL l)).map (fun r => (r.rw, r.w1c)) = some (0xDFF00000, 0) := by decide +kernel

theorem saturated_lctrl (l : Fin 16) (w : Word) : saturated (LANEQ_LCTRL l) w = w := by
  have hplace : blockOf (LANEQ_LCTRL l) = 4 ∧ LANEQ_LCTRL l ≠ LANEQ_EYE_CTRL ∧ LANEQ_LCTRL l ≠ DRAMC_RH_CFG := by
    simp only [blockOf, LANEQ_LCTRL, LANEQ_EYE_CTRL, DRAMC_RH_CFG]
    omega
  obtain ⟨hblock, heye, hrh⟩ := hplace
  simp only [saturated, hblock, if_neg heye, if_neg hrh]
  simp

theorem State.lctrlStored_req (l : Fin 16) : (s.lctrlStored l w).fld (LANEQ_LCTRL l) LANEQ_LCTRL_REQ = getF w LANEQ_LCTRL_REQ := by
  have hplace : LANEQ_LCTRL l ∉ [LANEQ_EYE_STAT] ∧ LANEQ_LCTRL l ≠ LANEQ_PRBS_ERR l ∧ LANEQ_LCTRL l ≠ LANEQ_CNT_FLAGS ∧ LANEQ_LCTRL l < 0xB0000 := by
    simp only [List.mem_singleton, LANEQ_LCTRL, LANEQ_EYE_STAT, LANEQ_PRBS_ERR, LANEQ_CNT_FLAGS]
    omega
  obtain ⟨heye, herr, hflags, hlow⟩ := hplace
  refine s.lctrlStored_closed l w (P := fun u => u.fld (LANEQ_LCTRL l) LANEQ_LCTRL_REQ = getF w LANEQ_LCTRL_REQ) ?_ (fun u h => ?_) fun u h => ?_
  · rw [s.plainWrite_rw (lctrl_row l) (saturated_lctrl l w), State.fld, State.reg_setReg_same]
    exact getF_masked _ _ _ _ (by decide) (by decide)
  · rw [State.fld, (u.eyeAbort_keeps l).lowReg heye hlow]
    exact h
  · rw [State.setMaskBit, State.fld_setFld_ne _ _ _ _ hflags, State.fld, State.reg_setReg_ne _ _ herr]
    exact h

variable (l : Fin 16)

theorem lctrlRegs_apart (l : Fin 16) : LANEQ_QCFG (l / 4) ∉ lctrlRegs l ∧ PMU_DOM (6 + l / 4) ∉ lctrlRegs l ∧ LANEQ_LSTAT l ∉ lctrlRegs l ∧
    LANEQ_QSTAT (l / 4) ∉ lctrlRegs l ∧ LANEQ_QSTAT (l / 4) < 0xB0000 := by
  simp only [lctrlRegs, List.mem_cons, List.not_mem_nil, or_false, LANEQ_QCFG, PMU_DOM, LANEQ_LSTAT, LANEQ_QSTAT, LANEQ_LCTRL, LANEQ_EYE_STAT,
    LANEQ_PRBS_ERR, LANEQ_CNT_FLAGS]
  omega

theorem State.lctrlStored_target : (s.lctrlStored l w).laneTarget l = s.laneWant l (getF w LANEQ_LCTRL_REQ) := by
  obtain ⟨hcfg, hdom, -⟩ := lctrlRegs_apart l
  rw [State.laneTarget_eq, s.lctrlStored_req w l, State.laneWant_congr l.2 (s.lctrlStored_keeps l w) (s.lctrlStored_mode l w) hcfg hdom]

theorem State.lctrlStored_state : (s.lctrlStored l w).laneState l = s.laneState l := by
  obtain ⟨-, -, hstat, -⟩ := lctrlRegs_apart l
  exact State.laneState_of_reg ((s.lctrlStored_keeps l w).lowReg hstat (lstat_low l.2))

theorem State.lctrlStored_next (want : Nat) : (s.lctrlStored l w).laneNext l want = s.laneNext l want := by
  obtain ⟨-, -, -, hquad, hlow⟩ := lctrlRegs_apart l
  have hcoef : ((s.lctrlStored l w).lane l).coef = (s.lane l).coef := congrArg (·.1) (s.lctrlStored_holds l w l)
  unfold State.laneNext
  rw [s.lctrlStored_state w l, hcoef, State.bit, (s.lctrlStored_keeps l w).lowReg hquad hlow, State.bit]
end

section
variable {s : State} {l : Fin 16} {w : Word}

theorem lstat_in_laneq (l : Fin 16) : 0x40000 ≤ LANEQ_LSTAT l ∧ LANEQ_LSTAT l < 0x50000 := by
  simp only [LANEQ_LSTAT]
  omega

/-- A request (R248). -/
theorem laneReq_moves (hans : s.answers (LANEQ_LCTRL l) = true) (hfull : bitF w LANEQ_LCTRL_FULL_ADAPT = false) :
    Answers (.laneReqWrite l w) s fun u => u.laneState l = s.laneNext l (s.laneWant l (getF w LANEQ_LCTRL_REQ)) := by
  obtain ⟨hlo, hhi⟩ := lstat_in_laneq l
  refine .of_guarded_unsettled (exec_laneReqWrite ..) hans (fun _ _ _ => rfl) ?_
  rw [State.lctrlWrite_eq, State.laneState_of_reg (State.lanesSettle_reg _ hlo hhi), State.laneAsked, hfull, if_neg (by simp),
    State.laneGo_state _ l.2, s.lctrlStored_target w l, s.lctrlStored_next w l]

/-- FULL_ADAPT of a request makes it a full adaptation (R249). -/
theorem exec_laneReqWrite_full (hfull : bitF w LANEQ_LCTRL_FULL_ADAPT = true) : exec (.laneReqWrite l w) s = exec (.laneFullAdapt l w) s := by
  have hset : putF w LANEQ_LCTRL_FULL_ADAPT 1 = w := putF_b2n_of_bitF (b := true) rfl hfull
  rw [exec_laneReqWrite, exec_laneFullAdapt, hset]

/-- A lane asked for a full adaptation has no coefficients, and adapts unless it is to be off. -/
theorem State.laneAsked_full (u : State) (hon : u.laneState l ≠ laneDisabled) : ((u.laneAsked l true).lane l).coef = false ∧
    (u.laneAsked l true).bit (LANEQ_LSTAT l) LANEQ_LSTAT_ADAPTED = false ∧
    (u.laneAsked l true).laneState l =
      if u.laneTarget l = laneActive ∨ u.laneTarget l = laneIdle then laneAdapting else u.laneTarget l := by
  have hcoef := u.laneForget_coef l
  have hadapted := u.laneForget_adapted l
  rw [State.laneAsked, if_pos ⟨rfl, hon⟩]
  split
  · exact ⟨(congrArg (·.1) (((u.laneForget l).laneStart_only l laneAdapting).holds l)).trans hcoef,
      State.laneStart_adapted _ _ l.2 hadapted, State.laneStart_state _ _ l.2 (by decide)⟩
  · next hoff =>
    have htarget : (u.laneForget l).laneTarget l = u.laneTarget l := by
      have hplace : LANEQ_QCFG (l / 4) ∉ laneRegs l ∧ PMU_DOM (6 + l / 4) ∉ laneRegs l ∧ LANEQ_LCTRL l ∉ laneRegs l := by
        simp only [laneRegs, List.mem_cons, List.not_mem_nil, or_false, LANEQ_QCFG, PMU_DOM, LANEQ_LSTAT, LANEQ_QSTAT, LANEQ_LCTRL, LANEQ_EYE_STAT]
        omega
      obtain ⟨hcfg, hdom, hreq⟩ := hplace
      exact State.laneTarget_congr l.2 (u.laneForget_keeps l) (u.laneForget_mode l) hcfg hdom hreq
    have hdown : u.laneTarget l = laneDisabled ∨ u.laneTarget l = laneSleep := by
      have := u.laneTarget_lt l
      simp only [laneActive, laneIdle, laneDisabled, laneSleep] at hoff ⊢
      omega
    refine ⟨State.laneGo_coef _ hcoef, State.laneGo_adapted _ l.2 hadapted, ?_⟩
    rw [State.laneGo_state _ l.2, htarget]
    exact if_pos hdown

/-- A full adaptation (R249). -/
theorem laneFullAdapt_moves (hans : s.answers (LANEQ_LCTRL l) = true) (hon : s.laneState l ≠ laneDisabled) :
    Answers (.laneFullAdapt l w) s fun u => (u.lane l).coef = false ∧ u.bit (LANEQ_LSTAT l) LANEQ_LSTAT_ADAPTED = false ∧
      u.laneState l = (let want := s.laneWant l (getF w LANEQ_LCTRL_REQ)
        if want = laneActive ∨ want = laneIdle then laneAdapting else want) := by
  obtain ⟨hlo, hhi⟩ := lstat_in_laneq l
  let w' := putF w LANEQ_LCTRL_FULL_ADAPT 1
  have hfull : bitF w' LANEQ_LCTRL_FULL_ADAPT = true := by rw [bitF, getF_putF _ _ _ (by decide)]; rfl
  have hreq : getF w' LANEQ_LCTRL_REQ = getF w LANEQ_LCTRL_REQ := getF_putF_ne _ _ _ _ (by decide) (by decide)
  obtain ⟨hcoef, hadapted, hstate⟩ := State.laneAsked_full (l := l) (s.lctrlStored l w') ((s.lctrlStored_state w' l).trans_ne hon)
  refine .of_guarded_unsettled (exec_laneFullAdapt ..) hans (fun _ _ _ => rfl) ?_
  rw [State.lctrlWrite_eq, hfull, State.lanesSettle_coef, State.bit, State.lanesSettle_reg _ hlo hhi,
    State.laneState_of_reg (State.lanesSettle_reg _ hlo hhi), ← hreq, ← s.lctrlStored_target w' l]
  exact ⟨hcoef, hadapted, hstate⟩
end

end Sys2Proof.Machine
end

section
/-!
PROOFS. Epochs of the lanes (R242, R243, R247): what one shows in LSTAT, its figure of merit, and a resume that succeeds with it.
-/
namespace Sys2Proof.Machine
open Reg F

theorem exec_laneEpoch (l : Fin 16) (fom : BitVec 8) (sig cdr : Bool) (errors : Nat) (s : State) :
    exec (.laneEpoch l fom sig cdr errors) s = done (s.laneEpoch l fom sig cdr errors) := rfl

/-- The registers that an epoch of lane l changes. -/
def epochRegs (l : Nat) : List Nat := [LANEQ_LSTAT l, LANEQ_PRBS_ERR l, LANEQ_CNT_FLAGS]

/-! ### The figure of merit (R243) -/

/-- A figure of merit judged, `n` epochs in a row having shown one too low. -/
def State.fomJudged (s : State) (l v n : Nat) : State :=
  let u := s.modLane l fun x => { x with low := n }
  let floor := s.fld LANEQ_ADAPT_CFG LANEQ_ADAPT_CFG_FOM_MIN
  if floor + 4 ≤ v then u.setBit (LANEQ_LSTAT l) LANEQ_LSTAT_FOM_LOW false
  else if max 1 (s.fld LANEQ_ADAPT_CFG LANEQ_ADAPT_CFG_FOM_CNT) ≤ n ∧ !s.bit (LANEQ_LSTAT l) LANEQ_LSTAT_FOM_LOW then
    (u.setBit (LANEQ_LSTAT l) LANEQ_LSTAT_FOM_LOW true).raise Ev.LANE_FOM_LOW
  else u

section
variable (s : State) (l v n : Nat)

theorem State.judgeFom_eq : s.judgeFom l v =
    s.fomJudged l v (if v < s.fld LANEQ_ADAPT_CFG LANEQ_ADAPT_CFG_FOM_MIN then (s.lane l).low + 1 else 0) := rfl

/-- What a property must be kept by for the judging of a figure of merit to keep it. -/
theorem State.judgeFom_closed {P : State → Prop} (hlow : ∀ n, P (s.modLane l fun x => { x with low := n }))
    (hbit : ∀ u b, P u → P (u.setBit (LANEQ_LSTAT l) LANEQ_LSTAT_FOM_LOW b)) (hraise : ∀ u, P u → P (u.raise Ev.LANE_FOM_LOW)) :
    P (s.judgeFom l v) := by
  rw [State.judgeFom_eq]
  generalize (if v < s.fld LANEQ_ADAPT_CFG LANEQ_ADAPT_CFG_FOM_MIN then (s.lane l).low + 1 else 0) = n
  unfold State.fomJudged
  dsimp only
  split
  · exact hbit _ _ (hlow n)
  · split
    · exact hraise _ (hbit _ _ (hlow n))
    · exact hlow n

theorem State.judgeFom_keeps : Keeps [LANEQ_LSTAT l] s (s.judgeFom l v) :=
  s.judgeFom_closed l v (fun _ => .refl _ s) (fun _ _ h => h.setBit _ _ _ (List.mem_singleton_self _)) fun _ h => h.event _

/-- The judging of a figure of merit changes FOM_LOW alone of a lane's status. -/
theorem State.judgeFom_fld {l : Nat} (hl : l < 16) {g : Fld} (h : LANEQ_LSTAT_FOM_LOW.lo + LANEQ_LSTAT_FOM_LOW.width ≤ g.lo ∨
    g.lo + g.width ≤ LANEQ_LSTAT_FOM_LOW.lo) (hg : g.lo + g.width ≤ 32) : (s.judgeFom l v).fld (LANEQ_LSTAT l) g = s.fld (LANEQ_LSTAT l) g :=
  s.judgeFom_closed l v (P := fun u => u.fld (LANEQ_LSTAT l) g = s.fld (LANEQ_LSTAT l) g) (fun _ => rfl)
    (fun u b hu => (u.fld_setBit_apart _ b h hg).trans hu) fun u hu => (u.fld_raise _ _ _ (eventReg_of_low (lstat_low hl))).trans hu
end

/-! ### What an epoch shows (R242, R247) -/

/-- The errors that a pattern checker found are counted. -/
def State.epochCounted (s : State) (l errors : Nat) : State :=
  s.when (errors ≠ 0 ∧ s.laneState l = laneActive ∧ s.patternOf l LANEQ_LCTRL_PAT_RX ≠ 0) fun s =>
    s.bump (LANEQ_PRBS_ERR l) LANEQ_CNT_FLAGS l errors

/-- What a lane shows of what it receives. -/
def State.epochSeen (s : State) (l st : Nat) (sig cdr : Bool) : State :=
  let u := (s.setBit (LANEQ_LSTAT l) LANEQ_LSTAT_SIGNAL sig).setBit (LANEQ_LSTAT l) LANEQ_LSTAT_CDR_LOCK cdr
  let v := u.when (st = laneActive ∨ st = laneIdle) fun u => u.setBit (LANEQ_LSTAT l) LANEQ_LSTAT_ADAPTED ((sig && cdr) && (u.lane l).coef)
  v.when (!(sig && cdr)) fun v => v.setFld (LANEQ_LSTAT l) LANEQ_LSTAT_FOM 0

/-- The figure of merit it takes. -/
def State.epochTaken (s : State) (l v : Nat) : State :=
  ((s.setFld (LANEQ_LSTAT l) LANEQ_LSTAT_FOM v).setBit (LANEQ_LSTAT l) LANEQ_LSTAT_FOM_STALE false).judgeFom l v

/-- The figure of merit of an epoch: 0 without a signal, or without lock (R243). -/
def epochFom (fom : BitVec 8) (sig cdr : Bool) : Nat := if sig && cdr then fom.toNat else 0

/-- A full epoch of a lane: its errors, what it receives, its figure of merit. -/
def State.epochEnds (s : State) (l : Nat) (fom : BitVec 8) (sig cdr : Bool) (errors : Nat) : State :=
  ((s.epochCounted l errors).epochSeen l (s.laneState l) sig cdr).epochTaken l (epochFom fom sig cdr)

section
variable (s : State) (l : Nat) (st : Nat) (sig cdr : Bool) (errors : Nat)

theorem State.when_closed {P : State → Prop} {s : State} {c : Bool} {f : State → State} (h : P s) (hf : P (f s)) : P (s.when c f) := by
  unfold State.when
  split
  · exact hf
  · exact h

theorem State.epochSeen_closed {P : State → Prop} (hset : ∀ u f v, P u → P (u.setFld (LANEQ_LSTAT l) f v)) (h : P s) :
    P (s.epochSeen l st sig cdr) := by
  have hcdr := hset _ LANEQ_LSTAT_CDR_LOCK (b2n cdr) (hset s LANEQ_LSTAT_SIGNAL (b2n sig) h)
  unfold State.epochSeen
  dsimp only
  refine State.when_closed ?adapted (hset _ _ _ ?adapted)
  exact State.when_closed hcdr (hset _ _ _ hcdr)

theorem State.epochCounted_field {α : Type} (m : State → α)
    (hm : ∀ (x : State) r g q lg, m { x with regs := r, glides := g, logQ := q, loggedAts := lg } = m x) : m (s.epochCounted l errors) = m s :=
  State.when_closed (P := fun u => m u = m s) rfl (s.bump_field _ _ _ _ m hm)

theorem State.epochSeen_field {α : Type} (m : State → α) (hm : ∀ (x : State) r, m { x with regs := r } = m x) :
    m (s.epochSeen l st sig cdr) = m s :=
  s.epochSeen_closed l st sig cdr (P := fun u => m u = m s) (fun u _ _ h => (hm u _).trans h) rfl

theorem State.epochCounted_keeps : Keeps [LANEQ_PRBS_ERR l, LANEQ_CNT_FLAGS] s (s.epochCounted l errors) :=
  State.when_closed (P := Keeps _ s) (.refl ..) ((Keeps.refl _ s).bump _ _ _ _ (by simp) (by simp))

theorem State.epochSeen_keeps : Keeps [LANEQ_LSTAT l] s (s.epochSeen l st sig cdr) :=
  s.epochSeen_closed l st sig cdr (P := Keeps [LANEQ_LSTAT l] s) (fun _ f v h => h.setFld _ f v (List.mem_singleton_self _)) (.refl ..)

theorem State.epochTaken_keeps (v : Nat) : Keeps [LANEQ_LSTAT l] s (s.epochTaken l v) := by
  have hmem := List.mem_singleton_self (LANEQ_LSTAT l)
  exact (((Keeps.refl _ s).setFld _ LANEQ_LSTAT_FOM v hmem).setBit _ LANEQ_LSTAT_FOM_STALE false hmem).trans (State.judgeFom_keeps _ l v)

theorem State.epochEnds_keeps (fom : BitVec 8) : Keeps (epochRegs l) s (s.epochEnds l fom sig cdr errors) :=
  (((s.epochCounted_keeps l errors).mono (by simp [epochRegs])).trans ((State.epochSeen_keeps _ l _ sig cdr).mono (by simp [epochRegs]))).trans
    ((State.epochTaken_keeps _ l _).mono (by simp [epochRegs]))

/-- SIGNAL, CDR_LOCK and ADAPTED after an epoch; the state stays. -/
theorem State.epochSeen_shown : (s.epochSeen l st sig cdr).bit (LANEQ_LSTAT l) LANEQ_LSTAT_SIGNAL = sig ∧
    (s.epochSeen l st sig cdr).bit (LANEQ_LSTAT l) LANEQ_LSTAT_CDR_LOCK = cdr ∧
    ((st = laneActive ∨ st = laneIdle) → (s.epochSeen l st sig cdr).bit (LANEQ_LSTAT l) LANEQ_LSTAT_ADAPTED = (sig && cdr && (s.lane l).coef)) ∧
    (s.epochSeen l st sig cdr).laneState l = s.laneState l := by
  unfold State.epochSeen State.when State.laneState
  dsimp only
  refine ⟨?_, ?_, fun hst => ?_, ?_⟩
  · split <;> split <;> simp (disch := decide) only [State.bit_setFld_apart, State.bit_setBit_apart, State.bit_setBit]
  · split <;> split <;> simp (disch := decide) only [State.bit_setFld_apart, State.bit_setBit_apart, State.bit_setBit]
  · rw [decide_eq_true hst, if_pos rfl]
    split <;> simp (disch := decide) only [State.bit_setFld_apart, State.bit_setBit] <;> rfl
  · split <;> split <;> simp (disch := decide) only [State.fld_setFld_apart, State.fld_setBit_apart]

variable {l}

/-- A figure of merit taken shows in FOM, and changes FOM_STALE and FOM_LOW besides. -/
theorem State.epochTaken_shown (hl : l < 16) {v : Nat} (hv : v < 256) : (s.epochTaken l v).fld (LANEQ_LSTAT l) LANEQ_LSTAT_FOM = v ∧
    ∀ g ∈ [LANEQ_LSTAT_STATE, LANEQ_LSTAT_SIGNAL, LANEQ_LSTAT_CDR_LOCK, LANEQ_LSTAT_ADAPTED],
      (s.epochTaken l v).fld (LANEQ_LSTAT l) g = s.fld (LANEQ_LSTAT l) g := by
  have hapart : ∀ g ∈ [LANEQ_LSTAT_STATE, LANEQ_LSTAT_SIGNAL, LANEQ_LSTAT_CDR_LOCK, LANEQ_LSTAT_ADAPTED], g.lo + g.width ≤ 32 ∧
      ∀ f ∈ [LANEQ_LSTAT_FOM, LANEQ_LSTAT_FOM_STALE, LANEQ_LSTAT_FOM_LOW], f.lo + f.width ≤ g.lo ∨ g.lo + g.width ≤ f.lo := by decide
  unfold State.epochTaken
  refine ⟨?_, fun g hg => ?_⟩
  · rw [State.judgeFom_fld _ _ hl (by decide) (by decide), State.fld_setBit_apart _ _ _ (by decide) (by decide), State.fld, State.setFld,
      State.reg_setReg_same, getF_putF _ _ _ (by decide)]
    exact Nat.mod_eq_of_lt hv
  · obtain ⟨hwidth, hfields⟩ := hapart g hg
    rw [State.judgeFom_fld _ _ hl (hfields _ (by simp)) hwidth, State.fld_setBit_apart _ _ _ (hfields _ (by simp)) hwidth,
      State.fld_setFld_apart _ _ _ _ _ (hfields _ (by simp)) hwidth]

theorem epochFom_lt (fom : BitVec 8) (sig cdr : Bool) : epochFom fom sig cdr < 256 := by
  unfold epochFom
  split
  · exact fom.isLt
  · decide

/-- A lane after a full epoch: what it receives, and the figure of merit. -/
theorem State.epochEnds_shown (fom : BitVec 8) (hl : l < 16) :
    let u := s.epochEnds l fom sig cdr errors
    u.laneState l = s.laneState l ∧ u.fld (LANEQ_LSTAT l) LANEQ_LSTAT_FOM = epochFom fom sig cdr ∧
      u.bit (LANEQ_LSTAT l) LANEQ_LSTAT_SIGNAL = sig ∧ u.bit (LANEQ_LSTAT l) LANEQ_LSTAT_CDR_LOCK = cdr ∧
      (s.laneState l = laneActive ∨ s.laneState l = laneIdle →
        u.bit (LANEQ_LSTAT l) LANEQ_LSTAT_ADAPTED = (sig && cdr && (s.lane l).coef)) := by
  have hplace : LANEQ_LSTAT l ∉ [LANEQ_PRBS_ERR l, LANEQ_CNT_FLAGS] := by
    simp only [List.mem_cons, List.not_mem_nil, or_false, LANEQ_LSTAT, LANEQ_PRBS_ERR, LANEQ_CNT_FLAGS]
    omega
  have hcounted : (s.epochCounted l errors).laneState l = s.laneState l :=
    State.laneState_of_reg ((s.epochCounted_keeps l errors).lowReg hplace (lstat_low hl))
  have hlane : (s.epochCounted l errors).lane l = s.lane l := s.epochCounted_field l errors (·.lane l) fun _ _ _ _ _ => rfl
  obtain ⟨hsig, hcdr, hadapted, hstate⟩ := (s.epochCounted l errors).epochSeen_shown l (s.laneState l) sig cdr
  obtain ⟨hfom, hkept⟩ := State.epochTaken_shown ((s.epochCounted l errors).epochSeen l (s.laneState l) sig cdr) hl (epochFom_lt fom sig cdr)
  refine ⟨(hkept _ (by simp)).trans (hstate.trans hcounted), hfom, (congrArg (· != 0) (hkept _ (by simp))).trans hsig,
    (congrArg (· != 0) (hkept _ (by simp))).trans hcdr, fun hruns => ?_⟩
  exact (congrArg (· != 0) (hkept _ (by simp))).trans (hlane ▸ hadapted hruns)

/-- The pattern errors of an epoch. -/
theorem State.epochEnds_errors (fom : BitVec 8) (hl : l < 16) (hactive : s.laneState l = laneActive)
    (hpat : s.patternOf l LANEQ_LCTRL_PAT_RX ≠ 0) : ((s.epochEnds l fom sig cdr errors).reg (LANEQ_PRBS_ERR l)).toNat =
      min ((s.reg (LANEQ_PRBS_ERR l)).toNat + errors) (2 ^ 32 - 1) := by
  have hplace : LANEQ_PRBS_ERR l ∉ [LANEQ_LSTAT l] ∧ LANEQ_PRBS_ERR l < 0xB0000 ∧ LANEQ_PRBS_ERR l ≠ LANEQ_CNT_FLAGS := by
    simp only [List.mem_singleton, LANEQ_LSTAT, LANEQ_PRBS_ERR, LANEQ_CNT_FLAGS]
    omega
  obtain ⟨hne, hlow, hflags⟩ := hplace
  have hcounted : (s.epochEnds l fom sig cdr errors).reg (LANEQ_PRBS_ERR l) = (s.epochCounted l errors).reg (LANEQ_PRBS_ERR l) :=
    ((State.epochTaken_keeps _ l _).lowReg hne hlow).trans ((State.epochSeen_keeps _ l _ sig cdr).lowReg hne hlow)
  rw [hcounted, State.epochCounted, State.when]
  split
  · exact s.toNat_reg_bump _ _ _ _ (eventReg_of_low hlow) hflags
  · next hnone =>
    have hzero : errors = 0 := by simpa [hactive, hpat] using hnone
    have := (s.reg (LANEQ_PRBS_ERR l)).isLt
    omega
end

/-! ### An epoch of a lane -/

section
variable {s : State} {l : Fin 16} {fom : BitVec 8} {sig cdr : Bool} {errors : Nat}

theorem State.laneEpoch_off (h : s.laneState l = laneSleep ∨ s.laneState l = laneDisabled) : s.laneEpoch l fom sig cdr errors = s := if_pos h

/-- A full epoch; a lane that resumes becomes ready with a figure of merit that is high enough. -/
theorem State.laneEpoch_full (hon : ¬ (s.laneState l = laneSleep ∨ s.laneState l = laneDisabled))
    (heye : ∀ e, s.eye = some e → e.lane ≠ (l : Nat)) (hscan : (s.lane l).scanned = false) : s.laneEpoch l fom sig cdr errors =
      let u := s.epochEnds l fom sig cdr errors
      if s.laneState l = laneResuming ∧ u.fld LANEQ_ADAPT_CFG LANEQ_ADAPT_CFG_FOM_MIN ≤ epochFom fom sig cdr ∧
        u.bit (LANEQ_QSTAT ((l : Nat) / 4)) LANEQ_QSTAT_PLL_LOCK ∧ (sig && cdr) then u.laneReady l true else u := by
  have hfield : ∀ {α : Type} (m : State → α), (∀ (x : State) r, m { x with regs := r } = m x) →
      (∀ (x : State) r g q lg, m { x with regs := r, glides := g, logQ := q, loggedAts := lg } = m x) →
      m ((s.epochCounted l errors).epochSeen l (s.laneState l) sig cdr) = m s := fun m hreg hevent =>
    (State.epochSeen_field _ _ _ _ _ m hreg).trans (s.epochCounted_field l errors m hevent)
  have hnone : ¬ (((s.epochCounted l errors).epochSeen l (s.laneState l) sig cdr).eye.any fun e => e.lane == (l : Nat)) = true := by
    rw [hfield (·.eye) (fun _ _ => rfl) fun _ _ _ _ _ => rfl]
    simpa only [Option.any_eq_true, not_exists, not_and, beq_iff_eq] using heye
  have hwhole : ¬ (((s.epochCounted l errors).epochSeen l (s.laneState l) sig cdr).lane l).scanned = true := by
    rw [hfield (·.lane l) (fun _ _ => rfl) fun _ _ _ _ _ => rfl, hscan]
    decide
  exact (if_neg hon).trans ((if_neg hnone).trans (if_neg hwhole))

/-- An epoch of a running lane. -/
theorem laneEpoch_running (heye : ∀ e, s.eye = some e → e.lane ≠ (l : Nat)) (hscan : (s.lane l).scanned = false)
    (hruns : s.laneState l = laneActive ∨ s.laneState l = laneIdle) :
    Answers (.laneEpoch l fom sig cdr errors) s fun u => u.laneState l = s.laneState l ∧
      u.fld (LANEQ_LSTAT l) LANEQ_LSTAT_FOM = epochFom fom sig cdr ∧ u.bit (LANEQ_LSTAT l) LANEQ_LSTAT_SIGNAL = sig ∧
      u.bit (LANEQ_LSTAT l) LANEQ_LSTAT_CDR_LOCK = cdr ∧
      u.bit (LANEQ_LSTAT l) LANEQ_LSTAT_ADAPTED = (sig && cdr && (s.lane l).coef) ∧
      (s.laneState l = laneActive → s.patternOf l LANEQ_LCTRL_PAT_RX ≠ 0 →
        (u.reg (LANEQ_PRBS_ERR l)).toNat = min ((s.reg (LANEQ_PRBS_ERR l)).toNat + errors) (2 ^ 32 - 1)) ∧
      Keeps [LANEQ_LSTAT l, LANEQ_PRBS_ERR l, LANEQ_CNT_FLAGS] s u := by
  have hplain : s.laneState l ≠ laneSleep ∧ s.laneState l ≠ laneDisabled ∧ s.laneState l ≠ laneResuming := by
    simp only [laneActive, laneIdle, laneSleep, laneDisabled, laneResuming] at hruns ⊢
    omega
  obtain ⟨hsleep, hdisabled, hresuming⟩ := hplain
  obtain ⟨hstate, hfom, hsig, hcdr, hadapted⟩ := s.epochEnds_shown sig cdr errors fom l.2
  refine .of_unsettled (exec_laneEpoch ..) (fun _ _ _ => rfl) ?_
  rw [State.laneEpoch_full (not_or.2 ⟨hsleep, hdisabled⟩) heye hscan]
  dsimp only
  rw [if_neg fun h => hresuming h.1]
  exact ⟨hstate, hfom, hsig, hcdr, hadapted hruns, s.epochEnds_errors sig cdr errors fom l.2, s.epochEnds_keeps l sig cdr errors fom⟩

/-- A resume that succeeds (R242). -/
theorem laneEpoch_resumed (heye : ∀ e, s.eye = some e → e.lane ≠ (l : Nat)) (hscan : (s.lane l).scanned = false)
    (hresuming : s.laneState l = laneResuming) (hlock : s.bit (LANEQ_QSTAT ((l : Nat) / 4)) LANEQ_QSTAT_PLL_LOCK = true)
    (hmin : s.fld LANEQ_ADAPT_CFG LANEQ_ADAPT_CFG_FOM_MIN ≤ fom.toNat) :
    Answers (.laneEpoch l fom true true errors) s fun u => u.laneState l = s.laneRuns l ∧ u.bit (LANEQ_LSTAT l) LANEQ_LSTAT_ADAPTED = true := by
  have hplace : LANEQ_QCFG ((l : Nat) / 4) ∉ epochRegs l ∧ PMU_DOM (6 + (l : Nat) / 4) ∉ epochRegs l ∧ LANEQ_LCTRL l ∉ epochRegs l ∧
      LANEQ_QSTAT ((l : Nat) / 4) ∉ epochRegs l ∧ LANEQ_ADAPT_CFG ∉ epochRegs l ∧
      LANEQ_QSTAT ((l : Nat) / 4) < 0xB0000 ∧ LANEQ_ADAPT_CFG < 0xB0000 := by
    simp only [epochRegs, List.mem_cons, List.not_mem_nil, or_false, LANEQ_QCFG, PMU_DOM, LANEQ_LSTAT, LANEQ_QSTAT, LANEQ_LCTRL, LANEQ_PRBS_ERR,
      LANEQ_CNT_FLAGS, LANEQ_ADAPT_CFG]
    omega
  obtain ⟨hcfg, hdom, hreq, hquad, hadapt, hquadlow, hadaptlow⟩ := hplace
  have hkeeps := s.epochEnds_keeps l true true errors fom
  obtain ⟨-, -, hsig, hcdr, -⟩ := s.epochEnds_shown true true errors fom l.2
  have hmode : (s.epochEnds l fom true true errors).mode = s.mode := by
    rw [State.epochEnds, State.epochTaken, State.judgeFom_mode]
    exact (State.epochSeen_field _ _ _ _ _ (·.mode) fun _ _ => rfl).trans (s.epochCounted_field l errors (·.mode) fun _ _ _ _ _ => rfl)
  have hruns : (s.epochEnds l fom true true errors).laneRuns l = s.laneRuns l := by
    rw [State.laneRuns, State.laneTarget_congr l.2 hkeeps hmode hcfg hdom hreq, ← State.laneRuns]
  obtain ⟨hstate, hadapted, -⟩ := (s.epochEnds l fom true true errors).laneReady_shown l.2 true
  refine .of_unsettled (exec_laneEpoch ..) (fun _ _ _ => rfl) ?_
  rw [State.laneEpoch_full (by rw [hresuming]; decide) heye hscan]
  dsimp only
  rw [State.fld, hkeeps.lowReg hadapt hadaptlow, State.bit, hkeeps.lowReg hquad hquadlow, if_pos ⟨hresuming, hmin, hlock, rfl⟩]
  exact ⟨hstate.trans hruns, hadapted.trans (by rw [hsig, hcdr]; rfl)⟩
end

end Sys2Proof.Machine
end

section
/-!
PROOFS. The ends of resuming and adapting (R242, R249), and the lock of a quad's PLL (R248).
-/
namespace Sys2Proof.Machine
open Reg F

theorem exec_laneResumeTimeout (l : Fin 16) (s : State) : exec (.laneResumeTimeout l) s = done (s.laneResumeTimeout l) := rfl
theorem exec_laneAdaptDone (l : Fin 16) (s : State) : exec (.laneAdaptDone l) s = done (s.laneAdaptDone l) := rfl
theorem exec_laneqPllLockChange (n : Fin 4) (locked : Bool) (s : State) :
    exec (.laneqPllLockChange n locked) s = done (s.quadPllLock n locked) := rfl

/-! ### Resumes timed out, and adaptations done -/

/-- Lane l gives up its coefficients and adapts from instant `t`, which is told (R249). -/
def State.laneFallsBack (s : State) (l t : Nat) : State := (((s.advance t).laneForget l).laneEnter l laneAdapting).raise Ev.LANE_ADAPT_FALLBACK

theorem State.laneResumeTimeout_resuming {s : State} {l : Nat} (h : s.laneState l = laneResuming) :
    s.laneResumeTimeout l = s.laneFallsBack l ((s.lane l).asked + usTc 2000) := if_pos h

theorem State.laneFallsBack_shown (s : State) (l : Fin 16) (t : Nat) : (s.laneFallsBack l t).laneState l = laneAdapting ∧
    ((s.laneFallsBack l t).lane l).coef = false ∧ (s.laneFallsBack l t).stored Ev.LANE_ADAPT_FALLBACK = true ∧
    (s.laneFallsBack l t).now = max s.now t := by
  let v := (s.advance t).laneForget l
  have honly := v.laneEnter_only l laneAdapting
  unfold State.laneFallsBack
  refine ⟨?_, ?_, State.stored_raise_hub _ _ (by decide) (by decide), ?_⟩
  · exact (State.fld_raise _ _ _ _ (eventReg_of_low (lstat_low l.2))).trans (v.laneEnter_state laneAdapting l.2 (by decide))
  · rw [State.raise_field _ _ (fun x => (x.lane l).coef) fun _ _ _ _ _ => rfl]
    exact (congrArg (·.1) (honly.holds l)).trans (State.laneForget_coef _ l)
  · rw [State.raise_field _ _ (·.now) fun _ _ _ _ _ => rfl]
    exact honly.now.trans (s.advance_now _)

section
variable {s : State} {l : Fin 16}

/-- A resume timed out adapts (R249). -/
theorem laneResumeTimeout_adapts (h : s.laneState l = laneResuming) :
    Answers (.laneResumeTimeout l) s fun u => u.laneState l = laneAdapting ∧ (u.lane l).coef = false ∧
      u.stored Ev.LANE_ADAPT_FALLBACK = true ∧ u.now = max s.now ((s.lane l).asked + usTc 2000) := by
  refine .of_unsettled (exec_laneResumeTimeout ..) (fun _ _ _ => rfl) ?_
  rw [State.laneResumeTimeout_resuming h]
  exact s.laneFallsBack_shown l _

theorem State.laneResumeTimeout_other (h : s.laneState l ≠ laneResuming) : s.laneResumeTimeout l = s := if_neg h

/-- An adaptation done under a locked PLL (R242). -/
theorem laneAdaptDone_ready (h : s.laneState l = laneAdapting) (hlock : s.bit (LANEQ_QSTAT ((l : Nat) / 4)) LANEQ_QSTAT_PLL_LOCK = true) :
    Answers (.laneAdaptDone l) s fun u => u.laneState l = s.laneRuns l ∧ (u.lane l).coef = true ∧
      u.bit (LANEQ_LSTAT l) LANEQ_LSTAT_ADAPTED = (s.bit (LANEQ_LSTAT l) LANEQ_LSTAT_SIGNAL && s.bit (LANEQ_LSTAT l) LANEQ_LSTAT_CDR_LOCK) := by
  obtain ⟨hstate, hadapted, hcoef⟩ := s.laneReady_shown l.2 false
  refine .of_unsettled (exec_laneAdaptDone ..) (fun _ _ _ => rfl) ?_
  rw [State.laneAdaptDone, if_pos ⟨h, hlock⟩]
  exact ⟨hstate, hcoef, hadapted⟩

theorem State.laneAdaptDone_other (h : s.laneState l ≠ laneAdapting ∨ s.bit (LANEQ_QSTAT ((l : Nat) / 4)) LANEQ_QSTAT_PLL_LOCK = false) :
    s.laneAdaptDone l = s := by
  refine if_neg fun hdone => ?_
  obtain ⟨hadapting, hlock⟩ := hdone
  exact h.elim (· hadapting) fun hfree => absurd (hfree.symm.trans hlock) (by decide)
end

/-! ### The lock of a quad's PLL -/

/-- A lane whose PLL is lost, in what it holds. -/
def State.pllLost (s : State) (l : Nat) : State := s.when (s.laneState l = laneActive) fun s => s.modLane l fun x => { x with lost := true }

/-- A lane whose PLL is locked again: one that lost it while ACTIVE resumes, another moves towards what is asked of it. -/
def State.pllBack (s : State) (l : Nat) : State :=
  let u := s.modLane l fun x => { x with lost := false }
  if (s.lane l).lost && s.laneIs l laneActive then u.laneStart l laneResuming else u.laneGo l

/-- The lock of quad n as its PLL tells it. -/
def State.pllTold (s : State) (n : Nat) (locked : Bool) : State := s.setBit (LANEQ_QSTAT n) LANEQ_QSTAT_PLL_LOCK locked

section
variable (s : State) (n : Nat)

theorem State.quadPllLock_off (h : s.bit (LANEQ_QSTAT n) LANEQ_QSTAT_PLL_ON = false) (locked : Bool) : s.quadPllLock n locked = s :=
  if_pos (by rw [h]; rfl)

theorem State.quadPllLock_lost (h : s.bit (LANEQ_QSTAT n) LANEQ_QSTAT_PLL_ON = true) :
    s.quadPllLock n false = ((s.pllTold n false).each [0, 1, 2, 3] fun s i => s.pllLost (4 * n + i)).lanesSettle := if_neg (by rw [h]; decide)

theorem State.quadPllLock_back (h : s.bit (LANEQ_QSTAT n) LANEQ_QSTAT_PLL_ON = true) :
    s.quadPllLock n true = ((s.pllTold n true).each [0, 1, 2, 3] fun s i => s.pllBack (4 * n + i)).lanesSettle := if_neg (by rw [h]; decide)

theorem State.pllTold_keeps (locked : Bool) : Keeps [LANEQ_QSTAT n] s (s.pllTold n locked) :=
  (Keeps.refl _ s).setBit _ _ _ (List.mem_singleton_self _)

theorem State.pllTold_lock (locked : Bool) : (s.pllTold n locked).bit (LANEQ_QSTAT n) LANEQ_QSTAT_PLL_LOCK = locked :=
  State.bit_setBit _ _ _ _ (by decide) rfl

/-- The PLL's lock is no matter of a lane's status. -/
theorem State.pllTold_lstat (locked : Bool) {l : Nat} (hn : n < 4) (hl : l < 16) :
    (s.pllTold n locked).reg (LANEQ_LSTAT l) = s.reg (LANEQ_LSTAT l) := by
  have hplace : LANEQ_LSTAT l ≠ LANEQ_QSTAT n := by
    simp only [LANEQ_LSTAT, LANEQ_QSTAT]
    omega
  exact s.reg_setReg_ne _ hplace

theorem State.reg_pllLost (l a : Nat) : (s.pllLost l).reg a = s.reg a := s.when_field _ _ (·.reg a) rfl

theorem State.pllLost_lost {l k : Nat} (h : (s.lane k).lost = true) : ((s.pllLost l).lane k).lost = true := by
  have hlane : ((s.modLane l fun x => { x with lost := true }).lane k).lost = true := by
    rw [State.modLane, State.lane_setLane]
    split
    · rfl
    · exact h
  exact State.when_closed (P := fun u => (u.lane k).lost = true) h hlane

theorem State.pllLost_active {l : Nat} (h : s.laneState l = laneActive) : ((s.pllLost l).lane l).lost = true := by
  rw [State.pllLost, State.when, if_pos (decide_eq_true h), State.lane_modLane]

theorem State.pllBack_keeps (l : Nat) : Keeps (laneRegs l) s (s.pllBack l) := by
  have hfree : Keeps (laneRegs l) s (s.modLane l fun x => { x with lost := false }) := .refl _ s
  unfold State.pllBack
  dsimp only
  split
  · exact hfree.trans (State.laneStart_only _ l laneResuming).keeps
  · exact hfree.trans (State.laneGo_keeps ..)

theorem State.pllBack_lost {l k : Nat} (hk : k ≠ l) : ((s.pllBack l).lane k).lost = (s.lane k).lost := by
  have hfree : ((s.modLane l fun x => { x with lost := false }).lane k).lost = (s.lane k).lost := by
    rw [State.modLane, State.lane_setLane, if_neg hk]
  unfold State.pllBack
  dsimp only
  split
  · exact (congrArg (·.2) ((State.laneStart_only _ l laneResuming).holds k)).trans hfree
  · exact (State.laneGo_lost ..).trans hfree

/-- Another lane's status is no matter of a lane whose PLL is back. -/
theorem State.pllBack_lstat {l k : Nat} (hl : l < 16) (hk : k < 16) (hne : k ≠ l) : (s.pllBack l).laneState k = s.laneState k := by
  obtain ⟨-, -, hapart⟩ := lstat_apart hl hk
  exact State.laneState_of_reg ((s.pllBack_keeps l).lowReg (hapart hne) (lstat_low hk))

/-- A lane that lost its PLL while ACTIVE resumes when it is back. -/
theorem State.pllBack_resumes {l : Nat} (hl : l < 16) (hactive : s.laneState l = laneActive) (hlost : (s.lane l).lost = true) :
    (s.pllBack l).laneState l = laneResuming := by
  have hback : ((s.lane l).lost && s.laneIs l laneActive) = true := by
    rw [hlost, Bool.true_and]
    exact beq_iff_eq.2 hactive
  unfold State.pllBack
  dsimp only
  rw [if_pos hback]
  exact State.laneStart_state _ _ hl (by decide)
end

/-! ### A lock that a lane holds -/

section
variable (s : State) (l st : Nat)

theorem State.laneShown_reg {a : Nat} (ha : a ≠ LANEQ_LSTAT l) : (s.laneShown l st).reg a = s.reg a := by
  have hlane : ∀ (u : State) f a, (u.modLane l f).reg a = u.reg a := fun _ _ _ => rfl
  unfold State.laneShown
  dsimp only
  split <;> split <;> simp only [hlane, State.setFld_eq, State.setBit_eq, State.reg_setReg_ne _ _ ha]

/-- A quad's status waits for its PLL to be judged. -/
theorem State.laneEntered_quad {n : Nat} (hl : l < 16) (hn : n < 4) : (s.laneEntered l st).reg (LANEQ_QSTAT n) = s.reg (LANEQ_QSTAT n) := by
  have hplace : LANEQ_QSTAT n ≠ LANEQ_LSTAT l ∧ LANEQ_QSTAT n ∉ [LANEQ_EYE_STAT] ∧ LANEQ_QSTAT n < 0xB0000 := by
    simp only [List.mem_singleton, LANEQ_LSTAT, LANEQ_QSTAT, LANEQ_EYE_STAT]
    omega
  obtain ⟨hstat, heye, hlow⟩ := hplace
  have hleft : (if st = laneActive then s else s.eyeAbort l).reg (LANEQ_QSTAT n) = s.reg (LANEQ_QSTAT n) := by
    split
    · rfl
    · exact (s.eyeAbort_keeps l).lowReg heye hlow
  exact (State.laneShown_reg _ l st hstat).trans hleft
end

/-- Quad n's PLL is locked, and its lane i, which is wanted ACTIVE, needs it. -/
structure State.PllHeld (n i : Nat) (s : State) : Prop where
  lock : s.bit (LANEQ_QSTAT n) LANEQ_QSTAT_PLL_LOCK = true
  wanted : s.laneTarget (4 * n + i) = laneActive
  up : s.laneState (4 * n + i) = laneActive ∨ s.laneState (4 * n + i) = laneResuming

section
variable {s : State} {n i j : Nat}

/-- A lane that runs or resumes and is wanted ACTIVE, its PLL locked, stays as it is. -/
theorem State.PllHeld.laneGo_eq (h : s.PllHeld n i) (hi : i < 4) : s.laneGo (4 * n + i) = s := by
  obtain ⟨hlock, hwanted, hup⟩ := h
  have hquad : (4 * n + i) / 4 = n := by omega
  unfold State.laneGo
  rw [hwanted, hquad, hlock]
  rcases hup with hup | hup <;> rw [hup] <;> rfl

/-- The wish for a lane outlasts what other lanes of its quad do. -/
theorem State.laneTarget_of_laneRegs {u : State} {l k : Nat} (hl : l < 16) (hk : k < 16) (h : Keeps (laneRegs l) s u) (hmode : u.mode = s.mode) :
    u.laneTarget k = s.laneTarget k := by
  have hplace : LANEQ_QCFG (k / 4) ∉ laneRegs l ∧ PMU_DOM (6 + k / 4) ∉ laneRegs l ∧ LANEQ_LCTRL k ∉ laneRegs l := by
    simp only [laneRegs, List.mem_cons, List.not_mem_nil, or_false, LANEQ_QCFG, PMU_DOM, LANEQ_LSTAT, LANEQ_QSTAT, LANEQ_LCTRL, LANEQ_EYE_STAT]
    omega
  obtain ⟨hcfg, hdom, hreq⟩ := hplace
  exact State.laneTarget_congr hk h hmode hcfg hdom hreq

/-- The lane holds the lock while lanes of its quad enter other states, and while it resumes itself. -/
theorem State.PllHeld.laneEnter (h : s.PllHeld n i) (hn : n < 4) (hi : i < 4) (hj : j < 4) {st : Nat} (hst : j = i → st = laneResuming) :
    (s.laneEnter (4 * n + j) st).PllHeld n i := by
  obtain ⟨hlock, hwanted, hup⟩ := h
  have hquad : (4 * n + j) / 4 = n := by omega
  obtain ⟨hown, -, hapart⟩ := lstat_apart (l := 4 * n + j) (k := 4 * n + i) (by omega) (by omega)
  have hentered : (s.laneEntered (4 * n + j) st).laneState (4 * n + i) = laneActive ∨
      (s.laneEntered (4 * n + j) st).laneState (4 * n + i) = laneResuming := by
    by_cases hji : j = i
    · subst hji
      rw [hst rfl, State.laneState, State.fld, State.laneEntered_lstat _ _ (by omega)]
      exact .inr (getF_lstatWord_state _ (by decide))
    · have hkept : (s.laneEntered (4 * n + j) st).laneState (4 * n + i) = s.laneState (4 * n + i) :=
        State.laneState_of_reg ((s.laneEntered_only _ st).keeps.lowReg (hapart (by omega)) (lstat_low (by omega)))
      rwa [hkept]
  obtain ⟨hsleep, hdisabled⟩ : (s.laneEntered (4 * n + j) st).laneState (4 * n + i) ≠ laneSleep ∧
      (s.laneEntered (4 * n + j) st).laneState (4 * n + i) ≠ laneDisabled := by
    rcases hentered with h | h <;> rw [h] <;> decide
  have hjudged : (s.laneEnter (4 * n + j) st).laneState (4 * n + i) = (s.laneEntered (4 * n + j) st).laneState (4 * n + i) := by
    rw [State.laneEnter_eq]
    exact State.laneState_of_reg ((State.judgeQuadPll_keeps _ _).lowReg hown (lstat_low (by omega)))
  refine ⟨?_, (State.laneTarget_of_laneRegs (by omega) (by omega) (s.laneEnter_only _ st).keeps (s.laneEnter_mode _ st)).trans hwanted, hjudged ▸ hentered⟩
  rw [State.laneEnter_eq, hquad, State.judgeQuadPll_lock _ n hi hsleep hdisabled, State.bit, State.laneEntered_quad _ _ _ (by omega) hn]
  exact hlock

theorem State.PllHeld.modLane (h : s.PllHeld n i) (k : Nat) (f : Lane → Lane) : (s.modLane k f).PllHeld n i := ⟨h.lock, h.wanted, h.up⟩

theorem State.PllHeld.laneStart (h : s.PllHeld n i) (hn : n < 4) (hi : i < 4) (hj : j < 4) {st : Nat} (hst : j = i → st = laneResuming) :
    (s.laneStart (4 * n + j) st).PllHeld n i := (h.modLane ..).laneEnter hn hi hj hst

theorem State.PllHeld.laneForget (h : s.PllHeld n i) (hn : n < 4) (hi : i < 4) {k : Nat} (hk : k < 16) : (s.laneForget k).PllHeld n i := by
  obtain ⟨hlock, hwanted, hup⟩ := h
  have hplace : LANEQ_QSTAT n ≠ LANEQ_LSTAT k := by
    simp only [LANEQ_LSTAT, LANEQ_QSTAT]
    omega
  have hstate : (s.laneForget k).laneState (4 * n + i) = s.laneState (4 * n + i) := by
    by_cases hki : 4 * n + i = k
    · rw [hki]
      exact s.laneForget_state k
    · have hstat : LANEQ_LSTAT (4 * n + i) ≠ LANEQ_LSTAT k := by
        simp only [LANEQ_LSTAT]
        omega
      exact State.laneState_of_reg (State.reg_setReg_ne _ _ hstat)
  refine ⟨?_, (State.laneTarget_of_laneRegs (by omega) (by omega) (s.laneForget_keeps k) (s.laneForget_mode k)).trans hwanted, hstate ▸ hup⟩
  exact (congrArg (bitF · LANEQ_QSTAT_PLL_LOCK) (State.reg_setReg_ne _ _ hplace)).trans hlock

/-- The lane holds the lock whatever lanes of its quad do as the PLL is back. -/
theorem State.PllHeld.pllBack (h : s.PllHeld n i) (hn : n < 4) (hi : i < 4) (hj : j < 4) : (s.pllBack (4 * n + j)).PllHeld n i := by
  have hfree := h.modLane (4 * n + j) fun x => { x with lost := false }
  unfold State.pllBack
  dsimp only
  split
  · exact hfree.laneStart hn hi hj fun _ => rfl
  · by_cases hji : j = i
    · subst hji
      rwa [hfree.laneGo_eq hi]
    · exact State.laneGo_closed _ (P := State.PllHeld n i) (fun _ h => h.laneForget hn hi (by omega)) (fun _ _ h => h.laneEnter hn hi hj (absurd · hji))
        (fun _ _ h => h.laneStart hn hi hj (absurd · hji)) hfree
end

/-! ### All lanes of a quad -/

/-- A step of the list's element `x` is reached with `P`, and `Q`, that it makes, lasts, when the steps of its other elements keep both. -/
theorem State.each_visit_mem {α : Type} {P Q : State → Prop} {f : State → α → State} {l : List α} {x : α} {s : State} (hnodup : l.Nodup) (hx : x ∈ l)
    (hP : ∀ u, ∀ y ∈ l, y ≠ x → P u → P (f u y)) (hPQ : ∀ u, P u → Q (f u x)) (hQ : ∀ u, ∀ y ∈ l, y ≠ x → Q u → Q (f u y)) (hs : P s) :
    Q (s.each l f) := by
  obtain ⟨l₁, l₂, rfl⟩ := List.append_of_mem hx
  obtain ⟨-, hnodup₂, hdisjoint⟩ := List.nodup_append.1 hnodup
  obtain ⟨hx₂, -⟩ := List.nodup_cons.1 hnodup₂
  have hbefore : P (s.each l₁ f) :=
    State.each_keeps_mem (fun u y hy => hP u y (by simp [hy]) (hdisjoint y hy x (by simp))) hs
  have hafter : Q ((f (s.each l₁ f) x).each l₂ f) :=
    State.each_keeps_mem (fun u y hy => hQ u y (by simp [hy]) fun h => hx₂ (h ▸ hy)) (hPQ _ hbefore)
  rwa [State.each, List.foldl_append]

/-- Every lane whose state is ACTIVE as its PLL is lost holds that. -/
theorem laneqPllLockChange_lost {s : State} {n : Fin 4} (hon : s.bit (LANEQ_QSTAT n) LANEQ_QSTAT_PLL_ON = true) :
    Answers (.laneqPllLockChange n false) s fun u => u.bit (LANEQ_QSTAT n) LANEQ_QSTAT_PLL_LOCK = false ∧
      ∀ i < 4, s.laneState (4 * n + i) = laneActive → (u.lane (4 * n + i)).lost = true := by
  have hquad : 0x40000 ≤ LANEQ_QSTAT n ∧ LANEQ_QSTAT n < 0x50000 := by
    simp only [LANEQ_QSTAT]
    omega
  obtain ⟨hlo, hhi⟩ := hquad
  refine .of_unsettled (exec_laneqPllLockChange ..) (fun _ _ _ => rfl) ?_
  rw [s.quadPllLock_lost n hon]
  refine ⟨?_, fun i hi hactive => ?_⟩
  · rw [State.bit, State.lanesSettle_reg _ hlo hhi]
    exact State.each_keeps (P := fun u => u.bit (LANEQ_QSTAT n) LANEQ_QSTAT_PLL_LOCK = false)
      (fun u i hu => (congrArg (bitF · LANEQ_QSTAT_PLL_LOCK) (u.reg_pllLost ..)).trans hu) _ (s.pllTold_lock n false)
  · rw [State.lanesSettle_lost]
    refine State.each_visit_mem (P := fun u => u.laneState (4 * n + i) = laneActive) (Q := fun u => (u.lane (4 * n + i)).lost = true) (x := i)
      (by decide) (mem_quads.2 hi) (fun u y _ _ hu => ?_) (fun u hu => u.pllLost_active hu) (fun u y _ _ hu => u.pllLost_lost hu) ?_
    · exact (State.laneState_of_reg (u.reg_pllLost ..)).trans hu
    · exact (State.laneState_of_reg (s.pllTold_lstat n false n.2 (by omega))).trans hactive

/-- Every ACTIVE lane that lost its PLL resumes when it is back, under a lock that a lane wanted ACTIVE holds. -/
theorem laneqPllLockChange_back {s : State} {n : Fin 4} (hon : s.bit (LANEQ_QSTAT n) LANEQ_QSTAT_PLL_ON = true)
    (hheld : ∃ i < 4, s.laneState (4 * n + i) = laneActive ∧ s.laneTarget (4 * n + i) = laneActive) :
    Answers (.laneqPllLockChange n true) s fun u => u.bit (LANEQ_QSTAT n) LANEQ_QSTAT_PLL_LOCK = true ∧
      ∀ i < 4, s.laneState (4 * n + i) = laneActive → (s.lane (4 * n + i)).lost = true → u.laneState (4 * n + i) = laneResuming := by
  have hquad : 0x40000 ≤ LANEQ_QSTAT n ∧ LANEQ_QSTAT n < 0x50000 := by
    simp only [LANEQ_QSTAT]
    omega
  obtain ⟨hlo, hhi⟩ := hquad
  have htold : ∀ i < 4, (s.pllTold n true).laneState (4 * n + i) = s.laneState (4 * n + i) := fun i hi =>
    State.laneState_of_reg (s.pllTold_lstat n true n.2 (by omega))
  refine .of_unsettled (exec_laneqPllLockChange ..) (fun _ _ _ => rfl) ?_
  rw [s.quadPllLock_back n hon]
  refine ⟨?_, fun i hi hactive hlost => ?_⟩
  · obtain ⟨i, hi, hactive, hwanted⟩ := hheld
    have hstart : (s.pllTold n true).PllHeld n i := by
      refine ⟨s.pllTold_lock n true, ?_, .inl ((htold i hi).trans hactive)⟩
      have hkeeps : Keeps (laneRegs (4 * n + i)) s (s.pllTold n true) := by
        refine (s.pllTold_keeps n true).mono fun a ha => ?_
        have hn : (4 * (n : Nat) + i) / 4 = n := by omega
        have hmem := qstat_mem_laneRegs (4 * (n : Nat) + i)
        rw [hn] at hmem
        rwa [List.mem_singleton.1 ha]
      exact (State.laneTarget_of_laneRegs (by omega) (by omega) hkeeps (State.setBit_mode ..)).trans hwanted
    rw [State.bit, State.lanesSettle_reg _ hlo hhi]
    exact (State.each_keeps_mem (P := State.PllHeld n i) (fun u j hj hu => hu.pllBack n.2 hi (mem_quads.1 hj)) hstart).lock
  · obtain ⟨hstatlo, hstathi⟩ := lstat_in_laneq ⟨4 * n + i, by omega⟩
    rw [State.laneState_of_reg (State.lanesSettle_reg _ hstatlo hstathi)]
    refine State.each_visit_mem (P := fun u => u.laneState (4 * n + i) = laneActive ∧ (u.lane (4 * n + i)).lost = true)
      (Q := fun u => u.laneState (4 * n + i) = laneResuming) (x := i) (by decide) (mem_quads.2 hi) (fun u j hj hji hu => ?_)
      (fun u hu => u.pllBack_resumes (by omega) hu.1 hu.2) (fun u j hj hji hu => ?_) ⟨(htold i hi).trans hactive, hlost⟩
    all_goals have hj := mem_quads.1 hj
    · exact ⟨(u.pllBack_lstat (by omega) (by omega) (by omega)).trans hu.1, (u.pllBack_lost (by omega)).trans hu.2⟩
    · exact (u.pllBack_lstat (by omega) (by omega) (by omega)).trans hu

/-! ### The statement -/

/-- Settles O28: each command of the lanes in its own theorem; what is wanted of a lane is `laneWant`, and where it goes `laneNext`. -/
theorem serialLanes : Obligations.SerialLanes := by
  intro s l w
  refine ⟨fun hans _ => ⟨laneReq_moves hans, exec_laneReqWrite_full, laneFullAdapt_moves hans⟩,
    fun fom sig cdr errors heye hscan => ⟨fun hoff => exec_of_done (exec_laneEpoch ..) (State.laneEpoch_off hoff),
      laneEpoch_running heye hscan, fun hresuming hsig hcdr hlock hmin => ?_⟩,
    laneResumeTimeout_adapts, fun h => exec_of_done (exec_laneResumeTimeout ..) (State.laneResumeTimeout_other h),
    laneAdaptDone_ready, fun h => exec_of_done (exec_laneAdaptDone ..) (State.laneAdaptDone_other h),
    fun n => ⟨fun hoff locked => exec_of_done (exec_laneqPllLockChange ..) (s.quadPllLock_off n hoff locked),
      laneqPllLockChange_lost, laneqPllLockChange_back⟩⟩
  subst hsig hcdr
  exact laneEpoch_resumed heye hscan hresuming hlock hmin

end Sys2Proof.Machine
end
